-- ==== Sys2Proof/Word.lean ====
section
/-!
DEFINITION. The word types of the LX96 (spec 00, "Numbers, bits and bytes"): a byte, a window word of 8 bytes, a byte string.
-/

namespace Sys2Proof

/-- One byte. -/
abbrev Byte := BitVec 8

/-- A window word: 8 bytes, byte 0 in bits [7:0] (R5). -/
abbrev W64 := BitVec 64

/-- A byte string, lowest address first. -/
abbrev Bytes := List Byte

end Sys2Proof
end

