-- ==== Sys2Proof/Machine/Map.lean ====
section
/-!
DEFINITION. Sparse tables and byte memories: lists of (key, value) pairs with strictly rising keys, in one canonical form.
-/

namespace Sys2Proof.Machine

/-- A sparse table: (key, value) pairs, keys strictly rising. -/
abbrev Map (α : Type) := List (Nat × α)

/-- The value under key `k`, if the table lists one. -/
def mget {α : Type} : Map α → Nat → Option α
  | [], _ => none
  | (a, v) :: t, k => if a = k then some v else mget t k

/-- The value under key `k`, or `d`. -/
def mgetD {α : Type} (m : Map α) (k : Nat) (d : α) : α := (mget m k).getD d

/-- Puts `v` under key `k`, keeping the keys rising. -/
def mset {α : Type} : Map α → Nat → α → Map α
  | [], k, v => [(k, v)]
  | (a, w) :: t, k, v =>
    if k < a then (k, v) :: (a, w) :: t
    else if a = k then (k, v) :: t
    else (a, w) :: mset t k v

/-- Drops key `k`. -/
def mdel {α : Type} : Map α → Nat → Map α
  | [], _ => []
  | (a, w) :: t, k => if a = k then t else (a, w) :: mdel t k

/-- Whether key `k` is listed. -/
def mhas {α : Type} (m : Map α) (k : Nat) : Bool := (mget m k).isSome

/-- The keys, rising. -/
def mkeys {α : Type} (m : Map α) : List Nat := m.map (·.1)

/-- The values, in rising order of key. -/
def mvals {α : Type} (m : Map α) : List α := m.map (·.2)

/-- Applies `f` to every value. -/
def mmap {α β : Type} (f : α → β) (m : Map α) : Map β := m.map (fun p => (p.1, f p.2))

/-- Changes the value under `k`, starting from `d` when none is listed. -/
def mupd {α : Type} (m : Map α) (k : Nat) (d : α) (f : α → α) : Map α := mset m k (f (mgetD m k d))

/-- Changes the value under `k` when one is listed. -/
def malter {α : Type} (m : Map α) (k : Nat) (f : α → α) : Map α :=
  match mget m k with
  | some v => mset m k (f v)
  | none => m

/-- A byte memory: the (address, byte) pairs whose byte is not the one an unlisted address reads as. -/
abbrev Mem := Map Byte

/-- Reads one byte; an unlisted address reads as `d`. -/
def memRead (d : Byte) (m : Mem) (a : Nat) : Byte := mgetD m a d

/-- Writes one byte; writing what an unlisted address reads as removes the entry. -/
def memWrite (d : Byte) (m : Mem) (a : Nat) (b : Byte) : Mem :=
  if b = d then mdel m a else mset m a b

/-- Writes a byte string from address `a` upwards. -/
def memWriteBytes (d : Byte) (m : Mem) (a : Nat) : Bytes → Mem
  | [] => m
  | b :: bs => memWriteBytes d (memWrite d m a b) (a + 1) bs

/-- Reads `n` bytes from address `a` upwards. -/
def memReadBytes (d : Byte) (m : Mem) (a n : Nat) : Bytes :=
  (List.range n).map (fun i => memRead d m (a + i))

/-- Keys strictly rising. -/
def keysRising {α : Type} : Map α → Bool
  | [] => true
  | [_] => true
  | (a, _) :: (b, w) :: t => decide (a < b) && keysRising ((b, w) :: t)

/-- The canonical form of a byte memory: keys strictly rising, no entry equal to the unlisted value. -/
def memWf (d : Byte) (m : Mem) : Bool := keysRising m && m.all (fun p => p.2 != d)

end Sys2Proof.Machine
end

