-- ==== Sys2Proof/Machine/Types.lean ====
section
/-!
DEFINITION. The records that both commands and the state are made of: stream identities, Vitrine records, journal entries, operations that span frames, deltas, link frames.
-/

namespace Sys2Proof.Machine

/-- A stream identity (R89): gallery, module ID of the window's placement, function number of the window, stream number. -/
structure StreamId where
  gallery : Nat
  place : Nat
  fn : Nat
  stream : Nat
  deriving DecidableEq, Repr, Inhabited

/-- A Vitrine record (R171, Table 7-1). `material` holds MATERIAL with its continuation records (R172); `keyId` the IK or KS value the key arrived with, which the DUKPT functions use (R136) and Table 7-1 gives no place (log 19); in a curve record it holds FIELD_BITS, COFACTOR, RESULT and the failed-check mask (R159). -/
structure VRecord where
  kind : Nat
  useClass : Nat
  usage : Nat
  mode : Nat
  alg : Nat
  exportable : Nat
  dukpt : Bool
  finite : Bool
  keyType : Nat
  generation : Nat
  gallery : Nat
  slot : Nat
  accession : Nat
  budget : Nat
  uses : Nat
  parentDigest : Bytes
  parentGen : Nat
  parentSlot : Nat
  kcv : Bytes
  counter : Nat
  depth : Nat
  material : Bytes
  keyId : Bytes
  deriving DecidableEq, Repr, Inhabited

/-- An optional block of an X9.143 key block: its two-character ID and its data bytes. -/
structure OptBlock where
  id : Nat
  data : Bytes
  deriving DecidableEq, Repr, Inhabited

/-- A key as a cell holds it for one command (R86, R93 step 10, R184): the resolved attributes and the clear material. -/
structure HeldKey where
  vitrine : Bool
  slot : Nat
  useClass : Nat
  usage : Nat
  mode : Nat
  alg : Nat
  exportable : Nat
  version : Nat
  keyType : Nat
  finite : Bool
  dukpt : Bool
  material : Bytes
  digest : Bytes
  generation : Nat
  depth : Nat
  counter : Nat
  opts : List OptBlock
  entry : Nat
  deriving DecidableEq, Repr, Inhabited

/-- A response in staging: STATUS, the function-specific flags and the payload (R87, R88). -/
structure Resp where
  status : Nat
  fnFlags : Nat
  payload : Bytes
  deriving DecidableEq, Repr, Inhabited

/-- A result-journal entry (R100). `superseded` is the mark of R302; `acked` is whether the response is acknowledged (R102, log 146); `flags` are FLAGS bits 7:0 of the response header; `at_` is the unit of the gallery's journal that it begins at; `ackedThere` is whether the partner's response is acknowledged there. -/
structure JournalEntry where
  sid : StreamId
  seq : Nat
  function : Nat
  digest : Nat
  status : Nat
  fnFlags : Nat
  payload : Bytes
  superseded : Bool
  acked : Bool
  damaged : Bool
  flags : Nat := 0
  at_ : Nat := 0
  ackedThere : Bool := false
  deriving DecidableEq, Repr, Inhabited

/-- An open operation that spans frames (R151 to R154). `data` is the data absorbed so far, `idleAt` the idle timer's expiry time and `idleOrder` its place in the order of insertion (R259). -/
structure SpanOp where
  opId : Nat
  function : Nat
  sid : StreamId
  nextIndex : Nat
  param : Nat
  macLen : Nat
  verify : Bool
  key : Option HeldKey
  nonce : Bytes
  releaseKey : Bytes
  aad : Bytes
  data : Bytes
  dataLen : Nat
  idleAt : Option Nat
  idleOrder : Nat := 0
  deriving DecidableEq, Repr, Inhabited

/-- The fields of a gallery descriptor (R37, Table 2-2). -/
structure Descriptor where
  id : Nat
  privileges : Nat
  wakeTol : Nat
  reach : Nat
  cmdRate : Nat
  cmdBurst : Nat
  pkRate : Nat
  pkBurst : Nat
  stagingKib : Nat
  flows : Nat
  cacheShare : Nat
  slots : Nat
  loans : Nat
  prioCeiling : Nat
  epoch : Nat
  home : Nat
  partner : Nat
  deriving DecidableEq, Repr, Inhabited

/-- The counts of one meter record being built (R53, Table 2-6). -/
structure MeterCounts where
  billed : Map Nat
  refused : Nat
  pkOps : Nat
  pkMicros : Nat
  bytesIn : Nat
  bytesOut : Nat
  entryTicks : Nat
  deriving DecidableEq, Repr, Inhabited

/-- A meter record (R53, Table 2-6): its gallery, its number and its 256 bytes. -/
structure MeterRecord where
  gallery : Nat
  number : Nat
  bytes : Bytes
  deriving DecidableEq, Repr, Inhabited

/-- What the checks at a window answer a commit with: the status, whether the response carries no seal tag (R73), and for QUOTA_EXCEEDED the bit of WIN_EVENT_CAUSE that latches (R66, Table 3-12). -/
structure Answer where
  status : Nat
  unsealed : Bool := false
  cause : Nat := 0
  deriving DecidableEq, Repr, Inhabited

/-- A quota, gap or deadline verdict of the originating member (R47, R91, R94): taken there under a key-state generation (log 151), answered with a status, or refused for a quota, whose cause bit it names. -/
inductive Verdict where
  | accept (keyGen : Nat)
  | answer (status : Nat)
  | quota (cause : Nat)
  deriving DecidableEq, Repr, Inhabited

/-- The content of a FORWARD frame (R248, R309, log 148): the stream is enabled at its window, with the handle of its seal key if it is sealed; a command takes its number there, with what its window's checks answered if they did; or the stream's ACTIVE has returned to 0. -/
inductive Forwarded where
  | opens (base : Nat) (sealKey : Option Nat)
  | command (frame : Bytes) (answer : Option Answer)
  | closes
  deriving DecidableEq, Repr, Inhabited

/-- What a home answers the enable of a stream at another module's window (R63, R72, R248, log 154): refused, or accepted, a sealed stream with its SEAL_EPOCH, its command key and its response key. -/
inductive OpenReply where
  | refused
  | accepted (sealKey : Option (Nat × Bytes × Bytes))
  deriving DecidableEq, Repr, Inhabited

/-- What a response that returns to the module that forwarded its command carries beside it: FLAGS of its header, for QUOTA_EXCEEDED the bit of WIN_EVENT_CAUSE that latches, and whether it goes out without a seal tag (R73, R88, R309, Table 3-12); in place of a command's response, the answer to an enable. -/
structure FarFlags where
  flags : Nat
  cause : Nat
  unsealed : Bool := false
  opened : Option OpenReply := none
  deriving DecidableEq, Repr, Inhabited

/-- One change a delta carries (R291). -/
inductive Change where
  | response (sid : StreamId) (seq : Nat) (r : Resp)
  | journal (e : JournalEntry)
  | vrecord (gallery slot : Nat) (r : Option VRecord)
  | accession (gallery value : Nat)
  | fence (gallery keyGen : Nat) (splits : List (StreamId × Nat))
  | nonce (value : Bytes)
  | spanOp (gallery opId : Nat) (o : Option SpanOp)
  | verdict (sid : StreamId) (seq : Nat) (v : Verdict)
  | mark (gallery minute occupancy : Nat) (marks : List (StreamId × Nat))
  | sealEpoch (gallery stream value : Nat)
  | gallery (id : Nat) (d : Option Descriptor) (inst : Nat) (rootKey : Bytes)
  | rights (gallery target byte : Nat)
  | vfRow (vf : Nat) (row : List Nat)
  | meterAck (gallery number : Nat)
  | bind (fn : Nat) (gallery : Option Nat) (far : Option Descriptor)
  | migration (gallery : Nat) (target : Option (Nat × Nat)) (cuts : Option (List (StreamId × Nat)))
  | loan (gallery module : Nat) (partner : Option Nat)
  | creation (value : Nat)
  deriving DecidableEq, Repr, Inhabited

/-- A numbered delta (R291). -/
structure Delta where
  number : Nat
  changes : List Change
  deriving DecidableEq, Repr, Inhabited

/-- The header of a received link frame, with the port it arrived on and whether its GCM tag verified (R306, Table 12-4). -/
structure LinkHdr where
  port : Nat
  counter : Nat
  src : Nat
  dst : Nat
  hops : Nat
  gallery : Nat
  ref : Nat
  tagOk : Bool
  deriving DecidableEq, Repr, Inhabited

/-- The content of a HELLO frame (R305). -/
structure Hello where
  moduleId : Nat
  serial : Nat
  identity : Bytes
  certificate : Bytes
  ephemeral : Bytes
  pairDigest : Bytes
  deriving DecidableEq, Repr, Inhabited

/-- The content of a POSITION frame: a notice, an acknowledgement or a verdict of the originating member (R288); and what else one member must know of a stream of the other (log 183): a journaled response was acknowledged there (R102), a sealed stream is active there under an epoch, or no longer (R290), every loan has a command's fence (R292). -/
inductive Position where
  | notice (sid : StreamId) (seq digest : Nat)
  | ack (sid : StreamId) (seq : Nat)
  | verdict (sid : StreamId) (seq : Nat) (v : Verdict)
  | hostAck (sid : StreamId) (seq : Nat)
  | seals (sid : StreamId) (epoch : Nat) (live : Bool)
  | loansDone (sid : StreamId) (seq : Nat)
  deriving DecidableEq, Repr, Inhabited

/-- Gallery state that a copy carries: resynchronisation (R302), migration (R310) or loan (R314). -/
inductive CopyItem where
  | begin (term deltaNumber : Nat) (lost : Bool)
  | header (d : Descriptor) (inst accession : Nat) (rootKey : Bytes) (rights : List Nat) (sealEpochs : Map Nat) (keyGen loanSeq : Nat) (old : Option (Nat × Nat))
  | vrecord (gallery slot : Nat) (r : Option VRecord)
  | journal (gallery : Nat) (e : JournalEntry)
  | spanOp (gallery : Nat) (o : SpanOp)
  | stream (sid : StreamId) (next release : Nat)
  | cut (sid : StreamId) (s : Nat)
  | meter (gallery nextNumber : Nat)
  | result (e : JournalEntry)
  | delta (d : Delta)
  deriving DecidableEq, Repr, Inhabited

/-- What a link frame this module sends carries (R306, Table 12-5). -/
inductive FrameBody where
  | hello (h : Hello)
  | keyConfirm (signature : Bytes)
  | idle
  | probe
  | echo
  | withdraw
  | position (p : Position)
  | crossfeed (sid : StreamId) (frame : Bytes)
  | delta (d : Delta)
  | deltaAck (number : Nat)
  | loanDelta (gallery : Nat) (d : Delta)
  | loanAck (gallery number : Nat)
  | currency (gallery number : Nat)
  | forward (sid : StreamId) (body : Forwarded)
  | forwardRsp (sid : StreamId) (seq : Nat) (r : Resp) (far : FarFlags)
  | resyncData (c : CopyItem)
  | resyncEnd
  | stateData (c : CopyItem)
  | stateEnd (gallery : Nat)
  deriving DecidableEq, Repr, Inhabited

/-- A link frame sent: port, credit class, destination module, frame counter, content, and the bytes on the wire (R306). -/
structure SentFrame where
  port : Nat
  cls : Nat
  dst : Nat
  counter : Nat
  body : FrameBody
  /-- SRC and HOPS of a frame that is passed on; a frame of this module's own has its module ID and 0 -/
  relayed : Option (Nat × Nat) := none
  /-- the payload is encrypted a second time, for the destination alone (R307) -/
  endToEnd : Bool := false
  /-- the 32-byte header, authenticated and in clear, then the encrypted payload and the 16-byte tag (R306) -/
  wire : Bytes := []
  deriving DecidableEq, Repr, Inhabited

/-- The command register's Bus Master Enable and the power state of a PCIe function, as a configuration write leaves them (R56, R57). -/
structure PcieCommand where
  busMaster : Bool
  d3hot : Bool
  deriving DecidableEq, Repr, Inhabited

/-- A cell that runs GALLERY_BIND, and the descriptor that the home of a gallery homed elsewhere gives, none where nothing answers (log 180). -/
structure BindCell where
  cell : Fin 128
  far : Option Descriptor
  deriving DecidableEq, Repr, Inhabited

/-- A cell that runs GALLERY_REMOVE, and whether a window of another module of the span is bound to the gallery (log 103). -/
structure RemoveCell where
  cell : Fin 128
  elsewhere : Bool
  deriving DecidableEq, Repr, Inhabited

/-- What reading back a staged or stored firmware slot finds (R412): the header's two versions and whether both signatures verify. -/
structure FwImage where
  version : Nat
  security : Nat
  ecdsaOk : Bool
  mldsaOk : Bool
  digest : Bytes
  deriving DecidableEq, Repr, Inhabited

/-- A management message's answer: the protocol's completion code (0 is success) and the response data. -/
structure MgmtReply where
  code : Nat
  data : Bytes
  deriving DecidableEq, Repr, Inhabited

/-- What one sampling finds at a sensor (R403, Table 17-10). -/
structure SensorReading where
  value : Int
  valid : Bool
  warn : Bool
  crit : Bool
  deriving DecidableEq, Repr, Inhabited

/-- What the steps of START find in the hardware (Table 15-1): the part of their outcome that no earlier command decides. -/
structure StartEnv where
  /-- step 1: the redundant fuse rows agree (error 0x41 otherwise) -/
  fusesAgree : Bool
  /-- before step 1 in RETURNED: the erased user regions verify blank (R353) -/
  wipeBlank : Bool
  /-- step 2: the PLLs lock -/
  pllLock : Bool
  /-- step 3: span lanes excluded, lane l of port p as 4p + l -/
  badLanes : List Nat
  /-- step 4: GDDR6 training passes -/
  gddrOk : Bool
  /-- step 5: wings whose SRAM fails its read-back -/
  badWings : List Nat
  /-- step 6: records (gallery, slot) with an uncorrectable line -/
  badRecords : List (Nat × Nat)
  /-- step 7: lines of the Vitrine region that hold something else than the module last wrote: line number, ciphertext -/
  altered : List (Nat × Bytes)
  /-- step 9: bit t, test t of Table 14-7 passed -/
  fieldPass : BitVec 8
  /-- step 9: span lanes that fail test 1, numbered as `badLanes` -/
  failLanes : List Nat
  /-- step 9: temperature sites that agree -/
  sites : Nat
  /-- step 9: test 6 passed when run again -/
  noiseAgain : Bool
  /-- step 9: duration in ms -/
  fieldMs : Nat
  /-- step 10: the known-answer tests of the compressors and of CTR_DRBG pass -/
  katOk : Bool
  /-- step 10: start-up samples in which a test fails, in order, with their source -/
  startFails : List (Nat × List Bool)
  /-- step 10: sources whose start-up samples then pass -/
  passed : List Nat
  /-- step 10: the samples of the blocks that the sources deliver, in order -/
  blocks : List (BitVec 1024)
  /-- duration of this START up to its close, in ms -/
  ms : Nat
  deriving DecidableEq, Repr, Inhabited

end Sys2Proof.Machine
end

