-- ==== Sys2Proof/Syntax.lean ====
section
/-!
DEFINITION. The commands of the block: one constructor for each row of the opcode table, with the row's operands.
-/

namespace Sys2Proof

open Sys2Proof.Machine

/-- A command. Each constructor's comment gives its row of the table, the row's rule and what its operands are. -/
inductive Instr where
  /-- BAR_WRITE (R58): a memory write of `data` at byte `off` of the function's BAR. -/
  | barWrite (fn : Fin 1025) (off : Nat) (data : Bytes) (poisoned : Bool)
  /-- SUBMIT_SLOT_WRITE (R65): a memory write at byte `off` of a submit slot. -/
  | submitSlotWrite (fn : Fin 1025) (stream : Fin 16) (slot : Fin 8) (off : Nat) (data : Bytes) (poisoned : Bool)
  /-- LARGE_FRAME_PORT_WRITE (R67): a memory write at byte `off` of a large-frame submit port. -/
  | largeFramePortWrite (fn : Fin 1025) (stream : Fin 16) (off : Nat) (data : Bytes) (poisoned : Bool)
  /-- RESPONSE_AREA_READ (R62): a memory read of `len` bytes at byte `off` of a stream's 4 KiB of response slots, or of its response port. -/
  | responseAreaRead (fn : Fin 1025) (stream : Fin 16) (port : Bool) (off len : Nat)
  /-- COMMIT (R66): a WIN_COMMIT write with LARGE 0. -/
  | commit (fn : Fin 1025) (stream : Fin 16) (slot : Fin 8)
  /-- LARGE_COMMIT (R68): a WIN_COMMIT write with LARGE 1. -/
  | largeCommit (fn : Fin 1025) (stream : Fin 16) (slot : Fin 8)
  /-- SLOT_COPY_DONE (R65): the copy of a slot ends. -/
  | slotCopyDone (fn : Fin 1025) (stream : Fin 16) (slot : Fin 8)
  /-- LARGE_FRAME_COPY_DONE (R68): the copy of a large frame ends. -/
  | largeFrameCopyDone (fn : Fin 1025) (stream : Fin 16)
  /-- STREAM_ENABLE (R63): a WIN_STREAM_CTL write with ENABLE 1 and SEALED as given. -/
  | streamEnable (fn : Fin 1025) (stream : Fin 16) (sealed : Bool)
  /-- STREAM_DISABLE (R64): a WIN_STREAM_CTL write with ENABLE 0 and SEALED as given. -/
  | streamDisable (fn : Fin 1025) (stream : Fin 16) (sealed : Bool)
  /-- STREAM_DRAINED (R64): a draining stream has nothing left. -/
  | streamDrained (fn : Fin 1025) (stream : Fin 16)
  /-- WIN_RESP_ACK (R71): a WIN_RESP_ACK write. -/
  | winRespAck (fn : Fin 1025) (stream : Fin 16) (value : W64)
  /-- WIN_EVENT_MASK_WRITE (R75): a WIN_EVENT_MASK write. -/
  | winEventMaskWrite (fn : Fin 1025) (value : W64)
  /-- WIN_MEV_MASK_WRITE (R76): a WIN_MEV_MASKk write. -/
  | winMevMaskWrite (k : Fin 4) (value : W64)
  /-- MSIX_TABLE_WRITE (R57): a write of the address half or of the data and control half (`upper`) of an MSI-X table entry. -/
  | msixTableWrite (fn : Fin 1025) (vector : Fin 256) (upper : Bool) (value : W64)
  /-- PCIE_CONFIG_WRITE (R57): a configuration write that leaves these bits and the power state so. -/
  | pcieConfigWrite (fn : Fin 1025) (command : PcieCommand) (msixEnable fnMask : Bool)
  /-- HOLDOFF_EXPIRY (R75): HOLDOFF has passed since the first unsignalled publication. -/
  | holdoffExpiry (fn : Fin 1025)
  /-- FUNCTION_LEVEL_RESET (R79): a function-level reset. -/
  | functionLevelReset (fn : Fin 1025)
  /-- FUNCTION_LEVEL_RESET_DONE (R79): the reset completes. -/
  | functionLevelResetDone (fn : Fin 1025)
  /-- PERST_ASSERT (R80): PERST_N has been low for `lowNs`. -/
  | perstAssert (lowNs : Nat)
  /-- PERST_DEASSERT (R360): PERST_N goes high. -/
  | perstDeassert
  /-- PWRON_RESET_ASSERT (R366): PWRON_RESET_N has been low for `lowNs`. -/
  | pwronResetAssert (lowNs : Nat)
  /-- PWRON_RESET_DEASSERT (R360): PWRON_RESET_N goes high. -/
  | pwronResetDeassert
  /-- PCIE_LINK_DOWN (R80): the link goes down without PERST_N. -/
  | pcieLinkDown
  /-- START (R361): START runs from the step it stands at up to step `upTo`, 11 to 18 being the stages of the close and 19 READY, with what the steps find. -/
  | start (upTo : Fin 20) (env : StartEnv)
  /-- DOC_TAKE (R255): a cell reads DOC_TAKE. -/
  | docTake (cell : Fin 128)
  /-- TAKE_TIMEOUT (R255): the take time-out of a stalled read. -/
  | takeTimeout (cell : Fin 128)
  /-- DOC_DONE_COMPLETE (R256): DOC_DONE, ACTION 0. -/
  | docDoneComplete (cell : Fin 128) (ticket : Fin 65536)
  /-- DOC_DONE_PARK (R258): DOC_DONE, ACTION 1. -/
  | docDonePark (cell : Fin 128) (ticket : Fin 65536) (wait : Fin 8) (object : Fin 65536)
  /-- DOC_DONE_RETRY (R256): DOC_DONE, ACTION 2. -/
  | docDoneRetry (cell : Fin 128) (ticket : Fin 65536)
  /-- PARK_SIGNAL (R258): a park object signals. -/
  | parkSignal (wait : Fin 8) (object : Fin 65536)
  /-- RESPONSE_RELEASE (R263): the release test of a flow. -/
  | responseRelease (flow : Fin 65536)
  /-- RESPONSE_PUBLISH (R69): publication of a stream's oldest released response. -/
  | responsePublish (fn : Fin 1025) (stream : Fin 16)
  /-- TICK_BOUNDARY (R259): the next Docent tick boundary. -/
  | tickBoundary
  /-- MODE_AND_QUOTA_CHANGES (R260): order 1 of a boundary. -/
  | modeAndQuotaChanges
  /-- TOKEN_REFILL (R45): order 2 of a boundary. -/
  | tokenRefill
  /-- GAP_TIME_OUT (R91): order 3 of a boundary, for one flow. -/
  | gapTimeOut (flow : Fin 65536)
  /-- DEADLINE (R257): order 4 of a boundary, for one command. -/
  | deadline (ticket : Fin 65536)
  /-- OPERATION_IDLE_TIME_OUT (R152): order 5 of a boundary, for one operation. -/
  | operationIdleTimeOut (gallery opId : Nat)
  /-- UNBIND_DRAIN_TIME_OUT (R38): order 6 of a boundary, for one window. -/
  | unbindDrainTimeOut (fn : Fin 1025)
  /-- UNBIND_COMPLETE (R38): everything committed before an unbind is released and acknowledged. -/
  | unbindComplete (fn : Fin 1025)
  /-- TICK_US_WRITE (R259): a DOC_TICK write. -/
  | tickUsWrite (value : W64)
  /-- HIST_CLEAR (R266): a DOC_HIST_CTL write with CLEAR 1. -/
  | histClear
  /-- PIN_TRANSLATE (R119): the command the cell holds. -/
  | pinTranslate (cell : Fin 128)
  /-- PIN_CALC (R123): the command the cell holds. -/
  | pinCalc (cell : Fin 128)
  /-- PIN_VERIFY (R123): the command the cell holds. -/
  | pinVerify (cell : Fin 128)
  /-- PIN_GENERATE (R126): the command the cell holds. -/
  | pinGenerate (cell : Fin 128)
  /-- PIN_TRY_SET (R125): the command the cell holds. -/
  | pinTrySet (cell : Fin 128)
  /-- CVV_GENERATE (R127): the command the cell holds. -/
  | cvvGenerate (cell : Fin 128)
  /-- CVV_VERIFY (R127): the command the cell holds. -/
  | cvvVerify (cell : Fin 128)
  /-- ARQC_VERIFY (R129): the command the cell holds. -/
  | arqcVerify (cell : Fin 128)
  /-- SCRIPT_MAC (R130): the command the cell holds. -/
  | scriptMac (cell : Fin 128)
  /-- SCRIPT_ENCRYPT (R131): the command the cell holds. -/
  | scriptEncrypt (cell : Fin 128)
  /-- DUKPT_PIN_TRANSLATE (R133): the command the cell holds. -/
  | dukptPinTranslate (cell : Fin 128)
  /-- DUKPT_DECRYPT (R133): the command the cell holds. -/
  | dukptDecrypt (cell : Fin 128)
  /-- DUKPT_MAC_VERIFY (R133): the command the cell holds. -/
  | dukptMacVerify (cell : Fin 128)
  /-- DUKPT_INITIAL_KEY_EXPORT (R133): the command the cell holds. -/
  | dukptInitialKeyExport (cell : Fin 128)
  /-- DUKPT_ORIGINATE (R134): the command the cell holds. -/
  | dukptOriginate (cell : Fin 128)
  /-- MAC_GENERATE (R135): the command the cell holds. -/
  | macGenerate (cell : Fin 128)
  /-- MAC_VERIFY (R135): the command the cell holds. -/
  | macVerify (cell : Fin 128)
  /-- KEYBLOCK_IMPORT (R137): the command the cell holds. -/
  | keyblockImport (cell : Fin 128)
  /-- KEYBLOCK_EXPORT (R138): the command the cell holds. -/
  | keyblockExport (cell : Fin 128)
  /-- RKL_EXPORT (R139): the command the cell holds. -/
  | rklExport (cell : Fin 128)
  /-- DATA_ENCRYPT (R140): the command the cell holds. -/
  | dataEncrypt (cell : Fin 128)
  /-- DATA_DECRYPT (R140): the command the cell holds. -/
  | dataDecrypt (cell : Fin 128)
  /-- FF1_ENCRYPT (R141): the command the cell holds. -/
  | ff1Encrypt (cell : Fin 128)
  /-- FF1_DECRYPT (R141): the command the cell holds. -/
  | ff1Decrypt (cell : Fin 128)
  /-- CIPHER_ENCRYPT (R147): the command the cell holds. -/
  | cipherEncrypt (cell : Fin 128)
  /-- CIPHER_DECRYPT (R147): the command the cell holds. -/
  | cipherDecrypt (cell : Fin 128)
  /-- AEAD_SEAL (R148): the command the cell holds. -/
  | aeadSeal (cell : Fin 128)
  /-- AEAD_OPEN (R149): the command the cell holds. -/
  | aeadOpen (cell : Fin 128)
  /-- AEAD_SEAL_CHUNKED (R152): the command the cell holds. -/
  | aeadSealChunked (cell : Fin 128)
  /-- AEAD_OPEN_ESCROWED (R154): the command the cell holds. -/
  | aeadOpenEscrowed (cell : Fin 128)
  /-- HASH (R155): the command the cell holds. -/
  | hash (cell : Fin 128)
  /-- HMAC_GENERATE (R156): the command the cell holds. -/
  | hmacGenerate (cell : Fin 128)
  /-- HMAC_VERIFY (R156): the command the cell holds. -/
  | hmacVerify (cell : Fin 128)
  /-- KDF (R157): the command the cell holds. -/
  | kdf (cell : Fin 128)
  /-- HASH_CHUNKED (R152): the command the cell holds. -/
  | hashChunked (cell : Fin 128)
  /-- HMAC_CHUNKED (R152): the command the cell holds. -/
  | hmacChunked (cell : Fin 128)
  /-- ECDSA_SIGN (R160): the command the cell holds. -/
  | ecdsaSign (cell : Fin 128)
  /-- ECDSA_VERIFY (R161): the command the cell holds. -/
  | ecdsaVerify (cell : Fin 128)
  /-- EDDSA_SIGN (R160): the command the cell holds. -/
  | eddsaSign (cell : Fin 128)
  /-- EDDSA_VERIFY (R161): the command the cell holds. -/
  | eddsaVerify (cell : Fin 128)
  /-- RSA_SIGN (R160): the command the cell holds. -/
  | rsaSign (cell : Fin 128)
  /-- RSA_VERIFY (R161): the command the cell holds. -/
  | rsaVerify (cell : Fin 128)
  /-- MLDSA_SIGN (R160): the command the cell holds. -/
  | mldsaSign (cell : Fin 128)
  /-- MLDSA_VERIFY (R161): the command the cell holds. -/
  | mldsaVerify (cell : Fin 128)
  /-- ECDH (R163): the command the cell holds. -/
  | ecdh (cell : Fin 128)
  /-- ECDH_EPHEMERAL (R163): the command the cell holds. -/
  | ecdhEphemeral (cell : Fin 128)
  /-- MLKEM_ENCAPS (R163): the command the cell holds. -/
  | mlkemEncaps (cell : Fin 128)
  /-- MLKEM_DECAPS (R163): the command the cell holds. -/
  | mlkemDecaps (cell : Fin 128)
  /-- RSA_OAEP_DECRYPT (R163): the command the cell holds. -/
  | rsaOaepDecrypt (cell : Fin 128)
  /-- CURVE_LOAD (R159): the command the cell holds. -/
  | curveLoad (cell : Fin 128)
  /-- CURVE_QUERY (R159): the command the cell holds. -/
  | curveQuery (cell : Fin 128)
  /-- RANDOM_BYTES (R166): the command the cell holds. -/
  | randomBytes (cell : Fin 128)
  /-- ACCESSION (R192): the command the cell holds. -/
  | accession (cell : Fin 128)
  /-- DEACCESSION (R197): the command the cell holds. -/
  | deaccession (cell : Fin 128)
  /-- KEY_QUERY (R194): the command the cell holds. -/
  | keyQuery (cell : Fin 128)
  /-- ACCESSION_INFO (R193): the command the cell holds. -/
  | accessionInfo (cell : Fin 128)
  /-- GALLERY_CREATE (R36): the command the cell holds. -/
  | galleryCreate (cell : Fin 128)
  /-- GALLERY_BIND (R36): the command the cell holds. -/
  | galleryBind (call : BindCell)
  /-- GALLERY_UNBIND (R38): the command the cell holds. -/
  | galleryUnbind (cell : Fin 128)
  /-- GALLERY_REMOVE (R39): the command the cell holds. -/
  | galleryRemove (call : RemoveCell)
  /-- GALLERY_SET (R40): the command the cell holds. -/
  | gallerySet (cell : Fin 128)
  /-- GALLERY_RIGHTS (R43): the command the cell holds. -/
  | galleryRights (cell : Fin 128)
  /-- GALLERY_QUERY (R36): the command the cell holds. -/
  | galleryQuery (cell : Fin 128)
  /-- METER_READ (R36): the command the cell holds. -/
  | meterRead (cell : Fin 128)
  /-- METER_ACK (R54): the command the cell holds. -/
  | meterAck (cell : Fin 128)
  /-- MODE_SET (R368): the command the cell holds. -/
  | modeSet (cell : Fin 128)
  /-- CEREMONY_ACCESSION (R203): the command the cell holds. -/
  | ceremonyAccession (cell : Fin 128)
  /-- PAIR_SWAP (R315): the command the cell holds. -/
  | pairSwap (cell : Fin 128)
  /-- PAIR_TAKEOVER (R300): the command the cell holds. -/
  | pairTakeover (cell : Fin 128)
  /-- MIGRATE_BEGIN (R310): the command the cell holds; `destFull`: the destination reports R174 or R32 exceeded. -/
  | migrateBegin (cell : Fin 128) (destFull : Bool)
  /-- MIGRATE_CUT (R310): the command the cell holds. -/
  | migrateCut (cell : Fin 128)
  /-- MIGRATE_END (R310): the command the cell holds. -/
  | migrateEnd (cell : Fin 128)
  /-- MIGRATE_ABORT (R315): the command the cell holds. -/
  | migrateAbort (cell : Fin 128)
  /-- LOAN_CREATE (R314): the command the cell holds; `destFull`: the loan module reports R174 or R32 exceeded. -/
  | loanCreate (cell : Fin 128) (destFull : Bool)
  /-- LOAN_END (R315): the command the cell holds. -/
  | loanEnd (cell : Fin 128)
  /-- LCS_TRANSITION (R350): the command the cell holds. -/
  | lcsTransition (cell : Fin 128)
  /-- COUNTERS_READ (R428): the command the cell holds. -/
  | countersRead (cell : Fin 128)
  /-- CEN_CLAIM (R209): a CEN_LOCK write with CLAIM 1. -/
  | cenClaim (cell : Fin 128)
  /-- CEN_GRANT_READ (R209): a CEN_GRANT read. -/
  | cenGrantRead (cell : Fin 128)
  /-- CEN_RELEASE (R212): a CEN_LOCK write with RELEASE 1. -/
  | cenRelease (cell : Fin 128)
  /-- CEN_KEYLOAD (R213): a CEN_KEYLOAD write with STEP 0. -/
  | cenKeyload (cell : Fin 128) (entry : Fin 131072) (keyreg : Fin 4)
  /-- CEN_KEYLOAD_STEP (R214): a CEN_KEYLOAD write with STEP 1. -/
  | cenKeyloadStep (cell : Fin 128) (entry : Fin 131072) (keyreg : Fin 4)
  /-- CEN_OP (R208): a CEN_OP write, after the cell's own writes of the context words and stores into wing memory. -/
  | cenOp (cell : Fin 128) (word : W64) (ctx : Option (List W64)) (stores : List (Nat × Bytes))
  /-- CEN_OP_DONE (R208): the load or operation in a cipher engine completes. -/
  | cenOpDone (wing : Fin 16)
  /-- CEN_STATUS_READ (R207): a CEN_STATUS read. -/
  | cenStatusRead (cell : Fin 128)
  /-- CEN_NONCE_READ (R221): a CEN_NONCE read. -/
  | cenNonceRead (cell : Fin 128)
  /-- HSU_CLAIM (R225): an HSU_LOCK write with CLAIM 1. -/
  | hsuClaim (cell : Fin 128)
  /-- HSU_GRANT_READ (R225): an HSU_GRANT read. -/
  | hsuGrantRead (cell : Fin 128)
  /-- HSU_RELEASE (R225): an HSU_LOCK write with RELEASE 1. -/
  | hsuRelease (cell : Fin 128)
  /-- HSU_KEYLOAD (R225): an HSU_KEYLOAD write of one or two entries. -/
  | hsuKeyload (cell : Fin 128) (entry : Fin 131072) (two step : Bool)
  /-- HSU_OP (R225): an HSU_OP write, after the cell's own writes of the context words and stores into wing memory. -/
  | hsuOp (cell : Fin 128) (word : W64) (ctx : Option (List W64)) (stores : List (Nat × Bytes))
  /-- HSU_STATUS_READ (R225): an HSU_STATUS read. -/
  | hsuStatusRead (cell : Fin 128)
  /-- ENGINE_CLEAR_DONE (R212): the clear of an engine ends; `ok`: its read-back found zeros. -/
  | engineClearDone (wing : Fin 16) (hashUnit ok : Bool)
  /-- ENGINE_HOLD_OVERRUN (R211): a hold reaches cycle 4,801. -/
  | engineHoldOverrun (wing : Fin 16) (hashUnit : Bool)
  /-- ENGINE_FAULT_ALARM (R219): a parity or read-back alarm, or the mask generator's (`mask`). -/
  | engineFaultAlarm (wing : Fin 16) (hashUnit mask : Bool)
  /-- ENGINE_SELF_CHECK_DONE (R219): a self-check ends. -/
  | engineSelfCheckDone (wing : Fin 16) (hashUnit pass : Bool)
  /-- MASK_SEED_CHANGE (R216): block 65,536 of a mask seed. -/
  | maskSeedChange (wing : Fin 16)
  /-- SEED_REFILL_DONE (R216): the spare mask seed is loaded. -/
  | seedRefillDone (wing : Fin 16)
  /-- PKU_CLAIM (R232): a PKU_LOCK write with CLAIM 1. -/
  | pkuClaim (cell : Fin 128)
  /-- PKU_GRANT_READ (R232): a PKU_GRANT read. -/
  | pkuGrantRead (cell : Fin 128)
  /-- PKU_RELEASE (R232): a PKU_LOCK write with RELEASE 1. -/
  | pkuRelease (cell : Fin 128)
  /-- PKU_ABANDON (R240): a PKU_LOCK write with ABANDON 1. -/
  | pkuAbandon (cell : Fin 128)
  /-- PKU_CFG_WRITE (R234): a PKU_CFG write, and the PKU_QINV write made with it. -/
  | pkuCfgWrite (cell : Fin 128) (value : W64) (qinv : Option W64)
  /-- MAC (R228): a PKU_OP write with OP 0, the other fields from `word`. -/
  | mac (cell : Fin 128) (word : W64)
  /-- MAC_SHIFT (R231): a PKU_OP write with OP 1. -/
  | macShift (cell : Fin 128) (word : W64)
  /-- LOAD_ACC (R234): a PKU_OP write with OP 2. -/
  | loadAcc (cell : Fin 128) (word : W64)
  /-- STORE_ACC (R234): a PKU_OP write with OP 3. -/
  | storeAcc (cell : Fin 128) (word : W64)
  /-- PKU_DMA_IN (R235): a PKU_DMA write with DIR 0, after the cell's stores into wing memory and its allocation of operand-space pages. -/
  | pkuDmaIn (cell : Fin 128) (word : W64) (stores : List (Nat × Bytes)) (pages : List Nat)
  /-- PKU_DMA_OUT (R235): a PKU_DMA write with DIR 1, after the cell's allocation of operand-space pages. -/
  | pkuDmaOut (cell : Fin 128) (word : W64) (pages : List Nat)
  /-- PKU_DMA_DONE (R236): a PK DMA completes. -/
  | pkuDmaDone (wing : Fin 16)
  /-- PKU_STATUS_READ (R234): a PKU_STATUS read. -/
  | pkuStatusRead (cell : Fin 128)
  /-- PKU_WIPE_DONE (R239): a wipe ends; `ok`: its read-back found zeros. -/
  | pkuWipeDone (wing : Fin 16) (ok : Bool)
  /-- PKU_HOLD_OVERRUN (R233): a hold reaches cycle 262,145. -/
  | pkuHoldOverrun (wing : Fin 16)
  /-- PKU_FAULT_ALARM (R238): a residue or shift alarm. -/
  | pkuFaultAlarm (wing : Fin 16)
  /-- PKU_SELF_CHECK_DONE (R238): a self-check ends. -/
  | pkuSelfCheckDone (wing : Fin 16) (pass : Bool)
  /-- ENTROPY_BLOCK (R270): a source delivers a passed block. -/
  | entropyBlock (source : Fin 8) (block : BitVec 1024)
  /-- HEALTH_TEST_FAIL (R272): a source fails the repetition count test, or the adaptive proportion test (`apt`). -/
  | healthTestFail (source : Fin 8) (samples : List Bool)
  /-- SOURCE_START_UP_DONE (R272): a source passes its start-up samples. -/
  | sourceStartUpDone (source : Fin 8)
  /-- DRBG_RESEED_DONE (R277): a reseed completes. -/
  | drbgReseedDone (inst : Fin 4129)
  /-- DRBG_INSTANTIATE_DONE (R276): an instantiation completes. -/
  | drbgInstantiateDone (inst : Fin 4129)
  /-- METER_MARK (R51): the next minute boundary of meter time. -/
  | meterMark
  /-- SPAN_LINK_UP (R305): a port's PCS link comes up on `lanes` lanes. -/
  | spanLinkUp (port : Fin 4) (lanes : Nat)
  /-- SPAN_LINK_DOWN (R304): a port's PCS link goes down. -/
  | spanLinkDown (port : Fin 4)
  /-- HELLO (R305): a HELLO frame arrives. -/
  | hello (hdr : LinkHdr) (body : Hello)
  /-- KEYCONFIRM (R305): a KEYCONFIRM frame arrives. -/
  | keyconfirm (hdr : LinkHdr) (signature : Bytes)
  /-- IDLE (R296): an IDLE frame arrives. -/
  | idle (hdr : LinkHdr)
  /-- IDLE_DUE (R296): 2 us since the last IDLE on the pair port. -/
  | idleDue
  /-- PROBE (R308): a PROBE frame arrives. -/
  | probe (hdr : LinkHdr)
  /-- ECHO (R308): an ECHO frame arrives, with the round trip measured and the turn-around it reports. -/
  | echo (hdr : LinkHdr) (roundTripNs turnAroundNs : Nat)
  /-- HOP_MEASUREMENT_DUE (R308): 100 ms since the port's last measurement. -/
  | hopMeasurementDue (port : Fin 4)
  /-- WITHDRAW (R297): a WITHDRAW frame arrives. -/
  | withdraw (hdr : LinkHdr)
  /-- WITHDRAW_SEND (R297): a withdrawing member's deltas are acknowledged, or 20 us have passed. -/
  | withdrawSend
  /-- POSITION (R288): a POSITION frame arrives. -/
  | position (hdr : LinkHdr) (body : Position)
  /-- CROSSFEED_TIMEOUT (R288): 20 us without an acknowledgement of a position notice. -/
  | crossfeedTimeout (ticket : Fin 65536)
  /-- CROSSFEED (R289): a CROSSFEED frame arrives. -/
  | crossfeed (hdr : LinkHdr) (sid : StreamId) (frame : Bytes)
  /-- DELTA (R291): a DELTA frame arrives. -/
  | delta (hdr : LinkHdr) (body : Delta)
  /-- DELTA_ACK (R292): a DELTA_ACK frame arrives. -/
  | deltaAck (hdr : LinkHdr) (number : Nat)
  /-- LOAN_DELTA (R314): a LOAN_DELTA frame arrives. -/
  | loanDelta (hdr : LinkHdr) (body : Delta)
  /-- LOAN_ACK (R314): a LOAN_ACK frame arrives. -/
  | loanAck (hdr : LinkHdr) (number : Nat)
  /-- CURRENCY (R314): a CURRENCY frame arrives. -/
  | currency (hdr : LinkHdr) (number : Nat)
  /-- CURRENCY_DUE (R306): 50 us since the last CURRENCY. -/
  | currencyDue
  /-- LOAN_CURRENCY_TIMEOUT (R314): 100 us without CURRENCY at a loan. -/
  | loanCurrencyTimeout (gallery : Nat)
  /-- LOAN_ACK_TIMEOUT (R314): 150 us without LOAN_ACK at the home. -/
  | loanAckTimeout (ticket : Fin 65536)
  /-- FORWARD (R309): a FORWARD frame arrives. -/
  | forward (hdr : LinkHdr) (sid : StreamId) (body : Forwarded)
  /-- FORWARD_RSP (R309): a FORWARD_RSP frame arrives. -/
  | forwardRsp (hdr : LinkHdr) (sid : StreamId) (seq : Nat) (resp : Resp) (flags : FarFlags)
  /-- FORWARD_RETRY (R309): 50 us after a route change without the forwarded response. -/
  | forwardRetry (ticket : Fin 65536)
  /-- RESYNC_DATA (R302): a RESYNC_DATA frame arrives. -/
  | resyncData (hdr : LinkHdr) (item : CopyItem)
  /-- RESYNC_END (R302): a RESYNC_END frame arrives. -/
  | resyncEnd (hdr : LinkHdr)
  /-- RESYNC_COMPLETE (R302): the last delta of a resynchronisation is applied. -/
  | resyncComplete
  /-- STATE_DATA (R310): a STATE_DATA frame arrives. -/
  | stateData (hdr : LinkHdr) (item : CopyItem)
  /-- STATE_END (R310): a STATE_END frame arrives. -/
  | stateEnd (hdr : LinkHdr)
  /-- REHANDSHAKE_DUE (R305): 2^32 frames or an hour under one hop key. -/
  | rehandshakeDue (port : Fin 4)
  /-- PAIR_LINK_SILENCE (R296): 10 us without an authenticated frame on the pair port. -/
  | pairLinkSilence
  /-- HEARTBEAT_TOGGLE (R296): 4 counts since the last toggle. -/
  | heartbeatToggle
  /-- HEARTBEAT_EDGE (R296): a qualified edge on PAIR_HB_IN. -/
  | heartbeatEdge
  /-- HEARTBEAT_SILENT (R299): 12 counts without an edge. -/
  | heartbeatSilent
  /-- DUAL_ACT_WINDOW_CLOSE (R299): 2.5 ms after the verdict. -/
  | dualActWindowClose
  /-- PAIR_START_TIMEOUT (R301): the pair start time-out. -/
  | pairStartTimeout
  /-- COMMAND_ERROR (R323): an error of COMMAND scope: its code, the command, the unit it is attributed to (as in `Err.byUnit`). -/
  | commandError (code : Nat) (ticket : Fin 65536) (unit : Nat)
  /-- WING_ERROR (R325): an error of WING scope. -/
  | wingError (code : Nat) (wing : Fin 16)
  /-- WING_RESTORATION_DONE (R325): a restoration ends. -/
  | wingRestorationDone (wing : Fin 16) (pass : Bool)
  /-- CELL_WATCHDOG (R320): a cell has held a ticket for 2 ms. -/
  | cellWatchdog (cell : Fin 128)
  /-- MODULE_ERROR (R327): an error of MODULE scope. -/
  | moduleError (code : Nat)
  /-- CONTAINED_HALT_TIMEOUT (R328): 100 us after a contained halt began. -/
  | containedHaltTimeout
  /-- FATAL_ERROR (R330): an error of FATAL scope. -/
  | fatalError (code : Nat)
  /-- VITRINE_LINE_FAIL (R329): a leaf line fails after its re-read, in the record named. -/
  | vitrineLineFail (line gallery slot : Nat)
  /-- ECC_CORRECTED (R320): a correctable ECC error in a wing memory. -/
  | eccCorrected (wing : Fin 16)
  /-- CURATOR_RESTART (R402): a Curator core fault, or (`back`) the core running again, within 50 ms. -/
  | curatorRestart (back : Bool)
  /-- LOOP_DRIVE_STEP (R338): 4 counts since the last drive step. -/
  | loopDriveStep
  /-- LOOP_COMPARE (R338): the comparison of a count: the echo levels of loops 0 to 3, the lid mesh and the substrate mesh. -/
  | loopCompare (echo : BitVec 6)
  /-- LOOP_EDGE_MISMATCH (R338): an echo edge away from a drive edge. -/
  | loopEdgeMismatch (loop : Fin 6)
  /-- TAMPER_COLLECTION_END (R340): one count after a tamper decision. -/
  | tamperCollectionEnd
  /-- TEMP_SAMPLE (R336): a sample of the always-on die sensor, in 0.5 C. -/
  | tempSample (value : Int)
  /-- SUPPLY_COMPARATOR (R336): the always-on supply has been low, or high, for 1 us, or is so no longer. -/
  | supplyComparator (high present : Bool)
  /-- XTAL_FAULT (R336): the crystal has been faulty for 2 ms, or is so no longer. -/
  | xtalFault (present : Bool)
  /-- RAIL_GLITCH (R336): the condition of RAIL_GLITCH, or its end. -/
  | railGlitch (present : Bool)
  /-- CLOCK_GLITCH (R336): the condition of CLOCK_GLITCH, or its end. -/
  | clockGlitch (present : Bool)
  /-- INPUT_SAMPLE (R339): a count's sample of KEYSW_A, KEYSW_B, HOLDUP_OK and PAIR_HB_IN, 1 active. -/
  | inputSample (levels : BitVec 4)
  /-- KEY_SWITCH_TIMEOUT (R201): 30 minutes since KEYSW_A's, or KEYSW_B's (`b`), activation. -/
  | keySwitchTimeout (b : Bool)
  /-- LOCKOUT_END (R201): both switches off for 1 s. -/
  | lockoutEnd
  /-- TRANSITION_BURN_DONE (R351): a transition record is burned and verified. -/
  | transitionBurnDone
  /-- MAIN_POWER_FAIL (R372): a main rail fails; `g6Kept`: the GDDR6 rails remain. -/
  | mainPowerFail (g6Kept : Bool)
  /-- POWER_FAIL_WARNING (R373): VDD_CORE 15 mV below its setpoint. -/
  | powerFailWarning
  /-- VAUX_LOSS (R16): VAUX falls. -/
  | vauxLoss
  /-- VAUX_RESTORE (R16): VAUX returns. -/
  | vauxRestore
  /-- ALWAYS_ON_POWER_UP (R338): the always-on domain powers up from the supplies given. -/
  | alwaysOnPowerUp (vaux vbat : Bool)
  /-- AVSBUS_ACK (R441): the regulator reports the setpoint settled. -/
  | avsbusAck
  /-- AVSBUS_TIMEOUT (R441): 100 us without an acknowledgement. -/
  | avsbusTimeout
  /-- WING_CLOCK_SWITCH (R369): a wing switches its clocks. -/
  | wingClockSwitch (wing : Fin 16)
  /-- QUIESCE_DRAIN_TIMEOUT (R370): the drain time-out. -/
  | quiesceDrainTimeout
  /-- QUIESCE_COMPLETE (R370): every admitted command is released. -/
  | quiesceComplete
  /-- THERMAL_ESTIMATE (R377): the 1 ms estimate: the hottest agreeing site in 0.5 C, the module power in 0.1 W. -/
  | thermalEstimate (hottest : Int) (power : Nat)
  /-- THERMAL_RETURN (R377): 1 s below the return threshold. -/
  | thermalReturn
  /-- WING_PLACEMENT (R375): the 1.024 ms recomputation. -/
  | wingPlacement
  /-- WING_WAKE_REQUEST (R376): ready work and no waiting cell of a RUN wing. -/
  | wingWakeRequest
  /-- WING_WAKE_DONE (R376): a waking wing reaches RUN. -/
  | wingWakeDone (wing : Fin 16)
  /-- SENSOR_SAMPLE (R403): the 1 ms sampling of the sensors, by ID. -/
  | sensorSample (readings : List (Nat × SensorReading))
  /-- LOG_CHECKPOINT (R405): a checkpoint is due. -/
  | logCheckpoint
  /-- MAILBOX_SUBMIT (R416): a CUR_MBOX write with SUBMIT 1 and IN_LEN as given. -/
  | mailboxSubmit (inLen : Fin 8192)
  /-- MAILBOX_ACK (R416): a CUR_MBOX write with ACK 1. -/
  | mailboxAck
  /-- SET_ENDPOINT_ID (R408): MCTP control. -/
  | setEndpointId (bus : Nat) (eid : Byte)
  /-- GET_ENDPOINT_ID (R408): MCTP control. -/
  | getEndpointId (bus : Nat)
  /-- GET_MCTP_VERSION_SUPPORT (R408): MCTP control. -/
  | getMctpVersionSupport (bus : Nat) (type : Byte)
  /-- GET_MESSAGE_TYPE_SUPPORT (R408): MCTP control. -/
  | getMessageTypeSupport (bus : Nat)
  /-- GET_VENDOR_DEFINED_MESSAGE_SUPPORT (R408): MCTP control. -/
  | getVendorDefinedMessageSupport (bus : Nat) (selector : Byte)
  /-- GETTID (R408): PLDM base. -/
  | getTid (bus : Nat)
  /-- GETPLDMTYPES (R408): PLDM base. -/
  | getPldmTypes (bus : Nat)
  /-- GETPLDMCOMMANDS (R408): PLDM base. -/
  | getPldmCommands (bus : Nat) (type : Byte)
  /-- GETPLDMVERSION (R408): PLDM base. -/
  | getPldmVersion (bus : Nat) (type : Byte)
  /-- GETSENSORREADING (R403): PLDM monitoring. -/
  | getSensorReading (bus : Nat) (sensor : Nat)
  /-- GETSTATESENSORREADINGS (R408): PLDM monitoring. -/
  | getStateSensorReadings (bus : Nat) (sensor : Nat)
  /-- GETPDR (R408): PLDM monitoring. -/
  | getPdr (bus : Nat) (record : Nat)
  /-- GETPDRREPOSITORYINFO (R408): PLDM monitoring. -/
  | getPdrRepositoryInfo (bus : Nat)
  /-- SETEVENTRECEIVER (R408): PLDM monitoring. -/
  | setEventReceiver (bus : Nat) (enable address : Byte)
  /-- REQUESTUPDATE (R412): PLDM firmware update. -/
  | requestUpdate (bus : Nat)
  /-- PASSCOMPONENTTABLE (R412): PLDM firmware update. -/
  | passComponentTable (bus : Nat) (component : Nat)
  /-- UPDATECOMPONENT (R412): PLDM firmware update. -/
  | updateComponent (bus : Nat) (component : Nat)
  /-- REQUESTFIRMWAREDATA (R412): the agent's answer to RequestFirmwareData. -/
  | requestFirmwareData (bus : Nat) (offset : Nat) (data : Bytes)
  /-- TRANSFERCOMPLETE (R412): PLDM firmware update; `image`: what reading a staged firmware slot back finds. -/
  | transferComplete (bus : Nat) (image : Option FwImage)
  /-- ACTIVATEFIRMWARE (R371): PLDM firmware update. -/
  | activateFirmware (bus : Nat)
  /-- CANCELUPDATE (R371): PLDM firmware update. -/
  | cancelUpdate (bus : Nat)
  /-- UPDATE_AGENT_TIMEOUT (R412): 60 s without a request from the agent. -/
  | updateAgentTimeout
  /-- ANTI_ROLLBACK_BURN (R413): a pair of the anti-rollback count is burned. -/
  | antiRollbackBurn
  /-- GET_VERSION (R408): SPDM. -/
  | getVersion (bus : Nat)
  /-- GET_CAPABILITIES (R408): SPDM. -/
  | getCapabilities (bus : Nat)
  /-- NEGOTIATE_ALGORITHMS (R408): SPDM. -/
  | negotiateAlgorithms (bus : Nat) (hasSha384 hasP384 : Bool)
  /-- GET_DIGESTS (R411): SPDM. -/
  | getDigests (bus : Nat)
  /-- GET_CERTIFICATE (R411): SPDM. -/
  | getCertificate (bus : Nat) (slot offset length : Nat)
  /-- CHALLENGE (R411): SPDM. -/
  | challenge (bus : Nat) (slot : Nat) (nonce : BitVec 256)
  /-- GET_MEASUREMENTS (R411): SPDM. -/
  | getMeasurements (bus : Nat) (index : Nat) (sign : Bool) (nonce : BitVec 256)
  /-- INVENTORY (R402): vendor-defined. -/
  | inventory (bus : Nat)
  /-- LOG_READ (R407): vendor-defined. -/
  | logRead (bus : Nat) (first count : Nat)
  /-- TAMPER_RECORD (R410): vendor-defined. -/
  | tamperRecord (bus : Nat)
  /-- LCS_TRANSITION_MESSAGE (R350): vendor-defined. -/
  | lcsTransitionMessage (bus : Nat) (target index : Byte) (token : Bytes)
  /-- DEBUG_CHALLENGE (R355): vendor-defined. -/
  | debugChallenge (bus : Nat)
  /-- DEBUG_RESPONSE (R355): vendor-defined; `key`: the debug authority's public key. -/
  | debugResponse (bus : Nat) (key signature : Bytes)
  /-- CONSERVATOR_RUN (R356): vendor-defined. -/
  | conservatorRun (bus : Nat)
  /-- CONSERVATOR_RUN_DONE (R356): a full run ends, with its results and duration. -/
  | conservatorRunDone (pass : BitVec 8) (ms100 : Nat)
  /-- RAW_SAMPLES (R410): vendor-defined; `samples`: what the tap held there. -/
  | rawSamples (bus : Nat) (source offset : Nat) (samples : Bytes)
  /-- COUNTER_SNAP (R420): a DOC_CNT_CTL write with SNAP 1. -/
  | counterSnap (freeze clear : Bool)
  /-- COUNTER_CLEAR (R420): a DOC_CNT_CTL write with CLEAR 1 and SNAP 0. -/
  | counterClear (freeze : Bool)
  /-- SAMPLING_ENABLE (R424): a DOC_SAMP_CTL write with ENABLE 1. -/
  | samplingEnable (value : W64)
  /-- INSTRUCTION_SAMPLE (R424): a cell's PERIOD-th retirement. -/
  | instructionSample (cell : Fin 128) (offset : Nat) (slot other : Nat)
  /-- TRACE_ENABLE (R425): a DOC_TRACE_CTL write with ENABLE 1. -/
  | traceEnable (value : W64)
  /-- HOT_RESET (R56): a hot reset on the link. -/
  | hotReset
  /-- PCIE_LINK_UP (R80): the link comes up. -/
  | pcieLinkUp
  /-- GDDR6_RAIL_LOSS (R15): a GDDR6 rail is lost. -/
  | gddr6RailLoss
  /-- VBAT_LOSS (R444): VBAT is lost. -/
  | vbatLoss
  /-- POWER_FAIL_WARNING_CLEAR (R373): VDD_CORE back above the warning level. -/
  | powerFailWarningClear
  /-- MCTP_TRANSPORT_TIMEOUT (R57): the transport time-out of the oldest waiting MCTP message. -/
  | mctpTransportTimeout
  /-- METER_ARCHIVE_COPY (R54): meter records are copied to the archive. -/
  | meterArchiveCopy
  /-- UTC_OFFSET_SET (R51): the house sets the UTC offset. -/
  | utcOffsetSet (offset : BitVec 64)
  /-- DOCENT_COPY_REPAIR (R321): one of two copies fails and is repaired. -/
  | docentCopyRepair
  deriving DecidableEq, Repr

end Sys2Proof
end

