-- ==== Sys2Proof/Machine/Bits.lean ====
section
/-!
DEFINITION. Byte strings, byte orders and bit fields (spec 00: little-endian unless a rule says otherwise, R5).
-/

namespace Sys2Proof.Machine

/-- `n` zero bytes. -/
def zeros (n : Nat) : Bytes := List.replicate n 0

/-- The value of a little-endian byte string. -/
def ofLE : Bytes → Nat
  | [] => 0
  | b :: t => b.toNat + 256 * ofLE t

/-- The value of a big-endian byte string. -/
def ofBE (bs : Bytes) : Nat := bs.foldl (fun a b => 256 * a + b.toNat) 0

/-- `k` bytes of `n`, little-endian. -/
def leBytes : Nat → Nat → Bytes
  | 0, _ => []
  | k + 1, n => BitVec.ofNat 8 n :: leBytes k (n / 256)

/-- `k` bytes of `n`, big-endian. -/
def beBytes (k n : Nat) : Bytes := (leBytes k n).reverse

/-- Cuts `n` pieces of `w` elements off a list. -/
def chunks {α : Type} (w : Nat) : Nat → List α → List (List α)
  | 0, _ => []
  | n + 1, l => l.take w :: chunks w n (l.drop w)

/-- Bytes `a` to `a + n - 1` of a string, padded with zeros where it is short. -/
def slice (l : Bytes) (a n : Nat) : Bytes :=
  let t := (l.drop a).take n
  t ++ zeros (n - t.length)

/-- Byte `a` of a string, 0 beyond its end. -/
def byteAt (l : Bytes) (a : Nat) : Nat := (l.getD a 0).toNat

/-- The little-endian value of `n` bytes at offset `a`. -/
def leAt (l : Bytes) (a n : Nat) : Nat := ofLE (slice l a n)

/-- Bits `hi:lo` of a number. -/
def bits (v hi lo : Nat) : Nat := v / 2 ^ lo % 2 ^ (hi + 1 - lo)

/-- Bit `n` of a number. -/
def bit (v n : Nat) : Bool := v / 2 ^ n % 2 == 1

/-- Bits `hi:lo` of a window word. -/
def field (v : W64) (hi lo : Nat) : Nat := bits v.toNat hi lo

/-- Bit `n` of a window word. -/
def flag (v : W64) (n : Nat) : Bool := bit v.toNat n

/-- 1 or 0. -/
def b2n (b : Bool) : Nat := if b then 1 else 0

/-- Saturates at `m`. -/
def sat (m n : Nat) : Nat := min n m

/-- A signed number as `w` bits of two's complement. -/
def signed (w : Nat) (v : Int) : Nat := (v % (2 ^ w : Int)).toNat

/-- The signed value of `w` bits. -/
def ofSigned (w n : Nat) : Int :=
  let m := n % 2 ^ w
  if m ≥ 2 ^ (w - 1) then (m : Int) - (2 ^ w : Int) else m

/-- Sets or clears bit `n` of a number. -/
def setBit (v n : Nat) (b : Bool) : Nat :=
  if bit v n = b then v else if b then v + 2 ^ n else v - 2 ^ n

/-- The number whose bit `i` is set for each `i` in the list of distinct indices. -/
def maskOf (l : List Nat) : Nat := l.foldl (fun a i => a ||| 2 ^ i) 0

/-- Byte-wise exclusive or, over the shorter length. -/
def xorBytes (a b : Bytes) : Bytes := List.zipWith (· ^^^ ·) a b

/-- Rounds up to a multiple of `m`. -/
def roundUp (m n : Nat) : Nat := (n + m - 1) / m * m

/-- Pads a string with zeros to a multiple of `m`. -/
def padTo (m : Nat) (l : Bytes) : Bytes := l ++ zeros (roundUp m l.length - l.length)

/-- The ASCII bytes of a string. -/
def ascii (s : String) : Bytes := s.toList.map (fun c => BitVec.ofNat 8 c.toNat)

/-- Ceiling division. -/
def ceilDiv (a b : Nat) : Nat := (a + b - 1) / b

/-- Whether every byte is zero. -/
def allZero (l : Bytes) : Bool := l.all (· == 0)

/-- The CRC-32 of R455 (reflected, polynomial 0xEDB88320, initial and final all ones). -/
def crc32Step (c : Nat) (b : Byte) : Nat :=
  (List.range 8).foldl (fun x _ => if x % 2 = 1 then (x / 2) ^^^ 0xEDB88320 else x / 2) (c ^^^ b.toNat)

/-- CRC-32 of a byte string (R455). -/
def crc32 (l : Bytes) : Nat := (l.foldl crc32Step 0xFFFFFFFF) ^^^ 0xFFFFFFFF

end Sys2Proof.Machine
end

