-- ==== Sys2Proof/Machine/CryptoAes.lean ====
section
/-!
DEFINITION. AES, DES and TDES, and the modes over them: ECB, CBC, CTR, CMAC, GCM, key wrap, ISO/IEC 9797-1 MACs (FIPS 197, SP 800-67, SP 800-38A/B/D/F), which the spec names and does not restate (log 14).
-/

namespace Sys2Proof.Machine

/-- AES S-box. -/
def aesSbox : Array Nat :=
  ([0x63, 0x7c, 0x77, 0x7b, 0xf2, 0x6b, 0x6f, 0xc5, 0x30, 0x01, 0x67, 0x2b, 0xfe, 0xd7, 0xab, 0x76, 0xca, 0x82, 0xc9, 0x7d, 0xfa, 0x59, 0x47, 0xf0, 0xad, 0xd4, 0xa2, 0xaf, 0x9c, 0xa4, 0x72, 0xc0] ++
   [0xb7, 0xfd, 0x93, 0x26, 0x36, 0x3f, 0xf7, 0xcc, 0x34, 0xa5, 0xe5, 0xf1, 0x71, 0xd8, 0x31, 0x15, 0x04, 0xc7, 0x23, 0xc3, 0x18, 0x96, 0x05, 0x9a, 0x07, 0x12, 0x80, 0xe2, 0xeb, 0x27, 0xb2, 0x75] ++
   [0x09, 0x83, 0x2c, 0x1a, 0x1b, 0x6e, 0x5a, 0xa0, 0x52, 0x3b, 0xd6, 0xb3, 0x29, 0xe3, 0x2f, 0x84, 0x53, 0xd1, 0x00, 0xed, 0x20, 0xfc, 0xb1, 0x5b, 0x6a, 0xcb, 0xbe, 0x39, 0x4a, 0x4c, 0x58, 0xcf] ++
   [0xd0, 0xef, 0xaa, 0xfb, 0x43, 0x4d, 0x33, 0x85, 0x45, 0xf9, 0x02, 0x7f, 0x50, 0x3c, 0x9f, 0xa8, 0x51, 0xa3, 0x40, 0x8f, 0x92, 0x9d, 0x38, 0xf5, 0xbc, 0xb6, 0xda, 0x21, 0x10, 0xff, 0xf3, 0xd2] ++
   [0xcd, 0x0c, 0x13, 0xec, 0x5f, 0x97, 0x44, 0x17, 0xc4, 0xa7, 0x7e, 0x3d, 0x64, 0x5d, 0x19, 0x73, 0x60, 0x81, 0x4f, 0xdc, 0x22, 0x2a, 0x90, 0x88, 0x46, 0xee, 0xb8, 0x14, 0xde, 0x5e, 0x0b, 0xdb] ++
   [0xe0, 0x32, 0x3a, 0x0a, 0x49, 0x06, 0x24, 0x5c, 0xc2, 0xd3, 0xac, 0x62, 0x91, 0x95, 0xe4, 0x79, 0xe7, 0xc8, 0x37, 0x6d, 0x8d, 0xd5, 0x4e, 0xa9, 0x6c, 0x56, 0xf4, 0xea, 0x65, 0x7a, 0xae, 0x08] ++
   [0xba, 0x78, 0x25, 0x2e, 0x1c, 0xa6, 0xb4, 0xc6, 0xe8, 0xdd, 0x74, 0x1f, 0x4b, 0xbd, 0x8b, 0x8a, 0x70, 0x3e, 0xb5, 0x66, 0x48, 0x03, 0xf6, 0x0e, 0x61, 0x35, 0x57, 0xb9, 0x86, 0xc1, 0x1d, 0x9e] ++
   [0xe1, 0xf8, 0x98, 0x11, 0x69, 0xd9, 0x8e, 0x94, 0x9b, 0x1e, 0x87, 0xe9, 0xce, 0x55, 0x28, 0xdf, 0x8c, 0xa1, 0x89, 0x0d, 0xbf, 0xe6, 0x42, 0x68, 0x41, 0x99, 0x2d, 0x0f, 0xb0, 0x54, 0xbb, 0x16] : List Nat).toArray

/-- Inverse AES S-box. -/
def aesInvSbox : Array Nat :=
  ([0x52, 0x09, 0x6a, 0xd5, 0x30, 0x36, 0xa5, 0x38, 0xbf, 0x40, 0xa3, 0x9e, 0x81, 0xf3, 0xd7, 0xfb, 0x7c, 0xe3, 0x39, 0x82, 0x9b, 0x2f, 0xff, 0x87, 0x34, 0x8e, 0x43, 0x44, 0xc4, 0xde, 0xe9, 0xcb] ++
   [0x54, 0x7b, 0x94, 0x32, 0xa6, 0xc2, 0x23, 0x3d, 0xee, 0x4c, 0x95, 0x0b, 0x42, 0xfa, 0xc3, 0x4e, 0x08, 0x2e, 0xa1, 0x66, 0x28, 0xd9, 0x24, 0xb2, 0x76, 0x5b, 0xa2, 0x49, 0x6d, 0x8b, 0xd1, 0x25] ++
   [0x72, 0xf8, 0xf6, 0x64, 0x86, 0x68, 0x98, 0x16, 0xd4, 0xa4, 0x5c, 0xcc, 0x5d, 0x65, 0xb6, 0x92, 0x6c, 0x70, 0x48, 0x50, 0xfd, 0xed, 0xb9, 0xda, 0x5e, 0x15, 0x46, 0x57, 0xa7, 0x8d, 0x9d, 0x84] ++
   [0x90, 0xd8, 0xab, 0x00, 0x8c, 0xbc, 0xd3, 0x0a, 0xf7, 0xe4, 0x58, 0x05, 0xb8, 0xb3, 0x45, 0x06, 0xd0, 0x2c, 0x1e, 0x8f, 0xca, 0x3f, 0x0f, 0x02, 0xc1, 0xaf, 0xbd, 0x03, 0x01, 0x13, 0x8a, 0x6b] ++
   [0x3a, 0x91, 0x11, 0x41, 0x4f, 0x67, 0xdc, 0xea, 0x97, 0xf2, 0xcf, 0xce, 0xf0, 0xb4, 0xe6, 0x73, 0x96, 0xac, 0x74, 0x22, 0xe7, 0xad, 0x35, 0x85, 0xe2, 0xf9, 0x37, 0xe8, 0x1c, 0x75, 0xdf, 0x6e] ++
   [0x47, 0xf1, 0x1a, 0x71, 0x1d, 0x29, 0xc5, 0x89, 0x6f, 0xb7, 0x62, 0x0e, 0xaa, 0x18, 0xbe, 0x1b, 0xfc, 0x56, 0x3e, 0x4b, 0xc6, 0xd2, 0x79, 0x20, 0x9a, 0xdb, 0xc0, 0xfe, 0x78, 0xcd, 0x5a, 0xf4] ++
   [0x1f, 0xdd, 0xa8, 0x33, 0x88, 0x07, 0xc7, 0x31, 0xb1, 0x12, 0x10, 0x59, 0x27, 0x80, 0xec, 0x5f, 0x60, 0x51, 0x7f, 0xa9, 0x19, 0xb5, 0x4a, 0x0d, 0x2d, 0xe5, 0x7a, 0x9f, 0x93, 0xc9, 0x9c, 0xef] ++
   [0xa0, 0xe0, 0x3b, 0x4d, 0xae, 0x2a, 0xf5, 0xb0, 0xc8, 0xeb, 0xbb, 0x3c, 0x83, 0x53, 0x99, 0x61, 0x17, 0x2b, 0x04, 0x7e, 0xba, 0x77, 0xd6, 0x26, 0xe1, 0x69, 0x14, 0x63, 0x55, 0x21, 0x0c, 0x7d] : List Nat).toArray

/-- Multiplication by x in the AES field. -/
def xtime (b : Byte) : Byte := (b <<< 1) ^^^ (if b.msb then 0x1B#8 else 0#8)

/-- Multiplication in the AES field by a small constant. -/
def gfMul (k : Nat) (b : Byte) : Byte :=
  let b2 := xtime b; let b4 := xtime b2; let b8 := xtime b4
  (if k % 2 = 1 then b else 0) ^^^ (if k / 2 % 2 = 1 then b2 else 0) ^^^ (if k / 4 % 2 = 1 then b4 else 0) ^^^ (if k / 8 % 2 = 1 then b8 else 0)

/-- S-box on a byte. -/
def subByte (b : Byte) : Byte := BitVec.ofNat 8 (aesSbox.getD b.toNat 0)
/-- Inverse S-box on a byte. -/
def invSubByte (b : Byte) : Byte := BitVec.ofNat 8 (aesInvSbox.getD b.toNat 0)

/-- Key expansion: adds `n` words to the words so far (newest first); `i` is the next index, `nk` the key length in words. -/
def aesExpand (nk : Nat) : Nat → Nat → Byte → List Bytes → List Bytes
  | 0, _, _, ws => ws
  | n + 1, i, rc, ws =>
    let prev := ws.headD []
    let old := ws.getD (nk - 1) []
    let (t, rc') :=
      if i % nk = 0 then
        match (prev.rotateLeft 1).map subByte with
        | a :: r => ((a ^^^ rc) :: r, xtime rc)
        | [] => ([], rc)
      else if nk > 6 ∧ i % nk = 4 then (prev.map subByte, rc)
      else (prev, rc)
    aesExpand nk n (i + 1) rc' (xorBytes old t :: ws)

/-- Round keys of 16 bytes, first round first. -/
def aesRoundKeys (key : Bytes) : List Bytes :=
  let nk := key.length / 4
  let total := 4 * (nk + 7)
  let ws := (aesExpand nk (total - nk) nk 1 (chunks 4 nk key).reverse).reverse
  chunks 16 (nk + 7) ws.flatten

/-- ShiftRows by index: byte i of the result is byte (i + 4·(i mod 4)) mod 16. -/
def shiftRows (s : Bytes) : Bytes := (List.range 16).map (fun i => s.getD ((i + 4 * (i % 4)) % 16) 0)
/-- Inverse ShiftRows. -/
def invShiftRows (s : Bytes) : Bytes := (List.range 16).map (fun i => s.getD ((i + 12 * (i % 4)) % 16) 0)

/-- MixColumns with the row (a b c d) of the circulant matrix. -/
def mixWith (a b c d : Nat) (s : Bytes) : Bytes :=
  (chunks 4 4 s).flatMap (fun col => match col with
    | [w, x, y, z] =>
      [gfMul a w ^^^ gfMul b x ^^^ gfMul c y ^^^ gfMul d z, gfMul d w ^^^ gfMul a x ^^^ gfMul b y ^^^ gfMul c z,
       gfMul c w ^^^ gfMul d x ^^^ gfMul a y ^^^ gfMul b z, gfMul b w ^^^ gfMul c x ^^^ gfMul d y ^^^ gfMul a z]
    | l => l)

/-- AES rounds after the first key addition. -/
def aesRounds : List Bytes → Bytes → Bytes
  | [], s => s
  | [k], s => xorBytes (shiftRows (s.map subByte)) k
  | k :: k' :: ks, s => aesRounds (k' :: ks) (xorBytes (mixWith 2 3 1 1 (shiftRows (s.map subByte))) k)

/-- AES encryption of one block under expanded keys. -/
def aesEncRk (rks : List Bytes) (block : Bytes) : Bytes :=
  match rks with
  | [] => block
  | k :: ks => aesRounds ks (xorBytes block k)

/-- Inverse rounds; the keys come last round first. -/
def aesInvRounds : List Bytes → Bytes → Bytes
  | [], s => s
  | [k], s => xorBytes (invShiftRows s |>.map invSubByte) k
  | k :: k' :: ks, s => aesInvRounds (k' :: ks) (mixWith 14 11 13 9 (xorBytes (invShiftRows s |>.map invSubByte) k))

/-- AES decryption of one block under expanded keys. -/
def aesDecRk (rks : List Bytes) (block : Bytes) : Bytes :=
  match rks.reverse with
  | [] => block
  | k :: ks => aesInvRounds ks (xorBytes block k)

/-- DES tables. -/
def desIp : List Nat := [58, 50, 42, 34, 26, 18, 10, 2, 60, 52, 44, 36, 28, 20, 12, 4, 62, 54, 46, 38, 30, 22, 14, 6, 64, 56, 48, 40, 32, 24, 16, 8] ++ [57, 49, 41, 33, 25, 17, 9, 1, 59, 51, 43, 35, 27, 19, 11, 3, 61, 53, 45, 37, 29, 21, 13, 5, 63, 55, 47, 39, 31, 23, 15, 7]
/-- DES final permutation. -/
def desFp : List Nat := [40, 8, 48, 16, 56, 24, 64, 32, 39, 7, 47, 15, 55, 23, 63, 31, 38, 6, 46, 14, 54, 22, 62, 30, 37, 5, 45, 13, 53, 21, 61, 29] ++ [36, 4, 44, 12, 52, 20, 60, 28, 35, 3, 43, 11, 51, 19, 59, 27, 34, 2, 42, 10, 50, 18, 58, 26, 33, 1, 41, 9, 49, 17, 57, 25]
/-- DES expansion. -/
def desE : List Nat := [32, 1, 2, 3, 4, 5, 4, 5, 6, 7, 8, 9, 8, 9, 10, 11, 12, 13, 12, 13, 14, 15, 16, 17, 16, 17, 18, 19, 20, 21, 20, 21, 22, 23, 24, 25, 24, 25, 26, 27, 28, 29, 28, 29, 30, 31, 32, 1]
/-- DES round permutation. -/
def desP : List Nat := [16, 7, 20, 21, 29, 12, 28, 17, 1, 15, 23, 26, 5, 18, 31, 10, 2, 8, 24, 14, 32, 27, 3, 9, 19, 13, 30, 6, 22, 11, 4, 25]
/-- DES permuted choice 1. -/
def desPc1 : List Nat := [57, 49, 41, 33, 25, 17, 9, 1, 58, 50, 42, 34, 26, 18, 10, 2, 59, 51, 43, 35, 27, 19, 11, 3, 60, 52, 44, 36, 63, 55, 47, 39, 31, 23, 15, 7, 62, 54, 46, 38, 30, 22, 14, 6, 61, 53, 45, 37, 29, 21, 13, 5, 28, 20, 12, 4]
/-- DES permuted choice 2. -/
def desPc2 : List Nat := [14, 17, 11, 24, 1, 5, 3, 28, 15, 6, 21, 10, 23, 19, 12, 4, 26, 8, 16, 7, 27, 20, 13, 2, 41, 52, 31, 37, 47, 55, 30, 40, 51, 45, 33, 48, 44, 49, 39, 56, 34, 53, 46, 42, 50, 36, 29, 32]
/-- DES rotations. -/
def desShifts : List Nat := [1, 1, 2, 2, 2, 2, 2, 2, 1, 2, 2, 2, 2, 2, 2, 1]
/-- DES S-boxes, box i at 64 i. -/
def desS : Array Nat :=
  ([14, 4, 13, 1, 2, 15, 11, 8, 3, 10, 6, 12, 5, 9, 0, 7, 0, 15, 7, 4, 14, 2, 13, 1, 10, 6, 12, 11, 9, 5, 3, 8] ++
   [4, 1, 14, 8, 13, 6, 2, 11, 15, 12, 9, 7, 3, 10, 5, 0, 15, 12, 8, 2, 4, 9, 1, 7, 5, 11, 3, 14, 10, 0, 6, 13] ++
   [15, 1, 8, 14, 6, 11, 3, 4, 9, 7, 2, 13, 12, 0, 5, 10, 3, 13, 4, 7, 15, 2, 8, 14, 12, 0, 1, 10, 6, 9, 11, 5] ++
   [0, 14, 7, 11, 10, 4, 13, 1, 5, 8, 12, 6, 9, 3, 2, 15, 13, 8, 10, 1, 3, 15, 4, 2, 11, 6, 7, 12, 0, 5, 14, 9] ++
   [10, 0, 9, 14, 6, 3, 15, 5, 1, 13, 12, 7, 11, 4, 2, 8, 13, 7, 0, 9, 3, 4, 6, 10, 2, 8, 5, 14, 12, 11, 15, 1] ++
   [13, 6, 4, 9, 8, 15, 3, 0, 11, 1, 2, 12, 5, 10, 14, 7, 1, 10, 13, 0, 6, 9, 8, 7, 4, 15, 14, 3, 11, 5, 2, 12] ++
   [7, 13, 14, 3, 0, 6, 9, 10, 1, 2, 8, 5, 11, 12, 4, 15, 13, 8, 11, 5, 6, 15, 0, 3, 4, 7, 2, 12, 1, 10, 14, 9] ++
   [10, 6, 9, 0, 12, 11, 7, 13, 15, 1, 3, 14, 5, 2, 8, 4, 3, 15, 0, 6, 10, 1, 13, 8, 9, 4, 5, 11, 12, 7, 2, 14] ++
   [2, 12, 4, 1, 7, 10, 11, 6, 8, 5, 3, 15, 13, 0, 14, 9, 14, 11, 2, 12, 4, 7, 13, 1, 5, 0, 15, 10, 3, 9, 8, 6] ++
   [4, 2, 1, 11, 10, 13, 7, 8, 15, 9, 12, 5, 6, 3, 0, 14, 11, 8, 12, 7, 1, 14, 2, 13, 6, 15, 0, 9, 10, 4, 5, 3] ++
   [12, 1, 10, 15, 9, 2, 6, 8, 0, 13, 3, 4, 14, 7, 5, 11, 10, 15, 4, 2, 7, 12, 9, 5, 6, 1, 13, 14, 0, 11, 3, 8] ++
   [9, 14, 15, 5, 2, 8, 12, 3, 7, 0, 4, 10, 1, 13, 11, 6, 4, 3, 2, 12, 9, 5, 15, 10, 11, 14, 1, 7, 6, 0, 8, 13] ++
   [4, 11, 2, 14, 15, 0, 8, 13, 3, 12, 9, 7, 5, 10, 6, 1, 13, 0, 11, 7, 4, 9, 1, 10, 14, 3, 5, 12, 2, 15, 8, 6] ++
   [1, 4, 11, 13, 12, 3, 7, 14, 10, 15, 6, 8, 0, 5, 9, 2, 6, 11, 13, 8, 1, 4, 10, 7, 9, 5, 0, 15, 14, 2, 3, 12] ++
   [13, 2, 8, 4, 6, 15, 11, 1, 10, 9, 3, 14, 5, 0, 12, 7, 1, 15, 13, 8, 10, 3, 7, 4, 12, 5, 6, 11, 0, 14, 9, 2] ++
   [7, 11, 4, 1, 9, 12, 14, 2, 0, 6, 10, 13, 15, 3, 5, 8, 2, 1, 14, 7, 4, 10, 8, 13, 15, 12, 9, 0, 3, 5, 6, 11] : List Nat).toArray

/-- Selects bits of a `w`-bit number by a table of positions, 1 the most significant. -/
def desPerm (w : Nat) (t : List Nat) (v : Nat) : Nat :=
  t.foldl (fun a p => 2 * a + v / 2 ^ (w - p) % 2) 0

/-- The DES round function. -/
def desF (r k : Nat) : Nat :=
  let x := desPerm 32 desE r ^^^ k
  let s := (List.range 8).foldl (fun a i =>
    let six := x / 2 ^ (42 - 6 * i) % 64
    let row := six / 32 * 2 + six % 2
    16 * a + desS.getD (64 * i + 16 * row + six / 2 % 16) 0) 0
  desPerm 32 desP s

/-- Sixteen DES round keys. -/
def desKeys (key : Nat) : List Nat :=
  let cd := desPerm 64 desPc1 key
  let rot := fun v n => (v * 2 ^ n) % 2 ^ 28 + v / 2 ^ (28 - n)
  ((desShifts.foldl (fun (st : (Nat × Nat) × List Nat) n =>
    let c := rot st.1.1 n; let d := rot st.1.2 n
    ((c, d), desPerm 56 desPc2 (c * 2 ^ 28 + d) :: st.2)) ((cd / 2 ^ 28, cd % 2 ^ 28), [])).2).reverse

/-- DES on a 64-bit number with given round keys. -/
def desWith (ks : List Nat) (v : Nat) : Nat :=
  let x := desPerm 64 desIp v
  let lr := ks.foldl (fun (p : Nat × Nat) k => (p.2, p.1 ^^^ desF p.2 k)) (x / 2 ^ 32, x % 2 ^ 32)
  desPerm 64 desFp (lr.2 * 2 ^ 32 + lr.1)

/-- Single-DES encryption of 8 bytes. -/
def desEnc (key block : Bytes) : Bytes := beBytes 8 (desWith (desKeys (ofBE key)) (ofBE block))
/-- Single-DES decryption of 8 bytes. -/
def desDec (key block : Bytes) : Bytes := beBytes 8 (desWith (desKeys (ofBE key)).reverse (ofBE block))

/-- TDES encryption, 2-key (16 bytes) or 3-key (24 bytes). -/
def tdesEnc (key block : Bytes) : Bytes :=
  let k1 := key.take 8; let k2 := (key.drop 8).take 8
  let k3 := if key.length ≥ 24 then (key.drop 16).take 8 else k1
  desEnc k3 (desDec k2 (desEnc k1 block))
/-- TDES decryption. -/
def tdesDec (key block : Bytes) : Bytes :=
  let k1 := key.take 8; let k2 := (key.drop 8).take 8
  let k3 := if key.length ≥ 24 then (key.drop 16).take 8 else k1
  desDec k1 (desEnc k2 (desDec k3 block))

/-- A block cipher under one key: block length, encryption, decryption. -/
structure BlockCipher where
  /-- block length in bytes -/
  len : Nat
  /-- encryption of one block -/
  enc : Bytes → Bytes
  /-- decryption of one block -/
  dec : Bytes → Bytes

/-- AES under a key of 16, 24 or 32 bytes. -/
def aesOf (key : Bytes) : BlockCipher :=
  let rks := aesRoundKeys key
  { len := 16, enc := aesEncRk rks, dec := aesDecRk rks }

/-- TDES under a key of 16 or 24 bytes. -/
def tdesOf (key : Bytes) : BlockCipher := { len := 8, enc := tdesEnc key, dec := tdesDec key }

/-- The cipher of algorithm letter 'T' (84) or any other (AES). -/
def cipherOf (alg : Nat) (key : Bytes) : BlockCipher := if alg = 84 then tdesOf key else aesOf key

/-- Whole blocks of a string. -/
def blocksOf (c : BlockCipher) (d : Bytes) : List Bytes := chunks c.len (d.length / c.len) d

/-- ECB encryption. -/
def ecbEnc (c : BlockCipher) (d : Bytes) : Bytes := (blocksOf c d).flatMap c.enc
/-- ECB decryption. -/
def ecbDec (c : BlockCipher) (d : Bytes) : Bytes := (blocksOf c d).flatMap c.dec

/-- CBC encryption: the ciphertext. -/
def cbcEnc (c : BlockCipher) (iv d : Bytes) : Bytes :=
  ((blocksOf c d).foldl (fun (p : Bytes × List Bytes) b =>
    let e := c.enc (xorBytes b p.1)
    (e, e :: p.2)) (iv, [])).2.reverse.flatten
/-- CBC decryption. -/
def cbcDec (c : BlockCipher) (iv d : Bytes) : Bytes :=
  ((blocksOf c d).foldl (fun (p : Bytes × List Bytes) b =>
    (b, xorBytes (c.dec b) p.1 :: p.2)) (iv, [])).2.reverse.flatten

/-- CTR with the whole block as a big-endian counter. -/
def ctrMode (c : BlockCipher) (iv d : Bytes) : Bytes :=
  let n := ofBE iv
  ((List.range (ceilDiv d.length c.len)).flatMap (fun i =>
    xorBytes ((d.drop (i * c.len)).take c.len) (c.enc (beBytes c.len ((n + i) % 2 ^ (8 * c.len))))))

/-- Doubling in GF(2^(8·len)) for CMAC. -/
def cmacDouble (len : Nat) (b : Bytes) : Bytes :=
  let n := ofBE b
  let d := 2 * n % 2 ^ (8 * len)
  beBytes len (if n ≥ 2 ^ (8 * len - 1) then d ^^^ (if len = 16 then 0x87 else 0x1B) else d)

/-- CMAC, full length. -/
def cmac (c : BlockCipher) (msg : Bytes) : Bytes :=
  let k1 := cmacDouble c.len (c.enc (zeros c.len))
  let k2 := cmacDouble c.len k1
  let n := max 1 (ceilDiv msg.length c.len)
  let last := msg.drop ((n - 1) * c.len)
  let lastB := if last.length = c.len then xorBytes last k1
    else xorBytes (last ++ 0x80#8 :: zeros (c.len - last.length - 1)) k2
  let st := (chunks c.len (n - 1) msg).foldl (fun s b => c.enc (xorBytes s b)) (zeros c.len)
  c.enc (xorBytes st lastB)

/-- AES-XTS of whole blocks under a key pair and a tweak number: block `i` is whitened with the encrypted tweak times the i-th power of the primitive element (SP 800-38E). -/
def xtsEnc (data tweak : BlockCipher) (n : Nat) (msg : Bytes) : Bytes :=
  let twice := fun (t : Nat) => (2 * t) % 2 ^ 128 ^^^ (if 2 ^ 127 ≤ t then 0x87 else 0)
  ((chunks 16 (msg.length / 16) msg).foldl (fun (p : Bytes × Nat) b =>
    let w := leBytes 16 p.2
    (p.1 ++ xorBytes (data.enc (xorBytes b w)) w, twice p.2)) ([], ofLE (tweak.enc (leBytes 16 n)))).1

/-- Multiplication in the GCM field (bit 0 the most significant). -/
def ghashMul (x y : Nat) : Nat :=
  ((List.range 128).foldl (fun (p : Nat × Nat) i =>
    let z := if x / 2 ^ (127 - i) % 2 = 1 then p.1 ^^^ p.2 else p.1
    let v := if p.2 % 2 = 1 then (p.2 / 2) ^^^ (0xE1 * 2 ^ 120) else p.2 / 2
    (z, v)) (0, y)).1

/-- GHASH of whole blocks from a starting value. -/
def ghash (h y : Nat) (d : Bytes) : Nat :=
  (chunks 16 (d.length / 16) d).foldl (fun s b => ghashMul (s ^^^ ofBE b) h) y

/-- The GCM counter block 1 for a 96-bit IV, or by GHASH for another length. -/
def gcmJ0 (c : BlockCipher) (iv : Bytes) : Bytes :=
  if iv.length = 12 then iv ++ beBytes 4 1
  else beBytes 16 (ghash (ofBE (c.enc (zeros 16))) 0 (padTo 16 iv ++ zeros 8 ++ beBytes 8 (8 * iv.length)))

/-- GCM's CTR with a 32-bit counter: `skip` counter blocks after J0 + 1 are passed over. -/
def gctr (c : BlockCipher) (j0 : Bytes) (skip : Nat) (d : Bytes) : Bytes :=
  let hi := j0.take 12
  let n := ofBE (j0.drop 12)
  (List.range (ceilDiv d.length 16)).flatMap (fun i =>
    xorBytes ((d.drop (16 * i)).take 16) (c.enc (hi ++ beBytes 4 ((n + 1 + skip + i) % 2 ^ 32))))

/-- The 16-byte GCM tag over associated data and ciphertext. -/
def gcmTag (c : BlockCipher) (j0 aad ct : Bytes) : Bytes :=
  let h := ofBE (c.enc (zeros 16))
  let s := ghash h 0 (padTo 16 aad ++ padTo 16 ct ++ beBytes 8 (8 * aad.length) ++ beBytes 8 (8 * ct.length))
  xorBytes (beBytes 16 s) (c.enc j0)

/-- GCM sealing: ciphertext and 16-byte tag. -/
def gcmSeal (c : BlockCipher) (iv aad pt : Bytes) : Bytes × Bytes :=
  let j0 := gcmJ0 c iv
  let ct := gctr c j0 0 pt
  (ct, gcmTag c j0 aad ct)

/-- GCM opening: the plaintext and the tag it must carry. -/
def gcmOpen (c : BlockCipher) (iv aad ct : Bytes) : Bytes × Bytes :=
  let j0 := gcmJ0 c iv
  (gctr c j0 0 ct, gcmTag c j0 aad ct)

/-- The wrapping function W of SP 800-38F over semiblocks (A first). -/
def kwpW (c : BlockCipher) (s : List Bytes) : List Bytes :=
  let n := s.length - 1
  (List.range (6 * n)).foldl (fun st t =>
    match st with
    | a :: r :: rest =>
      let e := c.enc (a ++ r)
      (xorBytes (e.take 8) (beBytes 8 (t + 1))) :: (rest ++ [e.drop 8])
    | l => l) s

/-- The inverse of W. -/
def kwpInvW (c : BlockCipher) (s : List Bytes) : List Bytes :=
  let n := s.length - 1
  (List.range (6 * n)).foldl (fun st t =>
    match st with
    | a :: rest =>
      match rest.reverse with
      | last :: front =>
        let d := c.dec (xorBytes a (beBytes 8 (6 * n - t)) ++ last)
        d.take 8 :: d.drop 8 :: front.reverse
      | [] => st
    | [] => []) s

/-- AES-KWP wrapping. -/
def kwpWrap (key pt : Bytes) : Bytes :=
  let c := aesOf key
  let a := [0xA6#8, 0x59#8, 0x59#8, 0xA6#8] ++ beBytes 4 pt.length
  let p := padTo 8 pt
  if p.length = 8 then c.enc (a ++ p) else (kwpW c (a :: chunks 8 (p.length / 8) p)).flatten

/-- AES-KWP unwrapping, `none` when the integrity check fails. -/
def kwpUnwrap (key ct : Bytes) : Option Bytes :=
  let c := aesOf key
  if ct.length < 16 ∨ ct.length % 8 ≠ 0 then none
  else
    let s := if ct.length = 16 then c.dec ct else (kwpInvW c (chunks 8 (ct.length / 8) ct)).flatten
    let n := ofBE ((s.drop 4).take 4)
    let body := s.drop 8
    if s.take 4 = [0xA6#8, 0x59#8, 0x59#8, 0xA6#8] ∧ n ≤ body.length ∧ body.length < n + 8 ∧ allZero (body.drop n) then
      some (body.take n)
    else none

/-- ISO/IEC 9797-1 padding method 1 (zeros, at least one block) or 2 (0x80 and zeros). -/
def isoPad (method len : Nat) (d : Bytes) : Bytes :=
  if method = 2 then padTo len (d ++ [0x80#8]) else if d = [] then zeros len else padTo len d

/-- ISO/IEC 9797-1 algorithm 1 over padded data: the whole last block. -/
def isoMac1 (c : BlockCipher) (d : Bytes) : Bytes := (blocksOf c d).foldl (fun s b => c.enc (xorBytes s b)) (zeros c.len)

/-- ISO/IEC 9797-1 algorithm 3 (retail MAC) under a 16-byte TDES key, over padded data. -/
def isoMac3 (key d : Bytes) : Bytes :=
  let k1 := key.take 8; let k2 := (key.drop 8).take 8
  let s := (chunks 8 (d.length / 8) d).foldl (fun s b => desEnc k1 (xorBytes s b)) (zeros 8)
  desEnc k1 (desDec k2 s)

end Sys2Proof.Machine
end

