-- ==== Sys2Proof/Machine/CryptoHash.lean ====
section
/-!
DEFINITION. SHA-2, SHA-3, SHAKE and HMAC (FIPS 180-4, FIPS 202, FIPS 198-1), which the spec names and does not restate (log 14).
-/

namespace Sys2Proof.Machine

/-- `n` words of `w` bits read from one packed number, most significant word first. -/
def packedWords (w n : Nat) (x : Nat) : List (BitVec w) :=
  (List.range n).map (fun i => BitVec.ofNat w (x >>> (w * (n - 1 - i))))

/-- The leading half of each 64-bit word: SHA-256 takes its constants from those of SHA-512 so (FIPS 180-4). -/
def leadingHalves (l : List (BitVec 64)) : List (BitVec 32) := l.map (fun x => x.extractLsb' 32 32)

/-- SHA-512 round constants, ten words to a packed number (FIPS 180-4, log 14). -/
def shaK64 : List (BitVec 64) :=
  [0x428a2f98d728ae227137449123ef65cdb5c0fbcfec4d3b2fe9b5dba58189dbbc3956c25bf348b53859f111f1b605d019923f82a4af194f9bab1c5ed5da6d8118d807aa98a303024212835b0145706fbe,
   0x243185be4ee4b28c550c7dc3d5ffb4e272be5d74f27b896f80deb1fe3b1696b19bdc06a725c71235c19bf174cf692694e49b69c19ef14ad2efbe4786384f25e30fc19dc68b8cd5b5240ca1cc77ac9c65,
   0x2de92c6f592b02754a7484aa6ea6e4835cb0a9dcbd41fbd476f988da831153b5983e5152ee66dfaba831c66d2db43210b00327c898fb213fbf597fc7beef0ee4c6e00bf33da88fc2d5a79147930aa725,
   0x06ca6351e003826f142929670a0e6e7027b70a8546d22ffc2e1b21385c26c9264d2c6dfc5ac42aed53380d139d95b3df650a73548baf63de766a0abb3c77b2a881c2c92e47edaee692722c851482353b,
   0xa2bfe8a14cf10364a81a664bbc423001c24b8b70d0f89791c76c51a30654be30d192e819d6ef5218d69906245565a910f40e35855771202a106aa07032bbd1b819a4c116b8d2d0c81e376c085141ab53,
   0x2748774cdf8eeb9934b0bcb5e19b48a8391c0cb3c5c95a634ed8aa4ae3418acb5b9cca4f7763e373682e6ff3d6b2b8a3748f82ee5defb2fc78a5636f43172f6084c87814a1f0ab728cc702081a6439ec,
   0x90befffa23631e28a4506cebde82bde9bef9a3f7b2c67915c67178f2e372532bca273eceea26619cd186b8c721c0c207eada7dd6cde0eb1ef57d4f7fee6ed17806f067aa72176fba0a637dc5a2c898a6,
   0x113f9804bef90dae1b710b35131c471b28db77f523047d8432caab7b40c724933c9ebe0a15c9bebc431d67c49c100d4c4cc5d4becb3e42b6597f299cfc657e2a5fcb6fab3ad6faec6c44198c4a475817].flatMap (packedWords 64 10)

/-- SHA-256 round constants: the leading halves of the first 64 of SHA-512. -/
def shaK32 : List (BitVec 32) := leadingHalves (shaK64.take 64)

/-- SHA-512 initial value. -/
def shaH512 : List (BitVec 64) := packedWords 64 8
  0x6a09e667f3bcc908bb67ae8584caa73b3c6ef372fe94f82ba54ff53a5f1d36f1510e527fade682d19b05688c2b3e6c1f1f83d9abfb41bd6b5be0cd19137e2179

/-- SHA-256 initial value. -/
def shaH256 : List (BitVec 32) := leadingHalves shaH512

/-- SHA-384 initial value. -/
def shaH384 : List (BitVec 64) := packedWords 64 8
  0xcbbb9d5dc1059ed8629a292a367cd5079159015a3070dd17152fecd8f70e593967332667ffc00b318eb44a8768581511db0c2e0d64f98fa747b5481dbefa4fa4

/-- A Sigma function of SHA-2: three rotations, of which the schedule's replace the last by a shift (FIPS 180-4). -/
def shaSigma {w : Nat} (shifts : Bool) (r : Nat × Nat × Nat) (x : BitVec w) : BitVec w :=
  let last := if shifts then x >>> r.2.2 else x.rotateRight r.2.2
  [r.1, r.2.1].foldl (fun acc n => acc ^^^ x.rotateRight n) last

/-- What sets one SHA-2 function of word width `w` apart: its constants and the rotation counts of its four Sigma functions. -/
structure ShaForm (w : Nat) where
  /-- Round constants, one per round. -/
  consts : List (BitVec w)
  /-- The schedule's two functions. -/
  small : (Nat × Nat × Nat) × (Nat × Nat × Nat)
  /-- The rounds' two functions. -/
  big : (Nat × Nat × Nat) × (Nat × Nat × Nat)

/-- SHA-256. -/
def shaForm32 : ShaForm 32 :=
  { consts := shaK32, small := ((7, 18, 3), (17, 19, 10)), big := ((2, 13, 22), (6, 11, 25)) }

/-- SHA-384 and SHA-512. -/
def shaForm64 : ShaForm 64 :=
  { consts := shaK64, small := ((1, 8, 7), (19, 61, 6)), big := ((28, 34, 39), (14, 18, 41)) }

/-- One more word at the head of a schedule held newest word first. -/
def shaNextWord {w : Nat} (p : ShaForm w) (ws : List (BitVec w)) : BitVec w :=
  let back := fun n => ws.getD (n - 1) 0
  back 16 + shaSigma true p.small.1 (back 15) + back 7 + shaSigma true p.small.2 (back 2)

/-- The whole schedule of a block, oldest word first. -/
def shaSchedule {w : Nat} (p : ShaForm w) (block : Bytes) : List (BitVec w) :=
  let given := (chunks (w / 8) 16 block).map (fun c => BitVec.ofNat w (ofBE c))
  ((List.range (p.consts.length - 16)).foldl (fun ws _ => shaNextWord p ws :: ws) given.reverse).reverse

/-- One round on the eight working words, with the round's constant and schedule word summed in `kw`. -/
def shaRound {w : Nat} (p : ShaForm w) (v : List (BitVec w)) (kw : BitVec w) : List (BitVec w) :=
  let at_ := fun i => v.getD i 0
  let choice := at_ 6 ^^^ (at_ 4 &&& (at_ 5 ^^^ at_ 6))
  let majority := (at_ 0 &&& (at_ 1 ||| at_ 2)) ||| (at_ 1 &&& at_ 2)
  let low := kw + choice + shaSigma false p.big.2 (at_ 4) + at_ 7
  (low + majority + shaSigma false p.big.1 (at_ 0)) :: (v.take 3 ++ ((low + at_ 3) :: (v.drop 4).take 3))

/-- The chaining value after one block. -/
def shaBlock {w : Nat} (p : ShaForm w) (chain : List (BitVec w)) (block : Bytes) : List (BitVec w) :=
  List.zipWith (· + ·) chain ((List.zipWith (· + ·) p.consts (shaSchedule p block)).foldl (shaRound p) chain)

/-- Merkle-Damgaard padding to blocks of `blk` bytes, with a length field of `lf` bytes. -/
def shaPad (blk lf : Nat) (msgLen : Nat) : Bytes :=
  let z := (blk - (msgLen + 1 + lf) % blk) % blk
  0x80#8 :: (zeros z ++ beBytes lf (8 * msgLen))

/-- Whole blocks absorbed into a chaining value; a block is 16 words. -/
def shaAbsorb {w : Nat} (p : ShaForm w) (chain : List (BitVec w)) (data : Bytes) : List (BitVec w) :=
  (chunks (2 * w) (data.length / (2 * w)) data).foldl (shaBlock p) chain

/-- The bytes of a chaining value. -/
def shaBytes {w : Nat} (chain : List (BitVec w)) : Bytes := chain.flatMap (fun x => beBytes (w / 8) x.toNat)

/-- The chaining value that eight words of bytes hold. -/
def shaChain (w : Nat) (b : Bytes) : List (BitVec w) := (chunks (w / 8) 8 b).map (fun c => BitVec.ofNat w (ofBE c))

/-- The chaining value after a padded message, as bytes; the length field is two words. -/
def shaDigest {w : Nat} (p : ShaForm w) (start : List (BitVec w)) (msg : Bytes) : Bytes :=
  shaBytes (shaAbsorb p start (msg ++ shaPad (2 * w) (w / 4) msg.length))

/-- SHA-256. -/
def sha256 (msg : Bytes) : Bytes := shaDigest shaForm32 shaH256 msg

/-- SHA-512. -/
def sha512 (msg : Bytes) : Bytes := shaDigest shaForm64 shaH512 msg

/-- SHA-384. -/
def sha384 (msg : Bytes) : Bytes := (shaDigest shaForm64 shaH384 msg).take 48

/-- The rounds of SHA-1 over the schedule words, with their round numbers. -/
def sha1Rounds : List (BitVec 32 × Nat) → List (BitVec 32) → List (BitVec 32)
  | [], v => v
  | (w, i) :: t, v =>
    match v with
    | [a, b, c, d, e] =>
      let (f, k) : BitVec 32 × BitVec 32 :=
        if i < 20 then ((b &&& c) ||| (~~~b &&& d), 0x5A827999)
        else if i < 40 then (b ^^^ c ^^^ d, 0x6ED9EBA1)
        else if i < 60 then ((b &&& c) ||| (b &&& d) ||| (c &&& d), 0x8F1BBCDC)
        else (b ^^^ c ^^^ d, 0xCA62C1D6)
      sha1Rounds t [a.rotateLeft 5 + f + e + k + w, a, b.rotateLeft 30, c, d]
    | _ => v

/-- The schedule of SHA-1, newest word at the head. -/
def sha1Schedule : Nat → List (BitVec 32) → List (BitVec 32)
  | 0, ws => ws
  | n + 1, ws => sha1Schedule n ((ws.getD 2 0 ^^^ ws.getD 7 0 ^^^ ws.getD 13 0 ^^^ ws.getD 15 0).rotateLeft 1 :: ws)

/-- SHA-1 compression of one 64-byte block. -/
def sha1Block (h : List (BitVec 32)) (block : Bytes) : List (BitVec 32) :=
  let ws := (chunks 4 16 block).map (fun c => BitVec.ofNat 32 (ofBE c))
  List.zipWith (· + ·) h (sha1Rounds (sha1Schedule 64 ws.reverse).reverse.zipIdx h)

/-- SHA-1, which option B of the EMV master-key derivation uses (R128). -/
def sha1 (msg : Bytes) : Bytes :=
  let p := msg ++ shaPad 64 8 msg.length
  ((chunks 64 (p.length / 64) p).foldl sha1Block [0x67452301, 0xEFCDAB89, 0x98BADCFE, 0x10325476, 0xC3D2E1F0]).flatMap (fun x => beBytes 4 x.toNat)

/-- Keccak round constants by the LFSR of FIPS 202. -/
def keccakRc (round : Nat) : BitVec 64 :=
  let bits := (List.range (7 * round + 7)).foldl (fun (st : Nat × List Bool) _ =>
      let r := st.1
      let r2 := 2 * r
      (if r2 ≥ 256 then (r2 ^^^ 0x71) % 256 else r2, (r % 2 == 1) :: st.2)) (1, [])
  let out := bits.2.reverse
  (List.range 7).foldl (fun (v : BitVec 64) j =>
    if out.getD (7 * round + j) false then v ^^^ (1#64 <<< (2 ^ j - 1)) else v) 0

/-- Rotation offsets of lanes (x, y), as FIPS 202 computes them. -/
def keccakRho : List (Nat × Nat) :=
  ((List.range 24).foldl (fun (st : (Nat × Nat) × List (Nat × Nat)) t =>
    let x := st.1.1; let y := st.1.2
    ((y, (2 * x + 3 * y) % 5), (x + 5 * y, ((t + 1) * (t + 2) / 2) % 64) :: st.2)) ((1, 0), [(0, 0)])).2

/-- One Keccak-f[1600] round. -/
def keccakRound (a : List (BitVec 64)) (round : Nat) : List (BitVec 64) :=
  let g := fun x y => a.getD (x % 5 + 5 * (y % 5)) 0
  let c := (List.range 5).map (fun x => g x 0 ^^^ g x 1 ^^^ g x 2 ^^^ g x 3 ^^^ g x 4)
  let d := (List.range 5).map (fun x => c.getD ((x + 4) % 5) 0 ^^^ (c.getD ((x + 1) % 5) 0).rotateLeft 1)
  let th := (List.range 25).map (fun i => a.getD i 0 ^^^ d.getD (i % 5) 0)
  let rho := fun i => (th.getD i 0).rotateLeft (((keccakRho.find? (fun p => p.1 == i)).map (·.2)).getD 0)
  -- pi: B[y, 2x+3y] = rot(A[x, y]); read back: B[X, Y] with x = X + 3Y, y = X
  let b := (List.range 25).map (fun j => let x := j % 5; let y := j / 5; rho ((x + 3 * y) % 5 + 5 * x))
  let h := fun x y => b.getD (x % 5 + 5 * y) 0
  (List.range 25).map (fun j => let x := j % 5; let y := j / 5
    let v := h x y ^^^ (~~~(h (x + 1) y) &&& h (x + 2) y)
    if j == 0 then v ^^^ keccakRc round else v)

/-- Keccak-f[1600] on 25 lanes. -/
def keccakF (a : List (BitVec 64)) : List (BitVec 64) := (List.range 24).foldl keccakRound a

/-- The state after absorbing a padded message at rate `rate` bytes. -/
def keccakAbsorb (rate : Nat) (p : Bytes) : List (BitVec 64) :=
  (chunks rate (p.length / rate) p).foldl (fun st blk =>
    let ls := (chunks 8 25 (blk ++ zeros (200 - rate))).map (fun c => BitVec.ofNat 64 (ofLE c))
    keccakF (List.zipWith (· ^^^ ·) st ls)) (List.replicate 25 0)

/-- Squeezes `n` blocks of `rate` bytes. -/
def keccakSqueeze (rate : Nat) : Nat → List (BitVec 64) → Bytes
  | 0, _ => []
  | n + 1, st => ((st.flatMap (fun x => leBytes 8 x.toNat)).take rate) ++ keccakSqueeze rate n (keccakF st)

/-- The sponge with domain byte `dom` and `out` bytes of output. -/
def keccak (rate : Nat) (dom : Byte) (msg : Bytes) (out : Nat) : Bytes :=
  let z := rate - (msg.length + 1) % rate
  let pad := if z == rate then [dom ||| 0x80#8] else dom :: (zeros (z - 1) ++ [0x80#8])
  (keccakSqueeze rate ((out + rate - 1) / rate) (keccakAbsorb rate (msg ++ pad))).take out

/-- SHA3-256. -/
def sha3_256 (msg : Bytes) : Bytes := keccak 136 0x06#8 msg 32
/-- SHA3-512. -/
def sha3_512 (msg : Bytes) : Bytes := keccak 72 0x06#8 msg 64
/-- SHAKE128 with `n` bytes of output. -/
def shake128 (msg : Bytes) (n : Nat) : Bytes := keccak 168 0x1F#8 msg n
/-- SHAKE256 with `n` bytes of output. -/
def shake256 (msg : Bytes) (n : Nat) : Bytes := keccak 136 0x1F#8 msg n

/-- HMAC over a hash function with block length `blk`. -/
def hmacWith (h : Bytes → Bytes) (blk : Nat) (key msg : Bytes) : Bytes :=
  let k := if key.length > blk then h key else key
  let k := k ++ zeros (blk - k.length)
  h (k.map (· ^^^ 0x5C#8) ++ h (k.map (· ^^^ 0x36#8) ++ msg))

/-- HMAC-SHA-256. -/
def hmacSha256 (key msg : Bytes) : Bytes := hmacWith sha256 64 key msg
/-- HMAC-SHA-384. -/
def hmacSha384 (key msg : Bytes) : Bytes := hmacWith sha384 128 key msg

end Sys2Proof.Machine
end

