-- ==== Sys2Proof/Config.lean ====
section
/-!
DEFINITION. What one unit or one implementation fixes, and the values the spec leaves open: constants without a body.
-/

namespace Sys2Proof.Config

/-- The 128-bit module serial, fused at manufacture (R178, R348). -/
opaque serial : BitVec 128

/-- The 256-bit device secret, fused at manufacture (R177, R178). -/
opaque deviceSecret : BitVec 256

/-- The 24-bit nonce unit number, fused at manufacture (R221, Table 8-7). -/
opaque nonceUnit : BitVec 24

/-- The substitute test root T of the boot region (R181). -/
opaque testRoot : BitVec 256

/-- The fused SHA-256 digest of the token of class `c`; UNLOCK_i is class 16 + i (R349). -/
opaque tokenDigest (c : Nat) : BitVec 256

/-- The fused SHA-384 digest of the debug authority's public key (R355). -/
opaque debugAuthorityDigest : BitVec 384

/-- Byte `i` of the identity certificate chain held in the boot region, for the production (0) or the test (1) authority (R411). -/
opaque certificateByte (chain i : Nat) : Byte

/-- Byte `i` of this module's span certificate: the span root's signature over module ID, serial and identity key, which the module holds (R305). -/
opaque spanCertificateByte (i : Nat) : Byte

/-- Length of certificate chain `chain` in bytes. -/
opaque certificateLen (chain : Nat) : BitVec 12

/-- SHA-384 digest of the boot region code (measurement 1 of Table 17-6). -/
opaque bootDigest : BitVec 384

/-- The jitter of the always-on RC oscillator that seeds the 31-bit loop generator at power-up number `n` (R338). -/
opaque loopSeed (n : Nat) : BitVec 31

/-- The next-state function of the 31-bit loop generator, which the spec leaves open (R338). -/
opaque loopNext (g : BitVec 31) : BitVec 31

/-- Expected drive level of loop or mesh `i` under generator state `g` (R338: each has its own pattern). -/
opaque loopLevel (g : BitVec 31) (i : Nat) : Bool

/-- Byte `i` of a version number of a management protocol that the spec names without its version: `p` is 0 for MCTP control, 1 MCTP PLDM, 2 MCTP SPDM, 3 MCTP vendor defined, 16 + t PLDM type t (R408). -/
opaque protocolVersion (p i : Nat) : Byte

/-- Meraugen's PCI vendor ID (Table 3-1). -/
opaque vendorId : BitVec 16

/-- The PLDM ID of the state sensor for the mode (R408). -/
opaque modeSensor : BitVec 16

/-- The PLDM ID of the state sensor for the tamper latch (R408). -/
opaque tamperSensor : BitVec 16

/-- Whether the PDR repository holds a record of handle `h` (R408). -/
opaque pdrHeld (h : Nat) : Bool

/-- Length of a PDR (R408). -/
opaque pdrLen (h : Nat) : BitVec 8

/-- Byte `i` of a PDR (R408). -/
opaque pdrByte (h i : Nat) : Byte

/-- Byte `i` of the description of the PDR repository (R408). -/
opaque pdrInfoByte (i : Nat) : Byte

/-- A free byte: value `i` of the `n`-th value the spec leaves open (the counter is `State.freeCount`). -/
opaque freeByte (n i : Nat) : Byte

/-- A free natural number, for the `n`-th value the spec leaves open. -/
opaque freeNat (n : Nat) : Nat

/-- One sample enters a source's 256-bit LFSR compressor: Table 11-1 gives no feedback taps. -/
opaque lfsrStep (lfsr : BitVec 256) (sample : Bool) : BitVec 256

/-- The jitter and tag generators of the sampling and trace units, which the spec leaves open (R424, R425): step. -/
opaque samplerNext (g : BitVec 32) : BitVec 32

/-- The seed such a generator takes at its `n`-th enable (R424, R425). -/
opaque samplerSeed (n : Nat) : BitVec 32

/-- The keystream of the mask generator is internal to an engine; this is the seed it draws (R215), indexed by draw. -/
opaque maskSeed (wing n : Nat) : BitVec 256

/-- Blocks that a function puts through the cipher engine, by function code and frame length (R215). -/
opaque functionBlocks (function length : Nat) : BitVec 13

/-- The place of physical record `unit` of a slot in the Vitrine region, in records of 256 bytes: the module allocates it (R171, R172). -/
opaque recordPlace (gallery slot unit : Nat) : BitVec 24

/-- Byte `i` of the 16 bytes before the material of a continuation record (R172). -/
opaque continuationByte (gallery slot unit i : Nat) : Byte

/-- The 8-byte Reed-Solomon check of a line, whose code the spec does not give (R182). -/
opaque lineCheck (line : List Byte) : BitVec 64

/-- Address of an inner node's line of the MAC tree, by level and number (R182). -/
opaque treeAddress (level node : Nat) : BitVec 64

/-- The key under which KEYBLOCK_IMPORT derives its padding: R137 names it as derived from the local wrapping key and gives no derivation. -/
opaque paddingKey (localKey : Bytes) : BitVec 256

/-- The KCV of an HMAC key: Table 5-1 gives one for TDES and AES keys only. -/
opaque hmacKcv (key : Bytes) : BitVec 64

/-- The initial key ID that DUKPT_ORIGINATE reports for a B1 key that arrived without an IK or KS block, by gallery and slot. -/
opaque initialKeyId (gallery slot : Nat) : BitVec 80

/-- The VF whose row a gallery ID of 2^20 or above names in GALLERY_RIGHTS; 0: none. The spec lets the function edit VF rows (R43, R399) and does not say how it names one. -/
opaque vfNamedBy (id : Nat) : Nat

/-- Whether a link between two other modules is up at module time `at_`, the link that ends at port `port` of `module`: each module routes on the links that are up, and no frame of Table 12-5 is said to tell it (R308). -/
opaque farLinkUp (module port at_ : Nat) : Bool

/-- The current hop latency, in ns, of such a link: its own ends measure it (R308). -/
opaque farHopNs (module port at_ : Nat) : Nat

/-- LENGTH of the link frame that a port sends under COUNTER `n`: the spec gives no type of frame a payload layout (R306). -/
opaque framePayloadLen (port n : Nat) : BitVec 12

/-- Byte `i` of that payload. -/
opaque framePayloadByte (port n i : Nat) : Byte

/-- REF of a frame that carries no delta number: a stream identity and sequence number as its type defines, which the spec does not lay out (Table 12-4). -/
opaque frameRef (port n : Nat) : BitVec 64

/-- Byte `i` of the tag of a frame sent before its port has hop keys: R306 gives every frame a tag, and R305 no key for the first handshake. -/
opaque frameFirstTag (port n i : Nat) : Byte

/-- FEC codewords that a port could not correct between the last frame it accepted and the one with COUNTER `n`: no command brings them (Table 12-10). -/
opaque fecFailures (port n : Nat) : Nat

/-- Byte `i` of the nonce of a frame's second encryption, which R307 does not give. -/
opaque farNonceByte (port n i : Nat) : Byte

end Sys2Proof.Config
end

