-- ==== Sys2Proof/Machine/CounterState.lean ====
section
/-!
DEFINITION. Counters, slot accounting, sampling and tracing (spec 18). Each field's comment ends with its width, the rule that names it and its reset value, which is the default given here.
-/

namespace Sys2Proof.Machine

/-- One wing counter (R421, Table 18-4). -/
structure WingCounter where
  /-- DOC_CNT_CFGn.EVENT | 8 bits | 18 Table 18-4 | 0 -/
  event : Nat := 0
  /-- DOC_CNT_CFGn.CHAIN | 1 bit | 18 Table 18-4 | 0 -/
  chain : Bool := false
  /-- DOC_CNT_CFGn.GAL_FILTER | 1 bit | 18 Table 18-4 | 0 -/
  filter : Bool := false
  /-- DOC_CNT_CFGn.GALLERY | 20 bits | 18 Table 18-4 | 0 -/
  gallery : Nat := 0
  /-- live count | 48 bits | 18 R421 | 0 -/
  live : Nat := 0
  /-- DOC_CNTn.COUNT, the shadow | 48 bits | 18 R420, Table 18-4 | 0 -/
  shadow : Nat := 0
  /-- DOC_CNT_OVF bit | 1 bit | 18 Table 18-4 | 0 -/
  ovf : Bool := false
  deriving DecidableEq, Repr, Inhabited

/-- The slot block of one cell: CYCLES, RETIRED, WASTED, FRONT, BACK, TAKE_WAIT, LOCK_WAIT, ENGINE_WAIT (Table 18-5). -/
structure SlotBlock where
  /-- live counts | 8 x 64 bits | 18 R423 | 0 -/
  live : List Nat := List.replicate 8 0
  /-- shadows | 8 x 64 bits | 18 R420, Table 18-5 | 0 -/
  shadow : List Nat := List.replicate 8 0
  deriving DecidableEq, Repr, Inhabited

/-- Counters and sampling. -/
structure Counters where
  /-- wing counters, by 8 x wing + n | 128 | 18 R421 | each as its own defaults -/
  wing : Map WingCounter := []
  /-- slot blocks, by cell | 128 | 18 R423 | each as its own defaults -/
  slots : Map SlotBlock := []
  /-- DOC_CNT_CTL.FREEZE | 1 bit | 18 Table 18-2 | 0 -/
  freeze : Bool := false
  /-- DOC_CNT_CTL.SNAP_US | 32 bits | 18 Table 18-2 | 0 -/
  snapUs : Nat := 0
  /-- GAL_LAT shadows, by 32 x homed index + bin | 64 bits each | 18 R420, R426 | 0 -/
  latShadow : Map Nat := []
  /-- GAL_LAT_SEL.INDEX | 12 bits | 18 R426 | 0 -/
  latSel : Nat := 0
  /-- DOC_SAMP_CTL.ENABLE | 1 bit | 18 Table 18-6 | 0 -/
  sampEnable : Bool := false
  /-- DOC_SAMP_CTL.RING | 1 bit | 18 Table 18-6 | 0 -/
  sampRing : Bool := false
  /-- DOC_SAMP_CTL.JITTER | 1 bit | 18 Table 18-6 | 0 -/
  sampJitter : Bool := false
  /-- DOC_SAMP_CTL.PERIOD | 24 bits | 18 Table 18-6 | 0 -/
  sampPeriod : Nat := 0
  /-- DOC_SAMP_CTL.WINGS | 16 bits | 18 Table 18-6 | 0 -/
  sampWings : Nat := 0
  /-- sample records, by index | 512 x 32 bytes | 18 R424, Table 18-1 | none -/
  samples : Map Bytes := []
  /-- DOC_SAMP_STATUS.COUNT | 10 bits | 18 Table 18-6 | 0 -/
  sampCount : Nat := 0
  /-- DOC_SAMP_STATUS.NEXT | 9 bits | 18 Table 18-6 | 0 -/
  sampNext : Nat := 0
  /-- DOC_SAMP_STATUS.FULL | 1 bit | 18 Table 18-6 | 0 -/
  sampFull : Bool := false
  /-- DOC_SAMP_STATUS.LOST | 32 bits | 18 Table 18-6 | 0 -/
  sampLost : Nat := 0
  /-- jitter generator | seeded at each enable | 18 R424 | 0 -/
  sampGen : BitVec 32 := 0
  /-- jitter added to the present period, by cell | 8 bits each | 18 R424 | 0 -/
  sampAdd : Map Nat := []
  /-- DOC_TRACE_CTL.ENABLE | 1 bit | 18 Table 18-8 | 0 -/
  traceEnable : Bool := false
  /-- DOC_TRACE_CTL.RING | 1 bit | 18 Table 18-8 | 0 -/
  traceRing : Bool := false
  /-- DOC_TRACE_CTL.RATE | 4 bits | 18 Table 18-8 | 0 -/
  traceRate : Nat := 0
  /-- DOC_TRACE_CTL.HOLDER | 1 bit | 18 Table 18-8 | 1 -/
  traceHolder : Bool := true
  /-- trace records, by index | 256 x 64 bytes | 18 R425, Table 18-1 | none -/
  traces : Map Bytes := []
  /-- DOC_TRACE_STATUS.COUNT | 9 bits | 18 Table 18-8 | 0 -/
  traceCount : Nat := 0
  /-- DOC_TRACE_STATUS.NEXT | 8 bits | 18 Table 18-8 | 0 -/
  traceNext : Nat := 0
  /-- DOC_TRACE_STATUS.FULL | 1 bit | 18 Table 18-8 | 0 -/
  traceFull : Bool := false
  /-- DOC_TRACE_STATUS.LOST | 32 bits | 18 Table 18-8 | 0 -/
  traceLost : Nat := 0
  /-- tag generator | seeded at each enable | 18 R425 | 0 -/
  traceGen : BitVec 32 := 0
  /-- time up to which a cell's cycles are counted, by cell | ns | 18 R423 | 0 -/
  cellAt : Map Nat := []
  /-- fabric cycles since START up to `fabFrom` | counter | 18 Table 18-7 | 0 -/
  fabCycles : Nat := 0
  /-- time up to which fabric cycles are counted | ns | 18 Table 18-7 | 0 -/
  fabFrom : Nat := 0
  /-- enables so far, which index the generator seeds | counter | 18 R424, R425 | 0 -/
  enables : Nat := 0
  deriving DecidableEq, Repr, Inhabited

end Sys2Proof.Machine
end

