-- ==== Sys2Proof/Machine/CuratorState.lean ====
section
/-!
DEFINITION. The Curator (spec 17): event log, sensors, mailbox, management protocols, update flow. Each field's comment ends with its width, the rule that names it and its reset value, which is the default given here.
-/

namespace Sys2Proof.Machine

/-- A sensor reading (Table 17-10). -/
structure Sensor where
  /-- VALUE | 16 bits, signed | 17 Table 17-10 | 0 -/
  value : Int := 0
  /-- VALID | 1 bit | 17 Table 17-10 | 0 -/
  valid : Bool := false
  /-- WARN | 1 bit | 17 Table 17-10 | 0 -/
  warn : Bool := false
  /-- CRIT | 1 bit | 17 Table 17-10 | 0 -/
  crit : Bool := false
  /-- time of the reading, for AGE_US | ns | 17 Table 17-10 | 0 -/
  at_ : Nat := 0
  deriving DecidableEq, Repr, Inhabited

/-- Where the update flow stands (R412): waiting for QUIESCE, open for the next component, or pulling a component's data. -/
inductive UpdatePhase where
  | asked
  | open_
  | pulling (component : Nat)
  deriving DecidableEq, Repr, Inhabited

/-- The update flow (R412). -/
structure Update where
  /-- phase | R412 | 17 R412 | asked -/
  phase : UpdatePhase
  /-- time of the last request of the agent | ns | 17 R412 | now -/
  lastRequest : Nat
  /-- components named by PassComponentTable | list | 17 R412 | none -/
  passed : List Nat
  /-- components whose staging began: their slots hold staged content | list | 17 R383, R412 | none -/
  touched : List Nat
  /-- components verified and applied | list | 17 R412 | none -/
  verified : List Nat
  deriving DecidableEq, Repr, Inhabited

/-- A management message answered, with the bus it arrived on. -/
structure Answered where
  bus : Nat
  reply : MgmtReply
  deriving DecidableEq, Repr, Inhabited

/-- An MCTP message of the PF: a reply, or a PLDM platform event with its sensor and reading (R57, R408, R409). -/
inductive MctpMsg where
  | reply (a : Answered)
  | event (id : Nat) (value : Int)
  deriving DecidableEq, Repr, Inhabited

/-- The Curator. -/
structure Curator where
  /-- SEQ of the last event log record | 64 bits | 17 R404 | 0 -/
  logSeq : Nat := 0
  /-- records in Curator SRAM, newest first | 4,096 of 64 bytes | 17 R404 | none -/
  logSram : List (Nat × Bytes) := []
  /-- records in the GDDR6 ring, newest first | 1,048,576 | 17 R404 | none -/
  logRing : List (Nat × Bytes) := []
  /-- records in the flash mirror, newest first | 262,144 | 17 R404 | none -/
  logMirror : List (Nat × Bytes) := []
  /-- records since the last checkpoint | counter | 17 R405 | 0 -/
  sinceCheckpoint : Nat := 0
  /-- CUR_STATE.CKPT_DEFERRED | 1 bit | 17 R406 | 0 -/
  deferred : Bool := false
  /-- CUR_LOG_SEL.SEQ | 64 bits | 17 Table 17-10 | 0 -/
  logSel : Nat := 0
  /-- records raised during a Curator restart, oldest first: type, source, data | list | 17 R417 | none -/
  buffered : List (Nat × Nat × Bytes) := []
  /-- sensors, by ID | 38 | 17 R403 | each as its own defaults -/
  sensors : Map Sensor := []
  /-- CUR_STATE.UPDATING: the update flow | optional | 17 R412 | none -/
  update : Option Update := none
  /-- CUR_STATE.SLOT | 1 bit | 17 Table 17-8 | 0 -/
  slot : Nat := 0
  /-- CUR_STATE.ARC_BURNING: pairs still to burn | count | 17 R413 | 0 -/
  arcToBurn : Nat := 0
  /-- CUR_STATE.RESTARTS | 16 bits | 17 Table 17-8 | 0 -/
  restarts : Nat := 0
  /-- the core is restarting, until this time | ns, optional | 17 R402 | none -/
  restarting : Option Nat := none
  /-- loaded firmware version, FW_VERSION its bits 31:0 | 64 bits | 17 Table 17-8 | 0 -/
  fwVersion : Nat := 0
  /-- that version has been loaded since PWRON_RESET_N, so that FW_VERSION shows it | 1 bit | 17 Table 17-8 | 0 -/
  fwLoaded : Bool := false
  /-- loaded firmware security version | 8 bits | 17 R412 | 0 -/
  fwSecurity : Nat := 0
  /-- digest of the loaded firmware image | 48 bytes | 17 Table 17-6 | empty -/
  fwDigest : Bytes := []
  /-- READY has risen on the loaded firmware since it was loaded | 1 bit | 17 R414 | 0 -/
  fwProven : Bool := false
  /-- a START on newly activated firmware ended in HALT: the slot to erase | 1 bit, optional | 17 R414 | none -/
  fwBad : Option Nat := none
  /-- CUR_MBOX.IN_LEN | 13 bits | 17 Table 17-9 | 0 -/
  inLen : Nat := 0
  /-- CUR_MBOX.SUBMIT | 1 bit | 17 Table 17-9 | 0 -/
  submit : Bool := false
  /-- mailbox inbound buffer | 4 KiB | 17 R416 | zeros -/
  inBuf : Mem := []
  /-- CUR_MBOX.OUT_LEN | 13 bits | 17 Table 17-9 | 0 -/
  outLen : Nat := 0
  /-- CUR_MBOX.OUT_VALID | 1 bit | 17 Table 17-9 | 0 -/
  outValid : Bool := false
  /-- mailbox outbound buffer | 4 KiB | 17 R416 | zeros -/
  outBuf : Mem := []
  /-- MCTP endpoint ID | 8 bits | 17 Table 17-4 | 0 -/
  eid : Nat := 0
  /-- PLDM terminus ID | 8 bits | 17 Table 17-4 | 0, DESIGN CHOICE (log 12) -/
  tid : Nat := 0
  /-- PLDM event receiver, its enable and address | 2 bytes | 17 Table 17-4 | 0 -/
  eventReceiver : Nat × Nat := (0, 0)
  /-- bus on which the event receiver is reached: that of its SETEVENTRECEIVER | 2 bits | 17 Table 17-4 | 0 -/
  eventBus : Nat := 0
  /-- SPDM: GET_VERSION, GET_CAPABILITIES, NEGOTIATE_ALGORITHMS answered so far | 2 bits | 17 Table 17-4 | 0 -/
  spdm : Nat := 0
  /-- SPDM transcript since GET_VERSION, for signatures | bytes | 17 R411 | empty -/
  transcript : Bytes := []
  /-- MCTP control errors sent for messages too long | counter | 17 R408 | 0 -/
  mctpErrors : Nat := 0
  /-- replies sent, oldest first | output | 17 R408 | none -/
  replies : List Answered := []
  /-- MCTP messages of the PF that wait for its Bus Master Enable, oldest first | list | 03 R57 | none -/
  mctpWaiting : List MctpMsg := []
  /-- PLDM platform events sent: sensor or state ID and its value | output | 17 Table 17-4 | none -/
  events : List (Nat × Int) := []
  deriving DecidableEq, Repr, Inhabited

end Sys2Proof.Machine
end

