-- ==== Sys2Proof/Machine/DocentState.lean ====
section
/-!
DEFINITION. The state of the Docent (spec 10): flows, descriptors, timers, observation registers. Each field's comment ends with its width, the rule that names it and its reset value.
-/

namespace Sys2Proof.Machine

/-- Where a command of a flow stands (R250). Ready and blocked commands share `queued`: which of the two follows from R252 to R254. -/
inductive CmdState where
  | queued
  | inService
  | parked (wait object : Nat)
  | done
  | released
  deriving DecidableEq, Repr, Inhabited

/-- One copy of a command in a cell's hands (R261). -/
structure Copy where
  cell : Nat
  secondary : Bool
  complete : Bool
  takenAt : Nat
  deriving DecidableEq, Repr, Inhabited

/-- Engine holds stamped for a traced command (Table 18-9): engine class, grant and release times. -/
structure HoldStamp where
  cls : Nat
  grantAt : Nat
  releaseAt : Option Nat
  deriving DecidableEq, Repr, Inhabited

/-- A descriptor (R249): one admitted command. -/
structure Desc where
  /-- the command's flow | 16 bits | 10 R249 | per command -/
  flow : Nat
  /-- sequence number | 48 bits | 04 R83 | per command -/
  seq : Nat
  /-- FUNCTION | 16 bits | 04 R83 | per command -/
  function : Nat
  /-- the frame, header and payload | 32 to 65,568 bytes | 04 R83, R85 | per command -/
  frame : Bytes
  /-- frame digest of R100 | 64 bits | 04 R100 | per command -/
  digest : Nat
  /-- the frame came through the large-frame port | 1 bit | 10 Table 10-4 | per command -/
  large : Bool := false
  /-- state | R250 | 10 R250 | per command -/
  st : CmdState := .queued
  /-- atomic class | 1 bit | 04 R95, R96 | per command -/
  atomic : Bool := false
  /-- originating class | 1 bit | 04 R95, R96 | per command -/
  originating : Bool := false
  /-- local class | 1 bit | 04 R95 | per command -/
  isLocal : Bool := false
  /-- priority after the ceiling | 3 bits | 04 R84 | per command -/
  prio : Nat := 0
  /-- re-dispatches, saturating at 7 | 3 bits | 04 R87 | 0 -/
  retry : Nat := 0
  /-- COMMAND-scope failures | counter | 13 R323 | 0 -/
  fails : Nat := 0
  /-- wings on which the command has failed | 16 bits | 13 R323 | none -/
  badWings : List Nat := []
  /-- tagged by its TRACE flag | 1 bit | 18 R425 | per command -/
  traceFlag : Bool := false
  /-- tagged at random | 1 bit | 18 R425 | per command -/
  traceRandom : Bool := false
  /-- time of the commit | ns | 01 R22, 18 Table 18-9 | per command -/
  commitAt : Nat := 0
  /-- time the position was taken (admission) | ns | 04 R94 | per command -/
  admitAt : Nat := 0
  /-- deadline expiry time | ns, optional | 04 R94, 10 R259 | per command -/
  deadline : Option Nat := none
  /-- the deadline timer has fired | 1 bit | 10 R257, R259 | 0 -/
  expired : Bool := false
  /-- the command has been taken once, so its deadline is not tested again | 1 bit | 13 R324 | 0 -/
  begun : Bool := false
  /-- a key-cache entry it held failed: the retry refetches its keys | 1 bit | 13 R320 | 0 -/
  refetch : Bool := false
  /-- out of position: released once the release point has reached this number | 48 bits, optional | 10 R263 | per command -/
  behind : Option Nat := none
  /-- copies in cells' hands, primary first | up to 2 | 10 R255, R261 | none -/
  copies : List Copy := []
  /-- dual dispatch applies to this command | 1 bit | 10 R261, R262 | 0 -/
  dual : Bool := false
  /-- time of the final VALID take | ns, optional | 18 Table 18-9 | none -/
  takeAt : Option Nat := none
  /-- cell of the final take, primary copy | 7 bits | 18 Table 18-9 | 0 -/
  cell : Nat := 0
  /-- hardware nonces that the primary copy has drawn in this take, for the secondary's | list | 08 R221, R227 | none -/
  nonces : List Nat := []
  /-- of these, the secondary copy has been given so many | counter | 08 R227 | 0 -/
  nonceTaken : Nat := 0
  /-- engine holds of the final take | list | 18 Table 18-9 | none -/
  holds : List HoldStamp := []
  /-- time of COMPLETE | ns, optional | 18 Table 18-9 | none -/
  doneAt : Option Nat := none
  /-- time of release | ns, optional | 18 Table 18-9 | none -/
  releaseAt : Option Nat := none
  /-- order of placement, or of parking | counter | 10 R258, R263 | 0 -/
  parkOrder : Nat := 0
  /-- order of placement, in which its deadline timer was inserted | counter | 10 R259 | 0 -/
  order : Nat := 0
  /-- order of the first take: the command's entry into service | counter, optional | 04 R97 | none -/
  entry : Option Nat := none
  /-- the park object has signalled: offered ahead of ready commands | 1 bit | 10 R258 | 0 -/
  signalled : Bool := false
  /-- gallery key-state generation seen at the first take | 32 bits, optional | 04 R98, 13 R324 | none -/
  keyGen : Option Nat := none
  /-- keys resolved at the first take, by handle position | up to 8 | 04 R93, R98 | none -/
  keys : List (Option HeldKey) := []
  /-- Vitrine records of the gallery as they stood at the first take | table | 04 R98 | none -/
  seen : Map VRecord := []
  /-- the gallery's descriptor as it stood at the first take | optional | 04 R98 | none -/
  seenDesc : Option Descriptor := none
  /-- what COUNTERS_READ returns, as it stood at the take | 640 bytes | 18 R428 | empty -/
  counts : Bytes := []
  /-- rights byte row of the gallery at the first take | 11 bytes | 02 R44, 04 R98 | per command -/
  rights : List Nat := []
  /-- gallery privileges at the first take | 32 bits | 02 R37, 04 R98 | per command -/
  privileges : Nat := 0
  /-- a ceremony was open at the first take | 1 bit | 07 R206 | 0 -/
  ceremony : Bool := false
  /-- slots of the keys whose use step has been made | list | 07 R176, 08 R214 | none -/
  stepped : List Nat := []
  /-- the command has made a state step, which a re-dispatch keeps with its answer | 1 bit | 07 R176, 13 R324 | 0 -/
  executed : Bool := false
  /-- response in staging | optional | 10 R250 | none -/
  resp : Option Resp := none
  /-- the secondary copy's response, which the window compares with the primary's | optional | 10 R261 | none -/
  resp2 : Option Resp := none
  /-- JOURNALED flag of the response | 1 bit | 04 R88 | 0 -/
  journaled : Bool := false
  /-- CROSS_FED flag of the response | 1 bit | 04 R88 | 0 -/
  crossFed : Bool := false
  /-- FORWARDED flag of the response | 1 bit | 04 R88 | 0 -/
  forwarded : Bool := false
  /-- LOAN flag of the response | 1 bit | 04 R88 | 0 -/
  loan : Bool := false
  /-- ASSURED flag of a response that its home returned | 1 bit | 04 R88 | 0 -/
  assured : Bool := false
  /-- UNMIRRORED flag of the response | 1 bit | 04 R88 | 0 -/
  unmirrored : Bool := false
  /-- the response answers a window refusal: LENGTH 0, retry 0, FLAGS 0 | 1 bit | 04 R88 | 0 -/
  windowRefusal : Bool := false
  /-- the SEAL field of the response is zero under R73 | 1 bit | 03 R73 | 0 -/
  unsealed : Bool := false
  /-- changes the command made, for its delta | list | 12 R291 | none -/
  changes : List Change := []
  /-- number of the delta sent for it | 64 bits, optional | 12 R291 | none -/
  delta : Option Nat := none
  /-- the originating member's verdict has arrived | optional | 02 R47, 12 R288 | none -/
  verdict : Option Verdict := none
  /-- the delta for it has been applied here | 1 bit | 12 R292 | 0 -/
  deltaApplied : Bool := false
  /-- the partner has acknowledged the position notice | 1 bit | 12 R288 | 0 -/
  positionAcked : Bool := false
  /-- the frame has been cross-fed to the partner | 1 bit | 12 R288 | 0 -/
  crossFedOut : Bool := false
  /-- loans whose LOAN_ACK is awaited | list of module IDs | 12 R292, R314 | none -/
  loanWait : List Nat := []
  /-- time the loan delta was sent | ns | 12 R314 | 0 -/
  loanSentAt : Nat := 0
  /-- it was forwarded across the span and its answer is awaited; time of the last forward | ns, optional | 12 R309 | none -/
  forwardAt : Option Nat := none
  /-- number of the LOAN_DELTA sent for it | 64 bits | 12 R314 | 0 -/
  loanSeq : Nat := 0
  /-- gallery whose loans it waits for | 20 bits | 12 R314 | 0 -/
  loanGallery : Nat := 0
  /-- modules that forwarded it here and to which its response returns | list of module IDs | 12 R309 | none -/
  askers : List Nat := []
  /-- bit of WIN_EVENT_CAUSE for the quota that refused it | 6 bits | 03 R74 | 0 -/
  quotaCause : Nat := 0
  /-- pair term at its release | 32 bits | 04 R87 | 0 -/
  term : Nat := 0
  /-- a function-level reset or an unbind discards its response | 1 bit | 03 R79, 02 R38 | 0 -/
  discard : Bool := false
  /-- bytes of the command payload, for metering | 32 bits | 02 R52 | per command -/
  payloadLen : Nat := 0
  /-- PK cost charged | microseconds | 09 R245 | 0 -/
  pkCost : Nat := 0
  deriving DecidableEq, Repr, Inhabited

/-- A commit held behind a gap (R90 case 2): what the checks at its commit answered, and when they were made. -/
structure Held where
  seq : Nat
  frame : Bytes
  digest : Nat
  large : Bool
  commitAt : Nat
  admitAt : Nat
  answer : Option Answer
  crossFed : Bool
  askers : List Nat
  deriving DecidableEq, Repr, Inhabited

/-- A flow (R248). -/
structure Flow where
  /-- the stream identity | 04 R89 | 10 R248, Table 10-13 | per flow -/
  sid : StreamId
  /-- NEXT | 48 bits | 04 R89 | WIN_STREAM_BASE at enable -/
  next : Nat
  /-- the release point R | 48 bits | 10 R252 | WIN_STREAM_BASE at enable -/
  rel : Nat
  /-- hold count | counter | 10 R263, R264 | 0 -/
  holds : Nat := 0
  /-- commits held behind a gap | list | 04 R90 | none -/
  held : List Held := []
  /-- gap time-out expiry time | ns, optional | 04 R91 | none -/
  gapAt : Option Nat := none
  /-- place of the gap timer in the order of insertion | counter | 10 R259 | 0 -/
  gapOrder : Nat := 0
  /-- most recent gap-answered numbers, newest first | 256 | 04 R92 | none -/
  gapAnswered : List Nat := []
  /-- the flow is offered on the home module for a window elsewhere | 1 bit | 10 R248, Table 10-13 | per flow -/
  remote : Bool := false
  /-- the gallery is homed elsewhere: a window's own record of its stream, whose commands are forwarded home; no flow of the Docent | 1 bit | 12 R309 | 0 -/
  proxy : Bool := false
  /-- the stream is sealed at its window | 1 bit | 03 R72, 04 R83 | per flow -/
  sealed : Bool := false
  /-- at the home of a distant sealed stream: the handle of its seal key and the generation of its record at the enable | 64 and 32 bits, optional | 03 R73 | none -/
  sealKey : Option (Nat × Nat) := none
  /-- modules at which a distant stream is enabled | list of module IDs | 10 R248, 12 R309 | none -/
  openers : List Nat := []
  /-- the stream's window is served by a loan, which sends home only part of its numbers | 1 bit | 12 R314 | 0 -/
  sparse : Bool := false
  /-- migration cut S | 48 bits, optional | 12 R310 | none -/
  cut : Option Nat := none
  /-- the cut has been reached | 1 bit | 12 R310 | 0 -/
  cutReached : Bool := false
  /-- verdicts of the originating member for numbers not yet placed here | list | 02 R47 | none -/
  verdicts : List (Nat × Verdict) := []
  /-- position notices of the partner not yet matched here | numbers | 12 R288 | none -/
  notices : List (Nat × Nat) := []
  deriving DecidableEq, Repr, Inhabited

/-- A cell waiting in DOC_TAKE. -/
structure WaitingCell where
  cell : Nat
  since : Nat
  deriving DecidableEq, Repr, Inhabited

/-- The cell-side Docent registers and observation of one cell. -/
structure CellRegs where
  /-- value the last DOC_TAKE read returned | 64 bits | 10 R255, Table 10-2 | 0 -/
  take : W64 := 0
  /-- DOC_TAKE_SEQ | 64 bits | 10 R255, Table 10-3 | 0 -/
  takeSeq : W64 := 0
  /-- DOC_TAKE_FRAME | 64 bits | 10 R255, Table 10-4 | 0 -/
  takeFrame : W64 := 0
  /-- ticket held | 16 bits, optional | 10 R256 | none -/
  held : Option Nat := none
  /-- the ticket held is a secondary copy | 1 bit | 10 Table 10-14 | 0 -/
  secondary : Bool := false
  /-- times and kinds (true: take, false: hand-back) of the last 1.024 ms, newest first | list | 10 Table 10-14 | none -/
  history : List (Nat × Bool) := []
  deriving DecidableEq, Repr, Inhabited

/-- A mode change waiting for its boundary (R369). -/
structure ModeChange where
  target : Nat
  ticket : Option Nat
  deriving DecidableEq, Repr, Inhabited

/-- A quota cut waiting for the next boundary (R48). -/
structure QuotaChange where
  gallery : Nat
  cmdRate : Nat
  cmdBurst : Nat
  pkRate : Nat
  pkBurst : Nat
  deriving DecidableEq, Repr, Inhabited

/-- The Docent. -/
structure Docent where
  /-- flows, by index | 65,536 | 10 R248 | none -/
  flows : Map Flow := []
  /-- descriptors, by ticket | 65,536 | 10 R249 | none -/
  descs : Map Desc := []
  /-- takes since START, for the 16th-take rule | counter | 10 R251 | 0 -/
  takes : Nat := 0
  /-- gallery served last, by priority level | 8 | 10 R251 | none -/
  lastGallery : Map Nat := []
  /-- flow served last, by 8 x gallery + level | table | 10 R251 | none -/
  lastFlow : Map Nat := []
  /-- cells stalled in DOC_TAKE, longest first | list | 10 R255 | none -/
  waiting : List WaitingCell := []
  /-- cell-side registers, by cell | 128 | 10 R255 | each as its own defaults -/
  cells : Map CellRegs := []
  /-- DOC_TICK.TICK_US | 7 bits | 10 R266, Table 10-8 | Image, 10 -/
  tickUs : Nat := 10
  /-- TICK_US written and not yet in force | 7 bits, optional | 10 R259 | none -/
  tickPending : Option Nat := none
  /-- DOC_TICK.TAKE_TIMEOUT | 16 bits | 10 R255, Table 10-8 | Image, 100 -/
  takeTimeout : Nat := 100
  /-- DOC_TICK.TICKS | 32 bits | 10 Table 10-8 | 0 -/
  ticks : Nat := 0
  /-- time of the next tick boundary | ns | 10 R259 | START + one tick -/
  nextTick : Nat := 10000
  /-- the token refill of the boundary at `nextTick` has been made, as the command TOKEN_REFILL | 1 bit | 10 R260 | 0 -/
  refilled : Bool := false
  /-- DOC_STATE.DUAL | 1 bit | 10 Table 10-9 | 0 -/
  dual : Bool := false
  /-- DOC_HIST bins, by 32 p + b | 256 x 32 bits | 10 R266 | 0 -/
  hist : Map Nat := []
  /-- DOC_HIST_CTL.CLEARED_AT | 32 bits | 10 Table 10-10 | 0 -/
  histClearedAt : Nat := 0
  /-- DOC_FLOW_SEL.FLOW | 16 bits | 10 Table 10-12 | 0 -/
  flowSel : Nat := 0
  /-- next order number of a placement, a first take, a park or a timer | counter | 10 R258, R259 | 0 -/
  parkCount : Nat := 0
  /-- mode change waiting for its boundary | optional | 10 R260 | none -/
  modeChange : Option ModeChange := none
  /-- quota changes waiting for the boundary | list | 10 R260 | none -/
  quotaChanges : List QuotaChange := []
  /-- copy repairs counted (R321) | counter | 13 R321 | 0 -/
  repairs : Nat := 0
  /-- originating commands are blocked at the Docent | 1 bit | 12 R298, R302, R315 | 0 -/
  blockOriginating : Bool := false
  deriving DecidableEq, Repr, Inhabited

end Sys2Proof.Machine
end

