-- ==== Sys2Proof/Machine/ErrState.lean ====
section
/-!
DEFINITION. The state of the error handlers (spec 13). Each field's comment ends with its width, the rule that names it and its reset value, which is the default given here.
-/

namespace Sys2Proof.Machine

/-- Error counts of one wing (Table 13-4). -/
structure WingErr where
  /-- COMMAND_ERRORS | 16 bits | 13 Table 13-4 | 0 -/
  command : Nat := 0
  /-- QUARANTINES | 8 bits | 13 Table 13-4 | 0 -/
  quarantines : Nat := 0
  /-- RESTORING | 1 bit | 13 Table 13-4 | 0 -/
  restoring : Bool := false
  /-- LAST_CAUSE | 8 bits | 13 Table 13-4 | 0 -/
  lastCause : Nat := 0
  /-- times of quarantines, newest first | list | 13 R325 | none -/
  times : List Nat := []
  deriving DecidableEq, Repr, Inhabited

/-- An error queued behind a handler of higher scope (R331): its code and scope, 1 COMMAND or 2 WING, the unit, which of a WING error is the wing, and the ticket of a COMMAND error. -/
structure QueuedError where
  code : Nat
  scope : Nat
  unit : Nat
  ticket : Nat
  deriving DecidableEq, Repr, Inhabited

/-- The error handlers. -/
structure Err where
  /-- CUR_ERR_STATE.ACTIVE | 3 bits | 13 Table 13-3 | 0 -/
  active : Nat := 0
  /-- CUR_ERR_STATE.ERASED | 1 bit | 13 Table 13-3 | 0 -/
  erased : Bool := false
  /-- errors queued | list, QUEUED saturating at 15 | 13 R331 | none -/
  queued : List QueuedError := []
  /-- codes of the MODULE errors that the handler in progress covers, oldest first | list | 13 R320, R331 | none -/
  codes : List Nat := []
  /-- CUR_ERR_STATE.LAST_CAUSE | 8 bits | 13 Table 13-3 | 0 -/
  lastCause : Nat := 0
  /-- times of COMMAND-scope errors, newest first | list | 13 Table 13-3 | none -/
  times : List Nat := []
  /-- times of COMMAND-scope errors by unit: (unit code, time), newest first; the unit is a cell 0-127, an engine 128 + wing, a hash unit 144 + wing, a PK unit 160 + wing | list | 13 R322 | none -/
  byUnit : List (Nat × Nat) := []
  /-- wing records | 16 | 13 Table 13-4 | each as its own defaults -/
  wings : Map WingErr := []
  /-- contained halt in progress: end of its 100 us | ns, optional | 13 R328 | none -/
  halting : Option Nat := none
  /-- times and lines of Vitrine line failures, newest first | list | 13 R329 | none -/
  lines : List (Nat × Nat) := []
  /-- correctable ECC errors counted | counter | 13 R320 | 0 -/
  corrected : Nat := 0
  deriving DecidableEq, Repr, Inhabited

end Sys2Proof.Machine
end

