-- ==== Sys2Proof/Machine/GalleryState.lean ====
section
/-!
DEFINITION. The state of galleries, the Vitrine, the key cache and metering (spec 02, 04, 07). Each field's comment ends with its width, the rule that names it and its reset value, which is the default given here.
-/

namespace Sys2Proof.Machine

/-- A migration of this gallery, held at its old home (R310). -/
structure Migration where
  home : Nat
  partner : Nat
  cutDeclared : Bool := false
  stateEnded : Bool := false
  deriving DecidableEq, Repr, Inhabited

/-- A loan of this gallery, held at its home (R314). -/
structure Loan where
  partner : Nat
  copied : Bool := false
  suspended : Bool := false
  acked : Nat := 0
  deriving DecidableEq, Repr, Inhabited

/-- A loan copy as the loan placement holds it (R314). -/
structure LoanCopy where
  home : Nat
  applied : Nat
  named : Nat := 0
  suspended : Bool := false
  lastCurrency : Nat := 0
  deriving DecidableEq, Repr, Inhabited

/-- A minute whose marks are placed and whose record waits until every number below them is released (R51, R53, log 18); `record`: this member writes one for it (R55). -/
structure Closing where
  marks : List (StreamId × Nat)
  term : Nat
  record : Bool
  counts : MeterCounts
  first : Nat
  extra : Nat
  records : Nat
  loans : Nat
  final : Bool
  deriving DecidableEq, Repr, Inhabited

/-- A homed gallery (R32, R174), or a loan copy of one (R314). -/
structure Gallery where
  /-- the descriptor: ID, privileges, quotas, creation epoch, placement | 64 bytes | 02 R37, Table 2-2 | none: a gallery exists only once created (gallery 0 by START) -/
  desc : Descriptor
  /-- DRBG number: the index at which the gallery is homed | 12 bits | 11 R275, Table 11-3 | per gallery -/
  index : Nat
  /-- gallery instance | 128 bits | 07 R174, R183 | drawn at creation -/
  inst : Nat
  /-- gallery root wrapping key | 32 bytes | 07 R174, Table 7-4 | derived at creation -/
  rootKey : Bytes
  /-- accession counter | 64 bits | 07 R174, R191 | 0 -/
  accession : Nat := 0
  /-- SEAL_EPOCH of each stream number | 16 x 32 bits | 07 R174, 03 R72 | 0 -/
  sealEpochs : Map Nat := []
  /-- stream identities that are enabled now for a seal epoch shared with the partner | list | 12 R290 | none -/
  sealLive : List Nat := []
  /-- stream identities that are enabled for it on the partner | list | 12 R290 | none -/
  sealPartner : List Nat := []
  /-- rights bytes of the gallery row, by target index 0 to 10 | 11 bytes | 02 R41, R42 | image default -/
  rights : List Nat := []
  /-- key-state generation, WIN_KEY_GEN | 32 bits | 04 R98, 07 R184 | 0 -/
  keyGen : Nat := 0
  /-- Vitrine records, by slot | up to 2^24 slots of 256 bytes | 07 R171 | none -/
  records : Map VRecord := []
  /-- write count of a record's lines, by slot | 64 bits each | 07 R182 | 0 -/
  writes : Map Nat := []
  /-- slots whose record is damaged | set | 13 R329 | none -/
  damaged : List Nat := []
  /-- result journal, newest entry first | list | 04 R100 | none -/
  journal : List JournalEntry := []
  /-- units written to the journal so far, by which its entries lie in 4 KiB pages | counter | 04 R100, R102 | 0 -/
  journalAt : Nat := 0
  /-- the journal has filled its minimum and now drops acknowledged entries | 1 bit | 04 R101, R102 | 0 -/
  journalFull : Bool := false
  /-- open operations that span frames, by operation ID | list | 06 R151 | none -/
  ops : Map SpanOp := []
  /-- next operation ID | 64 bits | 06 R151 | 1 -/
  nextOp : Nat := 1
  /-- command tokens in the bucket | signed | 02 R45 | the burst at creation -/
  cmdTokens : Int := 0
  /-- PK-unit microseconds in the bucket, negative while a deficit is owed | signed | 02 R45, 09 R245 | the burst at creation -/
  pkTokens : Int := 0
  /-- the counts of the minute being metered | Table 2-6 | 02 R51 to R53 | 0 -/
  meter : MeterCounts := { billed := [], refused := 0, pkOps := 0, pkMicros := 0, bytesIn := 0, bytesOut := 0, entryTicks := 0 }
  /-- the minutes being closed, oldest first | list | 02 R51, R53 | none -/
  closing : List Closing := []
  /-- first minute index of the open record | 64 bits | 02 R53, R54 | the minute of creation -/
  meterFirst : Nat := 0
  /-- minutes the open record covers beyond the current one | 16 bits | 02 R54 | 0 -/
  meterExtra : Nat := 0
  /-- the minute being metered began while this member was out, and it writes no record for it | 1 bit | 02 R55 | 0 -/
  meterSkip : Bool := false
  /-- number of the last meter record written | 64 bits | 02 R53 | 0 -/
  meterSeq : Nat := 0
  /-- admission times of the last second, newest first | list | 02 R49 | none -/
  admits : List Nat := []
  /-- latency histogram GAL_LAT for the holder | 40 x 32 bits | 18 R426 | 0 -/
  latHolder : Map Nat := []
  /-- latency histogram GAL_LAT for the house | 40 x 32 bits | 18 R426 | 0 -/
  latHouse : Map Nat := []
  /-- migration away from this home | optional | 12 R310 | none -/
  migration : Option Migration := none
  /-- migration or loan copy arriving here and not yet complete | 1 bit | 12 R310 | 0 -/
  arriving : Bool := false
  /-- stream cuts learned from the old home, by 65,536 x function + stream | list | 12 R310, R311 | none -/
  cuts : Map Nat := []
  /-- MIGRATE_CUT has been declared for the arriving gallery | 1 bit | 12 R310 | 0 -/
  cutKnown : Bool := false
  /-- home and partner of the old placement of a gallery that came here by migration, until MIGRATE_END | 2 x 16 bits, optional | 12 R311 | none -/
  oldHome : Option (Nat × Nat) := none
  /-- number of the last LOAN_DELTA of the gallery | 64 bits | 12 R314 | 0 -/
  loanSeq : Nat := 0
  /-- loans, by loan module ID | up to 4 | 12 R314 | none -/
  loans : Map Loan := []
  /-- this is a loan copy of a gallery homed elsewhere | optional | 12 R314 | none -/
  loanCopy : Option LoanCopy := none
  /-- identities of streams of this gallery, with NEXT and release point, received by a copy | list | 12 R302 | none -/
  streams : List (StreamId × Nat × Nat) := []
  deriving DecidableEq, Repr, Inhabited

/-- One key in the key cache (R184): its tag and material. -/
structure CacheEntry where
  /-- gallery of the entry | 20 bits | 07 R184 | none -/
  gallery : Nat
  /-- 256-bit digest | 32 bytes | 07 R184 | none -/
  digest : Bytes
  /-- entries occupied, ceil(M / 80) | count | 07 R184 | none -/
  count : Nat
  /-- key-state generation at the last validation | 32 bits | 07 R184 | none -/
  stamp : Nat
  /-- time of last use | ns | 07 R186 | none -/
  lastUse : Nat
  /-- tickets whose cells hold the entry | list | 01 R30, 07 R186 | none -/
  holders : List Nat
  /-- algorithm letter | 1 byte | 07 R184, 08 R213 | none -/
  alg : Nat
  /-- the slot whose record the key is, for a Vitrine key | 24 bits, optional | 07 R184 | none -/
  slot : Option Nat
  /-- slot and generation of the record that the entry rests on: the key's own, the wrapping key's of a carried key, the BDK's of a derived initial key | 24 and 32 bits | 07 R184, 05 R132 | none -/
  root : Nat × Nat
  /-- clear material | up to 2,624 bytes | 07 R184 | none -/
  material : Bytes
  /-- live: not discarded by a revalidation, key erased otherwise | 1 bit | 07 R196 | none -/
  live : Bool
  deriving DecidableEq, Repr, Inhabited

/-- The custodian register and the load in progress (R202, R203). -/
structure Custody where
  /-- current digest of the custodian register, slot 2 of gallery 0 | 32 bytes, optional | 07 R202 | empty -/
  current : Option Bytes := none
  /-- pending digest of the custodian register | 32 bytes, optional | 07 R202 | empty -/
  pending : Option Bytes := none
  /-- LCS_CEREMONY.SET_MISMATCH | 1 bit | 07 R202, Table 7-10 | 0 -/
  mismatch : Bool := false
  /-- components of the load in progress: custodian index and 32-byte component | list | 07 R203 | none -/
  components : List (Nat × Bytes) := []
  /-- COUNTER of the load in progress | 64 bits | 07 R203 | 0 -/
  loadCounter : Nat := 0
  /-- the ceremony has closed, and the load goes when the COMPONENT in service has completed | 1 bit | 07 R206 | 0 -/
  dying : Bool := false
  /-- LCS_CEREMONY.SET_PENDING | 1 bit | 07 R204, Table 7-10 | 0 -/
  setPending : Bool := false
  deriving DecidableEq, Repr, Inhabited

/-- The Vitrine as a whole, and the stores beside it. -/
structure Vault where
  /-- galleries homed here, by gallery ID | up to 4,096 | 02 R32 | none -/
  galleries : Map Gallery := []
  /-- descriptors of galleries homed elsewhere that this module knows: those that migrated away and those it held on loan | by ID | 12 R309, R310, R315 | none -/
  remote : Map Descriptor := []
  /-- a Vitrine exists in GDDR6 | 1 bit | 07 R182, R183 | 0 -/
  present : Bool := false
  /-- GDDR6 contents are held (standby rail and refresh) | 1 bit | 01 R15 | 0 -/
  retained : Bool := false
  /-- the module key KM the Vitrine region is written under | 48 bytes | 07 R178, R182 | none -/
  writtenUnder : Bytes := []
  /-- anchor record: its copy of the version counter | 64 bits | 07 R182 | 0 -/
  anchorVersion : Nat := 0
  /-- anchor record: MAC root of the Vitrine | 8 bytes | 07 R182 | empty -/
  anchorRoot : Bytes := []
  /-- anchor record: its own MAC | 8 bytes | 07 R182 | empty -/
  anchorMac : Bytes := []
  /-- a role or term has still to be written into the anchor record | 1 bit | 12 R286, 15 R373 | 0 -/
  anchorOwed : Bool := false
  /-- anchor record: pair term | 32 bits | 12 R286 | 0 -/
  anchorTerm : Nat := 0
  /-- anchor record: pair role, coded as PAI_STATE.ROLE | 3 bits | 12 R286 | 6 -/
  anchorRole : Nat := 6
  /-- anchor record: number of the last delta applied | 64 bits | 12 R286 | 0 -/
  anchorDelta : Nat := 0
  /-- KM on die, rebuilt at START | 48 bytes | 07 Table 7-4 | empty -/
  km : Bytes := []
  /-- GDDR6 working key, drawn at START | 32 bytes | 01 R17, 07 Table 7-4 | empty -/
  workingKey : Bytes := []
  /-- key cache, by first entry index | 131,072 entries of 128 bytes | 07 R184 | empty -/
  cache : Map CacheEntry := []
  /-- custodian register and the master-key load | records | 07 R202, R203 | empty -/
  custody : Custody := {}
  /-- meter store in GDDR6, oldest first | 262,144 records of 256 bytes | 02 R54 | empty -/
  meterStore : List MeterRecord := []
  /-- records of the store not yet copied to the archive, oldest first | list | 02 R54 | empty -/
  meterToArchive : List MeterRecord := []
  /-- final records of removed galleries that wait for room in the store, oldest first | list | 02 R39, R54 | empty -/
  meterWaiting : List MeterRecord := []
  /-- number that METER_ACK covers, by gallery ID | 64 bits each | 02 R54 | 0 -/
  meterAcks : Map Nat := []
  /-- UTC offset in module-time counts | 64 bits, signed | 02 Table 2-6 | 0 -/
  utcOffset : Int := 0
  /-- next minute boundary to be marked, as a minute index | 64 bits | 02 R51 | 0 -/
  minute : Nat := 0
  /-- offset to the previous originating member's clock at the last mark, counts | signed | 02 R51 | 0 -/
  clockOffset : Int := 0
  /-- all admissions of the last second, newest first | times | 02 R49 | none -/
  admits : List Nat := []
  /-- prepared curve domains in the operand space, most recently used first: (gallery, slot, KiB) | 512 MiB | 09 R236 | none -/
  domains : List (Nat × Nat × Nat) := []
  deriving DecidableEq, Repr, Inhabited

end Sys2Proof.Machine
end

