-- ==== Sys2Proof/Machine/ImageState.lean ====
section
/-!
DEFINITION. The configuration flash and what a loaded Ulond image sets (spec 16). Each field's comment ends with its width, the rule that names it and its reset value, which is the default given here.
-/

namespace Sys2Proof.Machine

/-- A custodian (R389). -/
structure Custodian where
  index : Nat
  sigAlg : Nat
  key : Bytes
  deriving DecidableEq, Repr, Inhabited

/-- A custodian list (R389): K and its custodians in rising order of index. -/
structure CustodianSet where
  k : Nat
  list : List Custodian
  content : Bytes
  deriving DecidableEq, Repr, Inhabited

/-- One end of a span link. -/
structure LinkEnd where
  module : Nat
  port : Nat
  deriving DecidableEq, Repr, Inhabited

/-- The span map (R390). -/
structure SpanMap where
  rootAlg : Nat
  root : Bytes
  modules : List (Nat × Nat)
  links : List (LinkEnd × LinkEnd)
  deriving DecidableEq, Repr, Inhabited

/-- The tighten-only fields of an image (R394), as the ceiling record holds them. -/
structure Ceiling where
  reseedLog2 : Nat
  fatalRngAction : Nat
  fixedRows : List Nat
  ceilingRow : List Nat
  maximum : Descriptor
  deriving DecidableEq, Repr, Inhabited

/-- TEMPLATE of an image without GALLERY_LIMITS (R388). -/
def defaultTemplate : Descriptor :=
  { id := 0, privileges := 0, wakeTol := 100, reach := 0, cmdRate := 0xFFFF, cmdBurst := 64,
    pkRate := 0xFFFF, pkBurst := 640, stagingKib := 256, flows := 16, cacheShare := 4096, slots := 1024,
    loans := 0, prioCeiling := 3, epoch := 0, home := 0, partner := 0 }

/-- MAXIMUM of an image without GALLERY_LIMITS: the upper bound of every range of Table 2-2 (R388). -/
def defaultMaximum : Descriptor :=
  { id := 0, privileges := 0x1F, wakeTol := 65535, reach := 65535, cmdRate := 0xFFFF, cmdBurst := 65535,
    pkRate := 0xFFFF, pkBurst := 65535, stagingKib := 8192, flows := 256, cacheShare := 131072, slots := 16777216,
    loans := 4, prioCeiling := 7, epoch := 0, home := 0, partner := 0 }

/-- DEFAULT and CEILING rows of an image without GALLERY_RIGHTS (R388). -/
def defaultRow : List Nat := [7, 7, 7, 7, 7, 3, 8, 8, 0, 7, 5]

/-- VF default row of an image without GALLERY_RIGHTS (R388). -/
def defaultVfRow : List Nat := [0, 0, 0, 0, 0, 0, 0, 0, 0, 0, 5]

/-- PF row of an image without FIXED_ROWS (R388). -/
def defaultPfRow : List Nat := [0, 0, 0, 0, 0, 0, 1, 1, 3, 0, 0x15]

/-- What R20 wires to the PF; to the Curator, Registrar, Conservator and span ports 0 to 3; to gallery rows; to a VF (Table 1-8, log 35). -/
def wiredRows : List (List Nat) :=
  [defaultPfRow, [0, 0, 0, 0, 0, 0, 9, 9, 3, 0, 0], List.replicate 11 0, List.replicate 11 0] ++
  List.replicate 4 [0, 7, 0, 0, 0, 0, 0, 0, 0, 7, 0]

/-- The rows of FIXED_ROWS when the section is absent. -/
def defaultFixedRows : List Nat := wiredRows.flatten

/-- The image's settings and sections as loaded at step 8 of START (R387, R388). -/
structure Settings where
  /-- SERVICE_MODE | u8 | 16 Table 16-4 | 3 -/
  serviceMode : Nat := 3
  /-- MODULE_ID | u16 | 16 Table 16-4 | 0 -/
  moduleId : Nat := 0
  /-- PARTNER_ID | u16 | 16 Table 16-4 | 0xFFFF -/
  partnerId : Nat := 0xFFFF
  /-- MEMBER | u8 | 16 Table 16-4 | 0 -/
  member : Nat := 0
  /-- TIE_WINNER | u8 | 16 Table 16-4 | 1 -/
  tieWinner : Nat := 1
  /-- PAIR_PORT | u8 | 16 Table 16-4 | 0 -/
  pairPort : Nat := 0
  /-- PAIR_START_MS | u32 | 16 Table 16-4 | 10,000 -/
  pairStartMs : Nat := 10000
  /-- TICK_US | u8 | 16 Table 16-4 | 10 -/
  tickUs : Nat := 10
  /-- TAKE_TIMEOUT_US | u16 | 16 Table 16-4 | 100 -/
  takeTimeoutUs : Nat := 100
  /-- GAP_TIMEOUT_US | u32 | 16 Table 16-4 | 200 -/
  gapTimeoutUs : Nat := 200
  /-- OP_IDLE_MS | u32 | 16 Table 16-4 | 1,000 -/
  opIdleMs : Nat := 1000
  /-- RESEED_LOG2 | u8 | 16 Table 16-4 | 20 -/
  reseedLog2 : Nat := 20
  /-- FATAL_RNG_ACTION | u8 | 16 Table 16-4 | 0 -/
  fatalRngAction : Nat := 0
  /-- IDLE_TOLERANCE_US | u16 | 16 Table 16-4 | 100 -/
  idleToleranceUs : Nat := 100
  /-- MIN_RUN | u8 | 16 Table 16-4 | 2 -/
  minRun : Nat := 2
  /-- NO_DARK | u8 | 16 Table 16-4 | 0 -/
  noDark : Nat := 0
  /-- NO_PLL_STOP | u8 | 16 Table 16-4 | 0 -/
  noPllStop : Nat := 0
  /-- UTC_OFFSET | i64 | 16 Table 16-4 | 0 -/
  utcOffset : Int := 0
  /-- FIXED_ROWS, the rows of the PF, Curator, Registrar, Conservator and span ports 0 to 3 | 88 bytes | 16 R388, R394 | default rows -/
  fixedRows : List Nat := defaultFixedRows
  /-- GALLERY_RIGHTS: DEFAULT row | 11 bytes | 16 R388 | default row -/
  defaultRights : List Nat := defaultRow
  /-- GALLERY_RIGHTS: CEILING row | 11 bytes | 16 R388 | default row -/
  ceilingRow : List Nat := defaultRow
  /-- GALLERY_RIGHTS: VF default row | 11 bytes | 16 R388 | default VF row -/
  vfRow : List Nat := defaultVfRow
  /-- GALLERY_LIMITS: TEMPLATE | 64 bytes | 16 R388 | default template -/
  template : Descriptor := defaultTemplate
  /-- GALLERY_LIMITS: MAXIMUM | 64 bytes | 16 R388 | default maximum -/
  maximum : Descriptor := defaultMaximum
  /-- CUSTODIANS | list | 16 R389 | none -/
  custodians : Option CustodianSet := none
  /-- SPAN_MAP | map | 16 R390 | none -/
  span : Option SpanMap := none
  deriving DecidableEq, Repr, Inhabited

/-- The flash and the image registers. -/
structure Image where
  /-- Ulond slots 0 and 1, by byte; an unlisted byte reads erased, 0xFF | 2 x 1 MiB | 16 Table 16-1 | erased, DESIGN CHOICE 0xFF (log 11) -/
  slot0 : Mem := []
  /-- Ulond slot 1 | 1 MiB | 16 Table 16-1 | erased, DESIGN CHOICE 0xFF (log 11) -/
  slot1 : Mem := []
  /-- firmware slot A: what reading it back finds | 8 MiB | 16 Table 16-1, 17 R412 | a valid image of version 1, DESIGN CHOICE (log 11) -/
  fwA : Option FwImage
  /-- firmware slot B | 8 MiB | 16 Table 16-1, 17 R412 | empty -/
  fwB : Option FwImage := none
  /-- bytes of firmware slot A that staging has written since the slot was last erased; none while it is as manufactured | 8 MiB, optional | 16 Table 16-1, R383 | none -/
  fwDataA : Option Mem := none
  /-- the same of firmware slot B | 8 MiB, optional | 16 Table 16-1, R383 | none -/
  fwDataB : Option Mem := none
  /-- records the meter archive can hold | count | 16 R382 | 98,304 of a 512 Mbit device, DESIGN CHOICE (log 11) -/
  archiveSize : Nat := 98304
  /-- meter archive, oldest first | records of 256 bytes | 16 R382, 02 R54 | empty -/
  archive : List MeterRecord := []
  /-- the loaded image's values | record | 16 R387, R388 | defaults -/
  set : Settings := {}
  /-- CUR_IMAGE.LOADED | 2 bits | 16 Table 16-6 | 3 -/
  loaded : Nat := 3
  /-- CUR_IMAGE.STAGED | 1 bit | 16 Table 16-6 | 0 -/
  staged : Bool := false
  /-- CUR_IMAGE.SUCCESSOR | 1 bit | 16 Table 16-6 | 0 -/
  successor : Bool := false
  /-- CUR_IMAGE.REASON0 | 4 bits | 16 Table 16-6 | 0 -/
  reason0 : Nat := 0
  /-- CUR_IMAGE.REASON1 | 4 bits | 16 Table 16-6 | 0 -/
  reason1 : Nat := 0
  /-- CUR_IMAGE.LOOSENED | 1 bit | 16 Table 16-6 | 0 -/
  loosened : Bool := false
  /-- CUR_IMAGE.UNPINNED | 1 bit | 16 Table 16-6 | 0 -/
  unpinned : Bool := false
  /-- CUR_IMAGE_VER.VERSION | 64 bits | 16 Table 16-7 | 0 -/
  version : Nat := 0
  /-- digest of the loaded image's authority or successor, to be pinned | 48 bytes, optional | 16 R393 | none -/
  toPin : Option Bytes := none
  /-- SHA-384 digest of the loaded image, measurement 3 | 48 bytes, optional | 17 Table 17-6 | none -/
  digest : Option Bytes := none
  /-- ceiling record of the Vitrine header of gallery 0 | record, optional | 16 R393 | none -/
  ceiling : Option Ceiling := none
  /-- custodian list whose digest is current, held beside the register | list, optional | 16 R397 | none -/
  registerSet : Option CustodianSet := none
  /-- copies in Curator SRAM: register digests | 2 x 32 bytes, optional | 16 R397 | none -/
  sramDigests : Option Bytes × Option Bytes := (none, none)
  /-- copies in Curator SRAM: custodian list | list, optional | 16 R397 | none -/
  sramSet : Option CustodianSet := none
  /-- copies in Curator SRAM: ceiling record | record, optional | 16 R397 | none -/
  sramCeiling : Option Ceiling := none
  /-- copies in Curator SRAM: pinned digest and floor | 48 bytes, optional, and 64 bits | 16 R397 | none, 0 -/
  sramPin : Option Bytes × Nat := (none, 0)
  deriving DecidableEq, Repr, Inhabited

end Sys2Proof.Machine
end

