-- ==== Sys2Proof/Machine/PairState.lean ====
section
/-!
DEFINITION. The state of the mirrored pair and of the span ports (spec 12). Each field's comment ends with its width, the rule that names it and its reset value, which is the default given here.
-/

namespace Sys2Proof.Machine

/-- Pair roles (R285, Table 12-1), with the unpaired module. -/
inductive Role where
  | unpaired
  | originator
  | standby
  | sole
  | refusing
  | resync
  | withdrawn
  deriving DecidableEq, Repr, Inhabited

/-- One span port (R304 to R308). -/
structure SpanPort where
  /-- SPN_PORTn.UP | 1 bit | 12 Table 12-10 | 0 -/
  up : Bool := false
  /-- SPN_PORTn.AUTH | 1 bit | 12 Table 12-10 | 0 -/
  auth : Bool := false
  /-- SPN_PORTn.LANES: lanes in use, 0, 1, 2 or 4 | 3 bits | 12 Table 12-10 | 0 -/
  lanes : Nat := 0
  /-- SPN_PORTn.PEER | 12 bits | 12 Table 12-10 | 0 -/
  peer : Nat := 0
  /-- SPN_PORTn.HOP_NS, before saturation | ns | 12 R308, Table 12-10 | 0 -/
  hopNs : Nat := 0
  /-- SPN_ERRn.UNCORRECTED | 16 bits | 12 Table 12-10 | 0 -/
  uncorrected : Nat := 0
  /-- SPN_ERRn.AUTH_FAIL | 16 bits | 12 Table 12-10 | 0 -/
  authFail : Nat := 0
  /-- SPN_ERRn.DOWNS | 16 bits | 12 Table 12-10 | 0 -/
  downs : Nat := 0
  /-- COUNTER of the last frame accepted | 64 bits | 12 R306 | 0 -/
  rxCounter : Nat := 0
  /-- COUNTER of the last frame sent | 64 bits | 12 R306 | 0 -/
  txCounter : Nat := 0
  /-- handshake count | 16 bits | 12 R306 | 0 -/
  handshakes : Nat := 0
  /-- this end's ephemeral private key of the handshake in progress | 48 bytes | 12 R305 | empty -/
  ephemeral : Bytes := []
  /-- HELLO sent in the handshake in progress | optional | 12 R305 | none -/
  helloSent : Option Hello := none
  /-- HELLO received and verified in the handshake in progress | optional | 12 R305 | none -/
  helloGot : Option Hello := none
  /-- hop keys in force | 64 bytes | 12 R305 | empty -/
  hopKeys : Bytes := []
  /-- this end's serial is the lower, so that it sends under the first hop key | 1 bit | 12 R305, R306 | 0 -/
  lower : Bool := false
  /-- KEYCONFIRM sent, the partner's awaited | 1 bit | 12 R305 | 0 -/
  confirmSent : Bool := false
  /-- KEYCONFIRM received and verified | 1 bit | 12 R305 | 0 -/
  confirmGot : Bool := false
  /-- time of the last handshake completed | ns | 12 R305 | 0 -/
  keyedAt : Nat := 0
  /-- frame counters at the last handshake, received and sent | 64 bits each | 12 R305 | 0 -/
  keyedRx : Nat := 0
  /-- frame counter sent at the last handshake | 64 bits | 12 R305 | 0 -/
  keyedTx : Nat := 0
  /-- times of tag failures, newest first | list | 12 R306 | none -/
  tagFails : List Nat := []
  /-- time of the last authenticated frame | ns | 12 R296 | 0 -/
  lastFrame : Nat := 0
  /-- time the outstanding PROBE was sent | ns, optional | 12 R308 | none -/
  probeAt : Option Nat := none
  deriving DecidableEq, Repr, Inhabited

/-- The handshake with a module beyond a relay, and the key agreed with it (R307). -/
structure FarKey where
  /-- this end's ephemeral private key of the handshake in progress | 48 bytes | 12 R307 | empty -/
  ephemeral : Bytes := []
  /-- HELLO sent in the handshake in progress | optional | 12 R307 | none -/
  helloSent : Option Hello := none
  /-- HELLO received and verified in the handshake in progress | optional | 12 R307 | none -/
  helloGot : Option Hello := none
  /-- KEYCONFIRM sent | 1 bit | 12 R307 | 0 -/
  confirmSent : Bool := false
  /-- KEYCONFIRM received and verified | 1 bit | 12 R307 | 0 -/
  confirmGot : Bool := false
  /-- end-to-end keys in force | 64 bytes | 12 R307 | empty -/
  keys : Bytes := []
  /-- this end's serial is the lower | 1 bit | 12 R305, R307 | 0 -/
  lower : Bool := false
  deriving DecidableEq, Repr, Inhabited

/-- A result reported in step 1 of a resynchronisation (R302). -/
structure Resync where
  /-- this member is the active member | 1 bit | 12 R302 | per resynchronisation -/
  active : Bool
  /-- PAI_SYNC.FULL | 1 bit | 12 Table 12-9 | 0 -/
  full : Bool
  /-- the partner has reported D and its results | 1 bit | 12 R302 | 0 -/
  reported : Bool
  /-- D of the repaired member | 64 bits | 12 R302 | 0 -/
  from_ : Nat
  /-- results the repaired member reported | list | 12 R302 | none -/
  results : List JournalEntry
  /-- PAI_SYNC.RECORDS_LEFT | 32 bits | 12 Table 12-9 | 0 -/
  left : Nat
  /-- the partner's term | 32 bits | 12 R302 | per resynchronisation -/
  term : Nat
  /-- galleries whose header the copy has brought | list | 12 R302 | none -/
  seen : List Nat
  /-- the copy is complete: RESYNC_END sent or received | 1 bit | 12 R302 | 0 -/
  ended : Bool
  deriving DecidableEq, Repr, Inhabited

/-- The pair and the span. -/
structure Pair where
  /-- PAI_STATE.MEMBER | 2 bits | 12 Table 12-7 | Image, 0 -/
  member : Nat := 0
  /-- PAI_STATE.ROLE | 3 bits | 12 R285, Table 12-7 | 6, WITHDRAWN -/
  role : Role := .withdrawn
  /-- PAI_STATE.TIE_WINNER | 1 bit | 12 Table 12-7 | Image, 0 -/
  tieWinner : Bool := false
  /-- PAI_STATE.PAIR_PORT | 2 bits | 12 Table 12-7 | Image, 0 -/
  port : Nat := 0
  /-- PAI_STATE.PARTNER | 12 bits | 12 Table 12-7 | Image, 0 -/
  partner : Nat := 0
  /-- PAI_STATE.LINK_UP | 1 bit | 12 Table 12-7 | 0 -/
  linkUp : Bool := false
  /-- PAI_STATE.HB_PENDING | 1 bit | 12 Table 12-7 | 0 -/
  hbPending : Bool := false
  /-- PAI_STATE.DUAL_ACT | 1 bit | 12 Table 12-7 | 0 -/
  dualAct : Bool := false
  /-- end of the dual-act window | ns | 12 R299 | 0 -/
  dualActEnd : Nat := 0
  /-- PAI_STATE.TERM | 32 bits | 12 R286, Table 12-7 | 0, then the anchor's -/
  term : Nat := 0
  /-- PAI_LOSS.TERM_BEFORE | 32 bits | 12 Table 12-8 | 0 -/
  termBefore : Nat := 0
  /-- PAI_LOSS.CAUSE | 3 bits | 12 Table 12-8 | 0 -/
  cause : Nat := 0
  /-- PAI_LOSS.AT | 29 bits | 12 Table 12-8 | 0 -/
  at_ : Nat := 0
  /-- PAI_SYNC.SUPERSEDED | 16 bits | 12 Table 12-9 | 0 -/
  superseded : Nat := 0
  /-- resynchronisation under way, PAI_SYNC.IN_PROGRESS | optional | 12 R302 | none -/
  resync : Option Resync := none
  /-- last qualified heartbeat edge | ns, optional | 12 R296 | none -/
  hbEdge : Option Nat := none
  /-- PAIR_HB_OUT | 1 bit | 12 R296, 19 | 0 -/
  hbOut : Bool := false
  /-- time the pair link was lost | ns | 12 R298 | 0 -/
  lostAt : Nat := 0
  /-- the pair link has been lost since the role was taken, so deltas need no acknowledgement | 1 bit | 12 R292, R298 | 0 -/
  declaredLost : Bool := false
  /-- serial of the partner learned from its HELLO | 128 bits | 12 R305, R315 | 0 -/
  partnerSerial : Nat := 0
  /-- identity public key of the partner | 97 bytes | 12 R305, 07 R187 | empty -/
  partnerIdentity : Bytes := []
  /-- number of the last delta sent or applied | 64 bits | 12 R291 | 0 -/
  lastDelta : Nat := 0
  /-- deltas sent and not yet acknowledged, oldest first | list | 12 R291 | none -/
  unacked : List Delta := []
  /-- deltas received behind a copy or out of order, awaiting application | list | 12 R291, R302 | none -/
  waitingDeltas : List Delta := []
  /-- results released with UNMIRRORED, or as SOLE, with the number of the last delta then | list | 12 R302 | none -/
  unmirrored : List (Nat × JournalEntry) := []
  /-- records written, with the delta number that wrote them: (delta, gallery, slot) | list | 12 R302 | none -/
  written : List (Nat × Nat × Nat) := []
  /-- records as they stood before the changes made without the partner, newest first: (delta, gallery, slot, record), which a repaired member restores | list | 12 R302 | none -/
  undo : List (Nat × Nat × Nat × Option VRecord) := []
  /-- PAIR_SWAP waits for its deltas to be acknowledged: its ticket | optional | 12 R315 | none -/
  swapping : Option Nat := none
  /-- the member is withdrawing and waits for its deltas to be acknowledged: time it began | ns, optional | 12 R297 | none -/
  withdrawing : Option Nat := none
  /-- frames whose effect writes the Vitrine, received while the power-fail warning is active, oldest first | list | 15 R373 | none -/
  heldFrames : List (LinkHdr × FrameBody) := []
  /-- withdrawn by a MODULE or FATAL handler or a tamper response, and so until the next START | 1 bit | 13 R327 | 0 -/
  outUntilStart : Bool := false
  /-- time the pair start time-out ends | ns | 12 R301 | 0 -/
  startTimeout : Nat := 0
  /-- pair fields of the images did not match | 1 bit | 12 R284 | 0 -/
  mismatch : Bool := false
  /-- ports 0 to 3 | 4 | 12 R304 | each as its own defaults -/
  ports : Map SpanPort := []
  /-- span lanes that step 3 of START excluded, lane l of port p as 4p + l | list | 15 Table 15-1 | none -/
  badLanes : List Nat := []
  /-- own ends of links that are down: (module, port) | list | 12 R308 | none -/
  deadLinks : List (Nat × Nat) := []
  /-- time of the last route change | ns | 12 R308, R309 | 0 -/
  routeChangedAt : Nat := 0
  /-- SPN_ROUTE_SEL.MODULE | 12 bits | 12 Table 12-11 | 0 -/
  routeSel : Nat := 0
  /-- link frames sent, oldest first | output | 12 R306 | none -/
  sent : List SentFrame := []
  /-- keys agreed with modules beyond a relay, by module ID | map | 12 R307 | none -/
  farKeys : Map FarKey := []
  /-- frames of gallery state that wait for such a key, oldest first: class, destination, content | list | 12 R307 | none -/
  farWaiting : List (Nat × Nat × FrameBody) := []
  deriving DecidableEq, Repr, Inhabited

end Sys2Proof.Machine
end

