-- ==== Sys2Proof/Machine/WingState.lean ====
section
/-!
DEFINITION. The state of a wing: its cipher engine, hash unit and PK unit, its memories, its power state (spec 08, 09, 15). Each field's comment ends with its width, the rule that names it and its reset value, which is the default given here.
-/

namespace Sys2Proof.Machine

/-- What a grant register answers (CEN_GRANT, HSU_GRANT, PKU_GRANT), held until read. -/
structure Grant where
  granted : Bool
  denied : Bool
  wiped : Bool
  holdId : Nat
  deriving DecidableEq, Repr, Inhabited

/-- A load or an operation in an engine's pipeline: the key register it loads, if any; its output and where it goes; the context words and the scratch after it; its blocks; the time it ends. -/
structure EngineOp where
  load : Option (Nat × HeldKey)
  dst : Nat
  out : Bytes
  ctxAfter : List W64
  scratch : Option Bytes
  blocks : Nat
  endsAt : Nat
  deriving DecidableEq, Repr, Inhabited

/-- A cipher engine or a hash unit (R209 to R225). -/
structure Engine where
  /-- LOCK.HELD and OWNER: the cell, 0 to 7, that holds the engine | 1 bit and 3 bits | 08 Table 8-3 | 0 -/
  owner : Option Nat := none
  /-- claims queued, oldest first | up to 7 cells | 08 R209 | none -/
  queue : List Nat := []
  /-- time of each queued claim, by cell | ns | 08 R209 | none -/
  claimedAt : Map Nat := []
  /-- cells whose read of the grant register is stalled | up to 7 cells | 08 R209 | none -/
  reading : List Nat := []
  /-- time of the claim that the hold was granted to | ns, optional | 08 R209 | none -/
  grantedClaim : Option Nat := none
  /-- a key load with STEP that waits for the key's lock: cell, entry, key register, entries | optional | 08 R214 | none -/
  pendingLoad : Option (Nat × Nat × Nat × Nat) := none
  /-- time from which waiting claims are counted for event 6 of Table 18-3 | ns, optional | 18 R421 | none -/
  waitFrom : Option Nat := none
  /-- LOCK.CLEARING | 1 bit | 08 R212, Table 8-3 | 0 -/
  clearing : Bool := false
  /-- LOCK.FAULTED | 1 bit | 08 R219, Table 8-3 | 0 -/
  faulted : Bool := false
  /-- LOCK.SEED_READY | 1 bit | 08 R216, Table 8-3 | 0 (the hash unit's reads 1 always, R225) -/
  seedReady : Bool := false
  /-- LOCK.GALLERY | 20 bits | 08 Table 8-3 | 0 -/
  gallery : Nat := 0
  /-- HOLD_CYCLES counted up to `holdFrom`, and the cycles of a clear | 13 bits | 08 R211, R212, Table 8-3 | 0 -/
  holdBase : Nat := 0
  /-- time from which hold cycles are counted at the present clock | ns | 08 R211 | 0 -/
  holdFrom : Nat := 0
  /-- HOLD_ID of the last grant | 8 bits | 08 R209 | 0 -/
  holdId : Nat := 0
  /-- grant registers, by cell | RC | 08 R209 | 0 -/
  grants : Map Grant := []
  /-- value the last read of a grant, status or nonce register returned, by cell | 64 bits | 08 R209, Table 8-6 | 0 -/
  lastRead : Map W64 := []
  /-- key registers | 4 (hash unit 1) | 08 R213, R225 | empty -/
  keys : Map HeldKey := []
  /-- context words CTX0 to CTX7 | 8 x 64 bits | 08 R208 | 0 -/
  ctx : List W64 := List.replicate 8 0
  /-- scratch of the hash unit in wing memory for SHA-3, by cell of the wing | 200 bytes each | 08 R225 | empty -/
  scratch : Map Bytes := []
  /-- operation in the pipeline, which is BUSY | optional | 08 Table 8-6 | none -/
  busy : Option EngineOp := none
  /-- STATUS bits 1 to 8, RC | 8 bits | 08 Table 8-6 | 0 -/
  status : Nat := 0
  /-- times of fault alarms, newest first, for ALARMS_1S | list | 08 R220, Table 8-6 | none -/
  alarms : List Nat := []
  /-- the engine is faulted until the WING-scope handler completes | 1 bit | 08 R220 | 0 -/
  escalated : Bool := false
  /-- the IV formed by the last CEN_NONCE read | 12 bytes, optional | 08 R221 | none -/
  nonceIv : Option Bytes := none
  /-- CEN_MASK.SEEDS_USED | 32 bits | 08 R221 | 0 -/
  seedsUsed : Nat := 0
  /-- blocks done under the current mask seed | 17 bits | 08 R215 | 0 -/
  seedBlocks : Nat := 0
  /-- a refill of the spare seed is in progress | 1 bit | 08 R216 | 0 -/
  refilling : Bool := false
  /-- current seed of the mask generator | 256 bits | 08 R215 | empty -/
  seed : Bytes := []
  /-- spare seed of the mask generator | 256 bits | 08 R216 | empty -/
  spare : Bytes := []
  deriving DecidableEq, Repr, Inhabited

/-- A DMA transfer of the PK unit in progress: its command word and the bytes it moves. -/
structure PkuDma where
  cell : Nat
  word : W64
  data : Bytes
  deriving DecidableEq, Repr, Inhabited

/-- The PK unit (R228 to R241). -/
structure Pku where
  /-- PKU_LOCK.HELD and OWNER | 1 bit and 3 bits | 09 Table 9-3 | 0 -/
  owner : Option Nat := none
  /-- claims queued, oldest first | up to 7 cells | 09 R232 | none -/
  queue : List Nat := []
  /-- time of each queued claim, by cell | ns | 09 R232 | none -/
  claimedAt : Map Nat := []
  /-- cells whose read of PKU_GRANT is stalled | up to 7 cells | 09 R232 | none -/
  reading : List Nat := []
  /-- PKU_LOCK.WIPING: the cell for which the wipe runs, if any | 1 bit | 09 R239 | 0 -/
  wiping : Bool := false
  /-- PKU_LOCK.FAULTED | 1 bit | 09 R238 | 0 -/
  faulted : Bool := false
  /-- PKU_LOCK.DIRTY | 1 bit | 09 R240, Table 9-3 | 1 -/
  dirty : Bool := true
  /-- PKU_LOCK.GALLERY | 20 bits | 09 Table 9-3 | 0xF_FFFF -/
  gallery : Nat := 0xFFFFF
  /-- HOLD_CYCLES counted up to `holdFrom`, and the cycles of a wipe | 19 bits | 09 R233, R239 | 0 -/
  holdBase : Nat := 0
  /-- time from which hold cycles are counted | ns | 09 R233 | 0 -/
  holdFrom : Nat := 0
  /-- HOLD_ID of the last grant | 8 bits | 09 R234 | 0 -/
  holdId : Nat := 0
  /-- grant registers, by cell | RC | 09 R234 | 0 -/
  grants : Map Grant := []
  /-- value the last read of PKU_GRANT or PKU_STATUS returned, by cell | 64 bits | 09 Tables 9-3, 9-6 | 0 -/
  lastRead : Map W64 := []
  /-- PKU_CFG.LANES | 2 bits | 09 R230, R234 | 0 -/
  lanes : Nat := 0
  /-- PKU_CFG.QMOD | 31 bits | 09 R234 | 0 -/
  qmod : Nat := 0
  /-- PKU_QINV | 64 bits | 09 R234 | 0 -/
  qinv : Nat := 0
  /-- accumulator | 4,224 bits | 09 R228, R230 | 0 -/
  acc : Nat := 0
  /-- Q path: the b word of the next MAC_SHIFT with Q, one per lane | 64 bits each | 09 R231 | 0 -/
  qpath : List Nat := []
  /-- operand slots | 512 x 4,096 bits | 09 R229 | 0 -/
  slots : Map Nat := []
  /-- residue array: eight 31-bit residues per slot | 512 x 248 bits | 09 R229 | 0 -/
  residues : Map (List Nat) := []
  /-- DMA in progress, which is DMA_BUSY | optional | 09 R235, Table 9-6 | none -/
  dma : Option PkuDma := none
  /-- PKU_STATUS bits 2 to 7, RC | 6 bits | 09 Table 9-6 | 0 -/
  status : Nat := 0
  /-- times of fault alarms, newest first | list | 09 R238, Table 9-6 | none -/
  alarms : List Nat := []
  /-- the unit is faulted until the WING-scope handler completes | 1 bit | 09 R238 | 0 -/
  escalated : Bool := false
  deriving DecidableEq, Repr, Inhabited

/-- Power state of a wing (R374, R376). -/
inductive WingPower where
  | run
  | idle
  | nap
  | dark
  deriving DecidableEq, Repr, Inhabited

/-- One wing. -/
structure Wing where
  /-- cipher engine | registers | 08 Tables 8-2 to 8-6 | its defaults -/
  cen : Engine := {}
  /-- hash unit | registers | 08 R225 | its defaults -/
  hsu : Engine := {}
  /-- PK unit | registers | 09 Tables 9-2 to 9-6 | its defaults -/
  pku : Pku := {}
  /-- wing memory below operand memory | 1,792 KiB | 01 Table 1-7, 09 R229 | zeros, DESIGN CHOICE 0 (log 8) -/
  mem : Mem := []
  /-- power state, CUR_PLACE.STATE and PMC_WING | 2 bits | 15 R374, R376 | RUN -/
  power : WingPower := .run
  /-- waking: the state woken from | optional | 15 R376 | none -/
  waking : Option WingPower := none
  /-- the wing is quarantined | 1 bit | 13 R322, 10 R265 | 0 -/
  quarantined : Bool := false
  /-- the wing is withdrawn until START | 1 bit | 13 R322, R325 | 0 -/
  retired : Bool := false
  deriving DecidableEq, Repr, Inhabited

/-- The GDDR6 PK operand space (R235). -/
structure OperandSpace where
  /-- operand bytes, by address | 512 MiB | 09 R235 | zeros, DESIGN CHOICE 0 (log 8) -/
  mem : Mem := []
  /-- residues stored beside the operand at each 512-byte unit | 8 x 31 bits each | 09 R236 | none -/
  residues : Map (List Nat) := []
  /-- gallery tag of each 64 KiB page | 8,192 x 20 bits | 09 R235 | 0xF_FFFF -/
  tags : Map Nat := []
  deriving DecidableEq, Repr, Inhabited

end Sys2Proof.Machine
end

