-- ==== Sys2Proof/Machine/PowerState.lean ====
section
/-!
DEFINITION. START, operating modes, thermal stepping and power (spec 15, 01), with the output pins. Each field's comment ends with its width, the rule that names it and its reset value, which is the default given here.
-/

namespace Sys2Proof.Machine

/-- The modes of Table 15-2, by code. CEREMONY and ISOLATED are held beside a service mode and are fields of their own. -/
inductive Mode where
  | vault
  | start
  | service
  | quiesce
  | update
  | diagnostic
  | tampered
  | halt
  deriving DecidableEq, Repr, Inhabited

/-- A QUIESCE in progress or complete (R370). -/
structure Quiesce where
  /-- ticket of the MODE_SET that asked for it | optional | 15 R370 | none -/
  ticket : Option Nat
  /-- end of the drain time-out | ns | 15 R368 | per MODE_SET -/
  drainAt : Nat
  /-- the drain time-out has expired | 1 bit | 15 R370 | 0 -/
  expired : Bool
  /-- QUIESCE is complete | 1 bit | 15 R370 | 0 -/
  complete : Bool
  /-- the Curator's update flow asked for it and goes on to UPDATE | 1 bit | 17 R412 | 0 -/
  forUpdate : Bool
  deriving DecidableEq, Repr, Inhabited

/-- An AVSBus transaction of the module (R441): the setpoint asked for, and whether clocks rise after it settles. -/
structure AvsRequest where
  millivolts : Nat
  tries : Nat
  deriving DecidableEq, Repr, Inhabited

/-- Modes, START and power. -/
structure Power where
  /-- main power is present and in range | 1 bit | 15 R360 | 1 -/
  main : Bool := true
  /-- PWRON_RESET_N asserted | 1 bit | 19 R436 | 0: State.reset is just after its deassertion -/
  pwronAsserted : Bool := false
  /-- PERST_N asserted | 1 bit | 19 R436 | 1, DESIGN CHOICE (log 3) -/
  perstAsserted : Bool := true
  /-- mode | 4 bits | 15 R367, Table 15-6 | START -/
  mode : Mode := .start
  /-- PMC_MODE.SERVICE | 4 bits | 15 Table 15-6 | Image, 3 -/
  service : Nat := 3
  /-- service mode at whose clocks the fabric runs, and every wing that has no other to switch to | 4 bits | 15 R369, Table 15-1 | 3 -/
  clockMode : Nat := 3
  /-- stages of START's close that are complete | 0 to 8 | 15 R366, Table 15-1 | 0 -/
  closeStage : Nat := 0
  /-- PMC_MODE.CEREMONY | 1 bit | 15 Table 15-6 | 0 -/
  ceremony : Bool := false
  /-- PMC_MODE.ISOLATED | 1 bit | 15 Table 15-6 | 0 -/
  isolated : Bool := false
  /-- PMC_MODE.READY and the READY pin | 1 bit | 15 R364 | 0 -/
  ready : Bool := false
  /-- PMC_MODE.PENDING | 1 bit | 15 Table 15-6 | 0 -/
  pending : Bool := false
  /-- PMC_MODE.START_STEP | 4 bits | 15 Table 15-6 | 0 -/
  startStep : Nat := 0
  /-- PMC_MODE.FIRST_START | 1 bit | 15 Table 15-6 | 0 -/
  firstStart : Bool := false
  /-- PMC_MODE.START_MS | 32 bits | 15 Table 15-6 | 0 -/
  startMs : Nat := 0
  /-- time START began | ns | 15 R360 | 0 -/
  startAt : Nat := 0
  /-- time since which the fabric clocks count, START | ns | 18 Tables 18-2, 18-9 | 0 -/
  countFrom : Nat := 0
  /-- START is running: steps have begun and READY has not risen | 1 bit | 15 R361 | 0 -/
  starting : Bool := false
  /-- QUIESCE | optional | 15 R370 | none -/
  quiesce : Option Quiesce := none
  /-- wings that have not yet switched at a mode change | 16 bits | 15 R369 | none -/
  switching : List Nat := []
  /-- service mode the wings are switching to | 4 bits, optional | 15 R369 | none -/
  switchTo : Option Nat := none
  /-- ticket of the MODE_SET whose OK waits for the switch | optional | 15 R368 | none -/
  switchTicket : Option Nat := none
  /-- AVSBus request outstanding | optional | 15 R369, 19 R441 | none -/
  avs : Option AvsRequest := none
  /-- PMC_THERMAL.TC_EST | 12 bits, signed | 15 Table 15-8 | 0 -/
  tcEst : Int := 0
  /-- PMC_THERMAL.STEP | 2 bits | 15 Table 15-8 | 0 -/
  step : Nat := 0
  /-- PMC_THERMAL.OVER_RANGE | 1 bit | 15 Table 15-8 | 0 -/
  overRange : Bool := false
  /-- PMC_THERMAL.HOTTEST | 12 bits, signed | 15 Table 15-8 | 0 -/
  hottest : Int := 0
  /-- PMC_THERMAL.VCORE_MV, the setpoint | 10 bits | 15 Table 15-8 | 800 -/
  vcoreMv : Nat := 800
  /-- PMC_THERMAL.STEPS | 16 bits | 15 Table 15-8 | 0 -/
  steps : Nat := 0
  /-- time since which the estimate has stayed below 82 C | ns, optional | 15 R377 | none -/
  coolSince : Option Nat := none
  /-- time since which the estimate has stayed below 97 C | ns, optional | 15 R377 | none -/
  mildSince : Option Nat := none
  /-- thermal step to return to once the setpoint has settled | optional | 15 R377 | none -/
  returning : Option Nat := none
  /-- PMC_POLICY.MIN_RUN | 5 bits | 15 Table 15-9 | Image, 2 -/
  minRun : Nat := 2
  /-- PMC_POLICY.NO_DARK | 1 bit | 15 Table 15-9 | Image, 0 -/
  noDark : Bool := false
  /-- PMC_POLICY.NO_PLL_STOP | 1 bit | 15 Table 15-9 | Image, 0 -/
  noPllStop : Bool := false
  /-- PMC_WINGS.PLL_STOPPED | 4 bits | 15 Table 15-7 | 0 -/
  pllStopped : List Nat := []
  /-- PMC_WINGS.W_RUN | 5 bits | 15 Table 15-7 | 16 -/
  wRun : Nat := 16
  /-- PMC_WINGS.TOLERANCE | 16 bits | 15 Table 15-7 | 0 -/
  tolerance : Nat := 0
  /-- time of the last take of each wing | ns | 15 R375 | 0 -/
  lastTake : Map Nat := []
  /-- wings woken and counted in w_run until the next recomputation but one: recomputations that still count them | table | 15 R376 | none -/
  woken : Map Nat := []
  /-- wings woken for ready work of which they have taken none yet | set | 15 R376 | none -/
  awaited : List Nat := []
  /-- power-fail warning active | 1 bit | 15 R373 | 0 -/
  failWarning : Bool := false
  /-- the sixteen wings | 16 | 01 R10, 15 R374 | each as its own defaults -/
  wings : Map Wing := []
  /-- GDDR6 PK operand space | 512 MiB | 09 R235 | its defaults -/
  operandSpace : OperandSpace := {}
  deriving DecidableEq, Repr, Inhabited

end Sys2Proof.Machine
end

