-- ==== Sys2Proof/Machine/RngState.lean ====
section
/-!
DEFINITION. The state of the random number block (spec 11). Each field's comment ends with its width, the rule that names it and its reset value, which is the default given here.
-/

namespace Sys2Proof.Machine

/-- What a noise source is doing (R272, R274). -/
inductive SourcePhase where
  | stopped
  | starting
  | live
  deriving DecidableEq, Repr, Inhabited

/-- One noise source and its health tests. -/
structure Source where
  /-- contributing blocks, or in warm-up and start-up samples | SOURCES_LIVE, RESTARTING | 11 Table 11-4 | stopped -/
  phase : SourcePhase := .stopped
  /-- FAILED_BLOCKS | 16 bits | 11 Table 11-5 | 0 -/
  failed : Nat := 0
  /-- consecutive failures, CONSEC | 2 bits | 11 R272, Table 11-5 | 0 -/
  consec : Nat := 0
  /-- LAST_RCT | 1 bit | 11 Table 11-5 | 0 -/
  lastRct : Bool := false
  /-- LAST_APT | 1 bit | 11 Table 11-5 | 0 -/
  lastApt : Bool := false
  /-- BLOCKS | 32 bits | 11 Table 11-5 | 0 -/
  blocks : Nat := 0
  /-- the 256-bit LFSR compressor | 256 bits | 11 R269, Table 11-1 | 0 -/
  lfsr : BitVec 256 := 0
  /-- the last sample, for the repetition count test | 1 bit, optional | 11 R271 | none -/
  last : Option Bool := none
  /-- identical samples up to the last | count | 11 R271 | 0 -/
  run : Nat := 0
  /-- time of the last failure | ns, optional | 11 R273 | none -/
  failedAt : Option Nat := none
  deriving DecidableEq, Repr, Inhabited

/-- A CTR_DRBG instance (R276): AES-256 key, V and the generate requests since its last seeding. -/
structure Drbg where
  /-- Key | 256 bits | 11 R276 | from the instantiation -/
  key : Bytes
  /-- V | 128 bits | 11 R276 | from the instantiation -/
  v : Bytes
  /-- generate requests since the seeding | 33 bits | 11 R276 | 0 -/
  requests : Nat := 0
  deriving DecidableEq, Repr, Inhabited

/-- A draw queued on the pool (R277). -/
structure PoolDraw where
  inst : Nat
  reseed : Bool
  deriving DecidableEq, Repr, Inhabited

/-- The random number block. -/
structure Rng where
  /-- sources 0 to 7 | 8 | 11 R269 | each as its own defaults -/
  sources : Map Source := []
  /-- entropy pool, oldest block first | up to 64 blocks of 32 bytes | 11 R269, R270 | empty -/
  pool : List Bytes := []
  /-- DRBG instances, by number | 4,129 | 11 R275 | none -/
  drbgs : Map Drbg := []
  /-- draws queued on the pool, in order of request | list | 11 R277 | none -/
  queue : List PoolDraw := []
  /-- reseed interval of the image | 2^10 to 2^20 | 11 R276 | Image, 2^20 -/
  interval : Nat := 0x100000
  /-- the instance that has refused a request of the command at work: its cell parks it | optional | 11 R279 | none -/
  starved : Option Nat := none
  /-- RNG_STATE.STARTUP_DONE | 1 bit | 11 Table 11-4 | 0 -/
  startupDone : Bool := false
  /-- RNG_STATE.FATAL | 1 bit | 11 R280 | 0 -/
  fatal : Bool := false
  /-- RNG_STATE.FATAL_CAUSE | 2 bits | 11 R273 | 0 -/
  fatalCause : Nat := 0
  /-- RNG_STATE.FATAL_SOURCE | 3 bits | 11 R273 | 0 -/
  fatalSource : Nat := 0
  /-- RNG_STATE.DUTY_LOW | 1 bit | 11 R269 | 0 -/
  dutyLow : Bool := false
  /-- RNG_LIFE.FATAL_COUNT | 8 bits, always-on | 11 Table 11-7 | 0 -/
  lifeCount : Nat := 0
  /-- RNG_LIFE.LAST_FATAL | 32 bits, always-on | 11 Table 11-7 | 0 -/
  lifeLast : Nat := 0
  /-- COUNTER of the hardware nonce service | 64 bits | 08 R222 | 0 -/
  nonceCounter : Nat := 0
  deriving DecidableEq, Repr, Inhabited

end Sys2Proof.Machine
end

