-- ==== Sys2Proof/Machine/TamperState.lean ====
section
/-!
DEFINITION. The always-on domain: BBRAM, tamper block, inputs and key switches; the fuses and the Registrar; the Conservator (spec 14, 07 R201, 08 R222, 15 R363). Each field's comment ends with its width, the rule that names it and its reset value, which is the default given here.
-/

namespace Sys2Proof.Machine

/-- BBRAM (R16, R35, R182, R222, R330, R363, R393). -/
structure Bbram where
  /-- validity mark | 1 bit | 15 R363 | 0 -/
  valid : Bool := false
  /-- FATAL-erasure flag | 1 bit | 13 R330 | 0 -/
  fatalErased : Bool := false
  /-- module root | 256 bits, optional | 07 R178 | none -/
  root : Option Bytes := none
  /-- Vitrine version counter | 64 bits | 07 R182 | 0 -/
  version : Nat := 0
  /-- gallery creation counter: epochs handed out | 32 bits | 02 R35 | 0 -/
  creation : Nat := 0
  /-- nonce reservation mark | 64 bits | 08 R222 | 0 -/
  nonceMark : Nat := 0
  /-- image version floor | 64 bits | 16 R393 | 0 -/
  floor : Nat := 0
  /-- pinned authority digest | 48 bytes, optional | 16 R393 | none -/
  pinned : Option Bytes := none
  /-- BBRAM was lost since it was last written: the next step 1 burns a nonce-epoch fuse | 1 bit | 08 R222 | 0 -/
  lost : Bool := false
  deriving DecidableEq, Repr, Inhabited

/-- One driven loop or mesh (R338): loops 0 to 3, lid mesh 4, substrate mesh 5. -/
structure Loop where
  /-- last 8 comparisons, bit 0 the latest | 8 bits | 14 Table 14-3 | 0 -/
  history : Nat := 0
  /-- MISMATCHES | 8 bits | 14 Table 14-10 | 0 -/
  mismatches : Nat := 0
  /-- ECHO | 1 bit | 14 Table 14-10 | 0 -/
  echo : Bool := false
  /-- EXPECTED | 1 bit | 14 Table 14-10 | 0 -/
  expected : Bool := false
  deriving DecidableEq, Repr, Inhabited

/-- A discrete input (R339): its qualified level and the samples at the other level. -/
structure Input where
  /-- qualified level | 1 bit | 14 R339 | inactive -/
  level : Bool := false
  /-- consecutive samples at the other level | 2 bits | 14 R339 | 0 -/
  run : Nat := 0
  deriving DecidableEq, Repr, Inhabited

/-- One of the two key switches (R201). -/
structure KeySwitch where
  /-- time of its qualified activation | ns, optional | 07 R201 | none -/
  since : Option Nat := none
  deriving DecidableEq, Repr, Inhabited

/-- The always-on domain besides BBRAM. -/
structure AlwaysOn where
  /-- module time 0, as a time of this model | ns | 01 R28 | 0 -/
  since : Nat := 0
  /-- power-ups of the always-on domain | counter | 14 R338 | 0 -/
  powerUps : Nat := 0
  /-- VAUX is present | 1 bit | 14 Table 14-2 | 1 -/
  vaux : Bool := true
  /-- VBAT is present | 1 bit | 14 Table 14-2 | 1 -/
  vbat : Bool := true
  /-- 31-bit loop generator | 31 bits | 14 R338 | seeded at power-up 0 (Config.loopSeed 0) -/
  generator : BitVec 31
  /-- counts since the drive level last changed, up to 4 | 3 bits | 14 R338 | 0 -/
  driveCount : Nat := 0
  /-- loops and meshes | 6 | 14 R338 | each as its own defaults -/
  loops : Map Loop := []
  /-- inputs KEYSW_A 0, KEYSW_B 1, HOLDUP_OK 2, PAIR_HB_IN 3 | 4 | 14 R339 | each as its own defaults -/
  inputs : Map Input := []
  /-- key switches A 0, B 1 | 2 | 07 R201 | each as its own defaults -/
  switches : Map KeySwitch := []
  /-- LCS_CEREMONY.LOCKOUT | 1 bit | 07 R201, Table 7-10 | 0 -/
  lockout : Bool := false
  /-- time since which both switches have been off together | ns, optional | 07 R201 | none -/
  bothOff : Option Nat := none
  /-- TAM_STATUS.LATCHED | 14 bits | 14 Table 14-9 | 0 -/
  latched : Nat := 0
  /-- TAM_STATUS.LIVE | 14 bits | 14 Table 14-9 | 0 -/
  live : Nat := 0
  /-- time since which no cause has been live | ns, optional | 14 Table 14-5 | 0 -/
  quietSince : Option Nat := some 0
  /-- TAM_STATUS.RESPONDED, the tamper latch | 1 bit | 14 R344 | 0 -/
  responded : Bool := false
  /-- TAM_STATUS.RECORD_VALID | 1 bit | 14 Table 14-9 | 0 -/
  recordValid : Bool := false
  /-- TAM_RECORD | 64 bytes | 14 R345, Table 14-3 | zeros -/
  record : Bytes := List.replicate 64 0
  /-- tamper collection in progress: time of the decision and the first cause | optional | 14 R340 | none -/
  collecting : Option (Nat × Nat) := none
  /-- causes decided in the collection count | 14 bits | 14 R340 | 0 -/
  collected : Nat := 0
  /-- tamper records written since power-up, SEQ | 32 bits | 14 Table 14-3 | 0 -/
  recordSeq : Nat := 0
  /-- consecutive samples of the always-on die sensor beyond a threshold: low, high | 2 counters | 14 Table 14-1 | 0 -/
  tempRun : Nat × Nat := (0, 0)
  /-- last always-on die temperature, 0.5 C | 16 bits, signed | 14 Table 14-3 | 0, DESIGN CHOICE (log 9) -/
  temp : Int := 0
  /-- last VBAT, VAUX and VDD_CORE readings | mV | 14 Table 14-3 | 3000, 3300, 800, DESIGN CHOICE (log 9) -/
  supplies : Nat × Nat × Nat := (3000, 3300, 800)
  /-- a debug grant waits for the next START | 1 bit | 14 R355 | 0 -/
  debugGrant : Bool := false
  /-- the Curator has not yet logged the tamper record | 1 bit | 14 R345 | 0 -/
  recordToLog : Bool := false
  /-- TAMPER_OUT | 1 bit | 14 R340, R344 | 0 -/
  tamperOut : Bool := false
  deriving DecidableEq, Repr, Inhabited

/-- A transition record in the fuses (R349, R351). -/
structure TransitionRecord where
  target : Nat
  token : Nat
  complete : Bool
  deriving DecidableEq, Repr, Inhabited

/-- The fuses that change in service. -/
structure Fuses where
  /-- transition records, oldest first | 64 | 14 R349 | those of a unit in MANUFACTURED (log 10) -/
  records : List TransitionRecord := []
  /-- nonce-epoch fuses burned | 6 bits | 08 R222 | 0 -/
  epochs : Nat := 0
  /-- all 63 epoch fuses were burned when BBRAM was lost again: the nonce service is withdrawn | 1 bit | 08 R222 | 0 -/
  nonceWithdrawn : Bool := false
  /-- anti-rollback pairs burned | 0 to 256 | 17 R413 | 0 -/
  arc : Nat := 0
  /-- ordering code MGN-LX96-E | 1 bit | 14 Table 14-8, 00 R1 | 0 -/
  codeE : Bool := false
  deriving DecidableEq, Repr, Inhabited

/-- A transition being burned (R351). -/
structure Burn where
  target : Nat
  token : Nat
  /-- the house function that waits for it, or none on the Curator path -/
  ticket : Option Nat
  /-- the bus that the message arrived on -/
  bus : Nat
  /-- time of the request: the intent pair burns 0.1 ms later -/
  at_ : Nat
  /-- a tamper cause was decided since (Table 14-13) -/
  decided : Bool := false
  deriving DecidableEq, Repr, Inhabited

/-- The Registrar and the Conservator. -/
structure Registrar where
  /-- LCS_STATE.STATE in force | 4 bits | 14 Table 14-8 | Fuses, 3 MANUFACTURED (log 10) -/
  state : Nat := 3
  /-- LCS_STATE.DEBUG | 1 bit | 14 R355, Table 14-8 | 0 -/
  debug : Bool := false
  /-- debug is enabled for a START that has begun | 1 bit | 14 R355 | 0 -/
  debugStarted : Bool := false
  /-- transition being burned, LCS_STATE.BURNING | optional | 14 R351 | none -/
  burn : Option Burn := none
  /-- a transition is complete: commits are answered NOT_READY until START | 1 bit | 14 R350 | 0 -/
  transitioned : Bool := false
  /-- outstanding debug challenge | 32 bytes, optional | 14 R355 | none -/
  challenge : Option Bytes := none
  /-- the wipe of RETURNED has verified blank | 1 bit | 14 R353 | 0 -/
  wiped : Bool := false
  /-- CON_RESULT.FIELD_PASS | 8 bits | 14 Table 14-11 | 0 -/
  fieldPass : Nat := 0
  /-- CON_RESULT.FIELD_RUN | 8 bits | 14 Table 14-11 | 0 -/
  fieldRun : Nat := 0
  /-- CON_RESULT.FULL_PASS | 8 bits | 14 Table 14-11 | 0 -/
  fullPass : Nat := 0
  /-- CON_RESULT.FULL_RUN | 8 bits | 14 Table 14-11 | 0 -/
  fullRun : Nat := 0
  /-- CON_RESULT.FIELD_MS | 16 bits | 14 Table 14-11 | 0 -/
  fieldMs : Nat := 0
  /-- CON_RESULT.FULL_100MS | 16 bits | 14 Table 14-11 | 0 -/
  full100ms : Nat := 0
  /-- a full run is in progress | 1 bit | 14 R356 | 0 -/
  fullRunning : Bool := false
  deriving DecidableEq, Repr, Inhabited

end Sys2Proof.Machine
end

