-- ==== Sys2Proof/Machine/WindowState.lean ====
section
/-!
DEFINITION. The state of the PCIe endpoint and of one window (spec 03, and the window blocks of spec 18). Each field's comment ends with its width, the rule that names it and its reset value, which is the default given here.
-/

namespace Sys2Proof.Machine

/-- One MSI-X table entry and its pending bit. -/
structure MsixEntry where
  /-- message address | 64 bits | 03 R57, R79 | 0 -/
  addr : W64 := 0
  /-- message data | 32 bits | 03 R57, R79 | 0 -/
  data : Nat := 0
  /-- vector Mask bit | 1 bit | 03 R57, R79 | 1 -/
  masked : Bool := true
  /-- pending-bit array bit | 1 bit | 03 R57, R79 | 0 -/
  pending : Bool := false
  deriving DecidableEq, Repr, Inhabited

/-- The PCIe configuration bits and MSI-X structures of one function. -/
structure PcieFn where
  /-- Bus Master Enable | 1 bit | 03 R57 | 0 -/
  busMaster : Bool := false
  /-- MSI-X Enable | 1 bit | 03 R57 | 0 -/
  msixEnable : Bool := false
  /-- MSI-X function mask | 1 bit | 03 R57 | 0 -/
  fnMask : Bool := false
  /-- power management state D3hot, D0 otherwise | 1 bit | 03 R56 | 0 -/
  d3hot : Bool := false
  /-- MSI-X table and pending bits, by vector | 256 entries on the PF, 4 on a VF | 03 R56, R57 | every entry masked, 0 -/
  vectors : Map MsixEntry := []
  deriving DecidableEq, Repr, Inhabited

/-- An MSI-X message sent on the link. -/
structure MsixMsg where
  fn : Nat
  vector : Nat
  addr : W64
  data : Nat
  deriving DecidableEq, Repr, Inhabited

/-- A published response in a response slot (R69, R70): the whole frame, of which the slot shows the first 512 bytes. -/
structure Published where
  seq : Nat
  ticket : Nat
  frame : Bytes
  deriving DecidableEq, Repr, Inhabited

/-- A released response on its way to publication (R69): its sequence number, its descriptor, its frame without LATENCY and SEAL fixed. -/
structure Released where
  ticket : Nat
  seq : Nat
  releasedAt : Nat
  deriving DecidableEq, Repr, Inhabited

/-- One stream of a window. -/
structure Stream where
  /-- WIN_STREAM_CTL.ENABLE | 1 bit | 03 R60, Table 3-9 | 0 -/
  enable : Bool := false
  /-- WIN_STREAM_CTL.SEALED | 1 bit | 03 R60, Table 3-9 | 0 -/
  sealed : Bool := false
  /-- WIN_STREAM_CTL.SEAL_EPOCH of the current sealed enable | 32 bits | 03 R72, Table 3-9 | 0 -/
  sealEpoch : Nat := 0
  /-- the command and response seal keys derived at the enable | 2 x 256 bits | 03 R72 | none -/
  sealKeys : Option (Bytes × Bytes) := none
  /-- generation of the seal key's record at the enable | 32 bits | 03 R73 | 0 -/
  sealGen : Nat := 0
  /-- handle of the key that the current sealed enable uses | 64 bits | 03 R72, R73 | 0 -/
  sealFor : W64 := 0
  /-- WIN_STREAM_BASE | 48 bits | 03 R60, Table 3-5 | 0 -/
  base : Nat := 0
  /-- WIN_STREAM_SEAL, the seal key handle | 64 bits | 03 R60, Table 3-5 | 0 -/
  sealHandle : W64 := 0
  /-- WIN_STREAM_NEXT while no flow holds it | 48 bits | 03 R60, Table 3-5 | 0 -/
  next : Nat := 0
  /-- WIN_STREAM_STATUS.ACTIVE | 1 bit | 03 R63, Table 3-10 | 0 -/
  active : Bool := false
  /-- an enable waits for the answer of the gallery's home | 1 bit | 03 R63, 12 R309 | 0 -/
  opening : Bool := false
  /-- the stream's Docent flow | 16 bits, optional | 10 R248 | none -/
  flow : Option Nat := none
  /-- submit slots, slot k at 0x200 k | 8 x 512 bytes | 03 R60, R65 | zeros, DESIGN CHOICE 0 (log 6) -/
  submit : Mem := []
  /-- slots being copied, the complement of SUBMIT_FREE | 8 bits | 03 R65, Table 3-10 | none (SUBMIT_FREE 0xFF) -/
  busy : List Nat := []
  /-- large frame in assembly, by frame byte | 65,568 bytes | 03 R67 | zeros -/
  large : Mem := []
  /-- WIN_LFS_POS.WORD | 14 bits | 03 R67, R68 | 0 -/
  lfsPos : Nat := 0
  /-- LFS_BUSY: the held slot and the number of the frame being copied | 1 bit, 3 bits and 48 bits | 03 R68, Table 3-10 | none -/
  lfsCopy : Option (Nat × Nat) := none
  /-- WIN_LFR_SEL.SEQ | 48 bits | 03 R70 | 0 -/
  lfrSeq : Nat := 0
  /-- WIN_LFR_SEL.WORD | 14 bits | 03 R70 | 0 -/
  lfrWord : Nat := 0
  /-- responses published and unacknowledged, by slot: RESP_PUBLISHED is their set; each with its whole frame, as the large-frame buffers hold it | 8 frames | 03 R69, R70, Table 3-10 | none -/
  resp : Map Published := []
  /-- the 512 bytes each response slot shows the host | 8 x 512 bytes | 03 R60, R69 | zeros, DESIGN CHOICE 0 (log 6) -/
  slots : Map Bytes := []
  /-- released responses not yet published, oldest first | a queue | 03 R69 | empty -/
  waiting : List Released := []
  /-- WIN_STREAM_STATUS.RESP_STALL | 1 bit | 03 R69, Table 3-10 | 0 -/
  respStall : Bool := false
  /-- WIN_STREAM_STATUS.COMMIT_ERR | 1 bit | 03 R66, Table 3-10 | 0 -/
  commitErr : Bool := false
  /-- WIN_STREAM_STATUS.ACK_ERR | 1 bit | 03 R71, Table 3-10 | 0 -/
  ackErr : Bool := false
  /-- WIN_STREAM_STATUS.ENABLE_REFUSED | 1 bit | 03 R63, Table 3-10 | 0 -/
  enableRefused : Bool := false
  /-- WIN_STREAM_STATUS.LF_ERR | 1 bit | 03 R68, Table 3-10 | 0 -/
  lfErr : Bool := false
  /-- WIN_CNT_COMMITTED | 64 bits | 18 R427, Table 18-10 | 0 -/
  cntCommitted : Nat := 0
  /-- WIN_CNT_RELEASED | 64 bits | 18 R427, Table 18-10 | 0 -/
  cntReleased : Nat := 0
  /-- WIN_CNT_REFUSED | 64 bits | 18 R427, Table 18-10 | 0 -/
  cntRefused : Nat := 0
  deriving DecidableEq, Repr, Inhabited

/-- A GALLERY_UNBIND in progress (R38): the ticket of the command, the drain timer's expiry time and its place in the order of insertion (R259). -/
structure Unbind where
  ticket : Nat
  expiry : Nat
  order : Nat := 0
  deriving DecidableEq, Repr, Inhabited

/-- One window. -/
structure Window where
  /-- WIN_ID.GALLERY and BOUND | 20 bits and 1 bit | 03 R60, Table 3-6 | unbound (the PF is bound to gallery 0 at START) -/
  gallery : Option Nat := none
  /-- WIN_FAULT | 4 bits | 03 R58, R61, R62, R65, Table 3-8 | 0 -/
  fault : W64 := 0
  /-- WIN_EVENT_CAUSE | 49 bits | 03 R74, Table 3-12 | 0 -/
  cause : W64 := 0
  /-- WIN_EVENT_MASK | 49 bits | 03 R74, Table 3-12 | 0 -/
  mask : W64 := 0
  /-- WIN_EVENT_MOD.HOLDOFF, in microseconds | 8 bits | 03 R74, R75 | 0 -/
  holdoff : Nat := 0
  /-- WIN_EVENT_MOD.COUNT | 4 bits | 03 R74, R75 | 1 -/
  count : Nat := 1
  /-- publications since the previous vector-0 message | counter | 03 R75 | 0 -/
  unsignalled : Nat := 0
  /-- time of the first unsignalled publication | ns | 03 R75 | none -/
  firstUnsignalled : Option Nat := none
  /-- commits refused with QUOTA_EXCEEDED in the current tick | 16 bits | 03 R75 | 0 -/
  refusedNow : Nat := 0
  /-- WIN_QUOTA_RATE.REFUSED_TICK | 16 bits | 03 R75 | 0 -/
  refusedTick : Nat := 0
  /-- GALLERY_UNBIND in progress | optional | 02 R38 | none -/
  unbind : Option Unbind := none
  /-- function-level reset in progress: the tickets whose responses are to be discarded | optional | 03 R79 | none -/
  flr : Option (List Nat) := none
  /-- WIN_STATE as last reported by WINDOW_STATE | STATE, MEMBER, TERM | 03 R74, Table 3-12 | 0 -/
  lastState : Nat × Nat × Nat := (0, 0, 0)
  /-- the 16 streams | 16 blocks | 03 R60, Table 3-5 | each as its own defaults -/
  streams : Map Stream := []
  /-- WIN_TRACEi, the window's trace ring, by entry | 16 x 64 bytes | 18 R427 | zeros -/
  traces : Map Bytes := []
  /-- WIN_CNT_STATE.TRACE_NEXT | 4 bits | 18 R427, Table 18-10 | 0 -/
  traceNext : Nat := 0
  /-- WIN_CNT_STATE.TRACED | 32 bits | 18 R427, Table 18-10 | 0 -/
  traced : Nat := 0
  deriving DecidableEq, Repr, Inhabited

/-- The endpoint and the module event registers. -/
structure Fabric where
  /-- PCIe functions, by number | 1,025 | 03 R56 | each as its own defaults -/
  fns : Map PcieFn := []
  /-- windows, by function number | 1,025 | 03 R60 | each as its own defaults -/
  windows : Map Window := []
  /-- WIN_MEV_CAUSE0-3, 64 bits each, bit n of the number being source n | 256 bits | 03 R76 | 0 -/
  mevCause : Nat := 0
  /-- WIN_MEV_MASK0-3 | 256 bits | 03 R76 | 0 -/
  mevMask : Nat := 0
  /-- rows of VFs that GALLERY_RIGHTS has edited since START, by VF number | 1,024 x 11 bytes | 02 R43, 16 R399 | none: each VF row is the image's VF default row -/
  vfRows : Map (List Nat) := []
  /-- the PCIe link is up | 1 bit | 03 R80 | 1, DESIGN CHOICE (log 7) -/
  linkUp : Bool := true
  /-- MSI-X messages sent, oldest first | output | 03 R57 | none -/
  sent : List MsixMsg := []
  /-- bytes the last response-area or response-port read returned | output | 03 R62, R70 | none -/
  lastRead : Bytes := []
  /-- AER non-fatal errors reported | output | 13 R320 | 0 -/
  aerNonFatal : Nat := 0
  deriving DecidableEq, Repr, Inhabited

end Sys2Proof.Machine
end

