-- ==== Sys2Proof/Machine/State.lean ====
section
/-!
DEFINITION. The state of the LX96 block, what can stop a run, and the state right after reset.
-/

namespace Sys2Proof.Machine

/-- The machine: every register, queue, memory and mode the spec gives the module, the commands waiting, and the model's own clock and free-value counter. -/
structure State where
  /-- endpoint and windows -/
  fab : Fabric
  /-- Docent -/
  doc : Docent
  /-- galleries, Vitrine, key cache, meter store -/
  vit : Vault
  /-- random number block -/
  rng : Rng
  /-- pair and span -/
  pair : Pair
  /-- error handlers -/
  err : Err
  /-- BBRAM -/
  bb : Bbram
  /-- always-on domain -/
  ao : AlwaysOn
  /-- fuses -/
  fuses : Fuses
  /-- Registrar and Conservator -/
  reg : Registrar
  /-- modes, power, wings -/
  pow : Power
  /-- flash and image -/
  img : Image
  /-- Curator -/
  cur : Curator
  /-- counters and sampling -/
  cnt : Counters
  /-- time of this model in nanoseconds -/
  now : Nat
  /-- free values drawn so far: the model's own counter (log 13) -/
  freeCount : Nat
  /-- the commands that wait, first in, first out -/
  pending : List Instr
  deriving DecidableEq, Repr

/-- What faults: nothing. Every command of the table has an effect in every state. -/
inductive Fault where
  deriving DecidableEq, Repr

/-- What is refused. -/
inductive Refusal where
  /-- Raised by exec for a command that has no meaning yet, named by its mnemonic. Safe: the model stops. -/
  | notModelled (mnemonic : String)
  deriving DecidableEq, Repr

/-- The machine right after the deassertion of PWRON_RESET_N, with PERST_N still asserted: the mode is START and no step has run (Table 15-6). A new unit: life-cycle state MANUFACTURED, ordering code MGN-LX96-P, always-on domain just powered up (log 2, log 3, log 10). -/
def State.reset : State where
  fab := {}
  doc := {}
  vit := {}
  rng := {}
  pair := {}
  err := {}
  bb := {}
  ao := { generator := Config.loopSeed 0 }
  fuses := { records := [{ target := 1, token := 0, complete := true }, { target := 3, token := 0, complete := true }] }
  reg := {}
  pow := {}
  img := { fwA := some { version := 1, security := 0, ecdsaOk := true, mldsaOk := true, digest := [] } }
  cur := {}
  cnt := {}
  now := 0
  freeCount := 0
  pending := []

end Sys2Proof.Machine
end

