-- ==== Sys2Proof/Machine/Flags.lean ====
section
/-!
DEFINITION. Status codes (R110, Table 4-7), response flags (R88, Table 4-5) and mode codes (R367, Table 15-2).
-/

namespace Sys2Proof.Machine

namespace Status

/-- OK. -/
abbrev ok : Nat := 0x0000
/-- MALFORMED. -/
abbrev malformed : Nat := 0x0101
/-- UNKNOWN_FUNCTION. -/
abbrev unknownFunction : Nat := 0x0102
/-- BAD_LENGTH. -/
abbrev badLength : Nat := 0x0103
/-- SEQUENCE_GAP. -/
abbrev sequenceGap : Nat := 0x0104
/-- SEAL_FAILED. -/
abbrev sealFailed : Nat := 0x0105
/-- ACCESS_DENIED. -/
abbrev accessDenied : Nat := 0x0201
/-- QUOTA_EXCEEDED. -/
abbrev quotaExceeded : Nat := 0x0202
/-- STREAM_FENCED. -/
abbrev streamFenced : Nat := 0x0203
/-- KEY_NOT_FOUND. -/
abbrev keyNotFound : Nat := 0x0301
/-- KEY_USAGE. -/
abbrev keyUsage : Nat := 0x0302
/-- KEY_REVOKED. -/
abbrev keyRevoked : Nat := 0x0303
/-- KEY_USE_LIMIT. -/
abbrev keyUseLimit : Nat := 0x0304
/-- KEY_BLOCK_INVALID. -/
abbrev keyBlockInvalid : Nat := 0x0305
/-- ACCESSION_REJECTED. -/
abbrev accessionRejected : Nat := 0x0306
/-- VERIFY_FAILED. -/
abbrev verifyFailed : Nat := 0x0401
/-- TAG_MISMATCH. -/
abbrev tagMismatch : Nat := 0x0402
/-- PARAM_REJECTED. -/
abbrev paramRejected : Nat := 0x0403
/-- ENTROPY_UNAVAILABLE. -/
abbrev entropyUnavailable : Nat := 0x0501
/-- ENTROPY_FAILED. -/
abbrev entropyFailed : Nat := 0x0502
/-- MIRROR_LOST. -/
abbrev mirrorLost : Nat := 0x0601
/-- SUPERSEDED. -/
abbrev superseded : Nat := 0x0602
/-- MIGRATED. -/
abbrev migrated : Nat := 0x0603
/-- OUT_OF_REACH. -/
abbrev outOfReach : Nat := 0x0604
/-- ENGINE_FAULT. -/
abbrev engineFault : Nat := 0x0701
/-- TIMEOUT. -/
abbrev timeout : Nat := 0x0702
/-- ABORTED. -/
abbrev aborted : Nat := 0x0703
/-- TAMPERED. -/
abbrev tampered : Nat := 0x0801
/-- NOT_READY. -/
abbrev notReady : Nat := 0x0802
/-- HALTED. -/
abbrev halted : Nat := 0x0803

/-- Every status code (Table 4-7). -/
def codes : List Nat :=
  [ok, malformed, unknownFunction, badLength, sequenceGap, sealFailed, accessDenied, quotaExceeded, streamFenced, keyNotFound, keyUsage, keyRevoked, keyUseLimit,
   keyBlockInvalid, accessionRejected, verifyFailed, tagMismatch, paramRejected, entropyUnavailable, entropyFailed, mirrorLost, superseded, migrated, outOfReach,
   engineFault, timeout, aborted, tampered, notReady, halted]

end Status

/-- A response without payload. -/
def statusOnly (st : Nat) : Resp := { status := st, fnFlags := 0, payload := [] }

/-- An OK response with a payload. -/
def okResp (p : Bytes) : Resp := { status := Status.ok, fnFlags := 0, payload := p }

/-- An OK response with function flags and a payload. -/
def okFlags (f : Nat) (p : Bytes) : Resp := { status := Status.ok, fnFlags := f, payload := p }

/-- Whether a response with this status is billed (R52, the Billed column of Table 4-7). -/
def isBilled (st : Nat) : Bool := st == 0 || st / 256 == 3 || st / 256 == 4

/-- Whether the publication of this status latches STREAM_ERR (R74, Table 3-12). -/
def isStreamError (st : Nat) : Bool := st / 256 == 1

/-- Bits 6:0 of the response FLAGS (Table 4-5) of a command; a window refusal has FLAGS 0, except OUT_OF_POSITION where R90 and R92 set it. -/
def respFlags (d : Desc) : Nat :=
  let oop := if d.behind.isSome then 2 else 0
  if d.windowRefusal then oop else
  b2n d.journaled + oop + 4 * b2n d.crossFed + 8 * b2n d.forwarded + 16 * b2n d.loan +
  32 * b2n (d.assured || (d.dual && d.copies.length == 2)) + 64 * b2n d.unmirrored

/-- The mode code of Table 15-2: CEREMONY and ISOLATED are reported over the service mode, CEREMONY first (R367). -/
def modeCode (p : Power) : Nat :=
  match p.mode with
  | .vault => 0
  | .start => 1
  | .service => if p.ceremony then 8 else if p.isolated then 5 else p.service
  | .quiesce => 6
  | .update => 7
  | .diagnostic => 9
  | .tampered => 10
  | .halt => 11

/-- Codes of PAI_STATE.ROLE (Table 12-7). -/
def roleCode : Role → Nat
  | .unpaired => 0
  | .originator => 1
  | .standby => 2
  | .sole => 3
  | .refusing => 4
  | .resync => 5
  | .withdrawn => 6

end Sys2Proof.Machine
end

