-- ==== Sys2Proof/Machine/Rights.lean ====
section
/-!
DEFINITION. Rights bytes, and the rows that the image fixes (R20, R41 to R44, R388).
-/

namespace Sys2Proof.Machine

/-- RD, WR, USE, APP, ADM as bits of a rights byte (Table 2-4). -/
abbrev rightRD : Nat := 0
/-- WR. -/
abbrev rightWR : Nat := 1
/-- USE. -/
abbrev rightUSE : Nat := 2
/-- APP. -/
abbrev rightAPP : Nat := 3
/-- ADM. -/
abbrev rightADM : Nat := 4

/-- The rights that apply at each target (Table 2-3), as a mask. -/
def rightsAt (target : Nat) : Nat :=
  match target with
  | 0 | 1 => 7
  | 2 | 3 | 4 => 4
  | 5 => 3
  | 6 | 7 => 9
  | 8 => 3
  | 9 => 4
  | 10 => 0x15
  | _ => 0

/-- A right of a row: one that does not apply at the target reads 0 (R41). -/
def hasRight (row : List Nat) (target right : Nat) : Bool := bit ((row.getD target 0) &&& rightsAt target) right

/-- The row of a master that the image fixes, in the order of FIXED_ROWS: 0 PF, 1 Curator, 2 Registrar, 3 Conservator, 4 + p span port p (R43, R388). -/
def fixedRow (s : State) (m : Nat) : List Nat := (s.img.set.fixedRows.drop (11 * m)).take 11

/-- The Curator's row among the fixed rows. -/
abbrev curatorRow : Nat := 1

/-- The row of span port `p` among the fixed rows. -/
abbrev portRow (p : Nat) : Nat := 4 + p

end Sys2Proof.Machine
end

