-- ==== Sys2Proof/Machine/Ops.lean ====
section
/-!
DEFINITION. The operations that the commands share: the state's tables, time, free values, MSI-X and event causes, the event log, window states and modes.
-/

namespace Sys2Proof.Machine

/-! Time. -/

/-- The step on an empty queue: the block idles for a nanosecond and nothing else happens (log 1). -/
def idleStep (s : State) : State := { s with now := s.now + 1 }

/-- Moves the model's time forward to `t`, if it has not yet been reached. -/
def advanceTo (t : Nat) (s : State) : State := { s with now := max s.now t }

/-- Counts of the 32.768 kHz clock in a span of nanoseconds. -/
def countsOf (ns : Nat) : Nat := ns * 64 / 1953125

/-- The length of `n` counts in nanoseconds, rounded up. -/
def countsNs (n : Nat) : Nat := ceilDiv (n * 1953125) 64

/-- Module time, in 32.768 kHz counts (R28, WIN_TIME). -/
def moduleTime (s : State) : Nat := countsOf (s.now - s.ao.since) % 2 ^ 64

/-- Drops the times of a newest-first list that lie `span` or more before now. -/
def recent (span now : Nat) (l : List Nat) : List Nat := l.takeWhile (fun t => now < t + span)

/-- Free bytes: a value that the spec leaves open (log 13). -/
def freeBytes (n : Nat) (s : State) : Bytes × State :=
  ((List.range n).map (Config.freeByte s.freeCount), { s with freeCount := s.freeCount + 1 })

/-- A free number. -/
def freeNumber (s : State) : Nat × State := (Config.freeNat s.freeCount, { s with freeCount := s.freeCount + 1 })

/-! Tables. -/

/-- The window of a function. -/
def win (s : State) (fn : Nat) : Window := mgetD s.fab.windows fn {}

/-- Changes a window. -/
def updWin (fn : Nat) (f : Window → Window) (s : State) : State :=
  { s with fab := { s.fab with windows := mset s.fab.windows fn (f (win s fn)) } }

/-- A stream of a window. -/
def strm (s : State) (fn i : Nat) : Stream := mgetD (win s fn).streams i {}

/-- Changes a stream. -/
def updStrm (fn i : Nat) (f : Stream → Stream) (s : State) : State :=
  updWin fn (fun w => { w with streams := mset w.streams i (f (mgetD w.streams i {})) }) s

/-- A gallery held here. -/
def gal (s : State) (g : Nat) : Option Gallery := mget s.vit.galleries g

/-- Changes a gallery held here. -/
def updGal (g : Nat) (f : Gallery → Gallery) (s : State) : State :=
  { s with vit := { s.vit with galleries := malter s.vit.galleries g f } }

/-- A descriptor. -/
def desc (s : State) (t : Nat) : Option Desc := mget s.doc.descs t

/-- Changes a descriptor. -/
def updDesc (t : Nat) (f : Desc → Desc) (s : State) : State :=
  { s with doc := { s.doc with descs := malter s.doc.descs t f } }

/-- Changes a flow. -/
def updFlow (i : Nat) (f : Flow → Flow) (s : State) : State :=
  { s with doc := { s.doc with flows := malter s.doc.flows i f } }

/-- The cell-side registers of a cell. -/
def cellRegs (s : State) (c : Nat) : CellRegs := mgetD s.doc.cells c {}

/-- Changes a cell's registers. -/
def updCell (c : Nat) (f : CellRegs → CellRegs) (s : State) : State :=
  { s with doc := { s.doc with cells := mupd s.doc.cells c {} f } }

/-- A wing. -/
def wing (s : State) (w : Nat) : Wing := mgetD s.pow.wings w {}

/-- Changes a wing. -/
def updWing (w : Nat) (f : Wing → Wing) (s : State) : State :=
  { s with pow := { s.pow with wings := mupd s.pow.wings w {} f } }

/-- A span port. -/
def spanPort (s : State) (p : Nat) : SpanPort := mgetD s.pair.ports p {}

/-- Changes a span port. -/
def updPort (p : Nat) (f : SpanPort → SpanPort) (s : State) : State :=
  { s with pair := { s.pair with ports := mupd s.pair.ports p {} f } }

/-- The least number from `k` on that a table with rising keys does not list. -/
def lowestGap {α : Type} : Map α → Nat → Nat
  | [], k => k
  | (a, _) :: t, k => if a < k then lowestGap t k else if a = k then lowestGap t (k + 1) else k

/-- The least number below `n` that the table does not list. -/
def lowestFree {α : Type} (m : Map α) (n : Nat) : Option Nat := if lowestGap m 0 < n then some (lowestGap m 0) else none

/-- The galleries homed here, that is, held and not loan copies (R32); a loan copy counts too (R314). -/
def homedCount (s : State) : Nat := s.vit.galleries.length

/-! Who this member is. -/

/-- The module is a pair member (R284). -/
def paired (s : State) : Bool := s.pair.member != 0

/-- MEMBER of a response: 0 unpaired, 1 A, 2 B (R87). -/
def memberCode (s : State) : Nat := s.pair.member

/-- TERM of a response: the pair term, 0 when unpaired (R87); a new one only once the anchor record holds it (R286). -/
def termNow (s : State) : Nat := if !paired s then 0 else if s.vit.anchorOwed then s.vit.anchorTerm else s.pair.term

/-- The heartbeat is live: a qualified edge within the last 12 counts (R296). -/
def heartbeatLive (s : State) : Bool :=
  match s.pair.hbEdge with
  | some t => s.now < t + countsNs 12
  | none => false

/-- The partner serves, as far as this member can tell: its link is up or its heartbeat live (log 15). -/
def partnerServing (s : State) : Bool := paired s && (s.pair.linkUp || heartbeatLive s)

/-- The placement's module ID: the unpaired module, or member A of the pair (R89, Table 2-2). -/
def placement (s : State) : Nat := if s.pair.member = 2 then s.pair.partner else s.img.set.moduleId

/-- The member takes quota, gap and deadline verdicts itself: any but a STANDBY whose link stands (R47, R298). -/
def ownVerdicts (s : State) : Bool :=
  match s.pair.role with
  | .standby => s.pair.declaredLost
  | _ => true

/-- The member originates: it executes originating commands (R285, R299). -/
def originates (s : State) : Bool :=
  match s.pair.role with
  | .unpaired | .originator | .sole => true
  | .refusing => s.pair.dualAct
  | _ => false

/-! MSI-X (R57, R75, R76). -/

/-- A function's PCIe registers. -/
def pcie (s : State) (fn : Nat) : PcieFn := mgetD s.fab.fns fn {}

/-- Changes a function's PCIe registers. -/
def updPcie (fn : Nat) (f : PcieFn → PcieFn) (s : State) : State :=
  { s with fab := { s.fab with fns := mupd s.fab.fns fn {} f } }

/-- Both enables set, both masks clear (R57). -/
def vectorFree (p : PcieFn) (v : Nat) : Bool :=
  p.busMaster && p.msixEnable && !p.fnMask && !(mgetD p.vectors v {}).masked

/-- Sends a vector, or sets its pending bit when the enables or masks forbid the message (R57). -/
def sendVector (fn v : Nat) (s : State) : State :=
  let p := pcie s fn
  let e := mgetD p.vectors v {}
  if vectorFree p v then
    let s := updPcie fn (fun p => { p with vectors := mset p.vectors v { e with pending := false } }) s
    { s with fab := { s.fab with sent := s.fab.sent ++ [{ fn := fn, vector := v, addr := e.addr, data := e.data }] } }
  else updPcie fn (fun p => { p with vectors := mset p.vectors v { e with pending := true } }) s

/-- Sends every pending vector that the four conditions of R57 now free, lowest first. -/
def flushVectors (fn : Nat) (s : State) : State :=
  (pcie s fn).vectors.foldl (fun s ve => if ve.2.pending && vectorFree (pcie s fn) ve.1 then sendVector fn ve.1 s else s) s

/-- The vector of a cause bit outside RESP_READY (Table 3-12). -/
def causeVector (b : Nat) : Nat := if b < 24 then 1 else if b < 32 then 2 else 3

/-- Latches a cause bit of the groups of vectors 1 to 3; a change from 0 to 1 while enabled sends the vector (R74, R75). -/
def latchCause (fn b : Nat) (s : State) : State :=
  let w := win s fn
  if flag w.cause b then s
  else
    let s := updWin fn (fun w => { w with cause := w.cause ||| BitVec.ofNat 64 (2 ^ b) }) s
    if flag w.mask b then sendVector fn (causeVector b) s else s

/-- One publication, or what counts as one, on a stream whose RESP_READY mask bit is 1: vector 0 is sent at once, or the moderation counts it; a COUNT lowered below what has accumulated shows at the next publication (R75, log 176). -/
def countPublication (fn : Nat) (s : State) : State :=
  let w := win s fn
  if w.unsignalled + 1 ≥ w.count then
    sendVector fn 0 (updWin fn (fun w => { w with unsignalled := 0, firstUnsignalled := none }) s)
  else updWin fn (fun w => { w with
    unsignalled := w.unsignalled + 1, firstUnsignalled := some (w.firstUnsignalled.getD s.now) }) s

/-- A publication on stream `i`: RESP_READY latches, and a masked-in stream counts toward vector 0 (R74, R75). -/
def latchReady (fn i : Nat) (s : State) : State :=
  let s := updWin fn (fun w => { w with cause := w.cause ||| BitVec.ofNat 64 (2 ^ i) }) s
  if flag (win s fn).mask i then countPublication fn s else s

/-- Latches STREAM_ERR of stream `i` (Table 3-12). -/
def latchStreamErr (fn i : Nat) (s : State) : State := latchCause fn (32 + i) s

/-- Latches module event source `n` (R76, Table 3-14). -/
def latchEvent (n : Nat) (s : State) : State :=
  if bit s.fab.mevCause n then s
  else
    let s := { s with fab := { s.fab with mevCause := setBit s.fab.mevCause n true } }
    if bit s.fab.mevMask n then sendVector 0 n s else s

/-! The event log (R404). -/

/-- The newest record held: in SRAM, else in the mirror. -/
def lastRecord (c : Curator) : Bytes :=
  match c.logSram, c.logMirror with
  | r :: _, _ => r.2
  | [], r :: _ => r.2
  | [], [] => []

/-- PREV of the next record: 16 bytes of the digest of the previous record; zeros for the first record (log 16). -/
def prevOf (c : Curator) : Bytes := if lastRecord c = [] then zeros 16 else (sha256 (lastRecord c)).take 16

/-- The Curator can write the event log: it has VAUX, and its row has APP there (R44, R402, log 16). -/
def logWritable (s : State) : Bool := s.ao.vaux && hasRight (fixedRow s curatorRow) 6 rightAPP

/-- Appends a record to the three places it is kept in, to SRAM and mirror only without main power (R404, R406, R415, R450); without VAUX, or without APP on the event log in its row, the Curator writes none (R44, R402, log 16). -/
def putRecord (type source flags : Nat) (data : Bytes) (s : State) : State :=
  let c := s.cur
  let q := c.logSeq + 1
  let fl := flags + 2 * b2n (!s.pow.main)
  let r := leBytes 8 q ++ leBytes 8 (moduleTime s) ++ leBytes 2 type ++ leBytes 2 source ++ leBytes 2 fl ++ zeros 2 ++
    slice data 0 24 ++ prevOf c
  if !logWritable s then s
  else { s with cur := { c with
      logSeq := q
      logSram := ((q, r) :: c.logSram).take 4096
      logRing := if s.pow.main then ((q, r) :: c.logRing).take 1048576 else c.logRing
      logMirror := ((q, r) :: c.logMirror).take 262144 } }

/-- Logs a record that is not a checkpoint; during a Curator restart its source buffers it (R404, R405, R417). -/
def logRecord (type source flags : Nat) (data : Bytes) (s : State) : State :=
  match s.cur.restarting with
  | some _ => { s with cur := { s.cur with buffered := s.cur.buffered ++ [(type + 65536 * flags, source, data)] } }
  | none =>
    let s := putRecord type source flags data s
    { s with cur := { s.cur with sinceCheckpoint := s.cur.sinceCheckpoint + 1 } }

/-- Logs a record, its data in as many records as it takes, the later ones marked CONT (Table 17-2). -/
def logData (type source : Nat) (data : Bytes) (s : State) : State :=
  (chunks 24 (max 1 (ceilDiv data.length 24)) data).zipIdx.foldl
    (fun s p => logRecord type source (if p.2 = 0 then 0 else 1) p.1 s) s

/-! Window states (R77, Tables 3-7 and 3-13). -/

/-- What a commit meets in the module's condition (R77, Table 3-13). -/
inductive CommitCond where
  | accept
  | answer (status : Nat)
  | silent
  deriving DecidableEq, Repr

/-- The member of a pair serves no window of its galleries: RESYNC or WITHDRAWN (Table 12-1). -/
def suspendedRole (s : State) : Bool := s.pair.role == .resync || s.pair.role == .withdrawn

/-- WIN_STATE.STATE of a window (Table 3-13). -/
def winState (s : State) (fn : Nat) : Nat :=
  let w := win s fn
  match s.pow.mode with
  | .vault | .start => 0
  | .tampered => 5
  | .halt => if suspendedRole s then 4 else 6
  | .quiesce => if partnerServing s then 4 else 3
  | .update | .diagnostic => 4
  | .service =>
    match w.gallery with
    | none => 1
    | some _ => if w.unbind.isSome then 3 else if suspendedRole s then 4 else 2

/-- The function codes of MODE_SET and LCS_TRANSITION, by which the house names the next mode in QUIESCE and UPDATE (R367, R370, log 17). -/
def namesNextMode (function : Nat) : Bool := function == 0x0E10 || function == 0x0E40

/-- The condition that a commit of `function` to a window meets (R77, R38, R328, R350). -/
def commitCond (s : State) (fn function : Nat) : CommitCond :=
  if s.reg.transitioned && s.pow.mode != .vault then .answer Status.notReady
  else match s.pow.mode with
  | .vault => .silent
  | .start => .answer Status.notReady
  | .tampered => .answer Status.tampered
  | .halt => if suspendedRole s then .silent else .answer Status.halted
  | .quiesce =>
    if s.err.halting.isSome then .answer Status.halted
    else if fn == 0 && namesNextMode function && (s.pow.quiesce.map (·.complete)).getD true then .accept
    else if partnerServing s then .silent else .answer Status.notReady
  | .update =>
    if s.err.halting.isSome then .answer Status.halted
    else if fn == 0 && function == 0x0E10 then .accept
    else if partnerServing s then .silent else .answer Status.notReady
  | .diagnostic => if s.err.halting.isSome then .answer Status.halted else if partnerServing s then .silent else .answer Status.notReady
  | .service =>
    if s.err.halting.isSome then .answer Status.halted
    else if suspendedRole s then .silent
    else if (win s fn).unbind.isSome then .answer Status.streamFenced
    else .accept

/-- STATE, MEMBER and TERM as WIN_STATE shows them. -/
def stateTriple (s : State) (fn : Nat) : Nat × Nat × Nat := (winState s fn, memberCode s, termNow s)

/-- Latches WINDOW_STATE on a window whose STATE, MEMBER or TERM has changed (Table 3-12). -/
def refreshWindow (fn : Nat) (s : State) : State :=
  let t := stateTriple s fn
  if t = (win s fn).lastState then s
  else latchCause fn 48 (updWin fn (fun w => { w with lastState := t }) s)

/-- The same over every function. -/
def refreshWindows (s : State) : State := (List.range 1025).foldl (fun s fn => refreshWindow fn s) s

/-! Modes (R364, R367). -/

/-- READY follows the mode: high exactly in a service mode, CEREMONY or ISOLATED (R364); a rise latches event 27. -/
def settleReady (s : State) : State :=
  let up := s.pow.mode == .service
  let rose := up && !s.pow.ready
  let s := { s with pow := { s.pow with ready := up } }
  if rose then latchEvent 27 s else s

/-- Enters a mode: the change is logged with its two codes, READY follows, and every window's state is refreshed (R364, R367, Table 17-3). -/
def withMode (f : Power → Power) (s : State) : State :=
  let old := modeCode s.pow
  let s := { s with pow := f s.pow }
  let new := modeCode s.pow
  let s := if old = new then s else logRecord 0x0011 0 0 [BitVec.ofNat 8 old, BitVec.ofNat 8 new] s
  refreshWindows (settleReady s)

/-- An MCTP message goes out (R408, R409). -/
def emitMctp (m : MctpMsg) (s : State) : State :=
  { s with cur := match m with
    | .reply a => { s.cur with replies := s.cur.replies ++ [a] }
    | .event i v => { s.cur with events := s.cur.events ++ [(i, v)] } }

/-- An MCTP message falls due on a bus: over PCIe VDM it waits while the PF's Bus Master Enable is clear (R57, R409). -/
def sendMctp (bus : Nat) (m : MctpMsg) (s : State) : State :=
  if bus = 1 ∧ (pcie s 0).busMaster = false then { s with cur := { s.cur with mctpWaiting := s.cur.mctpWaiting ++ [m] } } else emitMctp m s

/-- A pair member serves alone: ISOLATED is held with its service mode, and with no other (R28, R29). -/
def isolatedRole (r : Role) : Bool := r == .sole || r == .refusing

/-- Enters a mode of the module. -/
def setMode (m : Mode) (s : State) : State := withMode (fun p => { p with mode := m, isolated := isolatedRole s.pair.role && m == .service }) s

/-- A command entered service before another: the lock that R97 gives each state object is no state of its own, but this order. -/
def enteredBefore (d e : Desc) : Bool :=
  match d.entry, e.entry with
  | some a, some b => decide (a < b)
  | _, _ => false

end Sys2Proof.Machine
end

