-- ==== Sys2Proof/Machine/KeyBlock.lean ====
section
/-!
DEFINITION. ANSI X9.143 key blocks of versions B and D (R136), key check values (Table 5-1) and the strength order of R138. The layout of a block is the standard's (log 14).
-/

namespace Sys2Proof.Machine

/-- Two ASCII characters as a usage or optional-block code. -/
def chars (a b : Char) : Nat := 256 * a.toNat + b.toNat

/-! Key check values. -/

/-- The KCV of Table 5-1 for a key of algorithm 'T' (84) or 'A' (65); that of an HMAC key is open (log 20). -/
def kcvOf (alg : Nat) (key : Bytes) : Bytes :=
  if alg = 84 then ((tdesOf key).enc (zeros 8)).take 3 ++ zeros 5
  else if alg = 65 then (cmac (aesOf key) (zeros 16)).take 5 ++ zeros 3
  else leBytes 8 (Config.hmacKcv key).toNat

/-- The place of a key in the order of R138: TDES 2-key, TDES 3-key, AES-128, AES-192, AES-256. An HMAC key is not in the order (log 20). -/
def strengthOf (alg : Nat) (keyBytes : Nat) : Nat :=
  if alg = 84 then (if keyBytes ≥ 24 then 2 else 1)
  else if alg = 65 then (if keyBytes ≥ 32 then 5 else if keyBytes ≥ 24 then 4 else 3)
  else 0

/-- KEY_BYTES suits an algorithm (Table 6-2). -/
def keyBytesOk (alg n : Nat) : Bool :=
  if alg = 84 then n == 16 || n == 24
  else if alg = 65 then n == 16 || n == 24 || n == 32
  else alg == 72 && decide (16 ≤ n) && decide (n ≤ 64)

/-! Characters. -/

/-- The value of a hexadecimal character (upper case). -/
def hexVal (b : Byte) : Option Nat :=
  let n := b.toNat
  if 48 ≤ n ∧ n ≤ 57 then some (n - 48) else if 65 ≤ n ∧ n ≤ 70 then some (n - 55) else none

/-- The number that characters spell in a base of at most 16. -/
def numOf (base : Nat) (l : Bytes) : Option Nat :=
  l.foldl (fun a b => match a, hexVal b with
    | some x, some v => if v < base then some (base * x + v) else none
    | _, _ => none) (some 0)

/-- The hexadecimal character of a nibble. -/
def hexChar (n : Nat) : Byte := BitVec.ofNat 8 (if n < 10 then 48 + n else 55 + n)

/-- The hexadecimal characters of a byte string. -/
def hexOf (l : Bytes) : Bytes := l.flatMap (fun b => [hexChar (b.toNat / 16), hexChar (b.toNat % 16)])

/-- The bytes that hexadecimal characters spell. -/
def unhex : Bytes → Option Bytes
  | [] => some []
  | [_] => none
  | a :: b :: t =>
    match hexVal a, hexVal b, unhex t with
    | some x, some y, some r => some (BitVec.ofNat 8 (16 * x + y) :: r)
    | _, _, _ => none

/-- `k` decimal characters of a number. -/
def decChars : Nat → Nat → Bytes
  | 0, _ => []
  | k + 1, n => decChars k (n / 10) ++ [BitVec.ofNat 8 (48 + n % 10)]

/-! Blocks. -/

/-- The header of a key block. -/
structure BlockHeader where
  usage : Nat
  alg : Nat
  mode : Nat
  version : Nat
  exportable : Nat
  opts : List OptBlock
  deriving DecidableEq, Repr

/-- The length of a block by its own header (R86). -/
def blockLength (b : Bytes) : Option Nat := if b.length < 16 then none else numOf 10 ((b.drop 1).take 4)

/-- The optional blocks: `n` of them, and the bytes after them. -/
def optBlocks : Nat → Bytes → Option (List OptBlock × Bytes)
  | 0, b => some ([], b)
  | n + 1, b =>
    match numOf 16 (slice b 2 2) with
    | none => none
    | some len =>
      let ext := numOf 16 (slice b 4 2)
      let len? := if len ≠ 0 then some (len, 4) else
        match ext with
        | some l => (numOf 16 (slice b 6 (2 * l))).map (fun v => (v, 6 + 2 * l))
        | none => none
      match len? with
      | none => none
      | some (v, h) =>
        if v < h ∨ v > b.length then none
        else (optBlocks n (b.drop v)).map (fun r => ({ id := ofBE (b.take 2), data := (b.take v).drop h } :: r.1, r.2))

/-- A usage of Table 5-2, or M7 for HMAC keys (R136, R145). -/
def knownUsage (u : Nat) : Bool :=
  [chars 'P' '0', chars 'V' '1', chars 'V' '2', chars 'C' '0', chars 'E' '0', chars 'E' '1', chars 'E' '2', chars 'B' '0', chars 'B' '1',
   chars 'M' '1', chars 'M' '3', chars 'M' '6', chars 'M' '7', chars 'D' '0', chars 'K' '0', chars 'K' '1'].contains u

/-- Block length and MAC length of a version under its protection key: B under TDES, D under AES (R136). -/
def blockSizes (version : Nat) : Option (Nat × Nat) :=
  if version = 66 then some (8, 84) else if version = 68 then some (16, 65) else none

/-- The header of a whole block: the header, its length in characters and the block size; `none` where a limit or the format of R136 is broken. -/
def blockHeader (b : Bytes) : Option (BlockHeader × Nat × Nat) :=
  match blockSizes (byteAt b 0), blockLength b, numOf 10 (slice b 12 2) with
  | some (bs, _), some n, some k =>
    if n > 4096 ∨ n ≠ b.length ∨ n % bs ≠ 0 ∨ k > 16 ∨ slice b 14 2 ≠ ascii "00" then none
    else
      match optBlocks k (b.drop 16) with
      | none => none
      | some (os, rest) =>
        let h : BlockHeader := {
          usage := ofBE (slice b 5 2), alg := byteAt b 7, mode := byteAt b 8, version := ofBE (slice b 9 2)
          exportable := byteAt b 11, opts := os }
        let hl := n - rest.length
        if hl % bs = 0 ∧ (h.alg = 84 ∨ h.alg = 65 ∨ h.alg = 72) ∧ knownUsage h.usage = true ∧
          (h.exportable = 69 ∨ h.exportable = 78 ∨ h.exportable = 83) ∧ rest.length ≥ 4 * bs then some (h, hl, bs) else none
  | _, _, _ => none

/-- The encryption and MAC keys of a block from its protection key: SP 800-108 counter mode with CMAC. -/
def blockKeys (bs : Nat) (key : Bytes) : Bytes × Bytes :=
  let c := if bs = 8 then tdesOf key else aesOf key
  let algCode := if bs = 8 then (if key.length ≥ 24 then 1 else 0) else (if key.length ≥ 32 then 4 else if key.length ≥ 24 then 3 else 2)
  let one := fun (use i : Nat) => cmac c (beBytes 1 i ++ beBytes 2 use ++ [0#8] ++ beBytes 2 algCode ++ beBytes 2 (8 * key.length))
  let make := fun (use : Nat) => ((List.range (ceilDiv key.length bs)).flatMap (fun i => one use (i + 1))).take key.length
  (make 0, make 1)

/-- A KP block agrees with the key that its block carries, and not with the key that unwraps it (R136, log 21): a method, 00 or 01, and as many digits of the check value as it holds. -/
def kpOk (alg : Nat) (key : Bytes) (o : OptBlock) : Bool :=
  match numOf 16 (o.data.take 2), unhex (o.data.drop 2) with
  | some m, some v =>
    let full := if m = 0 ∧ alg = 84 then (tdesOf key).enc (zeros 8)
      else if m = 1 ∧ alg = 65 then cmac (aesOf key) (zeros 16) else []
    v != [] && full.take v.length == v
  | _, _ => false

/-- Opens a block under a protection key of algorithm `kalg`: header and key bytes, or `none` for KEY_BLOCK_INVALID (R136). -/
def openBlock (kalg : Nat) (key b : Bytes) : Option (BlockHeader × Bytes) :=
  match blockHeader b, blockSizes (byteAt b 0) with
  | some (h, hl, bs), some (_, need) =>
    if need ≠ kalg then none
    else
      let body := b.drop hl
      match unhex body with
      | none => none
      | some x =>
        let macLen := bs
        let ct := x.take (x.length - macLen)
        let mac := x.drop (x.length - macLen)
        let ks := blockKeys bs key
        let c := if bs = 8 then tdesOf ks.1 else aesOf ks.1
        let m := if bs = 8 then tdesOf ks.2 else aesOf ks.2
        let pt := cbcDec c mac ct
        let bitsLen := ofBE (pt.take 2)
        let kb := (pt.drop 2).take (bitsLen / 8)
        if ct.length % bs = 0 ∧ cmac m (b.take hl ++ pt) = mac ∧ bitsLen % 8 = 0 ∧ kb.length = bitsLen / 8 ∧
          (keyBytesOk h.alg kb.length = true ∨ (h.alg = 72 ∧ 16 ≤ kb.length ∧ kb.length ≤ 128)) ∧
          (h.opts.all (fun o => o.id != chars 'K' 'P' || kpOk h.alg kb o)) = true then some (h, kb)
        else none
  | _, _ => none

/-- The characters of an optional block. -/
def optChars (o : OptBlock) : Bytes :=
  let n := o.data.length + 4
  beBytes 2 o.id ++ (if n ≤ 255 then hexOf (beBytes 1 n) else ascii "0002" ++ hexOf (beBytes 2 (n + 6))) ++ o.data

/-- The optional blocks of a block as it is written: PB regenerated so that the header fills whole blocks (R136). Its characters are zeros, which the rules leave open (log 20). -/
def withPb (bs : Nat) (opts : List OptBlock) : List OptBlock :=
  let os := opts.filter (fun o => o.id != chars 'P' 'B')
  let hl := 16 + (os.flatMap optChars).length
  if hl % bs = 0 then os
  else
    let gap := bs - hl % bs
    let gap := if gap < 4 then gap + bs else gap
    os ++ [{ id := chars 'P' 'B', data := List.replicate (gap - 4) 48#8 }]

/-- The characters of a header for a block whose body takes `bodyLen` characters. -/
def headerChars (version bs : Nat) (h : BlockHeader) (bodyLen : Nat) : Bytes :=
  let os := withPb bs h.opts
  let o := os.flatMap optChars
  beBytes 1 version ++ decChars 4 (16 + o.length + bodyLen) ++ beBytes 2 h.usage ++ beBytes 1 h.alg ++ beBytes 1 h.mode ++
    beBytes 2 h.version ++ beBytes 1 h.exportable ++ decChars 2 os.length ++ ascii "00" ++ o

/-- Padding bytes that a key of `n` bytes needs. -/
def padNeeded (kalg n : Nat) : Nat :=
  let bs := if kalg = 84 then 8 else 16
  roundUp bs (n + 2) - (n + 2)

/-- A block that would be written keeps within the limits of R136: 4,096 characters and 16 optional blocks. -/
def writable (kalg : Nat) (h : BlockHeader) (n : Nat) : Bool :=
  let bs := if kalg = 84 then 8 else 16
  decide ((withPb bs h.opts).length ≤ 16) && decide ((headerChars 66 bs h 0).length + 2 * (2 + n + padNeeded kalg n) + 2 * bs ≤ 4096)

/-- Writes a block under a protection key with the padding given; its version follows the key's algorithm (R136). -/
def wrapBlock (kalg : Nat) (key : Bytes) (h : BlockHeader) (kb pad : Bytes) : Bytes :=
  let bs := if kalg = 84 then 8 else 16
  let version := if kalg = 84 then 66 else 68
  let pt := beBytes 2 (8 * kb.length) ++ kb ++ slice pad 0 (padNeeded kalg kb.length)
  let hd := headerChars version bs h (2 * pt.length + 2 * bs)
  let ks := blockKeys bs key
  let c := if bs = 8 then tdesOf ks.1 else aesOf ks.1
  let m := if bs = 8 then tdesOf ks.2 else aesOf ks.2
  let mac := cmac m (hd ++ pt)
  hd ++ hexOf (cbcEnc c mac pt) ++ hexOf mac

/-- The padding of a replayable function's block: HMAC-SHA-256 under a key derived from the wrapping key, over the clear key and the header (R137). The derivation of that key is open (log 20). -/
def replayPad (kalg : Nat) (key : Bytes) (h : BlockHeader) (kb : Bytes) : Bytes :=
  let bs := if kalg = 84 then 8 else 16
  let n := padNeeded kalg kb.length
  let body := 2 * (2 + kb.length + n) + 2 * bs
  (hmacSha256 (beBytes 32 (Config.paddingKey key).toNat) (kb ++ headerChars (if kalg = 84 then 66 else 68) bs h body)).take n

/-- A key block in the response layout of R137: BLOCK_LEN, 2 bytes of EXTRA_LEN and 2 zeros, KCV, block. -/
def blockResponse (extra : Bytes) (alg : Nat) (kb block : Bytes) : Bytes :=
  leBytes 4 block.length ++ leBytes 2 extra.length ++ zeros 2 ++ kcvOf alg kb ++ (if extra = [] then block else padTo 8 block ++ extra)

end Sys2Proof.Machine
end

