-- ==== Sys2Proof/Machine/CryptoNum.lean ====
section
/-!
DEFINITION. Modular arithmetic, CTR_DRBG, SP 800-108 and SP 800-56C derivations, and RSA (SP 800-90A, SP 800-108, SP 800-56C, PKCS #1), which the spec names and does not restate (log 14).
-/

namespace Sys2Proof.Machine

/-- Length of a number in bits. -/
def bitLen (n : Nat) : Nat := if n = 0 then 0 else Nat.log2 n + 1

/-- Square and multiply; the fuel is the number of exponent bits still to read, least significant first. -/
def powModAux (m : Nat) : Nat → Nat → Nat → Nat → Nat
  | 0, _, _, acc => acc
  | f + 1, b, e, acc => powModAux m f (b * b % m) (e / 2) (if e % 2 = 1 then acc * b % m else acc)

/-- b^e mod m. -/
def powMod (b e m : Nat) : Nat := powModAux m (bitLen e) (b % m) e (1 % m)

/-- The extended Euclidean algorithm on fuel: the coefficient of the first argument. -/
def egcdAux : Nat → Int → Int → Int → Int → Int
  | 0, _, _, x, _ => x
  | f + 1, r0, r1, x0, x1 => if r1 = 0 then x0 else egcdAux f r1 (r0 % r1) x1 (x0 - r0 / r1 * x1)

/-- The inverse of a modulo m, when they are coprime. -/
def invMod (a m : Nat) : Nat := ((egcdAux (2 * bitLen m + 2) (a % m : Nat) m 1 0) % (m : Int)).toNat

/-- a - b modulo m, for residues. -/
def subMod (a b m : Nat) : Nat := (a + (m - b % m)) % m

/-! CTR_DRBG with AES-256 and the derivation function (SP 800-90A, 10.2.1). -/

/-- The derivation function's block chain under a key. -/
def drbgBcc (c : BlockCipher) (d : Bytes) : Bytes := (blocksOf c d).foldl (fun s b => c.enc (xorBytes s b)) (zeros 16)

/-- Block_Cipher_df: 48 bytes. -/
def drbgDf (input : Bytes) : Bytes :=
  let s := padTo 16 (beBytes 4 input.length ++ beBytes 4 48 ++ input ++ [0x80#8])
  let k0 := aesOf ((List.range 32).map (fun i => BitVec.ofNat 8 i))
  let t := (List.range 3).flatMap (fun i => drbgBcc k0 (beBytes 4 i ++ zeros 12 ++ s))
  let c := aesOf (t.take 32)
  let x := (t.drop 32).take 16
  let x1 := c.enc x; let x2 := c.enc x1; let x3 := c.enc x2
  x1 ++ x2 ++ x3

/-- Output blocks: V advanced before each block. -/
def drbgBlocks (c : BlockCipher) (v : Nat) (n : Nat) : Bytes :=
  (List.range n).flatMap (fun i => c.enc (beBytes 16 ((v + 1 + i) % 2 ^ 128)))

/-- CTR_DRBG_Update: the new key and V. -/
def drbgUpdate (key v provided : Bytes) : Bytes × Bytes :=
  let t := xorBytes (drbgBlocks (aesOf key) (ofBE v) 3) provided
  (t.take 32, t.drop 32)

/-- Instantiate from entropy input and personalisation string. -/
def drbgInstantiate (entropy personal : Bytes) : Bytes × Bytes :=
  drbgUpdate (zeros 32) (zeros 16) (drbgDf (entropy ++ personal))

/-- Reseed from entropy input. -/
def drbgReseed (key v entropy : Bytes) : Bytes × Bytes := drbgUpdate key v (drbgDf entropy)

/-- Generate `n` bytes with additional input: the bytes, the new key and V. -/
def drbgGenerate (key v additional : Bytes) (n : Nat) : Bytes × Bytes × Bytes :=
  let add := if additional = [] then zeros 48 else drbgDf additional
  let kv := if additional = [] then (key, v) else drbgUpdate key v add
  let blocks := ceilDiv n 16
  let out := (drbgBlocks (aesOf kv.1) (ofBE kv.2) blocks).take n
  let v2 := beBytes 16 ((ofBE kv.2 + blocks) % 2 ^ 128)
  let kv2 := drbgUpdate kv.1 v2 add
  (out, kv2.1, kv2.2)

/-! Key derivation. -/

/-- SP 800-108 counter mode with PRF `f` of output length `h`: counter, label, zero byte, context and output length in bits, the counter and length 4 bytes big-endian (R157). -/
def kdfCounter (f : Bytes → Bytes) (h : Nat) (label context : Bytes) (n : Nat) : Bytes :=
  ((List.range (ceilDiv n h)).flatMap (fun i =>
    f (beBytes 4 (i + 1) ++ label ++ [0#8] ++ context ++ beBytes 4 (8 * n)))).take n

/-- SP 800-56C one-step KDF with a hash of output length `h`. -/
def kdfOneStep (f : Bytes → Bytes) (h : Nat) (z info : Bytes) (n : Nat) : Bytes :=
  ((List.range (ceilDiv n h)).flatMap (fun i => f (beBytes 4 (i + 1) ++ z ++ info))).take n

/-- Extract of Table 7-4: HMAC-SHA-384 under the salt. -/
def extract384 (salt input : Bytes) : Bytes := hmacSha384 salt input

/-- Expand of Table 7-4. -/
def expand384 (key label context : Bytes) (n : Nat) : Bytes := kdfCounter (hmacSha384 key) 48 label context n

/-! RSA (PKCS #1 v2.2). -/

/-- MGF1. -/
def mgf1 (h : Bytes → Bytes) (hl : Nat) (seed : Bytes) (n : Nat) : Bytes :=
  ((List.range (ceilDiv n hl)).flatMap (fun i => h (seed ++ beBytes 4 i))).take n

/-- The private operation by CRT. -/
def rsaCrt (p q dp dq qinv c : Nat) : Nat :=
  let m1 := powMod (c % p) dp p
  let m2 := powMod (c % q) dq q
  let h := qinv * subMod m1 m2 p % p
  m2 + q * h

/-- The DER prefix of DigestInfo: SHA-256, SHA-384, SHA-512, SHA3-256, SHA3-512 by digest length and family. -/
def digestInfo (oidLast : Nat) (len : Nat) : Bytes :=
  [0x30#8, BitVec.ofNat 8 (17 + len), 0x30#8, 0x0D#8, 0x06#8, 0x09#8, 0x60#8, 0x86#8, 0x48#8, 0x01#8, 0x65#8, 0x03#8, 0x04#8, 0x02#8,
   BitVec.ofNat 8 oidLast, 0x05#8, 0x00#8, 0x04#8, BitVec.ofNat 8 len]

/-- EMSA-PKCS1-v1_5 encoding to `k` bytes. -/
def pkcs1Encode (oidLast : Nat) (digest : Bytes) (k : Nat) : Bytes :=
  let t := digestInfo oidLast digest.length ++ digest
  [0#8, 1#8] ++ List.replicate (k - t.length - 3) 0xFF#8 ++ [0#8] ++ t

/-- EMSA-PSS encoding of a digest with a salt, to `emBits` bits. -/
def pssEncode (h : Bytes → Bytes) (digest salt : Bytes) (emBits : Nat) : Bytes :=
  let hl := digest.length
  let emLen := ceilDiv emBits 8
  let hh := h (zeros 8 ++ digest ++ salt)
  let db := zeros (emLen - salt.length - hl - 2) ++ [1#8] ++ salt
  let masked := xorBytes db (mgf1 h hl hh (emLen - hl - 1))
  let top := 8 * emLen - emBits
  let masked := match masked with
    | b :: t => BitVec.ofNat 8 (b.toNat % 2 ^ (8 - top)) :: t
    | [] => []
  masked ++ hh ++ [0xBC#8]

/-- EMSA-PSS verification with a salt of `sl` bytes. -/
def pssVerify (h : Bytes → Bytes) (digest em : Bytes) (emBits sl : Nat) : Bool :=
  let hl := digest.length
  let emLen := ceilDiv emBits 8
  let masked := em.take (emLen - hl - 1)
  let hh := (em.drop (emLen - hl - 1)).take hl
  let top := 8 * emLen - emBits
  let db0 := xorBytes masked (mgf1 h hl hh (emLen - hl - 1))
  let db := match db0 with
    | b :: t => BitVec.ofNat 8 (b.toNat % 2 ^ (8 - top)) :: t
    | [] => []
  let salt := db.drop (db.length - sl)
  decide (em.length = emLen) && decide (byteAt em (emLen - 1) = 0xBC) && decide (byteAt em 0 < 2 ^ (8 - top)) &&
  decide (pssEncode h digest salt emBits = em)

/-- EME-OAEP decoding: the message, or `none`. -/
def oaepDecode (h : Bytes → Bytes) (hl : Nat) (label em : Bytes) : Option Bytes :=
  let k := em.length
  let seedM := (em.drop 1).take hl
  let dbM := em.drop (1 + hl)
  let seed := xorBytes seedM (mgf1 h hl dbM hl)
  let db := xorBytes dbM (mgf1 h hl seed (k - hl - 1))
  let rest := (db.drop hl).dropWhile (· == 0)
  match rest with
  | b :: m => if byteAt em 0 = 0 ∧ db.take hl = h label ∧ b = 1#8 then some m else none
  | [] => none

/-- Miller-Rabin to one base. -/
def millerRabin (n base : Nat) : Bool :=
  let s := (List.range (bitLen n)).foldl (fun (st : Nat × Nat) _ => if st.2 % 2 = 0 then (st.1 + 1, st.2 / 2) else st) (0, n - 1)
  let x := powMod base s.2 n
  x == 1 || ((List.range s.1).foldl (fun (st : Nat × Bool) _ => (st.1 * st.1 % n, st.2 || st.1 == n - 1)) (x, false)).2

/-- Trial division by the numbers from 2 below `b`. -/
def trialDivision (n b : Nat) : Bool := ((List.range b).drop 2).all (fun q => q ≥ n || n % q != 0)

/-- The Jacobi symbol (a / n) for odd n, on fuel. -/
def jacobiAux : Nat → Nat → Nat → Int → Int
  | 0, _, _, r => r
  | f + 1, a, n, r =>
    let a := a % n
    if a = 0 then (if n = 1 then r else 0)
    else if a % 2 = 0 then jacobiAux f (a / 2) n (if n % 8 = 3 ∨ n % 8 = 5 then -r else r)
    else jacobiAux f n a (if a % 4 = 3 ∧ n % 4 = 3 then -r else r)

/-- The Jacobi symbol. -/
def jacobi (a : Int) (n : Nat) : Int := jacobiAux (4 * bitLen n + 4) (a % n).toNat n 1

/-- Selfridge's parameter D for the strong Lucas test: the first of 5, -7, 9, ... with (D / n) = -1. -/
def lucasD (n : Nat) : Int :=
  ((List.range 200).map (fun (i : Nat) => if i % 2 = 0 then (5 + 2 * i : Int) else -(5 + 2 * i : Int))).find? (fun d => jacobi d n == -1) |>.getD 5

/-- One doubling step of the Lucas sequences, with a conditional increment. -/
def lucasStep (n : Nat) (d q : Int) (b : Bool) (st : Int × Int × Int) : Int × Int × Int :=
  let (u, v, qk) := st
  let half := fun (x : Int) => let x := x % n; (if x % 2 = 0 then x / 2 else (x + n) / 2) % n
  let u2 := u * v % n
  let v2 := (v * v - 2 * qk) % n
  let q2 := qk * qk % n
  if b then (half (u2 + v2), half (d * u2 + v2), q2 * q % n) else (u2, v2, q2)

/-- The strong Lucas probable-prime test. -/
def strongLucas (n : Nat) : Bool :=
  if n.sqrt * n.sqrt = n then false else
  let d := lucasD n
  let q := (1 - d) / 4
  let s := (List.range (bitLen n + 1)).foldl (fun (st : Nat × Nat) _ => if st.2 % 2 = 0 then (st.1 + 1, st.2 / 2) else st) (0, n + 1)
  let k := s.2
  let bitsK := (List.range (bitLen k - 1)).map (fun i => bit k (bitLen k - 2 - i))
  let st := bitsK.foldl (fun st b => lucasStep n d q b st) ((1 : Int), (1 : Int), q % n)
  st.1 % n == 0 ||
  ((List.range s.1).foldl (fun (p : (Int × Int × Int) × Bool) _ => (lucasStep n d q false p.1, p.2 || p.1.2.1 % n == 0)) (st, false)).2

end Sys2Proof.Machine
end

