-- ==== Sys2Proof/Machine/CryptoEc.lean ====
section
/-!
DEFINITION. Short-Weierstrass curves, ECDSA, ECDH, EdDSA (FIPS 186-5, SP 800-56A, RFC 6979, RFC 8032), which the spec names and does not restate (log 14).
-/

namespace Sys2Proof.Machine

/-- A short-Weierstrass domain. -/
structure Curve where
  p : Nat
  a : Nat
  b : Nat
  gx : Nat
  gy : Nat
  n : Nat
  deriving DecidableEq, Repr

/-- P-256. -/
def p256 : Curve :=
  { p := 2 ^ 256 - 2 ^ 224 + 2 ^ 192 + 2 ^ 96 - 1, a := 2 ^ 256 - 2 ^ 224 + 2 ^ 192 + 2 ^ 96 - 4,
    b := 0x5ac635d8aa3a93e7b3ebbd55769886bc651d06b0cc53b0f63bce3c3e27d2604b,
    gx := 0x6b17d1f2e12c4247f8bce6e563a440f277037d812deb33a0f4a13945d898c296,
    gy := 0x4fe342e2fe1a7f9b8ee7eb4a7c0f9e162bce33576b315ececbb6406837bf51f5,
    n := 0xffffffff00000000ffffffffffffffffbce6faada7179e84f3b9cac2fc632551 }

/-- P-384. -/
def p384 : Curve :=
  { p := 2 ^ 384 - 2 ^ 128 - 2 ^ 96 + 2 ^ 32 - 1, a := 2 ^ 384 - 2 ^ 128 - 2 ^ 96 + 2 ^ 32 - 4,
    b := 0xb3312fa7e23ee7e4988e056be3f82d19181d9c6efe8141120314088f5013875ac656398d8a2ed19d2a85c8edd3ec2aef,
    gx := 0xaa87ca22be8b05378eb1c71ef320ad746e1d3b628ba79b9859f741e082542a385502f25dbf55296c3a545e3872760ab7,
    gy := 0x3617de4a96262c6f5d9e98bf9292dc29f8f41dbd289a147ce9da3113b5f0b8c00a60b1ce1d7e819d7a431d7c90ea0e5f,
    n := 0xffffffffffffffffffffffffffffffffffffffffffffffffc7634d81f4372ddf581a0db248b0a77aecec196accc52973 }

/-- P-521. -/
def p521 : Curve :=
  { p := 2 ^ 521 - 1, a := 2 ^ 521 - 4,
    b := 0x0051953eb9618e1c9a1f929a21a0b68540eea2da725b99b315f3b8b489918ef109e156193951ec7e937b1652c0bd3bb1bf073573df883d2c34f1ef451fd46b503f00,
    gx := 0x00c6858e06b70404e9cd9e3ecb662395b4429c648139053fb521f828af606b4d3dbaa14b5e77efe75928fe1dc127a2ffa8de3348b3c1856a429bf97e7e31c2e5bd66,
    gy := 0x011839296a789a3bc0045c8a5fb42c7d1bd998f54449579b446817afbd17273e662c97ee72995ef42640c550b9013fad0761353c7086a272c24088be94769fd16650,
    n := (2 ^ 261 - 1) * 2 ^ 260 + 0xa51868783bf2f966b7fcc0148f709a5d03bb5c9b8899c47aebb6fb71e91386409 }

/-- A point in Jacobian coordinates; Z = 0 is the point at infinity. -/
abbrev JPoint := Nat × Nat × Nat

/-- The point at infinity. -/
def ecInf : JPoint := (1, 1, 0)

/-- Doubling. -/
def ecDouble (c : Curve) (t : JPoint) : JPoint :=
  let (x, y, z) := t
  if z = 0 ∨ y = 0 then ecInf else
  let p := c.p
  let yy := y * y % p
  let s := 4 * x * yy % p
  let zz := z * z % p
  let m := (3 * x * x + c.a * (zz * zz % p)) % p
  let x3 := subMod (m * m % p) (2 * s) p
  let y3 := subMod (m * subMod s x3 p % p) (8 * (yy * yy % p)) p
  (x3, y3, 2 * y * z % p)

/-- Addition. -/
def ecAdd (c : Curve) (t u : JPoint) : JPoint :=
  let (x1, y1, z1) := t
  let (x2, y2, z2) := u
  if z1 = 0 then u else if z2 = 0 then t else
  let p := c.p
  let zz1 := z1 * z1 % p; let zz2 := z2 * z2 % p
  let u1 := x1 * zz2 % p; let u2 := x2 * zz1 % p
  let s1 := y1 * (zz2 * z2 % p) % p; let s2 := y2 * (zz1 * z1 % p) % p
  if u1 = u2 then (if s1 = s2 then ecDouble c t else ecInf) else
  let h := subMod u2 u1 p
  let r := subMod s2 s1 p
  let hh := h * h % p; let hhh := hh * h % p
  let v := u1 * hh % p
  let x3 := subMod (subMod (r * r % p) hhh p) (2 * v) p
  let y3 := subMod (r * subMod v x3 p % p) (s1 * hhh % p) p
  (x3, y3, h * (z1 * z2 % p) % p)

/-- Double and add over the scalar's bits, least significant first, on fuel. -/
def ecMulAux (c : Curve) : Nat → Nat → JPoint → JPoint → JPoint
  | 0, _, _, acc => acc
  | f + 1, k, q, acc => ecMulAux c f (k / 2) (ecDouble c q) (if k % 2 = 1 then ecAdd c acc q else acc)

/-- k times a point. -/
def ecMul (c : Curve) (k : Nat) (q : JPoint) : JPoint := ecMulAux c (bitLen k) k q ecInf

/-- The affine point, `none` at infinity. -/
def ecAffine (c : Curve) (t : JPoint) : Option (Nat × Nat) :=
  let (x, y, z) := t
  if z = 0 then none else
  let zi := invMod z c.p
  let zi2 := zi * zi % c.p
  some (x * zi2 % c.p, y * (zi2 * zi % c.p) % c.p)

/-- An affine point in Jacobian form. -/
def ecOf (q : Nat × Nat) : JPoint := (q.1, q.2, 1)

/-- The generator. -/
def ecG (c : Curve) : JPoint := (c.gx, c.gy, 1)

/-- Whether an affine point lies on the curve with coordinates below p. -/
def ecOnCurve (c : Curve) (q : Nat × Nat) : Bool :=
  decide (q.1 < c.p) && decide (q.2 < c.p) && decide (q.2 * q.2 % c.p = (q.1 * q.1 * q.1 + c.a * q.1 + c.b) % c.p)

/-- Bytes of a field element. -/
def ecLen (c : Curve) : Nat := ceilDiv (bitLen c.p) 8

/-- Bytes of a scalar. -/
def ecScalarLen (c : Curve) : Nat := ceilDiv (bitLen c.n) 8

/-- Uncompressed encoding 0x04, X, Y. -/
def ecEncode (c : Curve) (q : Nat × Nat) : Bytes := 0x04#8 :: (beBytes (ecLen c) q.1 ++ beBytes (ecLen c) q.2)

/-- Decoding of an uncompressed point, without the curve check. -/
def ecDecode (c : Curve) (b : Bytes) : Option (Nat × Nat) :=
  if b.length = 1 + 2 * ecLen c ∧ byteAt b 0 = 4 then
    some (ofBE ((b.drop 1).take (ecLen c)), ofBE (b.drop (1 + ecLen c)))
  else none

/-- The public point of a scalar. -/
def ecPublic (c : Curve) (d : Nat) : Option (Nat × Nat) := ecAffine c (ecMul c d (ecG c))

/-- A private scalar from at least 64 extra random bits (FIPS 186-5 A.2.1). -/
def ecScalar (c : Curve) (r : Bytes) : Nat := ofBE r % (c.n - 1) + 1

/-- The leftmost bits of a digest as an integer. -/
def ecDigestInt (c : Curve) (digest : Bytes) : Nat :=
  let e := ofBE digest
  let hb := 8 * digest.length
  let nb := bitLen c.n
  if hb > nb then e / 2 ^ (hb - nb) else e

/-- One ECDSA signing attempt with nonce k. -/
def ecdsaSignWith (c : Curve) (d : Nat) (digest : Bytes) (k : Nat) : Option (Nat × Nat) :=
  match ecAffine c (ecMul c k (ecG c)) with
  | none => none
  | some (x, _) =>
    let r := x % c.n
    let s := invMod k c.n * ((ecDigestInt c digest + r * d) % c.n) % c.n
    if r = 0 ∨ s = 0 then none else some (r, s)

/-- ECDSA verification. -/
def ecdsaVerify (c : Curve) (q : Nat × Nat) (digest : Bytes) (r s : Nat) : Bool :=
  if r = 0 ∨ s = 0 ∨ r ≥ c.n ∨ s ≥ c.n then false else
  let w := invMod s c.n
  let u1 := ecDigestInt c digest * w % c.n
  let u2 := r * w % c.n
  match ecAffine c (ecAdd c (ecMul c u1 (ecG c)) (ecMul c u2 (ecOf q))) with
  | none => false
  | some (x, _) => x % c.n == r

/-- RFC 6979: one HMAC-DRBG draw of at least `len` bytes under (K, V): the bytes and the new V. -/
def rfc6979T (h : Bytes → Bytes → Bytes) (hl len : Nat) (key v : Bytes) : Bytes × Bytes :=
  (List.range (ceilDiv len hl)).foldl (fun (st : Bytes × Bytes) _ => let v := h key st.2; (st.1 ++ v, v)) ([], v)

/-- RFC 6979 candidate search on fuel. -/
def rfc6979Aux (c : Curve) (d : Nat) (digest : Bytes) (h : Bytes → Bytes → Bytes) (hl : Nat) : Nat → Bytes → Bytes → Option (Nat × Nat)
  | 0, _, _ => none
  | f + 1, key, v =>
    let (t, v1) := rfc6979T h hl (ecScalarLen c) key v
    let k := ecDigestInt c (t.take (ecScalarLen c))
    match (if 1 ≤ k ∧ k < c.n then ecdsaSignWith c d digest k else none) with
    | some rs => some rs
    | none =>
      let key2 := h key (v1 ++ [0#8])
      rfc6979Aux c d digest h hl f key2 (h key2 v1)

/-- Deterministic ECDSA under RFC 6979 with HMAC `h` of output length `hl`. -/
def ecdsaDeterministic (c : Curve) (d : Nat) (digest : Bytes) (h : Bytes → Bytes → Bytes) (hl : Nat) : Option (Nat × Nat) :=
  let x := beBytes (ecScalarLen c) d
  let z := beBytes (ecScalarLen c) (ecDigestInt c digest % c.n)
  let v := List.replicate hl 1#8
  let key := h (zeros hl) (v ++ [0#8] ++ x ++ z)
  let v := h key v
  let key := h key (v ++ [1#8] ++ x ++ z)
  rfc6979Aux c d digest h hl 64 key (h key v)

/-- A signature as r and s in scalar-length bytes (Table 6-7). -/
def ecdsaEncode (c : Curve) (rs : Nat × Nat) : Bytes := beBytes (ecScalarLen c) rs.1 ++ beBytes (ecScalarLen c) rs.2

/-- Deterministic ECDSA P-384 with SHA-384 over a message, as 96 bytes. -/
def p384Sign (d : Nat) (msg : Bytes) : Bytes :=
  match ecdsaDeterministic p384 d (sha384 msg) hmacSha384 48 with
  | some rs => ecdsaEncode p384 rs
  | none => zeros 96

/-- ECDSA P-384 with SHA-384 verification of a 96-byte signature under a 97-byte key. -/
def p384Verify (key msg sig : Bytes) : Bool :=
  match ecDecode p384 key with
  | some q => ecOnCurve p384 q && decide (sig.length = 96) && ecdsaVerify p384 q (sha384 msg) (ofBE (sig.take 48)) (ofBE (sig.drop 48))
  | none => false

/-- ECDH: the x coordinate of d·Q in field-length bytes. -/
def ecdhShared (c : Curve) (d : Nat) (q : Nat × Nat) : Option Bytes :=
  (ecAffine c (ecMul c d (ecOf q))).map (fun t => beBytes (ecLen c) t.1)

/-! EdDSA. -/

/-- An Edwards domain: p, a, d, base point, order, bytes of an encoding, cofactor exponent. -/
structure EdCurve where
  p : Nat
  a : Nat
  d : Nat
  gx : Nat
  gy : Nat
  n : Nat
  len : Nat
  cof : Nat
  big : Bool

/-- Ed25519. -/
def ed25519 : EdCurve :=
  let p := 2 ^ 255 - 19
  { p := p, a := p - 1, d := 0x52036cee2b6ffe738cc740797779e89800700a4d4141d8ab75eb4dca135978a3,
    gx := 0x216936d3cd6e53fec0a4e231fdd6dc5c692cc7609525a7b2c9562d608f25d51a,
    gy := 0x6666666666666666666666666666666666666666666666666666666666666658,
    n := 2 ^ 252 + 27742317777372353535851937790883648493, len := 32, cof := 3, big := false }

/-- Ed448. -/
def ed448 : EdCurve :=
  let p := 2 ^ 448 - 2 ^ 224 - 1
  { p := p, a := 1, d := p - 39081,
    gx := 224580040295924300187604334099896036246789641632564134246125461686950415467406032909029192869357953282578032075146446173674602635247710,
    gy := 298819210078481492676017930443930673437544040154080242095928241372331506189835876003536878655418784733982303233503462500531545062832660,
    n := 2 ^ 446 - 13818066809895115352007386748515426880336692474882178609894547503885, len := 57, cof := 2, big := true }

/-- Complete projective addition. -/
def edAdd (c : EdCurve) (t u : JPoint) : JPoint :=
  let (x1, y1, z1) := t
  let (x2, y2, z2) := u
  let p := c.p
  let a := z1 * z2 % p
  let b := a * a % p
  let cc := x1 * x2 % p
  let dd := y1 * y2 % p
  let e := c.d * (cc * dd % p) % p
  let f := subMod b e p
  let g := (b + e) % p
  let x3 := a * f % p * subMod (subMod ((x1 + y1) * (x2 + y2) % p) cc p) dd p % p
  let y3 := a * g % p * subMod dd (c.a * cc % p) p % p
  (x3, y3, f * g % p)

/-- Double and add on fuel. -/
def edMulAux (c : EdCurve) : Nat → Nat → JPoint → JPoint → JPoint
  | 0, _, _, acc => acc
  | f + 1, k, q, acc => edMulAux c f (k / 2) (edAdd c q q) (if k % 2 = 1 then edAdd c acc q else acc)

/-- k times a point. -/
def edMul (c : EdCurve) (k : Nat) (q : JPoint) : JPoint := edMulAux c (bitLen k) k q (0, 1, 1)

/-- Encoding: y little-endian with the low bit of x on top. -/
def edEncode (c : EdCurve) (t : JPoint) : Bytes :=
  let (x, y, z) := t
  let zi := invMod z c.p
  let x := x * zi % c.p
  let y := y * zi % c.p
  leBytes c.len (y + (x % 2) * 2 ^ (8 * c.len - 1))

/-- Decoding of a point, `none` when it is not one. -/
def edDecode (c : EdCurve) (b : Bytes) : Option JPoint :=
  if b.length ≠ c.len then none else
  let v := ofLE b
  let sign := v / 2 ^ (8 * c.len - 1) % 2
  let y := v % 2 ^ (8 * c.len - 1)
  if y ≥ c.p then none else
  let p := c.p
  let yy := y * y % p
  -- a x^2 + y^2 = 1 + d x^2 y^2
  let num := subMod yy 1 p
  let den := subMod (c.d * yy % p) c.a p
  let x2 := num * invMod den p % p
  let x :=
    if c.big then powMod x2 ((p + 1) / 4) p
    else
      let r := powMod x2 ((p + 3) / 8) p
      if r * r % p = x2 then r else r * powMod 2 ((p - 1) / 4) p % p
  if x * x % p ≠ x2 then none
  else if x = 0 ∧ sign = 1 then none
  else some (if x % 2 = sign then x else p - x, y, 1)

/-- The hash of an EdDSA scheme: SHA-512, or SHAKE256 with the dom4 prefix and context of Ed448. -/
def edHash (c : EdCurve) (ctx msg : Bytes) : Bytes :=
  if c.big then shake256 (ascii "SigEd448" ++ [0#8, BitVec.ofNat 8 ctx.length] ++ ctx ++ msg) 114 else sha512 msg

/-- The secret scalar and prefix of a seed. -/
def edSecret (c : EdCurve) (seed : Bytes) : Nat × Bytes :=
  let h := if c.big then shake256 seed 114 else sha512 seed
  let v := ofLE (h.take c.len)
  let s := if c.big then
      let w := v % 2 ^ 448
      (w / 4 * 4) % 2 ^ 447 + 2 ^ 447
    else (v / 8 * 8) % 2 ^ 254 + 2 ^ 254
  (s, h.drop c.len)

/-- The public key of a seed. -/
def edPublic (c : EdCurve) (seed : Bytes) : Bytes := edEncode c (edMul c (edSecret c seed).1 (c.gx, c.gy, 1))

/-- Pure EdDSA signature. -/
def edSign (c : EdCurve) (seed ctx msg : Bytes) : Bytes :=
  let (s, prefix_) := edSecret c seed
  let pub := edPublic c seed
  let r := ofLE (edHash c ctx (prefix_ ++ msg)) % c.n
  let rb := edEncode c (edMul c r (c.gx, c.gy, 1))
  let k := ofLE (edHash c ctx (rb ++ pub ++ msg)) % c.n
  rb ++ leBytes c.len ((r + k * s) % c.n)

/-- Pure EdDSA verification, with the cofactored equation. -/
def edVerify (c : EdCurve) (pub ctx msg sig : Bytes) : Bool :=
  let rb := sig.take c.len
  let s := ofLE (sig.drop c.len)
  match edDecode c pub, edDecode c rb with
  | some a, some r =>
    let k := ofLE (edHash c ctx (rb ++ pub ++ msg)) % c.n
    let lhs := edMul c (2 ^ c.cof) (edMul c s (c.gx, c.gy, 1))
    let rhs := edMul c (2 ^ c.cof) (edAdd c r (edMul c k a))
    decide (sig.length = 2 * c.len) && decide (s < c.n) && decide (edEncode c lhs = edEncode c rhs)
  | _, _ => false

end Sys2Proof.Machine
end

