-- ==== Sys2Proof/Machine/Derive.lean ====
section
/-!
DEFINITION. The derived keys of Table 7-4 and the seal keys of R72.
-/

namespace Sys2Proof.Machine

/-- The module serial, 16 bytes (R348). -/
def serialBytes : Bytes := leBytes 16 Config.serial.toNat

/-- The Registrar reports TEST_UNLOCKED, DEVELOPMENT or RETURNED, in which the substitute test root stands in (R181). The codes are those of Table 14-4. -/
def onTestRoot (s : State) : Bool := s.reg.state == 2 || s.reg.state == 5 || s.reg.state == 6

/-- The test root's replacement for module root and device secret (R181). -/
def testSecret : Bytes := expand384 (beBytes 32 Config.testRoot.toNat) (ascii "TEST-ROOT") serialBytes 32

/-- The device secret in force (R177, R181). -/
def deviceSecretOf (s : State) : Bytes := if onTestRoot s then testSecret else beBytes 32 Config.deviceSecret.toNat

/-- The module root in force, if there is one (R178, R181). -/
def moduleRootOf (s : State) : Option Bytes := if onTestRoot s then some testSecret else s.bb.root

/-- KM from a module root (Table 7-4). -/
def kmOf (s : State) (root : Bytes) : Bytes := extract384 (deviceSecretOf s) root

/-- A P-384 private key from 56 bytes by FIPS 186-5 A.2.1: c mod (n - 1) + 1. -/
def p384FromSeed (c : Bytes) : Nat := ofBE c % (p384.n - 1) + 1

/-- The identity private key (Table 7-4, R180). -/
def identityPrivate (s : State) : Nat :=
  p384FromSeed (expand384 (extract384 (zeros 48) (deviceSecretOf s)) (ascii "MOD-IDENT") serialBytes 56)

/-- The identity public key, 97 bytes. -/
def identityPublic (s : State) : Bytes := ((ecPublic p384 (identityPrivate s)).map (ecEncode p384)).getD []

/-- A deterministic ECDSA P-384 signature with SHA-384 under the identity key. -/
def identitySign (s : State) (msg : Bytes) : Bytes := p384Sign (identityPrivate s) msg

/-- The gallery root wrapping key, derived on the creating member (R179). -/
def galleryRootKey (s : State) (g epoch : Nat) : Bytes :=
  expand384 s.vit.km (ascii "GAL-ROOT") (leBytes 4 g ++ leBytes 4 epoch ++ serialBytes) 32

/-- The storage key of the Vitrine region, two AES-256 keys (Table 7-4). -/
def storageKey (s : State) : Bytes := expand384 s.vit.km (ascii "VIT-XTS") serialBytes 64

/-- The line MAC key (Table 7-4). -/
def lineMacKey (s : State) : Bytes := expand384 s.vit.km (ascii "VIT-MAC") serialBytes 32

/-- A line of 64 bytes of the Vitrine region as the GDDR6 holds it: AES-256-XTS with the line's address as the tweak (R182). -/
def storedLine (s : State) (addr : Nat) (data : Bytes) : Bytes :=
  xtsEnc (aesOf ((storageKey s).take 32)) (aesOf ((storageKey s).drop 32)) addr data

/-- The MAC of a line: the leftmost 64 bits of AES-256-CMAC over its address, its ciphertext and its write count (R182, log 168). -/
def lineMac (s : State) (addr writes : Nat) (cipher : Bytes) : Bytes :=
  (cmac (aesOf (lineMacKey s)) (leBytes 8 addr ++ cipher ++ leBytes 8 writes)).take 8

/-- An inner node of the MAC tree: the MAC of the line that holds its eight children (R182). -/
def treeNode (s : State) (addr writes : Nat) (children : List Bytes) : Bytes := lineMac s addr writes children.flatten

/-- A key of the gallery under its root wrapping key (Table 7-4). -/
def galleryKey (rootKey : Bytes) (label : String) (g n : Nat) : Bytes := expand384 rootKey (ascii label) (leBytes 4 g) n

/-- The record key, under which AES-KWP wraps record material (R171, Table 7-4). -/
def recordKey (rootKey : Bytes) (g : Nat) : Bytes := galleryKey rootKey "GAL-REC" g 32

/-- AES-256-CMAC. -/
def aesCmac (key msg : Bytes) : Bytes := cmac (aesOf key) msg

/-- The command and response seal keys of a sealed enable (R72). -/
def sealKeysOf (key : Bytes) (g stream epoch : Nat) : Bytes × Bytes :=
  let ctx := leBytes 4 g ++ leBytes 1 stream ++ leBytes 4 epoch
  (kdfCounter (aesCmac key) 16 (ascii "SEAL-CMD") ctx 32, kdfCounter (aesCmac key) 16 (ascii "SEAL-RSP") ctx 32)

/-- The seal tag of a frame: the leftmost 64 bits of AES-CMAC with the seal field zero (R72). -/
def sealTag (key frame : Bytes) : Bytes := (aesCmac key (frameSealZero frame)).take 8
where
  /-- The frame up to LENGTH with its seal field zero. -/
  frameSealZero (f : Bytes) : Bytes :=
    let b := f.take (32 + leAt f 12 4)
    b.take 24 ++ zeros (min 8 (b.length - 24)) ++ b.drop 32

end Sys2Proof.Machine
end

