-- ==== Sys2Proof/Machine/Meter.lean ====
section
/-!
DEFINITION. Metering: counts of released commands, meter records and the meter store (R51 to R55).
-/

namespace Sys2Proof.Machine

/-- Counts at zero. -/
def noCounts : MeterCounts := { billed := [], refused := 0, pkOps := 0, pkMicros := 0, bytesIn := 0, bytesOut := 0, entryTicks := 0 }

/-- Counts one released command: billed in its group with its work under OK, 0x03xx and 0x04xx; else only as refused (R52). -/
def countRelease (d : Desc) (r : Resp) (c : MeterCounts) : MeterCounts :=
  if isBilled r.status then
    { c with
      billed := mset c.billed (d.function / 256) (mgetD c.billed (d.function / 256) 0 + 1)
      pkOps := c.pkOps + (if d.pkCost = 0 then 0 else 1)
      pkMicros := c.pkMicros + d.pkCost
      bytesIn := c.bytesIn + d.payloadLen
      bytesOut := c.bytesOut + r.payload.length }
  else { c with refused := c.refused + 1 }

/-- Physical records that material of `m` bytes occupies (R172). -/
def unitsOf (m : Nat) : Nat := 1 + ceilDiv (m - 152) 240

/-- Physical records of a Vitrine record (R172); a tombstone occupies one (R197). -/
def recordUnits (r : VRecord) : Nat := unitsOf r.material.length

/-- Physical records a gallery holds (R45, R174). -/
def recordsHeld (g : Gallery) : Nat := (mvals g.records).foldl (fun a r => a + recordUnits r) 0

/-- The 160 signed bytes of a meter record (Table 2-6). -/
def meterBytes (s : State) (id number : Nat) (c : Closing) : Bytes :=
  leBytes 2 1 ++ leBytes 2 (sat 0xFFFF (c.extra + 1)) ++ leBytes 4 (id + 2 ^ 30 * b2n c.final + 2 ^ 31 * b2n (c.extra != 0)) ++
  leBytes 8 c.first ++ serialBytes ++ leBytes 1 (memberCode s) ++ zeros 3 ++ leBytes 4 c.term ++ leBytes 8 number ++
  (List.range 15).flatMap (fun i => leBytes 4 (sat 0xFFFFFFFF (mgetD c.counts.billed (i + 1) 0))) ++
  leBytes 4 (sat 0xFFFFFFFF c.counts.refused) ++ leBytes 4 (sat 0xFFFFFFFF c.counts.pkOps) ++
  leBytes 4 (sat 0xFFFFFFFF c.counts.pkMicros) ++ leBytes 8 c.counts.bytesIn ++ leBytes 8 c.counts.bytesOut ++
  leBytes 8 (c.counts.entryTicks / 1000000000) ++ leBytes 4 c.records ++ leBytes 1 c.loans ++ zeros 3 ++
  leBytes 8 (signed 64 s.vit.utcOffset)

/-- METER_ACK covers a record (R54). -/
def meterAcked (s : State) (r : MeterRecord) : Bool := decide (r.number ≤ mgetD s.vit.meterAcks r.gallery 0)

/-- A record of the store that may be overwritten there: METER_ACK covers it, or the archive holds it (R54). -/
def overwritable (s : State) (r : MeterRecord) : Bool := meterAcked s r || !s.vit.meterToArchive.contains r

/-- Records that already have a place in the store before them: of minutes whose marks stand, and of removed galleries. -/
def meterPromised (s : State) : Nat :=
  (mvals s.vit.galleries).foldl (fun a g => a + (g.closing.filter (·.record)).length) 0 + s.vit.meterWaiting.length

/-- The store has room for one more record than those promised: below its 262,144 records, or over records that may be overwritten (R54). -/
def meterRoom (s : State) : Bool :=
  decide (s.vit.meterStore.length + meterPromised s < 262144) ||
  decide (meterPromised s < 262144 - s.vit.meterStore.length + (s.vit.meterStore.filter (overwritable s)).length)

/-- Puts a record into the meter store, when it is full over the oldest record that may be overwritten (R54). -/
def storeMeter (r : MeterRecord) (s : State) : State :=
  let put := fun (l w : List MeterRecord) => { s with vit := { s.vit with meterStore := l ++ [r], meterToArchive := w ++ [r] } }
  if s.vit.meterStore.length < 262144 then put s.vit.meterStore s.vit.meterToArchive
  else match s.vit.meterStore.find? (overwritable s) with
    | some o => put (s.vit.meterStore.erase o) (s.vit.meterToArchive.erase o)
    | none => s

/-- Records of removed galleries that wait for room take it (R39, R54). -/
def settleWaiting (s : State) : State :=
  s.vit.meterWaiting.foldl (fun s r =>
    if decide (s.vit.meterStore.length < 262144) || s.vit.meterStore.any (overwritable s) then
      storeMeter r { s with vit := { s.vit with meterWaiting := s.vit.meterWaiting.erase r } }
    else s) s

/-- The record of a closed minute: numbered, signed with the identity key, and kept with `keep`; a gallery whose row lacks APP on the meter store has it appended nowhere (R44, R53). Event 36 latches (Table 3-14). -/
def makeRecord (id : Nat) (c : Closing) (keep : MeterRecord → State → State) (s : State) : State :=
  match gal s id with
  | none => s
  | some g =>
    let n := g.meterSeq + 1
    let b := meterBytes s id n c
    let s := updGal id (fun g => { g with meterSeq := n }) s
    if hasRight g.rights 7 rightAPP then latchEvent 36 (keep { gallery := id, number := n, bytes := b ++ identitySign s b } s) else s

/-- The oldest minute of a gallery that waits for its numbers is closed: its record is written, if this member writes one (R53, R55). -/
def writeMeter (id : Nat) (c : Closing) (s : State) : State :=
  let s := updGal id (fun g => { g with closing := g.closing.drop 1 }) s
  if c.record then makeRecord id c storeMeter s else s

/-- The flows of a gallery. -/
def galleryFlows (s : State) (id : Nat) : List (Nat × Flow) := s.doc.flows.filter (fun p => p.2.sid.gallery == id && !p.2.proxy)

/-- Every number below a mark has been released (R51, log 18). -/
def markReached (s : State) (m : StreamId × Nat) : Bool :=
  (galleryFlows s m.1.gallery).all (fun p => p.2.sid != m.1 || decide (m.2 ≤ p.2.rel) || decide (p.2.next < m.2))

/-- Closes the minutes all of whose numbers have been released, oldest first; fuel. -/
def closeMinutes (id : Nat) : Nat → State → State
  | 0, s => s
  | fuel + 1, s =>
    match (gal s id).bind (·.closing.head?) with
    | none => s
    | some c => if c.marks.all (markReached s) then closeMinutes id fuel (writeMeter id c s) else s

/-- Writes the records of the minutes that are complete (R51, log 18). -/
def closeMinute (id : Nat) (s : State) : State := closeMinutes id (((gal s id).map (·.closing.length)).getD 0) s

/-- The mark of a closing minute encloses a number (R51). -/
def encloses (sid : StreamId) (q : Nat) (c : Closing) : Bool := c.marks.any (fun m => m.1 == sid && decide (q < m.2))

/-- Counts in the first of the minutes that enclose a number; whether there was one. -/
def countClosing (sid : StreamId) (d : Desc) (r : Resp) : List Closing → List Closing × Bool
  | [] => ([], false)
  | c :: rest =>
    if encloses sid d.seq c then ({ c with counts := countRelease d r c.counts } :: rest, true)
    else
      let x := countClosing sid d r rest
      (c :: x.1, x.2)

/-- Counts a released command in the minute whose marks enclose its number (R51, R52); a cross-fed command is counted once, as any other (R52). -/
def meterRelease (sid : StreamId) (d : Desc) (r : Resp) (s : State) : State :=
  updGal sid.gallery (fun g =>
    let x := countClosing sid d r g.closing
    if x.2 then { g with closing := x.1 } else { g with meter := countRelease d r g.meter }) s

/-- Key-cache entries a gallery holds (WIN_QUOTA_USE.CACHE_ENTRIES). -/
def cacheEntries (s : State) (id : Nat) : Nat :=
  (mvals s.vit.cache).foldl (fun a e => if e.gallery = id ∧ e.live = true then a + e.count else a) 0

end Sys2Proof.Machine
end

