-- ==== Sys2Proof/Machine/Operands.lean ====
section
/-!
DEFINITION. What a command frame holds: header, handles, function fields; what each function asks of a frame; rights bytes.
-/

namespace Sys2Proof.Machine

/-! The command header (R83, Table 4-1). -/

/-- FUNCTION. -/
def hdrFunction (f : Bytes) : Nat := leAt f 0 2
/-- FLAGS. -/
def hdrFlags (f : Bytes) : Nat := leAt f 2 2
/-- FN_FLAGS, FLAGS bits 15:8 (R84). -/
def hdrFnFlags (f : Bytes) : Nat := byteAt f 3
/-- The stream number of STREAM_PRIO. -/
def hdrStream (f : Bytes) : Nat := byteAt f 4 % 16
/-- The priority of STREAM_PRIO. -/
def hdrPrio (f : Bytes) : Nat := bits (byteAt f 4) 6 4
/-- HANDLES. -/
def hdrHandles (f : Bytes) : Nat := byteAt f 5
/-- SEQ. -/
def hdrSeq (f : Bytes) : Nat := leAt f 6 6
/-- LENGTH. -/
def hdrLength (f : Bytes) : Nat := leAt f 12 4
/-- DEADLINE in microseconds. -/
def hdrDeadline (f : Bytes) : Nat := leAt f 16 4
/-- The reserved bytes 20 to 23. -/
def hdrReserved (f : Bytes) : Nat := leAt f 20 4
/-- SEAL. -/
def hdrSeal (f : Bytes) : Nat := leAt f 24 8

/-- The frame with its SEAL field zero, and nothing beyond LENGTH (R72, R100). -/
def frameForDigest (f : Bytes) : Bytes :=
  let b := f.take (32 + hdrLength f)
  b.take 24 ++ zeros (min 8 (b.length - 24)) ++ b.drop 32

/-- The first 64 bits of the SHA-256 digest of the frame with SEAL zero (R100). -/
def frameDigest (f : Bytes) : Nat := ofLE ((sha256 (frameForDigest f)).take 8)

/-- The frame that a slot or port holds: header and LENGTH payload bytes, as far as they reach. -/
def frameIn (b : Bytes) : Bytes := b.take (32 + hdrLength b)

/-! Key handles (R86, Table 4-3). -/

/-- Handle `i` of a frame. -/
def handleAt (f : Bytes) (i : Nat) : Nat := leAt f (32 + 8 * i) 8
/-- KIND. -/
def handleKind (h : Nat) : Nat := bits h 63 62
/-- The slot number: of the record, or of the wrapping key. -/
def handleSlot (h : Nat) : Nat := bits h 23 0
/-- The word offset of a carried key block within the frame. -/
def handleOffset (h : Nat) : Nat := bits h 37 24

/-- What one handle position of a function accepts, and which keys suit it (R86, R115, R145). -/
structure KeyReq where
  vitrine : Bool := true
  carried : Bool := true
  optional : Bool := false
  /-- the key suits the position; otherwise KEY_USAGE -/
  suits : HeldKey → Bool

/-- The layout of a handle is sound for its position: KIND accepted, reserved bits 0, offset in range (R86). -/
def handleOk (r : KeyReq) (h : Nat) : Bool :=
  match handleKind h with
  | 0 => r.optional
  | 1 => r.vitrine && bits h 61 24 == 0
  | 2 => r.carried && bits h 61 38 == 0 && decide (4 ≤ handleOffset h) && decide (handleOffset h ≤ 8195)
  | _ => false

/-- What a function asks of its frame before its own checks, and what class it has (R93, R95, R96). -/
structure FnSpec where
  /-- FN_FLAGS bits the function defines -/
  flagMask : Nat := 0
  /-- gallery privilege bit it needs, if any (Table 2-2) -/
  privilege : Option Nat := none
  /-- its handle positions; HANDLES must equal their number -/
  keys : Bytes → List KeyReq := fun _ => []
  /-- reserved fields are 0 -/
  reservedOk : Bytes → Bool := fun _ => true
  /-- LENGTH suits the function -/
  lengthOk : Bytes → Bool := fun _ => true
  /-- the class of the function is atomic -/
  atomic : Bytes → Bool := fun _ => false
  /-- the class of the function is originating -/
  originating : Bytes → Bool := fun _ => false
  /-- the class of the function is local -/
  isLocal : Bool := false
  /-- it draws randomness, so a fatal RNG alarm refuses it (R280) -/
  random : Bytes → Bool := fun _ => false
  /-- engine targets of Table 2-3 it uses, the one it uses first in front: 2 cipher, 3 hash, 4 PK -/
  engines : Bytes → List Nat := fun _ => []
  /-- PK cost of the command, in PK-unit microseconds (R245) -/
  pkCost : State → Nat → Bytes → Nat := fun _ _ _ => 0
  /-- answered MIRROR_LOST for the whole dual-act window (R143, R153, R177, R299) -/
  noDualAct : Bytes → Bool := fun _ => false

/-! Rights (R41 to R44). -/

/-- The row of a window: the PF row, or the VF's row, the image's VF default row until GALLERY_RIGHTS edits it (R43, R388, R399, log 5). -/
def windowRow (s : State) (fn : Nat) : List Nat := if fn = 0 then fixedRow s 0 else (mget s.fab.vfRows fn).getD s.img.set.vfRow

/-- A write to a configuration register through PF BAR0: without WR on target 8 it has no effect (R41, R44, log 41). -/
def configWrite (f : State → State) (s : State) : State := if hasRight (windowRow s 0) 8 rightWR then f s else s

/-- A read of the configuration registers through PF BAR0: without RD on target 8 it finds 0 (R41, R44, log 41). -/
def configRead (s : State) (w : W64) : W64 := if hasRight (windowRow s 0) 8 rightRD then w else 0

/-- The row of a gallery held here; a gallery homed elsewhere is judged at its home. -/
def galleryRow (s : State) (g : Nat) : List Nat := ((gal s g).map (·.rights)).getD (List.replicate 11 0xFF)

/-- Both rows hold a right on target 10 (R44, R62). -/
def windowHas (s : State) (fn right : Nat) : Bool :=
  hasRight (windowRow s fn) 10 right &&
  (match (win s fn).gallery with
   | some g => hasRight (galleryRow s g) 10 right
   | none => true)

end Sys2Proof.Machine
end

