-- ==== Sys2Proof/Machine/Trace.lean ====
section
/-!
DEFINITION. Wing counters, latency histograms and trace records, as commands drive them (R421, R422, R425 to R427).
-/

namespace Sys2Proof.Machine

/-- Adds `k` to the live count of counter `n` of a wing and carries wraps into chained counters (R422); fuel 8. -/
def bumpCounter (w : Nat) : Nat → Nat → Nat → State → State
  | 0, _, _, s => s
  | fuel + 1, n, k, s =>
    let key := 8 * w + n
    let c := mgetD s.cnt.wing key {}
    let v := c.live + k
    let s := { s with cnt := { s.cnt with wing := mset s.cnt.wing key { c with live := v % 2 ^ 48, ovf := c.ovf || decide (v ≥ 2 ^ 48) } } }
    let up := mgetD s.cnt.wing (key + 1) {}
    if v ≥ 2 ^ 48 ∧ n % 2 = 0 ∧ n < 7 ∧ up.chain = true then bumpCounter w fuel (n + 1) (v / 2 ^ 48) s else s

/-- Counts `k` events of code `e` in wing `w`, made for gallery `g` if for any (R421); FREEZE stops the count (Table 18-2). -/
def countEvent (w e k : Nat) (g : Option Nat) (s : State) : State :=
  if s.cnt.freeze then s
  else (List.range 8).foldl (fun s n =>
    let c := mgetD s.cnt.wing (8 * w + n) {}
    let chained := c.chain && n % 2 == 1
    if !chained && c.event == e && e != 0 && (!c.filter || g == some c.gallery) then bumpCounter w 8 n k s else s) s

/-- The histogram bin of a time in ns (Table 10-11, R426). -/
def histBin (ns : Nat) : Nat :=
  if ns < 100 then 0 else min 31 (Nat.log2 (ns / 100) + 1)

/-- Counts a published response's latency for its gallery: the house copy unless frozen, and the holder copy (R426). -/
def countLatency (g ns : Nat) (s : State) : State :=
  let b := histBin ns
  updGal g (fun x => { x with
    latHolder := mset x.latHolder b (sat (2 ^ 64 - 1) (mgetD x.latHolder b 0 + 1))
    latHouse := if s.cnt.freeze then x.latHouse else mset x.latHouse b (sat (2 ^ 64 - 1) (mgetD x.latHouse b 0 + 1)) }) s

/-- The window's stream counters and its gallery's holder histogram, 640 bytes (R428); a module that does not hold the window shows zeros for its streams. -/
def windowCounts (s : State) (own : Bool) (fn g : Nat) : Bytes :=
  (List.range 16).flatMap (fun i =>
    let st := if own then strm s fn i else {}
    leBytes 8 st.cntCommitted ++ leBytes 8 st.cntReleased ++ leBytes 8 st.cntRefused) ++
  (List.range 32).flatMap (fun b => leBytes 8 (((gal s g).map (fun x => mgetD x.latHolder b 0)).getD 0))

/-- A stamp of Table 18-9: ns after `base`, saturating at 0xFFFF_FFFE; 0xFFFF_FFFF when it did not occur. -/
def stamp (base : Nat) : Option Nat → Bytes
  | some t => leBytes 4 (sat 0xFFFFFFFE (t - base))
  | none => leBytes 4 0xFFFFFFFF

/-- The trace record of a command at its publication (Table 18-9). -/
def traceRecord (s : State) (d : Desc) (sid : StreamId) (status : Nat) : Bytes :=
  let h0 := d.holds[0]?
  let h1 := d.holds[1]?
  let engines := ((h0.map (·.cls)).getD 0) + 4 * ((h1.map (·.cls)).getD 0) + 16 * sat 15 (d.holds.length - 2)
  leBytes 6 d.seq ++
  leBytes 1 (sid.stream + 16 * b2n d.traceFlag + 32 * b2n d.traceRandom + 64 * b2n d.crossFed + 128 * b2n (d.dual && d.copies.length == 2)) ++
  leBytes 1 (min 7 d.retry + 8 * memberCode s) ++
  leBytes 4 (sid.gallery + sid.fn * 2 ^ 20) ++ leBytes 2 d.function ++ leBytes 1 d.cell ++ leBytes 1 engines ++
  leBytes 8 (d.commitAt - s.pow.countFrom) ++
  stamp d.commitAt (some d.admitAt) ++ stamp d.commitAt d.takeAt ++
  stamp d.commitAt (h0.map (·.grantAt)) ++ stamp d.commitAt (h0.bind (·.releaseAt)) ++
  stamp d.commitAt (h1.map (·.grantAt)) ++ stamp d.commitAt (h1.bind (·.releaseAt)) ++
  stamp d.commitAt d.doneAt ++ stamp d.commitAt d.releaseAt ++
  leBytes 4 (sat 0xFFFFFFFE ((s.now - d.commitAt) / 10 * 10)) ++ leBytes 2 status ++ zeros 2

/-- Writes a record into the module ring under its ring rules (R425). -/
def putTrace (r : Bytes) (s : State) : State :=
  let c := s.cnt
  if !c.traceEnable then s
  else if c.traceCount < 256 ∨ c.traceRing then
    { s with cnt := { c with
        traces := mset c.traces c.traceNext r
        traceNext := (c.traceNext + 1) % 256
        traceCount := min 256 (c.traceCount + 1)
        traceFull := decide (c.traceCount + 1 ≥ 256) && !c.traceRing } }
  else { s with cnt := { c with traceFull := true, traceLost := sat 0xFFFFFFFF (c.traceLost + 1) } }

/-- A tagged command writes its record at publication: to the module ring, and to its window's ring when its own flag tagged it (R425, R427). -/
def traceCommand (fn : Nat) (d : Desc) (sid : StreamId) (status : Nat) (s : State) : State :=
  let r := traceRecord s d sid status
  let s := if d.traceFlag || d.traceRandom then putTrace r s else s
  if d.traceFlag then updWin fn (fun w => { w with
    traces := mset w.traces w.traceNext r
    traceNext := (w.traceNext + 1) % 16
    traced := sat 0xFFFFFFFF (w.traced + 1) }) s
  else s

/-- The tags a command takes at admission: by its TRACE flag and at random (R425). -/
def traceTags (s : State) (flag privilege : Bool) : Bool × Bool × State :=
  let c := s.cnt
  let byFlag := flag && privilege && c.traceHolder
  if c.traceRate = 0 then (byFlag, false, s)
  else
    let g := Config.samplerNext c.traceGen
    (byFlag, decide (g.toNat % 2 ^ (c.traceRate + 3) = 0), { s with cnt := { c with traceGen := g } })

/-! Clocks (R14, Table 1-4). -/

/-- The service mode whose clocks a wing runs at: the new one once the wing has switched (R369). -/
def wingMode (s : State) (w : Nat) : Nat :=
  match s.pow.switchTo with
  | some m => if s.pow.switching.contains w then s.pow.clockMode else m
  | none => s.pow.clockMode

/-- A block clock in MHz: THROUGHPUT and ASSURANCE, ECONOMY (or above 85 C), above 100 C (R14). -/
def clockOf (s : State) (w full eco half : Nat) : Nat :=
  if s.pow.step ≥ 2 then half else if s.pow.step = 1 ∨ wingMode s w = 2 then eco else full

/-- The clock of a wing's cells in MHz. -/
def cellMHz (s : State) (w : Nat) : Nat := clockOf s w 2000 1400 1000

/-- The clock of a wing's cipher engine and hash unit in MHz. -/
def engineMHz (s : State) (w : Nat) : Nat := clockOf s w 1200 780 600

/-- The clock of a wing's PK unit in MHz. -/
def pkMHz (s : State) (w : Nat) : Nat := clockOf s w 1600 1040 800

/-- The time that `n` cycles of a clock take, in ns, rounded up. -/
def cyclesNs (mhz n : Nat) : Nat := ceilDiv (1000 * n) mhz

/-- The fabric clock in kHz; it switches when every wing has switched (R369). -/
def fabricKHz (s : State) : Nat :=
  if s.pow.step ≥ 2 then 512000 else if s.pow.step = 1 ∨ s.pow.clockMode = 2 then 665600 else 1024000

/-- Fabric cycles since START (Table 18-7). -/
def fabricCycles (s : State) : Nat := s.cnt.fabCycles + (s.now - s.cnt.fabFrom) * fabricKHz s / 1000000

/-! Slot accounting (R421, R423). -/

/-- The cells of a wing are clocked: in RUN, outside quarantine, in a mode that runs cells. -/
def cellClocked (s : State) (w : Nat) : Bool :=
  let x := wing s w
  s.pow.main && s.pow.mode != .vault && s.pow.mode != .start && x.power == .run && x.waking.isNone && !x.quarantined && !x.retired

/-- The gallery of the command a cell holds. -/
def cellGallery (s : State) (c : Nat) : Option Nat :=
  (((cellRegs s c).held.bind (desc s)).bind (fun d => mget s.doc.flows d.flow)).map (·.sid.gallery)

/-- The slots of `k` cycles by class, RETIRED, WASTED, FRONT, BACK, TAKE_WAIT, LOCK_WAIT, ENGINE_WAIT: all FRONT while the cell stalls in DOC_TAKE, else free values whose classes add up to 2 `k` (R423, log 46). -/
def slotClasses (k : Nat) (stalled : Bool) (b : Bytes) : List Nat :=
  if stalled then [0, 0, 2 * k, 0, 2 * k, 0, 0]
  else
    let r := leAt b 0 8 % (2 * k + 1)
    let w := leAt b 8 8 % (2 * k - r + 1)
    let f := leAt b 16 8 % (2 * k - r - w + 1)
    let x := 2 * k - r - w - f
    let l := leAt b 32 8 % (x + 1)
    [r, w, f, x, leAt b 24 8 % (f + 1), l, leAt b 40 8 % (x - l + 1)]

/-- Counts a cell's cycles and slots up to now (R421 events 1 and 2, R423). -/
def settleCell (c : Nat) (s : State) : State :=
  let a := max (mgetD s.cnt.cellAt c 0) s.pow.countFrom
  let mhz := cellMHz s (c / 8)
  let k := s.now * mhz / 1000 - a * mhz / 1000
  let go := cellClocked s (c / 8) && !s.cnt.freeze && decide (0 < k)
  let s := { s with cnt := { s.cnt with cellAt := mset s.cnt.cellAt c s.now } }
  if !go then s
  else
    let (b, s) := freeBytes 48 s
    let xs := slotClasses k (s.doc.waiting.any (fun w => w.cell == c)) b
    let s := { s with cnt := { s.cnt with slots := mupd s.cnt.slots c {} (fun x => { x with live := (x.live.zip (k :: xs)).map (fun p => (p.1 + p.2) % 2 ^ 64) }) } }
    countEvent (c / 8) 2 (xs.headD 0) (cellGallery s c) (countEvent (c / 8) 1 k (cellGallery s c) s)

/-- The same over a wing's cells. -/
def settleWingCells (w : Nat) (s : State) : State := (List.range 8).foldl (fun s c => settleCell (8 * w + c) s) s

/-- The same over every cell, and the fabric cycles. -/
def settleCells (s : State) : State :=
  let s := (List.range 16).foldl (fun s w => settleWingCells w s) s
  { s with cnt := { s.cnt with fabCycles := fabricCycles s, fabFrom := s.now } }

end Sys2Proof.Machine
end

