-- ==== Sys2Proof/Machine/KeyStore.lean ====
section
/-!
DEFINITION. Keys as commands find them: record digests, provenance (R195, R196), handles (R86, R93 step 10), the key cache (R184, R186), Vitrine writes under quota (R174, R182, R48), fences (R98), use budgets (R176, R214).
-/

namespace Sys2Proof.Machine

/-! Records. -/

/-- The digest of a record: SHA-256 of GALLERY, SLOT and GENERATION (R171). -/
def recordDigest (g slot gen : Nat) : Bytes := sha256 (leBytes 4 g ++ leBytes 4 slot ++ leBytes 4 gen)

/-- The record holds a key: kinds 1, 2 and 3 (R171, R196). -/
def isKey (r : VRecord) : Bool := r.kind == 1 || r.kind == 2 || r.kind == 3

/-- The record in a slot. -/
def recordAt (g : Gallery) (slot : Nat) : Option VRecord := mget g.records slot

/-- PARENT_SLOT of a record without a parent (Table 7-1). -/
abbrev noParent : Nat := 0xFFFFFFFF

/-- What breaks a record's provenance chain: an ancestor not live at the recorded generation (KEY_REVOKED), or damaged (ENGINE_FAULT); at most 8 records (R196, R329). -/
def chainFault (g : Gallery) : Nat → VRecord → Option Nat
  | 0, _ => none
  | fuel + 1, r =>
    if r.parentSlot = noParent then none
    else if g.damaged.contains r.parentSlot then some Status.engineFault
    else match recordAt g r.parentSlot with
      | some p => if isKey p && p.generation == r.parentGen then chainFault g fuel p else some Status.keyRevoked
      | none => some Status.keyRevoked

/-- A Vitrine key as a cell holds it. -/
def vitrineKey (g : Gallery) (slot : Nat) (r : VRecord) : HeldKey :=
  { vitrine := true, slot := slot, useClass := r.useClass, usage := r.usage, mode := r.mode, alg := r.alg, exportable := r.exportable
    version := 256 * 48 + 48, keyType := r.keyType, finite := r.finite, dukpt := r.dukpt, material := r.material
    digest := recordDigest g.desc.id slot r.generation, generation := r.generation, depth := r.depth, counter := r.counter
    opts := if r.keyId = [] then [] else [{ id := if r.alg = 84 then chars 'K' 'S' else chars 'I' 'K', data := r.keyId }]
    entry := 0 }

/-- The use class of a carried key by usage and mode: 0 stands for the pairs that B and C satisfy, which `classSuits` reads (R115). -/
def carriedClass (usage mode : Nat) : Nat :=
  if usage = chars 'P' '0' ∨ usage = chars 'V' '1' ∨ usage = chars 'V' '2' then 7
  else if usage = chars 'K' '0' ∨ usage = chars 'K' '1' then 3
  else if mode = 88 then 4
  else if mode = 69 then 1
  else if mode = 68 then 2
  else if mode = 71 then 5
  else if mode = 86 then 6
  else 0

/-- A key satisfies a use class: its own class, MAC_GEN for verification, and for a carried key modes B and C (R115). -/
def classSuits (k : HeldKey) (c : Nat) : Bool :=
  k.useClass == c || (c == 6 && k.useClass == 5) ||
  (!k.vitrine && k.useClass == 0 && ((k.mode == 66 && (c == 1 || c == 2)) || (k.mode == 67 && (c == 5 || c == 6))))

/-- A carried key as a cell holds it. -/
def carriedKey (w : VRecord) (slot : Nat) (h : BlockHeader) (kb block : Bytes) : HeldKey :=
  { vitrine := false, slot := slot, useClass := carriedClass h.usage h.mode, usage := h.usage, mode := h.mode, alg := h.alg
    exportable := h.exportable, version := h.version, keyType := 0, finite := false, dukpt := false, material := kb
    digest := sha256 (leBytes 4 slot ++ leBytes 4 w.generation ++ block), generation := w.generation, depth := w.depth + 1, counter := 0
    opts := h.opts, entry := 0 }

/-! Handles (R86, R93 step 10). -/

/-- The outcome of the key checks of R93 step 10 for one handle. -/
inductive KeyLook where
  | key (k : HeldKey)
  | none_
  | bad (status : Nat)
  deriving DecidableEq, Repr

/-- A Vitrine handle's checks in the order of R93: KEY_NOT_FOUND, KEY_REVOKED, KEY_USAGE, KEY_USE_LIMIT; a damaged record is ENGINE_FAULT (R176, R196, R329). -/
def lookVitrine (g : Gallery) (r : KeyReq) (slot : Nat) : KeyLook :=
  if g.damaged.contains slot then .bad Status.engineFault
  else match recordAt g slot with
    | none => .bad Status.keyNotFound
    | some x =>
      if x.kind = 4 then .bad Status.keyRevoked
      else if !isKey x then .bad Status.keyNotFound
      else match chainFault g 8 x with
        | some st => .bad st
        | none =>
          let k := vitrineKey g slot x
          if !r.suits k then .bad Status.keyUsage
          else if x.finite && x.budget == 0 then .bad Status.keyUseLimit
          else .key k

/-- The block that a carried handle names, by its own header; `none` when it runs past LENGTH (R86). -/
def carriedBlock (frame : Bytes) (h : Nat) : Option Bytes :=
  let whole := frame.take (32 + hdrLength frame)
  let b := whole.drop (8 * handleOffset h)
  match blockLength b with
  | some n => if n ≤ b.length then some (b.take n) else none
  | none => none

/-- A carried handle's checks in the order of R93: the wrapping key found, the block sound, the wrapping key live, then the usages (R86, R136, R170). -/
def lookCarried (g : Gallery) (r : KeyReq) (frame : Bytes) (h : Nat) : KeyLook :=
  let slot := handleSlot h
  if g.damaged.contains slot then .bad Status.engineFault
  else match recordAt g slot with
    | none => .bad Status.keyNotFound
    | some w =>
      if w.kind = 5 ∨ w.kind = 6 then .bad Status.keyNotFound
      else match carriedBlock frame h with
        | none => .bad Status.keyBlockInvalid
        | some b =>
          if w.kind = 4 then (if (blockHeader b).isNone then .bad Status.keyBlockInvalid else .bad Status.keyRevoked)
          else
            let wraps := w.useClass == 3 && !w.finite
            let opened := if wraps then openBlock w.alg w.material b else none
            if (blockHeader b).isNone || (wraps && opened.isNone) then .bad Status.keyBlockInvalid
            else match chainFault g 8 w, opened with
              | some st, _ => .bad st
              | none, none => .bad Status.keyUsage
              | none, some (hd, kb) =>
                let k := carriedKey w slot hd kb b
                if r.suits k then .key k else .bad Status.keyUsage

/-- Resolves a handle for a command of a gallery; a key that the gallery row does not let its cells use is ACCESS_DENIED (R41, R44, R86, log 22). -/
def resolveKey (g : Gallery) (rights : List Nat) (frame : Bytes) (r : KeyReq) (h : Nat) : KeyLook :=
  if handleKind h = 0 then .none_
  else if !(hasRight rights 0 rightUSE && hasRight rights 1 rightUSE) then .bad Status.accessDenied
  else if handleKind h = 1 then lookVitrine g r (handleSlot h)
  else lookCarried g r frame h

/-- A handle names a Vitrine key with a finite budget, which makes the command atomic and originating (R96). -/
def finiteKey (s : State) (g : Nat) (frame : Bytes) : Bool :=
  match gal s g with
  | none => false
  | some x => (List.range (min 8 (hdrHandles frame))).any (fun i =>
      let h := handleAt frame i
      handleKind h == 1 && ((recordAt x (handleSlot h)).map (fun r => isKey r && r.finite)).getD false)

/-! The key cache. -/

/-- Bytes of the cache entry of a key. -/
def cacheCount (m : Nat) : Nat := max 1 (ceilDiv m 80)

/-- Entries the cache holds in all. -/
def cacheTotal (s : State) : Nat := (mvals s.vit.cache).foldl (fun a e => a + e.count) 0

/-- The least recently used entry, of gallery `g` or of any, that no cell holds. -/
def lruEntry (s : State) (g : Option Nat) : Option Nat :=
  ((s.vit.cache.filter (fun p => p.2.holders == [] && ((g.map (fun x => decide (p.2.gallery = x))).getD true))).foldl
    (fun best p => match best with
      | none => some (p.1, p.2.lastUse)
      | some b => if p.2.lastUse < b.2 then some (p.1, p.2.lastUse) else some b) none).map (·.1)

/-- Removes an entry. -/
def dropEntry (i : Nat) (s : State) : State := { s with vit := { s.vit with cache := mdel s.vit.cache i } }

/-- Evicts entries of a gallery until `n` more fit its share, least recently used first (R186, R45); fuel. -/
def evictShare (g share n : Nat) : Nat → State → State
  | 0, s => s
  | fuel + 1, s =>
    if cacheEntries s g + n ≤ share then s
    else match lruEntry s (some g) with
      | some i => evictShare g share n fuel (dropEntry i s)
      | none => s

/-- Evicts entries of any gallery until `n` more fit the cache (R186); fuel. -/
def evictAny (n : Nat) : Nat → State → State
  | 0, s => s
  | fuel + 1, s =>
    if cacheTotal s + n ≤ 131072 then s
    else match lruEntry s none with
      | some i => evictAny n fuel (dropEntry i s)
      | none => s

/-- The entry of a digest of a gallery. -/
def cacheFind (s : State) (g : Nat) (digest : Bytes) : Option (Nat × CacheEntry) :=
  s.vit.cache.find? (fun p => p.2.gallery == g && p.2.digest == digest && p.2.live)

/-- A command in wing `w` holds a key's cache entry from its take: a hit is stamped again, a miss makes room and inserts (R184, R186, Table 18-3). -/
def holdKey (w t g : Nat) (k : HeldKey) (s : State) : HeldKey × State :=
  let gen := ((gal s g).map (·.keyGen)).getD 0
  match cacheFind s g k.digest with
  | some (i, e) =>
    let s := { s with vit := { s.vit with cache := mset s.vit.cache i { e with
      stamp := gen, lastUse := s.now, holders := if e.holders.contains t then e.holders else e.holders ++ [t] } } }
    ({ k with entry := i }, countEvent w 11 1 (some g) s)
  | none =>
    let n := cacheCount k.material.length
    let share := ((gal s g).map (·.desc.cacheShare)).getD 0
    let s := evictAny n s.vit.cache.length (evictShare g share n s.vit.cache.length s)
    let i := lowestGap s.vit.cache 0
    let e : CacheEntry := {
      gallery := g, digest := k.digest, count := n, stamp := gen, lastUse := s.now, holders := [t], alg := k.alg
      slot := if k.vitrine then some k.slot else none, root := (k.slot, k.generation), material := k.material, live := true }
    let s := countEvent w 12 1 (some g) { s with vit := { s.vit with cache := mset s.vit.cache i e } }
    ({ k with entry := i }, if k.vitrine then countEvent w 13 (recordUnits { (default : VRecord) with material := k.material }) (some g) s else s)

/-- Evicts what a gallery holds beyond its share, as far as no cell holds it (R48). -/
def trimCache (g : Nat) (s : State) : State :=
  match gal s g with
  | some x => evictShare g x.desc.cacheShare 0 s.vit.cache.length s
  | none => s

/-- A command lets go of its cache entries; entries discarded meanwhile go with it, and a share cut takes effect (R30, R48, R186). -/
def dropHolds (t : Nat) (s : State) : State :=
  let held := s.vit.cache.filter (fun p => p.2.holders.contains t)
  if held = [] then s
  else
    let freed := s.vit.cache.map (fun (p : Nat × CacheEntry) => (p.1, { p.2 with holders := p.2.holders.filter (· != t) }))
    let cache := freed.filter (fun p => p.2.live || p.2.holders != [])
    let s := { s with vit := { s.vit with cache := cache } }
    (held.map (·.2.gallery)).eraseDups.foldl (fun s g => trimCache g s) s

/-- Discards the entries that `dead` names: at once, or when their holders let go (R30). -/
def discardWhere (dead : CacheEntry → Bool) (s : State) : State :=
  let marked := s.vit.cache.map (fun (p : Nat × CacheEntry) => if dead p.2 then (p.1, { p.2 with live := false }) else p)
  { s with vit := { s.vit with cache := marked.filter (fun p => p.2.live || p.2.holders != []) } }

/-- Discards what rests on a record's generation: its own entry, its derived initial keys, the carried keys under it (R132, R143, R196). -/
def discardRecord (g slot gen : Nat) (s : State) : State :=
  discardWhere (fun e => decide (e.gallery = g) && e.root == (slot, gen)) s

/-- The walk of R196 has found a handle's chain broken: the entry of its key is discarded, for a Vitrine key with those that rest on the same record. -/
def discardBroken (g : Nat) (frame : Bytes) (h : Nat) (s : State) : State :=
  match (gal s g).bind (fun x => recordAt x (handleSlot h)) with
  | none => s
  | some r =>
    if handleKind h = 1 then discardRecord g (handleSlot h) r.generation s
    else match carriedBlock frame h with
      | some b => discardWhere (fun e => decide (e.gallery = g) && e.digest == sha256 (leBytes 4 (handleSlot h) ++ leBytes 4 r.generation ++ b)) s
      | none => s

/-- Discards every entry of a gallery (R39). -/
def discardGallery (g : Nat) (s : State) : State := discardWhere (fun e => decide (e.gallery = g)) s

/-! Vitrine writes. -/

/-- Bytes 0 to 103 of a record (Table 7-1). -/
def recordHead (r : VRecord) : Bytes :=
  leBytes 1 r.kind ++ leBytes 1 r.useClass ++ beBytes 2 r.usage ++ leBytes 1 r.mode ++ leBytes 1 r.alg ++ leBytes 1 r.exportable ++
  leBytes 1 (b2n r.dukpt + 2 * b2n r.finite) ++ leBytes 4 r.keyType ++ leBytes 4 r.generation ++ leBytes 4 r.gallery ++ leBytes 4 r.slot ++
  leBytes 8 r.accession ++ leBytes 8 r.budget ++ leBytes 8 r.uses ++ slice r.parentDigest 0 32 ++ leBytes 4 r.parentGen ++
  leBytes 4 r.parentSlot ++ slice r.kcv 0 8 ++ leBytes 4 r.counter ++ leBytes 2 r.material.length ++ leBytes 1 r.depth ++
  leBytes 1 (recordUnits r - 1)

/-- The material of a record as it is stored: padded to the records it occupies and wrapped under the gallery's record key (R171, log 168). -/
def wrappedMaterial (g : Gallery) (r : VRecord) : Bytes :=
  kwpWrap (recordKey g.rootKey g.desc.id) (slice r.material 0 (152 + 240 * (recordUnits r - 1)))

/-- The 256 bytes of physical record `u` of a record, before the storage key: head and material, or a continuation (Table 7-1, R172, log 168). -/
def physicalRecord (g : Gallery) (slot : Nat) (r : VRecord) (u : Nat) : Bytes :=
  if u = 0 then recordHead r ++ slice (wrappedMaterial g r) 0 152
  else (List.range 16).map (Config.continuationByte g.desc.id slot u) ++ slice (wrappedMaterial g r) (152 + 240 * (u - 1)) 240

/-- The lines that a record occupies: line number, ciphertext under the storage key, write count (R171, R182). -/
def recordLines (s : State) (g : Gallery) (p : Nat × VRecord) : List (Nat × Bytes × Nat) :=
  (List.range (recordUnits p.2)).flatMap (fun u => (List.range 4).map (fun i =>
    let n := 4 * (Config.recordPlace g.desc.id p.1 u).toNat + i
    (n, storedLine s n (slice (physicalRecord g p.1 p.2 u) (64 * i) 64), mgetD g.writes p.1 0)))

/-- The lines of the Vitrine region that hold records. -/
def vitrineLines (s : State) : List (Nat × Bytes × Nat) := s.vit.galleries.flatMap (fun g => g.2.records.flatMap (recordLines s g.2))

/-- One level of the MAC tree from the one below: each node the MAC of its eight children, a branch without records counting as zeros (R182, log 168). -/
def treeLevel (s : State) (level : Nat) (nodes : List (Nat × Bytes)) : List (Nat × Bytes) :=
  ((nodes.map (fun p => p.1 / 8)).eraseDups).map (fun n =>
    (n, treeNode s (Config.treeAddress level n).toNat 0 ((List.range 8).map (fun i => (mget nodes (8 * n + i)).getD (zeros 8)))))

/-- The MAC root over the lines of the region; `altered` gives lines that hold something else than the module wrote (R182). -/
def treeRoot (s : State) (altered : List (Nat × Bytes)) : Bytes :=
  let leaves := (vitrineLines s).map (fun l => (l.1, lineMac s l.1 l.2.2 ((mget altered l.1).getD l.2.1)))
  let top := (List.range 9).foldl (fun nodes level => treeLevel s level nodes) leaves
  (top.head?.map (·.2)).getD (zeros 8)

/-- The MAC of the anchor record over its root and its counter (R182). -/
def anchorMacOf (s : State) : Bytes := (aesCmac (lineMacKey s) (s.vit.anchorRoot ++ leBytes 8 s.vit.anchorVersion)).take 8

/-- A Vitrine write advances the version counter in BBRAM and rewrites the anchor record: root, counter, MAC (R182). -/
def touchVitrine (s : State) : State :=
  let s := { s with bb := { s.bb with version := s.bb.version + 1 }, vit := { s.vit with anchorVersion := s.bb.version + 1, anchorRoot := treeRoot s [] } }
  { s with vit := { s.vit with anchorMac := anchorMacOf s } }

/-- Whether writing `r` into a slot stays within the gallery's Vitrine-slots quota: a write that adds no physical record always does (R45, R48, R174). -/
def slotQuotaOk (g : Gallery) (slot : Nat) (r : VRecord) : Bool :=
  let old := ((recordAt g slot).map recordUnits).getD 0
  decide (recordUnits r ≤ old) || decide (recordsHeld g + recordUnits r ≤ g.desc.slots + old)

/-- Notes a record written, for a resynchronisation: the delta it belongs to, and, until the partner has it, what the slot held (R302). -/
def noteWrite (g slot : Nat) (s : State) : State :=
  if !paired s then s
  else
    let own := s.pair.role == .sole || s.pair.role == .refusing || s.pair.role == .originator
    { s with pair := { s.pair with
      written := (s.pair.lastDelta + 1, g, slot) :: s.pair.written
      undo := if own then (s.pair.lastDelta + 1, g, slot, (gal s g).bind (fun x => recordAt x slot)) :: s.pair.undo else s.pair.undo } }

/-- Writes, replaces or frees a record; a mark of damage stands (R329). -/
def putRecordAt (g slot : Nat) (r : Option VRecord) (s : State) : State :=
  let s := noteWrite g slot s
  touchVitrine (updGal g (fun x => { x with
    records := match r with
      | some v => mset x.records slot v
      | none => mdel x.records slot
    writes := mset x.writes slot (mgetD x.writes slot 0 + 1) }) s)

/-- Writes what replaces a slot's contents whole, and so clears its mark of damage: DEACCESSION, an accession, the partner's record (R302, R329). -/
def replaceRecord (g slot : Nat) (r : Option VRecord) (s : State) : State :=
  updGal g (fun x => { x with damaged := x.damaged.filter (· != slot) }) (putRecordAt g slot r s)

/-! Fences. -/

/-- KEY_STATE, the cause bit of Table 3-12. -/
abbrev keyStateBit : Nat := 24

/-- Latches a cause bit on every window of this module that is bound to a gallery; no frame of Table 12-5 brings a fence or a quota change to a window of another module (R74, log 196). -/
def latchGallery (g b : Nat) (s : State) : State :=
  (s.fab.windows.filter (fun p => p.2.gallery == some g)).foldl (fun s p => latchCause p.1 b s) s

/-- The split points of a fence: for each flow of the gallery, the first number that no cell had taken (R99). -/
def splitPoints (s : State) (g : Nat) : List (StreamId × Nat) :=
  (galleryFlows s g).map (fun p =>
    let waiting := (s.doc.descs.filter (fun d => d.2.flow == p.1 && d.2.behind.isNone && d.2.keyGen.isNone && d.2.st == .queued)).map (·.2.seq)
    (p.2.sid, waiting.foldl min p.2.next))

/-- A key-state change takes effect: WIN_KEY_GEN increments and KEY_STATE latches on every window of the gallery (R98); its change for the delta. -/
def placeFence (g : Nat) (s : State) : Change × State :=
  let s := updGal g (fun x => { x with keyGen := (x.keyGen + 1) % 2 ^ 32 }) s
  let s := latchGallery g keyStateBit s
  (.fence g (((gal s g).map (·.keyGen)).getD 0) (splitPoints s g), s)

/-! Use budgets. -/

/-- The step of a finite budget: BUDGET decremented, USES incremented, in the record (R176, R214). `none` when BUDGET is 0; a key without a finite budget makes no step. -/
def stepBudget (g slot : Nat) (s : State) : Option (Option Change × State) :=
  match (gal s g).bind (fun x => recordAt x slot) with
  | some r =>
    if !r.finite then some (none, s)
    else if r.budget = 0 then none
    else
      let r' := { r with budget := r.budget - 1, uses := r.uses + 1 }
      some (some (.vrecord g slot (some r')), putRecordAt g slot (some r') s)
  | none => some (none, s)

/-! Sealed service and operations. -/

/-- What ends the sealed service of a stream, if anything does: its seal key revoked, exhausted or damaged (R73). -/
def sealEnds (s : State) (g : Nat) (handle : W64) (gen : Nat) : Option Nat :=
  match gal s g with
  | none => some Status.keyRevoked
  | some x =>
    let slot := handleSlot handle.toNat
    if x.damaged.contains slot then some Status.engineFault
    else match recordAt x slot with
      | some r =>
        if !isKey r || r.generation != gen then some Status.keyRevoked
        else match chainFault x 8 r with
          | some st => some st
          | none => if r.finite && r.budget == 0 then some Status.keyUseLimit else none
      | none => some Status.keyRevoked

/-- A function of "Operations that span frames" (R151). -/
def isSpanning (function : Nat) : Bool := function == 0x0805 || function == 0x0806 || function == 0x0905 || function == 0x0906

/-- The operation that a later frame of the functions of R151 names, by OP_ID. -/
def spanOpOf (f : Bytes) : Option Nat :=
  if isSpanning (hdrFunction f) && !bit (byteAt f 48) 0 then some (leAt f 40 4) else none

/-- A COMPONENT that was taken while its ceremony was open is in service, beside the command `but`. -/
def componentInService (s : State) (but : Option Nat) : Bool :=
  s.doc.descs.any (fun p => some p.1 != but && p.2.function == 0x0E21 && p.2.st == .inService && p.2.ceremony && p.2.resp.isNone)

/-- The components of a load in progress are destroyed and the counter does not move (R203). -/
def dropLoad (s : State) : State := { s with vit := { s.vit with custody := { s.vit.custody with components := [], loadCounter := 0, dying := false } } }

end Sys2Proof.Machine
end

