-- ==== Sys2Proof/Machine/Functions.lean ====
section
/-!
DEFINITION. The functions the module implements, by code: for each its flags, handle positions, reserved fields, LENGTH, class, engines and PK cost (spec 02, 05, 06, 07, 12, 14, 15, 18; R83 to R96, R112, R115, R145, R245).
-/

namespace Sys2Proof.Machine

/-! Layout. -/

/-- A reserved field is zero. -/
def zeroAt (f : Bytes) (a n : Nat) : Bool := allZero (slice f a n)

/-- LENGTH reaches frame byte `e - 1` (R112). -/
def covers (f : Bytes) (e : Nat) : Bool := decide (e ≤ 32 + hdrLength f)

/-- Rounded up to a word. -/
abbrev pad8 (n : Nat) : Nat := roundUp 8 n

/-- FN_FLAGS bit 0. -/
def fnBit0 (f : Bytes) : Bool := bit (hdrFnFlags f) 0

/-! Key positions of the payment functions (R115, Table 5-2). -/

/-- TDES key. -/
def isTdes (k : HeldKey) : Bool := k.alg == 84
/-- Two-key TDES. -/
def isTdes2 (k : HeldKey) : Bool := k.alg == 84 && k.material.length == 16
/-- AES key. -/
def isAes (k : HeldKey) : Bool := k.alg == 65
/-- HMAC key. -/
def isHmac (k : HeldKey) : Bool := k.alg == 72

/-- A payment position: usages, modes and classes it takes, and the algorithms. -/
def paySuits (usages modes classes : List Nat) (algs : HeldKey → Bool) (k : HeldKey) : Bool :=
  usages.contains k.usage && modes.contains k.mode && classes.any (classSuits k) && algs k

/-- P0, mode D or B: a PIN block is decrypted. -/
def pinIn : KeyReq := { suits := paySuits [chars 'P' '0'] [68, 66] [7] (fun k => isTdes k || isAes k) }
/-- P0, mode E or B: a PIN block is encrypted. -/
def pinOut : KeyReq := { suits := paySuits [chars 'P' '0'] [69, 66] [7] (fun k => isTdes k || isAes k) }
/-- V1. -/
def suitsV1 : HeldKey → Bool := paySuits [chars 'V' '1'] [67, 86] [7] isTdes
/-- V2. -/
def suitsV2 : HeldKey → Bool := paySuits [chars 'V' '2'] [67, 86] [7] isTdes2
/-- Modes of use that suit a MAC position: G and C generate, G, V and C verify (Table 6-1, log 166). -/
def macModes (c : Nat) : List Nat := if c = 5 then [71, 67] else [71, 86, 67]
/-- C0 of a class. -/
def cvvKey (c : Nat) : KeyReq := { suits := paySuits [chars 'C' '0'] (macModes c) [c] isTdes2 }
/-- A master or derivation key: mode X, class DERIVE. -/
def masterKey (u : Nat) (algs : HeldKey → Bool) : KeyReq := { suits := paySuits [u] [88] [4] algs }
/-- E0, E1, E2. -/
def emvKey (u : Nat) : KeyReq := masterKey u (fun k => isTdes2 k || isAes k)
/-- B0. -/
def bdkKey : KeyReq := masterKey (chars 'B' '0') (fun k => isTdes k || isAes k)
/-- B1, Vitrine. -/
def initialKey : KeyReq := { masterKey (chars 'B' '1') (fun k => isTdes2 k || isAes k) with carried := false }
/-- M1, M3 or M6 of a class. -/
def macKey (c : Nat) : KeyReq :=
  { suits := fun k => paySuits [chars 'M' '1', chars 'M' '3', chars 'M' '6'] (macModes c) [c] (fun k => isTdes k || isAes k) k &&
      (k.usage != chars 'M' '1' || isTdes k) && (k.usage != chars 'M' '3' || isTdes2 k) }
/-- D0 of a class: mode E or B encrypts, D or B decrypts (Table 6-1, log 166). -/
def dataKey (c : Nat) (algs : HeldKey → Bool) : KeyReq := { suits := paySuits [chars 'D' '0'] [if c = 1 then 69 else 68, 66] [c] algs }
/-- K0 or K1, a Vitrine key of class WRAP, whose mode suits: E or B to wrap, D or B to unwrap (log 166). -/
def wrapKey (wraps : Bool) : KeyReq :=
  { carried := false, suits := paySuits [chars 'K' '0', chars 'K' '1'] [if wraps then 69 else 68, 66] [3] (fun k => isTdes k || isAes k) }

/-! Key positions of the general functions (R145, Table 6-1). -/

/-- Encrypt or decrypt: class ENCRYPT or DECRYPT of a Vitrine key, or a carried D0. -/
def cipherKey (c : Nat) (algs : HeldKey → Bool) : KeyReq :=
  { suits := fun k => classSuits k c && algs k && (k.vitrine || k.usage == chars 'D' '0') }
/-- HMAC of a class: an 'H' key of 16 to 128 bytes, or a carried M7. -/
def hmacKey (c : Nat) : KeyReq :=
  { suits := fun k => classSuits k c && isHmac k && (k.vitrine || k.usage == chars 'M' '7') && decide (16 ≤ k.material.length) && decide (k.material.length ≤ 128) }
/-- KDF input. -/
def kdfKey : KeyReq := { carried := false, suits := fun k => k.useClass == 4 && (isTdes k || isAes k || isHmac k) }
/-- Output wrapping. -/
def outKey : KeyReq := { carried := false, suits := fun k => k.useClass == 3 && (isTdes k || isAes k) }
/-- A key pair or public key of a class and of certain types. -/
def pkKey (c : Nat) (opt : Bool) (types : List Nat) : KeyReq :=
  { carried := false, optional := opt, suits := fun k => k.useClass == c && k.alg == 80 && types.contains (k.keyType % 256) }

/-- Key types of ECDSA and ECDH. -/
abbrev ecTypes : List Nat := [0x01, 0x02, 0x03, 0xFF]
/-- Key types of EdDSA. -/
abbrev edTypes : List Nat := [0x04, 0x05]
/-- Key types of RSA. -/
abbrev rsaTypes : List Nat := [0x10, 0x11, 0x12]
/-- Key types of ML-DSA. -/
abbrev dsaTypes : List Nat := [0x20, 0x21, 0x22]
/-- Key types of ML-KEM. -/
abbrev kemTypes : List Nat := [0x30, 0x31, 0x32]

/-! Public-key types and PK cost (R158, R245). -/

/-- Columns of Table 9-10. -/
inductive PkCol where
  | sign
  | verify
  | keygen
  | agree
  | ephemeral
  deriving DecidableEq, Repr

/-- A row of Table 9-10 at a column. -/
def pkRow (c : PkCol) (a b g e x : Nat) : Nat :=
  match c with
  | .sign => a
  | .verify => b
  | .keygen => g
  | .agree => e
  | .ephemeral => x

/-- FIELD_BITS of a curve record (R159): the domain's parameters are held beside its values. -/
def curveBits (r : VRecord) : Nat := leAt r.keyId 0 2

/-- FIELD_BITS of the curve that a KEY_TYPE names in a gallery. -/
def curveBitsOf (s : State) (g kt : Nat) : Nat := (((gal s g).bind (fun x => recordAt x (kt / 256))).map curveBits).getD 0

/-- PK cost of an operation on a key type (Table 9-10); 0 where the table gives none. -/
def pkTable (s : State) (g kt : Nat) (c : PkCol) : Nat :=
  match kt % 256 with
  | 0x01 => pkRow c 10 23 10 12 22
  | 0x02 => pkRow c 27 58 27 32 59
  | 0x03 => pkRow c 62 130 62 74 136
  | 0x04 => pkRow c 8 18 8 0 0
  | 0x05 => pkRow c 22 48 22 0 0
  | 0x10 => pkRow c 54 4 60000 54 0
  | 0x11 => pkRow c 119 8 200000 119 0
  | 0x12 => pkRow c 229 14 480000 229 0
  | 0x20 => pkRow c 26 9 8 0 0
  | 0x21 => pkRow c 40 14 12 0 0
  | 0x22 => pkRow c 50 23 18 0 0
  | 0x30 => pkRow c 0 0 3 4 5
  | 0x31 => pkRow c 0 0 5 6 7
  | 0x32 => pkRow c 0 0 7 9 10
  | 0xFF =>
    let b := curveBitsOf s g kt
    if b ≤ 256 then pkRow c 20 46 20 24 44 else if b ≤ 521 then pkRow c 110 240 110 130 240 else pkRow c 650 1400 650 760 1410
  | _ => 0

/-- KEY_TYPE of the record that handle `i` names, if it names a Vitrine key. -/
def handleType (s : State) (g : Nat) (f : Bytes) (i : Nat) : Option Nat :=
  let h := handleAt f i
  if handleKind h = 1 then ((gal s g).bind (fun x => recordAt x (handleSlot h))).map (·.keyType) else none

/-- Cost of an operation on the key that handle `i` names, or on the inline type at offset `a`. -/
def costOf (c : PkCol) (i a : Nat) (s : State) (g : Nat) (f : Bytes) : Nat :=
  pkTable s g ((handleType s g f i).getD (if a = 0 then 0 else leAt f a 4)) c

/-- Cost of CURVE_LOAD (Table 9-10). -/
def curveLoadCost (f : Bytes) : Nat :=
  let b := leAt f 36 2
  if b ≤ 256 then 6000 else if b ≤ 521 then 25000 else 150000

/-- Cost of a signature verification by SIG_ALG: ECDSA P-384 or ML-DSA-65. -/
def sigAlgCost (a : Nat) : Nat := if a = 1 then 58 else if a = 2 then 14 else 0

/-- SIG_ALG of each custodian entry of a signature block (R188), on fuel. -/
def custodianAlgs : Nat → Bytes → List Nat
  | 0, _ => []
  | fuel + 1, b => if b.length < 8 then [] else byteAt b 1 :: custodianAlgs fuel (b.drop (8 + roundUp 8 (leAt b 2 2)))

/-- Cost of an accession: the signature verifications, and the PK operation of its kind (R245). -/
def accessionCost (s : State) (g : Nat) (f : Bytes) : Nat :=
  let m := f.drop 40
  let sigs := if byteAt m 3 = 3 then ((custodianAlgs 16 ((m.drop (168 + pad8 (leAt m 160 4))).take (leAt m 12 4))).map sigAlgCost).sum
    else sigAlgCost (byteAt m 164)
  let agreed := if byteAt m 168 = 1 then 32 else if byteAt m 168 = 2 then 6 else 0
  sigs + (if byteAt m 2 = 2 ∨ byteAt m 2 = 8 then agreed
    else if byteAt m 2 = 4 ∧ byteAt m 140 = 80 then pkTable s g (leAt m 144 4) .keygen else 0)

/-- Cost of RKL_EXPORT: the device signature, the device key's own operation, the host signature (R139, R245). -/
def rklCost (s : State) (g : Nat) (f : Bytes) : Nat :=
  let dev := match byteAt f 72 with
    | 1 => pkTable s g 0x10 .verify
    | 2 => pkTable s g 0x11 .verify
    | 3 => pkTable s g 0x01 .ephemeral
    | 4 => pkTable s g 0x02 .ephemeral
    | _ => 0
  costOf .verify 1 0 s g f + dev + 27

/-! The payment functions (spec 05). -/

/-- Formats whose fill is random. -/
def fillEngines (dst : Nat) : List Nat := if dst = 0 then [2] else [2, 3]

/-- The PIN functions and the card verification values; PIN_VERIFY without TRY has zeros in its try-counter fields (log 178). -/
def pinSpec (code : Nat) : Option FnSpec :=
  match code with
  | 0x0101 => some {
      flagMask := 1, keys := fun _ => [pinIn, pinOut], reservedOk := fun f => zeroAt f 52 4, lengthOk := fun f => covers f 128
      engines := fun f => fillEngines (byteAt f 49) }
  | 0x0102 => some {
      keys := fun f => [pinIn, { suits := if byteAt f 48 = 2 then suitsV2 else suitsV1 }]
      reservedOk := fun f => zeroAt f 52 4 && (byteAt f 48 != 2 || zeroAt f 88 24)
      lengthOk := fun f => covers f 112, engines := fun _ => [2] }
  | 0x0103 => some {
      flagMask := 1, keys := fun f => [pinIn, { suits := if byteAt f 48 = 2 then suitsV2 else suitsV1 }]
      reservedOk := fun f => zeroAt f 52 4 && byteAt f 131 == 0 && zeroAt f 133 3 && (byteAt f 48 != 2 || zeroAt f 88 24) && (fnBit0 f || zeroAt f 128 5)
      lengthOk := fun f => covers f 136
      atomic := fnBit0, originating := fnBit0, engines := fun _ => [2], noDualAct := fnBit0 }
  | 0x0104 => some {
      flagMask := 1
      keys := fun f => [pinOut, { optional := byteAt f 48 == 0, suits := if byteAt f 48 = 2 then suitsV2 else suitsV1 }]
      reservedOk := fun f => zeroAt f 53 3, lengthOk := fun f => covers f 96
      originating := fun _ => true, random := fun _ => true, engines := fun _ => [2] }
  | 0x0105 => some {
      reservedOk := fun f => byteAt f 35 == 0, lengthOk := fun f => covers f 72
      atomic := fun _ => true, originating := fun _ => true, noDualAct := fun _ => true }
  | 0x0201 => some {
      keys := fun _ => [cvvKey 5], reservedOk := fun f => zeroAt f 41 7 && byteAt f 71 == 0, lengthOk := fun f => covers f 72, engines := fun _ => [2] }
  | 0x0202 => some {
      keys := fun _ => [cvvKey 6], reservedOk := fun f => zeroAt f 41 7 && byteAt f 71 == 0, lengthOk := fun f => covers f 80, engines := fun _ => [2] }
  | _ => none

/-- The EMV and DUKPT functions. -/
def emvSpec (code : Nat) : Option FnSpec :=
  match code with
  | 0x0301 => some {
      flagMask := 1, keys := fun _ => [emvKey (chars 'E' '0')], reservedOk := fun f => zeroAt f 74 2 && zeroAt f 81 7
      lengthOk := fun f => covers f (96 + leAt f 46 2), engines := fun _ => [2] }
  | 0x0302 => some {
      keys := fun _ => [emvKey (chars 'E' '2')], reservedOk := fun f => zeroAt f 43 1 && zeroAt f 46 2
      lengthOk := fun f => covers f (72 + leAt f 44 2), engines := fun _ => [2] }
  | 0x0303 => some {
      flagMask := 1
      keys := fun f => [emvKey (chars 'E' '1'), { pinIn with optional := byteAt f 56 == 0 }, { emvKey (chars 'E' '0') with optional := !fnBit0 f }]
      reservedOk := fun f => zeroAt f 59 1 && zeroAt f 62 2, lengthOk := fun f => covers f (104 + leAt f 60 2), engines := fun _ => [2] }
  | 0x0401 => some {
      keys := fun _ => [bdkKey, pinOut], reservedOk := fun f => zeroAt f 53 3, lengthOk := fun f => covers f 120
      engines := fun f => fillEngines (byteAt f 49) }
  | 0x0402 => some {
      flagMask := 1, keys := fun _ => [bdkKey], reservedOk := fun f => zeroAt f 50 2, lengthOk := fun f => covers f (88 + leAt f 52 4), engines := fun _ => [2] }
  | 0x0403 => some {
      flagMask := 1, keys := fun _ => [bdkKey], lengthOk := fun f => covers f (88 + leAt f 52 4), engines := fun _ => [2] }
  | 0x0404 => some {
      keys := fun _ => [bdkKey, { wrapKey true with suits := fun k => (wrapKey true).suits k && k.usage == chars 'K' '1' }]
      reservedOk := fun f => zeroAt f 66 6, lengthOk := fun f => covers f 72
      originating := fun _ => true, random := fun _ => true, engines := fun _ => [2] }
  | 0x0405 => some {
      keys := fun _ => [initialKey], reservedOk := fun f => zeroAt f 40 8, lengthOk := fun f => covers f (72 + leAt f 52 4)
      atomic := fun _ => true, originating := fun _ => true, engines := fun _ => [2], noDualAct := fun _ => true }
  | _ => none

/-- The MAC, key block, remote loading and data functions. -/
def dataSpec (code : Nat) : Option FnSpec :=
  match code with
  | 0x0501 => some {
      keys := fun _ => [macKey 5], reservedOk := fun f => zeroAt f 43 1 && zeroAt f 48 16, lengthOk := fun f => covers f (64 + leAt f 44 4), engines := fun _ => [2] }
  | 0x0502 => some {
      keys := fun _ => [macKey 6], reservedOk := fun f => zeroAt f 43 1, lengthOk := fun f => covers f (64 + leAt f 44 4), engines := fun _ => [2] }
  | 0x0601 => some {
      keys := fun _ => [wrapKey false, wrapKey true], reservedOk := fun f => zeroAt f 52 4, lengthOk := fun f => covers f (56 + leAt f 48 4), engines := fun _ => [2, 3] }
  | 0x0602 => some {
      keys := fun _ => [{ vitrine := false, suits := fun _ => true }, wrapKey true], originating := fun _ => true, random := fun _ => true, engines := fun _ => [2] }
  | 0x0603 => some {
      keys := fun _ => [bdkKey, pkKey 9 false [0x01, 0x02, 0x03, 0x10, 0x11, 0x12, 0xFF], pkKey 8 false [0x02]]
      reservedOk := fun f => zeroAt f 78 2, lengthOk := fun f => covers f (80 + pad8 (leAt f 74 2) + leAt f 76 2)
      originating := fun _ => true, random := fun _ => true, engines := fun _ => [3, 4, 2], pkCost := rklCost }
  | 0x0701 => some {
      flagMask := 1, keys := fun _ => [dataKey 1 (fun k => isTdes k || isAes k)], reservedOk := fun f => zeroAt f 42 2
      lengthOk := fun f => covers f (64 + leAt f 44 4), originating := fnBit0, random := fnBit0, engines := fun _ => [2] }
  | 0x0702 => some {
      keys := fun _ => [dataKey 2 (fun k => isTdes k || isAes k)], reservedOk := fun f => zeroAt f 42 2
      lengthOk := fun f => covers f (64 + leAt f 44 4), engines := fun _ => [2] }
  | 0x0703 => some {
      flagMask := 1, keys := fun _ => [dataKey 1 isAes], lengthOk := fun f => covers f (112 + leAt f 42 2), engines := fun _ => [2] }
  | 0x0704 => some {
      flagMask := 1, keys := fun _ => [dataKey 2 isAes], lengthOk := fun f => covers f (112 + leAt f 42 2), engines := fun _ => [2] }
  | _ => none

/-! The general functions (spec 06). -/

/-- The frame of an operation that spans frames carries FIRST. -/
def isFirst (f : Bytes) : Bool := bit (byteAt f 48) 0
/-- It carries LAST. -/
def isLast (f : Bytes) : Bool := bit (byteAt f 48) 1

/-- Fields that Table 6-5 marks 0 for the frame in hand (R151). `gcm`: a GCM function; `check`: the frame may carry CHECK; `mac`: MAC_LEN is used. -/
def spanZeros (gcm check mac : Bool) (f : Bytes) : Bool :=
  byteAt f 48 < 4 && zeroAt f 49 3 && zeroAt f 60 4 && (mac || byteAt f 57 == 0) &&
  ((gcm && isFirst f) || (zeroAt f 58 2 && zeroAt f 64 16)) && (check || zeroAt f 80 64) && (!isFirst f || zeroAt f 44 4)

/-- LENGTH and DATA_LEN of such a frame: without LAST, a non-zero multiple of 128 (R151). -/
def spanLength (f : Bytes) : Bool :=
  covers f (144 + pad8 (leAt f 58 2) + leAt f 52 4) && (isLast f || (leAt f 52 4 != 0 && leAt f 52 4 % 128 == 0))

/-- The one handle of such a frame: the key on the FIRST frame, KIND 0b00 on every other (R151). -/
def spanKeys (k : KeyReq) (f : Bytes) : List KeyReq :=
  if isFirst f then [k] else [{ vitrine := false, carried := false, optional := true, suits := fun _ => true }]

/-- Block ciphers, AEAD, operations that span frames, hashing and KDF. -/
def cipherSpec (code : Nat) : Option FnSpec :=
  let any := fun k => isTdes k || isAes k
  let noKey : KeyReq := { vitrine := false, carried := false, optional := true, suits := fun _ => true }
  match code with
  | 0x0801 => some {
      keys := fun _ => [cipherKey 1 any], reservedOk := fun f => zeroAt f 41 3, lengthOk := fun f => covers f (64 + leAt f 44 4), engines := fun _ => [2] }
  | 0x0802 => some {
      keys := fun _ => [cipherKey 2 any], reservedOk := fun f => zeroAt f 41 3, lengthOk := fun f => covers f (64 + leAt f 44 4), engines := fun _ => [2] }
  | 0x0803 => some {
      flagMask := 1, keys := fun _ => [cipherKey 1 isAes], reservedOk := fun f => zeroAt f 41 1 && zeroAt f 64 16
      lengthOk := fun f => covers f (80 + pad8 (leAt f 42 2) + leAt f 44 4), originating := fnBit0, engines := fun _ => [2] }
  | 0x0804 => some {
      keys := fun _ => [cipherKey 2 isAes], reservedOk := fun f => zeroAt f 41 1
      lengthOk := fun f => covers f (80 + pad8 (leAt f 42 2) + leAt f 44 4), engines := fun _ => [2] }
  | 0x0805 => some {
      flagMask := 1, keys := spanKeys (cipherKey 1 isAes), reservedOk := fun f => spanZeros true false false f && (isFirst f || hdrFnFlags f == 0)
      lengthOk := spanLength, atomic := fun _ => true, originating := fun _ => true, engines := fun _ => [2], noDualAct := fun _ => true }
  | 0x0806 => some {
      keys := spanKeys (cipherKey 2 isAes), reservedOk := fun f => spanZeros true (isLast f) false f, lengthOk := spanLength
      atomic := fun _ => true, originating := fun _ => true, random := isFirst, engines := fun _ => [2], noDualAct := fun _ => true }
  | 0x0901 => some {
      reservedOk := fun f => zeroAt f 33 3, lengthOk := fun f => covers f (40 + leAt f 36 4), engines := fun _ => [3] }
  | 0x0902 => some {
      keys := fun _ => [hmacKey 5], reservedOk := fun f => zeroAt f 42 2 && zeroAt f 48 64, lengthOk := fun f => covers f (112 + leAt f 44 4), engines := fun _ => [3] }
  | 0x0903 => some {
      keys := fun _ => [hmacKey 6], reservedOk := fun f => zeroAt f 42 2, lengthOk := fun f => covers f (112 + leAt f 44 4), engines := fun _ => [3] }
  | 0x0904 => some {
      keys := fun _ => [kdfKey, outKey], reservedOk := fun f => zeroAt f 64 8
      lengthOk := fun f => covers f (72 + pad8 (leAt f 50 2) + pad8 (leAt f 52 2) + leAt f 54 2)
      engines := fun f => if byteAt f 48 = 2 then [2, 3] else [3, 2] }
  | 0x0905 => some {
      keys := fun _ => [noKey], reservedOk := spanZeros false false false, lengthOk := spanLength
      atomic := fun _ => true, originating := fun _ => true, engines := fun _ => [3], noDualAct := fun _ => true }
  | 0x0906 => some {
      flagMask := 1, keys := fun f => spanKeys (hmacKey (if fnBit0 f then 6 else 5)) f
      reservedOk := fun f => spanZeros false (isLast f && fnBit0 f) true f, lengthOk := spanLength
      atomic := fun _ => true, originating := fun _ => true, engines := fun _ => [3], noDualAct := fun _ => true }
  | _ => none

/-- Engines of a signature over a message or a digest: the hash unit only for a message or where the scheme hashes. -/
def sigEngines (modeAt : Nat) (hashes : Bytes → Bool) (f : Bytes) : List Nat := if byteAt f modeAt = 0 || hashes f then [3, 4] else [4]

/-- A signing function (Table 6-9). -/
def signSpec (mask : Nat) (types : List Nat) (rnd hashes : Bytes → Bool) : FnSpec :=
  { flagMask := mask, keys := fun _ => [pkKey 8 false types], reservedOk := fun f => zeroAt f 46 2 && zeroAt f 52 4
    lengthOk := fun f => covers f (56 + pad8 (leAt f 44 2) + leAt f 48 4), originating := rnd, random := rnd
    engines := sigEngines 41 hashes, pkCost := costOf .sign 0 0 }

/-- A verification function (Table 6-10). -/
def verifySpec (types : List Nat) (hashes : Bytes → Bool) : FnSpec :=
  { keys := fun _ => [pkKey 9 true types], reservedOk := fun f => zeroAt f 54 2 && zeroAt f 60 4
    lengthOk := fun f => covers f (64 + pad8 (leAt f 48 2) + pad8 (leAt f 50 2) + pad8 (leAt f 52 2) + leAt f 56 4)
    engines := sigEngines 45 hashes, pkCost := costOf .verify 0 40 }

/-- Signatures, key establishment, curves and random numbers. -/
def pkSpec (code : Nat) : Option FnSpec :=
  let yes := fun (_ : Bytes) => true
  match code with
  | 0x0A01 => some (signSpec 1 ecTypes (fun f => !fnBit0 f) fnBit0)
  | 0x0A02 => some (verifySpec ecTypes (fun _ => false))
  | 0x0A03 => some (signSpec 0 edTypes (fun _ => false) yes)
  | 0x0A04 => some (verifySpec edTypes yes)
  | 0x0A05 => some (signSpec 0 rsaTypes (fun f => byteAt f 42 == 2 && byteAt f 43 != 0) (fun f => byteAt f 42 == 2))
  | 0x0A06 => some (verifySpec rsaTypes (fun f => byteAt f 46 == 2))
  | 0x0A07 => some (signSpec 1 dsaTypes (fun f => !fnBit0 f) yes)
  | 0x0A08 => some (verifySpec dsaTypes yes)
  | 0x0B01 => some {
      keys := fun _ => [pkKey 10 false ecTypes, outKey], reservedOk := fun f => zeroAt f 49 1 && zeroAt f 54 2 && zeroAt f 64 8
      lengthOk := fun f => covers f (72 + pad8 (leAt f 50 2) + leAt f 52 2), engines := fun _ => [4, 3, 2], pkCost := costOf .agree 0 0 }
  | 0x0B02 => some {
      keys := fun _ => [outKey], reservedOk := fun f => zeroAt f 45 1 && zeroAt f 50 6 && zeroAt f 64 8
      lengthOk := fun f => covers f (72 + pad8 (leAt f 46 2) + leAt f 48 2), originating := yes, random := yes
      engines := fun _ => [4, 3, 2], pkCost := fun s g f => pkTable s g (leAt f 40 4) .ephemeral }
  | 0x0B03 => some {
      keys := fun _ => [outKey], reservedOk := fun f => zeroAt f 45 1 && zeroAt f 50 6 && zeroAt f 64 8
      lengthOk := fun f => covers f (72 + pad8 (leAt f 46 2) + leAt f 48 2), originating := yes, random := yes
      engines := fun _ => [4, 3, 2], pkCost := fun s g f => pkTable s g (leAt f 40 4) .ephemeral }
  | 0x0B04 => some {
      keys := fun _ => [pkKey 10 false kemTypes, outKey], reservedOk := fun f => zeroAt f 49 1 && zeroAt f 54 2 && zeroAt f 64 8
      lengthOk := fun f => covers f (72 + pad8 (leAt f 50 2) + leAt f 52 2), engines := fun _ => [4, 3, 2], pkCost := costOf .agree 0 0 }
  | 0x0B05 => some {
      keys := fun _ => [pkKey 10 false rsaTypes, outKey], reservedOk := fun f => zeroAt f 49 1 && zeroAt f 54 2 && zeroAt f 64 8
      lengthOk := fun f => covers f (72 + pad8 (leAt f 50 2) + leAt f 52 2), engines := fun _ => [4, 3, 2], pkCost := costOf .agree 0 0 }
  | 0x0B10 => some {
      reservedOk := fun f => byteAt f 35 == 0 && zeroAt f 40 8, lengthOk := fun f => covers f (48 + 5 * pad8 (ceilDiv (leAt f 36 2 + 1) 8) + ceilDiv (leAt f 36 2 + 1) 8)
      atomic := yes, originating := yes, random := yes, engines := fun _ => [4], pkCost := fun _ _ f => curveLoadCost f }
  | 0x0B11 => some { reservedOk := fun f => byteAt f 35 == 0, lengthOk := fun f => covers f 36, engines := fun _ => [3] }
  | 0x0C01 => some { reservedOk := fun f => zeroAt f 36 4, lengthOk := fun f => covers f 40, originating := yes, random := yes }
  | _ => none

/-! Key functions (spec 07), the house's functions (spec 02, 12, 14, 15) and COUNTERS_READ (R428). -/

/-- The key functions. -/
def keySpec (code : Nat) : Option FnSpec :=
  let yes := fun (_ : Bytes) => true
  match code with
  | 0x0D01 => some {
      reservedOk := fun f => zeroAt f 36 4, lengthOk := fun f => covers f (40 + leAt f 32 4), atomic := yes, originating := yes
      random := fun f => byteAt f 42 == 4, engines := fun _ => [3, 4], pkCost := accessionCost, noDualAct := yes }
  | 0x0D02 => some {
      reservedOk := fun f => byteAt f 35 == 0 && zeroAt f 36 4, lengthOk := fun f => covers f 40, atomic := yes, originating := yes, noDualAct := yes }
  | 0x0D03 => some { reservedOk := fun f => byteAt f 35 == 0 && zeroAt f 36 4, lengthOk := fun f => covers f 40, noDualAct := yes }
  | 0x0D04 => some { originating := yes, engines := fun _ => [4, 3], pkCost := fun _ _ _ => 27, noDualAct := yes }
  | 0x0E21 => some {
      reservedOk := fun f => zeroAt f 36 4, lengthOk := fun f => covers f (40 + leAt f 32 4), atomic := yes, originating := yes
      engines := fun _ => [3, 4], pkCost := accessionCost, noDualAct := yes }
  | _ => none

/-- A function of the house: atomic and originating. `n` is the end of its fields. -/
def houseSpec (n : Nat) (reserved : Bytes → Bool) : FnSpec :=
  { reservedOk := reserved, lengthOk := fun f => covers f n, atomic := fun _ => true, originating := fun _ => true, noDualAct := fun _ => true }

/-- A function that each member of a pair executes itself (R350, R368). -/
def ownSpec (n : Nat) (reserved : Bytes → Bool) : FnSpec :=
  { reservedOk := reserved, lengthOk := fun f => covers f n, atomic := fun _ => true, noDualAct := fun _ => true }

/-- The layout of METER_READ and METER_ACK is not in the spec: the fields in the order that Table 2-1 names them, each to its alignment (log 23). -/
def adminSpec (code : Nat) : Option FnSpec :=
  match code with
  | 0x0E01 => some { houseSpec 36 (fun f => decide (hdrLength f < 64) || (zeroAt f 66 2 && zeroAt f 76 20)) with random := fun _ => true }
  | 0x0E02 => some (houseSpec 40 (fun f => zeroAt f 38 2))
  | 0x0E03 => some (houseSpec 40 (fun f => zeroAt f 34 2))
  | 0x0E04 => some (houseSpec 40 (fun f => zeroAt f 36 4))
  | 0x0E05 => some (houseSpec 104 (fun f => zeroAt f 36 4 && leAt f 32 4 < 8192))
  | 0x0E06 => some (houseSpec 40 (fun f => zeroAt f 38 2))
  | 0x0E07 => some (houseSpec 40 (fun f => zeroAt f 36 4))
  | 0x0E08 => some (houseSpec 48 (fun f => zeroAt f 41 7))
  | 0x0E09 => some (houseSpec 48 (fun f => zeroAt f 36 4))
  | 0x0E10 => some (ownSpec 40 (fun f => zeroAt f 33 3))
  | 0x0E30 => some (houseSpec 32 (fun _ => true))
  | 0x0E31 => some (houseSpec 48 (fun _ => true))
  | 0x0E32 => some (houseSpec 40 (fun _ => true))
  | 0x0E33 => some (houseSpec 40 (fun _ => true))
  | 0x0E34 => some (houseSpec 36 (fun _ => true))
  | 0x0E35 => some (houseSpec 36 (fun _ => true))
  | 0x0E36 => some (houseSpec 40 (fun _ => true))
  | 0x0E37 => some (houseSpec 38 (fun _ => true))
  | 0x0E40 => some (ownSpec 72 (fun f => zeroAt f 34 6))
  | 0x0F01 => some { privilege := some 2, isLocal := true }
  | _ => none

/-- What the function of a code asks, if the code is implemented (R93 step 6). HW_NONCE needs the nonce-service privilege (R148). -/
def fnSpec (code : Nat) : Option FnSpec :=
  match code / 256 with
  | 1 | 2 => pinSpec code
  | 3 | 4 => emvSpec code
  | 5 | 6 | 7 => dataSpec code
  | 8 | 9 => cipherSpec code
  | 0x0A | 0x0B | 0x0C => pkSpec code
  | 0x0D => keySpec code
  | 0x0E => if code = 0x0E21 then keySpec code else adminSpec code
  | 0x0F => adminSpec code
  | _ => none

/-- HW_NONCE is set on a frame that may carry it (R148, R151). -/
def asksNonce (f : Bytes) : Bool :=
  (hdrFunction f == 0x0803 || (hdrFunction f == 0x0805 && isFirst f)) && fnBit0 f

end Sys2Proof.Machine
end

