-- ==== Sys2Proof/Machine/Route.lean ====
section
/-!
DEFINITION. Routes across the span and the sending of link frames (R306, R308).
-/

namespace Sys2Proof.Machine

/-- A link of the span map is up: by this module's own port where it has an end, else as the span reports it (R308, log 184). -/
def linkUsable (s : State) (l : LinkEnd × LinkEnd) : Bool :=
  if l.1.module = s.img.set.moduleId ∨ l.2.module = s.img.set.moduleId then
    !(s.pair.deadLinks.contains (l.1.module, l.1.port)) && !(s.pair.deadLinks.contains (l.2.module, l.2.port))
  else Config.farLinkUp l.1.module l.1.port s.now

/-- The usable links of the span map (R308). -/
def usableLinks (s : State) : List (LinkEnd × LinkEnd) := ((s.img.set.span.map (·.links)).getD []).filter (linkUsable s)

/-- The modules one link away from `m`. -/
def neighbours (ls : List (LinkEnd × LinkEnd)) (m : Nat) : List Nat :=
  ls.filterMap (fun l => if l.1.module = m then some l.2.module else if l.2.module = m then some l.1.module else none)

/-- Breadth-first distances to a module: the pairs (module, hops) reached, frontier by frontier. -/
def hopsFrom (ls : List (LinkEnd × LinkEnd)) : Nat → Nat → List Nat → Map Nat → Map Nat
  | 0, _, _, seen => seen
  | fuel + 1, d, frontier, seen =>
    let next := ((frontier.flatMap (neighbours ls)).eraseDups).filter (fun m => !mhas seen m)
    if next = [] then seen
    else hopsFrom ls fuel (d + 1) next (next.foldl (fun m x => mset m x (d + 1)) seen)

/-- Hops from each module to `dst`. -/
def hopsTo (s : State) (dst : Nat) : Map Nat :=
  hopsFrom (usableLinks s) (((s.img.set.span.map (·.modules.length)).getD 0)) 0 [dst] [(dst, 0)]

/-- The module at the far end of an own port, by the span map. -/
def mapPeer (s : State) (p : Nat) : Option Nat :=
  ((s.img.set.span.map (·.links)).getD []).findSome? (fun l =>
    if l.1.module = s.img.set.moduleId ∧ l.1.port = p then some l.2.module
    else if l.2.module = s.img.set.moduleId ∧ l.2.port = p then some l.1.module else none)

/-- The first port of the route to a module and its hops: the shortest path by hop count, ties to the lower port (R308). -/
def routeTo (s : State) (dst : Nat) : Option (Nat × Nat) :=
  let h := hopsTo s dst
  let c := (List.range 4).filterMap (fun p =>
    let q := spanPort s p
    if q.up && q.auth then (mapPeer s p).bind (fun m => (mget h m).map (fun d => (p, d + 1))) else none)
  c.foldl (fun best x => match best with
    | none => some x
    | some b => if x.2 < b.2 then some x else some b) none

/-- The ports of a module with the modules they reach, lowest port first. -/
def portsOf (ls : List (LinkEnd × LinkEnd)) (m : Nat) : List (Nat × Nat) :=
  (List.range 4).filterMap (fun p => ls.findSome? (fun l =>
    if l.1.module = m ∧ l.1.port = p then some (p, l.2.module) else if l.2.module = m ∧ l.2.port = p then some (p, l.1.module) else none))

/-- The hop latencies of the rest of a route, from module `m` on: each module takes the lowest port that leads one hop nearer (R308). -/
def farPathNs (s : State) (h : Map Nat) : Nat → Nat → Nat
  | 0, _ => 0
  | fuel + 1, m =>
    match (portsOf (usableLinks s) m).find? (fun x => (mget h x.2).map (· + 1) == mget h m) with
    | some (p, n) => Config.farHopNs m p s.now + farPathNs s h fuel n
    | none => 0

/-- Path latency to a module, in ns: the sum of the current hop latencies along the route (R308, log 184). -/
def pathNs (s : State) (dst : Nat) : Nat :=
  match routeTo s dst with
  | none => 0
  | some (p, d) => (spanPort s p).hopNs + ((mapPeer s p).map (farPathNs s (hopsTo s dst) (d - 1))).getD 0

/-! Link frames (R306, R307). -/

/-- TYPE (Table 12-5). -/
def frameType (body : FrameBody) : Nat :=
  match body with
  | .hello _ => 0x01
  | .keyConfirm _ => 0x02
  | .idle => 0x10
  | .probe => 0x11
  | .echo => 0x12
  | .withdraw => 0x13
  | .position _ => 0x20
  | .crossfeed _ _ => 0x21
  | .delta _ => 0x22
  | .deltaAck _ => 0x23
  | .loanDelta _ _ => 0x24
  | .loanAck _ _ => 0x25
  | .currency _ _ => 0x26
  | .forward _ _ => 0x30
  | .forwardRsp _ _ _ _ => 0x31
  | .resyncData _ => 0x40
  | .resyncEnd => 0x41
  | .stateData _ => 0x50
  | .stateEnd _ => 0x51

/-- The gallery whose state an item carries. -/
def itemGallery (c : CopyItem) : Nat :=
  match c with
  | .header d _ _ _ _ _ _ _ _ => d.id
  | .vrecord g _ _ | .journal g _ | .spanOp g _ | .meter g _ => g
  | .stream sid _ _ | .cut sid _ => sid.gallery
  | .result e => e.sid.gallery
  | .begin _ _ _ | .delta _ => 0xFFFFF

/-- The stream that a POSITION frame names. -/
def positionStream (p : Position) : StreamId :=
  match p with
  | .notice sid _ _ | .ack sid _ | .verdict sid _ _ | .hostAck sid _ | .seals sid _ _ | .loansDone sid _ => sid

/-- GALLERY: the gallery that the content names, or 0xF_FFFF (Table 12-4). -/
def frameGallery (body : FrameBody) : Nat :=
  match body with
  | .position p => (positionStream p).gallery
  | .crossfeed sid _ | .forward sid _ | .forwardRsp sid _ _ _ => sid.gallery
  | .loanDelta g _ | .loanAck g _ | .currency g _ | .stateEnd g => g
  | .resyncData c | .stateData c => itemGallery c
  | _ => 0xFFFFF

/-- REF of a type that carries a delta number (Table 12-4, log 184). -/
def frameDeltaNumber (body : FrameBody) : Option Nat :=
  match body with
  | .delta d | .loanDelta _ d => some d.number
  | .deltaAck n | .loanAck _ n | .currency _ n => some n
  | _ => none

/-- The 32-byte header of a link frame (Table 12-4). -/
def frameHeader (cls src dst hops len : Nat) (port n : Nat) (body : FrameBody) : Bytes :=
  leBytes 1 (frameType body) ++ leBytes 1 cls ++ leBytes 2 src ++ leBytes 2 dst ++ leBytes 2 hops ++ leBytes 8 n ++ leBytes 4 (frameGallery body) ++
  leBytes 2 len ++ zeros 2 ++ leBytes 8 ((frameDeltaNumber body).getD (Config.frameRef port n).toNat)

/-- The nonce of a frame that a port sends: port number, direction, handshake count, COUNTER (R306). -/
def frameNonce (port : Nat) (p : SpanPort) (n : Nat) : Bytes :=
  leBytes 1 port ++ leBytes 1 (if p.lower then 0 else 1) ++ leBytes 2 p.handshakes ++ leBytes 8 n

/-- The key of one direction: the first 32 bytes go from the lower serial to the higher (R305). -/
def directionKey (keys : Bytes) (fromLower : Bool) : Bytes := if fromLower then keys.take 32 else (keys.drop 32).take 32

/-- The payload of a frame as it enters the link: encrypted a second time where it crosses a relay (R307). -/
def framePayload (s : State) (port n dst : Nat) (endToEnd : Bool) : Bytes :=
  let plain := (List.range (Config.framePayloadLen port n).toNat).map (Config.framePayloadByte port n)
  match endToEnd, mget s.pair.farKeys dst with
  | true, some k =>
    let p := plain.take 4080
    let (ct, tag) := gcmSeal (aesOf (directionKey k.keys k.lower)) ((List.range 12).map (Config.farNonceByte port n)) [] p
    ct ++ tag
  | _, _ => plain

/-- A link frame's bytes: the header in clear and authenticated, the payload under the port's hop key, the tag (R306); before there are hop keys, the payload in clear (log 184). -/
def frameWire (s : State) (port cls src dst hops n : Nat) (endToEnd : Bool) (body : FrameBody) : Bytes :=
  let p := spanPort s port
  let pt := framePayload s port n dst endToEnd
  let h := frameHeader cls src dst hops pt.length port n body
  if p.hopKeys = [] then h ++ pt ++ (List.range 16).map (Config.frameFirstTag port n)
  else
    let (ct, tag) := gcmSeal (aesOf (directionKey p.hopKeys p.lower)) (frameNonce port p n) h pt
    h ++ ct ++ tag

/-- A link frame leaves on a port: the frame counter advances (R306); a port whose row lacks USE on the span egress sends nothing (R44). -/
def sendFrame (port cls dst : Nat) (relayed : Option (Nat × Nat)) (endToEnd : Bool) (body : FrameBody) (s : State) : State :=
  if !hasRight (fixedRow s (portRow port)) 9 rightUSE then s else
  let n := (spanPort s port).txCounter + 1
  let from_ := relayed.getD (s.img.set.moduleId, 0)
  let wire := frameWire s port cls from_.1 dst from_.2 n (endToEnd && relayed.isNone) body
  let s := updPort port (fun p => { p with txCounter := n }) s
  { s with pair := { s.pair with
    sent := s.pair.sent ++ [{ port := port, cls := cls, dst := dst, counter := n, body := body, relayed := relayed, endToEnd := endToEnd, wire := wire }] } }

/-- Sends a frame of this module's own on a port. -/
def sendOn (port cls dst : Nat) (body : FrameBody) (s : State) : State := sendFrame port cls dst none false body s

/-- Sends a frame to the partner over the pair port, if the pair link is up. -/
def sendPartner (cls : Nat) (body : FrameBody) (s : State) : State :=
  if s.pair.linkUp then sendOn s.pair.port cls s.pair.partner body s else s

/-- The frames that carry gallery state across the span (R307). -/
def carriesState (body : FrameBody) : Bool :=
  match body with
  | .stateData _ | .loanDelta _ _ | .loanAck _ _ => true
  | _ => false

/-- A key is agreed with a module beyond a relay (R307). -/
def farKeyed (s : State) (m : Nat) : Bool := ((mget s.pair.farKeys m).map (fun k => k.keys != [])).getD false

/-- Frames that keep their order behind gallery state which waits for its key. -/
def followsState (body : FrameBody) : Bool :=
  match body with
  | .stateEnd _ => true
  | b => carriesState b

/-- Gallery state that crosses a relay waits until the key with its destination is agreed (R307). -/
def waitsForKey (s : State) (dst : Nat) (body : FrameBody) : Bool :=
  (carriesState body && !farKeyed s dst) || (followsState body && s.pair.farWaiting.any (fun w => w.2.1 == dst))

/-- Sends a frame to a module along its route, if there is one; gallery state that crosses a relay is encrypted end to end (R307, R308, logs 170, 184). -/
def sendTo (cls dst : Nat) (body : FrameBody) (s : State) : State :=
  match routeTo s dst with
  | some (p, _) =>
    if mapPeer s p = some dst then sendFrame p cls dst none false body s
    else if waitsForKey s dst body then { s with pair := { s.pair with farWaiting := s.pair.farWaiting ++ [(cls, dst, body)] } }
    else sendFrame p cls dst none (carriesState body) body s
  | none => s

/-- Passes a frame for another module on along its route; one that has reached 4,095 hops is dropped (R306, R308). -/
def relayFrame (h : LinkHdr) (cls : Nat) (body : FrameBody) (s : State) : State :=
  match routeTo s h.dst with
  | some (p, _) => if h.hops + 1 ≥ 4095 then s else sendFrame p cls h.dst (some (h.src, h.hops + 1)) (carriesState body) body s
  | none => s

end Sys2Proof.Machine
end

