-- ==== Sys2Proof/Machine/Journal.lean ====
section
/-!
DEFINITION. The result journal (R100 to R102): entries of 64-byte units in 4 KiB pages.
-/

namespace Sys2Proof.Machine

/-- Units of an entry: one for a payload of up to 24 bytes, one more for each further 64 (R102). -/
def journalUnits (e : JournalEntry) : Nat := 1 + ceilDiv (e.payload.length - 24) 64

/-- The 4 KiB pages an entry lies in, newest first, from the unit its gallery's journal stood at (R100, R102). -/
def entryPages (e : JournalEntry) : List Nat :=
  ((List.range ((e.at_ % 64 + journalUnits e - 1) / 64 + 1)).map (· + e.at_ / 64)).reverse

/-- The pages a gallery holds, newest first: those its entries lie in, and the one it is writing. -/
def journalPages (g : Gallery) : List Nat :=
  let open_ := if g.journalAt % 64 = 0 then [] else [g.journalAt / 64]
  ((open_ ++ g.journal.flatMap entryPages).foldl (fun (acc : List Nat) p => if acc.head? = some p then acc else p :: acc) []).reverse

/-- Pages of one reserve (R102). -/
abbrev reservePages : Nat := 128

/-- Pages of the shared pool: the reserves of indices at which no gallery is homed (R102). -/
def poolPages (s : State) : Nat := (4096 - homedCount s) * reservePages

/-- Pages taken from the pool by all galleries. -/
def poolUsed (s : State) : Nat := (mvals s.vit.galleries).foldl (fun a g => a + ((journalPages g).length - reservePages)) 0

/-- Pages that gallery `id` may still take: what is free in its reserve and in the pool (R102). -/
def journalFree (s : State) (id : Nat) : Nat :=
  match gal s id with
  | none => 0
  | some g => (reservePages - (journalPages g).length) + (poolPages s - poolUsed s)

/-- Pages that an entry takes anew: those past the page being written. -/
def pagesFor (g : Gallery) (e : JournalEntry) : Nat :=
  ceilDiv (journalUnits e - (if g.journalAt % 64 = 0 then 0 else 64 - g.journalAt % 64)) 64

/-- The partner publishes the same responses: the pair is formed and its link stands (R102, log 146). -/
def bothAnswer (s : State) : Bool := s.pair.linkUp && (s.pair.role == .originator || s.pair.role == .standby)

/-- The response of an entry is acknowledged on every member that publishes it (R102). -/
def ackedAll (both : Bool) (e : JournalEntry) : Bool := e.acked && (e.ackedThere || !both)

/-- A page all of whose responses are acknowledged; the page being written is not taken (R102). -/
def pageAcked (both : Bool) (g : Gallery) (p : Nat) : Bool :=
  p != g.journalAt / 64 && g.journal.all (fun e => !(entryPages e).contains p || ackedAll both e)

/-- The oldest page that may be taken among those a gallery holds beyond its reserve: its 128 newest pages are the reserve (R102). -/
def pageBeyond (both : Bool) (g : Gallery) : Option Nat := ((journalPages g).drop reservePages).reverse.find? (pageAcked both g)

/-- The page that gallery `id` takes over, and whose it is: of the galleries that have one to give the one holding the most beyond its reserve, else its own oldest acknowledged page (R102). -/
def reclaimFrom (s : State) (id : Nat) : Option (Nat × Nat) :=
  let c := s.vit.galleries.filterMap (fun p => (pageBeyond (bothAnswer s) p.2).map (fun q => (p.1, q, (journalPages p.2).length)))
  match c.foldl (fun best x => match best with
    | none => some x
    | some b => if x.2.2 > b.2.2 then some x else some b) none with
  | some x => some (x.1, x.2.1)
  | none => (gal s id).bind (fun g => ((journalPages g).reverse.find? (pageAcked (bothAnswer s) g)).map (fun q => (id, q)))

/-- Makes `n` pages free for gallery `id`, on fuel, with every entry that lies in a page taken; `none` when no page can be taken (R102). -/
def makeRoom (id n : Nat) : Nat → State → Option State
  | 0, s => if journalFree s id ≥ n then some s else none
  | fuel + 1, s =>
    if journalFree s id ≥ n then some s
    else match reclaimFrom s id with
      | none => none
      | some (v, q) =>
        makeRoom id n fuel (updGal v (fun g => { g with journal := g.journal.filter (fun e => !(entryPages e).contains q), journalFull := true }) s)

/-- An entry at the end of a gallery's journal: the newest 65,536 are kept (R102). -/
def appendEntry (e : JournalEntry) (g : Gallery) : Gallery :=
  { g with
    journal := ({ e with at_ := g.journalAt } :: g.journal.filter (fun x => !(x.sid == e.sid && x.seq == e.seq))).take 65536
    journalAt := g.journalAt + journalUnits e }

/-- Writes an entry, in room made where it is needed; `none` when the command must wait for a page (R100, R102). -/
def putJournal (id : Nat) (e : JournalEntry) (s : State) : Option State :=
  (makeRoom id (((gal s id).map (fun g => pagesFor g e)).getD 0) 128 s).map (updGal id (appendEntry e))

/-- There is a place for a command's entry: in the page being written, or in a page that is free or can be taken (R94, R102). -/
def pageFor (s : State) (id : Nat) : Bool :=
  (makeRoom id (((gal s id).map (fun g => if g.journalAt % 64 = 0 then 1 else 0)).getD 0) 128 s).isSome

/-- The entry of a stream and number (R101). -/
def findJournal (g : Gallery) (sid : StreamId) (q : Nat) : Option JournalEntry :=
  g.journal.find? (fun e => e.sid == sid && e.seq == q)

/-- What a resubmission that finds an entry is answered (R101, R323): the response, and whether JOURNALED is set. -/
def journalAnswer (e : JournalEntry) (digest : Nat) : Resp × Bool :=
  if e.damaged then (statusOnly Status.engineFault, false)
  else if e.digest ≠ digest then (statusOnly Status.malformed, true)
  else if e.superseded then (statusOnly Status.superseded, true)
  else ({ status := e.status, fnFlags := e.fnFlags, payload := e.payload }, true)

/-- The entry of a command's result (R100). -/
def journalOf (d : Desc) (sid : StreamId) (r : Resp) : JournalEntry :=
  { sid := sid, seq := d.seq, function := d.function, digest := d.digest, status := r.status, fnFlags := r.fnFlags,
    payload := r.payload, superseded := false, acked := false, damaged := false, flags := respFlags d, at_ := 0 }

/-- Marks the entry of a stream and number, if there is one. -/
def markEntry (sid : StreamId) (q : Nat) (f : JournalEntry → JournalEntry) (s : State) : State :=
  updGal sid.gallery (fun g => { g with journal := g.journal.map (fun e => if e.sid == sid && e.seq == q then f e else e) }) s

/-- A command's response is acknowledged here: its entry is marked, and the partner told (R102, log 146). -/
def ackJournal (sid : StreamId) (q : Nat) (s : State) : State :=
  let s := markEntry sid q (fun e => { e with acked := true }) s
  if bothAnswer s then sendPartner 1 (.position (.hostAck sid q)) s else s

end Sys2Proof.Machine
end

