-- ==== Sys2Proof/Machine/Placement.lean ====
section
/-!
DEFINITION. The placing of commits by sequence number (R66, R89 to R92) and the checks a window makes at a commit (R44 to R46, R66, R72, R73).
-/

namespace Sys2Proof.Machine

/-- A frame that arrives at a flow: from the host, over the pair link (R288), or across the span (R309). -/
structure Arrival where
  frame : Bytes
  large : Bool
  /-- time of the commit -/
  commitAt : Nat
  /-- time of the window's checks, from which the deadline runs (R94) -/
  admitAt : Nat
  crossFed : Bool := false
  /-- modules that forwarded it here -/
  askers : List Nat := []
  /-- what the checks at its own window answered, on another module (log 148) -/
  far : Option Answer := none

/-- What a window's refusal, or the module's condition, answers with. -/
def refusedWith (st : Nat) : Answer := { status := st }

/-! Staging and quotas. -/

/-- Staging a frame of `n` bytes takes, in bytes: units of 128, a large frame whole KiB (R249, R75). -/
def stagingBytes (large : Bool) (n : Nat) : Nat := if large then roundUp 1024 n else roundUp 128 n

/-- Staging a descriptor's command and response hold: the command until its release, the response until it is acknowledged (R45). -/
def descStaging (d : Desc) : Nat :=
  (if d.st = .released then 0 else stagingBytes d.large d.frame.length) +
  (match d.resp with
   | some r => stagingBytes (decide (r.payload.length > 480)) (32 + r.payload.length)
   | none => 0)

/-- A commit held behind a gap is admitted: it holds a descriptor and its staging like any other (R90, R249). -/
def heldBytes (bytes : Bool → Nat → Nat) (fl : Flow) : Nat := (fl.held.map (fun h => bytes h.large h.frame.length)).sum

/-- Staging a gallery holds, in KiB (WIN_QUOTA_USE.STAGING_KIB). -/
def stagingKib (s : State) (g : Nat) : Nat :=
  ceilDiv ((mvals s.doc.descs).foldl (fun a d =>
    if (mget s.doc.flows d.flow).map (·.sid.gallery) = some g then a + descStaging d else a) 0 +
    ((mvals s.doc.flows).map (fun fl => if fl.sid.gallery = g then heldBytes stagingBytes fl else 0)).sum) 1024

/-- Bytes a frame of `n` bytes takes of the 8 MiB of window staging: a large frame, which lies in the GDDR6 buffers, one unit (R17, R75, R249). -/
def sramBytes (large : Bool) (n : Nat) : Nat := if large then 128 else roundUp 128 n

/-- Bytes it takes of the 256 MiB of large-frame buffers (R19, R75). -/
def bufferBytes (large : Bool) (n : Nat) : Nat := if large then roundUp 1024 n else 0

/-- What a descriptor holds of a store, by the bytes a frame takes there. -/
def descHolds (bytes : Bool → Nat → Nat) (d : Desc) : Nat :=
  (if d.st = .released then 0 else bytes d.large d.frame.length) +
  (match d.resp with
   | some r => bytes (decide (r.payload.length > 480)) (32 + r.payload.length)
   | none => 0)

/-- What all admitted commands hold of it. -/
def heldOf (bytes : Bool → Nat → Nat) (s : State) : Nat :=
  (mvals s.doc.descs).foldl (fun a d => a + descHolds bytes d) 0 + ((mvals s.doc.flows).map (heldBytes bytes)).sum

/-- A descriptor is free for a further command: each admitted one, held or placed, has one (R249). -/
def descFree (s : State) : Bool :=
  (lowestFree s.doc.descs 65536).isSome && decide (s.doc.descs.length + ((mvals s.doc.flows).map (·.held.length)).sum < 65536)

/-- The module's own capacity for frames is exhausted: window staging, or for a large frame its buffers (R17, R19, R249, log 145). -/
def stagingFull (s : State) (large : Bool) (n : Nat) : Bool :=
  decide (heldOf sramBytes s + sramBytes large n > 8388608) || (large && decide (heldOf bufferBytes s + bufferBytes large n > 268435456))

/-- The cause bit of the quota that refuses a commit, if one does: command rate 16, PK rate 17, staging 18 (R45, R245, Table 3-12). -/
def quotaRefusal (s : State) (g : Gallery) (cost : Nat) (large : Bool) (n : Nat) : Option Nat :=
  let d := g.desc
  if d.cmdRate ≠ 0xFFFF ∧ (d.cmdRate = 0 ∨ g.cmdTokens < 1) then some 16
  else if cost ≠ 0 ∧ d.pkRate ≠ 0xFFFF ∧
    (if cost ≤ d.pkBurst then g.pkTokens < (cost : Int) else g.pkTokens < (d.pkBurst : Int)) then some 17
  else if (d.id ≠ 0 ∧ stagingKib s d.id + ceilDiv (stagingBytes large n) 1024 > d.stagingKib) ∨ stagingFull s large n then some 18
  else none

/-- Takes the tokens of an admitted command (R45, R245). -/
def takeTokens (cost : Nat) (g : Gallery) : Gallery :=
  { g with
    cmdTokens := if g.desc.cmdRate = 0xFFFF then g.cmdTokens else g.cmdTokens - 1
    pkTokens := if g.desc.pkRate = 0xFFFF then g.pkTokens else g.pkTokens - cost }

/-! The window's checks (R66). -/

/-- What ends a stream's sealed service: the state of the key its enable took (R73); of a key homed elsewhere nothing is known here (log 154). -/
def sealedStatus (s : State) (st : Stream) (g : Nat) : Option Nat :=
  if st.sealed && (gal s g).isSome then sealEnds s g st.sealFor st.sealGen else none

/-- The tag of a sealed command matches (R72). -/
def sealMatches (st : Stream) (frame : Bytes) : Bool :=
  match st.sealKeys with
  | some k => decide (sealTag k.1 frame = slice frame 24 8)
  | none => true

/-- The first of the checks 1 to 4 of R66 that refuses a commit; the statuses of R73, whose answer carries no tag, stand with check 4 (log 153). -/
def windowRefusal (s : State) (fn i g : Nat) (a : Arrival) : Option Answer :=
  let st := strm s fn i
  let n := hdrLength a.frame
  if !windowHas s fn rightUSE then some (refusedWith Status.accessDenied)
  else if hdrStream a.frame ≠ i then some (refusedWith Status.malformed)
  else if (!a.large && decide (n > 480)) || (a.large && decide (n ≤ 480)) || decide (n > 65536) then some (refusedWith Status.badLength)
  else match sealedStatus s st g with
    | some x => some { status := x, unsealed := true }
    | none => if st.sealed && !sealMatches st a.frame then some (refusedWith Status.sealFailed) else none

/-! Descriptors. -/

/-- The next order number. -/
def nextOrder (s : State) : State := { s with doc := { s.doc with parkCount := s.doc.parkCount + 1 } }

/-- Puts a command into the Docent under the lowest free ticket, in placement order. -/
def addDesc (d : Desc) (s : State) : State :=
  match lowestFree s.doc.descs 65536 with
  | none => s
  | some t => nextOrder { s with doc := { s.doc with
      descs := mset s.doc.descs t { d with parkOrder := s.doc.parkCount, order := s.doc.parkCount } } }

/-- The class of a frame, atomic and originating: the stronger of its function's and its keys' (R95, R96). -/
def classOf (s : State) (g : Nat) (f : Bytes) : Bool × Bool :=
  let sp := fnSpec (hdrFunction f)
  let fin := finiteKey s g f
  (fin || (sp.map (fun x => x.atomic f)).getD false, fin || (sp.map (fun x => x.originating f)).getD false)

/-- The descriptor of a frame placed in a flow, its class from function and keys (R95, R96), its priority under the ceiling (R84). -/
def descOf (s : State) (fi : Nat) (fl : Flow) (a : Arrival) : Desc :=
  let f := a.frame
  let g := gal s fl.sid.gallery
  let sp := fnSpec (hdrFunction f)
  let k := classOf s fl.sid.gallery f
  { flow := fi, seq := hdrSeq f, function := hdrFunction f, frame := f, digest := frameDigest f, large := a.large
    atomic := k.1, originating := k.2, isLocal := (sp.map (·.isLocal)).getD false
    prio := min (hdrPrio f) ((g.map (·.desc.prioCeiling)).getD 7)
    commitAt := a.commitAt, admitAt := a.admitAt
    deadline := if hdrDeadline f = 0 then none else some (a.admitAt + 1000 * hdrDeadline f)
    crossFed := a.crossFed, askers := a.askers
    rights := (g.map (·.rights)).getD [], privileges := (g.map (·.desc.privileges)).getD 0
    payloadLen := hdrLength f
    pkCost := (sp.map (fun x => x.pkCost s fl.sid.gallery f)).getD 0 }

/-- A command answered without a cell: done at once with a status and no payload (R66, R77, R91). -/
def answeredWith (st : Nat) (d : Desc) (now : Nat) : Desc :=
  { d with st := .done, resp := some (statusOnly st), windowRefusal := true, doneAt := some now, pkCost := 0 }

/-- A command answered by the checks at its window. -/
def answeredBy (a : Answer) (d : Desc) (now : Nat) : Desc :=
  { answeredWith a.status d now with unsealed := a.unsealed, quotaCause := a.cause }

/-- Answers a commit out of position, behind every number admitted so far: held commits have not taken their positions and do not count (R90, R92, R263, log 155). -/
def answerOut (fi : Nat) (fl : Flow) (a : Arrival) (r : Resp) (journaled : Bool) (s : State) : State :=
  let d := descOf s fi fl a
  addDesc { d with
    st := .done, resp := some r, journaled := journaled, doneAt := some s.now, behind := some fl.next, pkCost := 0 } s

/-- The live descriptor of a number of a flow, in position or out of it: a resubmission is absorbed by an unacknowledged answer of either kind (R92, log 156). -/
def descAt (s : State) (fi q : Nat) : Option (Nat × Desc) :=
  s.doc.descs.find? (fun p => p.2.flow == fi && p.2.seq == q && !p.2.discard)

/-! Positions in a pair (R288). -/

/-- The pair mirrors: both members serve and the link stands. -/
def mirroring (s : State) : Bool :=
  s.pair.linkUp && (s.pair.role == .originator || s.pair.role == .standby)

/-- Tells the partner that a number has taken its position here, and answers its own notice of that number (R288). -/
def noticePosition (fi : Nat) (d : Desc) (s : State) : State :=
  if !mirroring s then s else
  match mget s.doc.flows fi with
  | none => s
  | some fl =>
    let s := sendPartner 1 (.position (.notice fl.sid d.seq d.digest)) s
    if fl.notices.any (fun p => p.1 == d.seq) then
      sendPartner 1 (.position (.ack fl.sid d.seq))
        (updFlow fi (fun f => { f with notices := f.notices.filter (fun p => p.1 != d.seq) }) s)
    else s

/-- The ORIGINATOR sends its verdict on a number (R47). -/
def sendVerdict (sid : StreamId) (q : Nat) (v : Verdict) (s : State) : State :=
  if s.pair.role == .originator then sendPartner 1 (.position (.verdict sid q v)) s else s

/-- The idle timer's expiry time when a frame of an operation completes now (R152). -/
def idleEnd (s : State) : Nat := s.now + 1000000 * s.img.set.opIdleMs

/-- Sets or cancels the idle timer of the operation that a later frame of a command names, opened by the same function on the same stream (R152). -/
def setIdle (sid : StreamId) (d : Desc) (at_ : Option Nat) (s : State) : State :=
  match spanOpOf d.frame with
  | some o => nextOrder (updGal sid.gallery (fun g => { g with ops := malter g.ops o (fun x =>
      if x.function = d.function ∧ x.sid = sid then { x with idleAt := at_, idleOrder := s.doc.parkCount } else x) }) s)
  | none => s

/-- On a STANDBY, the result of a number whose delta came before it (R291, R292). -/
def mirroredResult (s : State) (sid : StreamId) (d : Desc) : Desc :=
  if s.pair.role != .standby || d.resp.isSome then d
  else match (gal s sid.gallery).bind (fun g => findJournal g sid d.seq) with
    | some e => { d with
        st := .done, resp := some { status := e.status, fnFlags := e.fnFlags, payload := e.payload }, deltaApplied := true
        verdict := some (d.verdict.getD (.accept 0)), doneAt := some s.now }
    | none => d

/-- One more command admitted, for the shares of R49. -/
def countAdmit (g : Nat) (s : State) : State :=
  let s := updGal g (fun x => { x with admits := s.now :: recent 1000000000 s.now x.admits }) s
  { s with vit := { s.vit with admits := s.now :: recent 1000000000 s.now s.vit.admits } }

/-- A quota refuses a commit of a window here: its cause bit latches, and REFUSED_TICK counts it (R74, R75). -/
def countRefusal (fl : Flow) (b : Nat) (s : State) : State :=
  if fl.remote then s else latchCause fl.sid.fn b (updWin fl.sid.fn (fun w => { w with refusedNow := sat 0xFFFF (w.refusedNow + 1) }) s)

/-- A command as the originating member's verdict leaves it: TIMEOUT is no refusal by the window, and keeps FLAGS and retry count (R47, R88, R91). -/
def underVerdict (v : Verdict) (d : Desc) (now : Nat) : Desc :=
  match v with
  | .accept _ => { d with verdict := some v }
  | .answer st => { answeredWith st d now with verdict := some v, windowRefusal := d.windowRefusal || st == Status.quotaExceeded || st == Status.sequenceGap }
  | .quota b => { answeredWith Status.quotaExceeded d now with verdict := some v, quotaCause := b }

/-- What a verdict leaves at the flow: a quota's cause at the window, and among the 256 most recent such numbers one answered SEQUENCE_GAP (R74, R91, R92). -/
def noteVerdict (fi : Nat) (fl : Flow) (q : Nat) (v : Verdict) (s : State) : State :=
  match v with
  | .accept _ => s
  | .answer st => if st = Status.sequenceGap then updFlow fi (fun f => { f with gapAnswered := (q :: f.gapAnswered.filter (· != q)).take 256 }) s else s
  | .quota b => countRefusal fl b s

/-- The verdict that a command answered at its position carries to the partner. -/
def answerVerdict (d : Desc) (r : Resp) : Verdict := if d.quotaCause = 0 then .answer r.status else .quota d.quotaCause

/-- A command takes the verdict that came before it (R47). -/
def withVerdict (fi : Nat) (fl : Flow) (d : Desc) (s : State) : Desc × State :=
  let v := (fl.verdicts.find? (fun p => p.1 == d.seq)).map (·.2)
  let s := updFlow fi (fun f => { f with verdicts := f.verdicts.filter (fun p => p.1 != d.seq) }) s
  match v with
  | some v => (underVerdict v d s.now, noteVerdict fi fl d.seq v s)
  | none => (d, s)

/-- A descriptor takes its position: it is placed, the partner told of it, a verdict that came before it applied, and the idle timer of its operation cancelled (R47, R152, R288). An admitted command's own verdict goes out at its take (log 151). -/
def placeDesc (fi : Nat) (fl : Flow) (d : Desc) (s : State) : State :=
  let (d, s) := withVerdict fi fl d s
  let d := mirroredResult s fl.sid d
  let s := setIdle fl.sid d (if d.resp.isSome then some (idleEnd s) else none) s
  let s := noticePosition fi d (addDesc d s)
  match d.resp with
  | some r => sendVerdict fl.sid d.seq (answerVerdict d r) s
  | none => countAdmit fl.sid.gallery s

/-! Routes of a command: here, home, or to a loan (R309, R314). -/

/-- The module of a home that a frame goes to: the one the descriptor names, or its partner where no route leads there; a STANDBY passes it on to its ORIGINATOR (R309, log 148). -/
def homeModule (s : State) (home : Descriptor) : Nat :=
  if (routeTo s home.home).isNone && home.partner != 0xFFFF && (routeTo s home.partner).isSome then home.partner else home.home

/-- The path to a module, or a gallery's privileges, do not let a command be forwarded (R50). -/
def unreachable (s : State) (d : Descriptor) (m : Nat) : Bool :=
  !bit d.privileges 4 || d.reach == 0 || (routeTo s m).isNone || decide (pathNs s m > 1000 * d.reach)

/-- The reach test of a command that is forwarded to home (R50). -/
def outOfReach (s : State) (d : Descriptor) : Bool := unreachable s d (homeModule s d)

/-- Forwards a command to its home: it waits here for the returned response (R309), or is answered OUT_OF_REACH (R50). -/
def forwardHome (home : Descriptor) (sid : StreamId) (d : Desc) (s : State) : Desc × State :=
  if outOfReach s home then (answeredWith Status.outOfReach d s.now, s)
  else ({ d with forwardAt := some s.now, forwarded := true }, sendTo 2 (homeModule s home) (.forward sid (.command d.frame none)) s)

/-- A number that its window's module has answered is told to the home, whose flow counts it as committed (R46, R90, log 148). -/
def tellHome (fl : Flow) (d : Desc) (s : State) : State :=
  match fl.proxy, mget s.vit.remote fl.sid.gallery, d.resp with
  | true, some h, some r => sendTo 2 (homeModule s h) (.forward fl.sid (.command d.frame (some (refusedWith r.status)))) s
  | _, _, _ => s

/-- Where an admitted command goes: home from a window of a gallery homed elsewhere; on loan, to the loan when LOAN_OK is set, it is replayable and the loan not suspended, else home (R309, R314); else it stays. -/
def routed (fl : Flow) (d : Desc) (s : State) : Desc × State :=
  match gal s fl.sid.gallery with
  | none =>
    if !fl.proxy then (d, s)
    else match mget s.vit.remote fl.sid.gallery with
      | some h => forwardHome h fl.sid d s
      | none => (answeredWith Status.outOfReach d s.now, s)
  | some g =>
    match g.loanCopy with
    | none => (d, s)
    | some c =>
      if bit (hdrFlags d.frame) 0 && !d.originating && !d.isLocal && !c.suspended then ({ d with loan := true }, s)
      else forwardHome { g.desc with home := c.home } fl.sid d s

/-- A command whose checks have passed: tagged for tracing (R84, R425) and routed. -/
def admitted (fl : Flow) (d : Desc) (s : State) : Desc × State :=
  let (byFlag, random, s) := traceTags s (bit (hdrFlags d.frame) 1) (fl.sid.fn == 0 || bit d.privileges 2)
  routed fl { d with traceFlag := byFlag, traceRandom := random } s

/-- A command about to take its position, under the outcome of the checks at its commit. -/
def entered (fl : Flow) (d : Desc) (ans : Option Answer) (s : State) : Desc × State :=
  let (d, s) := match ans with
    | some a => (answeredBy a d s.now, s)
    | none => admitted fl d s
  (d, tellHome fl d s)

/-! Positions. -/

/-- The last tick boundary. -/
def lastTick (s : State) : Nat := s.doc.nextTick - 1000 * s.doc.tickUs

/-- Its deadline timer, which runs from admission, has fired at a boundary while it was held (R94, R259). -/
def firedHeld (s : State) (d : Desc) : Bool := ownVerdicts s && ((d.deadline.map (fun t => decide (t ≤ lastTick s))).getD false)

/-- A held commit as it takes its position: the checks were made at the commit, and its deadline has run since. -/
def enterHeld (fi : Nat) (fl : Flow) (h : Held) (s : State) : Desc × State :=
  let d := descOf s fi fl { frame := h.frame, large := h.large, commitAt := h.commitAt, admitAt := h.admitAt, crossFed := h.crossFed, askers := h.askers }
  entered fl { d with expired := firedHeld s d } h.answer s

/-- The header of a frame that stands for a missing number. -/
def gapFrame (q : Nat) : Bytes := zeros 6 ++ leBytes 6 q ++ zeros 20

/-- A missing number answered SEQUENCE_GAP takes its position (R91). -/
def placeGap (fi : Nat) (fl : Flow) (q : Nat) (s : State) : State :=
  let d := answeredWith Status.sequenceGap (descOf s fi fl { frame := gapFrame q, large := false, commitAt := s.now, admitAt := s.now }) s.now
  noteVerdict fi fl q (.answer Status.sequenceGap) (placeDesc fi fl { d with frame := [], digest := 0 } (tellHome fl d s))

/-- Lets held commits that now follow without a gap take their positions, and numbers that the partner answered SEQUENCE_GAP (R90 case 1, R91); on fuel. -/
def drainHeld (fi : Nat) : Nat → State → State
  | 0, s => s
  | fuel + 1, s =>
    match mget s.doc.flows fi with
    | none => s
    | some fl =>
      match fl.held.find? (fun h => h.seq == fl.next) with
      | none =>
        if fl.verdicts.contains (fl.next, .answer Status.sequenceGap) then
          drainHeld fi fuel (updFlow fi (fun f => { f with next := f.next + 1 }) (placeGap fi fl fl.next s))
        else s
      | some h =>
        let (d, s) := enterHeld fi fl h s
        let s := placeDesc fi fl d s
        drainHeld fi fuel (updFlow fi (fun f => { f with
          next := f.next + 1, held := f.held.filter (fun x => x.seq != h.seq)
          gapAt := if f.held.length ≤ 1 then none else f.gapAt }) s)

/-- A commit takes its position at NEXT, and held commits follow it (R90 case 1). -/
def takePosition (fi : Nat) (fl : Flow) (d : Desc) (s : State) : State :=
  let s := placeDesc fi fl d s
  drainHeld fi 264 (updFlow fi (fun f => { f with next := f.next + 1 }) s)

/-! The checks of a commit. -/

/-- The quota check of a commit (R45, R46, R245): the refusal with its cause, or the tokens taken. -/
def judgeQuota (g : Nat) (a : Arrival) (s : State) : Option Answer × State :=
  match gal s g with
  | none => (none, s)
  | some ga =>
    if !ownVerdicts s then (none, s)
    else
      let cost := ((fnSpec (hdrFunction a.frame)).map (fun x => x.pkCost s g a.frame)).getD 0
      match quotaRefusal s ga cost a.large a.frame.length with
      | some b => (some { status := Status.quotaExceeded, cause := b }, s)
      | none => (none, updGal g (takeTokens cost) s)

/-- The checks at the commit: answered with a status, or admitted with its quota charged. -/
def judgeCommit (fl : Flow) (a : Arrival) (s : State) : Option Answer × State :=
  match windowRefusal s fl.sid.fn fl.sid.stream fl.sid.gallery a with
  | some x => (some x, s)
  | none =>
    let (x, s) := judgeQuota fl.sid.gallery a s
    (x, match x with
      | some y => countRefusal fl y.cause s
      | none => s)

/-- The gallery, as its home knows it, does not let this stream's commands be forwarded to it (R50). -/
def unreached (s : State) (sid : StreamId) : Bool :=
  match gal s sid.gallery with
  | some g => g.loanCopy.isNone && unreachable s g.desc sid.place
  | none => false

/-- What has ended a distant stream's sealed service (R73): the state of the key that its enable took here. -/
def farSealStatus (s : State) (fl : Flow) : Option Nat := fl.sealKey.bind (fun k => sealEnds s fl.sid.gallery (BitVec.ofNat 64 k.1) k.2)

/-- The checks at the home of a command forwarded to it: USE in the gallery's row, its reach, its seal key, its quotas (R44, R45, R50, R73, R309). -/
def judgeForward (fl : Flow) (a : Arrival) (s : State) : Option Answer × State :=
  if !hasRight (galleryRow s fl.sid.gallery) 10 rightUSE then (some (refusedWith Status.accessDenied), s)
  else if unreached s fl.sid then (some (refusedWith Status.outOfReach), s)
  else match farSealStatus s fl with
    | some x => (some { status := x, unsealed := true }, s)
    | none => judgeQuota fl.sid.gallery a s

/-- The checks of a commit under the module's condition: R77 answers first where it answers at all, else R66 (R90). A forwarded command comes with what its window's checks answered. -/
def commitAnswer (fl : Flow) (a : Arrival) (s : State) : Option Answer × State :=
  match a.far with
  | some x => (some x, s)
  | none =>
    match commitCond s (if fl.remote then 0 else fl.sid.fn) (hdrFunction a.frame) with
    | .answer st => (some (refusedWith st), s)
    | _ => if fl.remote then judgeForward fl a s else judgeCommit fl a s

/-! Placement. -/

/-- A resubmission that another command answers: whoever forwarded it has that response too (R92, R309). -/
def absorb (t : Nat) (a : Arrival) (s : State) : State :=
  if a.askers = [] then s else updDesc t (fun d => { d with askers := (d.askers ++ a.askers).eraseDups }) s

/-- The verdict that this member gave on a command, once it has one, for a partner that may execute the resubmission (R47, R92). -/
def repeatVerdict (fl : Flow) (d : Desc) (s : State) : State :=
  match d.keyGen, d.resp with
  | some k, _ => sendVerdict fl.sid d.seq (.accept k) s
  | none, some r => sendVerdict fl.sid d.seq (answerVerdict d r) s
  | none, none => s

/-- A resubmission that is executed again, out of position: its window's checks, or the originating member's verdict, answer it first (R47, R92). -/
def reexecute (fi : Nat) (fl : Flow) (a : Arrival) (s : State) : State :=
  let (ans, s) := commitAnswer fl a s
  let (d, s) := match ans with
    | some x => (answeredBy x (descOf s fi fl a) s.now, s)
    | none => admitted fl (descOf s fi fl a) s
  let (d, s) := withVerdict fi fl d s
  let s := addDesc { d with behind := some fl.next } s
  match d.resp with
  | some r => sendVerdict fl.sid d.seq (answerVerdict d r) s
  | none => s

/-- A resubmission (R92, R289). -/
def resubmit (fi : Nat) (fl : Flow) (a : Arrival) (s : State) : State :=
  let q := hdrSeq a.frame
  match descAt s fi q with
  | some (t, d) =>
    if d.crossFed != a.crossFed && d.digest != frameDigest a.frame && d.behind.isNone then
      answerOut fi fl a (statusOnly Status.malformed) false s
    else absorb t a (repeatVerdict fl d s)
  | none =>
    if fl.gapAnswered.contains q then answerOut fi fl a (statusOnly Status.sequenceGap) false s
    else match (gal s fl.sid.gallery).bind (fun g => findJournal g fl.sid q) with
      | some e => answerOut fi fl a (journalAnswer e (frameDigest a.frame)).1 (journalAnswer e (frameDigest a.frame)).2 s
      | none => reexecute fi fl a s

/-- The 16-byte payload of MIGRATED (R312). -/
def migratedPayload (home partner cut : Nat) : Bytes :=
  leBytes 2 home ++ leBytes 2 partner ++ zeros 4 ++ leBytes 6 cut ++ zeros 2

/-- The answer MIGRATED where a migration puts a number at another placement (R310, R311). -/
def migratedAnswer (s : State) (fl : Flow) (q : Nat) : Option Bytes :=
  match gal s fl.sid.gallery with
  | none => none
  | some g =>
    match g.migration with
    | some m => (if m.cutDeclared then fl.cut else none).bind (fun c => if q ≥ c then some (migratedPayload m.home m.partner c) else none)
    | none => g.oldHome.bind (fun o => (mget g.cuts (65536 * fl.sid.fn + fl.sid.stream)).bind (fun c =>
        if q < c then some (migratedPayload o.1 o.2 c) else none))

/-- A commit held behind a gap: the checks are made now, and the gap timer starts with the first (R90 case 2, R91). -/
def holdCommit (fi : Nat) (fl : Flow) (a : Arrival) (s : State) : State :=
  let (ans, s) := commitAnswer fl a s
  let n := s.doc.parkCount
  nextOrder (updFlow fi (fun f => { f with
    held := f.held ++ [{
      seq := hdrSeq a.frame, frame := a.frame, digest := frameDigest a.frame, large := a.large
      commitAt := a.commitAt, admitAt := a.admitAt, answer := ans, crossFed := a.crossFed, askers := a.askers }]
    gapAt := some (f.gapAt.getD (s.now + 1000 * s.img.set.gapTimeoutUs))
    gapOrder := if f.gapAt.isSome then f.gapOrder else n }) s)

/-- The commits held at or above a stream's cut are answered MIGRATED, out of position (R310). -/
def migrateHeld (fi : Nat) (s : State) : State :=
  match mget s.doc.flows fi with
  | none => s
  | some fl =>
    let s := updFlow fi (fun f => { f with
      held := f.held.filter (fun h => (migratedAnswer s fl h.seq).isNone)
      gapAt := if fl.held.all (fun h => (migratedAnswer s fl h.seq).isSome) then none else f.gapAt }) s
    fl.held.foldl (fun s h => match migratedAnswer s fl h.seq with
      | some p => answerOut fi fl { frame := h.frame, large := h.large, commitAt := h.commitAt, admitAt := h.admitAt, crossFed := h.crossFed, askers := h.askers }
          { status := Status.migrated, fnFlags := 0, payload := p } false s
      | none => s) s

/-- Places a frame in its flow by its sequence number (R90). -/
def placeFrame (fi : Nat) (a : Arrival) (s : State) : State :=
  match mget s.doc.flows fi with
  | none => s
  | some fl =>
    let q := hdrSeq a.frame
    match migratedAnswer s fl q with
    | some p => answerOut fi fl a { status := Status.migrated, fnFlags := 0, payload := p } false s
    | none =>
      if q > fl.next + 8 then answerOut fi fl a (statusOnly Status.sequenceGap) false s
      else if q < fl.next then resubmit fi fl a s
      else if q = fl.next then
        let (ans, s) := commitAnswer fl a s
        let (d, s) := entered fl (descOf s fi fl a) ans s
        takePosition fi fl d s
      else match fl.held.find? (fun h => h.seq == q) with
        | some h =>
          if h.digest = frameDigest a.frame then updFlow fi (fun f => { f with held := f.held.map (fun x =>
            if x.seq = q then { x with askers := (x.askers ++ a.askers).eraseDups } else x) }) s
          else answerOut fi fl a (statusOnly Status.malformed) false s
        | none => holdCommit fi fl a s

end Sys2Proof.Machine
end

