-- ==== Sys2Proof/Machine/Docent.lean ====
section
/-!
DEFINITION. The Docent's choices: which command is ready, which cell takes it, the checks at the take, completion (R250 to R258, R261, R262, R93).
-/

namespace Sys2Proof.Machine

/-! Readiness. -/

/-- The place of a command in its flow's order: its number, or just behind the numbers admitted before it when out of position (R263). -/
def orderKey (d : Desc) : Nat :=
  match d.behind with
  | some b => 2 * b - 1
  | none => 2 * d.seq

/-- `e` comes before `d` in their flow. -/
def isEarlier (e d : Desc) : Bool :=
  decide (orderKey e < orderKey d) || (orderKey e == orderKey d && decide (e.parkOrder < d.parkOrder))

/-- The command is parked. -/
def isParked (d : Desc) : Bool :=
  match d.st with
  | .parked _ _ => true
  | _ => false

/-- The command is waiting for a cell or in one's hands: it has not left service; of two copies both must have left it (R253, R262). -/
def unfinished (d : Desc) : Bool := d.st == .queued || d.st == .inService || (isParked d && d.copies != [])

/-- The other commands of a command's flow. -/
def flowMates (s : State) (t : Nat) (d : Desc) : List Desc :=
  (s.doc.descs.filter (fun p => p.2.flow == d.flow && p.1 != t)).map (·.2)

/-- The 256-number bound of R252. -/
def beyondBound (fl : Flow) (d : Desc) : Bool := d.behind.isNone && !fl.sparse && decide (d.seq ≥ fl.rel + 256)

/-- The atomic rules of R253. -/
def atomicBlocked (mates : List Desc) (d : Desc) : Bool :=
  mates.any (fun e => isEarlier e d && ((d.atomic && unfinished e) || (e.atomic && (unfinished e || isParked e))))

/-- Function codes that are atomic and not mirrored: each member executes them itself (R350, R368). -/
def notMirrored (function : Nat) : Bool := function == 0x0E10 || function == 0x0E40

/-- On a STANDBY, a command waits for the verdict under which the ORIGINATOR took it, and for the key state it was taken under there (R47, R99, R254, log 151). -/
def awaitsVerdict (s : State) (fl : Flow) (d : Desc) : Bool :=
  s.pair.role == .standby && !ownVerdicts s &&
  (match d.verdict with
   | some (.accept k) => decide (((gal s fl.sid.gallery).map (·.keyGen)).getD 0 < k)
   | some _ => false
   | none => true)

/-- The large frame of the command is still being copied (R68). -/
def isCopying (s : State) (fl : Flow) (d : Desc) : Bool :=
  d.large && !fl.remote && ((strm s fl.sid.fn fl.sid.stream).lfsCopy.map (·.2)) == some d.seq

/-- The conditions of the pair, of migration and of forwarding that block a command at the Docent (R254, R47, R99, R298, R302, R310, R309). -/
def pairBlocked (s : State) (fl : Flow) (d : Desc) : Bool :=
  d.forwardAt.isSome ||
  (d.originating && s.doc.blockOriginating) ||
  (s.pair.role == .standby && (d.originating && !s.pair.declaredLost)) ||
  awaitsVerdict s fl d ||
  (suspendedRole s && !notMirrored d.function) ||
  ((gal s fl.sid.gallery).map (·.arriving)).getD false

/-- A command that has taken its position may be taken (R250): queued, or parked with its object signalled. -/
def isReady (s : State) (t : Nat) (d : Desc) : Bool :=
  match mget s.doc.flows d.flow with
  | none => false
  | some fl =>
    let waits := d.st == .queued || (isParked d && d.signalled)
    waits && !fl.proxy && !isCopying s fl d && !beyondBound fl d && !(d.st == .queued && atomicBlocked (flowMates s t d) d) && !pairBlocked s fl d

/-- The head of a flow: its lowest ready command (R251). -/
def flowHead (s : State) (fi : Nat) : Option (Nat × Desc) :=
  (s.doc.descs.filter (fun p => p.2.flow == fi && isReady s p.1 p.2)).foldl (fun best p => match best with
    | none => some p
    | some b => if isEarlier p.2 b.2 then some p else some b) none

/-- The heads of all flows. -/
def heads (s : State) : List (Nat × Desc) := (mkeys s.doc.flows).filterMap (flowHead s)

/-- What is offered to the cells: the heads, and every parked command whose object has signalled, be it the head of its flow or not (R251, R258). -/
def offers (s : State) : List (Nat × Desc) :=
  let hs := heads s
  hs ++ s.doc.descs.filter (fun p => isParked p.2 && isReady s p.1 p.2 && hs.all (fun h => h.1 != p.1))

/-! Cells. -/

/-- A wing may take work (R255, R265, R369, R374). -/
def wingTakes (s : State) (w : Nat) : Bool :=
  let x := wing s w
  x.power == .run && x.waking.isNone && !x.quarantined && !x.retired && !s.pow.switching.contains w

/-- The length of the lock queue of an engine class in a wing. -/
def lockQueue (s : State) (w cls : Nat) : Nat :=
  match cls with
  | 2 => (wing s w).cen.queue.length
  | 3 => (wing s w).hsu.queue.length
  | 4 => (wing s w).pku.queue.length
  | _ => 0

/-- The engine class that a command's function uses first. -/
def firstEngine (d : Desc) : Nat := ((fnSpec d.function).bind (fun x => (x.engines d.frame).head?)).getD 0

/-- The waiting cells that may take a command: of a wing in RUN on which it has not failed, and for a secondary copy of another wing than the primary's (R255, R261, R323). -/
def eligible (s : State) (d : Desc) : List WaitingCell :=
  s.doc.waiting.filter (fun c => wingTakes s (c.cell / 8) && !d.badWings.contains (c.cell / 8) &&
    d.copies.all (fun k => k.cell / 8 != c.cell / 8))

/-- The cell that takes a command: shortest lock queue, then longest wait, then lowest index (R255). -/
def chooseCell (s : State) (d : Desc) : Option WaitingCell :=
  (eligible s d).foldl (fun best c => match best with
    | none => some c
    | some b =>
      let x := lockQueue s (c.cell / 8) (firstEngine d)
      let y := lockQueue s (b.cell / 8) (firstEngine d)
      if x < y ∨ (x = y ∧ (c.since < b.since ∨ (c.since = b.since ∧ c.cell < b.cell))) then some c else some b) none

/-! The choice of R251. -/

/-- The first element beyond `last` in rising order of key, else the first of all. -/
def nextRound (last : Option Nat) (l : List Nat) : Option Nat :=
  let m := l.foldl (fun b x => match b with | none => some x | some y => some (min x y)) none
  let up := (l.filter (fun x => match last with | some y => decide (y < x) | none => true)).foldl
    (fun b x => match b with | none => some x | some y => some (min x y)) none
  up <|> m

/-- The oldest of some heads by admission. -/
def oldestHead (l : List (Nat × Desc)) : Option (Nat × Desc) :=
  l.foldl (fun best p => match best with
    | none => some p
    | some b => if p.2.admitAt < b.2.admitAt ∨ (p.2.admitAt = b.2.admitAt ∧ p.2.parkOrder < b.2.parkOrder) then some p else some b) none

/-- The head chosen among those offered (R251, R258): every 16th take the longest wait; else the highest level, re-offered parked commands first, galleries and then flows in turn. -/
def chooseHead (s : State) (l : List (Nat × Desc)) : Option (Nat × Desc) :=
  if s.doc.takes % 16 = 15 then oldestHead l
  else
    let lev := l.foldl (fun a p => max a p.2.prio) 0
    let l := l.filter (fun p => p.2.prio == lev)
    let parkedOnes := l.filter (fun p => isParked p.2)
    if parkedOnes ≠ [] then
      parkedOnes.foldl (fun best p => match best with
        | none => some p
        | some b => if p.2.parkOrder < b.2.parkOrder then some p else some b) none
    else
      let galOf := fun (p : Nat × Desc) => ((mget s.doc.flows p.2.flow).map (·.sid.gallery)).getD 0
      match nextRound (mget s.doc.lastGallery lev) (l.map galOf) with
      | none => none
      | some g =>
        let l := l.filter (fun p => galOf p == g)
        match nextRound (mget s.doc.lastFlow (8 * g + lev)) (l.map (·.2.flow)) with
        | none => none
        | some fi => l.find? (fun p => p.2.flow == fi)

/-! The checks of R93. -/

/-- A reserved field or flag set, or a handle layout broken (R84 to R86, R93 step 8). -/
def malformedFrame (sp : FnSpec) (sealed : Bool) (f : Bytes) : Bool :=
  let ks := sp.keys f
  bits (hdrFlags f) 7 2 != 0 || (hdrFnFlags f &&& (255 - sp.flagMask)) != 0 || bit (byteAt f 4) 7 || hdrReserved f != 0 ||
  decide (hdrHandles f > 8) || decide (8 * hdrHandles f > hdrLength f) || (!sealed && hdrSeal f != 0) ||
  hdrHandles f != ks.length || !(ks.zipIdx.all (fun p => handleOk p.1 (handleAt f p.2))) || !sp.reservedOk f

/-- Checks 6 to 9 of R93, with the life-cycle limit of Table 14-4. -/
def checkFrame (s : State) (sid : StreamId) (sealed : Bool) (d : Desc) : Option Nat :=
  match fnSpec d.function with
  | none => some Status.unknownFunction
  | some sp =>
    if d.function / 256 = 0x0E && !(sid.gallery == 0 && hasRight (windowRow s sid.fn) 10 rightADM) then some Status.accessDenied
    else if (sp.privilege.map (fun b => !bit d.privileges b)).getD false || (asksNonce d.frame && !bit d.privileges 1) then some Status.accessDenied
    else if s.reg.state = 3 && d.function / 256 != 0x0F && d.function != 0x0E40 then some Status.accessDenied
    else if malformedFrame sp sealed d.frame then some Status.malformed
    else if !sp.lengthOk d.frame then some Status.badLength
    else none

/-- Check 10: each handle in order, the first failure deciding. The keys found are held by the command, which wing `w` takes. -/
def takeKeys (w t g : Nat) (rights : List Nat) (f : Bytes) : List (KeyReq × Nat) → State → List (Option HeldKey) → (Option Nat × List (Option HeldKey) × State)
  | [], s, acc => (none, acc.reverse, s)
  | (r, i) :: rest, s, acc =>
    match (gal s g).map (fun x => resolveKey x rights f r (handleAt f i)) with
    | none => (some Status.accessDenied, acc.reverse, s)
    | some (KeyLook.bad st) => (some st, acc.reverse, if st = Status.keyRevoked then discardBroken g f (handleAt f i) s else s)
    | some KeyLook.none_ => takeKeys w t g rights f rest s (none :: acc)
    | some (KeyLook.key k) =>
      let (k, s) := holdKey w t g k s
      takeKeys w t g rights f rest s (some k :: acc)

/-- A command that this member does not originate is answered MIRROR_LOST (R299, R300); PAIR_TAKEOVER has its own refusals (Table 12-6, log 33). -/
def mirrorLost (s : State) (sp : Option FnSpec) (d : Desc) : Bool :=
  d.function != 0x0E31 && ((d.originating && s.pair.role == .refusing && !s.pair.dualAct) ||
  (s.pair.dualAct && ((sp.map (fun x => x.noDualAct d.frame)).getD false || d.function / 256 == 0x0E ||
    (d.originating && (finiteKey s (((mget s.doc.flows d.flow).map (·.sid.gallery)).getD 0) d.frame)))))

/-- The change is no state step of its command, so a re-dispatch makes it anew: an operation's state, or a hardware nonce (R152, R324). -/
def isTransient (c : Change) : Bool :=
  match c with
  | .spanOp _ _ _ | .nonce _ => true
  | _ => false

/-- The open operation that a later frame names: of the same function, opened on the same stream (R152). -/
def namedOp (g : Gallery) (sid : StreamId) (d : Desc) : Option SpanOp :=
  match (spanOpOf d.frame).bind (fun o => mget g.ops o) with
  | some o => if o.function = d.function ∧ o.sid = sid then some o else none
  | none => none

/-- The end of the operation that a command names, if it names one (R152). -/
def endsOp (s : State) (d : Desc) : List Change :=
  match mget s.doc.flows d.flow with
  | none => []
  | some fl =>
    match (gal s fl.sid.gallery).bind (fun g => namedOp g fl.sid d) with
    | some o => [.spanOp fl.sid.gallery o.opId none]
    | none => []

/-- The key of an operation, or an ancestor of it, is no longer live: a later frame taken now is answered KEY_REVOKED (R152). -/
def opKeyLost (g : Gallery) (o : SpanOp) : Option Nat :=
  match o.key with
  | none => none
  | some k =>
    if g.damaged.contains k.slot then some Status.engineFault
    else match recordAt g k.slot with
      | some r => if isKey r && r.generation == k.generation then chainFault g 8 r else some Status.keyRevoked
      | none => some Status.keyRevoked

/-- What the cell finds before the function's own checks: a refusal, or the keys (R93 steps 6 to 10, R280, R299). -/
def takeChecks (w t : Nat) (sid : StreamId) (sealed : Bool) (d : Desc) (s : State) : Option Nat × List (Option HeldKey) × State :=
  let sp := fnSpec d.function
  if mirrorLost s sp d then (some Status.mirrorLost, [], s)
  else if gal s sid.gallery = none then (some Status.accessDenied, [], s)
  else match checkFrame s sid sealed d with
    | some st => (some st, [], s)
    | none =>
      let ks := (sp.map (fun x => x.keys d.frame)).getD []
      let (r, keys, s) := takeKeys w t sid.gallery d.rights d.frame ks.zipIdx s []
      match r with
      | some st => (some st, keys, s)
      | none =>
        match ((gal s sid.gallery).bind (fun g => (namedOp g sid d).bind (opKeyLost g))) with
        | some st => (some st, keys, s)
        | none =>
          if s.rng.fatal && (sp.map (fun x => x.random d.frame)).getD false then (some Status.entropyFailed, keys, s)
          else (none, keys, s)

/-! Hand-over. -/

/-- The value DOC_TAKE returns on a hand-over (Table 10-2). -/
def takeWord (d : Desc) (g t : Nat) (secondary : Bool) : W64 :=
  BitVec.ofNat 64 (1 + 2 * b2n secondary + 4 * b2n d.atomic + 8 * b2n d.originating + 16 * b2n d.isLocal + 32 * d.prio +
    256 * min 7 d.retry + 2048 * b2n (d.traceFlag || d.traceRandom) + 4096 * g + 2 ^ 32 * d.flow + 2 ^ 48 * t)

/-- The value of DOC_TAKE_FRAME: the staging unit is the Docent's own allocation, which the spec leaves open (Table 10-4, log 13). -/
def takeFrameWord (unit now : Nat) (d : Desc) : W64 :=
  let left := match d.deadline with
    | some t => sat 0xFFFFFFFE ((t - now) / 1000)
    | none => 0xFFFFFFFF
  BitVec.ofNat 64 (unit % 65536 + 65536 * b2n d.large + 2 ^ 32 * left)

/-- The takes and hand-backs of the last 1.024 ms (Table 10-14). -/
def recentLoad (now : Nat) (l : List (Nat × Bool)) : List (Nat × Bool) := l.takeWhile (fun p => decide (now < p.1 + 1024000))

/-- A ceremony is open (R200). -/
def ceremonyOpen (s : State) : Bool :=
  s.pow.mode == .service && s.pow.ceremony && !s.ao.lockout && (mgetD s.ao.inputs 0 {}).level && (mgetD s.ao.inputs 1 {}).level

/-- What the first take fixes: rights and privileges as they stand, whether dispatch is dual, the checks and the keys, and the place in the order of service (R93, R97, R98, R262). -/
def firstTake (c t : Nat) (sid : StreamId) (sealed : Bool) (d : Desc) (s : State) : Desc × State :=
  let g := gal s sid.gallery
  let d := { d with
    rights := (g.map (·.rights)).getD [], privileges := (g.map (·.desc.privileges)).getD 0
    dual := s.doc.dual && !d.isLocal, entry := some s.doc.parkCount, ceremony := ceremonyOpen s }
  let (r, keys, s) := takeChecks (c / 8) t sid sealed d (nextOrder s)
  let lost := r = some Status.keyRevoked ∨ r = some Status.engineFault
  ({ d with
    changes := if lost then d.changes ++ endsOp s d else d.changes
    keys := keys, seen := (g.map (·.records)).getD [], seenDesc := g.map (·.desc), resp := (r.map statusOnly) <|> d.resp, keyGen := some ((g.map (·.keyGen)).getD 0) }, s)

/-- The ORIGINATOR's verdict on a command that is taken, under dual dispatch by its second cell: it passed its quotas and its deadline, and sees this key state (R47, R94, R99, R262, log 151). -/
def sendAccept (sid : StreamId) (d : Desc) (s : State) : State := sendVerdict sid d.seq (.accept (d.keyGen.getD 0)) s

/-- The retry of a command whose key-cache entry failed fetches its keys again, as its first take saw them (R320, R324). -/
def refetchKeys (w t g : Nat) (d : Desc) (s : State) : Desc × State :=
  let (keys, s) := d.keys.foldl (fun (a : List (Option HeldKey) × State) k =>
    match k with
    | some k =>
      let (k, s) := holdKey w t g k a.2
      (a.1 ++ [some k], s)
    | none => (a.1 ++ [none], a.2)) ([], s)
  ({ d with keys := keys, refetch := false }, s)

/-- Hands a copy of a command to a cell (R255): registers, descriptor, and at the first copy of the first take the checks and the keys. -/
def giveTo (c : Nat) (t : Nat) (d : Desc) (s : State) : State :=
  let fl := (mget s.doc.flows d.flow).getD { sid := { gallery := 0, place := 0, fn := 0, stream := 0 }, next := 0, rel := 0 }
  let sid := fl.sid
  let secondary := d.copies.any (fun k => !k.secondary)
  let s := settleCell c s
  let (unit, s) := freeNumber s
  let first := !secondary && d.keyGen.isNone
  let (d, s) := if first then firstTake c t sid fl.sealed d s else if d.refetch && !secondary then refetchKeys (c / 8) t sid.gallery d s else (d, s)
  let s := if (if d.dual then secondary else first) then sendAccept sid d s else s
  let wait := s.now - d.admitAt
  let s := if !first then s else
    let b := 32 * d.prio + histBin wait
    { s with doc := { s.doc with hist := mset s.doc.hist b (sat 0xFFFFFFFF (mgetD s.doc.hist b 0 + 1)) } }
  let copy : Copy := { cell := c, secondary := secondary, complete := false, takenAt := s.now }
  let d := { d with
    st := .inService
    copies := if secondary then d.copies ++ [copy] else copy :: d.copies
    cell := if secondary then d.cell else c
    takeAt := if secondary then d.takeAt else some s.now
    holds := if secondary then d.holds else []
    counts := if d.function = 0x0F01 then windowCounts s (sid.place == placement s) sid.fn sid.gallery else []
    signalled := false }
  let w := takeWord d sid.gallery t secondary
  let s := { s with doc := { s.doc with
    descs := mset s.doc.descs t d
    waiting := s.doc.waiting.filter (fun x => x.cell != c)
    takes := if secondary then s.doc.takes else s.doc.takes + 1
    lastGallery := if secondary then s.doc.lastGallery else mset s.doc.lastGallery d.prio sid.gallery
    lastFlow := if secondary then s.doc.lastFlow else mset s.doc.lastFlow (8 * sid.gallery + d.prio) d.flow } }
  let s := updCell c (fun r => { r with
    take := w
    takeSeq := BitVec.ofNat 64 (d.seq + 2 ^ 48 * d.function)
    takeFrame := takeFrameWord unit s.now d
    held := some t, secondary := secondary
    history := (s.now, true) :: recentLoad s.now r.history }) s
  let s := { s with pow := { s.pow with lastTake := mset s.pow.lastTake (c / 8) s.now, awaited := s.pow.awaited.filter (· != c / 8) } }
  countEvent (c / 8) 3 1 (some sid.gallery) s

/-- Applies the changes of operations that span frames: a frame updates its operation only when it completes (R152). -/
def applyOps (cs : List Change) (s : State) : State :=
  cs.foldl (fun s c => match c with
    | .spanOp g o (some x) => updGal g (fun y => { y with ops := mset y.ops o { x with idleAt := some (idleEnd s), idleOrder := s.doc.parkCount } }) s
    | .spanOp g o none => updGal g (fun y => { y with ops := mdel y.ops o }) s
    | _ => s) s

/-- The descriptor of a gallery homed elsewhere, with its home: known here, or held with a loan copy. -/
def homeOf (s : State) (g : Nat) : Option Descriptor :=
  match gal s g with
  | some x => x.loanCopy.map (fun c => { x.desc with home := c.home })
  | none => mget s.vit.remote g

/-- The home of a gallery learns that a stream of a window here is enabled, or that its ACTIVE has returned to 0 (R248, log 148). -/
def tellStream (sid : StreamId) (body : Forwarded) (s : State) : State :=
  match homeOf s sid.gallery with
  | some d => sendTo 2 (homeModule s d) (.forward sid body) s
  | none => s

/-- The partner learns that a sealed stream is active here under an epoch, or no longer (R290, log 183). -/
def noteSeal (sid : StreamId) (live : Bool) (s : State) : State :=
  if s.pair.linkUp then
    sendPartner 1 (.position (.seals sid (((gal s sid.gallery).map (fun g => mgetD g.sealEpochs sid.stream 0)).getD 0) live)) s
  else s

/-- The window's streams seal nothing any longer: their identities are inactive here (R72, R290). -/
def dropSeals (fn : Nat) (s : State) : State :=
  match (win s fn).gallery with
  | some g =>
    let gone := (((gal s g).map (·.sealLive)).getD []).filter (fun k => k / 65536 == fn)
    gone.foldl (fun s k => noteSeal { gallery := g, place := placement s, fn := fn, stream := k % 65536 } false s)
      (updGal g (fun x => { x with sealLive := x.sealLive.filter (fun k => k / 65536 != fn) }) s)
  | none => s

/-- Closes the flows of a window that hold nothing any longer, tells the homes of those served elsewhere, and closes the minutes that waited for them (R51, R79, R248). -/
def closeFlows (fis : List Nat) (s : State) : State :=
  let gone := s.doc.flows.filter (fun p => fis.contains p.1 && !(s.doc.descs.any (fun d => d.2.flow == p.1)))
  let s := gone.foldl (fun s p => tellStream p.2.sid .closes s) s
  let s := { s with doc := { s.doc with flows := s.doc.flows.filter (fun p => !(gone.any (fun q => q.1 == p.1))) } }
  gone.foldl (fun s p => closeMinute p.2.sid.gallery s) s

/-- No stream of its window holds the flow any longer. -/
def isOrphan (s : State) (fi : Nat) (fl : Flow) : Bool := if fl.remote then fl.openers == [] else (strm s fl.sid.fn fl.sid.stream).flow != some fi

/-- A discarded command that has left service holds nothing any longer: its descriptor is freed, and with the last of them a flow that its window has given up (R38, R79, R268). -/
def leaveService (t : Nat) (s : State) : State :=
  match desc s t with
  | some d =>
    if d.discard && d.st == .done then
      let s := dropHolds t { s with doc := { s.doc with descs := mdel s.doc.descs t } }
      match mget s.doc.flows d.flow with
      | some fl => if isOrphan s d.flow fl then closeFlows [d.flow] s else s
      | none => s
    else s
  | none => s

/-- The Docent's own answer to a command: done, with a status and no payload (R257). -/
def docentAnswer (t st : Nat) (s : State) : State :=
  let s := match desc s t with
    | some d => match mget s.doc.flows d.flow with
      | some fl => setIdle fl.sid d (some (idleEnd s)) s
      | none => s
    | none => s
  leaveService t (updDesc t (fun d => { d with st := .done, resp := some (statusOnly st), doneAt := some s.now, copies := [] }) s)

/-- The command has begun to change state or to use a key, so it runs to completion whatever its deadline (R94). -/
def hasBegun (d : Desc) : Bool := d.begun || d.executed || d.stepped != [] || d.resp.isSome

/-- A take that finds the deadline passed answers TIMEOUT, and the partner has the verdict (R94, R257). -/
def timeoutTake (t : Nat) (d : Desc) (s : State) : State :=
  let s := match mget s.doc.flows d.flow with
    | some fl => sendVerdict fl.sid d.seq (.answer Status.timeout) s
    | none => s
  docentAnswer t Status.timeout s

/-- Takes go on: the module serves or drains, and no contained halt stops them (R328, R343). -/
def takesRun (s : State) : Bool :=
  (s.pow.mode == .service || s.pow.mode == .quiesce || s.pow.mode == .update) && s.err.halting.isNone

/-- A command waiting for its secondary copy (R261). -/
def pendingSecondary (s : State) : List (Nat × Desc) :=
  s.doc.descs.filter (fun p => p.2.dual && p.2.st == .inService && p.2.copies.length == 1 && p.2.copies.all (fun k => !k.secondary))

/-- Hands ready work to waiting cells until there is none that fits, on fuel (R251, R255, R257, R261). -/
def handOver : Nat → State → State
  | 0, s => s
  | fuel + 1, s =>
    if !takesRun s then s
    else match (pendingSecondary s).find? (fun p => (chooseCell s p.2).isSome) with
      | some p =>
        match chooseCell s p.2 with
        | some c => handOver fuel (giveTo c.cell p.1 p.2 s)
        | none => s
      | none =>
        match chooseHead s ((offers s).filter (fun p => (chooseCell s p.2).isSome)) with
        | none => s
        | some p =>
          if p.2.expired && !hasBegun p.2 then handOver fuel (timeoutTake p.1 p.2 s)
          else match chooseCell s p.2 with
            | some c => handOver fuel (giveTo c.cell p.1 p.2 s)
            | none => s

/-- The classes of the commands that no cell has taken, as the keys they name now make them (R96, R98). -/
def reclass (s : State) : State :=
  { s with doc := { s.doc with descs := s.doc.descs.map (fun p =>
    if p.2.st = .queued ∧ p.2.keyGen = none then
      match mget s.doc.flows p.2.flow with
      | some fl =>
        let k := classOf s fl.sid.gallery p.2.frame
        (p.1, { p.2 with atomic := k.1, originating := k.2 })
      | none => p
    else p) } }

/-- Offers ready work: enough rounds for every waiting cell and every expired command. -/
def offerReady (s : State) : State :=
  if s.doc.waiting = [] then s else handOver (s.doc.waiting.length + s.doc.descs.length + 1) (reclass s)

/-! Hand-back. -/

/-- A cell no longer holds a command. -/
def freeCell (c : Nat) (s : State) : State :=
  let s := settleCell c s
  updCell c (fun r => { r with held := none, secondary := false, history := (s.now, false) :: recentLoad s.now r.history }) s

/-- Frees the cells that still hold a command's copies. -/
def freeCopies (t : Nat) (d : Desc) (s : State) : State :=
  d.copies.foldl (fun s k => if (cellRegs s k.cell).held = some t then freeCell k.cell s else s) s

/-- Changes go to the partner as deltas: from the ORIGINATOR, and from the active member of a resynchronisation (R291, R302). -/
def mirrors (s : State) : Bool :=
  s.pair.linkUp && (s.pair.role == .originator || (s.pair.resync.map (·.active)).getD false)

/-- Sends changes as the next delta, behind a copy that is under way (R291, R302). -/
def mirrorChanges (cs : List Change) (s : State) : State :=
  if !mirrors s then s
  else
    let del : Delta := { number := s.pair.lastDelta + 1, changes := cs }
    let s := { s with pair := { s.pair with lastDelta := del.number, unacked := s.pair.unacked ++ [del] } }
    if (s.pair.resync.map (fun r => !r.ended)).getD false then { s with pair := { s.pair with waitingDeltas := s.pair.waitingDeltas ++ [del] } }
    else sendPartner 1 (.delta del) s

/-- Sends the delta of an originating command to the STANDBY: its response, its journal entry if it has one, and what it changed (R291). -/
def sendDelta (t : Nat) (sid : StreamId) (d : Desc) (r : Resp) (entry : Bool) (s : State) : State :=
  if mirrors s then
    updDesc t (fun d => { d with delta := some (s.pair.lastDelta + 1) })
      (mirrorChanges (.response sid d.seq r :: ((if entry then [.journal (journalOf d sid r)] else []) ++ d.changes)) s)
  else s

/-- The gallery whose copied state a change is of. -/
def changedGallery (c : Change) : Option Nat :=
  match c with
  | .vrecord g _ _ | .accession g _ | .fence g _ _ | .spanOp g _ _ | .sealEpoch g _ _ | .gallery g _ _ _ | .rights g _ _ | .meterAck g _ => some g
  | _ => none

/-- While a gallery migrates, each change follows its copy as a delta (R310). -/
def sendStateDelta (sid : StreamId) (d : Desc) (r : Resp) (s : State) : State :=
  match (gal s ((d.changes.findSome? changedGallery).getD sid.gallery)).bind (·.migration) with
  | none => s
  | some m =>
    sendTo 3 m.home (.stateData (.delta { number := 0, changes := .journal (journalOf d sid r) :: d.changes })) s

/-- The gallery of a change of key state. -/
def fencedGallery (c : Change) : Option Nat :=
  match c with
  | .fence g _ _ => some g
  | _ => none

/-- Sends a key-state change to each loan of the gallery that it concerns; those that are not suspended are waited for (R314). -/
def sendLoanDeltas (t : Nat) (d : Desc) (s : State) : State :=
  match d.changes.findSome? fencedGallery with
  | none => s
  | some i =>
    match gal s i with
    | none => s
    | some g =>
      let ls := (g.loans.filter (fun p => p.2.copied)).map (·.1)
      if ls = [] then s
      else
        let n := g.loanSeq + 1
        let s := updGal i (fun g => { g with loanSeq := n }) s
        let s := ls.foldl (fun s m => sendTo 1 m (.loanDelta i { number := n, changes := d.changes }) s) s
        let live := ls.filter (fun m => !((mget g.loans m).map (·.suspended)).getD true)
        updDesc t (fun d => { d with loanWait := live, loanSentAt := s.now, loanSeq := n, loanGallery := i }) s

/-- The command is originated inside the dual-act window, without mirroring (R88, R299): a cell took it, and its answer is not MIRROR_LOST. -/
def inDualAct (s : State) (d : Desc) (r : Resp) : Bool :=
  s.pair.dualAct && (s.pair.role == .sole || s.pair.role == .refusing) && d.originating && d.keyGen.isSome && r.status != Status.mirrorLost

/-- The result of an originating command is out: its operation's state is applied, and it goes to the partner, to the loans and to a migration's new placement (R100, R152, R291, R310, R314). -/
def spread (t : Nat) (fl : Flow) (d : Desc) (r : Resp) (entry : Bool) (s : State) : State :=
  let s := applyOps d.changes (setIdle fl.sid d (some (idleEnd s)) s)
  let s := updDesc t (fun d => { d with st := .done, resp := some r, doneAt := some s.now, unmirrored := inDualAct s d r }) s
  sendStateDelta fl.sid d r (sendLoanDeltas t d (sendDelta t fl.sid d r entry s))

/-- A command whose result no journal page can take waits for one (R102). -/
def waitPage (t : Nat) (fl : Flow) (s : State) : State :=
  updDesc t (fun d => { d with st := .parked 2 (((gal s fl.sid.gallery).map (·.index)).getD 0), parkOrder := s.doc.parkCount, copies := [], signalled := false }) (nextOrder s)

/-- A frame that is not answered by its own execution leaves no operation behind it: one that it opened or went on with ends (R152). -/
def endedOps (g : Nat) (cs : List Change) : List Change :=
  cs.map (fun c => match c with
    | .spanOp _ o (some _) => .spanOp g o none
    | c => c)

/-- A command is done: its result is journaled and mirrored once when it is originating (R100, R256, R291); with no journal page to take it waits for one (R102). -/
def finish (t : Nat) (s : State) : State :=
  match desc s t with
  | none => s
  | some d =>
    match mget s.doc.flows d.flow, d.resp with
    | some fl, some r =>
      let s := dropHolds t s
      if d.originating && d.doneAt.isSome then updDesc t (fun d => { d with st := .done }) s
      else if d.originating then
        match putJournal fl.sid.gallery (journalOf d fl.sid r) s with
        | none => waitPage t fl s
        | some s => leaveService t (spread t fl d r true s)
      else leaveService t (updDesc t (fun d => { d with st := .done, doneAt := some s.now }) s)
    | _, _ => s

/-- The Docent ends a command that a cell has taken with a status: an operation that the frame opened, or names, ends; of an originating command the result is journaled and goes to the partner (R100, R106, R152, R153, R257, R323); of a replayable one the partner has the verdict (R107, log 157). With no journal page, one that has changed state waits for it, and one that has not is answered without an entry, as in the journal wait itself (R94, R102). -/
def endCommand (t st : Nat) (s : State) : State :=
  match desc s t with
  | none => s
  | some d =>
    match mget s.doc.flows d.flow with
    | none => docentAnswer t st s
    | some fl =>
      let s := dropHolds t (freeCopies t d s)
      let d := { d with changes := endedOps fl.sid.gallery d.changes ++ endsOp s d, copies := [], resp := some (statusOnly st), resp2 := none }
      let s := updDesc t (fun _ => d) s
      if d.originating then
        match putJournal fl.sid.gallery (journalOf d fl.sid (statusOnly st)) s with
        | some s => leaveService t (spread t fl d (statusOnly st) true s)
        | none => if d.executed || d.stepped != [] then waitPage t fl s else leaveService t (spread t fl d (statusOnly st) false s)
      else
        let s := applyOps d.changes s
        docentAnswer t st (sendVerdict fl.sid d.seq (.answer st) s)

/-- The ignored DOC_DONE write of R256, in the event log: cell and ticket. -/
def ignoredDone (c t : Nat) (s : State) : State := logRecord 0x00A0 c 0 (leBytes 2 c ++ leBytes 2 t) s

/-- The answer of an interrupted take stands: it has changed state, or a check refused the command before any step (R324). -/
def keepsAnswer (d : Desc) : Bool := d.executed || (decide (((d.resp.map (·.status)).getD 0) ≠ 0) && d.stepped == [])

/-- An instance serves: the start-up is done, it is instantiated, and below its hard limit (R274, R279). -/
def instServes (s : State) (n : Nat) : Bool :=
  match mget s.rng.drbgs n with
  | some x => s.rng.startupDone && decide (x.requests < 2 ^ 32)
  | none => false

/-- The function applies the engine of a target: 2 cipher, 3 hash, 4 PK (R41). -/
def usesEngine (d : Desc) (target : Nat) : Bool := ((fnSpec d.function).map (fun x => (x.engines d.frame).contains target)).getD false

/-- A copy in service waits for a mask seed of its wing's cipher engine: its claim is queued there, or its function needs the engine and has not run (R209, R216, R217). -/
def waitsForSeed (s : State) (d : Desc) (k : Copy) : Bool :=
  let e := (wing s (k.cell / 8)).cen
  d.st == .inService && !k.complete && d.resp.isNone && !e.seedReady && e.owner != some (k.cell % 8) && (e.queue.contains (k.cell % 8) || usesEngine d 2)

/-- A mask instance whose seed cannot be renewed any more: fatal alarm and hard limit (R217). -/
def maskExhausted (s : State) (w : Nat) : Bool := s.rng.fatal && !(wing s w).cen.seedReady && !instServes s (4096 + w)

/-- Puts a command back to ready for another take (R256, R265, R324): its retry count rises, the draws of the interrupted take are dropped, the steps it made are kept. An answer that stands keeps all it changed, the end of its operation included (R152). -/
def reoffer (t : Nat) (badWings : List Nat) (s : State) : State :=
  updDesc t (fun d => { d with
    st := .queued
    retry := min 7 (d.retry + 1)
    badWings := (d.badWings ++ badWings).eraseDups
    begun := true
    copies := []
    nonces := []
    nonceTaken := 0
    resp2 := none
    resp := if keepsAnswer d then d.resp else none
    changes := if keepsAnswer d then d.changes else d.changes.filter (fun c => !isTransient c) }) s

/-- A COMMAND-scope failure of a command: re-offered, or answered ENGINE_FAULT at the third failure (R323). -/
def failCommand (t : Nat) (wings : List Nat) (s : State) : State :=
  match desc s t with
  | none => s
  | some d =>
    let s := updDesc t (fun d => { d with fails := d.fails + 1 }) (freeCopies t d s)
    if d.fails + 1 ≥ 3 then endCommand t Status.engineFault s else reoffer t wings s

/-! Holds (R264). -/

/-- Raises the hold count of flows. -/
def raiseHolds (fis : List Nat) (s : State) : State := fis.foldl (fun s fi => updFlow fi (fun f => { f with holds := f.holds + 1 }) s) s

/-- Lowers it again when the handler ends. -/
def lowerHolds (fis : List Nat) (s : State) : State := fis.foldl (fun s fi => updFlow fi (fun f => { f with holds := f.holds - 1 }) s) s

/-- The flows of some commands, each once. -/
def flowsOf (s : State) (ts : List Nat) : List Nat := (ts.filterMap (fun t => (desc s t).map (·.flow))).eraseDups

/-! Parks (R258). -/

/-- Re-offers the commands parked on the objects of a kind that have signalled, in the order they were parked (R258). -/
def signalParks (wait : Nat) (signals : Nat → Bool) (s : State) : State :=
  { s with doc := { s.doc with descs := s.doc.descs.map (fun p =>
    match p.2.st with
    | .parked w o => if w = wait && signals o then (p.1, { p.2 with signalled := true }) else p
    | _ => p) } }

/-- One object signals. -/
def signalPark (wait object : Nat) (s : State) : State := signalParks wait (fun o => o == object) s

/-- A gallery index for which a journal page is free or can be taken (R102). -/
def pageReady (s : State) (index : Nat) : Bool :=
  s.vit.galleries.any (fun p => p.2.index == index && (decide (journalFree s p.1 > 0) || (reclaimFrom s p.1).isSome))

/-- Every gallery signals that has a journal page for its commands (R102, R258). -/
def signalPages (s : State) : State := signalParks 2 (pageReady s) s

/-! The flows of a window. -/

/-- The flows of a window here. -/
def windowFlows (s : State) (fn : Nat) : List Nat :=
  (s.doc.flows.filter (fun p => p.2.sid.fn == fn && !p.2.remote)).map (·.1)

/-- A cell has taken the command, and it has not run to completion yet (R79). -/
def runsOn (d : Desc) : Bool := d.st == .inService || isParked d || (d.st == .queued && d.keyGen.isSome)

/-- Discards what a window's flows hold: commits no cell has taken and responses go at once, taken commands run on and their responses are discarded (R79). -/
def discardFlows (fis : List Nat) (s : State) : State :=
  let gone := s.doc.descs.filter (fun p => fis.contains p.2.flow && !runsOn p.2)
  let keep := s.doc.descs.filter (fun p => !(fis.contains p.2.flow && !runsOn p.2))
  let marked := keep.map (fun p => if fis.contains p.2.flow then (p.1, { p.2 with discard := true }) else p)
  let s := { s with doc := { s.doc with descs := marked } }
  let s := gone.foldl (fun s p => dropHolds p.1 s) s
  fis.foldl (fun s fi => updFlow fi (fun f => { f with held := [], gapAt := none }) s) s

/-- A window's registers at the values of their tables; its binding and an unbind in progress are not registers of it (R79). -/
def resetWindow (fn : Nat) (s : State) : State :=
  updWin fn (fun w => { gallery := w.gallery, unbind := w.unbind, lastState := w.lastState }) s

end Sys2Proof.Machine
end

