-- ==== Sys2Proof/Machine/GalleryBase.lean ====
section
/-!
DEFINITION. Galleries as they come, change and go: creation, descriptors, bindings, removal (R31 to R40, R43, R54).
-/

namespace Sys2Proof.Machine

/-- A gallery's descriptor as stored: a cut of its rates that waits for the tick is stored already (R48). -/
def storedDescriptor (s : State) (x : Gallery) : Descriptor :=
  match s.doc.quotaChanges.find? (fun q => q.gallery == x.desc.id) with
  | some q => { x.desc with cmdRate := q.cmdRate, cmdBurst := q.cmdBurst, pkRate := q.pkRate, pkBurst := q.pkBurst }
  | none => x.desc

/-- The module IDs of this placement: its own or member A's, and member B's or 0xFFFF (Table 2-2). -/
def partnerField (s : State) : Nat :=
  match s.pair.member with
  | 0 => 0xFFFF
  | 1 => s.pair.partner
  | _ => s.img.set.moduleId

/-- The minute now open (R51). -/
def openMinute (s : State) : Nat := s.vit.minute - 1

/-- The lowest gallery index in use by no gallery here (R275). -/
def freeIndex (s : State) : Option Nat :=
  lowestFree ((mvals s.vit.galleries).foldl (fun m g => mset m g.index ()) ([] : Map Unit)) 4096

/-- A new gallery: its epoch from the creation counter, its number drawn, its root wrapping key derived, its row the image's default (R32, R35, R42, R174). -/
def newGallery (s : State) (d : Descriptor) (index inst : Nat) : Gallery :=
  { desc := d, index := index, inst := inst, rootKey := galleryRootKey s d.id d.epoch, rights := s.img.set.defaultRights
    cmdTokens := d.cmdBurst, pkTokens := d.pkBurst, meterFirst := openMinute s }

/-- The windows here that are bound to a gallery. -/
def boundWindows (s : State) (g : Nat) : List Nat := (s.fab.windows.filter (fun p => p.2.gallery == some g)).map (·.1)

/-- Binds a window to a gallery: its registers take the values of their tables (R9, R34). -/
def bindWindow (vf g : Nat) (s : State) : State :=
  refreshWindow vf (updWin vf (fun w => { gallery := some g, lastState := w.lastState }) s)

/-- Binds a window to a gallery, and learns the descriptor of one homed elsewhere (R34). -/
def bindFar (vf g : Nat) (far : Option Descriptor) (s : State) : State :=
  let s := match far with
    | some d => { s with vit := { s.vit with remote := mset s.vit.remote g d } }
    | none => s
  bindWindow vf g s

/-- A final record goes into the store, or waits for room in it (R39, R54). -/
def keepFinal (r : MeterRecord) (s : State) : State :=
  settleWaiting { s with vit := { s.vit with meterWaiting := s.vit.meterWaiting ++ [r] } }

/-- The final meter record, and before it the records of the minutes still closing (R39, R53). -/
def finalMeter (g : Nat) (s : State) : State :=
  let s := ((gal s g).map (·.closing)).getD [] |>.foldl (fun s c => writeMeter g c s) s
  match gal s g with
  | none => s
  | some x =>
    makeRecord g {
      marks := [], term := termNow s, record := true, counts := x.meter, first := x.meterFirst, extra := x.meterExtra
      records := recordsHeld x, loans := 0, final := true } keepFinal s

/-- METER_ACK covers a gallery's records up to a number; final records that waited take the room (R54). -/
def ackRecords (g n : Nat) (s : State) : State :=
  settleWaiting { s with vit := { s.vit with meterAcks := mset s.vit.meterAcks g (max n (mgetD s.vit.meterAcks g 0)) } }

/-- The commands of a gallery that is gone are answered ACCESS_DENIED: those not yet taken at their take, those taken or parked now (R39, R283). -/
def answerGone (g : Nat) (s : State) : State :=
  let ts := s.doc.descs.filter (fun p => (mget s.doc.flows p.2.flow).map (·.sid.gallery) == some g && (p.2.st == .inService || isParked p.2) && p.2.resp.isNone)
  ts.foldl (fun s p => docentAnswer p.1 Status.accessDenied (freeCopies p.1 p.2 s)) s

/-- Everything of a gallery goes: its records, journal and keys, its DRBG instance, its curve domains (R39, R275). -/
def dropGallery (g : Nat) (s : State) : State :=
  let i := ((gal s g).map (·.index)).getD 4096
  let s := answerGone g (discardGallery g s)
  let s := { s with
    vit := { s.vit with galleries := mdel s.vit.galleries g, domains := s.vit.domains.filter (fun d => d.1 != g) }
    rng := { s.rng with drbgs := mdel s.rng.drbgs i, queue := s.rng.queue.filter (fun q => q.inst != i) }
    doc := { s.doc with quotaChanges := s.doc.quotaChanges.filter (fun q => q.gallery != g) } }
  touchVitrine s

/-- The change takes effect: a cut of a rate or a burst at the next tick, everything else at once (R40, R48). -/
def putDescriptor (g : Nat) (d : Descriptor) (s : State) : State :=
  match gal s g with
  | none => s
  | some x =>
    let o := x.desc
    let now := { d with cmdRate := max o.cmdRate d.cmdRate, cmdBurst := max o.cmdBurst d.cmdBurst, pkRate := max o.pkRate d.pkRate, pkBurst := max o.pkBurst d.pkBurst }
    let rest := s.doc.quotaChanges.filter (fun q => q.gallery != g)
    let cut : List QuotaChange := if now = d then [] else
      [{ gallery := g, cmdRate := d.cmdRate, cmdBurst := d.cmdBurst, pkRate := d.pkRate, pkBurst := d.pkBurst }]
    let s := { s with doc := { s.doc with quotaChanges := rest ++ cut } }
    trimCache g (updGal g (fun x => { x with desc := now }) s)

/-- Sets one byte of a gallery's row. -/
def setRight (g target byte : Nat) (s : State) : State := updGal g (fun x => { x with rights := x.rights.set target byte }) s

/-- The VF whose row a gallery ID of GALLERY_RIGHTS names, if it names one: which IDs do is a free value (R43, R399, log 5). -/
def vfOf (g : Nat) : Option Nat :=
  let v := Config.vfNamedBy g
  if g < 2 ^ 20 ∨ v = 0 ∨ v > 1024 then none else some v

/-- The rights that a row named in GALLERY_RIGHTS can hold at a target: of a VF those that R20 wires to it, in no row ADM (R41, R43, Table 2-4). -/
def reachAt (g target : Nat) : Nat :=
  if (vfOf g).isSome then (if target = 10 then 5 else 0) else rightsAt target &&& 0xF

/-- Sets one byte of the row of a gallery or of a VF (R43). -/
def putRights (g target byte : Nat) (s : State) : State :=
  match vfOf g with
  | some v => { s with fab := { s.fab with vfRows := mset s.fab.vfRows v ((windowRow s v).set target byte) } }
  | none => setRight g target byte s

end Sys2Proof.Machine
end

