-- ==== Sys2Proof/Machine/Release.lean ====
section
/-!
DEFINITION. Release in sequence order (R263, R264, R292), publication (R23, R69, R70, R72, R74), and the replacement of unreleased responses (R328, R343, R370).
-/

namespace Sys2Proof.Machine

/-! Release conditions. -/

/-- A module condition under which every unreleased number is answered without regard to the partner (R328, R343). -/
def ending (s : State) : Bool := s.pow.mode == .tampered || s.pow.mode == .halt

/-- The delta of a command is acknowledged, or the pair link declared lost (R292). -/
def deltaSettled (s : State) (d : Desc) : Bool :=
  match d.delta with
  | some n => s.pair.declaredLost || !(s.pair.unacked.any (fun x => x.number == n))
  | none => true

/-- What a STANDBY waits for: the originator's verdict, and of an originating command that it accepted the delta; an answer out of position that needed no execution waits for neither (R47, R101, Table 12-3). -/
def standbyReleases (d : Desc) : Bool :=
  match d.verdict with
  | some (.accept _) => !d.originating || d.deltaApplied || d.keyGen.isNone
  | some _ => true
  | none => d.behind.isSome && d.keyGen.isNone

/-- The conditions of Table 12-3 on a done command; a stream whose gallery is homed elsewhere waits for its home alone. -/
def pairReleases (s : State) (fl : Flow) (d : Desc) : Bool :=
  fl.proxy ||
  match s.pair.role with
  | .unpaired | .sole | .refusing => true
  | .originator => !d.originating || deltaSettled s d
  | .standby => s.pair.declaredLost || standbyReleases d
  | .resync | .withdrawn => notMirrored d.function

/-- Every release condition of R263 and R292 for a done command of a flow. -/
def releasable (s : State) (fl : Flow) (d : Desc) : Bool :=
  d.st == .done && (ending s || (fl.holds == 0 && pairReleases s fl d && d.loanWait == [] && d.forwardAt.isNone))

/-- The command whose release is due at the release point: the number R, or an out-of-position response whose turn has come (R263); of a loan's stream the lowest number that came home (R314). -/
def dueAt (s : State) (fi : Nat) (fl : Flow) : Option (Nat × Desc) :=
  (s.doc.descs.filter (fun p => p.2.flow == fi && p.2.st != .released &&
    (match p.2.behind with
     | some b => decide (b ≤ fl.rel)
     | none => p.2.seq == fl.rel || fl.sparse))).foldl (fun best p => match best with
    | none => some p
    | some b => if isEarlier p.2 b.2 then some p else some b) none

/-- The local stream of a flow, unless its window lies on another module. -/
def localStream (fl : Flow) : Option (Nat × Nat) := if fl.remote then none else some (fl.sid.fn, fl.sid.stream)

/-- The command was originated here: a cell took it, and its answer is neither MIRROR_LOST nor from the journal. -/
def originatedHere (fl : Flow) (d : Desc) : Bool :=
  d.originating && !fl.proxy && !d.windowRefusal && !d.journaled && d.keyGen.isSome && (d.resp.map (·.status)) != some Status.mirrorLost

/-- The response carries UNMIRRORED: originated inside the dual-act window, or released after the pair link was lost without an acknowledgement of its delta (R88, R293, R299). -/
def isUnmirrored (s : State) (fl : Flow) (d : Desc) : Bool :=
  d.unmirrored || (originatedHere fl d && s.pair.declaredLost && (match d.delta with
    | some n => s.pair.unacked.any (fun x => x.number == n)
    | none => s.pair.role == .originator))

/-- Drops a descriptor. -/
def freeDesc (t : Nat) (s : State) : State :=
  dropHolds t { s with doc := { s.doc with descs := mdel s.doc.descs t } }

/-- Returns a response to every module that forwarded its command (R309). -/
def returnFar (fl : Flow) (d : Desc) (r : Resp) (s : State) : State :=
  d.askers.foldl (fun s m => sendTo 2 m (.forwardRsp fl.sid d.seq r { flags := respFlags d, cause := d.quotaCause, unsealed := d.unsealed }) s) s

/-- A distant stream's flow that no window uses any longer is freed once it holds nothing (R64, R248). -/
def closeRemote (fi : Nat) (s : State) : State :=
  match mget s.doc.flows fi with
  | some fl => if fl.remote && fl.openers == [] then closeFlows [fi] s else s
  | none => s

/-- Releases one done command: it is metered, its response takes the term of now, and goes to its window or back across the span (R52, R87, R263, R309). -/
def releaseOne (fi : Nat) (fl : Flow) (t : Nat) (d : Desc) (r : Resp) (s : State) : State :=
  let um := isUnmirrored s fl d
  let s := if fl.proxy then s else meterRelease fl.sid d r s
  let s := if paired s && originatedHere fl d && (um || s.pair.role == .sole) then
      { s with pair := { s.pair with unmirrored := (s.pair.lastDelta, journalOf d fl.sid r) :: s.pair.unmirrored } } else s
  let d := { d with st := .released, releaseAt := some s.now, unmirrored := d.unmirrored || um, term := termNow s }
  let s := updDesc t (fun _ => d) s
  match localStream fl with
  | some (fn, i) =>
    returnFar fl d r (updStrm fn i (fun st => { st with
      waiting := st.waiting ++ [{ ticket := t, seq := d.seq, releasedAt := s.now }]
      cntReleased := st.cntReleased + 1
      cntRefused := if isBilled r.status then st.cntRefused else st.cntRefused + 1 }) s)
  | none => closeRemote fi (freeDesc t (returnFar fl d r s))

/-- A stream's cut is reached when every number below it has been released: event 40, and STATE_END once every cut of the gallery is (R310). -/
def testCut (fi : Nat) (s : State) : State :=
  match mget s.doc.flows fi with
  | none => s
  | some fl =>
    match fl.cut with
    | none => s
    | some c =>
      if fl.cutReached || fl.rel < c then s
      else
        let s := latchEvent 40 (updFlow fi (fun f => { f with cutReached := true }) s)
        match (gal s fl.sid.gallery).bind (·.migration) with
        | none => s
        | some m =>
          if !m.stateEnded && (galleryFlows s fl.sid.gallery).all (fun p => p.2.cutReached) then
            updGal fl.sid.gallery (fun g => { g with migration := some { m with stateEnded := true } })
              (sendTo 3 m.home (.stateEnd fl.sid.gallery) s)
          else s

/-- Releases a flow from its release point on, while the conditions hold; fuel (R263). -/
def releaseFlow (fi : Nat) : Nat → State → State
  | 0, s => s
  | fuel + 1, s =>
    match mget s.doc.flows fi with
    | none => s
    | some fl =>
      match dueAt s fi fl with
      | none => s
      | some (t, d) =>
        match d.resp with
        | none => s
        | some r =>
          if !releasable s fl d then s
          else
            let s := releaseOne fi fl t d r s
            let s := if d.behind.isSome then s else updFlow fi (fun f => { f with rel := d.seq + 1 }) s
            releaseFlow fi fuel (testCut fi s)

/-- The release test of a flow, repeated as long as it releases; then the minute being closed may be complete (R263, R51). -/
def releaseAll (fi : Nat) (s : State) : State :=
  let s' := releaseFlow fi (s.doc.descs.length + 1) s
  match mget s'.doc.flows fi with
  | some fl => closeMinute fl.sid.gallery s'
  | none => s'

/-! Publication. -/

/-- The response frame as it is published: header and payload (R87). LATENCY runs from the commit to the publication (R22). -/
def responseFrame (s : State) (stream : Nat) (d : Desc) (r : Resp) : Bytes :=
  leBytes 2 r.status ++ leBytes 1 (respFlags d) ++ leBytes 1 r.fnFlags ++
  leBytes 1 (stream + 16 * (if d.windowRefusal then 0 else min 7 d.retry)) ++ leBytes 1 (memberCode s) ++ leBytes 6 d.seq ++
  leBytes 4 r.payload.length ++ leBytes 4 d.term ++ leBytes 4 (sat 0xFFFFFFFF ((s.now - d.commitAt) / 10)) ++
  zeros 8 ++ r.payload

/-- The frame with its seal tag, on a sealed stream that is still sealed for this response (R72, R73). -/
def sealResponse (st : Stream) (d : Desc) (f : Bytes) : Bytes :=
  match st.sealKeys with
  | some k => if st.sealed && !d.unsealed then f.take 24 ++ sealTag k.2 f ++ f.drop 32 else f
  | none => f

/-- Publishes a stream's oldest released response into its lowest free slot, or notes that it must wait (R69, R70, R74, R425, R426). -/
def publishNext (fn i : Nat) (s : State) : State :=
  let st := strm s fn i
  match st.waiting with
  | [] => s
  | r :: rest =>
    match lowestFree st.resp 8, desc s r.ticket with
    | none, _ => updStrm fn i (fun st => { st with respStall := true }) s
    | some _, none => updStrm fn i (fun st => { st with waiting := rest, respStall := false }) s
    | some k, some d =>
      match d.resp, mget s.doc.flows d.flow with
      | some rsp, some fl =>
        let f := sealResponse st d (responseFrame s i d rsp)
        let s := updStrm fn i (fun st => { st with
          waiting := rest
          resp := mset st.resp k { seq := d.seq, ticket := r.ticket, frame := f }
          slots := mset st.slots k (slice f 0 512)
          respStall := rest ≠ [] && decide (st.resp.length ≥ 7) }) s
        let s := latchReady fn i s
        let s := if isStreamError rsp.status then latchStreamErr fn i s else s
        traceCommand fn d fl.sid rsp.status (countLatency fl.sid.gallery (s.now - d.commitAt) s)
      | _, _ => updStrm fn i (fun st => { st with waiting := rest }) s

/-- Publishes whatever a stream's free slots allow; fuel 8. -/
def publishStream (fn i : Nat) : Nat → State → State
  | 0, s => s
  | fuel + 1, s => if (strm s fn i).waiting = [] then s else publishStream fn i fuel (publishNext fn i s)

/-! Replacement of unreleased responses. -/

/-- Every unreleased command of a flow, its held commits and the missing numbers below them are answered with a status in position; `keep`: done commands keep their responses (R343, R328). -/
def replaceFlow (keep : Bool) (st : Nat) (fi : Nat) (s : State) : State :=
  match mget s.doc.flows fi with
  | none => s
  | some fl =>
    let s := { s with doc := { s.doc with descs := s.doc.descs.map (fun p =>
      if p.2.flow = fi ∧ p.2.st ≠ .released ∧ ¬(keep = true ∧ p.2.st = .done) then
        (p.1, { p.2 with st := .done, resp := some (statusOnly st), doneAt := some s.now, copies := [], loanWait := [], forwardAt := none })
      else p) } }
    let top := fl.held.foldl (fun a h => max a h.seq) 0
    let missing := if fl.held = [] then [] else (List.range (top + 1 - fl.next)).map (· + fl.next)
    let s := missing.foldl (fun s q =>
      let a : Arrival := match fl.held.find? (fun h => h.seq == q) with
        | some h => { frame := h.frame, large := h.large, commitAt := h.commitAt, admitAt := h.admitAt, crossFed := h.crossFed, askers := h.askers }
        | none => { frame := [], large := false, commitAt := s.now, admitAt := s.now }
      addDesc { answeredWith st (descOf s fi fl a) s.now with seq := q } s) s
    updFlow fi (fun f => { f with held := [], gapAt := none, holds := 0, next := if fl.held = [] then f.next else top + 1 }) s

/-- The same over every flow, released at once in sequence order. -/
def replaceAll (keep : Bool) (st : Nat) (s : State) : State :=
  (mkeys s.doc.flows).foldl (fun s fi => releaseAll fi (replaceFlow keep st fi s)) s

/-- Publishes every stream's released responses. -/
def publishAll (s : State) : State :=
  s.fab.windows.foldl (fun s w => w.2.streams.foldl (fun s st => publishStream w.1 st.1 9 s) s) s

end Sys2Proof.Machine
end

