-- ==== Sys2Proof/Machine/Term.lean ====
section
/-!
DEFINITION. Changes of role and term (R285, R286, R296, Tables 12-2, 12-8).
-/

namespace Sys2Proof.Machine

/-- The roles in which PAIR_HB_OUT toggles (R296). -/
def rolePulses (r : Role) : Bool :=
  match r with
  | .originator | .standby | .sole | .refusing => true
  | _ => false

/-- PAI_LOSS as a word: TERM_BEFORE, CAUSE, AT (Table 12-8). -/
def paiLoss (p : Pair) : Nat := p.termBefore % 2 ^ 32 + 2 ^ 32 * p.cause + 2 ^ 35 * p.at_

/-- The anchor record takes role and term; while the power-fail warning is active it is owed (R286, R373). -/
def writeAnchor (s : State) : State :=
  if s.pow.failWarning then { s with vit := { s.vit with anchorOwed := true } }
  else { s with vit := { s.vit with anchorTerm := s.pair.term, anchorRole := roleCode s.pair.role, anchorOwed := false } }

/-- A change of role or term: PAI_LOSS, the anchor record, ISOLATED, the heartbeat, the event log (R285, R286, R296, Tables 12-8, 15-2, 17-3). -/
def setRole (role : Role) (term cause : Nat) (s : State) : State :=
  let s := { s with pair := { s.pair with
    termBefore := s.pair.term, role := role, term := term, cause := cause, at_ := bits (moduleTime s) 44 16
    hbPending := false, hbOut := s.pair.hbOut && rolePulses role } }
  let s := writeAnchor s
  let s := withMode (fun p => { p with isolated := isolatedRole role && p.mode == .service }) s
  logRecord 0x0070 s.pair.member 0 (leBytes 8 (paiLoss s.pair)) s

/-- CAUSE codes of Table 12-8. -/
abbrev causeWithdraw : Nat := 1
/-- Link lost, heartbeat live. -/
abbrev causeLive : Nat := 2
/-- Link lost, heartbeat silent. -/
abbrev causeSilent : Nat := 3
/-- PAIR_TAKEOVER. -/
abbrev causeTakeover : Nat := 4
/-- PAIR_SWAP. -/
abbrev causeSwap : Nat := 5
/-- Pair formed. -/
abbrev causeFormed : Nat := 6

end Sys2Proof.Machine
end

