-- ==== Sys2Proof/Machine/Deltas.lean ====
section
/-!
DEFINITION. What a delta does on the member that applies it (R47, R89, R91, R99, R291, R292), meter marks (R51, R53, R54), and the offering of work with the deltas that wait for it.
-/

namespace Sys2Proof.Machine

/-- The flow of a stream identity on this module; one that is only being emptied is not it. -/
def flowOf (s : State) (sid : StreamId) : Option Nat := (s.doc.flows.find? (fun p => p.2.sid == sid && !isOrphan s p.1 p.2)).map (·.1)

/-- The command in position at a number of a flow. -/
def placedAt (s : State) (fi q : Nat) : Option (Nat × Desc) :=
  s.doc.descs.find? (fun p => p.2.flow == fi && p.2.seq == q && p.2.behind.isNone && !p.2.discard)

/-! Verdicts and results. -/

/-- The command that a verdict on a number is for: a resubmission that still waits for one, else the command in position (R47, R92). -/
def judgedAt (s : State) (fi q : Nat) : Option (Nat × Desc) :=
  s.doc.descs.find? (fun p => p.2.flow == fi && p.2.seq == q && p.2.behind.isSome && !p.2.discard && p.2.verdict.isNone && p.2.st != .released && !(p.2.keyGen.isNone && p.2.resp.isSome))
  <|> placedAt s fi q

/-- A verdict changes nothing any more: the command was refused at its own window or is released; or it was accepted before, which no refusal at the window takes back. -/
def verdictStands (d : Desc) (v : Verdict) : Bool :=
  d.windowRefusal || d.st == .released ||
  (match d.verdict, v with
   | some (.accept _), .quota _ => true
   | some (.accept _), .answer st => !(st / 256 == 5 || st / 256 == 7)
   | _, _ => false)

/-- A command is ended where it stands with a status: what its copies hold is freed, and the idle timer of its operation starts (R152). -/
def endUnder (t : Nat) (fl : Flow) (d : Desc) (v : Verdict) (s : State) : State :=
  let s := updDesc t (fun d => { underVerdict v d s.now with copies := [] }) (dropHolds t (freeCopies t d s))
  setIdle fl.sid d (some (idleEnd s)) s

/-- A verdict of the originating member on a number: applied to its command, or kept until the number takes its position (R47, R91, R94). -/
def applyVerdict (sid : StreamId) (q : Nat) (v : Verdict) (s : State) : State :=
  match flowOf s sid with
  | none => s
  | some fi =>
    match mget s.doc.flows fi, judgedAt s fi q with
    | some fl, some (t, d) =>
      if verdictStands d v then updDesc t (fun d => { d with verdict := some (d.verdict.getD v) }) s
      else match v with
        | .accept _ => updDesc t (fun d => { d with verdict := some v }) s
        | _ => noteVerdict fi fl q v (endUnder t fl d v s)
    | some _, none => drainHeld fi 264 (updFlow fi (fun f => { f with verdicts := (q, v) :: f.verdicts.filter (fun p => p.1 != q) }) s)
    | none, _ => s

/-- This member's own quota verdict on a command that has none (R47, R298). -/
def ownVerdict (t : Nat) (d : Desc) (s : State) : State :=
  match mget s.doc.flows d.flow with
  | none => s
  | some fl =>
    match gal s fl.sid.gallery with
    | none => s
    | some g =>
      match quotaRefusal s g d.pkCost false 0 with
      | some b => sendVerdict fl.sid d.seq (.quota b) <| countRefusal fl b (updDesc t (fun d => { underVerdict (.quota b) d s.now with copies := [] }) (dropHolds t (freeCopies t d s)))
      | none => updDesc t (fun d => { d with verdict := some (.accept g.keyGen) }) (updGal fl.sid.gallery (takeTokens d.pkCost) s)

/-- The member becomes the one that takes verdicts: it takes its own for every command that waits for one (R47, R298). -/
def takeVerdicts (s : State) : State :=
  (s.doc.descs.filter (fun p => p.2.verdict.isNone && p.2.resp.isNone && !p.2.discard)).foldl (fun s p => ownVerdict p.1 p.2 s) s

/-- The mirrored result of a command that stands here (R291, R292). -/
def applyResponse (sid : StreamId) (q : Nat) (r : Resp) (s : State) : State :=
  match (flowOf s sid).bind (fun fi => placedAt s fi q <|> descAt s fi q) with
  | none => s
  | some (t, d) =>
    if d.st == .released then s
    else
      let s := updDesc t (fun d => { d with
        st := .done, resp := some r, deltaApplied := true, verdict := some (d.verdict.getD (.accept 0)), doneAt := some s.now, copies := [] })
        (dropHolds t (freeCopies t d s))
      setIdle sid d (some (idleEnd s)) s

/-! Windows. -/

/-- Unbinds a window: what it still held is discarded, and its registers take the values of their tables (R38). -/
def dropWindow (fn : Nat) (s : State) : State :=
  let fis := windowFlows s fn
  let s := dropSeals fn (closeFlows fis (discardFlows fis s))
  refreshWindow fn (updWin fn (fun w => { lastState := w.lastState }) s)

/-! Galleries. -/

/-- A gallery's creation, change or removal on the partner (R36, R39, R40). -/
def applyGallery (g : Nat) (d : Option Descriptor) (inst : Nat) (rootKey : Bytes) (s : State) : State :=
  match d, gal s g with
  | none, none => s
  | none, some x =>
    let s := dropGallery g (finalMeter g s)
    match x.migration with
    | some m => { s with vit := { s.vit with remote := mset s.vit.remote g { x.desc with home := m.home, partner := m.partner } } }
    | none => s
  | some d, some _ => touchVitrine (putDescriptor g d s)
  | some d, none =>
    match freeIndex s with
    | none => s
    | some i =>
      touchVitrine { s with
        bb := { s.bb with creation := max s.bb.creation d.epoch }
        vit := { s.vit with
          galleries := mset s.vit.galleries g { newGallery s d i inst with rootKey := rootKey }
          remote := mdel s.vit.remote g, meterAcks := mdel s.vit.meterAcks g } }

/-- A migration begun or aborted, and its cuts once they are declared (R310). -/
def applyMigration (g : Nat) (target : Option (Nat × Nat)) (cuts : Option (List (StreamId × Nat))) (s : State) : State :=
  let s := updGal g (fun x => { x with migration := target.map (fun t => { home := t.1, partner := t.2, cutDeclared := cuts.isSome }) }) s
  (cuts.getD []).foldl (fun s p => match flowOf s p.1 with
    | some fi => updFlow fi (fun f => { f with cut := some p.2 }) s
    | none => s) s

/-! Meter marks. -/

/-- A mark at the positions given: the minute closes, and its record waits for every number below the marks; of a minute that began while this member was out there is no record. With no room in store and archive, event 35 latches and the minute is added to the open record (R51, R53, R54, R55). -/
def markGallery (g minute : Nat) (ticks : Nat) (marks : List (StreamId × Nat)) (s : State) : State :=
  match gal s g with
  | none => s
  | some x =>
    let out := x.meterSkip || s.pair.role == .resync
    if !out && !meterRoom s then
      latchEvent 35 (updGal g (fun x => { x with meterExtra := x.meterExtra + 1, meter := { x.meter with entryTicks := ticks } }) s)
    else
      closeMinute g (updGal g (fun x => { x with
        closing := x.closing ++ [{
          marks := marks, term := termNow s, record := !out, counts := { x.meter with entryTicks := ticks }
          first := x.meterFirst, extra := x.meterExtra, records := recordsHeld x, loans := x.loans.length, final := false }]
        meter := noCounts, meterFirst := minute, meterExtra := 0, meterSkip := s.pair.role == .resync }) s)

/-! Deltas. -/

/-- A record written by the partner: the cached key of what stood there before is discarded (R196). -/
def applyRecord (g slot : Nat) (r : Option VRecord) (s : State) : State :=
  let old := (gal s g).bind (fun x => recordAt x slot)
  let s := match old with
    | some o => if (r.map (·.generation)) = some o.generation then s else discardRecord g slot o.generation s
    | none => s
  replaceRecord g slot r s

/-- One change of a delta (R291). -/
def applyChange (s : State) (c : Change) : State :=
  match c with
  | .response sid q r => applyResponse sid q r s
  | .journal e =>
    match putJournal e.sid.gallery e s with
    | some s => s
    | none => s
  | .vrecord g slot r => applyRecord g slot r s
  | .accession g v => updGal g (fun x => { x with accession := v }) s
  | .fence g n _ => latchGallery g keyStateBit (updGal g (fun x => { x with
      keyGen := n, loanSeq := if x.loanCopy.isNone && x.loans.any (fun l => l.2.copied) then x.loanSeq + 1 else x.loanSeq }) s)
  | .nonce _ => s
  | .spanOp g o x =>
    updGal g (fun y => { y with
      ops := (match x with
        | some v => mset y.ops o { v with idleAt := some (idleEnd s) }
        | none => mdel y.ops o)
      nextOp := if x.isSome then max y.nextOp (o + 1) else y.nextOp }) s
  | .verdict sid q v => applyVerdict sid q v s
  | .mark g m n marks => markGallery g m n marks { s with vit := { s.vit with minute := max s.vit.minute (m + 1), clockOffset := 1966080 * (m : Int) - (moduleTime s : Int) } }
  | .sealEpoch g i v => updGal g (fun x => { x with sealEpochs := mset x.sealEpochs i v }) s
  | .gallery g d inst k => applyGallery g d inst k s
  | .rights g t b => putRights g t b s
  | .vfRow v row => { s with fab := { s.fab with vfRows := mset s.fab.vfRows v row } }
  | .meterAck g n => ackRecords g n s
  | .bind fn g far =>
    match g with
    | some g => bindFar fn g far s
    | none => if (win s fn).gallery.isSome then dropWindow fn s else s
  | .migration g target cuts => applyMigration g target cuts s
  | .loan g m p => updGal g (fun x => { x with loans := (match p with
      | some n => mset x.loans m { partner := n, copied := true }
      | none => mdel x.loans m) }) s
  | .creation n => { s with bb := { s.bb with creation := max s.bb.creation n } }

/-- A command that this member executes itself and no cell has taken yet. -/
def untaken (d : Desc) : Bool := d.st == .queued && d.keyGen.isNone && d.behind.isNone && !d.originating

/-- The verdict on a command was given under an earlier key state than generation `n`. -/
def takenUnder (n : Nat) (d : Desc) : Bool :=
  match d.verdict with
  | some (.accept k) => decide (k < n)
  | _ => false

/-- A fence may be applied here: in every stream the numbers below its split point have taken their positions, and these, like every command that the ORIGINATOR took before the fence, have been taken here too (R99). -/
def fenceReady (s : State) (c : Change) : Bool :=
  match c with
  | .fence _ n splits => splits.all (fun p =>
      match flowOf s p.1 with
      | none => true
      | some fi =>
        decide (((mget s.doc.flows fi).map (·.next)).getD 0 ≥ p.2) &&
        !(s.doc.descs.any (fun d => d.2.flow == fi && untaken d.2 && (decide (d.2.seq < p.2) || takenUnder n d.2))))
  | _ => true

/-- The journal has room for the result that a delta brings; a delta that finds none waits for a page, as its command would (R102, R291, log 147). -/
def journalReady (s : State) (d : Delta) : Bool :=
  d.changes.all (fun c => match c with
    | .journal e => (putJournal e.sid.gallery e s).isSome
    | _ => true)

/-- The change is the result of a PAIR_SWAP (R315). -/
def isSwap (c : Change) : Bool :=
  match c with
  | .journal e => e.function == 0x0E30 && e.status == Status.ok
  | _ => false

/-- The STANDBY waits, as the home that it is a member of does, until every loan has a command's fence or is suspended (R292, Table 12-3). -/
def awaitLoans (d : Delta) (s : State) : State :=
  match d.changes.findSome? fencedGallery, d.changes.findSome? (fun c => match c with
    | .response sid q _ => some (sid, q)
    | _ => none) with
  | some g, some (sid, q) =>
    let live := (((gal s g).map (·.loans)).getD []).filter (fun l => l.2.copied && !l.2.suspended)
    match (flowOf s sid).bind (fun fi => placedAt s fi q <|> descAt s fi q) with
    | some (t, _) => updDesc t (fun d => { d with loanWait := live.map (·.1), loanGallery := g }) s
    | none => s
  | _, _ => s

/-- Applies one delta, in number order, and acknowledges it (R291); the delta of a PAIR_SWAP makes this member the ORIGINATOR (Table 12-2). -/
def applyDelta (d : Delta) (s : State) : State :=
  let s := awaitLoans d (d.changes.foldl applyChange s)
  let s := { s with
    pair := { s.pair with lastDelta := d.number, waitingDeltas := s.pair.waitingDeltas.filter (fun x => x.number != d.number) }
    vit := { s.vit with anchorDelta := d.number } }
  let s := sendPartner 1 (.deltaAck d.number) s
  if s.pair.role == .standby && d.changes.any isSwap then
    takeVerdicts (setRole .originator (s.pair.term + 1) causeSwap s)
  else s

/-- Applies the deltas that wait and whose turn has come; fuel. A fence waits for its split points, and the commands behind it for the fence (R99); none applies while the power-fail warning is active (R373). -/
def drainDeltas : Nat → State → State
  | 0, s => s
  | fuel + 1, s =>
    match s.pair.waitingDeltas.find? (fun d => d.number == s.pair.lastDelta + 1) with
    | none => s
    | some d =>
      if s.pow.failWarning then s else if journalReady s d && d.changes.all (fenceReady s) then drainDeltas fuel (applyDelta d s) else s

/-- This member applies deltas now: a STANDBY, or a repaired member whose copy is complete (R291, R302). -/
def appliesDeltas (s : State) : Bool :=
  s.pair.role == .standby || (s.pair.role == .resync && (s.pair.resync.map (fun r => !r.active && r.ended)).getD false)

/-- Offers ready work to waiting cells, and applies the deltas whose split points the takes have reached. -/
def offerWork (s : State) : State :=
  let s := offerReady s
  if appliesDeltas s && s.pair.waitingDeltas != [] then offerReady (drainDeltas (s.pair.waitingDeltas.length + 1) s) else s

end Sys2Proof.Machine
end

