-- ==== Sys2Proof/Machine/Engines.lean ====
section
/-!
DEFINITION. What every part of the model asks of a wing's engines and PK unit: their registers, the cycles of holds, clears and wipes, the order of claims, and how a hold ends (R209 to R212, R232, R233). `h` is true for the hash unit.
-/

namespace Sys2Proof.Machine

/-! The engines of a wing. -/

/-- The wing of a cell. -/
abbrev wingOf (c : Nat) : Nat := c / 8

/-- A wing's cipher engine or hash unit. -/
def engineOf (s : State) (h : Bool) (w : Nat) : Engine := if h then (wing s w).hsu else (wing s w).cen

/-- Changes one. -/
def updEngine (h : Bool) (w : Nat) (f : Engine → Engine) (s : State) : State :=
  updWing w (fun x => if h then { x with hsu := f x.hsu } else { x with cen := f x.cen }) s

/-- The unit code by which an error is attributed to an engine (R322). -/
def engineUnit (h : Bool) (w : Nat) : Nat := if h then 144 + w else 128 + w

/-- The ticket of the command that a cell serves, with its descriptor and gallery. -/
def servedBy (s : State) (cell : Nat) : Option (Nat × Desc × Nat) :=
  match (cellRegs s cell).held with
  | none => none
  | some t =>
    match desc s t with
    | none => none
    | some d => (mget s.doc.flows d.flow).map (fun fl => (t, d, fl.sid.gallery))

/-- The ticket that the holder of an engine serves; a number that names no command when there is none. -/
def holderTicket (s : State) (w : Nat) (owner : Option Nat) : Nat :=
  match owner with
  | some c => ((servedBy s (8 * w + c)).map (·.1)).getD 65536
  | none => 65536

/-- HOLD_CYCLES of a hold counted from `from_` at a clock of `mhz`, beyond `base`, saturating (R211, R233). -/
def holdCycles (base from_ mhz now top : Nat) : Nat := sat top (base + (now - from_) * mhz / 1000)

/-- HOLD_CYCLES of an engine: 0 when it is free. -/
def engineCycles (s : State) (h : Bool) (w : Nat) : Nat :=
  let e := engineOf s h w
  if e.owner.isNone then 0 else holdCycles e.holdBase e.holdFrom (engineMHz s w) s.now 4801

/-- Counts the cycles of a hold or of a clear, and of claims waiting behind it, up to now (R211, R212, Table 18-3 codes 5 and 6). -/
def settleEngine (h : Bool) (w : Nat) (s : State) : State :=
  let e := engineOf s h w
  let mhz := engineMHz s w
  let s := if !h && e.owner.isSome then countEvent w 5 ((s.now - e.holdFrom) * mhz / 1000) (some e.gallery) s else s
  let s := match e.waitFrom with
    | some t => if h then s else countEvent w 6 ((s.now - t) * mhz / 1000) (e.queue.head?.bind (fun c => (servedBy s (8 * w + c)).map (·.2.2))) s
    | none => s
  updEngine h w (fun e => { e with
    holdBase := if e.owner.isSome || e.clearing then e.holdBase + (s.now - e.holdFrom) * mhz / 1000 else e.holdBase
    holdFrom := s.now
    waitFrom := if e.queue = [] then none else some s.now }) s

/-- Stamps the grant of a hold on the command of a cell, for its trace record (R425, Table 18-9). -/
def stampGrant (cls cell : Nat) (s : State) : State :=
  match servedBy s cell with
  | some (t, _, _) => if (cellRegs s cell).secondary then s
      else updDesc t (fun d => { d with holds := d.holds ++ [{ cls := cls, grantAt := s.now, releaseAt := none }] }) s
  | none => s

/-- Stamps the end of a hold. -/
def stampRelease (cls cell : Nat) (s : State) : State :=
  match servedBy s cell with
  | some (t, _, _) => updDesc t (fun d => { d with
      holds := d.holds.map (fun k => if k.cls = cls ∧ k.releaseAt = none then { k with releaseAt := some s.now } else k) }) s
  | none => s

/-! Claims and grants (R209, R232). -/

/-- Queues a claim behind those made earlier, and in rising cell index among those made at the same moment (R209, log 162). -/
def insertClaim (now c : Nat) (times : Map Nat) (q : List Nat) : List Nat :=
  let ahead := fun (x : Nat) => !(mget times x == some now && decide (c < x))
  q.takeWhile ahead ++ c :: q.dropWhile ahead

/-- A grant word: GRANTED, DENIED, WIPED, HOLD_ID (Table 8-3, R234). -/
def grantWord (g : Grant) : W64 := BitVec.ofNat 64 (b2n g.granted + 2 * b2n g.denied + 4 * b2n g.wiped + 256 * g.holdId)

/-- Decides a cell's claim at an engine: a read that is stalled returns the grant word and clears it, else the register holds it (R209). -/
def decideClaim (c : Nat) (g : Grant) (e : Engine) : Engine :=
  if e.reading.contains c then { e with reading := e.reading.filter (· != c), grants := mdel e.grants c, lastRead := mset e.lastRead c (grantWord g) }
  else { e with grants := mset e.grants c g }

/-- The same at a PK unit (R232). -/
def decidePkuClaim (c : Nat) (g : Grant) (u : Pku) : Pku :=
  if u.reading.contains c then { u with reading := u.reading.filter (· != c), grants := mdel u.grants c, lastRead := mset u.lastRead c (grantWord g) }
  else { u with grants := mset u.grants c g }

/-- A grant, or a refusal, of a hold number. -/
def grantOf (granted wiped : Bool) (id : Nat) : Grant := { granted := granted, denied := !granted, wiped := wiped, holdId := id }

/-! The end of a hold. -/

/-- Ends a hold and starts the clear of R212. The hash unit's scratch lies in wing memory, where no clear reaches it (R225, log 161). -/
def clearEngine (h : Bool) (w : Nat) (s : State) : State :=
  let e := engineOf s h w
  let s := settleEngine h w s
  let s := match e.owner with
    | some c => stampRelease (if h then 2 else 1) (8 * w + c) s
    | none => s
  updEngine h w (fun e => { e with
    owner := none, clearing := true, gallery := 0, holdBase := 0, keys := [], ctx := List.replicate 8 0, busy := none, pendingLoad := none, nonceIv := none }) s

/-! Answers of a cell. -/

/-- Writes a command's response and what it changed; a step of state stays with the command through a re-dispatch (R324), and any answer but OK of an execution ends the operation that a later frame names (R152). -/
def answerFn (t : Nat) (r : Resp) (ch : List Change) (s : State) : State :=
  updDesc t (fun d => { d with
    resp := some r
    changes := d.changes ++ ch ++ (if r.status = Status.ok then [] else endsOp s d)
    executed := d.executed || ch.any (fun c => !isTransient c) }) s

/-! Engines without a mask seed (R217). -/

/-- A cell's claim leaves the queue of its wing's cipher engine. -/
def dropClaim (cell : Nat) (s : State) : State :=
  updWing (cell / 8) (fun x => { x with cen := { x.cen with
    queue := x.cen.queue.filter (· != cell % 8), claimedAt := mdel x.cen.claimedAt (cell % 8), reading := x.cen.reading.filter (· != cell % 8) } }) s

/-- After a fatal alarm, a command that needs an engine whose mask instance is at its limit goes to a wing whose instance is not; with none left it is answered ENTROPY_FAILED (R217). -/
def avoidEngine (t w : Nat) (s : State) : State :=
  match desc s t with
  | none => s
  | some d =>
    let s := d.copies.foldl (fun s k => dropClaim k.cell s) s
    if (List.range 16).any (fun v => v != w && !(wing s v).quarantined && !(wing s v).retired && !maskExhausted s v) then
      reoffer t [w] (freeCopies t d s)
    else answerFn t (statusOnly Status.entropyFailed) [] s

/-- What waits for the cipher engine of wing `w` when its instance has reached its limit is re-dispatched or answered (R217). -/
def shedClaims (w : Nat) (s : State) : State :=
  if !maskExhausted s w then s
  else
    let ts := (s.doc.descs.filter (fun p => p.2.copies.any (fun k => k.cell / 8 == w && waitsForSeed s p.2 k))).map (·.1)
    offerWork (ts.foldl (fun s t => avoidEngine t w s) s)

/-! Mask seeds (R215, R216). -/

/-- The spare seed becomes current and a new one is asked for at once; with no spare to come, what waits for the engine goes elsewhere (R216, R217). -/
def changeSeed (w : Nat) (s : State) : State :=
  if !(wing s w).cen.seedReady then s
  else
    let s := updEngine false w (fun e => { e with
      seedReady := false, refilling := true, seed := e.spare, spare := [], seedBlocks := e.seedBlocks - 65536, seedsUsed := sat 0xFFFFFFFF (e.seedsUsed + 1) }) s
    shedClaims w (countEvent w 17 1 ((wing s w).cen.owner.map (fun _ => (wing s w).cen.gallery)) s)

/-- Blocks go through a wing's cipher engine: at block 65,536 the spare seed becomes current (R215, R216). -/
def countBlocks (w n : Nat) (s : State) : State :=
  let s := updEngine false w (fun e => { e with seedBlocks := e.seedBlocks + n }) s
  if (wing s w).cen.seedBlocks ≥ 65536 then changeSeed w s else s

/-- The blocks that a function has put through the engine of the cell that completes it: their number is free, since no rule gives a function's count (log 90). -/
def countFunction (cell : Nat) (d : Desc) (s : State) : State :=
  if usesEngine d 2 then countBlocks (wingOf cell) (Config.functionBlocks d.function d.frame.length).toNat s else s

/-! The PK unit. -/

/-- Changes a wing's PK unit. -/
def updPku (w : Nat) (f : Pku → Pku) (s : State) : State := updWing w (fun x => { x with pku := f x.pku }) s

/-- Sets a PKU_STATUS bit. -/
def raisePku (w b : Nat) (s : State) : State := updPku w (fun u => { u with status := setBit u.status b true }) s

/-- HOLD_CYCLES of a PK unit. -/
def pkuCycles (s : State) (w : Nat) : Nat :=
  let u := (wing s w).pku
  if u.owner.isNone then 0 else holdCycles u.holdBase u.holdFrom (pkMHz s w) s.now 262145

/-- Counts the cycles of a hold or of a wipe up to now (R233, R247, Table 18-3 code 9). -/
def settlePku (w : Nat) (s : State) : State :=
  let u := (wing s w).pku
  let k := (s.now - u.holdFrom) * pkMHz s w / 1000
  let s := if u.owner.isSome then countEvent w 9 k (some u.gallery) s else s
  updPku w (fun u => { u with holdBase := if u.owner.isSome || u.wiping then u.holdBase + k else u.holdBase, holdFrom := s.now }) s

/-- The end of a hold. -/
def freePku (w : Nat) (dirty : Bool) (s : State) : State :=
  let u := (wing s w).pku
  let s := settlePku w s
  let s := match u.owner with
    | some c => stampRelease 3 (8 * w + c) s
    | none => s
  updPku w (fun u => { u with owner := none, holdBase := 0, dma := none, dirty := u.dirty || dirty }) s

end Sys2Proof.Machine
end

