-- ==== Sys2Proof/Machine/Window.lean ====
section
/-!
DEFINITION. The meanings of the window's commands (spec 03): slot and port writes, response reads, commits, streams, acknowledgements, events, resets of a function.
-/

namespace Sys2Proof.Machine

/-- A write a BAR accepts: address and length multiples of 8, 8 to 64 bytes, within one 64-byte block (R58). -/
def acceptedWrite (off len : Nat) : Bool :=
  off % 8 == 0 && len % 8 == 0 && decide (8 ≤ len) && decide (len ≤ 64) && off / 64 == (off + len - 1) / 64

/-- Sets a WIN_FAULT bit (Table 3-8). -/
def setFault (fn b : Nat) (s : State) : State :=
  updWin fn (fun w => { w with fault := w.fault ||| BitVec.ofNat 64 (2 ^ b) }) s

/-- A write discarded as a whole: PARTIAL_WRITE, and an AER non-fatal error when it was poisoned (R58, R320). -/
def partialWrite (fn : Nat) (poisoned : Bool) (s : State) : State :=
  let s := setFault fn 0 s
  if poisoned then { s with fab := { s.fab with aerNonFatal := s.fab.aerNonFatal + 1 } } else s

/-- Stores into a submit slot, unless it is being copied (R65). -/
def writeSlot (fn i k off : Nat) (data : Bytes) (s : State) : State :=
  if (strm s fn i).busy.contains k then setFault fn 1 s
  else updStrm fn i (fun st => { st with submit := memWriteBytes 0 st.submit (512 * k + off) data }) s

/-- SUBMIT_SLOT_WRITE (R58, R65). -/
def execSubmitSlotWrite (fn : Fin 1025) (stream : Fin 16) (slot : Fin 8) (off : Nat) (data : Bytes) (poisoned : Bool) (s : State) :
    Host.Outcome State Fault Refusal :=
  if poisoned || !acceptedWrite off data.length then .next (partialWrite fn poisoned s)
  else if off + data.length > 512 then .next s
  else .next (writeSlot fn stream slot off data s)

/-- Stores into the large frame in assembly: frame byte 8 x WORD + offset, up to byte 65,567 (R67), unless the frame is being copied (R68). -/
def writePort (fn i off : Nat) (data : Bytes) (s : State) : State :=
  let st := strm s fn i
  if st.lfsCopy.isSome then latchStreamErr fn i (updStrm fn i (fun st => { st with lfErr := true }) s)
  else
    let a := 8 * st.lfsPos + off
    updStrm fn i (fun st => { st with large := memWriteBytes 0 st.large a (data.take (65568 - a)) }) s

/-- LARGE_FRAME_PORT_WRITE (R58, R67, R68). -/
def execLargeFramePortWrite (fn : Fin 1025) (stream : Fin 16) (off : Nat) (data : Bytes) (poisoned : Bool) (s : State) :
    Host.Outcome State Fault Refusal :=
  if poisoned || !acceptedWrite off data.length then .next (partialWrite fn poisoned s)
  else if off + data.length > 2048 then .next s
  else .next (writePort fn stream off data s)

/-- The large response that WIN_LFR_SEL names: published, unacknowledged, its payload above 480 bytes (R70). -/
def largeSelected (st : Stream) : Option Published :=
  (mvals st.resp).find? (fun p => p.seq == st.lfrSeq && decide (p.frame.length > 512))

/-- The bytes of a stream's response slots, or of its response port. -/
def responseBytes (st : Stream) (port : Bool) (off len : Nat) : Bytes :=
  if port then
    match largeSelected st with
    | some p => slice p.frame (8 * st.lfrWord + off) len
    | none => zeros len
  else (List.range len).map (fun j => ((mgetD st.slots ((off + j) / 512) (zeros 512)).getD ((off + j) % 512) 0))

/-- RESPONSE_AREA_READ: completed from the current contents, or masked with READ_MASKED set where RD is clear (R58, R62, R70). -/
def execResponseAreaRead (fn : Fin 1025) (stream : Fin 16) (port : Bool) (off len : Nat) (s : State) : Host.Outcome State Fault Refusal :=
  if off % 4 ≠ 0 ∨ len < 4 ∨ len > 512 ∨ off + len > (if port then 2048 else 4096) then .next s
  else if windowHas s fn rightRD then
    .next { s with fab := { s.fab with lastRead := responseBytes (strm s fn stream) port off len } }
  else .next (setFault fn 3 { s with fab := { s.fab with lastRead := zeros len } })

/-! Commits. -/

/-- Discards a commit: COMMIT_ERR and STREAM_ERR (R66). -/
def commitError (fn i : Nat) (s : State) : State :=
  latchStreamErr fn i (updStrm fn i (fun st => { st with commitErr := true }) s)

/-- A frame committed to a stream goes to its flow, unless the window is silent; its position and the window's checks are those of the commit itself (R66, R77, R90). -/
def deliverFrame (fn i : Nat) (a : Arrival) (s : State) : State :=
  match commitCond s fn (hdrFunction a.frame), (strm s fn i).flow with
  | .silent, _ => s
  | _, none => s
  | _, some fi => placeFrame fi a (updStrm fn i (fun st => { st with cntCommitted := st.cntCommitted + 1 }) s)

/-- The stream takes commits at a slot: ACTIVE, ENABLE, the slot free, and a descriptor to be had (R64, R65, R66, log 152). -/
def takesCommit (s : State) (st : Stream) (k : Nat) : Bool :=
  st.active && st.enable && !st.busy.contains k && descFree s

/-- COMMIT: the slot is copied and the frame placed (R59, R65, R66, R90). -/
def commitSlot (fn : Fin 1025) (stream : Fin 16) (slot : Fin 8) (s : State) : State :=
  let st := strm s fn stream
  if !takesCommit s st slot then (commitError fn stream s)
  else
    let b := memReadBytes 0 st.submit (512 * slot.val) 512
    let s := updStrm fn stream (fun st => { st with busy := st.busy ++ [slot.val] }) s
    (offerWork (deliverFrame fn stream { frame := frameIn b, large := false, commitAt := s.now, admitAt := s.now } s))

/-- COMMIT (R59, R65, R66, R90). -/
def execCommit (fn : Fin 1025) (stream : Fin 16) (slot : Fin 8) (s : State) : Host.Outcome State Fault Refusal := .next (commitSlot fn stream slot s)

/-- LARGE_COMMIT: the slot is held, the copy of the frame begins, and the frame is placed and checked as any commit; a further one while the copy runs is discarded (R66, R68). Words not written since the previous LARGE commit read as zero (R67). -/
def commitLarge (fn : Fin 1025) (stream : Fin 16) (slot : Fin 8) (s : State) : State :=
  let st := strm s fn stream
  if !takesCommit s st slot || st.lfsCopy.isSome then (commitError fn stream s)
  else
    let h := memReadBytes 0 st.large 0 32
    let f := memReadBytes 0 st.large 0 (32 + min 65536 (hdrLength h))
    let s := updStrm fn stream (fun st => { st with busy := st.busy ++ [slot.val], lfsCopy := some (slot.val, hdrSeq h), large := [] }) s
    (offerWork (deliverFrame fn stream { frame := f, large := true, commitAt := s.now, admitAt := s.now } s))

/-- LARGE_COMMIT (R68). -/
def execLargeCommit (fn : Fin 1025) (stream : Fin 16) (slot : Fin 8) (s : State) : Host.Outcome State Fault Refusal := .next (commitLarge fn stream slot s)

/-- SLOT_COPY_DONE: the slot may be written again (R65); the slot of a LARGE commit is held to the end of its frame's copy (log 158). -/
def execSlotCopyDone (fn : Fin 1025) (stream : Fin 16) (slot : Fin 8) (s : State) : Host.Outcome State Fault Refusal :=
  if ((strm s fn stream).lfsCopy.map (·.1)) = some slot.val then .next s
  else .next (updStrm fn stream (fun st => { st with busy := st.busy.filter (· != slot.val) }) s)

/-- LARGE_FRAME_COPY_DONE: LFS_BUSY clears, the slot is free, WIN_LFS_POS returns to 0, and a cell may take the command (R68). -/
def execLargeFrameCopyDone (fn : Fin 1025) (stream : Fin 16) (s : State) : Host.Outcome State Fault Refusal :=
  match (strm s fn stream).lfsCopy with
  | none => .next s
  | some (k, _) =>
    .next (offerWork (updStrm fn stream (fun st => { st with lfsCopy := none, lfsPos := 0, busy := st.busy.filter (· != k) }) s))

/-! Streams. -/

/-- The stream identity of a window's stream (R89). -/
def sidOf (s : State) (g fn i : Nat) : StreamId := { gallery := g, place := placement s, fn := fn, stream := i }

/-- A suitable seal key: a live Vitrine key of the gallery, class DERIVE, algorithm 'A', 32 key bytes (R63). -/
def sealRecord (s : State) (g : Nat) (h : W64) : Option VRecord :=
  match (gal s g).bind (fun x => mget x.records (handleSlot h.toNat)) with
  | some r => if handleKind h.toNat = 1 ∧ r.kind = 1 ∧ r.useClass = 4 ∧ r.alg = 65 ∧ r.material.length = 32 ∧
      (sealEnds s g h r.generation).isNone then some r else none
  | none => none

/-- The cut that binds an enable at a migration's new placement (R310, R311): refused before the cut is declared, and with a base other than the stream's cut. -/
def cutRefuses (s : State) (g fn i base : Nat) : Bool :=
  match gal s g with
  | none => false
  | some x => x.oldHome.isSome && (!x.cutKnown || ((mget x.cuts (65536 * fn + i)).map (fun c => c != base)).getD false)

/-- The descriptor of a gallery, as this module holds it or knows it from its home. -/
def knownDescriptor (s : State) (g : Nat) : Option Descriptor :=
  match gal s g with
  | some x => some x.desc
  | none => mget s.vit.remote g

/-- The enabled streams of a gallery that are known here: its flows, and the streams of windows here whose gallery is homed elsewhere (R45). -/
def enabledStreams (s : State) (g : Nat) : Nat := (s.doc.flows.filter (fun p => p.2.sid.gallery == g)).length

/-- The flows that the Docent holds; a window's own record of a stream served elsewhere is none (R248). -/
def docentFlows (s : State) : Nat := (s.doc.flows.filter (fun p => !p.2.proxy)).length

/-- The home of a gallery homed elsewhere is asked about an enable, where a route leads there (R63, R309, log 154). -/
def asksHome (s : State) (g : Nat) : Bool :=
  match homeOf s g with
  | some d => (routeTo s (homeModule s d)).isSome
  | none => false

/-- The conditions on a gallery under which a stream of it is refused, as they stand here: its flows quota, its privilege, the seal key, a cut, the Docent's flows (R45, R63, R248, R311). -/
def galleryRefuses (s : State) (g fn i base : Nat) (sealKey : Option Nat) : Bool :=
  (match knownDescriptor s g with
   | some d => decide (enabledStreams s g ≥ d.flows) || (bit d.privileges 0 && sealKey.isNone)
   | none => true) ||
  (match sealKey with
   | some h => !asksHome s g && (sealRecord s g (BitVec.ofNat 64 h)).isNone
   | none => false) ||
  cutRefuses s g fn i base || ((gal s g).isSome && decide (docentFlows s ≥ 65536))

/-- The seal key that a stream's enable names, if it is sealed. -/
def sealOf (s : State) (fn i : Nat) (sealed : Bool) : Option Nat := if sealed then some (strm s fn i).sealHandle.toNat else none

/-- What refuses an enable (R63, R45, R248, R310, R33); a function-level reset in progress does too (log 159). -/
def enableRefused (s : State) (fn i : Nat) (sealed : Bool) : Bool :=
  let w := win s fn
  let st := strm s fn i
  match w.gallery with
  | none => true
  | some g =>
    !(winState s fn == 2 || (fn == 0 && s.pow.mode == .start)) || st.active || w.flr.isSome || galleryRefuses s g fn i st.base (sealOf s fn i sealed)

/-- Whether a sealed enable advances the gallery's counter: always, but on a member of a pair only the enable of an identity that is inactive on both; a STANDBY's first enable takes the value that its ORIGINATOR then has from it (R72, R290, log 183). -/
def advancesEpoch (s : State) (g : Gallery) (fn i : Nat) : Bool :=
  match s.pair.role with
  | .originator | .standby => !g.sealLive.contains (65536 * fn + i) && !g.sealPartner.contains (65536 * fn + i)
  | _ => true

/-- The sealed part of an accepted enable: SEAL_EPOCH, the derived keys, and the new epoch mirrored (R72, R290). -/
def sealHere (fn i g : Nat) (x : Gallery) (r : VRecord) (s : State) : State :=
  let adv := advancesEpoch s x fn i
  let e := mgetD x.sealEpochs i 0 + b2n adv
  let s := updGal g (fun x => { x with
    sealEpochs := mset x.sealEpochs i e, sealLive := (65536 * fn + i) :: x.sealLive.filter (· != 65536 * fn + i) }) s
  let s := updStrm fn i (fun st => { st with
    sealed := true, sealEpoch := e, sealKeys := some (sealKeysOf r.material g i e), sealGen := r.generation, sealFor := st.sealHandle }) s
  noteSeal (sidOf s g fn i) true (if adv then mirrorChanges [.sealEpoch g i e] s else s)

/-- A sealed enable with the gallery's record here (R72). -/
def sealStream (fn i g : Nat) (s : State) : State :=
  match gal s g, sealRecord s g (strm s fn i).sealHandle with
  | some x, some r => sealHere fn i g x r s
  | _, _ => s

/-- A sealed enable under the epoch and the keys that the gallery's home has derived (R72, log 154). -/
def sealFrom (fn i : Nat) (k : Nat × Bytes × Bytes) (s : State) : State :=
  let gen := (((win s fn).gallery.bind (gal s)).bind (fun x => recordAt x (handleSlot (strm s fn i).sealHandle.toNat))).map (·.generation)
  updStrm fn i (fun st => { st with sealed := true, sealEpoch := k.1, sealKeys := some (k.2.1, k.2.2), sealGen := gen.getD 0, sealFor := st.sealHandle }) s

/-- The index of a stream's flow: the lowest free, or, for a stream served elsewhere, a place of its own beyond the Docent's flows. -/
def flowIndex (s : State) (g fn i : Nat) : Option Nat :=
  if (gal s g).isSome then lowestFree s.doc.flows 65536 else some (65536 + 16 * fn + i)

/-- A flow begun while its gallery migrates has its base as its cut: the new placement learns it, and it is reached (R310). -/
def noteCut (fi : Nat) (s : State) : State :=
  match mget s.doc.flows fi with
  | none => s
  | some fl =>
    match fl.cut, (gal s fl.sid.gallery).bind (·.migration) with
    | some c, some m => testCut fi (sendTo 3 m.home (.stateData (.cut fl.sid c)) s)
    | _, _ => s

/-- An accepted enable: ACTIVE, with a flow at WIN_STREAM_BASE (R63, R248); under a cut declared here that base is the stream's S (R310, R311). -/
def openStream (fn i g : Nat) (sealed : Bool) (s : State) : State :=
  match flowIndex s g fn i with
  | none => s
  | some fi =>
    let st := strm s fn i
    let migrating := ((gal s g).bind (·.migration)).map (·.cutDeclared)
    let arrivingCut := ((gal s g).map (fun x => x.oldHome.isSome)).getD false
    let fl : Flow := {
      sid := sidOf s g fn i, next := st.base, rel := st.base, proxy := (gal s g).isNone, sealed := sealed
      cut := if migrating.getD false then some st.base else none }
    let s := { s with doc := { s.doc with flows := mset s.doc.flows fi fl } }
    let s := if arrivingCut then updGal g (fun x => { x with
      cuts := if mhas x.cuts (65536 * fn + i) then x.cuts else mset x.cuts (65536 * fn + i) st.base }) s else s
    noteCut fi (updStrm fn i (fun st => { st with enable := true, active := true, opening := false, flow := some fi, next := st.base }) s)

/-- A refused enable: ENABLE reads 0, ENABLE_REFUSED is set (R63). -/
def refuseStream (fn i : Nat) (s : State) : State :=
  latchStreamErr fn i (updStrm fn i (fun st => { st with enable := false, opening := false, enableRefused := true }) s)

/-- STREAM_ENABLE (R63, R72, R248): refused, or ACTIVE with a flow at WIN_STREAM_BASE; of a gallery homed elsewhere once its home has accepted it (log 154), a sealed one once no power-fail warning is active (R373). -/
def enableStream (fn : Fin 1025) (stream : Fin 16) (sealed : Bool) (s : State) : State :=
  let st := strm s fn stream
  if st.enable && (st.active || st.opening) then s
  else
    let s := if st.active then s else updStrm fn stream (fun st => { st with sealed := sealed }) s
    if enableRefused s fn stream sealed then refuseStream fn stream s
    else match (win s fn).gallery with
      | none => s
      | some g =>
        if asksHome s g then
          tellStream (sidOf s g fn stream) (.opens st.base (sealOf s fn stream sealed)) (updStrm fn stream (fun st => { st with enable := true, opening := true }) s)
        else if sealed && s.pow.failWarning then updStrm fn stream (fun st => { st with enable := true, opening := true }) s
        else
          let s := openStream fn stream g sealed s
          if sealed then sealStream fn stream g s else s

/-- The sealed enables that the power-fail warning held back are made, where they would still be accepted (R63, R72, R373). -/
def resumeEnables (s : State) : State :=
  let waits := s.fab.windows.flatMap (fun w => (w.2.streams.filter (fun st => st.2.opening && (w.2.gallery.map (fun g => !asksHome s g)).getD false)).map (fun st => (w.1, st.1)))
  waits.foldl (fun s p =>
    let s := updStrm p.1 p.2 (fun st => { st with enable := false, opening := false }) s
    if h : p.1 < 1025 ∧ p.2 < 16 then enableStream ⟨p.1, h.1⟩ ⟨p.2, h.2⟩ (strm s p.1 p.2).sealed s else s) s

/-- The home's answer to an enable (R63, R309, log 154): one that is no longer wanted is taken back. -/
def openReplies (sid : StreamId) (r : OpenReply) (s : State) : State :=
  let st := strm s sid.fn sid.stream
  if !st.opening || (win s sid.fn).gallery != some sid.gallery then
    match r with
    | .accepted _ => if st.active then s else tellStream sid .closes s
    | .refused => s
  else match r with
    | .refused => refuseStream sid.fn sid.stream s
    | .accepted k =>
      let s := openStream sid.fn sid.stream sid.gallery st.sealed s
      match k with
      | some k => sealFrom sid.fn sid.stream k s
      | none => s

/-- STREAM_ENABLE (R63, R72, R248). -/
def execStreamEnable (fn : Fin 1025) (stream : Fin 16) (sealed : Bool) (s : State) : Host.Outcome State Fault Refusal := .next (enableStream fn stream sealed s)

/-- STREAM_DISABLE: admission stops at once (R64); SEALED is written only while ACTIVE is 0 (Table 3-9). -/
def disableStream (fn : Fin 1025) (stream : Fin 16) (sealed : Bool) (s : State) : State :=
  (updStrm fn stream (fun st => { st with enable := false, opening := false, sealed := if st.active then st.sealed else sealed }) s)

/-- STREAM_DISABLE (R64). -/
def execStreamDisable (fn : Fin 1025) (stream : Fin 16) (sealed : Bool) (s : State) : Host.Outcome State Fault Refusal := .next (disableStream fn stream sealed s)

/-- Nothing committed to a flow is left: every command released and acknowledged, none held (R64). -/
def flowEmpty (s : State) (fi : Nat) : Bool :=
  !(s.doc.descs.any (fun p => p.2.flow == fi)) && ((mget s.doc.flows fi).map (fun f => f.held == [])).getD true

/-- Frees a stream's flow and ends its service (R64, R248). -/
def endStream (fn i : Nat) (s : State) : State :=
  let st := strm s fn i
  let fl := st.flow.bind (mget s.doc.flows)
  let nx := (fl.map (·.next)).getD st.next
  let s := match fl with
    | some f => tellStream f.sid .closes s
    | none => s
  let s := match st.flow with
    | some fi => { s with doc := { s.doc with flows := mdel s.doc.flows fi } }
    | none => s
  let s := match (win s fn).gallery with
    | some g =>
      if ((gal s g).map (fun x => x.sealLive.contains (65536 * fn + i))).getD false then
        noteSeal (sidOf s g fn i) false (updGal g (fun x => { x with sealLive := x.sealLive.filter (· != 65536 * fn + i) }) s)
      else s
    | none => s
  updStrm fn i (fun st => { st with active := false, flow := none, next := nx, sealKeys := none }) s

/-- STREAM_DRAINED (R64, R248). -/
def execStreamDrained (fn : Fin 1025) (stream : Fin 16) (s : State) : Host.Outcome State Fault Refusal :=
  let st := strm s fn stream
  match st.flow with
  | some fi => if st.active && !st.enable && st.lfsCopy.isNone && flowEmpty s fi then .next (endStream fn stream s) else .next s
  | none => .next s

/-- WIN_RESP_ACK: frees the slot and the descriptor of the published response named, or sets ACK_ERR (R71, R102, R249). -/
def ackResponse (fn : Fin 1025) (stream : Fin 16) (value : W64) (s : State) : State :=
  let q := field value 47 0
  let st := strm s fn stream
  match st.resp.find? (fun p => p.2.seq == q) with
  | none => (latchStreamErr fn stream (updStrm fn stream (fun st => { st with ackErr := true }) s))
  | some (k, p) =>
    let s := match (desc s p.ticket).bind (fun d => mget s.doc.flows d.flow) with
      | some fl => ackJournal fl.sid q s
      | none => s
    offerWork (signalPages (freeDesc p.ticket (updStrm fn stream (fun st => { st with resp := mdel st.resp k, respStall := false }) s)))

/-- WIN_RESP_ACK (R71, R102, R249). -/
def execWinRespAck (fn : Fin 1025) (stream : Fin 16) (value : W64) (s : State) : Host.Outcome State Fault Refusal := .next (ackResponse fn stream value s)

/-! Events and MSI-X. -/

/-- The bits of WIN_EVENT_CAUSE and WIN_EVENT_MASK that are not reserved (Table 3-12). -/
def eventBits : W64 := BitVec.ofNat 64 (0xFFFF + 31 * 2 ^ 16 + 2 ^ 24 + 0xFFFF * 2 ^ 32 + 2 ^ 48)

/-- WIN_EVENT_MASK_WRITE: a bit set over a cause already 1 counts as the cause changing (R75). -/
def writeEventMask (fn : Fin 1025) (value : W64) (s : State) : State :=
  let w := win s fn
  let new := value &&& eventBits
  let due := new &&& w.cause &&& ~~~ w.mask
  let s := updWin fn (fun w => { w with mask := new }) s
  let s := (List.range 16).foldl (fun s i => if flag due i then countPublication fn s else s) s
  let s := if field due 23 16 ≠ 0 then sendVector fn 1 s else s
  let s := if field due 31 24 ≠ 0 then sendVector fn 2 s else s
  (if field due 48 32 ≠ 0 then sendVector fn 3 s else s)

/-- WIN_EVENT_MASK_WRITE (R75). -/
def execWinEventMaskWrite (fn : Fin 1025) (value : W64) (s : State) : Host.Outcome State Fault Refusal := .next (writeEventMask fn value s)

/-- The sources of WIN_MEV_CAUSE and WIN_MEV_MASK that are not reserved: 4 to 40 (R76). -/
def mevBits : Nat := 2 ^ 41 - 16

/-- WIN_MEV_MASK_WRITE (R76). -/
def writeMevMask (k : Fin 4) (value : W64) (s : State) : State :=
  let lo := 64 * k.val
  let old := bits s.fab.mevMask (lo + 63) lo
  let new := (value.toNat * 2 ^ lo &&& mevBits)
  let m := s.fab.mevMask - old * 2 ^ lo + new
  let due := new &&& s.fab.mevCause
  let s' := { s with fab := { s.fab with mevMask := m } }
  ((List.range 64).foldl (fun t i =>
    if bit due (lo + i) && !bit s.fab.mevMask (lo + i) then sendVector 0 (lo + i) t else t) s')

/-- WIN_MEV_MASK_WRITE (R76). -/
def execWinMevMaskWrite (k : Fin 4) (value : W64) (s : State) : Host.Outcome State Fault Refusal := .next (writeMevMask k value s)

/-- MSIX_TABLE_WRITE: the address half, or the data with the vector Mask bit; a VF has four entries (R57, R61). -/
def writeMsix (fn : Fin 1025) (vector : Fin 256) (upper : Bool) (value : W64) (s : State) : State :=
  if fn.val ≠ 0 ∧ vector.val ≥ 4 then (setFault fn 2 s)
  else (flushVectors fn (updPcie fn (fun p =>
    let e := mgetD p.vectors vector.val {}
    let e : MsixEntry := if upper then { e with data := field value 31 0, masked := flag value 32 } else { e with addr := value &&& ~~~ 3#64 }
    { p with vectors := mset p.vectors vector.val e }) s))

/-- MSIX_TABLE_WRITE (R57, R61). -/
def execMsixTableWrite (fn : Fin 1025) (vector : Fin 256) (upper : Bool) (value : W64) (s : State) : Host.Outcome State Fault Refusal := .next (writeMsix fn vector upper value s)

/-- MCTP messages that waited for the PF's Bus Master Enable are sent (R57). -/
def flushMctp (s : State) : State :=
  if (pcie s 0).busMaster then s.cur.mctpWaiting.foldl (fun s m => emitMctp m s) { s with cur := { s.cur with mctpWaiting := [] } } else s

/-- PCIE_CONFIG_WRITE (R57); D3hot is held, and no rule gives it an effect (R56, log 165). -/
def execPcieConfigWrite (fn : Fin 1025) (command : PcieCommand) (msixEnable fnMask : Bool) (s : State) : Host.Outcome State Fault Refusal :=
  .next (flushMctp (flushVectors fn (updPcie fn (fun p => { p with busMaster := command.busMaster, msixEnable := msixEnable, fnMask := fnMask, d3hot := command.d3hot }) s)))

/-- RESP_READY of a stream whose mask bit is 1 (R74). -/
def readyCause (w : Window) : Bool := decide (field (w.cause &&& w.mask) 15 0 ≠ 0)

/-- HOLDOFF_EXPIRY: HOLDOFF microseconds after the first unsignalled publication, vector 0 is sent, if a RESP_READY bit stands whose mask bit is 1 (R74, R75, log 160). -/
def execHoldoffExpiry (fn : Fin 1025) (s : State) : Host.Outcome State Fault Refusal :=
  let w := win s fn
  match w.firstUnsignalled with
  | some t =>
    if w.holdoff = 0 then .next s
    else
      let s := updWin fn (fun w => { w with unsignalled := 0, firstUnsignalled := none }) (advanceTo (t + 1000 * w.holdoff) s)
      .next (if readyCause w then sendVector fn 0 s else s)
  | none => .next s

/-! Function-level reset. -/

/-- FUNCTION_LEVEL_RESET (R79): streams, frames in assembly and registers of the window reset, the MSI-X structures to their PCIe reset state. -/
def execFunctionLevelReset (fn : Fin 1025) (s : State) : Host.Outcome State Fault Refusal :=
  let fis := windowFlows s fn
  let s := discardFlows fis s
  let left := (s.doc.descs.filter (fun p => fis.contains p.2.flow)).map (·.1)
  let s := closeFlows fis (dropSeals fn s)
  let s := resetWindow fn s
  let s := updWin fn (fun w => { w with flr := some left }) s
  .next (updPcie fn (fun _ => {}) s)

/-- FUNCTION_LEVEL_RESET_DONE (R79): once the commands that were taken have run to completion, their flows are freed. -/
def execFunctionLevelResetDone (fn : Fin 1025) (s : State) : Host.Outcome State Fault Refusal :=
  match (win s fn).flr with
  | none => .next s
  | some ts =>
    if ts.any (fun t => ((desc s t).map (·.discard)).getD false) then .next s
    else
      let live := ((win s fn).streams).filterMap (·.2.flow)
      .next (updWin fn (fun w => { w with flr := none }) (closeFlows ((windowFlows s fn).filter (fun fi => !live.contains fi)) s))

end Sys2Proof.Machine
end

