-- ==== Sys2Proof/Machine/DocentCmd.lean ====
section
/-!
DEFINITION. The meanings of the Docent's commands (spec 10): takes, hand-backs, parks, release and publication, the tick and its timers.
-/

namespace Sys2Proof.Machine

/-! Takes. -/

/-- DOC_TAKE: the cell stalls until the Docent hands it a command (R251, R255). -/
def execDocTake (cell : Fin 128) (s : State) : Host.Outcome State Fault Refusal :=
  if (cellRegs s cell).held.isSome || s.doc.waiting.any (fun c => c.cell == cell.val) then .next s
  else
    let s := settleCell cell s
    .next (offerWork { s with doc := { s.doc with waiting := s.doc.waiting ++ [{ cell := cell.val, since := s.now }] } })

/-- TAKE_TIMEOUT: the stalled read returns 0 (R255). -/
def execTakeTimeout (cell : Fin 128) (s : State) : Host.Outcome State Fault Refusal :=
  match s.doc.waiting.find? (fun c => c.cell == cell.val) with
  | none => .next s
  | some c =>
    let s := settleCell cell (advanceTo (c.since + 1000 * s.doc.takeTimeout) s)
    let s := { s with doc := { s.doc with waiting := s.doc.waiting.filter (fun x => x.cell != cell.val) } }
    .next (updCell cell (fun r => { r with take := 0 }) s)

/-! Hand-backs. -/

/-- A cell completes the secondary copy: its response is the one that the window compares (R261). -/
def isSecondary (d : Desc) (cell : Nat) : Bool := d.copies.any (fun k => k.cell == cell && k.secondary)

/-- Marks one copy complete; whether every copy the command needs is (R261). -/
def completeCopy (c : Nat) (d : Desc) : Desc × Bool :=
  let cs := d.copies.map (fun k => if k.cell = c then { k with complete := true } else k)
  ({ d with copies := cs }, cs.all (·.complete) && (!d.dual || cs.length == 2))

/-- What lies in staging when a cell completes a command for which it wrote nothing: some status of Table 4-7 and bytes, which no rule fixes (R110, log 150). -/
def strayResponse (s : State) : Resp × State :=
  let (st, s) := freeNumber s
  let (n, s) := freeNumber s
  let (b, s) := freeBytes (n % 65537) s
  ({ status := Status.codes.getD (st % 30) Status.ok, fnFlags := 0, payload := b }, s)

/-- The response that a cell has written into staging for its copy. -/
def stagedResponse (secondary : Bool) (d : Desc) (s : State) : Desc × State :=
  match if secondary then d.resp2 else d.resp with
  | some _ => (d, s)
  | none =>
    let (r, s) := strayResponse s
    (if secondary then { d with resp2 := some r } else { d with resp := some r }, s)

/-- The window's comparison of the two copies' responses: equal, or there is one only (R26, R261). -/
def copiesAgree (d : Desc) : Bool :=
  match d.resp2 with
  | some r => d.resp == some r
  | none => true

/-- One copy of a command parks on an object: it leaves service and keeps the command's ticket; another copy stays where it is (R258, R262). -/
def parkDesc (c t wait object : Nat) (s : State) : State :=
  updDesc t (fun d => { d with
    st := .parked wait object, copies := d.copies.filter (fun k => k.cell != c), signalled := false, parkOrder := s.doc.parkCount })
    (nextOrder (freeCell c s))

/-- A park on a DRBG instance that has been reseeded or instantiated meanwhile is re-offered at once; after the fatal alarm it is answered (R279, R280). -/
def settlePark (t wait object : Nat) (s : State) : State :=
  if wait ≠ 1 then s
  else if s.rng.fatal then endCommand t Status.entropyFailed s
  else if instServes s object then signalPark 1 object s
  else s

/-- DOC_DONE_PARK: WAIT 1 or 2; any other is refused and the write ignored (R256, R258, Table 10-5). -/
def execDocDonePark (cell : Fin 128) (ticket : Fin 65536) (wait : Fin 8) (object : Fin 65536) (s : State) : Host.Outcome State Fault Refusal :=
  if (cellRegs s cell).held ≠ some ticket.val || !(wait == 1 || wait == 2) then .next (ignoredDone cell ticket s)
  else .next (offerWork (settlePark ticket wait object (parkDesc cell ticket wait object s)))

/-- PARK_SIGNAL (R258). -/
def execParkSignal (wait : Fin 8) (object : Fin 65536) (s : State) : Host.Outcome State Fault Refusal :=
  .next (offerWork (signalPark wait object s))

/-! Release and publication. -/

/-- RESPONSE_RELEASE: the release test of a flow, then the takes the advanced release point frees (R252, R263). -/
def execResponseRelease (flow : Fin 65536) (s : State) : Host.Outcome State Fault Refusal := .next (offerWork (releaseAll flow s))

/-- RESPONSE_PUBLISH (R69). -/
def execResponsePublish (fn : Fin 1025) (stream : Fin 16) (s : State) : Host.Outcome State Fault Refusal := .next (publishNext fn stream s)

/-! The tick (R259, R260). -/

/-- One tick in ns. -/
def tickNs (s : State) : Nat := 1000 * s.doc.tickUs

/-- The first boundary at or after a time; a TICK_US that is pending counts from the next boundary on (R259). -/
def boundaryFor (s : State) (t : Nat) : Nat :=
  if t ≤ s.doc.nextTick then s.doc.nextTick
  else s.doc.nextTick + roundUp (max 1 (1000 * s.doc.tickPending.getD s.doc.tickUs)) (t - s.doc.nextTick)

/-- The VDD_CORE setpoint of a service mode in mV (Table 15-3). -/
def setpointMv (mode : Nat) : Nat := if mode = 2 then 740 else 800

/-- The setpoint that a service mode asks for under a thermal step (R377, Table 15-3). -/
def wantedMv (step mode : Nat) : Nat := if step ≥ 2 then 720 else if step = 1 then 740 else setpointMv mode

/-- A change of service mode at its boundary: wings stop taking until they have switched, dual dispatch starts or stops, and a change that raises clocks first asks for the higher setpoint (R262, R369). -/
def beginSwitch (m : ModeChange) (s : State) : State :=
  let mv := wantedMv s.pow.step m.target
  let up := decide (mv > s.pow.vcoreMv)
  let wings := (List.range 16).filter (fun w => let x := wing s w; !x.retired && !x.quarantined && x.power != .dark && x.power != .nap)
  { s with
    pow := { s.pow with
      switching := wings, switchTo := some m.target, switchTicket := m.ticket
      avs := if up then some { millivolts := mv, tries := 1 } else s.pow.avs }
    doc := { s.doc with dual := m.target == 4, modeChange := none } }

/-- A cut of the rates takes effect: the new rates stand and the buckets are clamped to the new bursts (R48). -/
def applyQuota (q : QuotaChange) (s : State) : State :=
  updGal q.gallery (fun g => { g with
    desc := { g.desc with cmdRate := q.cmdRate, cmdBurst := q.cmdBurst, pkRate := q.pkRate, pkBurst := q.pkBurst }
    cmdTokens := min g.cmdTokens q.cmdBurst, pkTokens := min g.pkTokens q.pkBurst }) s

/-- Order 1: mode and quota changes (R30, R48). -/
def tickChanges (s : State) : State :=
  let s := s.doc.quotaChanges.foldl (fun s q => applyQuota q s) s
  let s := { s with doc := { s.doc with quotaChanges := [] } }
  match s.doc.modeChange with
  | some m => beginSwitch m s
  | none => s

/-- One gallery's buckets refilled by their rates up to their bursts; an unlimited rate has no bucket to fill (R45). -/
def refillGallery (g : Gallery) : Gallery :=
  { g with
    cmdTokens := if g.desc.cmdRate = 0xFFFF then g.cmdTokens else min (g.cmdTokens + g.desc.cmdRate) g.desc.cmdBurst
    pkTokens := if g.desc.pkRate = 0xFFFF then g.pkTokens else min (g.pkTokens + g.desc.pkRate) g.desc.pkBurst }

/-- Order 2: the token refill. -/
def tickRefill (s : State) : State := { s with vit := { s.vit with galleries := mmap refillGallery s.vit.galleries } }

/-- The gap time-out of a flow: missing numbers answered SEQUENCE_GAP, held commits placed, NEXT past the highest held number; a standby leaves the verdict to its partner (R91, R92). -/
def fireGap (fi : Nat) (s : State) : State :=
  match mget s.doc.flows fi with
  | none => s
  | some fl =>
    if fl.held = [] || !ownVerdicts s then s
    else
      let top := fl.held.foldl (fun a h => max a h.seq) 0
      let s := ((List.range (top + 1 - fl.next)).map (· + fl.next)).foldl (fun s q =>
        match fl.held.find? (fun h => h.seq == q) with
        | some h =>
          let (d, s) := enterHeld fi fl h s
          placeDesc fi fl d s
        | none => placeGap fi fl q s) s
      updFlow fi (fun f => { f with held := [], gapAt := none, next := top + 1 }) s

/-- Timers that are due, in order of expiry time, then of insertion (R259). -/
def inOrder {α : Type} (l : List (Nat × Nat × α)) : List α :=
  (l.mergeSort (fun a b => decide (a.1 < b.1) || (a.1 == b.1 && decide (a.2.1 ≤ b.2.1)))).map (·.2.2)

/-- The flows whose gap time-out is due. -/
def dueGaps (s : State) : List Nat :=
  inOrder (s.doc.flows.filterMap (fun p => p.2.gapAt.bind (fun t => if t ≤ s.now then some (t, p.2.gapOrder, p.1) else none)))

/-- The status of a command whose deadline passes where it waits: parked and not signalled, for a wing that can take its secondary copy, or for a mask seed that its engine's instance cannot give (R94, R217, R257, R262). -/
def waitStatus (s : State) (d : Desc) : Option Nat :=
  if d.st == .inService && d.dual && d.copies.length == 1 && !d.begun && !d.executed && d.stepped == [] then some Status.timeout
  else if d.executed || d.stepped != [] || d.resp.isSome then none
  else if d.copies.any (fun k => waitsForSeed s d k && !instServes s (4096 + k.cell / 8)) then some Status.entropyUnavailable
  else match d.st with
    | .parked w _ => if d.signalled then none else some (if w = 1 then Status.entropyUnavailable else Status.timeout)
    | _ => none

/-- A deadline fires: from here on a take answers TIMEOUT, and a command that waits is answered at once (R94, R257, R262); one that a signal has re-offered is no longer parked (R268); a standby leaves the verdict to its partner. -/
def fireDeadline (t : Nat) (s : State) : State :=
  match desc s t with
  | none => s
  | some d =>
    if !ownVerdicts s || (isParked d && d.signalled) then s
    else
      let s := updDesc t (fun d => { d with expired := true }) s
      match waitStatus s d with
      | some st => endCommand t st s
      | none => s

/-- The tickets whose deadline is due and has not fired, or that have come to wait past it. -/
def dueDeadlines (s : State) : List Nat :=
  inOrder (s.doc.descs.filterMap (fun p =>
    if (p.2.st == .queued || p.2.st == .inService || isParked p.2) && (!p.2.expired || (waitStatus s p.2).isSome) then
      p.2.deadline.bind (fun t => if t ≤ s.now then some (t, p.2.order, p.1) else none) else none))

/-- A frame of the operation has taken its position and is not answered yet: it cancels the idle timer (R152). -/
def frameWaits (s : State) (g : Nat) (o : SpanOp) : Bool :=
  s.doc.descs.any (fun p => p.2.st != .done && p.2.st != .released && p.2.behind.isNone && p.2.function == o.function &&
    spanOpOf p.2.frame == some o.opId && (mget s.doc.flows p.2.flow).map (·.sid) == some o.sid && o.sid.gallery == g)

/-- The expiry time of an operation's idle timer while it runs. -/
def idleRuns (s : State) (g : Nat) (o : SpanOp) : Option Nat := if frameWaits s g o then none else o.idleAt

/-- Abandons an operation that spans frames: its state and any escrowed release key are gone (R152, R154). -/
def abandonOp (g op : Nat) (s : State) : State := updGal g (fun x => { x with ops := mdel x.ops op }) s

/-- The operations whose idle time-out is due. -/
def dueOps (s : State) : List (Nat × Nat) :=
  inOrder (s.vit.galleries.flatMap (fun p => p.2.ops.filterMap (fun o =>
    (idleRuns s p.1 o.2).bind (fun t => if t ≤ s.now then some (t, o.2.idleOrder, p.1, o.1) else none))))

/-- The GALLERY_UNBIND that waits for the drain is still there to be answered. -/
def unbindWaits (s : State) (t : Nat) : Bool :=
  match desc s t with
  | some d => d.function == 0x0E03 && d.st == .inService && d.resp.isNone
  | none => false

/-- An unbind completes: what the window still held is discarded, the window is reset and unbound, and GALLERY_UNBIND has its OK; one that was ended meanwhile has its answer, and the partner is told of the unbinding alone (R38). -/
def completeUnbind (fn : Nat) (s : State) : State :=
  match (win s fn).unbind with
  | none => s
  | some u =>
    let c : Change := .bind fn none none
    let waits := unbindWaits s u.ticket
    let s := dropWindow fn s
    if waits then updDesc u.ticket (fun d => { d with resp := some (okResp []), executed := true, changes := d.changes ++ [c] }) s
    else mirrorChanges [c] s

/-- Everything committed to a window has been released and acknowledged. -/
def windowDrained (s : State) (fn : Nat) : Bool := (windowFlows s fn).all (flowEmpty s)

/-- The windows whose unbind drain time-out is due. -/
def dueUnbinds (s : State) : List Nat :=
  inOrder (s.fab.windows.filterMap (fun p => p.2.unbind.bind (fun u => if u.expiry ≤ s.now then some (u.expiry, u.order, p.1) else none)))

/-- What the boundary does beside its timers: occupancy integrated per tick (R53), REFUSED_TICK of each window (R75), the tick count, and a TICK_US that was pending (R259). -/
def tickClose (period : Nat) (s : State) : State :=
  let gs := s.vit.galleries.map (fun (p : Nat × Gallery) =>
    (p.1, { p.2 with meter := { p.2.meter with entryTicks := p.2.meter.entryTicks + cacheEntries s p.1 * period } }))
  let ws := s.fab.windows.map (fun (p : Nat × Window) => (p.1, { p.2 with refusedTick := p.2.refusedNow, refusedNow := 0 }))
  let s := { s with vit := { s.vit with galleries := gs }, fab := { s.fab with windows := ws } }
  let us := s.doc.tickPending.getD s.doc.tickUs
  { s with doc := { s.doc with
      ticks := (s.doc.ticks + 1) % 2 ^ 32, tickUs := us, tickPending := none
      nextTick := s.doc.nextTick + 1000 * us, refilled := false } }

/-- TICK_BOUNDARY: the next boundary, its work in the order of Table 10-6 (R259, R260). -/
def execTickBoundary (s : State) : Host.Outcome State Fault Refusal :=
  let s := advanceTo s.doc.nextTick s
  let period := tickNs s
  let s := tickChanges s
  let s := if s.doc.refilled then s else tickRefill s
  let s := (dueGaps s).foldl (fun s fi => fireGap fi s) s
  let s := (dueDeadlines s).foldl (fun s t => fireDeadline t s) s
  let s := (dueOps s).foldl (fun s o => abandonOp o.1 o.2 s) s
  let s := (dueUnbinds s).foldl (fun s fn => completeUnbind fn s) s
  .next (offerWork (tickClose period s))

/-- MODE_AND_QUOTA_CHANGES: order 1 of the next boundary (R260). -/
def execModeAndQuotaChanges (s : State) : Host.Outcome State Fault Refusal := .next (tickChanges (advanceTo s.doc.nextTick s))

/-- TOKEN_REFILL: order 2 of the next boundary, once for each boundary (R45, R260). -/
def execTokenRefill (s : State) : Host.Outcome State Fault Refusal :=
  if s.doc.refilled then .next s
  else
    let s := tickRefill (advanceTo s.doc.nextTick s)
    .next { s with doc := { s.doc with refilled := true } }

/-- GAP_TIME_OUT: fires at the first boundary at or after its expiry (R91, R259). -/
def execGapTimeOut (flow : Fin 65536) (s : State) : Host.Outcome State Fault Refusal :=
  match (mget s.doc.flows flow.val).bind (·.gapAt) with
  | some t => .next (offerWork (fireGap flow (advanceTo (boundaryFor s t) s)))
  | none => .next s

/-- DEADLINE: fires at the first boundary at or after its expiry (R94, R257, R259). -/
def execDeadline (ticket : Fin 65536) (s : State) : Host.Outcome State Fault Refusal :=
  match (desc s ticket).bind (·.deadline) with
  | some t => .next (offerWork (fireDeadline ticket (advanceTo (boundaryFor s t) s)))
  | none => .next s

/-- OPERATION_IDLE_TIME_OUT (R152, R259). -/
def execOperationIdleTimeOut (gallery opId : Nat) (s : State) : Host.Outcome State Fault Refusal :=
  match ((gal s gallery).bind (fun g => mget g.ops opId)).bind (idleRuns s gallery) with
  | some t => .next (abandonOp gallery opId (advanceTo (boundaryFor s t) s))
  | none => .next s

/-- UNBIND_DRAIN_TIME_OUT (R38, R259). -/
def execUnbindDrainTimeOut (fn : Fin 1025) (s : State) : Host.Outcome State Fault Refusal :=
  match (win s fn).unbind with
  | some u => .next (completeUnbind fn (advanceTo (boundaryFor s u.expiry) s))
  | none => .next s

/-- UNBIND_COMPLETE: every command already committed has been released and acknowledged (R38). -/
def execUnbindComplete (fn : Fin 1025) (s : State) : Host.Outcome State Fault Refusal :=
  if (win s fn).unbind.isSome && windowDrained s fn then .next (completeUnbind fn s) else .next s

/-- TICK_US_WRITE: 1 to 100 takes effect at the first boundary after the write; any other value is ignored (R259, Table 10-8). -/
def writeTick (value : W64) (s : State) : State :=
  let v := field value 6 0
  (configWrite (fun s => if v = 0 ∨ v > 100 then s else { s with doc := { s.doc with tickPending := some v } }) s)

/-- TICK_US_WRITE (R259, Table 10-8). -/
def execTickUsWrite (value : W64) (s : State) : Host.Outcome State Fault Refusal := .next (writeTick value s)

/-- HIST_CLEAR: every DOC_HIST bin becomes 0 (R266, Table 10-10). -/
def clearHist (s : State) : State :=
  (configWrite (fun s => { s with doc := { s.doc with hist := [], histClearedAt := moduleTime s % 2 ^ 32 } }) s)

/-- HIST_CLEAR (R266, Table 10-10). -/
def execHistClear (s : State) : Host.Outcome State Fault Refusal := .next (clearHist s)

end Sys2Proof.Machine
end

