-- ==== Sys2Proof/Machine/Run.lean ====
section
/-!
DEFINITION. How a cell executes the command it holds: the order under R97, the cell's accesses (R44), the function's own checks (R93 step 11), draws (R276, R279, R280), steps of use budgets (R176), and the response.
-/

namespace Sys2Proof.Machine

/-- What a function works from: the cell, the command, and its gallery as the command took it (R97, R98). -/
structure Ctx where
  cell : Nat
  t : Nat
  d : Desc
  sid : StreamId
  g : Nat
  gal : Gallery
  deriving Repr

/-- The frame. -/
def Ctx.f (c : Ctx) : Bytes := c.d.frame

/-- A key like none, for positions that hold no key. -/
def noHeldKey : HeldKey :=
  { vitrine := false, slot := 0, useClass := 0, usage := 0, mode := 0, alg := 0, exportable := 0, version := 0, keyType := 0, finite := false
    dukpt := false, material := [], digest := [], generation := 0, depth := 0, counter := 0, opts := [], entry := 0 }

/-- The key at a handle position, if one is named there. -/
def Ctx.key? (c : Ctx) (i : Nat) : Option HeldKey := (c.d.keys[i]?).join

/-- The key at a handle position. -/
def Ctx.key (c : Ctx) (i : Nat) : HeldKey := (c.key? i).getD noHeldKey

/-- The outcome of a function: its response, the state steps it made and the state after them. -/
abbrev FnResult := Resp × List Change × State

/-! State objects (R97). -/

/-- Kinds of state object that commands of several streams touch: budgets and counters in the record of a slot, and the gallery's accession lock (R97, R206). -/
inductive StateObject where
  | record (slot : Nat)
  | accession
  deriving DecidableEq, Repr

/-- The slots of the keys with a finite budget that a command holds. -/
def finiteSlots (d : Desc) : List Nat :=
  (d.keys.filterMap (fun k => k.bind (fun x => if x.vitrine && x.finite then some x.slot else none))).eraseDups

/-- The state objects that a command touches. -/
def objectsOf (d : Desc) : List StateObject :=
  (finiteSlots d).map .record ++
  (match d.function with
   | 0x0103 => if fnBit0 d.frame then [.record (leAt d.frame 128 3)] else []
   | 0x0105 => [.record (leAt d.frame 32 3)]
   | 0x0405 => [.record (handleSlot (handleAt d.frame 0))]
   | 0x0B10 => [.record (leAt d.frame 32 3)]
   | 0x0D01 => [.accession, .record (leAt d.frame 48 3), .record (leAt d.frame 188 3)]
   | 0x0D02 => [.record (leAt d.frame 32 3)]
   | 0x0E21 => [.accession]
   | _ => [])

/-- The state objects of which a command has still to make its step. -/
def objectsLeft (d : Desc) : List StateObject :=
  if d.resp.isSome then []
  else (objectsOf d).filter (fun o => match o with
    | .record n => !d.stepped.contains n
    | .accession => true)

/-- A command of gallery `g` that entered service before `d` has still to make a step of one of these objects; it may be parked or re-offered meanwhile (R97). -/
def objectsTaken (s : State) (g : Nat) (d : Desc) (objs : List StateObject) : Bool :=
  s.doc.descs.any (fun p => unfinishedStep p.2 && enteredBefore p.2 d &&
    (mget s.doc.flows p.2.flow).map (·.sid.gallery) == some g && (objectsLeft p.2).any objs.contains)
where
  /-- the command has been taken and is not done -/
  unfinishedStep (d : Desc) : Bool := d.st == .inService || d.st == .queued || isParked d

/-- A command waits for its turn at a state object (R97). -/
def waitsForLock (s : State) (g : Nat) (d : Desc) : Bool := objectsTaken s g d (objectsOf d)

/-! Draws (R275 to R279). -/

/-- The DRBG instance a function draws from: the executing wing's key generator for GENERATE, else its gallery's (Table 11-3). -/
def drawInstance (c : Ctx) : Nat := if c.d.function = 0x0D01 then 4112 + c.cell / 8 else c.gal.index

/-- Requests since the seeding of an instance. -/
def requestsOf (s : State) (n : Nat) : Nat := ((mget s.rng.drbgs n).map (·.requests)).getD 0

/-- The class of a queued draw in the order of R277: reseeds at the hard limit, instantiations, reseeds that are due. -/
def drawClass (s : State) (q : PoolDraw) : Nat := if !q.reseed then 1 else if requestsOf s q.inst ≥ 2 ^ 32 then 0 else 2

/-- A draw is served before another queued after it. -/
def drawBefore (s : State) (a b : PoolDraw) : Bool :=
  decide (drawClass s b < drawClass s a) || (drawClass s a == 2 && drawClass s b == 2 && decide (requestsOf s a.inst < requestsOf s b.inst))

/-- The draw that the pool serves next (R277). -/
def nextDraw (s : State) : Option PoolDraw :=
  s.rng.queue.foldl (fun best q => match best with
    | none => some q
    | some b => if drawBefore s b q then some q else some b) none

/-- The blocks a draw needs (R276). -/
def drawBlocks (q : PoolDraw) : Nat := if q.reseed then 2 else 4

/-- RNG_STATE.SHORT: draws are queued that the pool cannot serve. -/
def rngShort (s : State) : Bool :=
  match nextDraw s with
  | some q => decide (s.rng.pool.length < drawBlocks q)
  | none => false

/-- The personalisation string of an instance: its number, the module serial, for a gallery's the gallery ID and creation epoch (R276). -/
def personalOf (s : State) (n : Nat) : Bytes :=
  leBytes 2 n ++ serialBytes ++ (if n < 4096 then
    match s.vit.galleries.find? (fun p => p.2.index == n) with
    | some p => leBytes 4 p.1 ++ leBytes 4 p.2.desc.epoch
    | none => []
    else [])

/-- Instantiates an instance from pool blocks. -/
def instantiate (n : Nat) (s : State) : State :=
  let (k, v) := drbgInstantiate (s.rng.pool.take 4).flatten (personalOf s n)
  { s with rng := { s.rng with drbgs := mset s.rng.drbgs n { key := k, v := v, requests := 0 }, pool := s.rng.pool.drop 4 } }

/-- Reseeds an instance from pool blocks. -/
def reseedInst (n : Nat) (s : State) : State :=
  match mget s.rng.drbgs n with
  | none => s
  | some d =>
    let (k, v) := drbgReseed d.key d.v (s.rng.pool.take 2).flatten
    { s with rng := { s.rng with drbgs := mset s.rng.drbgs n { key := k, v := v, requests := 0 }, pool := s.rng.pool.drop 2 } }

/-- Queues a draw on the pool, unless the instance has one queued already (R277). -/
def queueDraw (n : Nat) (reseed : Bool) (s : State) : State :=
  if s.rng.queue.any (fun q => q.inst == n) then s
  else { s with rng := { s.rng with queue := s.rng.queue ++ [{ inst := n, reseed := reseed }] } }

/-- A draw leaves the queue. -/
def unqueueDraw (n : Nat) (s : State) : State := { s with rng := { s.rng with queue := s.rng.queue.filter (fun x => x.inst != n) } }

/-- A reseed that is due precedes the next request when the pool serves it (R277, R283). -/
def reseedFirst (n : Nat) (s : State) : State :=
  match nextDraw s with
  | some q => if q.inst == n && q.reseed && decide (s.rng.pool.length ≥ drawBlocks q) then reseedInst n (unqueueDraw n s) else s
  | none => s

/-- A generate request of an instance that serves none: the draw it lacks is queued, and the command that needed it is parked by its cell (R279). What comes back is used by nothing. -/
def starve (n len : Nat) (s : State) : Bytes × State :=
  let s := queueDraw n (mhas s.rng.drbgs n) s
  (zeros len, { s with rng := { s.rng with starved := some n } })

/-- One generate request, of at most 4,096 bytes, with the module time as additional input; a reseed is queued when its interval is reached. No instance delivers output before the start-up is done, or at its hard limit (R274, R276, R278, R279). -/
def drawBytes (n len : Nat) (s : State) : Bytes × State :=
  let s := reseedFirst n s
  match mget s.rng.drbgs n with
  | none => starve n len s
  | some x =>
    if x.requests ≥ 2 ^ 32 || !s.rng.startupDone then starve n len s else
    let (out, k, v) := drbgGenerate x.key x.v (leBytes 8 (moduleTime s)) len
    let r := x.requests + 1
    let s := { s with rng := { s.rng with drbgs := mset s.rng.drbgs n { x with key := k, v := v, requests := r } } }
    (out, if r ≥ s.rng.interval then queueDraw n true s else s)

/-- A random value of a unit that is no command's, which waits for nothing: a free value while the instance serves nothing (log 164). -/
def drawFree (n len : Nat) (s : State) : Bytes × State :=
  if instServes s n && s.rng.startupDone then drawBytes n len s else freeBytes len s

/-- A hardware nonce: FIXED and COUNTER, each big-endian; the reservation mark is advanced before the counter reaches it (R150, R221, R222). -/
def fixedField (s : State) : Nat := 2 ^ 30 * s.pair.member + 2 ^ 24 * s.fuses.epochs + Config.nonceUnit.toNat

/-- Draws the next COUNTER value. -/
def nextNonce (s : State) : Nat × State :=
  let n := s.rng.nonceCounter
  let mark := if n + 1 ≥ s.bb.nonceMark then s.bb.nonceMark + 2 ^ 24 else s.bb.nonceMark
  (n, { s with rng := { s.rng with nonceCounter := n + 1 }, bb := { s.bb with nonceMark := mark } })

/-- Draws a nonce. -/
def drawNonce (s : State) : Bytes × State :=
  let (n, s') := nextNonce s
  (beBytes 4 (fixedField s) ++ beBytes 8 n, s')

/-! Steps (R176, R214). -/

/-- Steps the budgets of the keys that a command applies and has not yet stepped; `none` when one has no use left. -/
def stepSlots (g : Nat) : List Nat → State → Option (List Change × State)
  | [], s => some ([], s)
  | n :: rest, s =>
    match stepBudget g n s with
    | none => none
    | some (ch, s) => (stepSlots g rest s).map (fun r => (ch.toList ++ r.1, r.2))

/-! Accesses. -/

/-- A right on the Vitrine that a function needs: it writes or reads a record (R41, R44, R192, R194, R197). -/
def vitrineRight (d : Desc) : Option Nat :=
  match d.function with
  | 0x0103 => if fnBit0 d.frame then some rightWR else none
  | 0x0105 | 0x0405 | 0x0B10 | 0x0D01 | 0x0D02 | 0x0E21 => some rightWR
  | 0x0B11 | 0x0D03 => some rightRD
  | _ => none

/-- The command sends on the span: a pair, migration or loan function, or one whose result goes to the partner (R291, R315). -/
def usesSpan (s : State) (d : Desc) : Bool := decide (0x0E30 ≤ d.function ∧ d.function ≤ 0x0E37) || (d.originating && mirrors s)

/-- An access the command needs and its gallery's row does not permit: an engine (targets 2 to 4), the operands of a PK function in wing memory (5), the Vitrine (0), the span (9) (R41, R44, R235). -/
def deniedAccess (s : State) (d : Desc) : Bool :=
  let engines := ((fnSpec d.function).map (fun x => x.engines d.frame)).getD []
  engines.any (fun e => !hasRight d.rights e rightUSE) ||
  (engines.contains 4 && !(hasRight d.rights 5 rightRD && hasRight d.rights 5 rightWR)) ||
  ((vitrineRight d).map (fun r => !hasRight d.rights 0 r)).getD false ||
  (usesSpan s d && !hasRight d.rights 9 rightUSE)

/-- The command writes the Vitrine: a record, a use budget, a gallery's header (R171, R174, R176). -/
def writesVitrine (d : Desc) : Bool :=
  vitrineRight d == some rightWR || finiteSlots d != [] || (d.function / 256 == 0x0E && d.originating)

/-! Execution. -/

/-- A record as a taken command sees it: as it stood at the take, with the counters that the same record has now; a try counter or a curve, which no fence changes, as it stands (R97, R98). -/
def recordAsTaken (live : Map VRecord) (p : Nat × VRecord) : Option (Nat × VRecord) :=
  match mget live p.1 with
  | some l => some (p.1, if l.generation = p.2.generation ∨ l.kind = 5 ∨ l.kind = 6 then l else p.2)
  | none => if p.2.kind = 5 ∨ p.2.kind = 6 then none else some p

/-- A gallery as a taken command sees it: the key state, descriptor and rights of its take, whatever fences have fallen since (R98, R105). -/
def asTaken (d : Desc) (g : Gallery) : Gallery :=
  { g with
    desc := d.seenDesc.getD g.desc, rights := d.rights
    records := (g.records.filter (fun p => p.2.kind == 5 || p.2.kind == 6)).foldl (fun m p => mset m p.1 p.2) (d.seen.filterMap (recordAsTaken g.records)) }

/-- The command that a cell holds, when it is in service there, of this function and its copy still without a response. -/
def heldCommand (cell code : Nat) (s : State) : Option Ctx :=
  match (cellRegs s cell).held with
  | none => none
  | some t =>
    match desc s t with
    | none => none
    | some d =>
      match mget s.doc.flows d.flow with
      | none => none
      | some fl =>
        match gal s fl.sid.gallery with
        | none => none
        | some g =>
          if d.function = code ∧ d.st = .inService ∧ (if (cellRegs s cell).secondary then d.resp2 else d.resp) = none ∧
              (d.copies.any (fun k => k.cell == cell)) = true then
            some { cell := cell, t := t, d := d, sid := fl.sid, g := fl.sid.gallery, gal := asTaken d g }
          else none

/-- The function draws from an instance. -/
def drawsNow (d : Desc) : Bool := ((fnSpec d.function).map (fun x => x.random d.frame)).getD false

/-- After its checks the function makes its steps, and runs. -/
def applyFn (c : Ctx) (run : Ctx → State → FnResult) (s : State) : State :=
  let slots := (finiteSlots c.d).filter (fun n => !c.d.stepped.contains n)
  match stepSlots c.g slots s with
  | none => answerFn c.t (statusOnly Status.keyUseLimit) [] s
  | some (steps, s) =>
    let s := updDesc c.t (fun d => { d with stepped := d.stepped ++ slots, changes := d.changes ++ steps }) s
    let (r, ch, s) := run c s
    answerFn c.t r ch s

/-- A cell has to wait before its command can go on: while an earlier command holds a state object it needs (R97), while the power-fail warning forbids the Vitrine write it needs (R373), while its gallery has no journal page for its entry (the cell then parks it, R94, R102). -/
def mustWait (s : State) (c : Ctx) : Bool :=
  waitsForLock s c.g c.d || (s.pow.failWarning && writesVitrine c.d) || (c.d.originating && !pageFor s c.g)

/-- The command is turned away before its function's own checks: an access its row does not permit (02 R44), or a hardware nonce when the nonce service is withdrawn (06 R150, 08 R222). -/
def turnedAway (s : State) (c : Ctx) : Bool := deniedAccess s c.d || (asksNonce c.f && s.fuses.nonceWithdrawn)

/-- The command needs a cipher engine that has no spare mask seed; a cell that holds the engine goes on (R209, R216, R227). -/
def lacksSeed (s : State) (c : Ctx) : Bool :=
  usesEngine c.d 2 && !(wing s (c.cell / 8)).cen.seedReady && (wing s (c.cell / 8)).cen.owner != some (c.cell % 8)

/-- What a cell did is kept, unless an instance refused it a request: then only the draws stand, and the cell parks the command (R279). -/
def unlessStarved (before after : State) : State :=
  if after.rng.starved.isSome then { before with rng := { after.rng with starved := none }, bb := after.bb } else after

/-- A cell works on the primary copy: nothing happens while it must wait, while the engine it needs has no spare mask seed (R216), or while its DRBG instance serves no request (the cell then parks it, R279). `act` is what it does once its checks have passed. -/
def runPrimary (c : Ctx) (check : Ctx → State → Option Resp) (act : Ctx → State → State) (s : State) : State :=
  if mustWait s c then s
  else if turnedAway s c then answerFn c.t (statusOnly Status.accessDenied) [] s
  else match check c s with
    | some r => answerFn c.t r [] s
    | none =>
      if lacksSeed s c then (if maskExhausted s (c.cell / 8) then offerWork (avoidEngine c.t (c.cell / 8) s) else s)
      else if drawsNow c.d then
        if s.rng.fatal then answerFn c.t (statusOnly Status.entropyFailed) [] s
        else if !instServes s (drawInstance c) then queueDraw (drawInstance c) (mhas s.rng.drbgs (drawInstance c)) s
        else unlessStarved s (act c s)
      else act c s

/-- A cell works on the secondary copy: it makes no step and draws nothing. Of a command that draws or steps it waits for what the primary drew, and computes with it; any other it computes by itself (R261, R262). -/
def runSecondary (c : Ctx) (check : Ctx → State → Option Resp) (act : Ctx → State → State) (s : State) : State :=
  if drawsNow c.d || c.d.originating then updDesc c.t (fun d => { d with resp2 := d.resp }) s
  else
    let own := runPrimary c check act (updDesc c.t (fun d => { d with resp := none }) s)
    updDesc c.t (fun d => { d with resp2 := (desc own c.t).bind (·.resp) }) s

/-- A cell executes the copy that it holds of a command. -/
def runCmd (cell code : Nat) (check : Ctx → State → Option Resp) (act : Ctx → State → State) (s : State) : State :=
  match heldCommand cell code s with
  | none => s
  | some c => if (cellRegs s cell).secondary then runSecondary c check act s else runPrimary c check act s

/-- The same for a function that answers as soon as it has run. -/
def runFn (cell code : Nat) (check : Ctx → State → Option Resp) (run : Ctx → State → FnResult) (s : State) : State :=
  runCmd cell code check (fun c s => applyFn c run s) s

/-- A refusal of the function's own checks, when its condition holds. -/
def refuse (b : Bool) (st : Nat) : Option Resp := if b then some (statusOnly st) else none

/-- The first refusal of two. -/
def orElseResp (a : Option Resp) (b : Option Resp) : Option Resp := a <|> b

/-- A response without state steps. -/
def plain (r : Resp) (s : State) : FnResult := (r, [], s)

/-- A key's bytes as a block cipher. -/
def HeldKey.cipher (k : HeldKey) : BlockCipher := cipherOf k.alg k.material

end Sys2Proof.Machine
end

