-- ==== Sys2Proof/Machine/PinOps.lean ====
section
/-!
DEFINITION. PIN blocks, PANs, offsets, verification values and card verification values (R114, R116 to R118, R120 to R122, R127), and the meanings of the PIN and CVV functions (R119, R123 to R127).
-/

namespace Sys2Proof.Machine

/-! Nibbles and digits. -/

/-- The nibbles of a byte string, high nibble first. -/
def nibbles (b : Bytes) : List Nat := b.flatMap (fun x => [x.toNat / 16, x.toNat % 16])

/-- The bytes of a list of nibbles. -/
def ofNibbles : List Nat → Bytes
  | a :: b :: t => BitVec.ofNat 8 (16 * a + b) :: ofNibbles t
  | [a] => [BitVec.ofNat 8 (16 * a)]
  | [] => []

/-- A digit string field: one digit a byte, `n` bytes (Table 5-1). -/
def digitField (n : Nat) (l : List Nat) : Bytes := slice (l.map (BitVec.ofNat 8)) 0 n

/-- The digits of a PAN field; `none` for a bad PAN; what follows the digits is not looked at (Table 5-1, log 177). -/
def panOf (f : Bytes) (a : Nat) : Option (List Nat) :=
  let n := byteAt f a
  let d := (nibbles (slice f (a + 1) 10)).take n
  if 12 ≤ n ∧ n ≤ 19 ∧ d.all (· ≤ 9) = true then some d else none

/-- The `n` rightmost PAN digits that precede the check digit, left-padded with zeros. -/
def panTail (n : Nat) (pan : List Nat) : List Nat :=
  let d := pan.dropLast
  let t := d.drop (d.length - n)
  List.replicate (n - t.length) 0 ++ t

/-! PIN blocks (R116). -/

/-- The PAN block of formats 0 and 3. -/
def panBlock (pan : List Nat) : Bytes := ofNibbles ([0, 0, 0, 0] ++ panTail 12 pan)

/-- The PAN field of format 4: the whole PAN. -/
def panField4 (pan : List Nat) : Bytes :=
  let p := List.replicate (12 - pan.length) 0 ++ pan
  ofNibbles (((pan.length - 12) :: p) ++ List.replicate (31 - p.length) 0)

/-- The format is one the PIN functions take. -/
def pinFormat (x : Nat) : Bool := x == 0 || x == 1 || x == 3 || x == 4

/-- The key's algorithm suits the format: TDES for 0, 1 and 3, AES for 4 (R116). -/
def formatSuits (x : Nat) (alg : Nat) : Bool := if x = 4 then alg == 65 else alg == 84

/-- The clear form of a PIN block, its encryption and PAN undone; of an 8-byte block the rest of the field is not looked at (Table 5-1, log 177). -/
def openPinBlock (fmt : Nat) (c : BlockCipher) (pan : List Nat) (block : Bytes) : Bytes :=
  if fmt = 4 then c.dec (xorBytes (c.dec block) (panField4 pan))
  else
    let b := c.dec (block.take 8)
    if fmt = 1 then b else xorBytes b (panBlock pan)

/-- The PIN of a clear block when its control field, length, digits and fill are right (R117). -/
def pinOfClear (fmt : Nat) (b : Bytes) : Option (List Nat) :=
  let ns := nibbles b
  let n := ns.getD 1 0
  let pin := (ns.drop 2).take n
  let fill := ((ns.take 16).drop (2 + n))
  let fillOk := if fmt = 0 then fill.all (· == 15) else if fmt = 3 then fill.all (· ≥ 10) else if fmt = 4 then fill.all (· == 10) else true
  if ns.getD 0 16 = fmt ∧ 4 ≤ n ∧ n ≤ 12 ∧ pin.all (· ≤ 9) = true ∧ fillOk = true then some pin else none

/-- The PIN of an encrypted block, of a length in range; `none` for any fault (R117). -/
def pinOfBlock (fmt : Nat) (c : BlockCipher) (pan : List Nat) (block : Bytes) (lo hi : Nat) : Option (List Nat) :=
  (pinOfClear fmt (openPinBlock fmt c pan block)).bind (fun p => if lo ≤ p.length ∧ p.length ≤ hi then some p else none)

/-- The PIN block field of a PIN, the fill taken from the leading bits of `fill` (R116, R118). -/
def makePinBlock (fmt : Nat) (c : BlockCipher) (pan : List Nat) (fill : Bytes) (pin : List Nat) : Bytes :=
  let k := 14 - pin.length
  let ns := nibbles fill
  if fmt = 4 then
    let b := ofNibbles ([4, pin.length] ++ pin ++ List.replicate k 10) ++ slice fill 0 8
    c.enc (xorBytes (c.enc b) (panField4 pan))
  else
    let fs := if fmt = 0 then List.replicate k 15 else if fmt = 3 then (ns.take k).map (fun x => x % 6 + 10) else ns.take k
    let b := ofNibbles ([fmt, pin.length] ++ pin ++ fs)
    slice (c.enc (if fmt = 1 then b else xorBytes b (panBlock pan))) 0 16

/-- The random fill of R118: HMAC-SHA-256 under the gallery's fill key over seed, input block and format. -/
def fillBytes (c : Ctx) (seed block : Bytes) (fmt : Nat) : Bytes :=
  hmacSha256 (galleryKey c.gal.rootKey "GAL-FILL" c.g 32) (seed ++ block ++ leBytes 1 fmt)

/-- PIN_MIN and PIN_MAX with their zero meanings; `none` out of range (Table 5-3). -/
def pinRange (f : Bytes) (a b : Nat) : Option (Nat × Nat) :=
  let lo := if byteAt f a = 0 then 4 else byteAt f a
  let hi := if byteAt f b = 0 then 12 else byteAt f b
  if 4 ≤ lo ∧ lo ≤ hi ∧ hi ≤ 12 then some (lo, hi) else none

/-! PIN_TRANSLATE (R119). -/

/-- The PANs that a translation works with: of the source, unless its format is 1, and of the destination; a DST_PAN that is given is a good one whatever DST_FORMAT (R119, Table 5-3). -/
def translatePans (f : Bytes) : Option (List Nat × List Nat) :=
  let sf := byteAt f 48
  let df := byteAt f 49
  let dz := zeroAt f 72 16
  let src := if sf = 1 then some [] else panOf f 56
  let dst := if !dz then panOf f 72 else if df = 1 then some [] else panOf f 56
  let changed := sf != 1 && !dz && slice f 72 16 != slice f 56 16
  if changed && !fnBit0 f then none else src.bind (fun a => dst.map (fun b => (a, b)))

/-- A translation between two formats is allowed (R116). -/
def formatsOk (sf df salg dalg : Nat) : Bool :=
  pinFormat sf && pinFormat df && (sf == 1 || df != 1) && formatSuits sf salg && formatSuits df dalg

/-- The checks of PIN_TRANSLATE. -/
def checkPinTranslate (c : Ctx) (_ : State) : Option Resp :=
  refuse (!(formatsOk (byteAt c.f 48) (byteAt c.f 49) (c.key 0).alg (c.key 1).alg) || (pinRange c.f 50 51).isNone || (translatePans c.f).isNone)
    Status.paramRejected

/-- PIN_TRANSLATE: the block opened, checked, re-formed and encrypted. -/
def runPinTranslate (c : Ctx) (s : State) : FnResult :=
  let f := c.f
  let (sp, dp) := (translatePans f).getD ([], [])
  let (lo, hi) := (pinRange f 50 51).getD (4, 12)
  let block := slice f 88 16
  match pinOfBlock (byteAt f 48) (c.key 0).cipher sp block lo hi with
  | none => plain (statusOnly Status.verifyFailed) s
  | some pin => plain (okResp (makePinBlock (byteAt f 49) (c.key 1).cipher dp (fillBytes c (slice f 104 16) block (byteAt f 49)) pin ++ slice f 120 8)) s

/-- PIN_TRANSLATE (R119). -/
def execPinTranslate (cell : Fin 128) (s : State) : Host.Outcome State Fault Refusal :=
  .next (runFn cell 0x0101 checkPinTranslate runPinTranslate s)

/-! Offsets and verification values. -/

/-- A decimalisation table is accepted: sixteen digits, each value once or twice, none missing (R114, R121). -/
def decTableOk (t : Bytes) : Bool :=
  t.length == 16 && t.all (fun b => decide (b.toNat ≤ 9)) && (List.range 10).all (fun v => let n := (t.filter (fun b => b.toNat == v)).length; n == 1 || n == 2)

/-- The natural PIN of the offset method (R120). -/
def naturalPin (c : BlockCipher) (validation table : Bytes) (digits : Nat) : List Nat :=
  ((nibbles (c.enc validation)).take digits).map (byteAt table)

/-- The offset of a PIN (R120). -/
def pinOffset (natural pin : List Nat) : List Nat := List.zipWith (fun p n => (p + 10 - n) % 10) pin natural

/-- Decimalisation by scan: digits 0 to 9 first, then A to F less 10 (R122). -/
def scanDigits (n : Nat) (b : Bytes) : List Nat :=
  let ns := nibbles b
  (ns.filter (· ≤ 9) ++ (ns.filter (· ≥ 10)).map (· - 10)).take n

/-- The verification value of a PIN (R122). -/
def pinValue (c : BlockCipher) (pan : List Nat) (pvki : Nat) (pin : List Nat) : List Nat :=
  scanDigits 4 (c.enc (ofNibbles (panTail 11 pan ++ [pvki] ++ pin.take 4)))

/-- Offset or verification value of a PIN; `none` when the PIN is shorter than DIGITS (R123). -/
def calcPin (method digits pvki : Nat) (k : BlockCipher) (table validation : Bytes) (pan pin : List Nat) : Option (List Nat) :=
  if method = 1 then
    if digits ≤ pin.length then some (pinOffset (naturalPin k validation table digits) (pin.take digits)) else none
  else some (pinValue k pan pvki pin)

/-- METHOD, DIGITS, PVKI and the table are in range (R121, R123). -/
def methodOk (method digits pvki : Nat) (table : Bytes) : Bool :=
  (method == 1 && decide (4 ≤ digits) && decide (digits ≤ 12) && pvki == 0 && decTableOk table) ||
  (method == 2 && digits == 4 && decide (pvki ≤ 9))

/-- The parameters of PIN_CALC and PIN_VERIFY are in range. -/
def calcParams (c : Ctx) : Bool :=
  let f := c.f
  methodOk (byteAt f 48) (byteAt f 50) (byteAt f 51) (slice f 88 16) && pinFormat (byteAt f 49) && formatSuits (byteAt f 49) (c.key 0).alg &&
  (panOf f 56).isSome

/-- The value that PIN_CALC and PIN_VERIFY compute from their PIN block; `none` under R117. -/
def calcValue (c : Ctx) : Option (List Nat) :=
  let f := c.f
  let pan := (panOf f 56).getD []
  (pinOfBlock (byteAt f 49) (c.key 0).cipher pan (slice f 72 16) 4 12).bind
    (calcPin (byteAt f 48) (byteAt f 50) (byteAt f 51) (c.key 1).cipher (slice f 88 16) (slice f 104 8) pan)

/-- The checks of PIN_CALC. -/
def checkPinCalc (c : Ctx) (_ : State) : Option Resp := refuse (!calcParams c) Status.paramRejected

/-- PIN_CALC. -/
def runPinCalc (c : Ctx) (s : State) : FnResult :=
  match calcValue c with
  | none => plain (statusOnly Status.verifyFailed) s
  | some v => plain (okResp (digitField 16 v)) s

/-- PIN_CALC (R123). -/
def execPinCalc (cell : Fin 128) (s : State) : Host.Outcome State Fault Refusal :=
  .next (runFn cell 0x0102 checkPinCalc runPinCalc s)

/-! Try counters (R124, R125). -/

/-- The try-counter record that TRY_SLOT names. -/
def tryRecord (c : Ctx) : Option VRecord :=
  (recordAt c.gal (leAt c.f 128 3)).bind (fun r => if r.kind = 5 then some r else none)

/-- LIMIT and FAILS of a counter. -/
def tryCounter (r : VRecord) (i : Nat) : Nat × Nat := (byteAt r.material i / 16, byteAt r.material i % 16)

/-- PIN_VERIFY's payload: TRIES_LEFT. -/
def triesPayload (n : Nat) : Bytes := leBytes 1 n ++ zeros 7

/-- What TRY adds to the checks: a damaged record, no counter, or a locked one. -/
def checkTry (c : Ctx) : Option Resp :=
  if c.gal.damaged.contains (leAt c.f 128 3) then some (statusOnly Status.engineFault)
  else if byteAt c.f 132 > 31 then some (statusOnly Status.paramRejected)
  else match tryRecord c with
    | none => some (statusOnly Status.paramRejected)
    | some r =>
      let (limit, fails) := tryCounter r (byteAt c.f 132)
      if limit = 0 then some (statusOnly Status.paramRejected)
      else if fails = limit then some { status := Status.verifyFailed, fnFlags := 1, payload := triesPayload 0 }
      else none

/-- The checks of PIN_VERIFY: its parameters, then the counter. -/
def checkPinVerify (c : Ctx) (_ : State) : Option Resp :=
  if !calcParams c then some (statusOnly Status.paramRejected)
  else if fnBit0 c.f then checkTry c else none

/-- Whether the computed value equals EXPECTED. -/
def pinMatches (c : Ctx) : Bool :=
  match calcValue c with
  | some v => v == ((slice c.f 112 16).take v.length).map (·.toNat)
  | none => false

/-- Writes one try counter. -/
def setCounter (i v : Nat) (m : Bytes) : Bytes := m.set i (BitVec.ofNat 8 v)

/-- PIN_VERIFY: the comparison, and with TRY one step of the counter (R97, R124). -/
def runPinVerify (c : Ctx) (s : State) : FnResult :=
  let ok := pinMatches c
  let st := if ok then Status.ok else Status.verifyFailed
  if !fnBit0 c.f then plain { status := st, fnFlags := 0, payload := triesPayload 0xFF } s
  else
    match tryRecord c with
    | none => plain (statusOnly Status.paramRejected) s
    | some r =>
      let i := byteAt c.f 132
      let (limit, fails) := tryCounter r i
      let fails' := if ok then 0 else fails + 1
      let r' := { r with material := setCounter i (16 * limit + fails') r.material }
      let resp : Resp := { status := st, fnFlags := 0, payload := triesPayload (limit - fails') }
      if r' = r then plain resp s
      else (resp, [.vrecord c.g r.slot (some r')], putRecordAt c.g r.slot (some r') s)

/-- PIN_VERIFY (R123, R124). -/
def execPinVerify (cell : Fin 128) (s : State) : Host.Outcome State Fault Refusal :=
  .next (runFn cell 0x0103 checkPinVerify runPinVerify s)

/-- A slot is reserved (R173). -/
def reservedSlot (g slot : Nat) : Bool := slot == 0 || (g == 0 && (slot == 1 || slot == 2))

/-- A record that is no key, of a kind, as it is first written. -/
def plainRecord (kind g slot : Nat) (material : Bytes) : VRecord :=
  { kind := kind, useClass := 0, usage := 0, mode := 0, alg := 0, exportable := 0, dukpt := false, finite := false, keyType := 0, generation := 0
    gallery := g, slot := slot, accession := 0, budget := 0, uses := 0, parentDigest := zeros 32, parentGen := 0, parentSlot := noParent
    kcv := zeros 8, counter := 0, depth := 0, material := material, keyId := [] }

/-- A write refused for the slot quota: QUOTA_EXCEEDED, and QUOTA_VITRINE on the gallery's windows (Table 3-12). -/
def quotaRefused (g : Nat) (s : State) : FnResult := (statusOnly Status.quotaExceeded, [], latchGallery g 19 s)

/-- COUNTERS selected by MASK over the present counters. -/
def maskedCounters (f old : Bytes) : Bytes :=
  (List.range 32).map (fun i => if bit (leAt f 36 4) i then slice f (40 + i) 1 else slice old i 1) |>.flatten

/-- The checks of PIN_TRY_SET. -/
def checkPinTrySet (c : Ctx) (_ : State) : Option Resp :=
  let slot := leAt c.f 32 3
  let bad := (List.range 32).any (fun i => bit (leAt c.f 36 4) i && decide (byteAt c.f (40 + i) % 16 > byteAt c.f (40 + i) / 16))
  if bad || reservedSlot c.g slot then some (statusOnly Status.paramRejected)
  else if c.gal.damaged.contains slot then some (statusOnly Status.engineFault)
  else refuse (((recordAt c.gal slot).map (fun r => r.kind != 5)).getD false) Status.paramRejected

/-- PIN_TRY_SET: the record written, created or freed. -/
def runPinTrySet (c : Ctx) (s : State) : FnResult :=
  let slot := leAt c.f 32 3
  let old := recordAt c.gal slot
  let m := maskedCounters c.f ((old.map (·.material)).getD [])
  let free := m.all (fun b => b.toNat / 16 == 0)
  if free then
    if old.isNone then plain (okResp []) s
    else (okResp [], [.vrecord c.g slot none], putRecordAt c.g slot none s)
  else
    let r := { (old.getD (plainRecord 5 c.g slot [])) with material := m }
    if slotQuotaOk c.gal slot r then (okResp [], [.vrecord c.g slot (some r)], putRecordAt c.g slot (some r) s)
    else quotaRefused c.g s

/-- PIN_TRY_SET (R125). -/
def execPinTrySet (cell : Fin 128) (s : State) : Host.Outcome State Fault Refusal :=
  .next (runFn cell 0x0105 checkPinTrySet runPinTrySet s)

/-! PIN_GENERATE (R126). -/

/-- All digits equal, or ascending or descending by 1 throughout. -/
def trivialPin (p : List Nat) : Bool :=
  let ps := p.zip (p.drop 1)
  ps.all (fun x => x.1 == x.2) || ps.all (fun x => x.2 == x.1 + 1) || ps.all (fun x => x.1 == x.2 + 1)

/-- Draws a PIN of `n` digits by rejection sampling on 4-bit values, redrawing a trivial one where asked; fuel. -/
def drawPin (inst n : Nat) (avoid : Bool) : Nat → State → List Nat × State
  | 0, s => ([], s)
  | fuel + 1, s =>
    let (b, s) := drawBytes inst 64 s
    let p := ((nibbles b).filter (· ≤ 9)).take n
    if p.length < n || (avoid && trivialPin p) then drawPin inst n avoid fuel s else (p, s)

/-- The checks of PIN_GENERATE; METHOD 1 needs a PIN of at least DIGITS digits (R126, log 179). -/
def checkPinGenerate (c : Ctx) (_ : State) : Option Resp :=
  let f := c.f
  let m := byteAt f 48
  let ok := (m == 0 && byteAt f 52 == 0) || methodOk m (byteAt f 51) (byteAt f 52) (slice f 72 16)
  refuse (!(ok && pinFormat (byteAt f 49) && formatSuits (byteAt f 49) (c.key 0).alg && decide (4 ≤ byteAt f 50) && decide (byteAt f 50 ≤ 12) &&
    (m != 1 || decide (byteAt f 51 ≤ byteAt f 50)) && (panOf f 56).isSome)) Status.paramRejected

/-- PIN_GENERATE: the PIN, its block with a drawn fill, and its offset or value. -/
def runPinGenerate (c : Ctx) (s : State) : FnResult :=
  let f := c.f
  let pan := (panOf f 56).getD []
  let (pin, s) := drawPin (drawInstance c) (byteAt f 50) (fnBit0 f) 256 s
  let (fill, s) := if byteAt f 49 = 0 then ([], s) else drawBytes (drawInstance c) 8 s
  let m := byteAt f 48
  let res := if m = 0 then [] else (calcPin m (byteAt f 51) (byteAt f 52) (c.key 1).cipher (slice f 72 16) (slice f 88 8) pan pin).getD []
  plain (okResp (makePinBlock (byteAt f 49) (c.key 0).cipher pan fill pin ++ digitField 16 res)) s

/-- PIN_GENERATE (R126). -/
def execPinGenerate (cell : Fin 128) (s : State) : Host.Outcome State Fault Refusal :=
  .next (runFn cell 0x0104 checkPinGenerate runPinGenerate s)

/-! Card verification values (R127). -/

/-- A card verification value. -/
def cardValue (key : Bytes) (pan expiry service : List Nat) (digits : Nat) : List Nat :=
  let d := pan ++ expiry ++ service
  let b := ofNibbles ((d ++ List.replicate (32 - d.length) 0).take 32)
  let x := desEnc (key.take 8) (b.take 8)
  scanDigits digits ((tdesOf key).enc (xorBytes x (b.drop 8)))

/-- The value of a CVV command. -/
def cvvOf (c : Ctx) : List Nat :=
  cardValue (c.key 0).material ((panOf c.f 48).getD []) ((slice c.f 64 4).map (·.toNat)) ((slice c.f 68 3).map (·.toNat)) (byteAt c.f 40)

/-- The checks of the CVV functions. -/
def checkCvv (c : Ctx) (_ : State) : Option Resp :=
  let f := c.f
  refuse (!(decide (3 ≤ byteAt f 40) && decide (byteAt f 40 ≤ 5) && (panOf f 48).isSome && (slice f 64 4).all (fun b => b.toNat ≤ 9) &&
    (slice f 68 3).all (fun b => b.toNat ≤ 9))) Status.paramRejected

/-- CVV_GENERATE. -/
def runCvvGenerate (c : Ctx) (s : State) : FnResult := plain (okResp (digitField 8 (cvvOf c))) s

/-- CVV_GENERATE (R127). -/
def execCvvGenerate (cell : Fin 128) (s : State) : Host.Outcome State Fault Refusal :=
  .next (runFn cell 0x0201 checkCvv runCvvGenerate s)

/-- CVV_VERIFY. -/
def runCvvVerify (c : Ctx) (s : State) : FnResult :=
  plain (statusOnly (if cvvOf c == ((slice c.f 72 8).take (byteAt c.f 40)).map (·.toNat) then Status.ok else Status.verifyFailed)) s

/-- CVV_VERIFY (R127). -/
def execCvvVerify (cell : Fin 128) (s : State) : Host.Outcome State Fault Refusal :=
  .next (runFn cell 0x0202 checkCvv runCvvVerify s)

end Sys2Proof.Machine
end

