-- ==== Sys2Proof/Machine/EmvOps.lean ====
section
/-!
DEFINITION. EMV card master keys and session keys, and the meanings of ARQC_VERIFY, SCRIPT_MAC and SCRIPT_ENCRYPT (R128 to R131). The EMV derivations are the standard's (log 14).
-/

namespace Sys2Proof.Machine

/-- Each byte with odd parity, as DES keys carry. -/
def oddParity (b : Bytes) : Bytes :=
  b.map (fun x =>
    let v := x.toNat / 2
    let ones := ((List.range 7).filter (bit v)).length
    BitVec.ofNat 8 (2 * v + (1 + ones) % 2))

/-- The bytes complemented. -/
def complement (b : Bytes) : Bytes := b.map (~~~ ·)

/-- PAN and PSN as a digit string. -/
def panPsn (pan : List Nat) (psn : Nat) : List Nat := pan ++ [psn / 10, psn % 10]

/-- The 16 digits of option A, or of option B when PAN and PSN together exceed 16 digits and the PAN exceeds 16 (R128). -/
def masterDigits (pan : List Nat) (psn : Nat) : List Nat :=
  let d := panPsn pan psn
  if d.length ≤ 16 ∨ pan.length ≤ 16 then
    let t := d.drop (d.length - 16)
    List.replicate (16 - t.length) 0 ++ t
  else scanDigits 16 (sha1 (ofNibbles (if d.length % 2 = 1 then 0 :: d else d)))

/-- The card master key: options A and B for TDES, option C for AES (R128). -/
def cardMaster (k : HeldKey) (pan : List Nat) (psn : Nat) : Bytes :=
  let c := k.cipher
  if k.alg = 84 then
    let y := ofNibbles (masterDigits pan psn)
    oddParity (c.enc y ++ c.enc (complement y))
  else
    let d := panPsn pan psn
    let y := ofNibbles (List.replicate (32 - d.length) 0 ++ d)
    (c.enc y ++ c.enc (complement y)).take k.material.length

/-- The common session key of a master key under a diversifier (R128). -/
def sessionKey (alg : Nat) (mk diversifier : Bytes) : Bytes :=
  let c := cipherOf alg mk
  let r := slice diversifier 0 c.len
  let with3 := fun (v : Byte) => r.set 2 v
  if alg = 65 ∧ mk.length = 16 then c.enc r
  else
    let z := (c.enc (with3 0xF0#8) ++ c.enc (with3 0x0F#8)).take mk.length
    if alg = 84 then oddParity z else z

/-- Cryptogram and script MAC: ISO/IEC 9797-1 algorithm 3 under TDES, CMAC under AES, over padded data (R128). -/
def emvMac (alg : Nat) (key : Bytes) (pad : Nat) (d : Bytes) : Bytes :=
  if alg = 84 then isoMac3 key (isoPad pad 8 d) else cmac (aesOf key) (isoPad pad 16 d)

/-! ARQC_VERIFY (R129). -/

/-- The checks of ARQC_VERIFY. -/
def checkArqc (c : Ctx) (_ : State) : Option Resp :=
  let f := c.f
  let m := byteAt f 42
  refuse (!(decide (byteAt f 40 ≤ 1) && (byteAt f 41 == 1 || byteAt f 41 == 2) && (if fnBit0 f then m == 1 || m == 2 else m == 0) &&
    decide (byteAt f 43 ≤ 99) && decide (1 ≤ leAt f 46 2) && decide (leAt f 46 2 ≤ 256) && (panOf f 48).isSome && decide (byteAt f 80 ≤ 8) &&
    (m != 1 || (c.key 0).alg == 84))) Status.paramRejected

/-- Card master key and session key of an ARQC_VERIFY. -/
def arqcKeys (c : Ctx) : Bytes × Bytes :=
  let k := c.key 0
  let mk := cardMaster k ((panOf c.f 48).getD []) (byteAt c.f 43)
  (mk, if byteAt c.f 40 = 0 then mk else sessionKey k.alg mk (slice c.f 44 2))

/-- The ARPC of a verified cryptogram; method 2 is the MAC of ARQC, CSU and PROP_DATA, which under TDES is padded by method 2 (R129, log 169). -/
def arpcOf (c : Ctx) (mk sk : Bytes) : Bytes :=
  let f := c.f
  let arqc := slice f 64 8
  if byteAt f 42 = 1 then (tdesOf mk).enc (xorBytes arqc (slice f 72 2 ++ zeros 6))
  else
    let d := arqc ++ slice f 76 4 ++ slice f 88 (byteAt f 80)
    slice ((if (c.key 0).alg = 84 then emvMac 84 sk 2 d else cmac (aesOf sk) d).take 4) 0 8

/-- ARQC_VERIFY: the cryptogram compared; with ARPC, the answer computed. -/
def runArqcVerify (c : Ctx) (s : State) : FnResult :=
  let f := c.f
  let (mk, sk) := arqcKeys c
  if (emvMac (c.key 0).alg sk (byteAt f 41) (slice f 96 (leAt f 46 2))).take 8 ≠ slice f 64 8 then plain (statusOnly Status.verifyFailed) s
  else if fnBit0 f then plain (okResp (arpcOf c mk sk)) s
  else plain (okResp []) s

/-- ARQC_VERIFY (R129). -/
def execArqcVerify (cell : Fin 128) (s : State) : Host.Outcome State Fault Refusal :=
  .next (runFn cell 0x0301 checkArqc runArqcVerify s)

/-! SCRIPT_MAC (R130). -/

/-- The checks of SCRIPT_MAC. -/
def checkScriptMac (c : Ctx) (_ : State) : Option Resp :=
  let f := c.f
  refuse (!((byteAt f 40 == 1 || byteAt f 40 == 2) && decide (4 ≤ byteAt f 41) && decide (byteAt f 41 ≤ 8) && decide (byteAt f 42 ≤ 99) &&
    decide (1 ≤ leAt f 44 2) && decide (leAt f 44 2 ≤ 4096) && (panOf f 48).isSome)) Status.paramRejected

/-- SCRIPT_MAC: the MAC under the secure-messaging session key. -/
def runScriptMac (c : Ctx) (s : State) : FnResult :=
  let f := c.f
  let k := c.key 0
  let sk := sessionKey k.alg (cardMaster k ((panOf f 48).getD []) (byteAt f 42)) (slice f 64 8)
  plain (okResp (slice ((emvMac k.alg sk (byteAt f 40) (slice f 72 (leAt f 44 2))).take (byteAt f 41)) 0 8)) s

/-- SCRIPT_MAC (R130). -/
def execScriptMac (cell : Fin 128) (s : State) : Host.Outcome State Fault Refusal :=
  .next (runFn cell 0x0302 checkScriptMac runScriptMac s)

/-! SCRIPT_ENCRYPT (R131). -/

/-- The checks of SCRIPT_ENCRYPT. -/
def checkScriptEncrypt (c : Ctx) (_ : State) : Option Resp :=
  let f := c.f
  let mode := byteAt f 56
  let lenOk := if mode = 0 then decide (1 ≤ leAt f 60 2) && decide (leAt f 60 2 ≤ 1024) else leAt f 60 2 == 0
  refuse (!(decide (mode ≤ 1) && lenOk && decide (byteAt f 58 ≤ 99) && (panOf f 64).isSome &&
    (mode == 0 || (pinFormat (byteAt f 57) && formatSuits (byteAt f 57) (c.key 1).alg)))) Status.paramRejected

/-- A PIN as an ISO 9564-1 format 2 block. -/
def format2Block (pin : List Nat) : Bytes := ofNibbles ([2, pin.length] ++ pin ++ List.replicate (14 - pin.length) 15)

/-- The plaintext of a script: DATA, or the PIN block, XORed where PIN_XOR asks; `none` under R117. -/
def scriptText (c : Ctx) (pan : List Nat) : Option Bytes :=
  let f := c.f
  if byteAt f 56 = 0 then some (slice f 104 (leAt f 60 2))
  else (pinOfBlock (byteAt f 57) (c.key 1).cipher pan (slice f 88 16) 4 12).map (fun pin =>
    let b := format2Block pin
    if fnBit0 f then xorBytes b ((cardMaster (c.key 2) pan (byteAt f 58)).take 8) else b)

/-- SCRIPT_ENCRYPT: CBC with a zero IV after padding method 2. -/
def runScriptEncrypt (c : Ctx) (s : State) : FnResult :=
  let f := c.f
  let pan := (panOf f 64).getD []
  let k := c.key 0
  match scriptText c pan with
  | none => plain (statusOnly Status.verifyFailed) s
  | some text =>
    let sk := cipherOf k.alg (sessionKey k.alg (cardMaster k pan (byteAt f 58)) (slice f 80 8))
    plain (okResp (cbcEnc sk (zeros sk.len) (isoPad 2 sk.len text))) s

/-- SCRIPT_ENCRYPT (R131). -/
def execScriptEncrypt (cell : Fin 128) (s : State) : Host.Outcome State Fault Refusal :=
  .next (runFn cell 0x0303 checkScriptEncrypt runScriptEncrypt s)

end Sys2Proof.Machine
end

