-- ==== Sys2Proof/Machine/DukptOps.lean ====
section
/-!
DEFINITION. DUKPT key derivation (X9.24, log 14) and the meanings of the DUKPT functions (R132 to R134).
-/

namespace Sys2Proof.Machine

/-! KSNs (R132, Table 5-1). -/

/-- A KSN: whether it is of AES DUKPT, its initial key ID bytes and its counter. -/
structure Ksn where
  aes : Bool
  id : Bytes
  counter : Nat
  deriving DecidableEq, Repr

/-- One bits of a number of up to 32 bits. -/
def onesOf (n : Nat) : Nat := ((List.range 32).filter (bit n)).length

/-- The one-bit limit and width of the counter. -/
def counterLimit (aes : Bool) : Nat × Nat := if aes then (16, 32) else (10, 21)

/-- The KSN at a field, when its type byte agrees with the key's algorithm and its counter keeps the one-bit limit; its other bytes are not looked at (Table 5-1, log 177). -/
def ksnOf (f : Bytes) (a alg : Nat) : Option Ksn :=
  let k : Option Ksn :=
    if byteAt f a = 2 ∧ alg = 65 then some { aes := true, id := slice f (a + 4) 8, counter := ofBE (slice f (a + 12) 4) }
    else if byteAt f a = 1 ∧ alg = 84 then
      let b := ofBE (slice f (a + 4) 10)
      some { aes := false, id := beBytes 10 (b - b % 2 ^ 21), counter := b % 2 ^ 21 }
    else none
  k.bind (fun x => if onesOf x.counter ≤ (counterLimit x.aes).1 then some x else none)

/-- The KSN field of a KSN. -/
def ksnField (k : Ksn) : Bytes :=
  if k.aes then [2#8, 0#8, 0#8, 0#8] ++ k.id ++ beBytes 4 k.counter
  else slice ([1#8, 0#8, 0#8, 0#8] ++ beBytes 10 (ofBE k.id + k.counter)) 0 16

/-! TDES DUKPT. -/

/-- The mask of the left key half in derivations. -/
def dukptMask (n : Nat) : Bytes := ((List.replicate 3 ([0xC0#8, 0xC0#8, 0xC0#8, 0xC0#8] ++ zeros 4)).flatten).take n

/-- The initial key of a TDES BDK. -/
def tdesInitial (bdk id : Bytes) : Bytes :=
  let x := id.take 8
  (tdesOf bdk).enc x ++ (tdesOf (xorBytes bdk (dukptMask bdk.length))).enc x

/-- One encryption of the key-generation register. -/
def dukptReg (key r : Bytes) : Bytes :=
  let lo := (key.drop 8).take 8
  xorBytes lo (desEnc (key.take 8) (xorBytes lo r))

/-- The non-reversible key generation. -/
def dukptGen (key r : Bytes) : Bytes := dukptReg (xorBytes key (dukptMask 16)) r ++ dukptReg key r

/-- The transaction key: one generation for each one bit of the counter, highest first. -/
def tdesTransaction (ik id : Bytes) (counter : Nat) : Bytes :=
  let base := ofBE (id.drop 2)
  ((List.range 21).foldl (fun (st : Bytes × Nat) i =>
    let b := 20 - i
    if bit counter b then (dukptGen st.1 (beBytes 8 (base + st.2 + 2 ^ b)), st.2 + 2 ^ b) else st) (ik, 0)).1

/-- A working key's purpose. -/
inductive KeyRole where
  | pin
  | macRequest
  | macResponse
  | dataRequest
  | dataResponse
  deriving DecidableEq, Repr

/-- The variant of a purpose: the byte of each half that is complemented. -/
def variantByte : KeyRole → Nat
  | .pin => 7
  | .macRequest => 6
  | .macResponse => 4
  | .dataRequest => 5
  | .dataResponse => 3

/-- The working key of TDES DUKPT; a data key passes through itself once more. -/
def tdesWorking (role : KeyRole) (tk : Bytes) : Bytes :=
  let half := (zeros 8).set (variantByte role) 0xFF#8
  let v := xorBytes tk (half ++ half)
  match role with
  | .dataRequest | .dataResponse => (tdesOf v).enc (v.take 8) ++ (tdesOf v).enc (v.drop 8)
  | _ => v

/-! AES DUKPT. -/

/-- Algorithm indicator and key bits of a KEY_TYPE (R132). -/
def aesKeyType (t : Nat) : Nat × Nat :=
  match t with
  | 0 => (2, 128)
  | 1 => (3, 192)
  | 2 => (4, 256)
  | 3 => (0, 128)
  | _ => (1, 192)

/-- KEY_TYPE of an AES key by its length. -/
def typeOfAes (n : Nat) : Nat := if n ≥ 32 then 2 else if n ≥ 24 then 1 else 0

/-- One derivation of AES DUKPT: as many blocks as the key needs, under the derivation data. -/
def aesDerive (key : Bytes) (usage t : Nat) (tail : Bytes) : Bytes :=
  let (alg, len) := aesKeyType t
  let one := fun (i : Nat) => (aesOf key).enc (beBytes 1 1 ++ beBytes 1 i ++ beBytes 2 usage ++ beBytes 2 alg ++ beBytes 2 len ++ tail)
  (one 1 ++ (if len > 128 then one 2 else [])).take (len / 8)

/-- The initial key of an AES BDK, of the BDK's own type. -/
def aesInitial (bdk id : Bytes) : Bytes := aesDerive bdk 0x8001 (typeOfAes bdk.length) id

/-- The derivation key of a counter value: one derivation for each one bit, highest first. -/
def aesTransaction (ik id : Bytes) (counter : Nat) : Bytes :=
  ((List.range 32).foldl (fun (st : Bytes × Nat) i =>
    let b := 31 - i
    if bit counter b then (aesDerive st.1 0x8000 (typeOfAes ik.length) (id.drop 4 ++ beBytes 4 (st.2 + 2 ^ b)), st.2 + 2 ^ b) else st) (ik, 0)).1

/-- The key usage indicator of a purpose. -/
def roleUsage : KeyRole → Nat
  | .pin => 0x1000
  | .macRequest => 0x2000
  | .macResponse => 0x2001
  | .dataRequest => 0x3000
  | .dataResponse => 0x3001

/-- The working key of a purpose from an initial key, with its algorithm letter. -/
def workingKey (role : KeyRole) (ik : Bytes) (k : Ksn) (t : Nat) : Nat × Bytes :=
  if k.aes then (if t ≥ 3 then 84 else 65, aesDerive (aesTransaction ik k.id k.counter) (roleUsage role) t (k.id.drop 4 ++ beBytes 4 k.counter))
  else (84, tdesWorking role (tdesTransaction ik k.id k.counter))

/-- The initial key of a BDK for a KSN. -/
def initialOf (k : HeldKey) (n : Ksn) : Bytes := if n.aes then aesInitial k.material n.id else tdesInitial k.material n.id

/-- KEY_TYPE suits: 0 for TDES DUKPT; for AES DUKPT, no stronger than the BDK (R132). -/
def keyTypeOk (k : HeldKey) (n : Ksn) (t : Nat) : Bool :=
  if n.aes then
    let want := match t with
      | 0 => 3
      | 1 => 4
      | 2 => 5
      | 3 => 1
      | _ => 2
    decide (t ≤ 4) && decide (want ≤ strengthOf 65 k.material.length)
  else t == 0

/-- The derived initial key goes to the key cache, by the digest of the BDK's and the initial key ID (R132, R184); the command holds it until it lets go. -/
def cacheInitial (c : Ctx) (n : Ksn) (s : State) : State :=
  let k := c.key 0
  (holdKey (c.cell / 8) c.t c.g { k with vitrine := false, digest := sha256 (k.digest ++ n.id), material := initialOf k n } s).2

/-- The working key of a command with a BDK at handle 0. -/
def bdkWorking (c : Ctx) (role : KeyRole) (n : Ksn) (t : Nat) : Nat × Bytes := workingKey role (initialOf (c.key 0) n) n t

/-- A KSN that no function meets: for positions checked already. -/
def noKsn : Ksn := { aes := false, id := zeros 10, counter := 0 }

/-! DUKPT_PIN_TRANSLATE. -/

/-- The checks of DUKPT_PIN_TRANSLATE. -/
def checkDukptPin (c : Ctx) (_ : State) : Option Resp :=
  let f := c.f
  let sf := byteAt f 48
  let df := byteAt f 49
  match ksnOf f 56 (c.key 0).alg with
  | none => some (statusOnly Status.paramRejected)
  | some n =>
    let walg := if n.aes && decide (byteAt f 50 ≤ 2) then 65 else 84
    refuse (!(keyTypeOk (c.key 0) n (byteAt f 50) && (if n.aes then sf == 4 else sf != 4) && formatsOk sf df walg (c.key 1).alg &&
      (pinRange f 51 52).isSome && (panOf f 72).isSome)) Status.paramRejected

/-- DUKPT_PIN_TRANSLATE. -/
def runDukptPin (c : Ctx) (s : State) : FnResult :=
  let f := c.f
  let n := (ksnOf f 56 (c.key 0).alg).getD noKsn
  let s := cacheInitial c n s
  let (alg, key) := bdkWorking c .pin n (byteAt f 50)
  let pan := (panOf f 72).getD []
  let (lo, hi) := (pinRange f 51 52).getD (4, 12)
  let block := slice f 88 16
  match pinOfBlock (byteAt f 48) (cipherOf alg key) pan block lo hi with
  | none => plain (statusOnly Status.verifyFailed) s
  | some pin => plain (okResp (makePinBlock (byteAt f 49) (c.key 1).cipher pan (fillBytes c (slice f 104 16) block (byteAt f 49)) pin)) s

/-- DUKPT_PIN_TRANSLATE (R133, Table 5-8). -/
def execDukptPinTranslate (cell : Fin 128) (s : State) : Host.Outcome State Fault Refusal :=
  .next (runFn cell 0x0401 checkDukptPin runDukptPin s)

/-! DUKPT_DECRYPT and DUKPT_MAC_VERIFY. -/

/-- Bytes of a block of the working key that KEY_TYPE selects. -/
def workingBlock (n : Ksn) (t : Nat) : Nat := if n.aes && decide (t ≤ 2) then 16 else 8

/-- The checks of DUKPT_DECRYPT. -/
def checkDukptDecrypt (c : Ctx) (_ : State) : Option Resp :=
  let f := c.f
  match ksnOf f 56 (c.key 0).alg with
  | none => some (statusOnly Status.paramRejected)
  | some n => refuse (!(keyTypeOk (c.key 0) n (byteAt f 49) && decide (byteAt f 48 ≤ 1) && leAt f 52 4 % workingBlock n (byteAt f 49) == 0))
      Status.paramRejected

/-- DUKPT_DECRYPT. -/
def runDukptDecrypt (c : Ctx) (s : State) : FnResult :=
  let f := c.f
  let n := (ksnOf f 56 (c.key 0).alg).getD noKsn
  let s := cacheInitial c n s
  let (alg, key) := bdkWorking c (if fnBit0 f then .dataResponse else .dataRequest) n (byteAt f 49)
  let w := cipherOf alg key
  let d := slice f 88 (leAt f 52 4)
  plain (okResp (if byteAt f 48 = 0 then ecbDec w d else cbcDec w (slice f 72 w.len) d)) s

/-- DUKPT_DECRYPT (R133, Table 5-8). -/
def execDukptDecrypt (cell : Fin 128) (s : State) : Host.Outcome State Fault Refusal :=
  .next (runFn cell 0x0402 checkDukptDecrypt runDukptDecrypt s)

/-- The MAC of a DUKPT working key: CMAC for AES DUKPT, algorithm 3 for TDES DUKPT. -/
def dukptMac (n : Ksn) (alg : Nat) (key : Bytes) (pad : Nat) (d : Bytes) : Bytes :=
  if n.aes then cmac (cipherOf alg key) d else isoMac3 key (isoPad pad 8 d)

/-- MAC_LEN and PAD are in range for a DUKPT MAC; AES DUKPT with a TDES working key has MAC_LEN 4 to 8, since its MAC has no more bytes (log 189). -/
def dukptMacOk (n : Ksn) (t macLen pad : Nat) : Bool :=
  decide (4 ≤ macLen) && decide (macLen ≤ (if n.aes then workingBlock n t else 8)) && (if n.aes then pad == 0 else pad == 1 || pad == 2)

/-- The checks of DUKPT_MAC_VERIFY. -/
def checkDukptMac (c : Ctx) (_ : State) : Option Resp :=
  let f := c.f
  match ksnOf f 56 (c.key 0).alg with
  | none => some (statusOnly Status.paramRejected)
  | some n => refuse (!(keyTypeOk (c.key 0) n (byteAt f 51) && byteAt f 48 == (if n.aes then 6 else 3) && dukptMacOk n (byteAt f 51) (byteAt f 49) (byteAt f 50) &&
      decide (1 ≤ leAt f 52 4) && decide (leAt f 52 4 ≤ 65480))) Status.paramRejected

/-- DUKPT_MAC_VERIFY. -/
def runDukptMac (c : Ctx) (s : State) : FnResult :=
  let f := c.f
  let n := (ksnOf f 56 (c.key 0).alg).getD noKsn
  let s := cacheInitial c n s
  let (alg, key) := bdkWorking c (if fnBit0 f then .macResponse else .macRequest) n (byteAt f 51)
  let m := (dukptMac n alg key (byteAt f 50) (slice f 88 (leAt f 52 4))).take (byteAt f 49)
  plain (statusOnly (if m = slice f 72 (byteAt f 49) then Status.ok else Status.verifyFailed)) s

/-- DUKPT_MAC_VERIFY (R133, Table 5-8). -/
def execDukptMacVerify (cell : Fin 128) (s : State) : Host.Outcome State Fault Refusal :=
  .next (runFn cell 0x0403 checkDukptMac runDukptMac s)

/-! DUKPT_INITIAL_KEY_EXPORT. -/

/-- The header of a B1 block: mode X, with the IK or KS block; its exportability is the BDK's (log 24). -/
def initialHeader (k : HeldKey) (n : Ksn) (version : Nat) : BlockHeader :=
  { usage := chars 'B' '1', alg := k.alg, mode := 88, version := version, exportable := k.exportable
    opts := [{ id := if n.aes then chars 'I' 'K' else chars 'K' 'S', data := hexOf n.id }] }

/-- The checks of DUKPT_INITIAL_KEY_EXPORT: a KSN with counter 0, and the strength rule of R138. -/
def checkInitialExport (c : Ctx) (_ : State) : Option Resp :=
  let p := c.key 1
  match ksnOf c.f 48 (c.key 0).alg with
  | none => some (statusOnly Status.paramRejected)
  | some n =>
    if n.counter ≠ 0 then some (statusOnly Status.paramRejected)
    else refuse (decide (strengthOf p.alg p.material.length < strengthOf (c.key 0).alg (initialOf (c.key 0) n).length)) Status.keyUsage

/-- Random padding for a block under a protection key (R138). -/
def drawPad (c : Ctx) (kalg n : Nat) (s : State) : Bytes × State :=
  if padNeeded kalg n = 0 then ([], s) else drawBytes (drawInstance c) (padNeeded kalg n) s

/-- DUKPT_INITIAL_KEY_EXPORT. -/
def runInitialExport (c : Ctx) (s : State) : FnResult :=
  let n := (ksnOf c.f 48 (c.key 0).alg).getD noKsn
  let s := cacheInitial c n s
  let k := c.key 0
  let p := c.key 1
  let ik := initialOf k n
  let (pad, s) := drawPad c p.alg ik.length s
  plain (okResp (blockResponse [] k.alg ik (wrapBlock p.alg p.material (initialHeader k n (ofBE (slice c.f 64 2))) ik pad))) s

/-- DUKPT_INITIAL_KEY_EXPORT (R133, Table 5-8). -/
def execDukptInitialKeyExport (cell : Fin 128) (s : State) : Host.Outcome State Fault Refusal :=
  .next (runFn cell 0x0404 checkInitialExport runInitialExport s)

/-! DUKPT_ORIGINATE (R134). -/

/-- The next counter value that keeps the one-bit limit, fuel; adding the lowest one bit skips a run of values that break it. -/
def validCount (limit : Nat) : Nat → Nat → Nat
  | 0, v => v
  | fuel + 1, v => if onesOf v ≤ limit then v else validCount limit fuel (v + (v &&& (2 ^ 33 - v)))

/-- The value that follows a counter value, when one remains. -/
def nextCount (aes : Bool) (v : Nat) : Option Nat :=
  let (limit, w) := counterLimit aes
  let n := validCount limit 40 (v + 1)
  if n < 2 ^ w then some n else none

/-- The initial key ID of a B1 key: the IK or KS value it arrived with, else open (log 19). -/
def originId (c : Ctx) (aes : Bool) : Bytes :=
  let n := if aes then 8 else 10
  match (c.key 0).opts.findSome? (fun o => unhex o.data) with
  | some b => let b := slice b 0 n
              if aes then b else beBytes 10 (ofBE b - ofBE b % 2 ^ 21)
  | none =>
    let v := (Config.initialKeyId c.g (c.key 0).slot).toNat
    if aes then beBytes 8 (v % 2 ^ 64) else beBytes 10 (v - v % 2 ^ 21)

/-- The present record of the key of DUKPT_ORIGINATE. -/
def originRecord (c : Ctx) : Option VRecord := recordAt c.gal (c.key 0).slot

/-- The checks of DUKPT_ORIGINATE: its key holds a counter, its fields are in range, and a value remains. -/
def checkOriginate (c : Ctx) (_ : State) : Option Resp :=
  let f := c.f
  let k := c.key 0
  let n : Ksn := { aes := k.alg == 65, id := [], counter := 0 }
  let op := byteAt f 48
  let len := leAt f 52 4
  if !k.dukpt then some (statusOnly Status.keyUsage)
  else if !(keyTypeOk k n (byteAt f 49) && decide (1 ≤ len) && decide (len ≤ 65496) &&
      ((op == 1 && byteAt f 50 == 0 && byteAt f 51 == 0 && len % workingBlock n (byteAt f 49) == 0) ||
       (op == 2 && dukptMacOk n (byteAt f 49) (byteAt f 50) (byteAt f 51)))) then some (statusOnly Status.paramRejected)
  else refuse (((originRecord c).bind (fun r => nextCount n.aes r.counter)).isNone) Status.keyUseLimit

/-- DUKPT_ORIGINATE: the counter advances, and its working key encrypts or makes a MAC. -/
def runOriginate (c : Ctx) (s : State) : FnResult :=
  let f := c.f
  let k := c.key 0
  let aes := k.alg == 65
  match (gal s c.g).bind (fun g => recordAt g k.slot) with
  | none => plain (statusOnly Status.keyRevoked) s
  | some r =>
    match nextCount aes r.counter with
    | none => plain (statusOnly Status.keyUseLimit) s
    | some v =>
      let r' := { r with counter := v }
      let n : Ksn := { aes := aes, id := originId c aes, counter := v }
      let (alg, key) := workingKey (if byteAt f 48 = 1 then .dataRequest else .macRequest) k.material n (byteAt f 49)
      let w := cipherOf alg key
      let d := slice f 72 (leAt f 52 4)
      let out := if byteAt f 48 = 1 then cbcEnc w (slice f 56 w.len) d
        else slice ((dukptMac n alg key (byteAt f 51) d).take (byteAt f 50)) 0 16
      (okResp (ksnField n ++ out), [.vrecord c.g r.slot (some r')], putRecordAt c.g r.slot (some r') s)

/-- DUKPT_ORIGINATE (R134). -/
def execDukptOriginate (cell : Fin 128) (s : State) : Host.Outcome State Fault Refusal :=
  .next (runFn cell 0x0405 checkOriginate runOriginate s)

end Sys2Proof.Machine
end

