-- ==== Sys2Proof/Machine/DataOps.lean ====
section
/-!
DEFINITION. The meanings of the payment MACs, of key block import and export, of account data encryption and of FF1 (R135 to R138, R140, R141). FF1 is that of SP 800-38G (log 14).
-/

namespace Sys2Proof.Machine

/-! MAC_GENERATE and MAC_VERIFY (R135). -/

/-- The usage that an ALG of R135 belongs to. -/
def macUsage (alg : Nat) : Nat := if alg = 1 then chars 'M' '1' else if alg = 3 then chars 'M' '3' else chars 'M' '6'

/-- The checks of MAC_GENERATE and MAC_VERIFY: a field out of range is PARAM_REJECTED, an ALG that is not that of the key's usage KEY_USAGE. -/
def checkMac (c : Ctx) (_ : State) : Option Resp :=
  let f := c.f
  let k := c.key 0
  let a := byteAt f 40
  if !(a == 1 || a == 3 || a == 6) then some (statusOnly Status.paramRejected)
  else if k.usage ≠ macUsage a then some (statusOnly Status.keyUsage)
  else refuse (!((if a = 6 then byteAt f 41 == 0 else byteAt f 41 == 1 || byteAt f 41 == 2) &&
    decide (4 ≤ byteAt f 42) && decide (byteAt f 42 ≤ (if a = 6 ∧ k.alg = 65 then 16 else 8)) &&
    decide (1 ≤ leAt f 44 4) && decide (leAt f 44 4 ≤ 65504))) Status.paramRejected

/-- The MAC that ALG, PAD, MAC_LEN, DATA_LEN and DATA name. -/
def macOf (c : Ctx) : Bytes :=
  let f := c.f
  let k := c.key 0
  let d := slice f 64 (leAt f 44 4)
  (match byteAt f 40 with
   | 1 => isoMac1 k.cipher (isoPad (byteAt f 41) 8 d)
   | 3 => isoMac3 k.material (isoPad (byteAt f 41) 8 d)
   | _ => cmac k.cipher d).take (byteAt f 42)

/-- MAC_GENERATE returns 16 bytes, the MAC left-aligned. -/
def runMacGenerate (c : Ctx) (s : State) : FnResult := plain (okResp (slice (macOf c) 0 16)) s

/-- MAC_VERIFY compares. -/
def runMacVerify (c : Ctx) (s : State) : FnResult :=
  plain (statusOnly (if macOf c = slice c.f 48 (byteAt c.f 42) then Status.ok else Status.verifyFailed)) s

/-- MAC_GENERATE (R135). -/
def execMacGenerate (cell : Fin 128) (s : State) : Host.Outcome State Fault Refusal :=
  .next (runFn cell 0x0501 checkMac runMacGenerate s)

/-- MAC_VERIFY (R135). -/
def execMacVerify (cell : Fin 128) (s : State) : Host.Outcome State Fault Refusal :=
  .next (runFn cell 0x0502 checkMac runMacVerify s)

/-! KEYBLOCK_IMPORT (R137) and KEYBLOCK_EXPORT (R138). -/

/-- The inbound block of KEYBLOCK_IMPORT, opened. -/
def importedBlock (c : Ctx) : Option (BlockHeader × Bytes) :=
  openBlock (c.key 0).alg (c.key 0).material (slice c.f 56 (leAt c.f 48 4))

/-- The checks of KEYBLOCK_IMPORT: a block that does not open, or would break a limit of R136 as it is written, is KEY_BLOCK_INVALID, one of usage K0 or K1 KEY_USAGE. -/
def checkImport (c : Ctx) (_ : State) : Option Resp :=
  match importedBlock c with
  | none => some (statusOnly Status.keyBlockInvalid)
  | some (h, kb) =>
    if !writable (c.key 1).alg h kb.length then some (statusOnly Status.keyBlockInvalid)
    else refuse (h.usage == chars 'K' '0' || h.usage == chars 'K' '1') Status.keyUsage

/-- KEYBLOCK_IMPORT: the key under the local wrapping key, with replayable padding. -/
def runImport (c : Ctx) (s : State) : FnResult :=
  match importedBlock c with
  | none => plain (statusOnly Status.keyBlockInvalid) s
  | some (h, kb) =>
    let k := c.key 1
    plain (okResp (blockResponse [] h.alg kb (wrapBlock k.alg k.material h kb (replayPad k.alg k.material h kb)))) s

/-- KEYBLOCK_IMPORT (R137). -/
def execKeyblockImport (cell : Fin 128) (s : State) : Host.Outcome State Fault Refusal :=
  .next (runFn cell 0x0601 checkImport runImport s)

/-- The header of a carried key, as its block gave it. -/
def carriedHeader (k : HeldKey) : BlockHeader :=
  { usage := k.usage, alg := k.alg, mode := k.mode, version := k.version, exportable := k.exportable, opts := k.opts }

/-- The checks of KEYBLOCK_EXPORT: exportability E, a partner key at least as strong, and a block within the limits of R136. -/
def checkExport (c : Ctx) (_ : State) : Option Resp :=
  let k := c.key 0
  let p := c.key 1
  orElseResp (refuse (k.exportable != 69 || decide (strengthOf p.alg p.material.length < strengthOf k.alg k.material.length)) Status.keyUsage)
    (refuse (!writable p.alg (carriedHeader k) k.material.length) Status.keyBlockInvalid)

/-- KEYBLOCK_EXPORT: the key under the partner key, with fresh padding. -/
def runExport (c : Ctx) (s : State) : FnResult :=
  let k := c.key 0
  let p := c.key 1
  let (pad, s) := drawPad c p.alg k.material.length s
  plain (okResp (blockResponse [] k.alg k.material (wrapBlock p.alg p.material (carriedHeader k) k.material pad))) s

/-- KEYBLOCK_EXPORT (R138). -/
def execKeyblockExport (cell : Fin 128) (s : State) : Host.Outcome State Fault Refusal :=
  .next (runFn cell 0x0602 checkExport runExport s)

/-! DATA_ENCRYPT and DATA_DECRYPT (R140). -/

/-- The checks of DATA_ENCRYPT and DATA_DECRYPT; ciphertext is always whole blocks. -/
def checkData (decrypt : Bool) (c : Ctx) (_ : State) : Option Resp :=
  let f := c.f
  refuse (!(byteAt f 40 == 1 && (byteAt f 41 == 0 || byteAt f 41 == 2) &&
    ((byteAt f 41 == 2 && !decrypt) || leAt f 44 4 % (c.key 0).cipher.len == 0))) Status.paramRejected

/-- DATA_ENCRYPT: the IV used in 16 bytes, then the ciphertext. -/
def runDataEncrypt (c : Ctx) (s : State) : FnResult :=
  let f := c.f
  let w := (c.key 0).cipher
  let (iv, s) := if fnBit0 f then drawBytes (drawInstance c) w.len s else (slice f 48 w.len, s)
  let d := slice f 64 (leAt f 44 4)
  plain (okResp (slice iv 0 16 ++ cbcEnc w iv (if byteAt f 41 = 2 then isoPad 2 w.len d else d))) s

/-- DATA_DECRYPT: the plaintext; no padding is removed. -/
def runDataDecrypt (c : Ctx) (s : State) : FnResult :=
  let f := c.f
  let w := (c.key 0).cipher
  plain (okResp (cbcDec w (slice f 48 w.len) (slice f 64 (leAt f 44 4)))) s

/-- DATA_ENCRYPT (R140). -/
def execDataEncrypt (cell : Fin 128) (s : State) : Host.Outcome State Fault Refusal :=
  .next (runFn cell 0x0701 (checkData false) runDataEncrypt s)

/-- DATA_DECRYPT (R140). -/
def execDataDecrypt (cell : Fin 128) (s : State) : Host.Outcome State Fault Refusal :=
  .next (runFn cell 0x0702 (checkData true) runDataDecrypt s)

/-! FF1_ENCRYPT and FF1_DECRYPT (R141). -/

/-- The number that numerals spell. -/
def numRadix (radix : Nat) (l : List Nat) : Nat := l.foldl (fun a d => a * radix + d) 0

/-- `n` numerals of a number. -/
def strRadix (radix : Nat) : Nat → Nat → List Nat
  | 0, _ => []
  | n + 1, v => strRadix radix n (v / radix) ++ [v % radix]

/-- The round value of FF1 for round `i` on the half `b`; `m` numerals in all. -/
def ff1Round (key tweak : Bytes) (radix m i : Nat) (half : List Nat) : Nat :=
  let w := aesOf key
  let u := m / 2
  let v := m - u
  let b := ceilDiv (bitLen (radix ^ v - 1)) 8
  let d := 4 * ceilDiv b 4 + 4
  let p := [1#8, 2#8, 1#8] ++ beBytes 3 radix ++ [10#8] ++ beBytes 1 (u % 256) ++ beBytes 4 m ++ beBytes 4 tweak.length
  let q := tweak ++ zeros ((16 - (tweak.length + b + 1) % 16) % 16) ++ beBytes 1 i ++ beBytes b (numRadix radix half)
  let r := isoMac1 w (p ++ q)
  ofBE (((List.range (ceilDiv d 16)).flatMap (fun j => if j = 0 then r else w.enc (xorBytes r (beBytes 16 j)))).take d)

/-- FF1 encryption. -/
def ff1Enc (key tweak : Bytes) (radix : Nat) (x : List Nat) : List Nat :=
  let m := x.length
  let u := m / 2
  let r := (List.range 10).foldl (fun (st : List Nat × List Nat) i =>
    let n := if i % 2 = 0 then u else m - u
    (st.2, strRadix radix n ((numRadix radix st.1 + ff1Round key tweak radix m i st.2) % radix ^ n))) (x.take u, x.drop u)
  r.1 ++ r.2

/-- FF1 decryption. -/
def ff1Dec (key tweak : Bytes) (radix : Nat) (x : List Nat) : List Nat :=
  let m := x.length
  let u := m / 2
  let r := (List.range 10).foldl (fun (st : List Nat × List Nat) j =>
    let i := 9 - j
    let n := if i % 2 = 0 then u else m - u
    (strRadix radix n (subMod (numRadix radix st.2) (ff1Round key tweak radix m i st.1) (radix ^ n)), st.1)) (x.take u, x.drop u)
  r.1 ++ r.2

/-- The Luhn check digit of the digits before it. -/
def luhnDigit (d : List Nat) : Nat :=
  let total := (d.reverse.zipIdx.map (fun (x, i) => if i % 2 = 0 then (2 * x) / 10 + (2 * x) % 10 else x)).sum
  (10 - total % 10) % 10

/-- Numerals of the frame. -/
def ff1Numerals (f : Bytes) : List Nat := (slice f 112 (leAt f 42 2)).map (·.toNat)

/-- Numerals outside the domain: head, tail and check digit. -/
def ff1Kept (f : Bytes) : Nat := byteAt f 44 + byteAt f 45 + b2n (fnBit0 f)

/-- The checks of FF1_ENCRYPT and FF1_DECRYPT. -/
def checkFf1 (c : Ctx) (_ : State) : Option Resp :=
  let f := c.f
  let radix := leAt f 40 2
  let n := leAt f 42 2
  let m := n - ff1Kept f
  refuse (!(decide (2 ≤ radix) && decide (radix ≤ 256) && decide (2 ≤ n) && decide (n ≤ 256) && decide (leAt f 46 2 ≤ 64) &&
    (!fnBit0 f || radix == 10) && decide (ff1Kept f ≤ n) && decide (2 ≤ m) && decide (m ≤ 256) && decide (1000000 ≤ radix ^ m) &&
    (ff1Numerals f).all (· < radix))) Status.paramRejected

/-- FF1 on the domain of a frame; the kept numerals pass unchanged, and a check digit is computed anew. -/
def ff1Output (f : Bytes) (g : List Nat → List Nat) : Bytes :=
  let x := ff1Numerals f
  let h := byteAt f 44
  let m := x.length - ff1Kept f
  let out := x.take h ++ g ((x.drop h).take m) ++ (x.drop (h + m)).take (byteAt f 45)
  (out ++ (if fnBit0 f then [luhnDigit out] else [])).map (BitVec.ofNat 8)

/-- FF1_ENCRYPT. -/
def runFf1Encrypt (c : Ctx) (s : State) : FnResult :=
  let f := c.f
  plain (okResp (ff1Output f (ff1Enc (c.key 0).material (slice f 48 (leAt f 46 2)) (leAt f 40 2)))) s

/-- FF1_DECRYPT. -/
def runFf1Decrypt (c : Ctx) (s : State) : FnResult :=
  let f := c.f
  plain (okResp (ff1Output f (ff1Dec (c.key 0).material (slice f 48 (leAt f 46 2)) (leAt f 40 2)))) s

/-- FF1_ENCRYPT (R141). -/
def execFf1Encrypt (cell : Fin 128) (s : State) : Host.Outcome State Fault Refusal :=
  .next (runFn cell 0x0703 checkFf1 runFf1Encrypt s)

/-- FF1_DECRYPT (R141). -/
def execFf1Decrypt (cell : Fin 128) (s : State) : Host.Outcome State Fault Refusal :=
  .next (runFn cell 0x0704 checkFf1 runFf1Decrypt s)

end Sys2Proof.Machine
end

