-- ==== Sys2Proof/Machine/CipherOps.lean ====
section
/-!
DEFINITION. The meanings of the block cipher, AEAD, hash, HMAC and KDF functions in one frame (R147 to R149, R155 to R157), and the writing of an output key (R146).
-/

namespace Sys2Proof.Machine

/-! CIPHER_ENCRYPT and CIPHER_DECRYPT (R147). -/

/-- The checks of CIPHER_ENCRYPT and CIPHER_DECRYPT. -/
def checkCipher (c : Ctx) (_ : State) : Option Resp :=
  let f := c.f
  let m := byteAt f 40
  let n := leAt f 44 4
  refuse (!(decide (m ≤ 2) && (m != 2 || (c.key 0).alg == 65) && decide (1 ≤ n) && decide (n ≤ 65504) &&
    (m == 2 || n % (c.key 0).cipher.len == 0))) Status.paramRejected

/-- CIPHER_ENCRYPT or CIPHER_DECRYPT: ECB, CBC or CTR over DATA. -/
def runCipher (decrypt : Bool) (c : Ctx) (s : State) : FnResult :=
  let f := c.f
  let w := (c.key 0).cipher
  let iv := slice f 48 w.len
  let d := slice f 64 (leAt f 44 4)
  plain (okResp (match byteAt f 40, decrypt with
    | 0, false => ecbEnc w d
    | 0, true => ecbDec w d
    | 1, false => cbcEnc w iv d
    | 1, true => cbcDec w iv d
    | _, _ => ctrMode w iv d)) s

/-- CIPHER_ENCRYPT (R147). -/
def execCipherEncrypt (cell : Fin 128) (s : State) : Host.Outcome State Fault Refusal :=
  .next (runFn cell 0x0801 checkCipher (runCipher false) s)

/-- CIPHER_DECRYPT (R147). -/
def execCipherDecrypt (cell : Fin 128) (s : State) : Host.Outcome State Fault Refusal :=
  .next (runFn cell 0x0802 checkCipher (runCipher true) s)

/-! AEAD_SEAL and AEAD_OPEN (R148, R149). -/

/-- Additional data of Table 6-4. -/
def aeadAad (f : Bytes) : Bytes := slice f 80 (leAt f 42 2)
/-- Data of Table 6-4. -/
def aeadData (f : Bytes) : Bytes := slice f (80 + pad8 (leAt f 42 2)) (leAt f 44 4)

/-- The checks of AEAD_SEAL and AEAD_OPEN. -/
def checkAead (c : Ctx) (_ : State) : Option Resp :=
  let f := c.f
  refuse (!(decide (12 ≤ byteAt f 40) && decide (byteAt f 40 ≤ 16) && decide (leAt f 42 2 ≤ 16384) && (asksNonce f || zeroAt f 60 4)))
    Status.paramRejected

/-- AEAD_SEAL: nonce, tag and ciphertext. -/
def runAeadSeal (c : Ctx) (s : State) : FnResult :=
  let f := c.f
  let (nonce, s) := if asksNonce f then drawNonce s else (slice f 48 12, s)
  let (ct, tag) := gcmSeal (c.key 0).cipher nonce (aeadAad f) (aeadData f)
  (okResp (slice nonce 0 16 ++ slice (tag.take (byteAt f 40)) 0 16 ++ ct), if asksNonce f then [.nonce nonce] else [], s)

/-- AEAD_OPEN: the plaintext, once the whole tag has matched. -/
def runAeadOpen (c : Ctx) (s : State) : FnResult :=
  let f := c.f
  let (pt, tag) := gcmOpen (c.key 0).cipher (slice f 48 12) (aeadAad f) (aeadData f)
  if tag.take (byteAt f 40) = slice f 64 (byteAt f 40) then plain (okResp pt) s else plain (statusOnly Status.tagMismatch) s

/-- AEAD_SEAL (R148). -/
def execAeadSeal (cell : Fin 128) (s : State) : Host.Outcome State Fault Refusal :=
  .next (runFn cell 0x0803 checkAead runAeadSeal s)

/-- AEAD_OPEN (R148, R149). -/
def execAeadOpen (cell : Fin 128) (s : State) : Host.Outcome State Fault Refusal :=
  .next (runFn cell 0x0804 checkAead runAeadOpen s)

/-! HASH (R155), HMAC_GENERATE and HMAC_VERIFY (R156). -/

/-- A hash algorithm with its digest and block lengths. -/
structure HashAlg where
  run : Bytes → Bytes
  len : Nat
  block : Nat

/-- The hash codes of Table 6-3. -/
def hashOf (code : Nat) : Option HashAlg :=
  match code with
  | 1 => some { run := sha256, len := 32, block := 64 }
  | 2 => some { run := sha384, len := 48, block := 128 }
  | 3 => some { run := sha512, len := 64, block := 128 }
  | 4 => some { run := sha3_256, len := 32, block := 136 }
  | 5 => some { run := sha3_512, len := 64, block := 72 }
  | _ => none

/-- The hash of a code in range; SHA-256 elsewhere, where the checks have refused the command. -/
def hashAt (code : Nat) : HashAlg := (hashOf code).getD { run := sha256, len := 32, block := 64 }

/-- HMAC with a hash. -/
def HashAlg.hmac (h : HashAlg) (key msg : Bytes) : Bytes := hmacWith h.run h.block key msg

/-- The checks of HASH. -/
def checkHash (c : Ctx) (_ : State) : Option Resp :=
  refuse ((hashOf (byteAt c.f 32)).isNone || decide (leAt c.f 36 4 > 65528)) Status.paramRejected

/-- HASH: the digest. -/
def runHash (c : Ctx) (s : State) : FnResult :=
  plain (okResp ((hashAt (byteAt c.f 32)).run (slice c.f 40 (leAt c.f 36 4)))) s

/-- HASH (R155). -/
def execHash (cell : Fin 128) (s : State) : Host.Outcome State Fault Refusal :=
  .next (runFn cell 0x0901 checkHash runHash s)

/-- The checks of HMAC_GENERATE and HMAC_VERIFY. -/
def checkHmac (c : Ctx) (_ : State) : Option Resp :=
  match hashOf (byteAt c.f 40) with
  | none => some (statusOnly Status.paramRejected)
  | some h => refuse (!(decide (16 ≤ byteAt c.f 41) && decide (byteAt c.f 41 ≤ h.len))) Status.paramRejected

/-- The MAC of an HMAC command, MAC_LEN bytes. -/
def hmacOf (c : Ctx) : Bytes :=
  ((hashAt (byteAt c.f 40)).hmac (c.key 0).material (slice c.f 112 (leAt c.f 44 4))).take (byteAt c.f 41)

/-- HMAC_GENERATE returns 64 bytes, the MAC left-aligned. -/
def runHmacGenerate (c : Ctx) (s : State) : FnResult := plain (okResp (slice (hmacOf c) 0 64)) s

/-- HMAC_VERIFY compares. -/
def runHmacVerify (c : Ctx) (s : State) : FnResult :=
  plain (statusOnly (if hmacOf c = slice c.f 48 (byteAt c.f 41) then Status.ok else Status.verifyFailed)) s

/-- HMAC_GENERATE (R156). -/
def execHmacGenerate (cell : Fin 128) (s : State) : Host.Outcome State Fault Refusal :=
  .next (runFn cell 0x0902 checkHmac runHmacGenerate s)

/-- HMAC_VERIFY (R156). -/
def execHmacVerify (cell : Fin 128) (s : State) : Host.Outcome State Fault Refusal :=
  .next (runFn cell 0x0903 checkHmac runHmacVerify s)

/-! Output keys (R146). -/

/-- A usage, mode and algorithm that form a row of Table 5-2, or M7 with H (R146, R175). -/
def usageRow (usage mode alg keyBytes : Nat) : Bool :=
  let t := alg == 84
  let t2 := t && keyBytes == 16
  let a := alg == 65
  let edb := mode == 69 || mode == 68 || mode == 66
  let gvc := mode == 71 || mode == 86 || mode == 67
  (usage == chars 'P' '0' && edb && (t || a)) ||
  (usage == chars 'V' '1' && (mode == 67 || mode == 86) && t) ||
  (usage == chars 'V' '2' && (mode == 67 || mode == 86) && t2) ||
  (usage == chars 'C' '0' && gvc && t2) ||
  ((usage == chars 'E' '0' || usage == chars 'E' '1' || usage == chars 'E' '2' || usage == chars 'B' '1') && mode == 88 && (t2 || a)) ||
  (usage == chars 'B' '0' && mode == 88 && (t || a)) ||
  (usage == chars 'M' '1' && gvc && t) ||
  (usage == chars 'M' '3' && gvc && t2) ||
  (usage == chars 'M' '6' && gvc && (t || a)) ||
  (usage == chars 'D' '0' && edb && (t || a)) ||
  ((usage == chars 'K' '0' || usage == chars 'K' '1') && edb && (t || a)) ||
  (usage == chars 'M' '7' && gvc && alg == 72)

/-- The header that the template at frame byte 56 describes (Table 6-2). -/
def templateHeader (f : Bytes) : BlockHeader :=
  { usage := ofBE (slice f 56 2), alg := byteAt f 58, mode := byteAt f 59, version := ofBE (slice f 60 2), exportable := byteAt f 62, opts := [] }

/-- KEY_BYTES of the template. -/
def templateBytes (f : Bytes) : Nat := byteAt f 63

/-- The checks of a template and its wrapping key. -/
def checkTemplate (f : Bytes) (w : HeldKey) : Option Resp :=
  let h := templateHeader f
  let n := templateBytes f
  if h.usage = chars 'K' '0' ∨ h.usage = chars 'K' '1' then some (statusOnly Status.keyUsage)
  else if !(h.alg == 84 || h.alg == 65 || h.alg == 72) then some (statusOnly Status.keyUsage)
  else if !(keyBytesOk h.alg n && (h.exportable == 69 || h.exportable == 78 || h.exportable == 83)) then some (statusOnly Status.paramRejected)
  else refuse (!usageRow h.usage h.mode h.alg n || decide (strengthOf w.alg w.material.length < strengthOf h.alg n)) Status.keyUsage

/-- An output key of a replayable function, with derived padding (R137, R146). -/
def outputReplay (f : Bytes) (w : HeldKey) (kb : Bytes) : Resp :=
  let h := templateHeader f
  okResp (blockResponse [] h.alg kb (wrapBlock w.alg w.material h kb (replayPad w.alg w.material h kb)))

/-- An output key of an originating function, with random padding and the extra output (R146, R163). -/
def outputDrawn (c : Ctx) (w : HeldKey) (kb extra : Bytes) (s : State) : Resp × State :=
  let h := templateHeader c.f
  let (pad, s) := drawPad c w.alg kb.length s
  (okResp (blockResponse extra h.alg kb (wrapBlock w.alg w.material h kb pad)), s)

/-! KDF (R157). -/

/-- The checks of KDF. -/
def checkKdf (c : Ctx) (_ : State) : Option Resp :=
  let f := c.f
  let m := byteAt f 48
  let hashOk := if m = 2 then byteAt f 49 == 0 else (hashOf (byteAt f 49)).isSome
  if !(decide (1 ≤ m) && decide (m ≤ 3) && hashOk && decide (leAt f 50 2 ≤ 256) && decide (leAt f 52 2 ≤ 1024) &&
      (if m = 3 then decide (leAt f 54 2 ≤ 256) else leAt f 54 2 == 0)) then some (statusOnly Status.paramRejected)
  else if m = 2 ∧ (c.key 0).alg ≠ 65 then some (statusOnly Status.keyUsage)
  else checkTemplate f (c.key 1)

/-- The bytes that KDF derives. -/
def kdfBytes (c : Ctx) : Bytes :=
  let f := c.f
  let k := (c.key 0).material
  let ll := leAt f 50 2
  let cl := leAt f 52 2
  let label := slice f 72 ll
  let ctx := slice f (72 + pad8 ll) cl
  let salt := slice f (72 + pad8 ll + pad8 cl) (leAt f 54 2)
  let n := templateBytes f
  let h := hashAt (byteAt f 49)
  match byteAt f 48 with
  | 1 => kdfCounter (h.hmac k) h.len label ctx n
  | 2 => kdfCounter (cmac (aesOf k)) 16 label ctx n
  | _ => kdfCounter (h.hmac (h.hmac (if salt = [] then zeros h.len else salt) k)) h.len label ctx n

/-- KDF: the derived key as a block. -/
def runKdf (c : Ctx) (s : State) : FnResult := plain (outputReplay c.f (c.key 1) (kdfBytes c)) s

/-- KDF (R157). -/
def execKdf (cell : Fin 128) (s : State) : Host.Outcome State Fault Refusal :=
  .next (runFn cell 0x0904 checkKdf runKdf s)

end Sys2Proof.Machine
end

