-- ==== Sys2Proof/Machine/CryptoPq.lean ====
section
/-!
DEFINITION. ML-KEM and ML-DSA (FIPS 203, FIPS 204), which the spec names and does not restate (log 14).
-/

namespace Sys2Proof.Machine

/-- A polynomial of 256 coefficients. -/
abbrev Poly := List Nat

/-- Reversal of the low `w` bits. -/
def bitRev (w v : Nat) : Nat := (List.range w).foldl (fun a i => 2 * a + v / 2 ^ i % 2) 0

/-- Coefficient-wise sum modulo q. -/
def polyAdd (q : Nat) (a b : Poly) : Poly := List.zipWith (fun x y => (x + y) % q) a b
/-- Coefficient-wise difference modulo q. -/
def polySub (q : Nat) (a b : Poly) : Poly := List.zipWith (fun x y => (x + q - y) % q) a b
/-- The zero polynomial. -/
def polyZero : Poly := List.replicate 256 0

/-- One forward NTT layer with butterfly distance `len`: block b uses z (128 / len + b). -/
def nttLayer (q : Nat) (z : Nat → Nat) (len : Nat) (f : Poly) : Poly :=
  let a := f.toArray
  (List.range 256).map (fun i =>
    let b := i / (2 * len)
    let w := z (128 / len + b)
    if i % (2 * len) < len then (a.getD i 0 + w * a.getD (i + len) 0) % q
    else (a.getD (i - len) 0 + (q - w * a.getD i 0 % q)) % q)

/-- One inverse layer: block b uses z (256 / len - 1 - b). -/
def nttInvLayer (q : Nat) (z : Nat → Nat) (len : Nat) (f : Poly) : Poly :=
  let a := f.toArray
  (List.range 256).map (fun i =>
    let b := i / (2 * len)
    let w := z (256 / len - 1 - b)
    if i % (2 * len) < len then (a.getD i 0 + a.getD (i + len) 0) % q
    else w * (a.getD i 0 + q - a.getD (i - len) 0) % q)

/-- Packs numbers of `d` bits, least significant bit first. -/
def packBits (d : Nat) (v : List Nat) : Bytes :=
  leBytes (ceilDiv (d * v.length) 8) (v.foldr (fun x a => x + 2 ^ d * a) 0)

/-- Unpacks `n` numbers of `d` bits. -/
def unpackAux (d : Nat) : Nat → Nat → List Nat
  | 0, _ => []
  | n + 1, v => v % 2 ^ d :: unpackAux d n (v / 2 ^ d)

/-- Unpacks `n` numbers of `d` bits from bytes. -/
def unpackBits (d n : Nat) (b : Bytes) : List Nat := unpackAux d n (ofLE b)

/-! ML-KEM. -/

/-- The modulus of ML-KEM. -/
def kq : Nat := 3329

/-- Powers of 17 in bit-reversed order. -/
def kZetas : Array Nat := ((List.range 128).map (fun k => powMod 17 (bitRev 7 k) kq)).toArray

/-- NTT of ML-KEM. -/
def kNtt (f : Poly) : Poly := [128, 64, 32, 16, 8, 4, 2].foldl (fun f len => nttLayer kq (fun k => kZetas.getD k 0) len f) f
/-- Inverse NTT of ML-KEM. -/
def kNttInv (f : Poly) : Poly :=
  ([2, 4, 8, 16, 32, 64, 128].foldl (fun f len => nttInvLayer kq (fun k => kZetas.getD k 0) len f) f).map (fun x => x * 3303 % kq)

/-- Product in the NTT domain. -/
def kMul (f g : Poly) : Poly :=
  let a := f.toArray; let b := g.toArray
  (List.range 128).flatMap (fun i =>
    let gm := powMod 17 (2 * bitRev 7 i + 1) kq
    let a0 := a.getD (2 * i) 0; let a1 := a.getD (2 * i + 1) 0
    let b0 := b.getD (2 * i) 0; let b1 := b.getD (2 * i + 1) 0
    [(a0 * b0 + a1 * b1 % kq * gm) % kq, (a0 * b1 + a1 * b0) % kq])

/-- Parameters k, eta1, eta2, du, dv. -/
structure KemParams where
  k : Nat
  eta1 : Nat
  eta2 : Nat
  du : Nat
  dv : Nat

/-- ML-KEM-512. -/
def kem512 : KemParams := { k := 2, eta1 := 3, eta2 := 2, du := 10, dv := 4 }
/-- ML-KEM-768. -/
def kem768 : KemParams := { k := 3, eta1 := 2, eta2 := 2, du := 10, dv := 4 }
/-- ML-KEM-1024. -/
def kem1024 : KemParams := { k := 4, eta1 := 2, eta2 := 2, du := 11, dv := 5 }

/-- Rejection sampling of 12-bit values below q. -/
def kReject : Bytes → List Nat
  | a :: b :: c :: t =>
    let d1 := a.toNat + 256 * (b.toNat % 16)
    let d2 := b.toNat / 16 + 16 * c.toNat
    (if d1 < kq then [d1] else []) ++ (if d2 < kq then [d2] else []) ++ kReject t
  | _ => []

/-- SampleNTT. -/
def kSample (seed : Bytes) : Poly := (kReject (shake128 seed 1344)).take 256

/-- SamplePolyCBD. -/
def kCbd (eta : Nat) (b : Bytes) : Poly :=
  (unpackBits (2 * eta) 256 b).map (fun v =>
    let ones := fun (x : Nat) => (List.range eta).foldl (fun a i => a + x / 2 ^ i % 2) 0
    (ones (v % 2 ^ eta) + kq - ones (v / 2 ^ eta)) % kq)

/-- The matrix in the NTT domain, row by row. -/
def kMatrix (p : KemParams) (rho : Bytes) : List (List Poly) :=
  (List.range p.k).map (fun i => (List.range p.k).map (fun j => kSample (rho ++ [BitVec.ofNat 8 j, BitVec.ofNat 8 i])))

/-- Inner product in the NTT domain. -/
def kDot (a b : List Poly) : Poly := (List.zipWith kMul a b).foldl (polyAdd kq) polyZero

/-- Noise polynomials from a seed: `n` of them, from counter `c`. -/
def kNoise (eta : Nat) (sigma : Bytes) (c n : Nat) : List Poly :=
  (List.range n).map (fun i => kCbd eta (shake256 (sigma ++ [BitVec.ofNat 8 (c + i)]) (64 * eta)))

/-- Compression to d bits. -/
def kCompress (d x : Nat) : Nat := (2 ^ d * x + kq / 2) / kq % 2 ^ d
/-- Decompression from d bits. -/
def kDecompress (d y : Nat) : Nat := (kq * y + 2 ^ (d - 1)) / 2 ^ d

/-- Key generation: (encapsulation key, decapsulation key) from d and z. -/
def kemKeyGen (p : KemParams) (d z : Bytes) : Bytes × Bytes :=
  let g := sha3_512 (d ++ [BitVec.ofNat 8 p.k])
  let rho := g.take 32; let sigma := g.drop 32
  let s := (kNoise p.eta1 sigma 0 p.k).map kNtt
  let e := (kNoise p.eta1 sigma p.k p.k).map kNtt
  let t := List.zipWith (polyAdd kq) ((kMatrix p rho).map (fun row => kDot row s)) e
  let ek := t.flatMap (packBits 12) ++ rho
  (ek, s.flatMap (packBits 12) ++ ek ++ sha3_256 ek ++ z)

/-- K-PKE.Encrypt. -/
def kpkeEncrypt (p : KemParams) (ek m r : Bytes) : Bytes :=
  let t := (chunks 384 p.k ek).map (unpackBits 12 256)
  let rho := ek.drop (384 * p.k)
  let a := kMatrix p rho
  let y := (kNoise p.eta1 r 0 p.k).map kNtt
  let e1 := kNoise p.eta2 r p.k p.k
  let e2 := (kNoise p.eta2 r (2 * p.k) 1).headD polyZero
  let u := (List.range p.k).map (fun j =>
    polyAdd kq (kNttInv (kDot (a.map (fun row => row.getD j polyZero)) y)) (e1.getD j polyZero))
  let mu := (unpackBits 1 256 m).map (kDecompress 1)
  let v := polyAdd kq (polyAdd kq (kNttInv (kDot t y)) e2) mu
  u.flatMap (fun f => packBits p.du (f.map (kCompress p.du))) ++ packBits p.dv (v.map (kCompress p.dv))

/-- K-PKE.Decrypt. -/
def kpkeDecrypt (p : KemParams) (dk c : Bytes) : Bytes :=
  let u := (chunks (32 * p.du) p.k c).map (fun b => (unpackBits p.du 256 b).map (kDecompress p.du))
  let v := (unpackBits p.dv 256 (c.drop (32 * p.du * p.k))).map (kDecompress p.dv)
  let s := (chunks 384 p.k dk).map (unpackBits 12 256)
  let w := polySub kq v (kNttInv (kDot s (u.map kNtt)))
  packBits 1 (w.map (kCompress 1))

/-- Encapsulation with randomness m: (shared secret, ciphertext). -/
def kemEncaps (p : KemParams) (ek m : Bytes) : Bytes × Bytes :=
  let g := sha3_512 (m ++ sha3_256 ek)
  (g.take 32, kpkeEncrypt p ek m (g.drop 32))

/-- Decapsulation, with implicit rejection. -/
def kemDecaps (p : KemParams) (dk c : Bytes) : Bytes :=
  let pke := dk.take (384 * p.k)
  let ek := (dk.drop (384 * p.k)).take (384 * p.k + 32)
  let h := (dk.drop (768 * p.k + 32)).take 32
  let z := dk.drop (768 * p.k + 64)
  let m := kpkeDecrypt p pke c
  let g := sha3_512 (m ++ h)
  if kpkeEncrypt p ek m (g.drop 32) = c then g.take 32 else shake256 (z ++ c) 32

/-- Length of an encapsulation key. -/
def kemEkLen (p : KemParams) : Nat := 384 * p.k + 32
/-- Length of a ciphertext. -/
def kemCtLen (p : KemParams) : Nat := 32 * (p.du * p.k + p.dv)
/-- The modulus check on an encapsulation key (FIPS 203, 7.2). -/
def kemEkOk (p : KemParams) (ek : Bytes) : Bool :=
  decide (ek.length = kemEkLen p) && (chunks 384 p.k ek).all (fun b => (unpackBits 12 256 b).all (· < kq))

/-! ML-DSA. -/

/-- The modulus of ML-DSA. -/
def dq : Nat := 8380417

/-- Powers of 1753 in bit-reversed order. -/
def dZetas : Array Nat := ((List.range 256).map (fun k => powMod 1753 (bitRev 8 k) dq)).toArray

/-- NTT of ML-DSA. -/
def dNtt (f : Poly) : Poly := [128, 64, 32, 16, 8, 4, 2, 1].foldl (fun f len => nttLayer dq (fun k => dZetas.getD k 0) len f) f
/-- Inverse NTT of ML-DSA. -/
def dNttInv (f : Poly) : Poly :=
  ([1, 2, 4, 8, 16, 32, 64, 128].foldl (fun f len => nttInvLayer dq (fun k => dZetas.getD k 0) len f) f).map (fun x => x * 8347681 % dq)
/-- Pointwise product. -/
def dMul (f g : Poly) : Poly := List.zipWith (fun x y => x * y % dq) f g
/-- Inner product in the NTT domain. -/
def dDot (a b : List Poly) : Poly := (List.zipWith dMul a b).foldl (polyAdd dq) polyZero

/-- Parameters of ML-DSA. -/
structure DsaParams where
  k : Nat
  l : Nat
  eta : Nat
  tau : Nat
  gamma1 : Nat
  gamma2 : Nat
  omega : Nat
  lambda : Nat

/-- ML-DSA-44. -/
def dsa44 : DsaParams := { k := 4, l := 4, eta := 2, tau := 39, gamma1 := 2 ^ 17, gamma2 := 95232, omega := 80, lambda := 128 }
/-- ML-DSA-65. -/
def dsa65 : DsaParams := { k := 6, l := 5, eta := 4, tau := 49, gamma1 := 2 ^ 19, gamma2 := 261888, omega := 55, lambda := 192 }
/-- ML-DSA-87. -/
def dsa87 : DsaParams := { k := 8, l := 7, eta := 2, tau := 60, gamma1 := 2 ^ 19, gamma2 := 261888, omega := 75, lambda := 256 }

/-- Rejection sampling of 23-bit values below q. -/
def dReject : Bytes → List Nat
  | a :: b :: c :: t =>
    let z := a.toNat + 256 * b.toNat + 65536 * (c.toNat % 128)
    (if z < dq then [z] else []) ++ dReject t
  | _ => []

/-- RejNTTPoly. -/
def dSample (seed : Bytes) : Poly := (dReject (shake128 seed 1008)).take 256

/-- ExpandA. -/
def dMatrix (p : DsaParams) (rho : Bytes) : List (List Poly) :=
  (List.range p.k).map (fun r => (List.range p.l).map (fun s => dSample (rho ++ [BitVec.ofNat 8 s, BitVec.ofNat 8 r])))

/-- RejBoundedPoly. -/
def dBounded (eta : Nat) (seed : Bytes) : Poly :=
  (((shake256 seed 816).flatMap (fun b => [b.toNat % 16, b.toNat / 16])).filterMap (fun v =>
    if eta = 2 then (if v < 15 then some ((2 + dq - v % 5) % dq) else none)
    else (if v < 9 then some ((4 + dq - v) % dq) else none))).take 256

/-- The centred representative. -/
def dCentre (x : Nat) : Int := if x > dq / 2 then (x : Int) - dq else x
/-- The largest absolute value of a centred coefficient. -/
def dNorm (f : Poly) : Nat := f.foldl (fun m x => max m (dCentre x).natAbs) 0

/-- Power2Round: (r1, r0 modulo q). -/
def dPower2 (r : Nat) : Nat × Nat :=
  let r0 : Int := let v := r % 8192; if v > 4096 then (v : Int) - 8192 else v
  (((r : Int) - r0).toNat / 8192, (r0 % (dq : Int)).toNat)

/-- Decompose: (r1, r0 as an integer). -/
def dDecompose (g2 r : Nat) : Nat × Int :=
  let v := r % (2 * g2)
  let r0 : Int := if v > g2 then (v : Int) - 2 * g2 else v
  if (r : Int) - r0 = dq - 1 then (0, r0 - 1) else (((r : Int) - r0).toNat / (2 * g2), r0)

/-- BitPack of values in [-a, b], given modulo q. -/
def dBitPack (b d : Nat) (f : Poly) : Bytes := packBits d (f.map (fun x => ((b : Int) - dCentre x).toNat))
/-- BitUnpack, modulo q. -/
def dBitUnpack (b d : Nat) (v : Bytes) : Poly := (unpackBits d 256 v).map (fun z => (((b : Int) - z) % (dq : Int)).toNat)

/-- SampleInBall, on the stream of SHAKE256. -/
def dBallAux (n : Nat) : Nat → Bytes → Nat → Nat → Array Nat → Array Nat
  | 0, _, _, _, c => c
  | _ + 1, [], _, _, c => c
  | f + 1, b :: t, i, signs, c =>
    if i ≥ n then c
    else if b.toNat > i then dBallAux n f t i signs c
    else
      let j := b.toNat
      let c1 := c.setIfInBounds i (c.getD j 0)
      let c2 := c1.setIfInBounds j (if signs % 2 = 1 then dq - 1 else 1)
      dBallAux n f t (i + 1) (signs / 2) c2

/-- SampleInBall. -/
def dBall (p : DsaParams) (seed : Bytes) : Poly :=
  let s := shake256 seed 680
  (dBallAux 256 680 (s.drop 8) (256 - p.tau) (ofLE (s.take 8)) (Array.replicate 256 0)).toList

/-- The secret parts of a seed: rho, K, s1, s2, t. -/
def dExpand (p : DsaParams) (xi : Bytes) : Bytes × Bytes × List Poly × List Poly × List Poly :=
  let h := shake256 (xi ++ [BitVec.ofNat 8 p.k, BitVec.ofNat 8 p.l]) 128
  let rho := h.take 32; let rho' := (h.drop 32).take 64
  let s1 := (List.range p.l).map (fun r => dBounded p.eta (rho' ++ leBytes 2 r))
  let s2 := (List.range p.k).map (fun r => dBounded p.eta (rho' ++ leBytes 2 (p.l + r)))
  let s1n := s1.map dNtt
  let t := List.zipWith (polyAdd dq) ((dMatrix p rho).map (fun row => dNttInv (dDot row s1n))) s2
  (rho, h.drop 96, s1, s2, t)

/-- The public key of a seed. -/
def dsaPublic (p : DsaParams) (xi : Bytes) : Bytes :=
  let (rho, _, _, _, t) := dExpand p xi
  rho ++ t.flatMap (fun f => packBits 10 (f.map (fun x => (dPower2 x).1)))

/-- Width of a packed z coefficient. -/
def dZBits (p : DsaParams) : Nat := if p.gamma1 = 2 ^ 17 then 18 else 20
/-- w1Encode. -/
def dW1 (p : DsaParams) (w : List Poly) : Bytes :=
  w.flatMap (fun f => packBits (if p.gamma2 = 95232 then 6 else 4) f)

/-- HintBitPack. -/
def dHintPack (p : DsaParams) (h : List (List Bool)) : Bytes :=
  let idx := h.map (fun f => (List.range 256).filter (fun i => f.getD i false))
  let flat := idx.flatten
  let ends := (idx.foldl (fun (st : Nat × List Nat) l => (st.1 + l.length, (st.1 + l.length) :: st.2)) (0, [])).2.reverse
  (flat ++ List.replicate (p.omega - flat.length) 0 ++ ends).map (BitVec.ofNat 8)

/-- Rising strictly. -/
def risingList : List Nat → Bool
  | a :: b :: t => decide (a < b) && risingList (b :: t)
  | _ => true

/-- HintBitUnpack, `none` when malformed. -/
def dHintUnpack (p : DsaParams) (y : Bytes) : Option (List (List Bool)) :=
  let pos := (y.take p.omega).map (·.toNat)
  let ends := ((y.drop p.omega).take p.k).map (·.toNat)
  let starts := 0 :: ends
  let parts := List.zipWith (fun a b => (pos.drop a).take (b - a)) starts ends
  let okEnds := (List.zipWith (fun a b => decide (a ≤ b)) starts ends).all id && ends.all (· ≤ p.omega)
  let last := ends.getLastD 0
  if okEnds && parts.all risingList && (pos.drop last).all (· == 0) then
    some (parts.map (fun l => let a := l.foldl (fun (a : Array Bool) i => a.setIfInBounds i true) (Array.replicate 256 false); a.toList))
  else none

/-- The rejection loop of signing, on fuel. -/
def dSignLoop (p : DsaParams) (a : List (List Poly)) (s1 s2 t0 : List Poly) (mu rho2 : Bytes) : Nat → Nat → Bytes
  | 0, _ => []
  | f + 1, kappa =>
    let zb := dZBits p
    let y := (List.range p.l).map (fun r => dBitUnpack p.gamma1 zb (shake256 (rho2 ++ leBytes 2 (kappa + r)) (32 * zb)))
    let yn := y.map dNtt
    let w := a.map (fun row => dNttInv (dDot row yn))
    let w1 := w.map (fun g => g.map (fun x => (dDecompose p.gamma2 x).1))
    let ct := shake256 (mu ++ dW1 p w1) (p.lambda / 4)
    let c := dNtt (dBall p ct)
    let cs1 := s1.map (fun s => dNttInv (dMul c s))
    let cs2 := s2.map (fun s => dNttInv (dMul c s))
    let z := List.zipWith (polyAdd dq) y cs1
    let r := List.zipWith (polySub dq) w cs2
    let beta := p.tau * p.eta
    let r0 := (r.flatMap (fun g => g.map (fun x => (dDecompose p.gamma2 x).2.natAbs))).foldl max 0
    if (z.map dNorm).foldl max 0 ≥ p.gamma1 - beta ∨ r0 ≥ p.gamma2 - beta then
      dSignLoop p a s1 s2 t0 mu rho2 f (kappa + p.l)
    else
      let ct0 := t0.map (fun s => dNttInv (dMul c s))
      let rt := List.zipWith (polyAdd dq) r ct0
      let h := List.zipWith (fun g1 g2 => List.zipWith (fun x y => (dDecompose p.gamma2 x).1 != (dDecompose p.gamma2 y).1) g1 g2) rt r
      if (ct0.map dNorm).foldl max 0 ≥ p.gamma2 ∨ (h.map (fun l => l.countP id)).foldl (· + ·) 0 > p.omega then
        dSignLoop p a s1 s2 t0 mu rho2 f (kappa + p.l)
      else ct ++ z.flatMap (dBitPack p.gamma1 zb) ++ dHintPack p h

/-- The message representative of pure ML-DSA with a context string. -/
def dsaMessage (ctx msg : Bytes) : Bytes := [0#8, BitVec.ofNat 8 ctx.length] ++ ctx ++ msg

/-- Pure ML-DSA signature from a seed; `rnd` is 32 bytes, zeros when deterministic. -/
def dsaSign (p : DsaParams) (xi ctx msg rnd : Bytes) : Bytes :=
  let (rho, key, s1, s2, t) := dExpand p xi
  let pub := rho ++ t.flatMap (fun f => packBits 10 (f.map (fun x => (dPower2 x).1)))
  let mu := shake256 (shake256 pub 64 ++ dsaMessage ctx msg) 64
  let rho2 := shake256 (key ++ rnd ++ mu) 64
  dSignLoop p (dMatrix p rho) (s1.map dNtt) (s2.map dNtt) (t.map (fun f => dNtt (f.map (fun x => (dPower2 x).2)))) mu rho2 814 0

/-- Length of a public key. -/
def dsaPkLen (p : DsaParams) : Nat := 32 + 320 * p.k
/-- Length of a signature. -/
def dsaSigLen (p : DsaParams) : Nat := p.lambda / 4 + p.l * 32 * dZBits p + p.omega + p.k

/-- Pure ML-DSA verification. -/
def dsaVerify (p : DsaParams) (pk ctx msg sig : Bytes) : Bool :=
  if pk.length ≠ dsaPkLen p ∨ sig.length ≠ dsaSigLen p then false else
  let zb := dZBits p
  let rho := pk.take 32
  let t1 := (chunks 320 p.k (pk.drop 32)).map (unpackBits 10 256)
  let ct := sig.take (p.lambda / 4)
  let z := (chunks (32 * zb) p.l (sig.drop (p.lambda / 4))).map (dBitUnpack p.gamma1 zb)
  match dHintUnpack p (sig.drop (p.lambda / 4 + p.l * 32 * zb)) with
  | none => false
  | some h =>
    let mu := shake256 (shake256 pk 64 ++ dsaMessage ctx msg) 64
    let c := dNtt (dBall p ct)
    let zn := z.map dNtt
    let az := (dMatrix p rho).map (fun row => dDot row zn)
    let w := List.zipWith (fun a t => dNttInv (polySub dq a (dMul c (dNtt (t.map (fun x => x * 8192 % dq)))))) az t1
    let m := (dq - 1) / (2 * p.gamma2)
    let w1 := List.zipWith (fun hs f => List.zipWith (fun hb x =>
      let d := dDecompose p.gamma2 x
      if hb then (if d.2 > 0 then (d.1 + 1) % m else (d.1 + m - 1) % m) else d.1) hs f) h w
    decide ((z.map dNorm).foldl max 0 < p.gamma1 - p.tau * p.eta) && decide (shake256 (mu ++ dW1 p w1) (p.lambda / 4) = ct)

end Sys2Proof.Machine
end

