-- ==== Sys2Proof/Machine/PkKeys.lean ====
section
/-!
DEFINITION. Public-key types, the material of key pairs and public keys, loaded curves and the edge inputs of public keys (R158, R159, R165, Tables 6-7, 7-2).
-/

namespace Sys2Proof.Machine

/-! Curves. -/

/-- A curve with its cofactor. -/
structure Domain where
  curve : Curve
  cofactor : Nat

/-- Bytes of each value of a curve record (R159). -/
def curveValueLen (fieldBits : Nat) : Nat := ceilDiv (fieldBits + 1) 8

/-- Value `i` of a curve record: P, A, B, GX, GY, N. -/
def curveValue (r : VRecord) (i : Nat) : Nat := ofBE (slice r.material (i * curveValueLen (curveBits r)) (curveValueLen (curveBits r)))

/-- The domain that a curve record holds. -/
def recordDomain (r : VRecord) : Domain :=
  { curve := { p := curveValue r 0, a := curveValue r 1, b := curveValue r 2, gx := curveValue r 3, gy := curveValue r 4, n := curveValue r 5 }
    cofactor := leAt r.keyId 2 2 }

/-- RESULT of a curve record. -/
def curveResult (r : VRecord) : Nat := byteAt r.keyId 4

/-- The outcome of naming a curve by KEY_TYPE. -/
inductive DomainLook where
  | curve (d : Domain)
  | bad (status : Nat)

/-- The domain of an EC key type in a gallery: a loaded curve whose slot holds none is KEY_NOT_FOUND, one that failed its checks PARAM_REJECTED (R159, R165, R168). -/
def domainOf (g : Gallery) (kt : Nat) : DomainLook :=
  match kt with
  | 0x01 => .curve { curve := p256, cofactor := 1 }
  | 0x02 => .curve { curve := p384, cofactor := 1 }
  | 0x03 => .curve { curve := p521, cofactor := 1 }
  | _ =>
    if kt % 256 ≠ 0xFF then .bad Status.paramRejected
    else if g.damaged.contains (kt / 256) then .bad Status.engineFault
    else match recordAt g (kt / 256) with
      | some r =>
        if r.kind ≠ 6 then .bad Status.keyNotFound
        else if curveResult r ≠ 0 then .bad Status.paramRejected
        else .curve (recordDomain r)
      | none => .bad Status.keyNotFound

/-- The domain of a key type that the checks have accepted. -/
def domainAt (g : Gallery) (kt : Nat) : Domain :=
  match domainOf g kt with
  | .curve d => d
  | .bad _ => { curve := p256, cofactor := 1 }

/-- KiB of a prepared domain (R236). -/
def domainKib (fieldBits : Nat) : Nat := if fieldBits ≤ 256 then 256 else if fieldBits ≤ 521 then 1024 else 4096

/-- Keeps prepared domains, most recent first, as far as the operand space of 512 MiB holds them (R236). -/
def fitDomains : Nat → List (Nat × Nat × Nat) → List (Nat × Nat × Nat)
  | _, [] => []
  | room, d :: t => if d.2.2 ≤ room then d :: fitDomains (room - d.2.2) t else []

/-- A loaded curve's prepared domain is used, and rebuilt if it had been dropped (R236). -/
def useDomain (g slot fieldBits : Nat) (s : State) : State :=
  let others := s.vit.domains.filter (fun d => !(d.1 == g && d.2.1 == slot))
  { s with vit := { s.vit with domains := fitDomains (512 * 1024) ((g, slot, domainKib fieldBits) :: others) } }

/-- The same for the curve that a key type names, if it names one. -/
def useKeyDomain (g kt : Nat) (s : State) : State :=
  if kt % 256 = 0xFF then
    match (gal s g).bind (fun x => recordAt x (kt / 256)) with
    | some r => useDomain g (kt / 256) (curveBits r) s
    | none => s
  else s

/-! Types. -/

/-- The Edwards curve of a type. -/
def edOf (kt : Nat) : EdCurve := if kt = 0x05 then ed448 else ed25519
/-- The ML-DSA parameters of a type. -/
def dsaOf (kt : Nat) : DsaParams := if kt = 0x20 then dsa44 else if kt = 0x21 then dsa65 else dsa87
/-- The ML-KEM parameters of a type. -/
def kemOf (kt : Nat) : KemParams := if kt = 0x30 then kem512 else if kt = 0x31 then kem768 else kem1024
/-- Modulus bytes of an RSA type. -/
def rsaLen (kt : Nat) : Nat := if kt = 0x10 then 256 else if kt = 0x11 then 384 else 512

/-- Bytes of a public key (Table 6-7). -/
def publicLen (g : Gallery) (kt : Nat) : Nat :=
  match kt % 256 with
  | 0x01 | 0x02 | 0x03 | 0xFF => 1 + 2 * ecLen (domainAt g kt).curve
  | 0x04 | 0x05 => (edOf kt).len
  | 0x10 | 0x11 | 0x12 => rsaLen kt + 4
  | 0x20 | 0x21 | 0x22 => dsaPkLen (dsaOf kt)
  | _ => kemEkLen (kemOf kt)

/-- Bytes of a signature or ciphertext (Table 6-7). -/
def signatureLen (g : Gallery) (kt : Nat) : Nat :=
  match kt % 256 with
  | 0x01 | 0x02 | 0x03 | 0xFF => 2 * ecScalarLen (domainAt g kt).curve
  | 0x04 | 0x05 => 2 * (edOf kt).len
  | 0x10 | 0x11 | 0x12 => rsaLen kt
  | 0x20 | 0x21 | 0x22 => dsaSigLen (dsaOf kt)
  | _ => kemCtLen (kemOf kt)

/-- Bytes of the private part of a key pair's material (Table 7-2). -/
def privateLen (g : Gallery) (kt : Nat) : Nat :=
  match kt % 256 with
  | 0x01 | 0x02 | 0x03 | 0xFF => ecScalarLen (domainAt g kt).curve
  | 0x04 | 0x05 => (edOf kt).len
  | 0x10 | 0x11 | 0x12 => 5 * (rsaLen kt / 2)
  | 0x20 | 0x21 | 0x22 => 32
  | _ => 64

/-- The private scalar of an EC key pair. -/
def ecPrivate (d : Domain) (material : Bytes) : Nat := ofBE (material.take (ecScalarLen d.curve))

/-- The scalar is in range; it can fail only on a fault (R165). -/
def scalarOk (d : Domain) (x : Nat) : Bool := decide (1 ≤ x) && decide (x < d.curve.n)

/-! RSA. -/

/-- Modulus and exponent of an RSA public key. -/
def rsaPublic (kt : Nat) (pub : Bytes) : Nat × Nat := (ofBE (pub.take (rsaLen kt)), ofBE (pub.drop (rsaLen kt)))

/-- A modulus of the exact size and odd, and an exponent odd and at least 65,537 (R158, R165). -/
def rsaPublicOk (kt : Nat) (pub : Bytes) : Bool :=
  let (n, e) := rsaPublic kt pub
  bitLen n == 8 * rsaLen kt && n % 2 == 1 && e % 2 == 1 && decide (e ≥ 65537)

/-- The private operation of an RSA key pair. -/
def rsaPrivate (kt : Nat) (material : Bytes) (x : Nat) : Nat :=
  let h := rsaLen kt / 2
  let v := fun i => ofBE (slice material (i * h) h)
  rsaCrt (v 0) (v 1) (v 2) (v 3) (v 4) x

/-- The public part of a key pair's material. -/
def publicPart (g : Gallery) (kt : Nat) (material : Bytes) : Bytes := material.drop (privateLen g kt)

/-! Edge inputs of public keys (R165). -/

/-- An Edwards point of small order. -/
def edSmall (c : EdCurve) (t : JPoint) : Bool := edEncode c (edMul c (2 ^ c.cof) t) == edEncode c (0, 1, 1)

/-- A public key of the right length is acceptable: a point on its curve; a canonical Edwards point, not of small order; an RSA key within R158; an encapsulation key that passes its modulus check. -/
def publicOk (g : Gallery) (kt : Nat) (pub : Bytes) : Bool :=
  match kt % 256 with
  | 0x01 | 0x02 | 0x03 | 0xFF => ((ecDecode (domainAt g kt).curve pub).map (ecOnCurve (domainAt g kt).curve)).getD false
  | 0x04 | 0x05 => ((edDecode (edOf kt) pub).map (fun t => !edSmall (edOf kt) t)).getD false
  | 0x10 | 0x11 | 0x12 => rsaPublicOk kt pub
  | 0x20 | 0x21 | 0x22 => true
  | _ => kemEkOk (kemOf kt) pub

/-! Random integers and primes. -/

/-- A draw of any length, in requests of at most 4,096 bytes (R278). -/
def drawLong (n len : Nat) (s : State) : Bytes × State :=
  (List.range (ceilDiv len 4096)).foldl (fun (a : Bytes × State) i =>
    let (b, s) := drawBytes n (min 4096 (len - 4096 * i)) a.2
    (a.1 ++ b, s)) ([], s)

/-- A private scalar with 64 extra random bits (FIPS 186-5 A.2.1). -/
def drawScalar (n : Nat) (d : Domain) (s : State) : Nat × State :=
  let (b, s) := drawBytes n (ecScalarLen d.curve + 8) s
  (ecScalar d.curve b, s)

/-- Miller-Rabin rounds with drawn bases, on fuel; the first failing round ends them. -/
def drawnRounds (inst p : Nat) : Nat → State → Bool × State
  | 0, s => (true, s)
  | k + 1, s =>
    let (b, s) := drawBytes inst (ceilDiv (bitLen p) 8) s
    if millerRabin p (2 + ofBE b % (p - 3)) then drawnRounds inst p k s else (false, s)

/-- Trial division by the primes below 2^16, Miller-Rabin rounds with drawn bases, and a strong Lucas test (R243). -/
def probablePrime (inst p rounds : Nat) (s : State) : Bool × State :=
  if p < 4 ∨ p % 2 = 0 ∨ !trialDivision p 65536 then (p == 2 || p == 3, s)
  else
    let (ok, s) := drawnRounds inst p rounds s
    (ok && strongLucas p, s)

end Sys2Proof.Machine
end

