-- ==== Sys2Proof/Machine/SignOps.lean ====
section
/-!
DEFINITION. The meanings of the signing and verification functions (R160 to R162, R165).
-/

namespace Sys2Proof.Machine

/-! Fields. -/

/-- The fields that signing and verification share (Tables 6-9, 6-10). -/
structure SigFields where
  hash : Nat
  mode : Nat
  scheme : Nat
  salt : Nat
  ctx : Bytes
  msg : Bytes

/-- Fields of Table 6-9. -/
def signFields (f : Bytes) : SigFields :=
  { hash := byteAt f 40, mode := byteAt f 41, scheme := byteAt f 42, salt := byteAt f 43, ctx := slice f 56 (leAt f 44 2)
    msg := slice f (56 + pad8 (leAt f 44 2)) (leAt f 48 4) }

/-- Fields of Table 6-10. -/
def verifyFields (f : Bytes) : SigFields :=
  { hash := byteAt f 44, mode := byteAt f 45, scheme := byteAt f 46, salt := byteAt f 47, ctx := slice f 64 (leAt f 48 2)
    msg := slice f (64 + pad8 (leAt f 48 2) + pad8 (leAt f 50 2) + pad8 (leAt f 52 2)) (leAt f 56 4) }

/-- PUB of Table 6-10. -/
def verifyPub (f : Bytes) : Bytes := slice f (64 + pad8 (leAt f 48 2)) (leAt f 50 2)
/-- SIG of Table 6-10. -/
def verifySig (f : Bytes) : Bytes := slice f (64 + pad8 (leAt f 48 2) + pad8 (leAt f 50 2)) (leAt f 52 2)

/-- The fields suit ECDSA or RSA: a hash in range, a digest as long as the hash's, SCHEME and SALT_LEN in range, no context. -/
def digestFieldsOk (rsa : Bool) (x : SigFields) : Bool :=
  match hashOf x.hash with
  | none => false
  | some h =>
    decide (x.mode ≤ 1) && (x.mode == 0 || x.msg.length == h.len) && x.ctx == [] &&
    (if rsa then decide (x.hash ≤ 3) && ((x.scheme == 1 && x.salt == 0) || (x.scheme == 2 && decide (x.salt ≤ h.len)))
     else x.scheme == 0 && x.salt == 0)

/-- The fields suit EdDSA or ML-DSA: a message, and a context of at most `ctxMax` bytes. -/
def messageFieldsOk (ctxMax : Nat) (x : SigFields) : Bool :=
  x.hash == 0 && x.mode == 0 && x.scheme == 0 && x.salt == 0 && decide (x.ctx.length ≤ ctxMax)

/-- The fields suit the key type (R160). -/
def sigFieldsOk (kt : Nat) (x : SigFields) : Bool :=
  match kt % 256 with
  | 0x01 | 0x02 | 0x03 | 0xFF => digestFieldsOk false x
  | 0x10 | 0x11 | 0x12 => digestFieldsOk true x
  | 0x04 => messageFieldsOk 0 x
  | _ => messageFieldsOk 255 x

/-- The digest to be signed: MSG itself, or its hash. -/
def sigDigest (x : SigFields) : Bytes := if x.mode = 1 then x.msg else (hashAt x.hash).run x.msg

/-! Signing. -/

/-- The checks of a signing function: the domain of an EC key, then the fields. -/
def checkSign (c : Ctx) (_ : State) : Option Resp :=
  let kt := (c.key 0).keyType
  let bad := if ecTypes.contains (kt % 256) then
      match domainOf c.gal kt with
      | .bad st => some (statusOnly st)
      | .curve _ => none
    else none
  orElseResp bad (refuse (!sigFieldsOk kt (signFields c.f)) Status.paramRejected)

/-- The response of a signature (R160). -/
def signResp (sig : Bytes) : Resp := okResp (leBytes 4 sig.length ++ zeros 4 ++ sig)

/-- A private value out of range at use: only a fault shows it (R165). -/
def privateFault : Resp := statusOnly Status.engineFault

/-- Random ECDSA: candidates k until r and s are non-zero (R164), on fuel. -/
def drawnEcdsa (c : Ctx) (d : Domain) (x : Nat) (digest : Bytes) : Nat → State → Option (Nat × Nat) × State
  | 0, s => (none, s)
  | fuel + 1, s =>
    let (k, s) := drawScalar (drawInstance c) d s
    match ecdsaSignWith d.curve x digest k with
    | some rs => (some rs, s)
    | none => drawnEcdsa c d x digest fuel s

/-- ECDSA_SIGN: FIPS 186-5, deterministic under FN_FLAGS bit 0. -/
def runEcdsaSign (c : Ctx) (s : State) : FnResult :=
  let k := c.key 0
  let d := domainAt c.gal k.keyType
  let s := useKeyDomain c.g k.keyType s
  let x := ecPrivate d k.material
  let f := signFields c.f
  let h := hashAt f.hash
  if !scalarOk d x then plain privateFault s
  else
    let (rs, s) := if fnBit0 c.f then (ecdsaDeterministic d.curve x (sigDigest f) h.hmac h.len, s)
      else drawnEcdsa c d x (sigDigest f) 64 s
    match rs with
    | some v => plain (signResp (ecdsaEncode d.curve v)) s
    | none => plain privateFault s

/-- EDDSA_SIGN: pure Ed25519 or Ed448. -/
def runEddsaSign (c : Ctx) (s : State) : FnResult :=
  let k := c.key 0
  let e := edOf k.keyType
  let f := signFields c.f
  plain (signResp (edSign e (k.material.take e.len) f.ctx f.msg)) s

/-- RSA_SIGN: PKCS #1 v1.5, or PSS with a drawn salt. -/
def runRsaSign (c : Ctx) (s : State) : FnResult :=
  let k := c.key 0
  let f := signFields c.f
  let n := rsaLen k.keyType
  let (salt, s) := if f.scheme = 2 ∧ f.salt ≠ 0 then drawBytes (drawInstance c) f.salt s else ([], s)
  let em := if f.scheme = 1 then pkcs1Encode f.hash (sigDigest f) n else pssEncode (hashAt f.hash).run (sigDigest f) salt (8 * n - 1)
  plain (signResp (beBytes n (rsaPrivate k.keyType k.material (ofBE em)))) s

/-- MLDSA_SIGN: pure ML-DSA, hedged unless DETERMINISTIC. -/
def runMldsaSign (c : Ctx) (s : State) : FnResult :=
  let k := c.key 0
  let f := signFields c.f
  let (rnd, s) := if fnBit0 c.f then (zeros 32, s) else drawBytes (drawInstance c) 32 s
  plain (signResp (dsaSign (dsaOf k.keyType) (k.material.take 32) f.ctx f.msg rnd)) s

/-- ECDSA_SIGN (R160). -/
def execEcdsaSign (cell : Fin 128) (s : State) : Host.Outcome State Fault Refusal :=
  .next (runFn cell 0x0A01 checkSign runEcdsaSign s)

/-- EDDSA_SIGN (R160). -/
def execEddsaSign (cell : Fin 128) (s : State) : Host.Outcome State Fault Refusal :=
  .next (runFn cell 0x0A03 checkSign runEddsaSign s)

/-- RSA_SIGN (R160). -/
def execRsaSign (cell : Fin 128) (s : State) : Host.Outcome State Fault Refusal :=
  .next (runFn cell 0x0A05 checkSign runRsaSign s)

/-- MLDSA_SIGN (R160). -/
def execMldsaSign (cell : Fin 128) (s : State) : Host.Outcome State Fault Refusal :=
  .next (runFn cell 0x0A07 checkSign runMldsaSign s)

/-! Verification. -/

/-- The key type of a verification: the Vitrine key's, or KEY_TYPE. -/
def verifyType (c : Ctx) : Nat := ((c.key? 0).map (·.keyType)).getD (leAt c.f 40 4)

/-- The public key of a verification. -/
def verifyKey (c : Ctx) : Bytes := ((c.key? 0).map (·.material)).getD (verifyPub c.f)

/-- An RSA input is 0 or at least n (R165). -/
def rsaInputBad (kt : Nat) (pub x : Bytes) : Bool := ofBE x == 0 || decide (ofBE x ≥ (rsaPublic kt pub).1)

/-- The checks of a verification function whose key types are `types`: the type, the domain, the fields, the lengths, the edge inputs. -/
def checkVerify (types : List Nat) (c : Ctx) (_ : State) : Option Resp :=
  let f := c.f
  let kt := verifyType c
  let held := (c.key? 0).isSome
  if held && leAt f 40 4 != 0 && leAt f 40 4 != kt then some (statusOnly Status.keyUsage)
  else if !types.contains (kt % 256) || (kt % 256 != 0xFF && kt / 256 != 0) then some (statusOnly Status.paramRejected)
  else
    let bad := if ecTypes.contains (kt % 256) then
        match domainOf c.gal kt with
        | .bad st => some (statusOnly st)
        | .curve _ => none
      else none
    match bad with
    | some r => some r
    | none =>
      if !sigFieldsOk kt (verifyFields f) then some (statusOnly Status.paramRejected)
      else if (if held then leAt f 50 2 != 0 else leAt f 50 2 != publicLen c.gal kt) || leAt f 52 2 != signatureLen c.gal kt then
        some (statusOnly Status.badLength)
      else refuse (!publicOk c.gal kt (verifyKey c) || (rsaTypes.contains kt && rsaInputBad kt (verifyKey c) (verifySig f))) Status.paramRejected

/-- Whether a signature verifies. -/
def verifies (g : Gallery) (kt : Nat) (pub : Bytes) (x : SigFields) (sig : Bytes) : Bool :=
  match kt % 256 with
  | 0x01 | 0x02 | 0x03 | 0xFF =>
    let d := (domainAt g kt).curve
    let n := ecScalarLen d
    ((ecDecode d pub).map (fun q => ecdsaVerify d q (sigDigest x) (ofBE (sig.take n)) (ofBE (sig.drop n)))).getD false
  | 0x04 | 0x05 => edVerify (edOf kt) pub x.ctx x.msg sig
  | 0x10 | 0x11 | 0x12 =>
    let (n, e) := rsaPublic kt pub
    let em := beBytes (rsaLen kt) (powMod (ofBE sig) e n)
    if x.scheme = 1 then em == pkcs1Encode x.hash (sigDigest x) (rsaLen kt)
    else pssVerify (hashAt x.hash).run (sigDigest x) em (8 * rsaLen kt - 1) x.salt
  | _ => dsaVerify (dsaOf kt) pub x.ctx x.msg sig

/-- A verification function returns no payload. -/
def runVerify (c : Ctx) (s : State) : FnResult :=
  let kt := verifyType c
  let s := useKeyDomain c.g kt s
  plain (statusOnly (if verifies c.gal kt (verifyKey c) (verifyFields c.f) (verifySig c.f) then Status.ok else Status.verifyFailed)) s

/-- ECDSA_VERIFY (R161, R165). -/
def execEcdsaVerify (cell : Fin 128) (s : State) : Host.Outcome State Fault Refusal :=
  .next (runFn cell 0x0A02 (checkVerify ecTypes) runVerify s)

/-- EDDSA_VERIFY (R161, R165). -/
def execEddsaVerify (cell : Fin 128) (s : State) : Host.Outcome State Fault Refusal :=
  .next (runFn cell 0x0A04 (checkVerify edTypes) runVerify s)

/-- RSA_VERIFY (R161, R165). -/
def execRsaVerify (cell : Fin 128) (s : State) : Host.Outcome State Fault Refusal :=
  .next (runFn cell 0x0A06 (checkVerify rsaTypes) runVerify s)

/-- MLDSA_VERIFY (R161, R165). -/
def execMldsaVerify (cell : Fin 128) (s : State) : Host.Outcome State Fault Refusal :=
  .next (runFn cell 0x0A08 (checkVerify dsaTypes) runVerify s)

end Sys2Proof.Machine
end

