-- ==== Sys2Proof/Machine/AgreeOps.lean ====
section
/-!
DEFINITION. The meanings of key agreement, KEM, RSA-OAEP, loadable curves, random numbers and remote key loading (R159, R163, R165, R166, R139, R243).
-/

namespace Sys2Proof.Machine

/-! Agreement with a Vitrine key (Table 6-11, first layout). -/

/-- PUB or ciphertext of the layouts with the template at 56. -/
def agreePub (f : Bytes) (lenAt : Nat) : Bytes := slice f 72 (leAt f lenAt 2)

/-- INFO or LABEL after it. -/
def agreeInfo (f : Bytes) (pubAt infoAt : Nat) : Bytes := slice f (72 + pad8 (leAt f pubAt 2)) (leAt f infoAt 2)

/-- KDF_ALG and INFO_LEN are in range. -/
def kdfFieldsOk (f : Bytes) (algAt infoAt : Nat) : Bool :=
  decide (1 ≤ byteAt f algAt) && decide (byteAt f algAt ≤ 3) && decide (leAt f infoAt 2 ≤ 1024)

/-- The one-step KDF of R163. -/
def agreedKey (alg : Nat) (z info : Bytes) (n : Nat) : Bytes := kdfOneStep (hashAt alg).run (hashAt alg).len z info n

/-- The domain of an EC type, refused as R165 says. -/
def checkDomain (g : Gallery) (kt : Nat) : Option Resp :=
  match domainOf g kt with
  | .bad st => some (statusOnly st)
  | .curve _ => none

/-- The shared value of ECDH, with the cofactor on a loaded curve that has one (R163). -/
def sharedSecret (d : Domain) (x : Nat) (pub : Bytes) : Option Bytes :=
  (ecDecode d.curve pub).bind (fun q => ecdhShared d.curve (x * d.cofactor) q)

/-- The checks of ECDH and MLKEM_DECAPS. -/
def checkAgree (c : Ctx) (_ : State) : Option Resp :=
  let f := c.f
  let kt := (c.key 0).keyType
  let ec := ecTypes.contains (kt % 256)
  match (if ec then checkDomain c.gal kt else none) with
  | some r => some r
  | none =>
    if !kdfFieldsOk f 48 52 then some (statusOnly Status.paramRejected)
    else if leAt f 50 2 ≠ (if ec then publicLen c.gal kt else signatureLen c.gal kt) then some (statusOnly Status.badLength)
    else orElseResp (refuse (ec && !publicOk c.gal kt (agreePub f 50)) Status.paramRejected) (checkTemplate f (c.key 1))

/-- ECDH: Z is the x coordinate of the shared point. -/
def runEcdh (c : Ctx) (s : State) : FnResult :=
  let f := c.f
  let k := c.key 0
  let d := domainAt c.gal k.keyType
  let s := useKeyDomain c.g k.keyType s
  let x := ecPrivate d k.material
  if !scalarOk d x then plain privateFault s
  else match sharedSecret d x (agreePub f 50) with
    | none => plain (statusOnly Status.paramRejected) s
    | some z => plain (outputReplay f (c.key 1) (agreedKey (byteAt f 48) z (agreeInfo f 50 52) (templateBytes f))) s

/-- MLKEM_DECAPS: Z is the shared key of FIPS 203, implicit rejection included. -/
def runDecaps (c : Ctx) (s : State) : FnResult :=
  let f := c.f
  let k := c.key 0
  let p := kemOf k.keyType
  let (_, dk) := kemKeyGen p (k.material.take 32) ((k.material.drop 32).take 32)
  plain (outputReplay f (c.key 1) (agreedKey (byteAt f 48) (kemDecaps p dk (agreePub f 50)) (agreeInfo f 50 52) (templateBytes f))) s

/-- ECDH (R163). -/
def execEcdh (cell : Fin 128) (s : State) : Host.Outcome State Fault Refusal :=
  .next (runFn cell 0x0B01 checkAgree runEcdh s)

/-- MLKEM_DECAPS (R163). -/
def execMlkemDecaps (cell : Fin 128) (s : State) : Host.Outcome State Fault Refusal :=
  .next (runFn cell 0x0B04 checkAgree runDecaps s)

/-! Agreement with an ephemeral key (Table 6-11, second layout). -/

/-- The checks of ECDH_EPHEMERAL and MLKEM_ENCAPS. -/
def checkEphemeral (types : List Nat) (c : Ctx) (_ : State) : Option Resp :=
  let f := c.f
  let kt := leAt f 40 4
  if !types.contains (kt % 256) || (kt % 256 != 0xFF && kt / 256 != 0) then some (statusOnly Status.paramRejected)
  else match (if ecTypes.contains (kt % 256) then checkDomain c.gal kt else none) with
    | some r => some r
    | none =>
      if !kdfFieldsOk f 44 48 then some (statusOnly Status.paramRejected)
      else if leAt f 46 2 ≠ publicLen c.gal kt then some (statusOnly Status.badLength)
      else orElseResp (refuse (!publicOk c.gal kt (agreePub f 46)) Status.paramRejected) (checkTemplate f (c.key 0))

/-- ECDH_EPHEMERAL: a drawn key pair, its public key the extra output. -/
def runEphemeral (c : Ctx) (s : State) : FnResult :=
  let f := c.f
  let kt := leAt f 40 4
  let d := domainAt c.gal kt
  let (x, s) := drawScalar (drawInstance c) d (useKeyDomain c.g kt s)
  match sharedSecret d x (agreePub f 46), ecPublic d.curve x with
  | some z, some q =>
    let (r, s) := outputDrawn c (c.key 0) (agreedKey (byteAt f 44) z (agreeInfo f 46 48) (templateBytes f)) (ecEncode d.curve q) s
    plain r s
  | _, _ => plain (statusOnly Status.paramRejected) s

/-- MLKEM_ENCAPS: a drawn message, the ciphertext the extra output. -/
def runEncaps (c : Ctx) (s : State) : FnResult :=
  let f := c.f
  let (m, s) := drawBytes (drawInstance c) 32 s
  let (z, ct) := kemEncaps (kemOf (leAt f 40 4)) (agreePub f 46) m
  let (r, s) := outputDrawn c (c.key 0) (agreedKey (byteAt f 44) z (agreeInfo f 46 48) (templateBytes f)) ct s
  plain r s

/-- ECDH_EPHEMERAL (R163). -/
def execEcdhEphemeral (cell : Fin 128) (s : State) : Host.Outcome State Fault Refusal :=
  .next (runFn cell 0x0B02 (checkEphemeral ecTypes) runEphemeral s)

/-- MLKEM_ENCAPS (R163). -/
def execMlkemEncaps (cell : Fin 128) (s : State) : Host.Outcome State Fault Refusal :=
  .next (runFn cell 0x0B03 (checkEphemeral kemTypes) runEncaps s)

/-! RSA_OAEP_DECRYPT. -/

/-- The checks of RSA_OAEP_DECRYPT. -/
def checkOaep (c : Ctx) (_ : State) : Option Resp :=
  let f := c.f
  let k := c.key 0
  if !((byteAt f 48 == 1 || byteAt f 48 == 2) && decide (leAt f 52 2 ≤ 256)) then some (statusOnly Status.paramRejected)
  else if leAt f 50 2 ≠ rsaLen k.keyType then some (statusOnly Status.badLength)
  else orElseResp (refuse (rsaInputBad k.keyType (publicPart c.gal k.keyType k.material) (agreePub f 50)) Status.paramRejected)
    (checkTemplate f (c.key 1))

/-- RSA_OAEP_DECRYPT: the recovered value is the key. -/
def runOaep (c : Ctx) (s : State) : FnResult :=
  let f := c.f
  let k := c.key 0
  let h := hashAt (byteAt f 48)
  let em := beBytes (rsaLen k.keyType) (rsaPrivate k.keyType k.material (ofBE (agreePub f 50)))
  match oaepDecode h.run h.len (agreeInfo f 50 52) em with
  | some m => if m.length = templateBytes f then plain (outputReplay f (c.key 1) m) s else plain (statusOnly Status.verifyFailed) s
  | none => plain (statusOnly Status.verifyFailed) s

/-- RSA_OAEP_DECRYPT (R163). -/
def execRsaOaepDecrypt (cell : Fin 128) (s : State) : Host.Outcome State Fault Refusal :=
  .next (runFn cell 0x0B05 checkOaep runOaep s)

/-! CURVE_LOAD and CURVE_QUERY (R159, R243). -/

/-- Value `i` of a CURVE_LOAD frame. -/
def loadedValue (f : Bytes) (i : Nat) : Bytes :=
  let l := curveValueLen (leAt f 36 2)
  slice f (48 + i * pad8 l) l

/-- The checks of CURVE_LOAD that store nothing. -/
def checkCurveLoad (c : Ctx) (s : State) : Option Resp :=
  let f := c.f
  let b := leAt f 36 2
  let slot := leAt f 32 3
  let g := (gal s c.g).getD c.gal
  if g.damaged.contains slot then some (statusOnly Status.engineFault)
  else refuse (!(decide (192 ≤ b) && decide (b ≤ 1024) && decide (1 ≤ leAt f 38 2) && decide (leAt f 38 2 ≤ 8)) || reservedSlot c.g slot ||
    (recordAt g slot).isSome || (List.range 6).any (fun i => decide (ofBE (loadedValue f i) ≥ 2 ^ (b + 1)))) Status.paramRejected

/-- 2√p as the integer square root of 4p, rounded up. -/
def hasseBound (p : Nat) : Nat := let r := Nat.sqrt (4 * p); if r * r = 4 * p then r else r + 1

/-- |h n - (p + 1)| is within the Hasse bound. -/
def hasseOk (h n p : Nat) : Bool := decide (h * n ≤ p + 1 + hasseBound p) && decide (p + 1 ≤ h * n + hasseBound p)

/-- No power p^k is 1 modulo n for k from 1 to 20. -/
def embeddingOk (p n : Nat) : Bool := (List.range 20).all (fun k => powMod p (k + 1) n != 1 % n)

/-- The curve checks in the order of R243: the bit of the first that fails. -/
def curveChecks (inst fieldBits h : Nat) (c : Curve) (s : State) : Option Nat × State :=
  if !(decide (c.a < c.p) && decide (c.b < c.p)) then (some 1, s)
  else if (4 * c.a * c.a * c.a + 27 * c.b * c.b) % c.p = 0 then (some 2, s)
  else if c.n = c.p then (some 6, s)
  else if bitLen c.p ≠ fieldBits then (some 0, s)
  else
    let (pOk, s) := probablePrime inst c.p 64 s
    if !pOk then (some 0, s)
    else if !ecOnCurve c (c.gx, c.gy) then (some 4, s)
    else
      let (nOk, s) := probablePrime inst c.n 64 s
      if !(nOk && hasseOk h c.n c.p) then (some 3, s)
      else if (ecAffine c (ecMul c c.n (ecG c))).isSome then (some 5, s)
      else if !embeddingOk c.p c.n then (some 7, s)
      else (none, s)

/-- CURVE_LOAD: the record is stored with the outcome of its checks. -/
def runCurveLoad (c : Ctx) (s : State) : FnResult :=
  let f := c.f
  let slot := leAt f 32 3
  let b := leAt f 36 2
  let v := fun i => ofBE (loadedValue f i)
  let cv : Curve := { p := v 0, a := v 1, b := v 2, gx := v 3, gy := v 4, n := v 5 }
  let r := plainRecord 6 c.g slot ((List.range 6).flatMap (loadedValue f))
  if !(((gal s c.g).map (fun g => slotQuotaOk g slot r)).getD false) then quotaRefused c.g s
  else
    let (bad, s) := curveChecks (drawInstance c) b (leAt f 38 2) cv s
    let verdict := [BitVec.ofNat 8 (b2n bad.isSome), BitVec.ofNat 8 ((bad.map (2 ^ ·)).getD 0)]
    let r := { r with keyId := leBytes 2 b ++ leBytes 2 (leAt f 38 2) ++ verdict }
    let s := putRecordAt c.g slot (some r) s
    (okResp (verdict ++ zeros 6), [.vrecord c.g slot (some r)], if bad.isSome then s else useDomain c.g slot b s)

/-- CURVE_LOAD (R159, R243). -/
def execCurveLoad (cell : Fin 128) (s : State) : Host.Outcome State Fault Refusal :=
  .next (runFn cell 0x0B10 checkCurveLoad runCurveLoad s)

/-- The curve record that CURVE_QUERY names, failed ones included. -/
def queriedCurve (c : Ctx) : Option VRecord := (recordAt c.gal (leAt c.f 32 3)).bind (fun r => if r.kind = 6 then some r else none)

/-- The checks of CURVE_QUERY. -/
def checkCurveQuery (c : Ctx) (_ : State) : Option Resp :=
  if c.gal.damaged.contains (leAt c.f 32 3) then some (statusOnly Status.engineFault)
  else refuse ((queriedCurve c).isNone) Status.keyNotFound

/-- CURVE_QUERY: FIELD_BITS, COFACTOR, RESULT and the mask, then the digest of the six values. -/
def runCurveQuery (c : Ctx) (s : State) : FnResult :=
  let r := (queriedCurve c).getD (plainRecord 6 0 0 [])
  plain (okResp (slice r.keyId 0 8 ++ sha256 r.material)) s

/-- CURVE_QUERY (R159). -/
def execCurveQuery (cell : Fin 128) (s : State) : Host.Outcome State Fault Refusal :=
  .next (runFn cell 0x0B11 checkCurveQuery runCurveQuery s)

/-! RANDOM_BYTES (R166). -/

/-- The checks of RANDOM_BYTES. -/
def checkRandom (c : Ctx) (_ : State) : Option Resp :=
  refuse (!(decide (1 ≤ leAt c.f 32 4) && decide (leAt c.f 32 4 ≤ 4096))) Status.paramRejected

/-- RANDOM_BYTES: COUNT bytes of the gallery's instance. -/
def runRandom (c : Ctx) (s : State) : FnResult :=
  let (b, s) := drawBytes (drawInstance c) (leAt c.f 32 4) s
  plain (okResp b) s

/-- RANDOM_BYTES (R166). -/
def execRandomBytes (cell : Fin 128) (s : State) : Host.Outcome State Fault Refusal :=
  .next (runFn cell 0x0C01 checkRandom runRandom s)

/-! RKL_EXPORT (R139). -/

/-- EME-OAEP encoding of a message with a seed. -/
def oaepEncode (h : HashAlg) (k : Nat) (label msg seed : Bytes) : Bytes :=
  let db := h.run label ++ zeros (k - msg.length - 2 * h.len - 2) ++ [1#8] ++ msg
  let mdb := xorBytes db (mgf1 h.run h.len seed (k - h.len - 1))
  [0#8] ++ xorBytes seed (mgf1 h.run h.len mdb h.len) ++ mdb

/-- The key type that DEV_ALG stands for. -/
def deviceType (a : Nat) : Nat :=
  match a with
  | 1 => 0x10
  | 2 => 0x11
  | 3 => 0x01
  | _ => 0x02

/-- DEV_KEY. -/
def deviceKey (f : Bytes) : Bytes := slice f 80 (leAt f 74 2)
/-- DEV_SIG. -/
def deviceSig (f : Bytes) : Bytes := slice f (80 + pad8 (leAt f 74 2)) (leAt f 76 2)

/-- How the device authority signs: the SHA-2 hash of its curve's size, a loaded curve's too, or RSA-PSS with SHA-256 and a 32-byte salt (log 14). -/
def authoritySig (g : Gallery) (kt : Nat) (msg : Bytes) : SigFields :=
  { hash := (if ecTypes.contains (kt % 256) then
      let b := bitLen (domainAt g kt).curve.p
      if b ≤ 256 then 1 else if b ≤ 384 then 2 else 3
    else 1), mode := 0, scheme := if rsaTypes.contains kt then 2 else 0, salt := if rsaTypes.contains kt then 32 else 0, ctx := [], msg := msg }

/-- The checks of RKL_EXPORT before any signature. -/
def checkRkl (c : Ctx) (_ : State) : Option Resp :=
  let f := c.f
  let a := byteAt f 72
  let kt := deviceType a
  match ksnOf f 56 (c.key 0).alg with
  | none => some (statusOnly Status.paramRejected)
  | some n =>
    if ((c.key 1).keyType % 256 == 0xFF) && (checkDomain c.gal (c.key 1).keyType).isSome then checkDomain c.gal (c.key 1).keyType
    else if !(decide (1 ≤ a) && decide (a ≤ 4) && n.counter == 0 && keyTypeOk (c.key 0) n (byteAt f 73)) then some (statusOnly Status.paramRejected)
    else if leAt f 74 2 ≠ publicLen c.gal kt ∨ leAt f 76 2 ≠ signatureLen c.gal (c.key 1).keyType then some (statusOnly Status.badLength)
    else if !publicOk c.gal kt (deviceKey f) then some (statusOnly Status.paramRejected)
    else refuse ((c.key 0).exportable != 69) Status.keyUsage

/-- TRANSPORT and the transport key: drawn and encrypted to an RSA device, agreed with an elliptic-curve device. -/
def transportOf (c : Ctx) (s : State) : Option (Bytes × Bytes) × State :=
  let f := c.f
  let kt := deviceType (byteAt f 72)
  if kt ≥ 0x10 then
    let (tk, s) := drawBytes (drawInstance c) 32 s
    let (seed, s) := drawBytes (drawInstance c) 32 s
    let (n, e) := rsaPublic kt (deviceKey f)
    (some (beBytes (rsaLen kt) (powMod (ofBE (oaepEncode (hashAt 1) (rsaLen kt) [] tk seed)) e n), tk), s)
  else
    let d := domainAt c.gal kt
    let (x, s) := drawScalar (drawInstance c) d s
    match sharedSecret d x (deviceKey f), ecPublic d.curve x with
    | some z, some q => (some (ecEncode d.curve q, kdfOneStep sha384 48 z (ascii "LX96-RKL" ++ slice f 56 16) 32), s)
    | _, _ => (none, s)

/-- RKL_EXPORT: the device's signature verified, the initial key wrapped under the transport key, both signed. -/
def runRkl (c : Ctx) (s : State) : FnResult :=
  let f := c.f
  let k := c.key 0
  let auth := c.key 1
  let host := c.key 2
  let s := useKeyDomain c.g auth.keyType s
  if (rsaTypes.contains auth.keyType && rsaInputBad auth.keyType auth.material (deviceSig f)) ||
      !verifies c.gal auth.keyType auth.material (authoritySig c.gal auth.keyType (slice f 72 1 ++ deviceKey f)) (deviceSig f) then
    plain (statusOnly Status.verifyFailed) s
  else
    let n := (ksnOf f 56 k.alg).getD noKsn
    let s := cacheInitial c n s
    match transportOf c s with
    | (none, s) => plain (statusOnly Status.paramRejected) s
    | (some (transport, tk), s) =>
      let ik := initialOf k n
      let (pad, s) := drawPad c 65 ik.length s
      let block := wrapBlock 65 tk (initialHeader k n (256 * 48 + 48)) ik pad
      let d : Domain := { curve := p384, cofactor := 1 }
      let x := ecPrivate d host.material
      if !scalarOk d x then plain privateFault s
      else
        match drawnEcdsa c d x (sha384 (transport ++ block)) 64 s with
        | (none, s) => plain privateFault s
        | (some rs, s) =>
          let sig := ecdsaEncode p384 rs
          plain (okResp (leBytes 2 transport.length ++ leBytes 2 block.length ++ leBytes 2 sig.length ++ zeros 2 ++
            padTo 8 transport ++ padTo 8 block ++ padTo 8 sig)) s

/-- RKL_EXPORT (R139). -/
def execRklExport (cell : Fin 128) (s : State) : Host.Outcome State Fault Refusal :=
  .next (runFn cell 0x0603 checkRkl runRkl s)

end Sys2Proof.Machine
end

