-- ==== Sys2Proof/Machine/Roles.lean ====
section
/-!
DEFINITION. Withdrawal, the erase line, the end of service (R199, R286, R297, R340, R343).
-/

namespace Sys2Proof.Machine

/-! Withdrawal (R297). -/

/-- Withdrawal begins: originating commands are taken no more, and the deltas sent are awaited. -/
def beginWithdraw (s : State) : State :=
  if !paired s || s.pair.role == .withdrawn || s.pair.withdrawing.isSome then s
  else { s with pair := { s.pair with withdrawing := some s.now }, doc := { s.doc with blockOriginating := true } }

/-- Discards every command not yet released: the member releases nothing more; the functions that each member executes itself stay (R297, R350, R368). -/
def discardUnreleased (s : State) : State :=
  let gone := s.doc.descs.filter (fun p => p.2.st != .released && !notMirrored p.2.function)
  let s := gone.foldl (fun s p => freeCopies p.1 p.2 s) s
  let s := { s with doc := { s.doc with
    descs := s.doc.descs.filter (fun p => p.2.st == .released || notMirrored p.2.function), flows := mmap (fun f => { f with holds := 0 }) s.doc.flows } }
  gone.foldl (fun s p => dropHolds p.1 s) s

/-- What the member has released and not yet published goes too: a member that withdraws publishes nothing further (R303, R332). -/
def dropUnpublished (s : State) : State :=
  let goes (r : Released) : Bool := !((desc s r.ticket).map (fun d => notMirrored d.function)).getD false
  let gone := s.fab.windows.flatMap (fun w => w.2.streams.flatMap (fun st => (st.2.waiting.filter goes).map (·.ticket)))
  let ws := mmap (fun (w : Window) => { w with streams := mmap (fun (st : Stream) =>
    { st with waiting := st.waiting.filter (fun r => !goes r), respStall := st.respStall && st.waiting.any (fun r => !goes r) }) w.streams }) s.fab.windows
  gone.foldl (fun s t => freeDesc t s) { s with fab := { s.fab with windows := ws } }

/-- Withdrawal ends: WITHDRAW is sent, the heartbeat stops, the term stays; the member releases and publishes nothing more (R286, R297, R332). -/
def endWithdraw (s : State) : State :=
  let s := sendPartner 0 .withdraw s
  let s := { s with pair := { s.pair with withdrawing := none, dualAct := false, resync := none }, doc := { s.doc with blockOriginating := false } }
  dropUnpublished (discardUnreleased (setRole .withdrawn s.pair.term causeWithdraw s))

/-! The erase line (R199, R340). -/

/-- An engine's keys, round keys, context words and mask seeds after the erase line. -/
def eraseEngine (e : Engine) : Engine :=
  { e with keys := [], ctx := List.replicate 8 0, busy := none, pendingLoad := none, nonceIv := none, scratch := [], seedReady := false, seedBlocks := 0, refilling := false, seed := [], spare := [] }

/-- A PK unit's operand memory, residues and accumulator after the erase line (R241). -/
def erasePku (u : Pku) : Pku := { u with slots := [], residues := [], acc := 0, qpath := [], dma := none }

/-- Every on-die key store holds zero, and what GDDR6 holds under the working key is lost: operations with their release keys among it (R152, R154, R199, R340). -/
def eraseKeys (s : State) : State :=
  let ws := s.pow.wings.map (fun (p : Nat × Wing) => (p.1, { p.2 with cen := eraseEngine p.2.cen, hsu := eraseEngine p.2.hsu, pku := erasePku p.2.pku }))
  let ports := s.pair.ports.map (fun (p : Nat × SpanPort) => (p.1, { p.2 with hopKeys := [], ephemeral := [], auth := false }))
  let wins := s.fab.windows.map (fun (p : Nat × Window) =>
    (p.1, { p.2 with streams := p.2.streams.map (fun (q : Nat × Stream) => (q.1, { q.2 with sealKeys := none })) }))
  let rng := { s.rng with drbgs := [], pool := [], queue := [], sources := s.rng.sources.map (fun (p : Nat × Source) => (p.1, { p.2 with phase := .stopped, lfsr := 0, last := none, run := 0 })) }
  { s with
    pow := { s.pow with wings := ws }
    pair := { s.pair with ports := ports, linkUp := false, farKeys := [] }
    fab := { s.fab with windows := wins }
    rng := rng
    vit := { s.vit with
      galleries := mmap (fun g => { g with ops := [], journal := [], journalAt := 0 }) s.vit.galleries
      cache := [], km := [], workingKey := [], meterStore := [], meterToArchive := [], meterWaiting := []
      custody := { s.vit.custody with components := [] } } }

/-- BBRAM after its array reset: the tamper block's clears the validity mark, the FATAL handler's keeps it and sets the flag beside it (R330, R340, R363). -/
def clearBbram (byFatal : Bool) (b : Bbram) : Bbram :=
  { valid := b.valid && byFatal, fatalErased := byFatal, lost := true }

/-- The erase line acts: key stores and BBRAM (R199). -/
def eraseLine (byFatal : Bool) (s : State) : State := { eraseKeys s with bb := clearBbram byFatal s.bb }

/-! The end of service. -/

/-- Holds PAIR_HB_OUT low and, with the pair link up, sends WITHDRAW at once; the member is out until its next START (R327, R330, R343). -/
def withdrawAtOnce (s : State) : State :=
  if !paired s then s
  else
    let s := sendPartner 0 .withdraw s
    let s := { s with pair := { s.pair with withdrawing := none, dualAct := false, resync := none, outUntilStart := true } }
    setRole .withdrawn s.pair.term causeWithdraw s

/-- Staging stops, and the slot being written may stay incomplete (R401, R417, Table 17-7). -/
def stopStaging (s : State) : State := { s with cur := { s.cur with update := none } }

/-- The load in progress ends with its ceremony: at once, or when the COMPONENT in service has completed (R203, R206). -/
def destroyLoad (s : State) : State :=
  if componentInService s none then { s with vit := { s.vit with custody := { s.vit.custody with dying := true } } } else dropLoad s

/-- Closes a ceremony; the components of an unfinished load are destroyed, and event 39 latches (R200, R201, R203). -/
def closeCeremony (s : State) : State :=
  if !s.pow.ceremony then s
  else
    let s := withMode (fun p => { p with ceremony := false }) s
    latchEvent 39 (destroyLoad s)

end Sys2Proof.Machine
end

