-- ==== Sys2Proof/Machine/Handlers.lean ====
section
/-!
DEFINITION. The error handlers of the four scopes, and the meanings of the error commands (spec 13).
-/

namespace Sys2Proof.Machine

/-! Records. -/

/-- DATA of an error handler's record: code, scope, how many commands are affected, how many steps of HALTED commands stand, and the codes of the MODULE errors folded into it; then, from the first CONT record on, gallery, window, stream and number of each affected command, and with the function of each of the first 4,096 whose step stands (R331, Table 17-3, log 107). -/
def handlerData (code scope : Nat) (folded : List Nat) (affected : List (StreamId × Nat)) (steps : List (StreamId × Nat × Nat)) : Bytes :=
  let place (p : StreamId) (q : Nat) : Bytes := leBytes 4 p.gallery ++ leBytes 2 p.fn ++ leBytes 1 p.stream ++ leBytes 6 q
  slice (leBytes 1 code ++ leBytes 1 scope ++ leBytes 4 affected.length ++ leBytes 4 steps.length ++ folded.flatMap (leBytes 1) ++ zeros 24) 0 24 ++
  affected.flatMap (fun p => place p.1 p.2) ++ (steps.take 4096).flatMap (fun p => place p.1 p.2.1 ++ leBytes 2 p.2.2)

/-- The stream and number of a ticket's command. -/
def commandAt (s : State) (t : Nat) : List (StreamId × Nat) :=
  match desc s t with
  | none => []
  | some d =>
    match mget s.doc.flows d.flow with
    | some fl => [(fl.sid, d.seq)]
    | none => []

/-- Logs a handler's record. -/
def logHandler (code scope unit : Nat) (affected : List (StreamId × Nat)) (s : State) : State :=
  logData 0x0020 unit (handlerData code scope [] affected []) s

/-- The commands not yet released. -/
def unreleased (s : State) : List (Nat × Desc) := s.doc.descs.filter (fun p => p.2.st != .released)

/-- The stream and number of each command not yet released. -/
def affectedAll (s : State) : List (StreamId × Nat) := (unreleased s).flatMap (fun p => commandAt s p.1)

/-- The originating commands about to be answered HALTED whose step stands: stream, number, function (R328, R331). `keep`: done commands keep their responses. -/
def standingSteps (keep : Bool) (s : State) : List (StreamId × Nat × Nat) :=
  ((unreleased s).filter (fun p => !(keep && p.2.st == .done) && p.2.originating && (p.2.executed || p.2.stepped != []))).flatMap
    (fun p => (commandAt s p.1).map (fun q => (q.1, q.2, p.2.function)))

/-- Logs the record of a handler of the whole module, with the codes it covers; the last is its own (R331). -/
def logModule (scope : Nat) (codes : List Nat) (affected : List (StreamId × Nat)) (steps : List (StreamId × Nat × Nat)) (s : State) : State :=
  logData 0x0020 0 (handlerData (codes.getLastD 0) scope codes.dropLast affected steps) s

/-- Every operation that spans frames ends, and its release key is destroyed (R154, R335). -/
def endAllOps (s : State) : State := { s with vit := { s.vit with galleries := mmap (fun (g : Gallery) => { g with ops := [] }) s.vit.galleries } }

/-- The wing's record of errors. -/
def wingErr (s : State) (w : Nat) : WingErr := mgetD s.err.wings w {}

/-- Changes the wing's record of errors. -/
def updWingErr (w : Nat) (f : WingErr → WingErr) (s : State) : State := { s with err := { s.err with wings := mupd s.err.wings w {} f } }

/-! FATAL (R330). -/

/-- The causes that Table 13-2 marks security-relevant. -/
def isSecurity (code : Nat) : Bool := code == 0x21 || code == 0x22 || code == 0x40 || code == 0x42

/-- The FATAL handler: the erase line where the cause is security-relevant; a pair member withdraws and goes silent, any other answers HALTED in position; event 21, the record, HALT. What was queued or in progress is folded into it (R330, R331). -/
def fatalError (code : Nat) (s : State) : State :=
  if s.pow.mode == .vault || s.pow.mode == .tampered then s
  else
    let sec := isSecurity code
    let codes := s.err.codes ++ s.err.queued.map (·.code) ++ [code]
    let affected := affectedAll s
    let steps := if paired s then [] else standingSteps false s
    let s := if paired s then dropUnpublished (withdrawAtOnce s) else s
    let s := if sec then eraseLine true s else s
    let s := endAllOps (stopStaging (closeCeremony s))
    let s := { s with err := { s.err with active := 0, erased := s.err.erased || sec, queued := [], codes := [], lastCause := code, halting := none } }
    let s := { s with pow := { s.pow with starting := false } }
    let s := setMode .halt s
    let s := if paired s then (unreleased s).foldl (fun s p => freeDesc p.1 (freeCopies p.1 p.2 s)) s else publishAll (replaceAll false Status.halted s)
    logModule 4 codes affected steps (latchEvent 21 s)

/-! MODULE (R327, R328). -/

/-- The MODULE handler: every flow is held; a pair member withdraws and stays out until its next START, one already withdrawn having nothing left to do; an unpaired module begins its contained halt. An error during either is folded into it (R319, R327, R328, R331). -/
def moduleError (code : Nat) (s : State) : State :=
  if s.pow.mode == .vault || s.pow.mode == .tampered || s.pow.mode == .halt then s
  else
    let s := latchEvent 20 { s with err := { s.err with lastCause := code, codes := s.err.codes ++ [code] } }
    if s.err.active ≥ 3 then s
    else
      let s := raiseHolds (mkeys s.doc.flows) { s with err := { s.err with active := 3 } }
      if !paired s then { s with err := { s.err with halting := some (s.now + 100000) } }
      else
        let s := { s with pair := { s.pair with outUntilStart := true } }
        if s.pair.role == .withdrawn && s.pair.withdrawing.isNone then
          lowerHolds (mkeys s.doc.flows) (logModule 3 [code] (affectedAll s) [] { s with err := { s.err with active := 0, codes := [] } })
        else beginWithdraw s

/-! WING (R325, R326). -/

/-- Wings neither quarantined nor retired (R326). -/
def wingsAvailable (s : State) : Nat := ((List.range 16).filter (fun w => !(wing s w).quarantined && !(wing s w).retired)).length

/-- The least number of wings available (R326): in ASSURANCE the 2 of R262 are among the 8. -/
abbrev minWings : Nat := 8

/-- A held engine is cleared as at a release, and the claims of its wing's cells go (R212, R227, R325). -/
def clearHeld (h : Bool) (w : Nat) (s : State) : State :=
  updEngine h w (fun e => { e with queue := [], claimedAt := [], reading := [], waitFrom := none, grants := [] })
    (if (engineOf s h w).owner.isSome then clearEngine h w s else s)

/-- The PK unit is marked DIRTY and its hold ends (R240, R325). -/
def dirtyPku (w : Nat) (s : State) : State :=
  updPku w (fun u => { u with queue := [], claimedAt := [], reading := [], grants := [], wiping := false, acc := 0, qpath := [] }) (freePku w true s)

/-- The tickets that a cell of a wing holds. -/
def wingTickets (s : State) (w : Nat) : List Nat :=
  (s.doc.descs.filter (fun p => (p.2.st == .inService || isParked p.2) && p.2.copies.any (fun c => c.cell / 8 == w && !c.complete))).map (·.1)

/-- Takes a command back from a wing and re-offers it to others; it does not count toward the limit of R323. A command whose other copy is parked stays parked (R262, R265, R325, R335). -/
def takeBack (w t : Nat) (s : State) : State :=
  match desc s t with
  | none => s
  | some d =>
    let s := freeCopies t d s
    if isParked d then updDesc t (fun d => { d with copies := [], badWings := (d.badWings ++ [w]).eraseDups }) s else reoffer t [w] s

/-- Wings neither quarantined nor retired. -/
def available (s : State) (w : Nat) : Bool := !(wing s w).quarantined && !(wing s w).retired

/-- The sources run at reduced duty while every available wing is in NAP (R269). -/
def setDuty (s : State) : State :=
  let ws := (List.range 16).filter (available s)
  { s with rng := { s.rng with dutyLow := !ws.isEmpty && ws.all (fun w => (wing s w).power == .nap) } }

/-- Retires a wing until the next START (R325). -/
def retireWing (w : Nat) (s : State) : State :=
  setDuty (updWingErr w (fun e => { e with restoring := false }) (updWing w (fun x => { x with
    quarantined := false, retired := true, power := .dark, waking := none, mem := [], hsu := { x.hsu with scratch := [] }, pku := { erasePku x.pku with dirty := true, gallery := 0xFFFFF } }) (settleWingCells w s)))

/-- Containment of a wing: no takes, engines cleared, PK unit DIRTY, tickets re-offered, event 4 + wing (R325). The third quarantine within 60 s retires it. -/
def quarantineWing (code w : Nat) (s : State) : State :=
  let e := wingErr s w
  let times := s.now :: recent 60000000000 s.now e.times
  let ts := wingTickets s w
  let held := flowsOf s ts
  let s := raiseHolds held (settleWingCells w s)
  let s := updWing w (fun x => { x with quarantined := true, waking := none }) (dirtyPku w (clearHeld true w (clearHeld false w s)))
  let s := { s with doc := { s.doc with waiting := s.doc.waiting.filter (fun c => c.cell / 8 != w) }
                    pow := { s.pow with switching := s.pow.switching.filter (· != w) } }
  let s := updWingErr w (fun e => { e with quarantines := sat 255 (e.quarantines + 1), restoring := true, lastCause := code, times := times }) s
  let affected := ts.flatMap (commandAt s)
  let s := lowerHolds held (ts.foldl (fun s t => takeBack w t s) s)
  let s := logHandler code 2 w affected (latchEvent (4 + w) s)
  offerWork (if times.length ≥ 3 then retireWing w s else setDuty s)

/-- A MODE_SET that waits to enter ASSURANCE is answered ACCESS_DENIED, and the module keeps its mode (R381). -/
def denyAssurance (s : State) : State :=
  let asked := (s.doc.modeChange.map (·.target)) == some 4
  let begun := s.pow.switchTo == some 4
  let ticket := if begun then s.pow.switchTicket else s.doc.modeChange.bind (·.ticket)
  if !asked && !begun then s
  else
    let s := { s with
      doc := { s.doc with modeChange := none, dual := s.pow.clockMode == 4 }
      pow := { s.pow with service := s.pow.clockMode, switchTo := none, switchTicket := none, switching := [], pending := false } }
    match ticket with
    | some t => answerFn t (statusOnly Status.accessDenied) [] s
    | none => s

/-- The WING handler (R325, R326, R331): an error in a wing under restoration retires it; behind a MODULE handler it is queued; too few wings left make it a MODULE error. -/
def wingError (code w : Nat) (s : State) : State :=
  let x := wing s w
  if w ≥ 16 || x.retired then s
  else if x.quarantined then retireWing w s
  else if s.err.active ≥ 3 then { s with err := { s.err with queued := s.err.queued ++ [{ code := code, scope := 2, unit := w, ticket := 0 }] } }
  else if wingsAvailable s ≤ minWings then moduleError 0x44 (denyAssurance (updWingErr w (fun e => { e with lastCause := code }) s))
  else quarantineWing code w s

/-! COMMAND (R322, R323). -/

/-- The wing of a unit: a cell 0 to 127, an engine 128 + wing, a hash unit 144 + wing, a PK unit 160 + wing. -/
def unitWing (u : Nat) : Nat := if u < 128 then u / 8 else if u < 176 then u % 16 else 16

/-- The wings on which a failing command is not offered again: those of both copies at an ASSURANCE mismatch, else the unit's (R320, R323). -/
def failingWings (s : State) (code t u : Nat) : List Nat :=
  match desc s t with
  | some d => if code = 0x09 then d.copies.map (fun c => c.cell / 8) else [unitWing u]
  | none => [unitWing u]

/-- ENGINE_FAULT at once, and the end of the operation that the frame names (R152, R323). -/
def faultAtOnce (t : Nat) (s : State) : State :=
  match desc s t with
  | none => s
  | some d => if d.st = .done ∨ d.st = .released then s else endCommand t Status.engineFault s

/-- A journal entry that fails its CRC (0x24): the resubmission that found it is answered ENGINE_FAULT, and so is every later one (log 182); a command that a cell holds ends as at any error without retry (R323). -/
def journalFault (t : Nat) (s : State) : State :=
  match desc s t with
  | none => s
  | some d =>
    match mget s.doc.flows d.flow with
    | none => faultAtOnce t s
    | some fl =>
      if !d.journaled || d.behind.isNone then faultAtOnce t s
      else
        let s := updGal fl.sid.gallery (fun g => { g with
          journal := g.journal.map (fun e => if e.sid = fl.sid ∧ e.seq = d.seq then { e with damaged := true } else e) }) s
        if d.st = .done then updDesc t (fun d => { d with resp := some (statusOnly Status.engineFault), journaled := false }) s else s

/-- A staging unit that fails under a response: a replayable command is executed again, from the start of its work; an originating one is rebuilt from its journal entry (R323). -/
def rebuildResponse (t : Nat) (s : State) : State :=
  match desc s t with
  | none => s
  | some d =>
    if d.originating then s
    else updDesc t (fun d => { d with
      st := .queued, resp := none, resp2 := none, copies := [], nonces := [], nonceTaken := 0, doneAt := none, begun := true
      changes := d.changes.filter (fun c => !isTransient c) }) s

/-- What a COMMAND-scope error does to its command; the copies of a command under dual dispatch are compared at its release (R261, R320, R323). -/
def recoverCommand (code t u : Nat) (s : State) : State :=
  match desc s t with
  | none => s
  | some d =>
    if code = 0x24 then journalFault t s
    else if d.st == .released then s
    else if code = 0x12 then (if d.resp.isSome && d.st == .done then rebuildResponse t s else faultAtOnce t s)
    else if code = 0x25 then faultAtOnce t s
    else if d.st != .inService then s
    else
      let s := if code = 0x11 then updDesc t (fun d => { d with refetch := true }) (discardWhere (fun e => e.holders.contains t) s) else s
      failCommand t (failingWings s code t u) s

/-- The COMMAND handler's work on a command: the record, the hold of its flow, the re-offer (R264, R323). -/
def handleCommand (code t u : Nat) (s : State) : State :=
  let held := flowsOf s [t]
  offerWork (lowerHolds held (recoverCommand code t u (raiseHolds held (logHandler code 1 u (commandAt s t) s))))

/-- The COMMAND handler: counted, escalated to WING at the second error of a unit within 1 s; behind a handler of higher scope it is queued, with the hold it has raised (R264, R322, R323, R331). -/
def commandError (code t u : Nat) (s : State) : State :=
  if s.pow.mode == .vault || s.pow.mode == .tampered || s.pow.mode == .halt then s
  else if code = 0x24 && paired s then moduleError code s
  else
    let w := unitWing u
    let again := s.err.byUnit.any (fun p => p.1 == u && decide (s.now < p.2 + 1000000000))
    let s := { s with err := { s.err with
      times := s.now :: recent 1000000000 s.now s.err.times
      byUnit := (u, s.now) :: s.err.byUnit.filter (fun p => decide (s.now < p.2 + 1000000000)) } }
    let s := if w < 16 then updWingErr w (fun e => { e with command := sat 0xFFFF (e.command + 1), lastCause := code }) s else s
    let s := if w < 16 then countEvent w 14 1 ((commandAt s t).head?.map (·.1.gallery)) s else s
    if w < 16 && (wing s w).quarantined then retireWing w s
    else if again && w < 16 then wingError code w s
    else if s.err.active ≥ 2 then
      raiseHolds (flowsOf s [t]) { s with err := { s.err with queued := s.err.queued ++ [{ code := code, scope := 1, unit := u, ticket := t }] } }
    else handleCommand code t u s

/-- The errors queued behind a handler are handled when it ends, in order of detection, each flow's hold with its own (R331). -/
def handleQueued (q : List QueuedError) (s : State) : State :=
  q.foldl (fun s e => if e.scope = 2 then wingError e.code e.unit s else handleCommand e.code e.ticket e.unit s) s

/-- The end of a contained halt: done responses are released, every other number is answered HALTED, open operations end, and the module enters HALT; its record lists the steps that stand (R328, R331, R335). -/
def containedHalt (s : State) : State :=
  let steps := standingSteps true s
  let affected := affectedAll s
  let codes := s.err.codes
  let queued := s.err.queued
  let s := endAllOps (stopStaging (closeCeremony s))
  let s := { s with
    err := { s.err with halting := none, active := 0, queued := [], codes := [] }
    pow := { s.pow with starting := false } }
  let s := setMode .halt s
  let s := publishAll (replaceAll true Status.halted s)
  handleQueued queued (logModule 3 codes affected steps s)

/-! The meanings. -/

/-- The scope of a code (Table 13-2) is its row's: a code of another scope names no such error. -/
def isCommandCode (code : Nat) : Bool := decide (1 ≤ code ∧ code ≤ 5) || decide (7 ≤ code ∧ code ≤ 9) || code == 0x11 || code == 0x12 || code == 0x24 || code == 0x25

/-- COMMAND_ERROR (R323). -/
def execCommandError (code : Nat) (ticket : Fin 65536) (unit : Nat) (s : State) : Host.Outcome State Fault Refusal :=
  .next (if isCommandCode code then commandError code ticket unit s else s)

/-- Every copy is complete: the command is done; responses that disagree are error 0x09, whose unit is no one cell's (R261, R323, Table 13-2). -/
def completeCommand (t : Nat) (s : State) : State :=
  match desc s t with
  | some d => if copiesAgree d then finish t s else commandError 0x09 t 176 s
  | none => s

/-- DOC_DONE_COMPLETE: the response lies in staging, and the command is done when every copy is complete (R256, R261). -/
def execDocDoneComplete (cell : Fin 128) (ticket : Fin 65536) (s : State) : Host.Outcome State Fault Refusal :=
  if (cellRegs s cell).held ≠ some ticket.val then .next (ignoredDone cell ticket s)
  else match desc s ticket with
    | none => .next (freeCell cell s)
    | some d =>
      let (d, s) := stagedResponse (isSecondary d cell) d s
      let (d', all) := completeCopy cell d
      let s := countFunction cell d (freeCell cell (updDesc ticket (fun _ => d') s))
      .next (offerWork (if all then completeCommand ticket s else s))

/-- DOC_DONE_RETRY: the command is re-offered under COMMAND scope with RETRY increased, or answered ENGINE_FAULT beyond the limit (R256, R323); it is the cell's error 0x01 (Table 13-2). -/
def execDocDoneRetry (cell : Fin 128) (ticket : Fin 65536) (s : State) : Host.Outcome State Fault Refusal :=
  if (cellRegs s cell).held ≠ some ticket.val then .next (ignoredDone cell ticket s)
  else .next (commandError 0x01 ticket cell s)

/-- WING_ERROR (R325): codes 0x06, 0x0A and 0x10, and what R322 escalates. -/
def execWingError (code : Nat) (wing : Fin 16) (s : State) : Host.Outcome State Fault Refusal :=
  .next (if code = 0x06 ∨ code = 0x0A ∨ code = 0x10 ∨ isCommandCode code = true then wingError code wing s else s)

/-- WING_RESTORATION_DONE (R325): memory zeroed, faults cleared; the wing takes work again, or is retired. -/
def execWingRestorationDone (wing : Fin 16) (pass : Bool) (s : State) : Host.Outcome State Fault Refusal :=
  let x := Sys2Proof.Machine.wing s wing
  if !x.quarantined then .next s
  else if !pass then .next (retireWing wing s)
  else
    let s := updWingErr wing (fun e => { e with restoring := false }) (settleWingCells wing s)
    .next (offerWork (setDuty (updWing wing (fun x => { x with
      quarantined := false
      mem := []
      cen := { x.cen with faulted := false, escalated := false }
      hsu := { x.hsu with faulted := false, escalated := false, scratch := [] }
      pku := { x.pku with faulted := false, escalated := false } }) s)))

/-- A function whose response the spec withholds until a drain, a switch or a burn has ended: no watchdog counts against its cell (log 28). -/
def withheld (function : Nat) : Bool := function == 0x0E03 || function == 0x0E10 || function == 0x0E30 || function == 0x0E36 || function == 0x0E40

/-- CELL_WATCHDOG (R320): a ticket held 2 ms without DOC_DONE is a WING error of its cell. -/
def execCellWatchdog (cell : Fin 128) (s : State) : Host.Outcome State Fault Refusal :=
  match (cellRegs s cell).held with
  | none => .next s
  | some t =>
    match desc s t with
    | none => .next s
    | some d =>
      if withheld d.function then .next s
      else match d.copies.find? (fun c => c.cell == cell.val) with
        | some c => .next (wingError 0x0A (cell.val / 8) (advanceTo (c.takenAt + 2000000) s))
        | none => .next s

/-- The MODULE codes of Table 13-2; 0x20 and 0x24 only on a pair member. -/
def isModuleCode (s : State) (code : Nat) : Bool :=
  code == 0x14 || code == 0x23 || code == 0x30 || code == 0x31 || code == 0x32 || code == 0x44 || ((code == 0x20 || code == 0x24) && paired s)

/-- MODULE_ERROR (R327, R328). -/
def execModuleError (code : Nat) (s : State) : Host.Outcome State Fault Refusal := .next (if isModuleCode s code then moduleError code s else s)

/-- CONTAINED_HALT_TIMEOUT (R328). -/
def execContainedHaltTimeout (s : State) : Host.Outcome State Fault Refusal :=
  match s.err.halting with
  | some t => .next (containedHalt (advanceTo t s))
  | none => .next s

/-- The FATAL codes of Table 13-2. -/
def isFatalCode (code : Nat) : Bool := code == 0x21 || code == 0x22 || code == 0x40 || code == 0x41 || code == 0x42 || code == 0x43

/-- FATAL_ERROR (R330). -/
def execFatalError (code : Nat) (s : State) : Host.Outcome State Fault Refusal := .next (if isFatalCode code then fatalError code s else s)

/-- Distinct lines that failed within the last second. -/
def linesFailed (s : State) : List Nat := ((s.err.lines.filter (fun p => decide (s.now < p.1 + 1000000000))).map (·.2)).eraseDups

/-- VITRINE_LINE_FAIL (R320, R329): a MODULE error of a pair member; unpaired, the record is marked damaged, logged, event 20; the 17th distinct line within 1 s is FATAL. -/
def execVitrineLineFail (line gallery slot : Nat) (s : State) : Host.Outcome State Fault Refusal :=
  if s.pow.mode == .vault || s.pow.mode == .tampered || s.pow.mode == .halt then .next s
  else
    let s := { s with err := { s.err with lines := (s.now, line) :: s.err.lines.filter (fun p => decide (s.now < p.1 + 1000000000)) } }
    if (linesFailed s).length > 16 then .next (fatalError 0x22 s)
    else if paired s then .next (moduleError 0x20 s)
    else
      let s := updGal gallery (fun g => { g with damaged := slot :: g.damaged.filter (· != slot) }) s
      .next (latchEvent 20 (logRecord 0x0090 0 0 (leBytes 4 gallery ++ leBytes 4 slot) s))

/-- ECC_CORRECTED (R320): corrected, counted and scrubbed. -/
def execEccCorrected (wing : Fin 16) (s : State) : Host.Outcome State Fault Refusal :=
  .next (countEvent wing 20 1 none { s with err := { s.err with corrected := s.err.corrected + 1 } })

/-- DOCENT_COPY_REPAIR (R321): repaired from the other copy and only counted. -/
def execDocentCopyRepair (s : State) : Host.Outcome State Fault Refusal := .next { s with doc := { s.doc with repairs := s.doc.repairs + 1 } }

/-- WITHDRAW_SEND (R297): the deltas sent are acknowledged, or 20 us have passed; a MODULE handler ends with it. -/
def execWithdrawSend (s : State) : Host.Outcome State Fault Refusal :=
  match s.pair.withdrawing with
  | none => .next s
  | some t =>
    let s := if s.pair.unacked = [] || !s.pair.linkUp then s else advanceTo (t + 20000) s
    if s.err.active = 3 then
      let affected := affectedAll s
      let codes := s.err.codes
      let queued := s.err.queued
      let s := endWithdraw { s with err := { s.err with active := 0, codes := [], queued := [] } }
      .next (handleQueued queued (logModule 3 codes affected [] s))
    else .next (endWithdraw s)

end Sys2Proof.Machine
end

