-- ==== Sys2Proof/Machine/EngineOps.lean ====
section
/-!
DEFINITION. The cipher engines and hash units: ownership, key loads, operations, masks, nonces, alarms, and the meanings of their commands (spec 08). `h` is true for the hash unit.
-/

namespace Sys2Proof.Machine

/-- Grants the oldest claim while the four conditions of R209 hold. -/
def grantNext (h : Bool) (w : Nat) (s : State) : State :=
  let e := engineOf s h w
  if e.owner.isSome || e.clearing || e.faulted || !(h || e.seedReady) then s
  else match e.queue with
    | [] => s
    | c :: rest =>
      let g := ((servedBy s (8 * w + c)).map (·.2.2)).getD 0
      let s := settleEngine h w s
      let id := (e.holdId + 1) % 256
      let s := updEngine h w (fun e => decideClaim c (grantOf true false id) { e with
        owner := some c, queue := rest, grantedClaim := mget e.claimedAt c, claimedAt := mdel e.claimedAt c, gallery := g, holdBase := 0, holdFrom := s.now, holdId := id
        waitFrom := if rest = [] then none else some s.now }) s
      stampGrant (if h then 2 else 1) (8 * w + c) (countEvent w (if h then 7 else 4) 1 (some g) s)

/-- Sets a STATUS bit. -/
def raiseStatus (h : Bool) (w b : Nat) (s : State) : State := updEngine h w (fun e => { e with status := setBit e.status b true }) s

/-! Claims, grants and releases. -/

/-- The holder has its grant of this very moment, still unread, for a claim made at this moment too: both claims arrived in one cycle (R209, log 162). -/
def grantedNow (e : Engine) (now : Nat) : Option Nat :=
  match e.owner with
  | some o => if e.grantedClaim == some now && e.holdFrom == now && e.holdBase == 0 && mhas e.grants o && e.busy.isNone then some o else none
  | none => none

/-- A claim that arrived in the same cycle as the holder's, from a lower cell: the grant is its own, and the other claim is queued (R209, R227). -/
def takeOver (h : Bool) (w c o g : Nat) (s : State) : State :=
  updEngine h w (fun e => { e with
    owner := some c, gallery := g, grants := mset (mdel e.grants o) c (grantOf true false e.holdId), queue := o :: e.queue
    claimedAt := mset e.claimedAt o s.now, waitFrom := some s.now }) s

/-- A queued claim, and the grant that may follow (R209). -/
def queueClaim (h : Bool) (cell g : Nat) (s : State) : State :=
  let w := wingOf cell
  let c := cell % 8
  match grantedNow (engineOf s h w) s.now with
  | some o =>
    if c < o then takeOver h w c o g s
    else enqueue s
  | none => enqueue s
where
  /-- the claim takes its place in the queue -/
  enqueue (s : State) : State :=
    grantNext h (wingOf cell) (updEngine h (wingOf cell) (fun e => { e with
      queue := insertClaim s.now (cell % 8) e.claimedAt e.queue, claimedAt := mset e.claimedAt (cell % 8) s.now, waitFrom := some (e.waitFrom.getD s.now) }) s)

/-- A CLAIM write: checked against USE on the engine's target, then queued; one claim per cell (R209, R210, R225, R227). A claim by the holder, by a cell whose grant is unread or of a wing not in RUN is ignored; one at a cipher engine whose mask instance is at its limit is re-dispatched (R217). -/
def claimEngine (h : Bool) (cell : Nat) (s : State) : State :=
  let w := wingOf cell
  let c := cell % 8
  let e := engineOf s h w
  if (wing s w).power != .run || (wing s w).quarantined || (wing s w).retired || e.owner == some c || e.queue.contains c || mhas e.grants c then s
  else match servedBy s cell with
    | none => updEngine h w (fun e => decideClaim c (grantOf false false e.holdId) e) s
    | some (t, d, g) =>
      if !hasRight d.rights (if h then 3 else 2) rightUSE then updEngine h w (fun e => decideClaim c (grantOf false false e.holdId) e) s
      else if !h && maskExhausted s w then offerWork (avoidEngine t w s)
      else queueClaim h cell g s

/-- A grant register read: it stalls while the claim is queued, and clears what it returns (R209). -/
def readGrant (h : Bool) (cell : Nat) (s : State) : State :=
  let w := wingOf cell
  let c := cell % 8
  let e := engineOf s h w
  if e.queue.contains c then updEngine h w (fun e => { e with reading := if e.reading.contains c then e.reading else e.reading ++ [c] }) s
  else updEngine h w (fun e => { e with
    grants := mdel e.grants c, lastRead := mset e.lastRead c (((mget e.grants c).map grantWord).getD 0) }) s

/-- A RELEASE write: ignored unless the writer holds the engine (R212, Table 8-3). -/
def releaseEngine (h : Bool) (cell : Nat) (s : State) : State :=
  if (engineOf s h (wingOf cell)).owner = some (cell % 8) then clearEngine h (wingOf cell) s else s

/-! Wing memory. -/

/-- Bytes of wing memory below operand memory (R229): 2 MiB less 256 KiB. -/
abbrev wingMemSize : Nat := 1835008

/-- A cell's own stores into wing memory; what would lie in operand memory is not addressed (R229). -/
def cellStores (w : Nat) (stores : List (Nat × Bytes)) (s : State) : State :=
  stores.foldl (fun s p => if p.1 + p.2.length ≤ wingMemSize then
    updWing w (fun x => { x with mem := memWriteBytes 0 x.mem p.1 p.2 }) s else s) s

/-- The row of the command that a cell serves permits an access to wing memory (R41, R44). -/
def wingRight (s : State) (cell right : Nat) : Bool :=
  match servedBy s cell with
  | some (_, d, _) => hasRight d.rights 5 right
  | none => true

/-- A cell's access for its command is not permitted: the command is answered ACCESS_DENIED (R44). -/
def denyAccess (cell : Nat) (s : State) : State :=
  match servedBy s cell with
  | some (t, d, _) => if d.resp.isNone then answerFn t (statusOnly Status.accessDenied) [] s else s
  | none => s

/-- A cell's stores for its command, as its row permits. -/
def cellWrites (cell : Nat) (stores : List (Nat × Bytes)) (s : State) : State :=
  if stores = [] then s else if wingRight s cell rightWR then cellStores (wingOf cell) stores s else denyAccess cell s

/-- The holder's writes of the context words (R208). -/
def writeCtx (h : Bool) (cell : Nat) (ctx : Option (List W64)) (s : State) : State :=
  match ctx with
  | some l => if (engineOf s h (wingOf cell)).owner = some (cell % 8) then
      updEngine h (wingOf cell) (fun e => { e with ctx := (l ++ List.replicate 8 0).take 8 }) s else s
  | none => s

/-! Key loads (R213, R214). -/

/-- The record that a cached key rests on is still live: its own, its wrapping key's, its BDK's (R132, R196, R213). -/
def entryLive (s : State) (e : CacheEntry) : Bool :=
  e.live && (match gal s e.gallery with
    | none => false
    | some g => match recordAt g e.root.1 with
      | none => false
      | some r => isKey r && r.generation == e.root.2 && (chainFault g 8 r).isNone && !g.damaged.contains e.root.1)

/-- The entry's algorithm suits the register: AES and TDES in a cipher engine, HMAC and AES material in the hash unit (R213, R224). -/
def entrySuits (h : Bool) (e : CacheEntry) : Bool := if h then e.alg == 72 || e.alg == 65 else e.alg == 65 || e.alg == 84

/-- An entry as an engine's key register holds it. -/
def entryKey (entry : Nat) (e : CacheEntry) : HeldKey :=
  { noHeldKey with vitrine := e.slot.isSome, slot := e.slot.getD 0, alg := e.alg, material := e.material, digest := e.digest, entry := entry }

/-- The step of a load with STEP: the key cache makes it under the key's lock, once for a command (R176, R214). -/
def loadStep (cell : Nat) (e : CacheEntry) (s : State) : Option State :=
  match e.slot, servedBy s cell with
  | some n, some (t, d, _) =>
    if d.stepped.contains n then some s
    else match stepBudget e.gallery n s with
      | none => none
      | some (ch, s) =>
        some (updDesc t (fun d => { d with
          stepped := if ch.isSome then d.stepped ++ [n] else d.stepped, changes := d.changes ++ ch.toList }) s)
  | _, _ => some s

/-- A load with STEP waits for the commands that entered service earlier and have still to step the key (R97, R214). -/
def stepWaits (s : State) (cell : Nat) (k : CacheEntry) : Bool :=
  match k.slot, servedBy s cell with
  | some n, some (_, d, _) => !d.stepped.contains n && objectsTaken s k.gallery d [.record n]
  | _, _ => false

/-- A key load of the holder; `count` is 2 for an HMAC key of two entries (R213, R214, R225). A load while the engine is busy is denied; one with STEP waits while an earlier command has still to step the key. -/
def loadKey (h : Bool) (cell entry reg count : Nat) (step : Bool) (s : State) : State :=
  let w := wingOf cell
  let e := engineOf s h w
  if e.owner ≠ some (cell % 8) then s
  else match mget s.vit.cache entry with
    | none => raiseStatus h w 2 s
    | some k =>
      if e.busy.isSome || e.pendingLoad.isSome || decide (k.gallery ≠ e.gallery) || decide (k.count ≠ count) || !entrySuits h k || !entryLive s k then
        raiseStatus h w 2 s
      else if step && stepWaits s cell k then updEngine h w (fun e => { e with pendingLoad := some (cell, entry, reg, count) }) s
      else match (if step then loadStep cell k s else some s) with
        | none => raiseStatus h w 3 s
        | some s => updEngine h w (fun e => { e with busy := some {
            load := some (reg, entryKey entry k), dst := 0, out := [], ctxAfter := e.ctx, scratch := none, blocks := 0
            endsAt := s.now + (if count = 2 then 300 else 200) } }) s

/-- A load that waits for the key's lock goes on once the lock is free (R97, R214). -/
def settleLoad (h : Bool) (w : Nat) (s : State) : State :=
  match (engineOf s h w).pendingLoad with
  | none => s
  | some (cell, entry, reg, count) =>
    if ((mget s.vit.cache entry).map (stepWaits s cell)).getD false then s
    else loadKey h cell entry reg count true (updEngine h w (fun e => { e with pendingLoad := none }) s)

/-- The load or operation in an engine completes: the register is loaded, or the output and context words appear (R208, Table 8-6). -/
def completeOp (h : Bool) (w : Nat) (s : State) : State :=
  let s := settleLoad h w s
  let e := engineOf s h w
  match e.busy with
  | none => s
  | some o =>
    let s := advanceTo o.endsAt s
    match o.load with
    | some (r, k) => updEngine h w (fun e => { e with busy := none, keys := mset e.keys r k, status := setBit e.status 1 true }) s
    | none =>
      let s := updEngine h w (fun e => { e with
        busy := none, ctx := o.ctxAfter
        scratch := match o.scratch with
          | some b => mset e.scratch (e.owner.getD 0) b
          | none => e.scratch }) s
      if o.out = [] then s else updWing w (fun x => { x with mem := memWriteBytes 0 x.mem o.dst o.out }) s

/-! Context words (log 29). -/

/-- The 64 bytes of the context words. -/
def ctxBytes (l : List W64) : Bytes := l.flatMap (fun x => leBytes 8 x.toNat)

/-- Context words from bytes. -/
def ofCtxBytes (b : Bytes) : List W64 := (chunks 8 8 (slice b 0 64)).map (fun c => BitVec.ofNat 64 (ofLE c))

/-- Puts bytes at an offset of the context words. -/
def putCtx (l : List W64) (at_ : Nat) (b : Bytes) : List W64 :=
  let x := ctxBytes l
  ofCtxBytes (x.take at_ ++ b ++ x.drop (at_ + b.length))

/-! Operations of the cipher engine (R207, R208, Table 8-5). -/

/-- The pipeline latency of an ALG code in engine cycles; none for a refused code (Tables 8-1 and 8-5). -/
def cenLatency : Nat → Option Nat
  | 0 => some 22
  | 1 => some 26
  | 2 => some 30
  | 4 => some 52
  | 5 => some 52
  | _ => none

/-- Key bytes of an ALG code. -/
def cenKeyLen : Nat → Nat
  | 0 => 16
  | 1 => 24
  | 2 => 32
  | 4 => 16
  | _ => 24

/-- The engine cycles of an operation: one block a cycle without chaining, one a latency with it (R208). -/
def cenCycles (mode : Nat) (decrypt : Bool) (blocks lat : Nat) : Nat :=
  if mode = 0 ∨ mode = 2 ∨ mode = 3 ∨ (mode = 1 ∧ decrypt = true) then blocks + lat else blocks * lat

/-- The context words with a hardware nonce as IV (R221): GCM's counter block 1 and J0, else the IV with zeros behind it. -/
def nonceCtx (mode : Nat) (iv : Bytes) (l : List W64) : List W64 :=
  if mode = 3 then let j0 := iv ++ beBytes 4 1; putCtx (putCtx l 16 j0) 48 j0
  else if mode = 2 then putCtx l 16 (iv ++ zeros 4)
  else putCtx l 0 (iv ++ zeros 4)

/-- What an operation computes: its output, and the context words after it (R208, log 29). In a MAC mode DECRYPT changes nothing: Table 8-5 calls it verify, and gives neither a place for the expected MAC nor one for the verdict (log 187). -/
def cenCompute (k : HeldKey) (mode : Nat) (decrypt final : Bool) (l : List W64) (d : Bytes) : Bytes × List W64 :=
  let c := k.cipher
  let n := d.length / c.len
  let x := ctxBytes l
  let chain := slice x 0 c.len
  let ctr := slice x 16 c.len
  let dataBits := leAt x 40 8
  let tail := dataBits / 8 % c.len
  let kept := if final && tail != 0 then c.len * (n - 1) + tail else d.length
  match mode with
  | 0 => (if decrypt then ecbDec c d else ecbEnc c d, l)
  | 1 =>
    let o := if decrypt then cbcDec c chain d else cbcEnc c chain d
    (o, putCtx l 0 ((if decrypt then d else o).drop (c.len * (n - 1))))
  | 2 => (ctrMode c ctr d, putCtx l 16 (beBytes c.len ((ofBE ctr + n) % 2 ^ (8 * c.len))))
  | 3 =>
    let o := slice ((gctr c ctr 0 d).take kept) 0 d.length
    let hk := ofBE (c.enc (zeros 16))
    let y := ghash hk (ofBE chain) (if decrypt then slice (d.take kept) 0 d.length else o)
    let y := if final then ghash hk y (beBytes 8 (leAt x 32 8) ++ beBytes 8 dataBits) else y
    let t := if final then xorBytes (beBytes 16 y) (c.enc (slice x 48 16)) else beBytes 16 y
    (o, putCtx (putCtx l 16 (ctr.take 12 ++ beBytes 4 ((ofBE (ctr.drop 12) + n) % 2 ^ 32))) 0 t)
  | 4 =>
    if final then
      let k1 := cmacDouble c.len (c.enc (zeros c.len))
      let st := (chunks c.len (n - 1) d).foldl (fun s b => c.enc (xorBytes s b)) chain
      let last := (d.take kept).drop (c.len * (n - 1))
      let lastB := if last.length = c.len then xorBytes last k1
        else xorBytes (last ++ 0x80#8 :: zeros (c.len - last.length - 1)) (cmacDouble c.len k1)
      ([], putCtx l 0 (c.enc (xorBytes st lastB)))
    else ([], putCtx l 0 ((blocksOf c d).foldl (fun s b => c.enc (xorBytes s b)) chain))
  | 5 => ([], putCtx l 0 ((blocksOf c d).foldl (fun s b => c.enc (xorBytes s b)) chain))
  | _ =>
    let k1 := k.material.take 8
    let k2 := (k.material.drop 8).take 8
    let st := (chunks 8 n d).foldl (fun s b => desEnc k1 (xorBytes s b)) chain
    ([], putCtx l 0 (if final then desEnc k1 (desDec k2 st) else st))

/-- A CEN_OP word is one that the engine refuses: a refused field, a key that is absent or of another algorithm, a length beyond the hold, no nonce drawn, memory that it does not reach (Tables 8-5 and 8-6); and combinations that no table refuses by name: algorithm 3 with an AES ALG, GCM or HW_NONCE with a TDES ALG (log 188). -/
def cenRefused (s : State) (w : Nat) (word : Nat) : Bool :=
  let e := (wing s w).cen
  let alg := bits word 2 0
  let mode := bits word 6 3
  let blocks := bits word 28 16
  let len := if alg ≥ 4 then 8 else 16
  match cenLatency alg, mget e.keys (bits word 9 8) with
  | some lat, some k =>
    e.busy.isSome || e.pendingLoad.isSome || decide (mode > 6) || decide (blocks = 0) || decide (blocks > 4096) ||
    (k.alg == 84) != decide (alg ≥ 4) || decide (k.material.length ≠ cenKeyLen alg) ||
    (decide (mode = 3) && decide (alg ≥ 4)) || (decide (mode = 6) && decide (alg < 4)) ||
    (bit word 10 && e.nonceIv.isNone) || (bit word 10 && decide (alg ≥ 4)) ||
    decide (engineCycles s false w + cenCycles mode (bit word 7) blocks lat > 4800) ||
    decide (32 * bits word 47 32 + len * blocks > wingMemSize) || (decide (mode ≤ 3) && decide (32 * bits word 63 48 + len * blocks > wingMemSize))
  | _, _ => true

/-- Starts an operation of the cipher engine. -/
def startCen (w word : Nat) (s : State) : State :=
  let e := (wing s w).cen
  let alg := bits word 2 0
  let mode := bits word 6 3
  let blocks := bits word 28 16
  let len := if alg ≥ 4 then 8 else 16
  let d := memReadBytes 0 (wing s w).mem (32 * bits word 47 32) (len * blocks)
  let l := match bit word 10, e.nonceIv with
    | true, some iv => nonceCtx mode iv e.ctx
    | _, _ => e.ctx
  let k := (mget e.keys (bits word 9 8)).getD noHeldKey
  let (out, after) := cenCompute k mode (bit word 7) (bit word 11) l d
  let cycles := cenCycles mode (bit word 7) blocks ((cenLatency alg).getD 0)
  let s := countEvent w 18 blocks (some e.gallery) s
  let s := updEngine false w (fun e => { e with
    nonceIv := if bit word 10 then none else e.nonceIv
    busy := some { load := none, dst := 32 * bits word 63 48, out := out, ctxAfter := after, scratch := none, blocks := blocks
                   endsAt := s.now + cyclesNs (engineMHz s w) cycles } }) s
  countBlocks w blocks s

/-! Operations of the hash unit (R224, R225, Table 8-8). -/

/-- Block length in bytes and cycles per block of a hash code; none for an unknown one (Table 8-8). -/
def hsuBlock : Nat → Option (Nat × Nat)
  | 1 => some (64, 64)
  | 2 => some (128, 80)
  | 3 => some (128, 80)
  | 4 => some (136, 24)
  | 5 => some (72, 24)
  | _ => none

/-- The initial state of a hash: the context bytes of SHA-2, or the 200 bytes of SHA-3's scratch. -/
def hsuInit (alg : Nat) : Bytes :=
  match alg with
  | 1 => shaBytes shaH256
  | 2 => shaBytes shaH384
  | 3 => shaBytes shaH512
  | _ => zeros 200

/-- Absorbs whole blocks into a state. -/
def hsuAbsorb (alg : Nat) (st d : Bytes) : Bytes :=
  match alg with
  | 1 => shaBytes (shaAbsorb shaForm32 (shaChain 32 st) d)
  | 2 => shaBytes (shaAbsorb shaForm64 (shaChain 64 st) d)
  | 3 => shaBytes (shaAbsorb shaForm64 (shaChain 64 st) d)
  | _ =>
    let rate := if alg = 4 then 136 else 72
    ((chunks rate (d.length / rate) d).foldl (fun (st : Bytes) b =>
      (keccakF ((chunks 8 25 (xorBytes st (b ++ zeros (200 - rate)))).map (fun c => BitVec.ofNat 64 (ofLE c)))).flatMap (fun x => leBytes 8 x.toNat)) st)

/-- Digest bytes of a hash code (Table 6-3). -/
def hsuDigestLen (alg : Nat) : Nat := if alg = 2 then 48 else if alg = 3 ∨ alg = 5 then 64 else 32

/-- The HMAC key block XORed with a pad byte; a longer key is hashed first (FIPS 198-1). -/
def hsuPad (alg blk : Nat) (key : Bytes) (p : Byte) : Bytes :=
  let hash := match alg with
    | 1 => sha256
    | 2 => sha384
    | 3 => sha512
    | 4 => sha3_256
    | _ => sha3_512
  let k := if key.length > blk then hash key else key
  (slice k 0 blk).map (· ^^^ p)

/-- The outer hash of HMAC over an inner digest, as a state: the digest's bytes in front. -/
def hsuOuter (alg blk : Nat) (key inner : Bytes) : Bytes :=
  let m := hsuPad alg blk key 0x5C#8 ++ inner
  match alg with
  | 1 => sha256 m
  | 2 => sha384 m
  | 3 => sha512 m
  | 4 => sha3_256 m
  | _ => sha3_512 m

/-- An HSU_OP word is one that the unit refuses. -/
def hsuRefused (s : State) (w word : Nat) : Bool :=
  let e := (wing s w).hsu
  let blocks := bits word 28 16
  match hsuBlock (bits word 2 0) with
  | some (blk, cyc) =>
    e.busy.isSome || e.pendingLoad.isSome || decide (blocks = 0) || decide (blocks > 4096) || (bit word 3 && (mget e.keys 0).isNone) ||
    decide (engineCycles s true w + blocks * cyc > 4800) || decide (32 * bits word 47 32 + blk * blocks > wingMemSize)
  | none => true

/-- Starts an operation of the hash unit: the message blocks lie padded in wing memory; INIT starts a message, with HMAC from the inner pad; FINAL leaves the digest, with HMAC the outer hash, in the context words (log 29). -/
def startHsu (w word : Nat) (s : State) : State :=
  let e := (wing s w).hsu
  let alg := bits word 2 0
  let blocks := bits word 28 16
  let (blk, cyc) := (hsuBlock alg).getD (64, 64)
  let owner := e.owner.getD 0
  let d := memReadBytes 0 (wing s w).mem (32 * bits word 47 32) (blk * blocks)
  let key := ((mget e.keys 0).map (·.material)).getD []
  let st := if bit word 4 then (if bit word 3 then hsuAbsorb alg (hsuInit alg) (hsuPad alg blk key 0x36#8) else hsuInit alg)
    else if alg ≥ 4 then slice (mgetD e.scratch owner []) 0 200 else slice (ctxBytes e.ctx) 0 (if alg = 1 then 32 else 64)
  let st := hsuAbsorb alg st d
  let digest := st.take (hsuDigestLen alg)
  let after := if bit word 5 then (if bit word 3 then hsuOuter alg blk key digest else digest) else if alg ≥ 4 then ctxBytes e.ctx else st
  updEngine true w (fun e => { e with busy := some {
    load := none, dst := 0, out := [], ctxAfter := putCtx e.ctx 0 after, scratch := if alg ≥ 4 then some st else none, blocks := blocks
    endsAt := s.now + cyclesNs (engineMHz s w) (blocks * cyc) } }) s

/-! Status (Table 8-6). -/

/-- A STATUS word: BUSY is 0 whenever the read returns; another cell than the holder sees only ALARMS_1S. -/
def statusWord (holder : Bool) (status alarms : Nat) : W64 :=
  BitVec.ofNat 64 ((if holder then status else 0) + 2 ^ 16 * sat 255 alarms)

/-- A STATUS read: it stalls the holder while the engine is busy, as it is while a load waits for its key's lock, and clears the RC bits it returns. -/
def readStatus (h : Bool) (cell : Nat) (s : State) : State :=
  let w := wingOf cell
  let holder := (engineOf s h w).owner == some (cell % 8)
  let s := if holder then completeOp h w s else s
  if holder && (engineOf s h w).pendingLoad.isSome then s else
  let word := statusWord holder (engineOf s h w).status (recent 1000000000 s.now (engineOf s h w).alarms).length
  updEngine h w (fun e => { e with lastRead := mset e.lastRead (cell % 8) word, status := if holder then 0 else e.status }) s

/-! Alarms (R218 to R220). -/

/-- A fault alarm: the engine is erased and faulted, the holder's command is a COMMAND-scope error, a second alarm within 1 s is escalated. The hold ends with the clear of R212, and a clear under way goes on (R219, R227). -/
def engineAlarm (h : Bool) (w : Nat) (mask : Bool) (s : State) : State :=
  let e := engineOf s h w
  let t := holderTicket s w e.owner
  let again := e.alarms.any (fun a => decide (s.now < a + 1000000000))
  let s := settleEngine h w s
  let s := match e.owner with
    | some c => stampRelease (if h then 2 else 1) (8 * w + c) s
    | none => s
  let s := updEngine h w (fun e => { e with
    owner := none, clearing := e.clearing || e.owner.isSome, holdBase := if e.owner.isSome then 0 else e.holdBase, faulted := true, gallery := 0
    keys := [], ctx := List.replicate 8 0, busy := none, pendingLoad := none, nonceIv := none
    status := setBit e.status (if mask && !h then 6 else 5) true, alarms := s.now :: recent 1000000000 s.now e.alarms, escalated := e.escalated || again }) s
  let code := if h then 0x04 else if mask then 0x03 else 0x02
  let s := commandError code t (engineUnit h w) s
  if again && !(wing s w).quarantined then wingError code w s else s

/-! The meanings. -/

/-- CEN_CLAIM (R209, R210). -/
def execCenClaim (cell : Fin 128) (s : State) : Host.Outcome State Fault Refusal := .next (claimEngine false cell s)

/-- CEN_GRANT_READ (R209). -/
def execCenGrantRead (cell : Fin 128) (s : State) : Host.Outcome State Fault Refusal := .next (readGrant false cell s)

/-- CEN_RELEASE (R212). -/
def execCenRelease (cell : Fin 128) (s : State) : Host.Outcome State Fault Refusal := .next (releaseEngine false cell s)

/-- CEN_KEYLOAD (R213). -/
def execCenKeyload (cell : Fin 128) (entry : Fin 131072) (keyreg : Fin 4) (s : State) : Host.Outcome State Fault Refusal :=
  .next (loadKey false cell entry keyreg 1 false s)

/-- CEN_KEYLOAD_STEP (R214). -/
def execCenKeyloadStep (cell : Fin 128) (entry : Fin 131072) (keyreg : Fin 4) (s : State) : Host.Outcome State Fault Refusal :=
  .next (loadKey false cell entry keyreg 1 true s)

/-- CEN_OP (R208, Table 8-5): ignored unless the writer holds the engine. -/
def execCenOp (cell : Fin 128) (word : W64) (ctx : Option (List W64)) (stores : List (Nat × Bytes)) (s : State) : Host.Outcome State Fault Refusal :=
  let w := wingOf cell.val
  let s := writeCtx false cell ctx (cellWrites cell stores s)
  if (engineOf s false w).owner ≠ some (cell.val % 8) then .next s
  else if !(wingRight s cell rightRD && (wingRight s cell rightWR || decide (bits word.toNat 6 3 > 3))) then .next (denyAccess cell s)
  else if cenRefused s w word.toNat then .next (raiseStatus false w 4 s)
  else .next (startCen w word.toNat s)

/-- CEN_OP_DONE (R208). -/
def execCenOpDone (wing : Fin 16) (s : State) : Host.Outcome State Fault Refusal := .next (completeOp false wing s)

/-- CEN_STATUS_READ (Table 8-6). -/
def execCenStatusRead (cell : Fin 128) (s : State) : Host.Outcome State Fault Refusal := .next (readStatus false cell s)

/-- The value that a CEN_NONCE read returns to the cell, and the IV it forms (R221). -/
def putNonce (w c n : Nat) (iv : Option Bytes) (s : State) : State :=
  updEngine false w (fun e => { e with lastRead := mset e.lastRead c (BitVec.ofNat 64 n), nonceIv := if iv.isSome then iv else e.nonceIv }) s

/-- The IV of a COUNTER value: FIXED and COUNTER (R150, R221). -/
def nonceOf (s : State) (n : Nat) : Bytes := beBytes 4 (fixedField s) ++ beBytes 8 n

/-- CEN_NONCE_READ (R221, R222): the holder draws a nonce for its command; without the privilege, or with the service withdrawn, 0 and NONCE_DENIED. In ASSURANCE the secondary wing is given what the primary has drawn, and waits for it (R227). -/
def execCenNonceRead (cell : Fin 128) (s : State) : Host.Outcome State Fault Refusal :=
  let w := wingOf cell.val
  let c := cell.val % 8
  if (engineOf s false w).owner ≠ some c then .next (putNonce w c 0 none s)
  else match servedBy s cell with
    | none => .next (putNonce w c 0 none (raiseStatus false w 8 s))
    | some (t, d, _) =>
      if !bit d.privileges 1 || s.fuses.nonceWithdrawn then .next (putNonce w c 0 none (raiseStatus false w 8 s))
      else if (cellRegs s cell).secondary then
        match d.nonces[d.nonceTaken]? with
        | none => .next s
        | some n => .next (putNonce w c n (some (nonceOf s n)) (updDesc t (fun d => { d with nonceTaken := d.nonceTaken + 1 }) s))
      else
        let (n, s') := nextNonce s
        .next (putNonce w c n (some (nonceOf s n)) (updDesc t (fun d => { d with nonces := d.nonces ++ [n], changes := d.changes ++ [.nonce (nonceOf s n)] }) s'))

/-- HSU_CLAIM (R225). -/
def execHsuClaim (cell : Fin 128) (s : State) : Host.Outcome State Fault Refusal := .next (claimEngine true cell s)

/-- HSU_GRANT_READ (R225). -/
def execHsuGrantRead (cell : Fin 128) (s : State) : Host.Outcome State Fault Refusal := .next (readGrant true cell s)

/-- HSU_RELEASE (R225). -/
def execHsuRelease (cell : Fin 128) (s : State) : Host.Outcome State Fault Refusal := .next (releaseEngine true cell s)

/-- HSU_KEYLOAD (R225). -/
def execHsuKeyload (cell : Fin 128) (entry : Fin 131072) (two step : Bool) (s : State) : Host.Outcome State Fault Refusal :=
  .next (loadKey true cell entry 0 (if two then 2 else 1) step s)

/-- HSU_OP (R225): ignored unless the writer holds the unit. -/
def execHsuOp (cell : Fin 128) (word : W64) (ctx : Option (List W64)) (stores : List (Nat × Bytes)) (s : State) : Host.Outcome State Fault Refusal :=
  let w := wingOf cell.val
  let s := writeCtx true cell ctx (cellWrites cell stores s)
  if (engineOf s true w).owner ≠ some (cell.val % 8) then .next s
  else if !wingRight s cell rightRD then .next (denyAccess cell s)
  else if hsuRefused s w word.toNat then .next (raiseStatus true w 4 s)
  else .next (startHsu w word.toNat s)

/-- HSU_STATUS_READ (R225). -/
def execHsuStatusRead (cell : Fin 128) (s : State) : Host.Outcome State Fault Refusal := .next (readStatus true cell s)

/-- ENGINE_CLEAR_DONE (R212): 56 cycles on, the engine may be granted again; a failed read-back is a fault alarm. -/
def execEngineClearDone (wing : Fin 16) (hashUnit ok : Bool) (s : State) : Host.Outcome State Fault Refusal :=
  let e := engineOf s hashUnit wing
  if !e.clearing then .next s
  else
    let s := advanceTo (e.holdFrom + cyclesNs (engineMHz s wing) (56 - e.holdBase)) s
    let s := updEngine hashUnit wing (fun e => { e with clearing := false }) s
    if ok then .next (grantNext hashUnit wing s) else .next (offerWork (engineAlarm hashUnit wing false s))

/-- ENGINE_HOLD_OVERRUN (R211, R227): at cycle 4,801 the engine releases and clears itself, and the command is a COMMAND-scope error. -/
def execEngineHoldOverrun (wing : Fin 16) (hashUnit : Bool) (s : State) : Host.Outcome State Fault Refusal :=
  let e := engineOf s hashUnit wing
  if e.owner.isNone then .next s
  else
    let s := advanceTo (e.holdFrom + cyclesNs (engineMHz s wing) (4801 - e.holdBase)) s
    let t := holderTicket s wing e.owner
    let s := countEvent wing 16 1 (some e.gallery) s
    let s := raiseStatus hashUnit wing 7 (clearEngine hashUnit wing s)
    .next (offerWork (commandError 0x07 t (engineUnit hashUnit wing) s))

/-- ENGINE_FAULT_ALARM (R218 to R220, R225): the hash unit has no mask generator. -/
def execEngineFaultAlarm (wing : Fin 16) (hashUnit mask : Bool) (s : State) : Host.Outcome State Fault Refusal :=
  .next (offerWork (engineAlarm hashUnit wing (mask && !hashUnit) s))

/-- ENGINE_SELF_CHECK_DONE (R219, R220): a pass clears FAULTED and grants; a failure is a WING-scope error. -/
def execEngineSelfCheckDone (wing : Fin 16) (hashUnit pass : Bool) (s : State) : Host.Outcome State Fault Refusal :=
  let e := engineOf s hashUnit wing
  if !e.faulted || e.escalated then .next s
  else if pass then .next (grantNext hashUnit wing (updEngine hashUnit wing (fun e => { e with faulted := false }) s))
  else .next (offerWork (wingError (if hashUnit then 0x04 else 0x02) wing (updEngine hashUnit wing (fun e => { e with escalated := true }) s)))

/-- MASK_SEED_CHANGE (R215, R216). -/
def execMaskSeedChange (wing : Fin 16) (s : State) : Host.Outcome State Fault Refusal := .next (changeSeed wing s)

/-- SEED_REFILL_DONE (R216, R217): a 256-bit seed from the engine's own instance, while that serves; else the instance's reseed is awaited. -/
def execSeedRefillDone (wing : Fin 16) (s : State) : Host.Outcome State Fault Refusal :=
  let e := (Sys2Proof.Machine.wing s wing).cen
  if !e.refilling then .next s
  else if !instServes s (4096 + wing) then .next (if s.rng.fatal then s else queueDraw (4096 + wing) true s)
  else
    let (seed, s) := drawBytes (4096 + wing) 32 s
    .next (grantNext false wing (updEngine false wing (fun e => { e with seedReady := true, refilling := false, spare := seed }) s))

end Sys2Proof.Machine
end

