-- ==== Sys2Proof/Machine/PkuOps.lean ====
section
/-!
DEFINITION. The PK units: ownership, wipes, multiply-accumulate in the four lane modes, the operand DMA, residue checks, and the meanings of their commands (spec 09).
-/

namespace Sys2Proof.Machine

/-! Wipes and grants (R232, R239). -/

/-- The unit after a successful wipe. -/
def wipedPku (u : Pku) : Pku :=
  { u with slots := [], residues := [], acc := 0, qpath := [], lanes := 0, qmod := 0, qinv := 0, dirty := false, wiping := false, gallery := 0xFFFFF }

/-- Grants the oldest claim, after a wipe or without one. -/
def grantPku (w : Nat) (wiped : Bool) (s : State) : State :=
  match (wing s w).pku.queue with
  | [] => s
  | c :: rest =>
    let g := ((servedBy s (8 * w + c)).map (·.2.2)).getD 0
    let id := ((wing s w).pku.holdId + 1) % 256
    let s := updPku w (fun u => decidePkuClaim c (grantOf true wiped id) { u with
      owner := some c, queue := rest, claimedAt := mdel u.claimedAt c, gallery := g, holdBase := 0, holdFrom := s.now, holdId := id }) s
    stampGrant 3 (8 * w + c) (countEvent w 8 1 (some g) s)

/-- Serves the oldest claim of a free unit: a wipe first when DIRTY is 1 or another gallery held the unit last (R232, R239). -/
def serveClaims (w : Nat) (s : State) : State :=
  let u := (wing s w).pku
  if u.owner.isSome || u.faulted || u.wiping || (wing s w).power != .run then s
  else match u.queue with
    | [] => s
    | c :: _ =>
      let g := ((servedBy s (8 * w + c)).map (·.2.2)).getD 0
      if u.dirty || decide (u.gallery ≠ g) then updPku w (fun u => { u with wiping := true, holdBase := 0, holdFrom := s.now }) s
      else grantPku w false s

/-- A CLAIM write: checked against USE on target 4, then queued; a claim in NAP wakes the wing (R232, R247). -/
def claimPku (cell : Nat) (s : State) : State :=
  let w := wingOf cell
  let c := cell % 8
  let x := wing s w
  let deny := fun (s : State) => updPku w (fun u => decidePkuClaim c (grantOf false false u.holdId) u) s
  if x.power == .dark || x.quarantined || x.retired || x.pku.owner == some c || x.pku.queue.contains c || mhas x.pku.grants c then s
  else match servedBy s cell with
    | none => deny s
    | some (_, d, _) =>
      if !hasRight d.rights 4 rightUSE then deny s
      else
        let s := updPku w (fun u => { u with queue := insertClaim s.now c u.claimedAt u.queue, claimedAt := mset u.claimedAt c s.now }) s
        let s := if x.power == .run then s else updWing w (fun x => { x with waking := some (x.waking.getD x.power) }) s
        serveClaims w s

/-- A PKU_GRANT read: it stalls while the claim is queued, and clears what it returns (R232, R234). -/
def readPkuGrant (cell : Nat) (s : State) : State :=
  let w := wingOf cell
  let c := cell % 8
  let u := (wing s w).pku
  if u.queue.contains c then updPku w (fun u => { u with reading := if u.reading.contains c then u.reading else u.reading ++ [c] }) s
  else updPku w (fun u => { u with grants := mdel u.grants c, lastRead := mset u.lastRead c (((mget u.grants c).map grantWord).getD 0) }) s

/-! Operand memory (R229). -/

/-- The modulus of the residues, 2^31 - 1 (R237). -/
abbrev residueMod : Nat := 2147483647

/-- The eight residues of an operand, one for each 512-bit segment (R229). -/
def residuesOf (v : Nat) : List Nat := (List.range 8).map (fun i => v / 2 ^ (512 * i) % 2 ^ 512 % residueMod)

/-- The operand in a slot. -/
def slotAt (u : Pku) (n : Nat) : Nat := mgetD u.slots n 0

/-- The residues held for a slot. -/
def slotResidues (u : Pku) (n : Nat) : List Nat := mgetD u.residues n (List.replicate 8 0)

/-- Writes a slot with its residues. -/
def putSlot (n v : Nat) (u : Pku) : Pku :=
  { u with slots := mset u.slots n (v % 2 ^ 4096), residues := mset u.residues n (residuesOf (v % 2 ^ 4096)) }

/-! The multiply-accumulate (R228, R230, R231). -/

/-- Lanes of a mode, the bits of a lane's operand, and the bits of its accumulator (Table 9-1). -/
def laneShape (lanes : Nat) : Nat × Nat × Nat :=
  match lanes with
  | 0 => (1, 4096, 4224)
  | 1 => (8, 512, 528)
  | 2 => (128, 32, 33)
  | _ => (256, 16, 16)

/-- Lane `i` of a value packed `w` bits a lane. -/
def laneOf (v w i : Nat) : Nat := v / 2 ^ (w * i) % 2 ^ w

/-- Packs lanes of `w` bits. -/
def packLanes (w : Nat) (l : List Nat) : Nat := l.reverse.foldl (fun a x => a * 2 ^ w + x % 2 ^ w) 0

/-- The accumulator's lanes. -/
def accLanes (u : Pku) : List Nat := let (n, _, aw) := laneShape u.lanes; (List.range n).map (laneOf u.acc aw)

/-- One lane's sum or difference: reduced modulo QMOD in the narrow modes, to the lane's width otherwise. -/
def laneMac (lanes qmod : Nat) (neg : Bool) (acc a b : Nat) : Nat :=
  let m := if lanes ≥ 2 then max 1 qmod else 2 ^ (laneShape lanes).2.2
  if neg then (acc + (m - a * b % m)) % m else (acc + a * b) % m

/-- The residue identity of a lane of the wide modes: the result against the old accumulator plus or minus the product, modulo M; what the accumulator cannot hold breaks it (R237). The narrow modes' identity, with the lane's quotient, holds of every result that `laneMac` gives. -/
def residueHolds (lanes : Nat) (neg : Bool) (acc a b res : Nat) : Bool :=
  decide (lanes ≥ 2) || (res + (if neg then a * b else 0)) % residueMod == (acc + (if neg then 0 else a * b)) % residueMod

/-- The b words of an operation: word WORD of B, of each segment of B, or each lane of B (Table 9-1). -/
def bWords (u : Pku) (bslot word : Nat) : List Nat :=
  let v := slotAt u bslot
  match u.lanes with
  | 0 => [laneOf v 64 word]
  | 1 => (List.range 8).map (fun j => laneOf (laneOf v 512 j) 64 word)
  | 2 => (List.range 128).map (laneOf v 32)
  | _ => (List.range 256).map (laneOf v 16)

/-- The Q path after a result: the low word of each lane times NPRIME (R231); the narrow modes have none. -/
def qPath (lanes qinv : Nat) (accs : List Nat) : List Nat := if lanes ≥ 2 then [] else accs.map (fun a => a % 2 ^ 64 * qinv % 2 ^ 64)

/-- A fault alarm of the unit (R238): stopped, DIRTY and FAULTED, accumulator and Q path cleared, the hold ended; the wipe starts. A second alarm within 1 s is escalated. -/
def pkuAlarm (w b code : Nat) (s : State) : State :=
  let u := (wing s w).pku
  let t := holderTicket s w u.owner
  let again := u.alarms.any (fun a => decide (s.now < a + 1000000000))
  let s := if b = 2 ∨ b = 3 then countEvent w 15 1 (u.owner.map (fun _ => u.gallery)) s else s
  let s := raisePku w b (freePku w true s)
  let s := updPku w (fun u => { u with
    faulted := true, wiping := true, acc := 0, qpath := [], holdBase := 0, holdFrom := s.now, alarms := s.now :: recent 1000000000 s.now u.alarms, escalated := u.escalated || again || code == 0x06 }) s
  if code = 0x06 then wingError 0x06 w s
  else
    let s := commandError code t (160 + w) s
    if again && !(wing s w).quarantined then wingError code w s else s

/-- Whether a PKU_OP word has a refused field for the present mode (Tables 9-1 and 9-4); codes 4 to 7 of OP name no operation. -/
def pkuOpRefused (u : Pku) (op word : Nat) : Bool :=
  let wd := bits word 31 26
  decide (bits word 2 0 ≥ 4) || u.dirty || (bit word 5 && decide (op ≠ 1)) || (decide (op = 1) && decide (u.lanes ≥ 2)) ||
  (decide (u.lanes = 1) && decide (wd > 7)) || (decide (u.lanes ≥ 2) && decide (wd ≠ 0))

/-- MAC and MAC_SHIFT (R228, R231, R237). -/
def pkuMac (w : Nat) (shift : Bool) (word : Nat) (s : State) : State :=
  let u := (wing s w).pku
  let (n, ow, aw) := laneShape u.lanes
  let aslot := bits word 16 8
  if slotResidues u aslot ≠ residuesOf (slotAt u aslot) then pkuAlarm w 2 0x05 s
  else
    let q := bit word 5
    let bs := if q then u.qpath ++ List.replicate (n - u.qpath.length) 0 else bWords u (bits word 25 17) (bits word 31 26)
    let accs := if bit word 3 then List.replicate n 0 else accLanes u
    let as_ := (List.range n).map (laneOf (slotAt u aslot) ow)
    let sums := (List.range n).map (fun i => laneMac u.lanes u.qmod (bit word 4) (accs.getD i 0) (as_.getD i 0) (bs.getD i 0))
    if !(List.range n).all (fun i => residueHolds u.lanes (bit word 4) (accs.getD i 0) (as_.getD i 0) (bs.getD i 0) (sums.getD i 0)) then pkuAlarm w 2 0x05 s
    else if shift && q && sums.any (fun x => x % 2 ^ 64 != 0) then pkuAlarm w 3 0x05 s
    else
      let res := if shift then sums.map (· / 2 ^ 64) else sums
      updPku w (fun u => { u with acc := packLanes aw res, qpath := qPath u.lanes u.qinv res }) s

/-- LOAD_ACC: ACC takes a slot, lane by lane. -/
def pkuLoad (w word : Nat) (s : State) : State :=
  let u := (wing s w).pku
  let (n, ow, aw) := laneShape u.lanes
  let aslot := bits word 16 8
  if slotResidues u aslot ≠ residuesOf (slotAt u aslot) then pkuAlarm w 2 0x05 s
  else
    let l := (List.range n).map (laneOf (slotAt u aslot) ow)
    updPku w (fun u => { u with acc := packLanes aw l, qpath := qPath u.lanes u.qinv l }) s

/-- STORE_ACC: a slot takes ACC, lane by lane, with its residues. -/
def pkuStore (w word : Nat) (s : State) : State :=
  updPku w (fun u =>
    let (n, ow, _) := laneShape u.lanes
    let l := if bit word 3 then List.replicate n 0 else accLanes u
    putSlot (bits word 40 32) (packLanes ow l) { u with acc := if bit word 3 then 0 else u.acc }) s

/-- A PKU_OP write: ignored unless the writer holds the unit; refused fields set OP_REFUSED. -/
def pkuOp (cell op : Nat) (word : W64) (run : Nat → Nat → State → State) (s : State) : State :=
  let w := wingOf cell
  if (wing s w).pku.owner ≠ some (cell % 8) then s
  else if pkuOpRefused (wing s w).pku op word.toNat then raisePku w 6 s
  else run w word.toNat s

/-! Operand DMA (R235, R236, Table 9-5). -/

/-- The cell tags pages of the operand space with its command's gallery as it allocates them (R235). -/
def allocatePages (cell : Nat) (pages : List Nat) (s : State) : State :=
  match servedBy s cell with
  | none => s
  | some (_, _, g) => { s with pow := { s.pow with operandSpace := { s.pow.operandSpace with
      tags := pages.foldl (fun m p => if p < 8192 then mset m p g else m) s.pow.operandSpace.tags } } }

/-- One byte of a wing's 2 MiB, operand memory at its top. -/
def wingByte (x : Wing) (a : Nat) : Byte :=
  if a < wingMemSize then memRead 0 x.mem a else BitVec.ofNat 8 (laneOf (slotAt x.pku ((a - wingMemSize) / 512)) 8 ((a - wingMemSize) % 512))

/-- Stores one byte of a wing's 2 MiB; operand memory keeps its residues. -/
def putWingByte (a : Nat) (b : Byte) (x : Wing) : Wing :=
  if a < wingMemSize then { x with mem := memWrite 0 x.mem a b }
  else
    let n := (a - wingMemSize) / 512
    let i := (a - wingMemSize) % 512
    let v := slotAt x.pku n
    { x with pku := putSlot n (v - laneOf v 8 i * 2 ^ (8 * i) + b.toNat * 2 ^ (8 * i)) x.pku }

/-- Stores bytes into a wing's 2 MiB. -/
def putWingBytes (a : Nat) (d : Bytes) (x : Wing) : Wing := (d.foldl (fun (p : Wing × Nat) b => (putWingByte p.2 b p.1, p.2 + 1)) (x, a)).1

/-- Coefficients of one pair of slots, reordered for NTT layer `k`: those of the lower halves of its butterflies, then those of the upper halves (log 30). -/
def shufflePair (k : Nat) (l : List Nat) : List Nat :=
  let len := max 1 (256 / 2 ^ k)
  let ix := l.zipIdx
  (ix.filter (fun p => p.2 / len % 2 == 0)).map (·.1) ++ (ix.filter (fun p => p.2 / len % 2 == 1)).map (·.1)

/-- SHUFFLE over the slots of a transfer, pair by pair. -/
def shuffleSlots (lanes k : Nat) : List Nat → List Nat
  | a :: b :: t =>
    let (n, ow, _) := laneShape lanes
    let l := shufflePair k ((List.range n).map (laneOf a ow) ++ (List.range n).map (laneOf b ow))
    packLanes ow (l.take n) :: packLanes ow (l.drop n) :: shuffleSlots lanes k t
  | l => l

/-- A PKU_DMA word has a refused field: slots past 511, SELIDX past the entries, SHUFFLE or SELECT outwards, SHUFFLE in a wide mode, addresses past the space. -/
def dmaRefused (u : Pku) (out : Bool) (word : Nat) : Bool :=
  let n := bits word 16 11 + 1
  let sel := bit word 20
  let top := 64 * bits word 50 28 + 512 * n
  decide ((if sel then 1 else n) + bits word 10 2 > 512) || (out && (sel || decide (bits word 19 17 ≠ 0))) ||
  (decide (bits word 19 17 ≠ 0) && decide (u.lanes < 2)) || (sel && decide (bits word 26 21 ≥ n)) ||
  decide (top > (if bit word 1 then 536870912 else 2097152))

/-- A transfer touches a page of the operand space whose tag is not the holder's gallery (R235). -/
def foreignPage (s : State) (g word : Nat) : Bool :=
  let a := 64 * bits word 50 28
  let n := 512 * (bits word 16 11 + 1)
  bit word 1 && (List.range ((a + n - 1) / 65536 + 1 - a / 65536)).any (fun i => mgetD s.pow.operandSpace.tags (a / 65536 + i) 0xFFFFF != g)

/-- The operands of an inbound transfer as they stand in their space. -/
def dmaEntries (s : State) (w word : Nat) : List Nat :=
  let a := 64 * bits word 50 28
  (List.range (bits word 16 11 + 1)).map (fun i => ofLE (
    if bit word 1 then memReadBytes 0 s.pow.operandSpace.mem (a + 512 * i) 512
    else (List.range 512).map (fun j => wingByte (wing s w) (a + 512 * i + j))))

/-- The slots that an outbound transfer moves, as bytes. -/
def dmaSlots (u : Pku) (word : Nat) : Bytes := (List.range (bits word 16 11 + 1)).flatMap (fun i => leBytes 512 (slotAt u (bits word 10 2 + i)))

/-- An inbound transfer lands: residues computed, or compared with those stored beside the operand (R236); where no operand was stored at an address, the residues held there are zeros (log 198). SELECT keeps its one entry, whatever SHUFFLE says (R234, log 197). -/
def dmaIn (w word : Nat) (s : State) : State :=
  let u := (wing s w).pku
  let a := bits word 50 28
  let vs := dmaEntries s w word
  let stored := vs.zipIdx.map (fun p => mgetD s.pow.operandSpace.residues (a + 8 * p.2) (List.replicate 8 0))
  if bit word 1 && stored != vs.map residuesOf then pkuAlarm w 2 0x05 s
  else
    let kept := if bit word 20 then [vs.getD (bits word 26 21) 0] else if bits word 19 17 = 0 then vs else shuffleSlots u.lanes (bits word 19 17) vs
    let s := countEvent w 19 vs.length (some u.gallery) s
    updPku w (fun u => kept.zipIdx.foldl (fun u p => putSlot (bits word 10 2 + p.2) p.1 u) u) s

/-- An outbound transfer lands, to the operand space with its residues (R236). -/
def dmaOut (w word : Nat) (data : Bytes) (s : State) : State :=
  let u := (wing s w).pku
  let a := bits word 50 28
  let n := bits word 16 11 + 1
  let s := countEvent w 19 n (some u.gallery) s
  if bit word 1 then
    { s with pow := { s.pow with operandSpace := { s.pow.operandSpace with
        mem := memWriteBytes 0 s.pow.operandSpace.mem (64 * a) data
        residues := (List.range n).foldl (fun m i => mset m (a + 8 * i) (residuesOf (ofLE ((data.drop (512 * i)).take 512)))) s.pow.operandSpace.residues } } }
  else updWing w (putWingBytes (64 * a) data) s

/-- The DMA in flight completes. -/
def completeDma (w : Nat) (s : State) : State :=
  match (wing s w).pku.dma with
  | none => s
  | some d =>
    let s := updPku w (fun u => { u with dma := none }) s
    if bit d.word.toNat 0 then dmaOut w d.word.toNat d.data s else dmaIn w d.word.toNat s

/-- A PKU_DMA write (R235): a transfer in flight completes first; a refused one is a COMMAND-scope error of the writer's command. -/
def startDma (cell : Nat) (out : Bool) (word : W64) (s : State) : State :=
  let w := wingOf cell
  let s := completeDma w s
  let u := (wing s w).pku
  let v := word.toNat / 2 * 2 + b2n out
  let deny := fun (s : State) => offerWork (commandError 0x08 (((servedBy s cell).map (·.1)).getD 65536) (160 + w) (raisePku w 5 s))
  if u.owner ≠ some (cell % 8) then deny s
  else if dmaRefused u out v then raisePku w 6 s
  else if !bit v 1 && !wingRight s cell (if out then rightWR else rightRD) then denyAccess cell s
  else if foreignPage s u.gallery v || (out && u.dirty) then deny s
  else updPku w (fun u => { u with dma := some { cell := cell, word := BitVec.ofNat 64 v, data := if out then dmaSlots u v else [] } }) s

/-! The meanings. -/

/-- PKU_CLAIM (R232). -/
def execPkuClaim (cell : Fin 128) (s : State) : Host.Outcome State Fault Refusal := .next (claimPku cell s)

/-- PKU_GRANT_READ (R232, R234). -/
def execPkuGrantRead (cell : Fin 128) (s : State) : Host.Outcome State Fault Refusal := .next (readPkuGrant cell s)

/-- PKU_RELEASE (Table 9-3): a transfer in flight completes first. -/
def execPkuRelease (cell : Fin 128) (s : State) : Host.Outcome State Fault Refusal :=
  let w := wingOf cell.val
  if (wing s w).pku.owner ≠ some (cell.val % 8) then .next s
  else
    let s := completeDma w s
    .next (offerWork (if (wing s w).pku.owner.isNone then s else serveClaims w (freePku w false s)))

/-- PKU_ABANDON (R240, Table 9-3): the unit is released and DIRTY. -/
def execPkuAbandon (cell : Fin 128) (s : State) : Host.Outcome State Fault Refusal :=
  let w := wingOf cell.val
  if (wing s w).pku.owner ≠ some (cell.val % 8) then .next s else .next (serveClaims w (freePku w true s))

/-- QMOD of a PKU_CFG write is within the bounds of its lane mode (R234). -/
def qmodOk (lanes q : Nat) : Bool :=
  if lanes = 2 then q % 2 == 1 && decide (3 ≤ q ∧ q ≤ 2 ^ 31 - 1)
  else if lanes = 3 then q % 2 == 1 && decide (3 ≤ q ∧ q ≤ 2 ^ 15 - 1)
  else true

/-- PKU_CFG_WRITE (R234). -/
def execPkuCfgWrite (cell : Fin 128) (value : W64) (qinv : Option W64) (s : State) : Host.Outcome State Fault Refusal :=
  let w := wingOf cell.val
  if (wing s w).pku.owner ≠ some (cell.val % 8) then .next s
  else
    let s := match qinv with
      | some q => updPku w (fun u => { u with qinv := q.toNat }) s
      | none => s
    if qmodOk (field value 1 0) (field value 46 16) then
      .next (updPku w (fun u => { u with lanes := field value 1 0, qmod := field value 46 16 }) s)
    else .next (raisePku w 6 s)

/-- MAC (R228). -/
def execMac (cell : Fin 128) (word : W64) (s : State) : Host.Outcome State Fault Refusal :=
  .next (offerWork (pkuOp cell 0 word (fun w => pkuMac w false) s))

/-- MAC_SHIFT (R231). -/
def execMacShift (cell : Fin 128) (word : W64) (s : State) : Host.Outcome State Fault Refusal :=
  .next (offerWork (pkuOp cell 1 word (fun w => pkuMac w true) s))

/-- LOAD_ACC (Table 9-4). -/
def execLoadAcc (cell : Fin 128) (word : W64) (s : State) : Host.Outcome State Fault Refusal :=
  .next (offerWork (pkuOp cell 2 word pkuLoad s))

/-- STORE_ACC (Table 9-4). -/
def execStoreAcc (cell : Fin 128) (word : W64) (s : State) : Host.Outcome State Fault Refusal := .next (pkuOp cell 3 word pkuStore s)

/-- PKU_DMA_IN (R235). -/
def execPkuDmaIn (cell : Fin 128) (word : W64) (stores : List (Nat × Bytes)) (pages : List Nat) (s : State) : Host.Outcome State Fault Refusal :=
  .next (startDma cell false word (allocatePages cell pages (cellWrites cell stores s)))

/-- PKU_DMA_OUT (R235). -/
def execPkuDmaOut (cell : Fin 128) (word : W64) (pages : List Nat) (s : State) : Host.Outcome State Fault Refusal :=
  .next (startDma cell true word (allocatePages cell pages s))

/-- PKU_DMA_DONE (R236). -/
def execPkuDmaDone (wing : Fin 16) (s : State) : Host.Outcome State Fault Refusal := .next (offerWork (completeDma wing s))

/-- PKU_STATUS_READ (Table 9-6): it stalls the holder until its operations and its DMA are done. -/
def execPkuStatusRead (cell : Fin 128) (s : State) : Host.Outcome State Fault Refusal :=
  let w := wingOf cell.val
  let c := cell.val % 8
  let holder := (wing s w).pku.owner == some c
  let s := if holder then completeDma w s else s
  let u := (wing s w).pku
  let word := statusWord holder u.status (recent 1000000000 s.now u.alarms).length
  .next (offerWork (updPku w (fun u => { u with lastRead := mset u.lastRead c word, status := if holder then 0 else u.status }) s))

/-- PKU_WIPE_DONE (R239): zero after 4,160 cycles, then the claim that waits is granted; a failed verify is escalated (R238). -/
def execPkuWipeDone (wing : Fin 16) (ok : Bool) (s : State) : Host.Outcome State Fault Refusal :=
  let u := (Sys2Proof.Machine.wing s wing).pku
  if !u.wiping then .next s
  else
    let s := advanceTo (u.holdFrom + cyclesNs (pkMHz s wing) (4160 - u.holdBase)) s
    let s := countEvent wing 10 1 (u.queue.head?.bind (fun c => (servedBy s (8 * wing + c)).map (·.2.2))) s
    if !ok then .next (offerWork (pkuAlarm wing 7 0x06 s))
    else
      let s := updPku wing wipedPku s
      .next (if u.faulted then s else grantPku wing true s)

/-- PKU_HOLD_OVERRUN (R233): at cycle 262,145 the DMA is dropped, OVERRUN and DIRTY are set, and the unit releases itself. -/
def execPkuHoldOverrun (wing : Fin 16) (s : State) : Host.Outcome State Fault Refusal :=
  let u := (Sys2Proof.Machine.wing s wing).pku
  if u.owner.isNone then .next s
  else
    let s := advanceTo (u.holdFrom + cyclesNs (pkMHz s wing) (262145 - u.holdBase)) s
    let t := holderTicket s wing u.owner
    let s := countEvent wing 16 1 (some u.gallery) s
    let s := serveClaims wing (raisePku wing 4 (freePku wing true s))
    .next (offerWork (commandError 0x07 t (160 + wing) s))

/-- PKU_FAULT_ALARM (R237, R238). -/
def execPkuFaultAlarm (wing : Fin 16) (s : State) : Host.Outcome State Fault Refusal := .next (offerWork (pkuAlarm wing 2 0x05 s))

/-- PKU_SELF_CHECK_DONE (R238): after the wipe, a pass clears FAULTED and serves claims; a failure is a WING-scope error. -/
def execPkuSelfCheckDone (wing : Fin 16) (pass : Bool) (s : State) : Host.Outcome State Fault Refusal :=
  let u := (Sys2Proof.Machine.wing s wing).pku
  if !u.faulted || u.escalated then .next s
  else if pass then .next (serveClaims wing (updPku wing (fun u => { wipedPku u with faulted := false }) s))
  else .next (offerWork (wingError 0x05 wing (updPku wing (fun u => { u with escalated := true }) s)))

end Sys2Proof.Machine
end

