-- ==== Sys2Proof/Machine/KeyMsg.lean ====
section
/-!
DEFINITION. Accession messages (R187, R188, R190): their fields, their format checks (check 1 of Table 7-8), signers and signatures (checks 6 and 7, R188, R189), import keys.
-/

namespace Sys2Proof.Machine

/-! Fields (Table 7-5). -/

/-- The header of an accession message, its payload and its signature block. -/
structure AccMsg where
  format : Nat
  kind : Nat
  signer : Nat
  gallery : Nat
  slot : Nat
  sigLen : Nat
  counter : Nat
  inst : Nat
  serial1 : Nat
  digest1 : Bytes
  serial2 : Nat
  digest2 : Bytes
  useClass : Nat
  usage : Nat
  mode : Nat
  alg : Nat
  exportable : Nat
  keyBytes : Nat
  flags : Nat
  keyType : Nat
  parentSlot : Nat
  budget : Nat
  payloadLen : Nat
  sigAlg : Nat
  reserved : Nat
  payload : Bytes
  signature : Bytes
  signed : Bytes
  whole : Nat

/-- The message at frame byte 40. -/
def accMsg (f : Bytes) : AccMsg :=
  let n := leAt f 32 4
  let m := slice f 40 n
  let pl := leAt m 160 4
  let sg := 168 + pad8 pl
  { format := leAt m 0 2, kind := byteAt m 2, signer := byteAt m 3, gallery := leAt m 4 4, slot := leAt m 8 4, sigLen := leAt m 12 4
    counter := leAt m 16 8, inst := leAt m 24 16, serial1 := leAt m 40 16, digest1 := slice m 56 32, serial2 := leAt m 88 16
    digest2 := slice m 104 32, useClass := byteAt m 136, usage := ofBE (slice m 137 2), mode := byteAt m 139, alg := byteAt m 140
    exportable := byteAt m 141, keyBytes := byteAt m 142, flags := byteAt m 143, keyType := leAt m 144 4, parentSlot := leAt m 148 4
    budget := leAt m 152 8, payloadLen := pl, sigAlg := byteAt m 164, reserved := leAt m 165 3, payload := (m.drop 168).take pl
    signature := (m.drop sg).take (leAt m 12 4), signed := m.take sg, whole := n }

/-- REPLACE. -/
def AccMsg.replace (m : AccMsg) : Bool := bit m.flags 0
/-- DETACH. -/
def AccMsg.detach (m : AccMsg) : Bool := bit m.flags 1
/-- DUKPT. -/
def AccMsg.dukpt (m : AccMsg) : Bool := bit m.flags 2
/-- The key is of a public-key type. -/
def AccMsg.isPk (m : AccMsg) : Bool := m.alg == 80
/-- BUDGET is unlimited. -/
abbrev unlimited : Nat := 0xFFFFFFFFFFFFFFFF

/-! Check 1, FORMAT. -/

/-- Classes that a usage's row of Table 5-2 allows; only the row of C0 pairs them with modes (R175). -/
def rowClasses (usage mode : Nat) : List Nat :=
  if usage = chars 'P' '0' ∨ usage = chars 'V' '1' ∨ usage = chars 'V' '2' then [7]
  else if usage = chars 'C' '0' then (if mode = 86 then [6] else [5])
  else if usage = chars 'M' '1' ∨ usage = chars 'M' '3' ∨ usage = chars 'M' '6' ∨ usage = chars 'M' '7' then [5, 6]
  else if usage = chars 'D' '0' then [1, 2]
  else if usage = chars 'K' '0' ∨ usage = chars 'K' '1' then [3]
  else [4]

/-- A secret key's fields: a row of Table 5-2 with its classes, or USAGE 0x0000 with a class of Table 6-1 for its algorithm (R175). -/
def secretOk (m : AccMsg) : Bool :=
  m.keyType == 0 && keyBytesOk m.alg m.keyBytes &&
  (if m.usage = 0 then m.mode == 0 && (if m.alg = 72 then [4, 5, 6] else [1, 2, 3, 4]).contains m.useClass
   else usageRow m.usage m.mode m.alg m.keyBytes && (rowClasses m.usage m.mode).contains m.useClass)

/-- Fields that a key pair or public key leaves zero. -/
def plainPk (m : AccMsg) : Bool := m.isPk && m.usage == 0 && m.mode == 0 && m.keyBytes == 0 && !m.dukpt

/-- A key type of Table 6-7, with a slot only for a loaded curve (R158). -/
def typeKnown (kt : Nat) : Bool :=
  (ecTypes ++ edTypes ++ rsaTypes ++ dsaTypes ++ kemTypes).contains (kt % 256) && (kt % 256 == 0xFF || kt / 256 == 0)

/-- The class that a key pair of a type may carry (R175). -/
def pairClassOk (kt cls : Nat) : Bool :=
  (cls == 8 && (ecTypes ++ edTypes ++ rsaTypes ++ dsaTypes).contains (kt % 256)) ||
  (cls == 10 && (ecTypes ++ rsaTypes ++ kemTypes).contains (kt % 256))

/-- The fields of R157 in a DERIVE payload: METHOD, ALG, LABEL_LEN, CONTEXT_LEN, SALT_LEN. -/
def deriveFieldsOk (p : Bytes) : Bool :=
  let meth := byteAt p 0
  let end_ := 8 + pad8 (leAt p 2 2) + pad8 (leAt p 4 2)
  decide (8 ≤ p.length) && decide (1 ≤ meth) && decide (meth ≤ 3) && (if meth = 2 then byteAt p 1 == 0 else (hashOf (byteAt p 1)).isSome) &&
  decide (leAt p 2 2 ≤ 256) && decide (leAt p 4 2 ≤ 1024) && (if meth = 3 then decide (leAt p 6 2 ≤ 256) else leAt p 6 2 == 0) &&
  (p.length == end_ + leAt p 6 2 || p.length == end_ + pad8 (leAt p 6 2))

/-- The head of an AGREED payload: ALG, reserved bytes, CT_LEN (Table 7-7). -/
def agreedOk (p : Bytes) : Bool :=
  decide (8 ≤ p.length) && zeroAt p 1 3 &&
  ((byteAt p 0 == 1 && leAt p 4 4 == 97) || (byteAt p 0 == 2 && leAt p 4 4 == 1088)) && decide (8 + pad8 (leAt p 4 4) ≤ p.length)

/-- The fields of a message by kind (R175, Table 7-7, check 1). -/
def kindOk (m : AccMsg) : Bool :=
  let noParentGiven := m.parentSlot == noParent
  let inSlot := decide (m.parentSlot < 2 ^ 24)
  let key := if m.isPk then typeKnown m.keyType && pairClassOk m.keyType m.useClass && plainPk m else secretOk m
  match m.kind with
  | 1 => inSlot && key
  | 2 => noParentGiven && key && agreedOk m.payload
  | 3 => noParentGiven && typeKnown m.keyType && m.useClass == 9 && plainPk m
  | 4 => noParentGiven && key && m.payloadLen == 0
  | 5 => inSlot && !m.isPk && secretOk m && deriveFieldsOk m.payload
  | 6 => noParentGiven && m.slot == 0 && (m.keyType == 0x02 || m.keyType == 0x21) && m.useClass == 9 && plainPk m
  | 7 => noParentGiven && m.useClass == 0 && m.usage == 0 && m.mode == 0 && m.alg == 0 && m.exportable == 0 && m.keyBytes == 0 &&
      m.flags == 0 && m.keyType == 0 && m.payloadLen == 0
  | 8 => noParentGiven && m.useClass == 3 && m.usage == chars 'K' '0' && m.mode == 66 && m.alg == 65 && m.keyBytes == 32 && m.keyType == 0 &&
      agreedOk m.payload
  | 9 => noParentGiven
  | _ => false

/-- The reserved bytes of the custodian entries of a signature block are zero, as far as it is made of entries (R188); fuel. -/
def entriesPlain : Nat → Bytes → Bool
  | 0, _ => true
  | fuel + 1, b => decide (b.length < 8) || (zeroAt b 4 4 && entriesPlain fuel (b.drop (8 + pad8 (leAt b 2 2))))

/-- Check 1 for a function that takes certain kinds; a wrong SIGNER or SIG_ALG is for checks 6 and 7 (Table 7-8). -/
def formatOk (kinds : List Nat) (m : AccMsg) : Bool :=
  m.format == 1 && kinds.contains m.kind && m.reserved == 0 && decide (m.gallery < 2 ^ 20) && decide (m.slot < 2 ^ 24) && decide (m.flags < 8) &&
  (m.signer != 3 || entriesPlain 17 m.signature) &&
  m.budget != 0 && m.whole == 168 + pad8 m.payloadLen + m.sigLen &&
  (m.kind == 7 || m.kind == 9 || m.exportable == 69 || m.exportable == 78 || m.exportable == 83) &&
  (!m.dukpt || m.usage == chars 'B' '1') && kindOk m

/-! Signers (R188, R189). -/

/-- A public key that can verify a message: an authority's record in a slot 0, P-384 or ML-DSA-65. -/
def authorityIn (x : Gallery) : Option VRecord :=
  (recordAt x 0).bind (fun r => if r.kind = 3 ∧ (r.keyType = 0x02 ∨ r.keyType = 0x21) then some r else none)

/-- The same in a gallery by its ID. -/
def authorityOf (s : State) (g : Nat) : Option VRecord := (gal s g).bind authorityIn

/-- SIGNER that Table 7-6 requires. -/
def requiredSigner (s : State) (m : AccMsg) (g : Nat) : Nat :=
  if g = 0 then (if m.kind = 6 ∨ m.kind = 8 ∨ m.kind = 9 then 3 else 2)
  else if m.kind = 6 ∧ (authorityOf s g).isNone then 2 else 1

/-- A signature over a message under a key of SIG_ALG 1 or 2 (R188). -/
def messageSigOk (sigAlg : Nat) (key signed sig : Bytes) : Bool :=
  if sigAlg = 1 then p384Verify key signed sig else dsaVerify dsa65 key (ascii "LX96-ACCESSION") signed sig

/-- A custodian's entry in a signature block. -/
structure CustodianSig where
  index : Nat
  sigAlg : Nat
  sig : Bytes
  deriving DecidableEq, Repr

/-- The entries of a signature block of SIGNER 3, `none` where it is not made of whole entries; fuel. -/
def custodianSigs : Nat → Bytes → Option (List CustodianSig)
  | 0, b => if b = [] then some [] else none
  | fuel + 1, b =>
    if b = [] then some []
    else
      let n := leAt b 2 2
      if b.length < 8 + pad8 n ∨ !zeroAt b 4 4 then none
      else (custodianSigs fuel (b.drop (8 + pad8 n))).map (fun t => { index := byteAt b 0, sigAlg := byteAt b 1, sig := slice b 8 n } :: t)

/-- Indices rise strictly. -/
def rising : List Nat → Bool
  | a :: b :: t => decide (a < b) && rising (b :: t)
  | _ => true

/-- The custodian set in force: the image's, while it matches the register (R202). -/
def custodiansInForce (s : State) : Option CustodianSet := if s.vit.custody.mismatch then none else s.img.set.custodians

/-- The custodian of an index. -/
def custodianAt (c : CustodianSet) (i : Nat) : Option Custodian := c.list.find? (fun x => x.index == i)

/-- The signer check of custodian entries: known, distinct, enough; exactly one for a COMPONENT, which has not contributed yet (check 6). -/
def custodianSignersOk (s : State) (set : CustodianSet) (kind : Nat) (es : List CustodianSig) : Bool :=
  rising (es.map (·.index)) && es.all (fun e => (custodianAt set e.index).isSome) &&
  (if kind = 8 then es.length == 1 && es.all (fun e => !(s.vit.custody.components.any (fun c => c.1 == e.index)))
   else decide (set.k ≤ es.length))

/-- The INDEX of the first custodian whose signature fails (check 7). -/
def badCustodian (set : CustodianSet) (signed : Bytes) (es : List CustodianSig) : Option Nat :=
  (es.find? (fun e => match custodianAt set e.index with
    | some c => !(e.sigAlg == c.sigAlg && messageSigOk c.sigAlg c.key signed e.sig)
    | none => true)).map (·.index)

/-! Identities and import keys. -/

/-- The serial and identity digest of this module. -/
def ownIdentity (s : State) : Nat × Bytes := (Config.serial.toNat, sha256 (identityPublic s))

/-- SERIAL and DIGEST fields of the placement, lower serial first (Table 7-5). -/
def placementIdentity (s : State) : (Nat × Bytes) × (Nat × Bytes) :=
  let a := ownIdentity s
  if !paired s then (a, (0, zeros 32))
  else
    let b := (s.pair.partnerSerial, sha256 s.pair.partnerIdentity)
    if a.1 ≤ b.1 then (a, b) else (b, a)

/-- Check 3. -/
def identityOk (s : State) (m : AccMsg) : Bool :=
  let (a, b) := placementIdentity s
  m.serial1 == a.1 && m.digest1 == a.2 && m.serial2 == b.1 && m.digest2 == b.2

/-- The EC import private key of a gallery (Table 7-4). -/
def importScalar (g : Gallery) : Nat := p384FromSeed (galleryKey g.rootKey "GAL-IMP-EC" g.desc.id 56)

/-- The ML-KEM import key pair of a gallery: encapsulation and decapsulation key (Table 7-4). -/
def importKem (g : Gallery) : Bytes × Bytes :=
  let z := galleryKey g.rootKey "GAL-IMP-KEM" g.desc.id 64
  kemKeyGen kem768 (z.take 32) (z.drop 32)

/-- The agreed wrapping key of an AGREED payload; `none` where the ciphertext is refused early (R190). -/
def agreedWrapKey (g : Gallery) (m : AccMsg) : Option Bytes :=
  let ct := slice m.payload 8 (leAt m.payload 4 4)
  let z := if byteAt m.payload 0 = 1 then
      (ecDecode p384 ct).bind (fun q => if ecOnCurve p384 q then ecdhShared p384 (importScalar g) q else none)
    else some (kemDecaps kem768 (importKem g).2 ct)
  z.map (fun z => kdfOneStep sha384 48 z (ascii "LX96-ACCESSION" ++ leBytes 4 m.gallery ++ leBytes 4 m.slot ++ leBytes 8 m.counter) 32)

/-- What follows the ciphertext of an AGREED payload. -/
def agreedBody (p : Bytes) : Bytes := p.drop (8 + pad8 (leAt p 4 4))

end Sys2Proof.Machine
end

