-- ==== Sys2Proof/Machine/KeyOps.lean ====
section
/-!
DEFINITION. The meanings of ACCESSION, CEREMONY_ACCESSION, DEACCESSION, KEY_QUERY and ACCESSION_INFO (R169 to R203).
-/

namespace Sys2Proof.Machine

/-! Private keys (R190). -/

/-- The material of a key pair from its private part: EC scalar, seeds, and the public key recomputed; `none` where they are not consistent. -/
def pairMaterial (g : Gallery) (kt : Nat) (priv : Bytes) : Option Bytes :=
  match kt % 256 with
  | 0x01 | 0x02 | 0x03 | 0xFF =>
    match domainOf g kt with
    | .bad _ => none
    | .curve d =>
      let x := ofBE priv
      if priv.length = ecScalarLen d.curve ∧ scalarOk d x = true then (ecPublic d.curve x).map (fun q => priv ++ ecEncode d.curve q) else none
  | 0x04 | 0x05 => if priv.length = (edOf kt).len then some (priv ++ edPublic (edOf kt) priv) else none
  | 0x10 | 0x11 | 0x12 =>
    let h := rsaLen kt / 2
    let v := fun i => ofBE (slice priv (i * h) h)
    let e := ofBE (priv.drop (5 * h))
    let (p, q) := (v 0, v 1)
    if priv.length = 5 * h + 4 ∧ bitLen (p * q) = 8 * rsaLen kt ∧ p ≠ q ∧ e % 2 = 1 ∧ e ≥ 65537 ∧ 1 < p ∧ 1 < q ∧ p % 2 = 1 ∧ q % 2 = 1 ∧
      e * v 2 % (p - 1) = 1 ∧ e * v 3 % (q - 1) = 1 ∧ v 4 * q % p = 1 then some (priv.take (5 * h) ++ beBytes (2 * h) (p * q) ++ priv.drop (5 * h)) else none
  | 0x20 | 0x21 | 0x22 => if priv.length = 32 then some (priv ++ dsaPublic (dsaOf kt) priv) else none
  | _ => if priv.length = 64 then some (priv ++ (kemKeyGen (kemOf kt) (priv.take 32) (priv.drop 32)).1) else none

/-! Generation (R192, R275). -/

/-- A prime of `len` bytes with its two top bits set and p - 1 prime to 65,537, from drawn candidates; fuel. -/
def drawPrime (inst len : Nat) : Nat → State → Option Nat × State
  | 0, s => (none, s)
  | fuel + 1, s =>
    let (b, s) := drawBytes inst len s
    let c := ofBE b % 2 ^ (8 * len - 2) + 3 * 2 ^ (8 * len - 2)
    let c := if c % 2 = 0 then c + 1 else c
    if (c - 1) % 65537 = 0 then drawPrime inst len fuel s
    else
      let (ok, s) := probablePrime inst c 64 s
      if ok then (some c, s) else drawPrime inst len fuel s

/-- The private part of a generated RSA key (log 25). -/
def drawRsa (inst kt : Nat) (s : State) : Option Bytes × State :=
  let h := rsaLen kt / 2
  match drawPrime inst h 65536 s with
  | (none, s) => (none, s)
  | (some p, s) =>
    match drawPrime inst h 65536 s with
    | (none, s) => (none, s)
    | (some q, s) =>
      (some (beBytes h p ++ beBytes h q ++ beBytes h (invMod 65537 (p - 1)) ++ beBytes h (invMod 65537 (q - 1)) ++ beBytes h (invMod q p) ++
        beBytes 4 65537), s)

/-- The private part of a generated key pair. -/
def drawPrivate (inst : Nat) (g : Gallery) (kt : Nat) (s : State) : Option Bytes × State :=
  match kt % 256 with
  | 0x01 | 0x02 | 0x03 | 0xFF =>
    match domainOf g kt with
    | .bad _ => (none, s)
    | .curve d => let (x, s) := drawScalar inst d s; (some (beBytes (ecScalarLen d.curve) x), s)
  | 0x04 | 0x05 => let (b, s) := drawBytes inst (edOf kt).len s; (some b, s)
  | 0x10 | 0x11 | 0x12 => drawRsa inst kt s
  | 0x20 | 0x21 | 0x22 => let (b, s) := drawBytes inst 32 s; (some b, s)
  | _ => let (b, s) := drawBytes inst 64 s; (some b, s)

/-! The checks of Table 7-8. -/

/-- A rejection: its reason and the custodian INDEX (R192). -/
def rejected (reason index : Nat) : Resp :=
  { status := Status.accessionRejected, fnFlags := 0, payload := [BitVec.ofNat 8 reason, BitVec.ofNat 8 index] ++ zeros 6 }

/-- Checks 6 and 7 with an authority's key, the gallery's own as the command took it; a damaged authority is ENGINE_FAULT (R98, R329). -/
def authorityChecks (s : State) (m : AccMsg) (g : Nat) (x : Gallery) : Option Resp :=
  let need := requiredSigner s m g
  let home := if need = 2 then 0 else g
  match (if home = g then authorityIn x else authorityOf s home) with
  | none => some (rejected 6 0)
  | some a =>
    if m.signer ≠ need then some (rejected 6 0)
    else if ((gal s home).map (fun x => x.damaged.contains 0)).getD false then some (statusOnly Status.engineFault)
    else if ((m.sigAlg = 1 ∧ a.keyType = 0x02) ∨ (m.sigAlg = 2 ∧ a.keyType = 0x21)) ∧ messageSigOk m.sigAlg a.material m.signed m.signature = true then none
    else some (rejected 7 0)

/-- Checks 6 and 7 with custodians; with no set in force every ceremony function is rejected with reason CEREMONY (R202, R392). -/
def custodianChecks (s : State) (m : AccMsg) : Option Resp :=
  match custodiansInForce s with
  | none => some (rejected 11 0)
  | some set =>
    match custodianSigs 17 m.signature with
    | none => some (rejected 6 0)
    | some es =>
      if m.signer ≠ 3 ∨ custodianSignersOk s set m.kind es = false then some (rejected 6 0)
      else if m.sigAlg ≠ 0 then some (rejected 7 0)
      else (badCustodian set m.signed es).map (rejected 7)

/-- Checks 1 to 8; `kinds` are those the function takes, `open_` says whether a ceremony is open for the command. -/
def headChecks (kinds : List Nat) (open_ : Bool) (s : State) (m : AccMsg) (g : Nat) (x : Gallery) : Option Resp :=
  if !formatOk kinds m then some (rejected 1 0)
  else if m.gallery ≠ g then some (rejected 3 0)
  else if !identityOk s m then some (rejected 2 0)
  else if m.inst ≠ x.inst then some (rejected 4 0)
  else if m.counter ≤ x.accession ∨ (m.kind = 8 ∧ s.vit.custody.components ≠ [] ∧ m.counter ≠ s.vit.custody.loadCounter) then some (rejected 5 0)
  else if g = 0 ∧ (m.kind = 6 ∨ m.kind = 8 ∨ m.kind = 9) then
    (if kinds.contains 8 then orElseResp (custodianChecks s m) (if open_ then none else some (rejected 11 0)) else some (rejected 6 0))
  else authorityChecks s m g x

/-- Check 9, SLOT. The register of slot 2 of gallery 0 lies outside the records: a CUSTODIANS message needs no REPLACE (log 191). -/
def slotChecks (m : AccMsg) (g : Nat) (x : Gallery) : Option Resp :=
  let old := recordAt x m.slot
  let reserved := reservedSlot g m.slot
  let bad :=
    match m.kind with
    | 7 => reserved || ((old.map isKey).getD false) == false
    | 9 => m.slot != 2
    | 8 => m.slot != 1 || (old.isSome && !m.replace)
    | 6 => old.isSome && !m.replace
    | _ => reserved || (match old with
      | some r => r.kind == 5 || r.kind == 6 || !m.replace
      | none => false)
  if bad then some (rejected 8 0)
  else if m.kind = 7 && x.damaged.contains m.slot then some (statusOnly Status.engineFault)
  else none

/-- Material bytes of the record that a message writes (Table 7-2), for the quota of check 10. -/
def newMaterialLen (x : Gallery) (m : AccMsg) : Nat :=
  if m.kind = 3 ∨ m.kind = 6 then publicLen x m.keyType
  else if m.isPk then privateLen x m.keyType + publicLen x m.keyType
  else m.keyBytes

/-- Check 10: whether the write stays within the quota. -/
def accQuotaOk (x : Gallery) (m : AccMsg) : Bool :=
  m.kind == 7 || m.kind == 9 || slotQuotaOk x m.slot { (default : VRecord) with material := zeros (newMaterialLen x m) }

/-- Check 11, PARENT, of WRAPPED and DERIVE; a damaged parent or ancestor is ENGINE_FAULT (R329). -/
def parentChecks (m : AccMsg) (x : Gallery) : Option Resp :=
  if m.kind ≠ 1 ∧ m.kind ≠ 5 then none
  else if x.damaged.contains m.parentSlot then some (statusOnly Status.engineFault)
  else match recordAt x m.parentSlot with
    | none => some (rejected 9 0)
    | some p =>
      if p.kind ≠ 1 then some (rejected 9 0)
      else match chainFault x 8 p with
        | some st => some (if st = Status.engineFault then statusOnly st else rejected 9 0)
        | none =>
          let deep := decide (p.depth ≥ 7)
          let spent := p.finite && p.budget == 0
          let bad := if m.kind = 1 then p.useClass != 3 || (deep && !m.detach) || (m.isPk && !(p.alg == 65 && p.material.length == 32))
            else p.useClass != 4 || deep || (byteAt m.payload 0 == 2 && p.alg != 65)
          if bad || spent then some (rejected 9 0) else none

/-- Check 12, STRENGTH; an agreed key is AES-256, the strongest of the order. -/
def strengthChecks (m : AccMsg) (x : Gallery) : Option Resp :=
  match m.kind, recordAt x m.parentSlot with
  | 1, some p => if !m.isPk && decide (strengthOf p.alg p.material.length < strengthOf m.alg m.keyBytes) then some (rejected 12 0) else none
  | _, _ => none

/-! Payloads (check 13). -/

/-- A secret key from an X9.143 block whose header agrees with the message; USAGE 0x0000 leaves the block's usage and mode open (log 26). -/
def secretFromBlock (m : AccMsg) (kalg : Nat) (key body : Bytes) : Option (Bytes × Bytes) :=
  match openBlock kalg key (body.take ((blockLength body).getD body.length)) with
  | none => none
  | some (h, kb) =>
    if h.alg = m.alg ∧ h.exportable = m.exportable ∧ kb.length = m.keyBytes ∧ (m.usage = 0 ∨ (h.usage = m.usage ∧ h.mode = m.mode)) then
      some (kb, ((h.opts.find? (fun o => o.id == chars 'I' 'K' || o.id == chars 'K' 'S')).map (·.data)).getD [])
    else none

/-- The material under a wrapping key: a secret key, or a private key by AES-KWP with its public key recomputed. -/
def unwrapMaterial (x : Gallery) (m : AccMsg) (kalg : Nat) (key body : Bytes) : Option (Bytes × Bytes) :=
  if m.isPk then ((kwpUnwrap key body).bind (pairMaterial x m.keyType)).map (fun v => (v, []))
  else secretFromBlock m kalg key body

/-- A public key payload passes the early rejections of Table 6-12. -/
def publicPayloadOk (x : Gallery) (m : AccMsg) : Bool :=
  (match (if ecTypes.contains (m.keyType % 256) then domainOf x m.keyType else .curve { curve := p256, cofactor := 1 }) with
   | .bad _ => false
   | .curve _ => true) && m.payload.length == publicLen x m.keyType && publicOk x m.keyType m.payload

/-- The key that DERIVE makes from its parent's material. -/
def deriveMaterial (m : AccMsg) (parent : Bytes) : Bytes :=
  let p := m.payload
  let ll := leAt p 2 2
  let cl := leAt p 4 2
  let label := slice p 8 ll
  let ctx := slice p (8 + pad8 ll) cl
  let salt := slice p (8 + pad8 ll + pad8 cl) (leAt p 6 2)
  let h := hashAt (byteAt p 1)
  match byteAt p 0 with
  | 1 => kdfCounter (h.hmac parent) h.len label ctx m.keyBytes
  | 2 => kdfCounter (cmac (aesOf parent)) 16 label ctx m.keyBytes
  | _ => kdfCounter (h.hmac (h.hmac (if salt = [] then zeros h.len else salt) parent)) h.len label ctx m.keyBytes

/-- The material that a message of kinds 1 to 6 yields, with the IK or KS value; `none` fails check 13. -/
def payloadMaterial (inst : Nat) (x : Gallery) (m : AccMsg) (s : State) : Option (Bytes × Bytes) × State :=
  let parent := recordAt x m.parentSlot
  match m.kind with
  | 1 => (parent.bind (fun p => unwrapMaterial x m p.alg p.material m.payload), s)
  | 2 => ((agreedWrapKey x m).bind (fun k => unwrapMaterial x m 65 k (agreedBody m.payload)), s)
  | 3 | 6 => (if publicPayloadOk x m then some (m.payload, []) else none, s)
  | 4 =>
    if m.isPk then
      let (p, s) := drawPrivate inst x m.keyType s
      ((p.bind (pairMaterial x m.keyType)).map (fun v => (v, [])), s)
    else
      let (b, s) := drawBytes inst m.keyBytes s
      (some (b, []), s)
  | _ => (parent.map (fun p => (deriveMaterial m p.material, [])), s)

/-- The loaded curve that a message's key is on is used, and rebuilt if it had been dropped (R236, R247). -/
def useMessageDomain (g : Nat) (m : AccMsg) (s : State) : State := if m.isPk then useKeyDomain g m.keyType s else s

/-! Writing (R191, R195, R196). -/

/-- The record that a message of kinds 1 to 6 writes. -/
def newRecord (x : Gallery) (m : AccMsg) (material keyId : Bytes) : VRecord :=
  let parent := if (m.kind = 1 ∧ m.detach = false) ∨ m.kind = 5 then recordAt x m.parentSlot else none
  let pk := m.kind == 3 || m.kind == 6
  { kind := if pk then 3 else if m.isPk then 2 else 1, useClass := m.useClass, usage := m.usage, mode := m.mode, alg := m.alg
    exportable := m.exportable, dukpt := m.dukpt, finite := m.budget != unlimited, keyType := m.keyType
    generation := match recordAt x m.slot with
      | some r => (r.generation + 1) % 2 ^ 32
      | none => 1
    gallery := x.desc.id, slot := m.slot, accession := m.counter, budget := m.budget, uses := 0
    parentDigest := (parent.map (fun p => recordDigest x.desc.id m.parentSlot p.generation)).getD (zeros 32)
    parentGen := (parent.map (·.generation)).getD 0, parentSlot := if parent.isSome then m.parentSlot else noParent
    kcv := if m.isPk then zeros 8 else kcvOf m.alg material, counter := 0, depth := (parent.map (·.depth + 1)).getD 0
    material := material, keyId := keyId }

/-- Sets the accession counter. -/
def setAccession (g n : Nat) (s : State) : Change × State := (.accession g n, updGal g (fun x => { x with accession := n }) s)

/-- Writes a record under an accession: the record it replaces loses its cache entry, the counter moves, a fence falls. -/
def writeAccession (g counter slot : Nat) (r : VRecord) (s : State) : List Change × State :=
  let old := (gal s g).bind (fun x => recordAt x slot)
  let s := replaceRecord g slot (some r) s
  let s := match old with
    | some o => if isKey o && o.generation != r.generation then discardRecord g slot o.generation s else s
    | none => s
  let (a, s) := setAccession g counter s
  let (f, s) := placeFence g s
  ([.vrecord g slot (some r), a, f], s)

/-- Public part of a record: of a key pair or a public key. -/
def publicOf (x : Gallery) (r : VRecord) : Bytes :=
  if r.kind = 2 then publicPart x r.keyType r.material else if r.kind = 3 then r.material else []

/-- The OK response of an accession (R192). -/
def accessionResp (x : Gallery) (r : VRecord) : Resp :=
  let pub := if r.kind = 2 then publicPart x r.keyType r.material else []
  okResp (leBytes 4 r.generation ++ leBytes 4 (recordUnits r) ++ r.kcv ++ leBytes 4 pub.length ++ zeros 4 ++ pub)

/-- The record that a BUDGET message writes (Table 7-7). -/
def rebudget (m : AccMsg) (r : VRecord) : VRecord :=
  let fin := m.budget != unlimited
  { r with budget := m.budget, finite := fin, uses := if fin then r.uses else 0 }

/-- The step of the parent or wrapping key that an accession used, if it still stands there (R98, R191). -/
def stepParent (g : Nat) (m : AccMsg) (x : Gallery) (s : State) : List Change × State :=
  let same := (recordAt x m.parentSlot).map (·.generation) == ((gal s g).bind (fun y => recordAt y m.parentSlot)).map (·.generation)
  if (m.kind = 1 ∨ m.kind = 5) ∧ same = true then
    match stepBudget g m.parentSlot s with
    | some (c, s) => (c.toList, s)
    | none => ([], s)
  else ([], s)

/-- What a message is checked against: the gallery as the command took it, with the slot it writes, the accession counter and the damage marks as they stand (R97, R98, R105). -/
def messageView (c : Ctx) (m : AccMsg) (x : Gallery) : Gallery :=
  { x with
    desc := c.gal.desc
    records := match recordAt x m.slot with
      | some r => mset c.gal.records m.slot r
      | none => mdel c.gal.records m.slot }

/-- Checks 9 to 13 of a message of kinds 1 to 7, and its effect; `x` is what it is checked against, and the quota counts the records there are. -/
def acceptKey (c : Ctx) (m : AccMsg) (x : Gallery) (s : State) : FnResult :=
  match slotChecks m c.g x with
  | some r => plain r s
  | none =>
    if !accQuotaOk { x with records := ((gal s c.g).getD x).records } m then quotaRefused c.g s
    else if m.kind = 7 then
      match recordAt x m.slot with
      | none => plain (rejected 8 0) s
      | some r =>
        let (ch, s) := writeAccession c.g m.counter m.slot (rebudget m r) s
        (accessionResp x { rebudget m r with kind := 1 }, ch, s)
    else match orElseResp (parentChecks m x) (strengthChecks m x) with
      | some r => plain r s
      | none =>
        match payloadMaterial (drawInstance c) x m (useMessageDomain c.g m s) with
        | (none, s) => plain (rejected 10 0) s
        | (some (mat, keyId), s) =>
          let r := newRecord x m mat keyId
          let (st, s) := stepParent c.g m x s
          let (ch, s) := writeAccession c.g m.counter m.slot r s
          (accessionResp x r, st ++ ch, s)

/-- ACCESSION: kinds 1 to 7. -/
def runAccession (c : Ctx) (s : State) : FnResult :=
  match gal s c.g with
  | none => plain (statusOnly Status.accessDenied) s
  | some x =>
    let m := accMsg c.f
    let v := messageView c m x
    match headChecks [1, 2, 3, 4, 5, 6, 7] false s m c.g v with
    | some r => plain r s
    | none => acceptKey c m v s

/-- A frame whose message is shorter than its header is BAD_LENGTH (log 190). -/
def checkMessage (c : Ctx) (_ : State) : Option Resp := refuse (decide (leAt c.f 32 4 < 168)) Status.badLength

/-- ACCESSION (R187 to R192). -/
def execAccession (cell : Fin 128) (s : State) : Host.Outcome State Fault Refusal :=
  .next (runFn cell 0x0D01 checkMessage runAccession s)

/-! DEACCESSION (R197). -/

/-- The record that replaces a key (R197). -/
def tombstone (r : VRecord) : VRecord :=
  { plainRecord 4 r.gallery r.slot [] with generation := (r.generation + 1) % 2 ^ 32 }

/-- The checks of DEACCESSION. -/
def checkDeaccession (c : Ctx) (s : State) : Option Resp :=
  let slot := leAt c.f 32 3
  if reservedSlot c.g slot then some (statusOnly Status.paramRejected)
  else match (gal s c.g).bind (fun x => recordAt x slot) with
    | none => some (statusOnly Status.keyNotFound)
    | some r => refuse (r.kind == 4) Status.keyRevoked

/-- A prepared domain goes with its curve record. -/
def dropDomain (g slot : Nat) (s : State) : State :=
  { s with vit := { s.vit with domains := s.vit.domains.filter (fun d => !(d.1 == g && d.2.1 == slot)) } }

/-- DEACCESSION: a key leaves a tombstone, any other record an empty slot; a fence falls (R98). -/
def runDeaccession (c : Ctx) (s : State) : FnResult :=
  let slot := leAt c.f 32 3
  match (gal s c.g).bind (fun x => recordAt x slot) with
  | none => plain (statusOnly Status.keyNotFound) s
  | some r =>
    let new := if isKey r then some (tombstone r) else none
    let s := replaceRecord c.g slot new s
    let s := if isKey r then discardRecord c.g slot r.generation s else dropDomain c.g slot s
    let (f, s) := placeFence c.g s
    (okResp [], [.vrecord c.g slot new, f], s)

/-- DEACCESSION (R197). -/
def execDeaccession (cell : Fin 128) (s : State) : Host.Outcome State Fault Refusal :=
  .next (runFn cell 0x0D02 checkDeaccession runDeaccession s)

/-! KEY_QUERY (R194). -/

/-- The checks of KEY_QUERY. -/
def checkKeyQuery (c : Ctx) (_ : State) : Option Resp :=
  let slot := leAt c.f 32 3
  if c.gal.damaged.contains slot then some (statusOnly Status.engineFault)
  else refuse ((recordAt c.gal slot).isNone) Status.keyNotFound

/-- KEY_QUERY: the record's head and its public key. -/
def runKeyQuery (c : Ctx) (s : State) : FnResult :=
  match recordAt c.gal (leAt c.f 32 3) with
  | none => plain (statusOnly Status.keyNotFound) s
  | some r =>
    let pub := publicOf c.gal r
    plain (okResp (recordHead r ++ leBytes 4 pub.length ++ zeros 4 ++ pub)) s

/-- KEY_QUERY (R194). -/
def execKeyQuery (cell : Fin 128) (s : State) : Host.Outcome State Fault Refusal :=
  .next (runFn cell 0x0D03 checkKeyQuery runKeyQuery s)

/-! ACCESSION_INFO (R193). -/

/-- Response bytes 32 to 1,455. -/
def accessionInfo (s : State) (x : Gallery) : Bytes :=
  let (a, b) := placementIdentity s
  let own := ownIdentity s
  leBytes 16 x.inst ++ leBytes 8 x.accession ++ leBytes 4 x.desc.id ++ leBytes 4 x.desc.epoch ++ leBytes 4 x.keyGen ++
  leBytes 1 (b2n (authorityOf s x.desc.id).isSome) ++ leBytes 1 (if own = a then 1 else 2) ++ zeros 2 ++
  leBytes 16 a.1 ++ a.2 ++ leBytes 16 b.1 ++ b.2 ++
  slice (((ecPublic p384 (importScalar x)).map (ecEncode p384)).getD []) 0 104 ++ (importKem x).1

/-- ACCESSION_INFO: the data and the identity key's signature. -/
def runAccessionInfo (c : Ctx) (s : State) : FnResult :=
  let d := accessionInfo s ((gal s c.g).getD c.gal)
  plain (okResp (d ++ identitySign s d)) s

/-- ACCESSION_INFO (R193). -/
def execAccessionInfo (cell : Fin 128) (s : State) : Host.Outcome State Fault Refusal :=
  .next (runFn cell 0x0D04 (fun _ _ => none) runAccessionInfo s)

/-! CEREMONY_ACCESSION (R202, R203). -/

/-- The custodian list of a section or payload (R389), `none` where it is malformed; fuel for its entries. -/
def custodianEntries : Nat → Nat → Bytes → Option (List Custodian × Bytes)
  | 0, _, b => some ([], b)
  | n + 1, last, b =>
    let i := byteAt b 0
    let a := byteAt b 1
    let l := leAt b 2 2
    if b.length < 8 + pad8 l ∨ i ≤ last ∨ i > 16 ∨ !zeroAt b 4 4 ∨ !((a = 1 ∧ l = 97) ∨ (a = 2 ∧ l = 1952)) then none
    else (custodianEntries n i (b.drop (8 + pad8 l))).map (fun r => ({ index := i, sigAlg := a, key := slice b 8 l } :: r.1, r.2))

/-- A custodian list with 2 ≤ K ≤ N ≤ 16. -/
def custodianList (b : Bytes) : Option CustodianSet :=
  let n := byteAt b 0
  let k := byteAt b 1
  if 2 ≤ n ∧ n ≤ 16 ∧ 2 ≤ k ∧ k ≤ n ∧ zeroAt b 2 6 = true ∧ 8 ≤ b.length then
    match custodianEntries n 0 (b.drop 8) with
    | some (l, rest) => if rest = [] then some { k := k, list := l, content := b } else none
    | none => none
  else none

/-- The public values that the main domain places in Curator SRAM (R397). -/
def copyToCurator (s : State) : State :=
  { s with img := { s.img with
      sramDigests := (s.vit.custody.current, s.vit.custody.pending), sramSet := s.img.registerSet, sramCeiling := s.img.ceiling
      sramPin := (s.bb.pinned, s.bb.floor) } }

/-- The component that a COMPONENT message carries: 32 bytes in a version D block or under AES-KWP (log 27). -/
def componentOf (x : Gallery) (m : AccMsg) : Option Bytes :=
  (agreedWrapKey x m).bind (fun k =>
    let body := agreedBody m.payload
    match secretFromBlock m 65 k body with
    | some (v, _) => some v
    | none => (kwpUnwrap k body).bind (fun v => if v.length = 32 then some v else none))

/-- A component is received; the k-th completes the load and writes slot 1 (R203). -/
def acceptComponent (c : Ctx) (m : AccMsg) (x : Gallery) (k : Nat) (s : State) : FnResult :=
  match componentOf x m with
  | none => plain (rejected 10 0) s
  | some v =>
    let who := byteAt m.signature 0
    let all := s.vit.custody.components ++ [(who, v)]
    let kcv := kcvOf 65 v
    if all.length < k then
      (okResp (zeros 4 ++ leBytes 4 all.length ++ kcv ++ zeros 8), [],
        { s with vit := { s.vit with custody := { s.vit.custody with components := all, loadCounter := m.counter } } })
    else
      let key := all.foldl (fun a p => xorBytes a p.2) (zeros 32)
      let r := newRecord x { m with slot := 1 } key []
      let s := { s with vit := { s.vit with custody := { s.vit.custody with components := [], loadCounter := 0 } } }
      let (ch, s) := writeAccession 0 m.counter 1 r s
      (okResp (leBytes 4 r.generation ++ leBytes 4 all.length ++ kcv ++ r.kcv), ch, s)

/-- A new custodian set becomes the register's pending value (R202). -/
def acceptCustodians (m : AccMsg) (s : State) : FnResult :=
  match custodianList m.payload with
  | none => plain (rejected 10 0) s
  | some _ =>
    let s := { s with vit := { s.vit with custody := { s.vit.custody with pending := some (sha256 m.payload), setPending := true } } }
    let (a, s) := setAccession 0 m.counter (touchVitrine s)
    let (f, s) := placeFence 0 s
    (okResp (zeros 24), [a, f], copyToCurator s)

/-- A ceremony is open for the command: it is open now, or a COMPONENT was taken while it was (R200, R206). -/
def openFor (c : Ctx) (m : AccMsg) (s : State) : Bool := ceremonyOpen s || (m.kind == 8 && c.d.ceremony)

/-- A COMPONENT that completes after its ceremony has closed is destroyed with the partial load, unless another is still in service (R206). -/
def endLoad (c : Ctx) (s : State) : State :=
  if s.vit.custody.dying && !componentInService s (some c.t) then dropLoad s else s

/-- CEREMONY_ACCESSION: kinds 6, 8 and 9 for gallery 0. -/
def runCeremony (c : Ctx) (s : State) : FnResult :=
  match gal s c.g with
  | none => plain (statusOnly Status.accessDenied) s
  | some x =>
    let m := accMsg c.f
    match orElseResp (headChecks [6, 8, 9] (openFor c m s) s m c.g x) (slotChecks m c.g x) with
    | some r => plain r (endLoad c s)
    | none =>
      if m.kind = 6 then
        let (f, ch, s) := acceptKey c m x s
        (f, ch, copyToCurator s)
      else if !accQuotaOk x m then quotaRefused c.g s
      else if m.kind = 8 then
        let (r, ch, s) := acceptComponent c m x (((custodiansInForce s).map (·.k)).getD 2) s
        (r, ch, endLoad c s)
      else acceptCustodians m s

/-- CEREMONY_ACCESSION (R203). -/
def execCeremonyAccession (cell : Fin 128) (s : State) : Host.Outcome State Fault Refusal :=
  .next (runFn cell 0x0E21 checkMessage runCeremony s)

end Sys2Proof.Machine
end

