-- ==== Sys2Proof/Machine/GalleryOps.lean ====
section
/-!
DEFINITION. The meanings of the gallery functions (R31 to R40, R43, R54, R457).
-/

namespace Sys2Proof.Machine

/-! The descriptor (R37, Table 2-2). -/

/-- A descriptor's 64 bytes. -/
def descriptorBytes (d : Descriptor) : Bytes :=
  leBytes 4 d.id ++ leBytes 4 d.privileges ++ leBytes 2 d.wakeTol ++ leBytes 2 d.reach ++ leBytes 2 d.cmdRate ++ leBytes 2 d.cmdBurst ++
  leBytes 2 d.pkRate ++ leBytes 2 d.pkBurst ++ leBytes 2 d.stagingKib ++ leBytes 2 d.flows ++ leBytes 4 d.cacheShare ++ leBytes 4 d.slots ++
  leBytes 1 d.loans ++ leBytes 1 d.prioCeiling ++ zeros 2 ++ leBytes 4 d.epoch ++ leBytes 2 d.home ++ leBytes 2 d.partner ++ zeros 20

/-- The descriptor that 64 bytes spell. -/
def descriptorOf (b : Bytes) : Descriptor :=
  { id := leAt b 0 4, privileges := leAt b 4 4, wakeTol := leAt b 8 2, reach := leAt b 10 2, cmdRate := leAt b 12 2, cmdBurst := leAt b 14 2
    pkRate := leAt b 16 2, pkBurst := leAt b 18 2, stagingKib := leAt b 20 2, flows := leAt b 22 2, cacheShare := leAt b 24 4
    slots := leAt b 28 4, loans := byteAt b 32, prioCeiling := byteAt b 33, epoch := leAt b 36 4, home := leAt b 40 2, partner := leAt b 42 2 }

/-- The selectable fields of a descriptor in the order of Table 2-8: lowest value, value, and the value in MAXIMUM; the privileges' own test comes apart. -/
def numericFields (d m : Descriptor) : List (Nat × Nat × Nat) :=
  [(0, d.wakeTol, m.wakeTol), (0, d.reach, m.reach), (0, d.cmdRate, m.cmdRate), (1, d.cmdBurst, m.cmdBurst), (0, d.pkRate, m.pkRate),
   (1, d.pkBurst, m.pkBurst), (0, d.stagingKib, m.stagingKib), (1, d.flows, m.flows), (0, d.cacheShare, m.cacheShare), (0, d.slots, m.slots),
   (0, d.loans, m.loans), (0, d.prioCeiling, m.prioCeiling)]

/-- The selected fields lie within Table 2-2 and MAXIMUM; bit i of `mask` selects as Table 2-8 says (R36, R37, R388). -/
def fieldsOk (m : Descriptor) (mask : Nat) (d : Descriptor) : Bool :=
  (!bit mask 0 || (decide (d.privileges < 32) && d.privileges &&& m.privileges == d.privileges)) &&
  ((numericFields d m).zip (numericFields d defaultMaximum)).zipIdx.all (fun p =>
    !bit mask (p.2 + 1) ||
    (decide (p.1.1.1 ≤ p.1.1.2.1) && decide (p.1.1.2.1 ≤ p.1.1.2.2) && decide (p.1.1.2.1 ≤ p.1.2.2.2)))

/-- Every field selected. -/
abbrev allFields : Nat := 0x1FFF

/-- Physical records that galleries may use beside header and anchor records (R174). -/
abbrev slotLimit : Nat := 16773119

/-- The sum of R174 over every gallery held here but `id`; gallery 0's fixed reserve counts in full (R456). -/
def slotSum (s : State) (id : Nat) : Nat :=
  s.vit.galleries.foldl (fun a p => if p.1 = id then a else a + p.2.desc.slots) 0

/-- A gallery homed here, and no loan copy (R32). -/
def homed (s : State) (g : Nat) : Option Gallery :=
  match gal s g with
  | some x => if x.loanCopy.isSome then none else some x
  | none => none

/-! GALLERY_CREATE. -/

/-- The descriptor that a GALLERY_CREATE gives (R388, R457). -/
def createdDescriptor (s : State) (f : Bytes) : Descriptor :=
  if hdrLength f ≥ 64 then descriptorOf (slice f 32 64) else { s.img.set.template with id := leAt f 32 4 }

/-- The refusals of GALLERY_CREATE in the order of R36. -/
def createRefusal (s : State) (d : Descriptor) : Option Resp :=
  orElseResp (refuse (decide (d.id ≥ 2 ^ 20) || !fieldsOk s.img.set.maximum allFields d) Status.paramRejected)
  (orElseResp (refuse (d.id == 0 || d.id == 0xFFFFF || (gal s d.id).isSome) Status.accessDenied)
  (refuse (decide (homedCount s ≥ 4096) || decide (slotSum s d.id + d.slots > slotLimit) || decide (s.bb.creation ≥ 0xFFFFFFFF)) Status.quotaExceeded))

/-- GALLERY_CREATE runs (R31, R36); what was known here of a gallery of that ID homed elsewhere is forgotten (log 174), and so is what METER_ACK had acknowledged of a gallery of that ID removed before, whose record numbers begin again at 1 (log 194). -/
def createGallery (c : Ctx) (s : State) : FnResult :=
  let d := createdDescriptor s c.f
  match freeIndex s with
  | none => (statusOnly Status.quotaExceeded, [], s)
  | some index =>
    let (b, s) := drawBytes (drawInstance c) 16 s
    let d := { d with epoch := s.bb.creation + 1, home := placement s, partner := partnerField s }
    let g := newGallery s d index (ofLE b)
    let s := { s with
      bb := { s.bb with creation := s.bb.creation + 1 }
      vit := { s.vit with galleries := mset s.vit.galleries d.id g, remote := mdel s.vit.remote d.id, meterAcks := mdel s.vit.meterAcks d.id } }
    (okResp (descriptorBytes d), [.gallery d.id (some d) g.inst g.rootKey], touchVitrine s)

/-- The checks of GALLERY_CREATE, on the descriptor that it would make. -/
def createCheck (c : Ctx) (s : State) : Option Resp := createRefusal s (createdDescriptor s c.f)

/-- GALLERY_CREATE (R35, R36, R37, R457). -/
def execGalleryCreate (cell : Fin 128) (s : State) : Host.Outcome State Fault Refusal :=
  .next (runFn cell 0x0E01 createCheck createGallery s)

/-! GALLERY_BIND and GALLERY_UNBIND. -/

/-- The descriptor of a gallery homed elsewhere, as its home gives it at the bind or as it is known here (log 180). -/
def farDescriptor (s : State) (g : Nat) (far : Option Descriptor) : Option Descriptor :=
  (far.map (fun d => { d with id := g })) <|> mget s.vit.remote g

/-- The gallery is homed elsewhere and outside its reach, or nothing in the span answers for it (R50). -/
def bindOutOfReach (s : State) (g : Nat) (far : Option Descriptor) : Bool :=
  (gal s g).isNone && ((farDescriptor s g far).map (outOfReach s)).getD true

/-- The refusals of GALLERY_BIND. -/
def bindRefusal (far : Option Descriptor) (c : Ctx) (s : State) : Option Resp :=
  let g := leAt c.f 32 4
  let vf := leAt c.f 36 2
  orElseResp (refuse (decide (g ≥ 2 ^ 20) || vf == 0 || decide (vf > 1024)) Status.paramRejected)
  (orElseResp (refuse ((win s vf).gallery.isSome || decide ((boundWindows s g).length ≥ 16)) Status.accessDenied)
  (refuse (bindOutOfReach s g far) Status.outOfReach))

/-- GALLERY_BIND runs; of a gallery homed elsewhere the descriptor is known from here on. -/
def bindGallery (far : Option Descriptor) (c : Ctx) (s : State) : FnResult :=
  let g := leAt c.f 32 4
  let d := if (gal s g).isSome then none else farDescriptor s g far
  (okResp [], [.bind (leAt c.f 36 2) (some g) d], bindFar (leAt c.f 36 2) g d s)

/-- GALLERY_BIND (R34, R36). -/
def execGalleryBind (call : BindCell) (s : State) : Host.Outcome State Fault Refusal :=
  .next (runFn call.cell 0x0E02 (bindRefusal call.far) (bindGallery call.far) s)

/-- The refusal of GALLERY_UNBIND; the PF cannot be unbound (R33). -/
def unbindRefusal (c : Ctx) (s : State) : Option Resp :=
  let vf := leAt c.f 32 2
  let w := win s vf
  refuse (vf == 0 || decide (vf > 1024) || w.gallery.isNone || (w.unbind.map (fun u => u.ticket != c.t)).getD false) Status.accessDenied

/-- GALLERY_UNBIND begins: commits are refused from here on; the response waits for the drain (R38). -/
def beginUnbind (c : Ctx) (s : State) : State :=
  let vf := leAt c.f 32 2
  if (win s vf).unbind.isSome then s
  else refreshWindow vf (nextOrder (updWin vf (fun w => { w with unbind := some {
    ticket := c.t, expiry := s.now + 1000 * leAt c.f 36 4, order := s.doc.parkCount } }) s))

/-- GALLERY_UNBIND (R38). -/
def execGalleryUnbind (cell : Fin 128) (s : State) : Host.Outcome State Fault Refusal :=
  .next (runCmd cell 0x0E03 unbindRefusal beginUnbind s)

/-! GALLERY_REMOVE. -/

/-- The refusals of GALLERY_REMOVE; `elsewhere`: a window of another module in the span is bound to the gallery (R36). -/
def removeRefusal (elsewhere : Bool) (c : Ctx) (s : State) : Option Resp :=
  let g := leAt c.f 32 4
  match homed s g with
  | none => some (statusOnly Status.keyNotFound)
  | some x => refuse (g == 0 || boundWindows s g != [] || elsewhere || s.doc.flows.any (fun p => p.2.sid.gallery == g && p.2.openers != []) || x.loans != [] ||
      x.migration.isSome || x.arriving) Status.accessDenied

/-- GALLERY_REMOVE runs: one fence, the final record, and the gallery is gone. -/
def removeGallery (c : Ctx) (s : State) : FnResult :=
  let g := leAt c.f 32 4
  let (f, s) := placeFence g s
  (okResp [], [f, .gallery g none 0 []], dropGallery g (finalMeter g s))

/-- GALLERY_REMOVE (R36, R39). -/
def execGalleryRemove (call : RemoveCell) (s : State) : Host.Outcome State Fault Refusal :=
  .next (runFn call.cell 0x0E04 (removeRefusal call.elsewhere) removeGallery s)

/-! GALLERY_SET. -/

/-- A field as it stands after a change under MASK (Table 2-8). -/
def pick (mask i new old : Nat) : Nat := if bit mask i then new else old

/-- The descriptor as it stands after a change. -/
def changedDescriptor (mask : Nat) (n d : Descriptor) : Descriptor :=
  { d with
    privileges := pick mask 0 n.privileges d.privileges, wakeTol := pick mask 1 n.wakeTol d.wakeTol, reach := pick mask 2 n.reach d.reach
    cmdRate := pick mask 3 n.cmdRate d.cmdRate, cmdBurst := pick mask 4 n.cmdBurst d.cmdBurst, pkRate := pick mask 5 n.pkRate d.pkRate
    pkBurst := pick mask 6 n.pkBurst d.pkBurst, stagingKib := pick mask 7 n.stagingKib d.stagingKib, flows := pick mask 8 n.flows d.flows
    cacheShare := pick mask 9 n.cacheShare d.cacheShare, slots := pick mask 10 n.slots d.slots, loans := pick mask 11 n.loans d.loans
    prioCeiling := pick mask 12 n.prioCeiling d.prioCeiling }

/-- The refusals of GALLERY_SET in the order of R36. -/
def setRefusal (c : Ctx) (s : State) : Option Resp :=
  let mask := leAt c.f 32 4
  let n := descriptorOf (slice c.f 40 64)
  orElseResp (refuse (decide (n.id ≥ 2 ^ 20) || !fieldsOk s.img.set.maximum mask n) Status.paramRejected)
  (match homed s n.id with
   | none => some (statusOnly Status.keyNotFound)
   | some _ => orElseResp (refuse (n.id == 0) Status.accessDenied)
      (refuse (bit mask 10 && decide (slotSum s n.id + n.slots > slotLimit)) Status.quotaExceeded))

/-- MASK selects a quota of Table 2-5. -/
def changesQuota (mask : Nat) : Bool := bits mask 11 3 != 0

/-- GALLERY_SET runs, at a gallery-wide fence (R40); a MASK that selects nothing changes nothing. -/
def setGallery (c : Ctx) (s : State) : FnResult :=
  let mask := leAt c.f 32 4
  let n := descriptorOf (slice c.f 40 64)
  match gal s n.id with
  | none => (statusOnly Status.keyNotFound, [], s)
  | some x =>
    let d := changedDescriptor mask n (storedDescriptor s x)
    if mask = 0 then (okResp (descriptorBytes d), [], s)
    else
      let (f, s) := placeFence n.id (touchVitrine (putDescriptor n.id d s))
      let s := if changesQuota mask then latchGallery n.id 20 s else s
      (okResp (descriptorBytes d), [.gallery n.id (some d) x.inst x.rootKey, f], s)

/-- GALLERY_SET (R36, R40, R48, R457). -/
def execGallerySet (cell : Fin 128) (s : State) : Host.Outcome State Fault Refusal := .next (runFn cell 0x0E05 setRefusal setGallery s)

/-! GALLERY_RIGHTS and GALLERY_QUERY. -/

/-- The refusals of GALLERY_RIGHTS: a right that does not apply at the target reads 0, so it exceeds nothing (R36, R41, R43). -/
def rightsRefusal (c : Ctx) (s : State) : Option Resp :=
  let g := leAt c.f 32 4
  let t := byteAt c.f 36
  let b := byteAt c.f 37 &&& reachAt g t
  orElseResp (refuse ((decide (g ≥ 2 ^ 20) && (vfOf g).isNone) || decide (t > 10)) Status.paramRejected)
  (orElseResp (refuse ((vfOf g).isNone && (homed s g).isNone) Status.keyNotFound)
  (refuse (b &&& s.img.set.ceilingRow.getD t 0 != b) Status.accessDenied))

/-- GALLERY_RIGHTS runs: a gallery's row changes at a gallery-wide fence, a VF's, which is no gallery state, at once (R40, R43, R399). -/
def changeRights (c : Ctx) (s : State) : FnResult :=
  let g := leAt c.f 32 4
  let t := byteAt c.f 36
  let b := byteAt c.f 37 &&& reachAt g t
  if (vfOf g).isSome then (okResp [], [.rights g t b], putRights g t b s)
  else
    let (f, s) := placeFence g (touchVitrine (putRights g t b s))
    (okResp [], [.rights g t b, f], s)

/-- GALLERY_RIGHTS (R36, R42, R43). -/
def execGalleryRights (cell : Fin 128) (s : State) : Host.Outcome State Fault Refusal := .next (runFn cell 0x0E06 rightsRefusal changeRights s)

/-- GALLERY_QUERY answers the descriptor (R36, R37, R456). -/
def queryGallery (c : Ctx) (s : State) : FnResult :=
  plain (match homed s (leAt c.f 32 4) with
    | some x => okResp (descriptorBytes (storedDescriptor s x))
    | none => statusOnly Status.keyNotFound) s

/-- The checks of GALLERY_QUERY. -/
def queryRefusal (c : Ctx) (s : State) : Option Resp :=
  orElseResp (refuse (decide (leAt c.f 32 4 ≥ 2 ^ 20)) Status.paramRejected) (refuse (homed s (leAt c.f 32 4)).isNone Status.keyNotFound)

/-- GALLERY_QUERY (R36, R456). -/
def execGalleryQuery (cell : Fin 128) (s : State) : Host.Outcome State Fault Refusal :=
  .next (runFn cell 0x0E07 queryRefusal queryGallery s)

/-! METER_READ and METER_ACK (log 23). -/

/-- Every meter record kept: those only in the archive, then the store, oldest first (R54). -/
def keptRecords (s : State) : List MeterRecord := s.img.archive.filter (fun r => !s.vit.meterStore.contains r) ++ s.vit.meterStore

/-- METER_READ answers the first records from a number on, up to the count; it names no gallery, so records of every gallery are among them (R36, log 149). -/
def readMeter (c : Ctx) (s : State) : FnResult :=
  plain (okResp (((keptRecords s).filter (fun r => decide (leAt c.f 32 8 ≤ r.number))).take (byteAt c.f 40) |>.flatMap (·.bytes))) s

/-- The checks of METER_READ, which gallery 0 alone may submit: privilege bit 3 opens it to no other gallery (R36, R37, log 175). -/
def readRefusal (c : Ctx) (s : State) : Option Resp :=
  orElseResp (refuse (byteAt c.f 40 == 0) Status.paramRejected) (refuse (!hasRight (windowRow s 0) 7 rightRD) Status.accessDenied)

/-- METER_READ (R36, R54): the meter store is read in the PF's row (R44). -/
def execMeterRead (cell : Fin 128) (s : State) : Host.Outcome State Fault Refusal :=
  .next (runFn cell 0x0E08 readRefusal readMeter s)

/-- The number of the last record written for a gallery. -/
def lastMeter (s : State) (g : Nat) : Nat :=
  match gal s g with
  | some x => x.meterSeq
  | none => (keptRecords s).foldl (fun a r => if r.gallery = g then max a r.number else a) 0

/-- METER_ACK runs: the records up to the number may be overwritten (R54). -/
def ackMeter (c : Ctx) (s : State) : FnResult :=
  let g := leAt c.f 32 4
  (okResp [], [.meterAck g (leAt c.f 40 8)], ackRecords g (leAt c.f 40 8) s)

/-- The check of METER_ACK. -/
def ackRefusal (c : Ctx) (s : State) : Option Resp := refuse (decide (leAt c.f 40 8 > lastMeter s (leAt c.f 32 4))) Status.paramRejected

/-- METER_ACK (R36, R54). -/
def execMeterAck (cell : Fin 128) (s : State) : Host.Outcome State Fault Refusal :=
  .next (runFn cell 0x0E09 ackRefusal ackMeter s)

end Sys2Proof.Machine
end

