-- ==== Sys2Proof/Machine/ImageOps.lean ====
section
/-!
DEFINITION. The Ulond configuration image: its layout, its checks, its selection and what loading it sets (R385 to R398).
-/

namespace Sys2Proof.Machine

/-! Layout (R385, Table 16-2). -/

/-- An image as read: header fields, sections by type, the signed data and the signature block. -/
structure UlondImage where
  sigAlg : Nat
  loosens : Bool
  hasSuccessor : Bool
  version : Nat
  serial : Bytes
  sections : Map Bytes
  signed : Bytes
  sigBlock : Bytes
  deriving DecidableEq, Repr

/-- The sections of a body: known types, each once, each padded to a word; fuel. -/
def imageSections : Nat → Bytes → Map Bytes → Option (Map Bytes)
  | 0, b, m => if b = [] then some m else none
  | fuel + 1, b, m =>
    if b = [] then some m
    else
      let t := leAt b 0 2
      let l := leAt b 4 4
      if b.length < 8 + roundUp 8 l ∨ !zeroAt b 2 2 ∨ t < 1 ∨ t > 8 ∨ mhas m t = true then none
      else imageSections fuel (b.drop (8 + roundUp 8 l)) (mset m t (slice b 8 l))

/-- Length of an authority's key, and of its signature (Table 6-7). -/
def authorityLens (alg : Nat) : Option (Nat × Nat) := if alg = 1 then some (97, 96) else if alg = 2 then some (1952, 3309) else none

/-- Bytes of an erased or unprogrammed header. -/
def headerEmpty (h : Bytes) : Bool := h.take 4 != ascii "ULND" || h.all (· == 0xFF)

/-- The header and its lengths; `none` where malformed (check 2). -/
def imageOf (slot : Mem) : Option UlondImage :=
  let h := memReadBytes 0xFF slot 0 128
  let bl := leAt h 32 4
  let sl := leAt h 36 4
  let fl := byteAt h 7
  if leAt h 4 2 ≠ 1 ∨ fl > 3 ∨ leAt h 8 8 = 0 ∨ bl % 8 ≠ 0 ∨ 128 + bl + sl > 2 ^ 20 ∨ !zeroAt h 40 88 then none
  else match authorityLens (byteAt h 6) with
    | none => none
    | some (_, sigLen) =>
      if (if bit fl 0 then sl < sigLen else sl ≠ sigLen) then none
      else
        let body := memReadBytes 0xFF slot 128 bl
        (imageSections 8 body []).map (fun m =>
          { sigAlg := byteAt h 6, loosens := bit fl 0, hasSuccessor := bit fl 1, version := leAt h 8 8, serial := slice h 16 16
            sections := m, signed := h ++ body, sigBlock := memReadBytes 0xFF slot (128 + bl) sl })

/-! Settings (R386, R387, Table 16-4). -/

/-- A setting: its ID, its size, its range, and where it goes. -/
structure SettingRow where
  id : Nat
  size : Nat
  ok : Nat → Bool
  put : Settings → Nat → Settings

/-- A range. -/
def within (a b n : Nat) : Bool := decide (a ≤ n) && decide (n ≤ b)

/-- Table 16-4. -/
def settingRows : List SettingRow :=
  [{ id := 1, size := 1, ok := within 2 4, put := fun x n => { x with serviceMode := n } },
   { id := 2, size := 2, ok := within 0 4095, put := fun x n => { x with moduleId := n } },
   { id := 3, size := 2, ok := fun n => within 0 4095 n || n == 0xFFFF, put := fun x n => { x with partnerId := n } },
   { id := 4, size := 1, ok := within 0 2, put := fun x n => { x with member := n } },
   { id := 5, size := 1, ok := within 1 2, put := fun x n => { x with tieWinner := n } },
   { id := 6, size := 1, ok := within 0 3, put := fun x n => { x with pairPort := n } },
   { id := 7, size := 4, ok := within 100 600000, put := fun x n => { x with pairStartMs := n } },
   { id := 8, size := 1, ok := within 1 100, put := fun x n => { x with tickUs := n } },
   { id := 9, size := 2, ok := within 1 65535, put := fun x n => { x with takeTimeoutUs := n } },
   { id := 10, size := 4, ok := within 10 100000, put := fun x n => { x with gapTimeoutUs := n } },
   { id := 11, size := 4, ok := within 10 60000, put := fun x n => { x with opIdleMs := n } },
   { id := 12, size := 1, ok := within 10 20, put := fun x n => { x with reseedLog2 := n } },
   { id := 13, size := 1, ok := within 0 1, put := fun x n => { x with fatalRngAction := n } },
   { id := 14, size := 2, ok := within 0 65535, put := fun x n => { x with idleToleranceUs := n } },
   { id := 15, size := 1, ok := within 0 16, put := fun x n => { x with minRun := n } },
   { id := 16, size := 1, ok := within 0 1, put := fun x n => { x with noDark := n } },
   { id := 17, size := 1, ok := within 0 1, put := fun x n => { x with noPllStop := n } },
   { id := 18, size := 8, ok := fun _ => true, put := fun x n => { x with utcOffset := ofSigned 64 n } }]

/-- The records of a SETTINGS section, from the defaults; `none` for an unknown or repeated ID, a wrong size, a value out of range. -/
def imageSettings : List Bytes → List Nat → Settings → Option Settings
  | [], _, x => some x
  | r :: rest, seen, x =>
    match settingRows.find? (fun t => t.id == leAt r 0 2) with
    | none => none
    | some t =>
      if leAt r 2 2 ≠ t.size ∨ !zeroAt r 4 4 ∨ t.ok (leAt r 8 8) = false ∨ seen.contains t.id = true ∨ r.length ≠ 16 then none
      else imageSettings rest (t.id :: seen) (t.put x (leAt r 8 8))

/-! Rows, limits, span map (R388 to R390). -/

/-- A row of bytes sets no right beyond another. -/
def withinRow (row wired : List Nat) : Bool := row.length == wired.length && (row.zip wired).all (fun p => p.1 &&& p.2 == p.1)

/-- Bytes as numbers. -/
def rowOf (b : Bytes) : List Nat := b.map (·.toNat)

/-- FIXED_ROWS. -/
def imageFixedRows (b : Option Bytes) (x : Settings) : Option Settings :=
  match b with
  | none => some { x with fixedRows := defaultFixedRows }
  | some b => if b.length = 88 ∧ withinRow (rowOf b) defaultFixedRows = true then some { x with fixedRows := rowOf b } else none

/-- GALLERY_RIGHTS: DEFAULT, CEILING and VF rows. -/
def imageGalleryRights (b : Option Bytes) (x : Settings) : Option Settings :=
  match b with
  | none => some x
  | some b =>
    let d := rowOf (slice b 0 11)
    let c := rowOf (slice b 11 11)
    let v := rowOf (slice b 22 11)
    if b.length = 33 ∧ withinRow d defaultRow = true ∧ withinRow c defaultRow = true ∧ withinRow v defaultVfRow = true then
      some { x with defaultRights := d, ceilingRow := c, vfRow := v }
    else none

/-- A descriptor of GALLERY_LIMITS within Table 2-2. -/
def limitOk (b : Bytes) : Bool := zeroAt b 34 2 && zeroAt b 44 20 && fieldsOk defaultMaximum allFields (descriptorOf b)

/-- GALLERY_LIMITS: TEMPLATE and MAXIMUM. -/
def imageLimits (b : Option Bytes) (x : Settings) : Option Settings :=
  match b with
  | none => some x
  | some b =>
    if b.length = 128 ∧ limitOk (slice b 0 64) = true ∧ limitOk (slice b 64 64) = true then
      some { x with template := descriptorOf (slice b 0 64), maximum := descriptorOf (slice b 64 64) }
    else none

/-- CUSTODIANS, required in PRODUCTION and DEVELOPMENT (Table 16-3). -/
def imageCustodians (needed : Bool) (b : Option Bytes) (x : Settings) : Option Settings :=
  match b with
  | none => if needed then none else some x
  | some b => (custodianList b).map (fun c => { x with custodians := some c })

/-- One end of a link entry. -/
def linkEndAt (b : Bytes) (o : Nat) : LinkEnd := { module := leAt b o 2, port := byteAt b (o + 2) }

/-- SPAN_MAP (R390). -/
def spanMapOf (b : Bytes) : Option SpanMap :=
  let alg := byteAt b 0
  let n := leAt b 2 2
  let l := leAt b 4 2
  match authorityLens alg with
  | none => none
  | some (k, _) =>
    let m0 := 8 + roundUp 8 k
    let l0 := m0 + 24 * n
    if n < 1 ∨ n > 4096 ∨ l > 8192 ∨ b.length ≠ l0 + 8 * l ∨ !zeroAt b 1 1 ∨ !zeroAt b 6 2 then none
    else some
      { rootAlg := alg, root := slice b 8 k
        modules := (List.range n).map (fun i => (leAt b (m0 + 24 * i) 2, leAt b (m0 + 24 * i + 8) 16))
        links := (List.range l).map (fun i => (linkEndAt b (l0 + 8 * i), linkEndAt b (l0 + 8 * i + 4))) }

/-- The SPAN_MAP section. -/
def imageSpan (b : Option Bytes) (x : Settings) : Option Settings :=
  match b with
  | none => some x
  | some b => (spanMapOf b).map (fun m => { x with span := some m })

/-- The values of every section (check 2): `none` where a section is malformed, missing, or sets a right beyond R20. -/
def imageValues (custodiansNeeded : Bool) (i : UlondImage) : Option Settings :=
  let get := mget i.sections
  let authOk := (get 1).map (·.length) == (authorityLens i.sigAlg).map (·.1)
  let succOk := match get 2 with
    | some b => i.hasSuccessor && (authorityLens (byteAt b 0)).map (fun p => p.1 + 8) == some b.length && zeroAt b 1 7
    | none => !i.hasSuccessor
  let recs := match get 3 with
    | some b => chunks 16 (ceilDiv b.length 16) b
    | none => []
  if !authOk || !succOk then none
  else (imageSettings recs [] {}).bind (fun x => (imageCustodians custodiansNeeded (get 4) x).bind (fun x =>
    (imageSpan (get 5) x).bind (fun x => (imageFixedRows (get 6) x).bind (fun x =>
      (imageGalleryRights (get 7) x).bind (imageLimits (get 8))))))

/-! Consistency (R308, R387, R390). -/

/-- No value twice. -/
def distinct [DecidableEq α] (l : List α) : Bool := l.eraseDups.length == l.length

/-- Links of a module. -/
def degree (m : SpanMap) (n : Nat) : Nat := (m.links.filter (fun l => l.1.module == n)).length + (m.links.filter (fun l => l.2.module == n)).length

/-- A pair, a chain, a ring, or a tree of at most 3 children a node (R308): connected, with one link fewer than modules, or a ring. -/
def shapeOk (m : SpanMap) : Bool :=
  let n := m.modules.length
  let first := ((m.modules.head?).map (·.1)).getD 0
  let connected := (hopsFrom m.links n 0 [first] [(first, 0)]).length == n
  connected && ((m.links.length + 1 == n && m.modules.all (fun p => decide (degree m p.1 ≤ 4))) ||
    (decide (3 ≤ n) && m.links.length == n && m.modules.all (fun p => degree m p.1 == 2)))

/-- The map's own rules (R390). -/
def mapOk (x : Settings) (m : SpanMap) : Bool :=
  let ends := m.links.flatMap (fun l => [l.1, l.2])
  m.modules.contains (x.moduleId, Config.serial.toNat) && distinct (m.modules.map (·.1)) && distinct (m.modules.map (·.2)) &&
  m.modules.all (fun p => decide (p.1 ≤ 4095)) && ends.all (fun e => decide (e.port ≤ 3) && m.modules.any (fun p => p.1 == e.module)) &&
  distinct ends && shapeOk m

/-- The link between a module and its partner stands at its PAIR_PORT (R387). -/
def pairLinked (x : Settings) (m : SpanMap) : Bool :=
  let own : LinkEnd := { module := x.moduleId, port := x.pairPort }
  m.modules.any (fun p => p.1 == x.partnerId) &&
  m.links.any (fun l => (l.1 == own && l.2.module == x.partnerId) || (l.2 == own && l.1.module == x.partnerId))

/-- Check 7. -/
def consistent (x : Settings) : Bool :=
  (x.member == 0) == (x.partnerId == 0xFFFF) &&
  (match x.span with
   | some m => mapOk x m && (x.member == 0 || pairLinked x m)
   | none => x.member == 0)

/-! Tighten-only fields (R394, R395). -/

/-- The tighten-only fields of an image. -/
def ceilingOf (x : Settings) : Ceiling :=
  { reseedLog2 := x.reseedLog2, fatalRngAction := x.fatalRngAction, fixedRows := x.fixedRows, ceilingRow := x.ceilingRow, maximum := x.maximum }

/-- An image is nowhere looser than a ceiling record. -/
def tightens (x c : Ceiling) : Bool :=
  decide (x.reseedLog2 ≤ c.reseedLog2) && decide (c.fatalRngAction ≤ x.fatalRngAction) && withinRow x.fixedRows c.fixedRows &&
  withinRow x.ceilingRow c.ceilingRow && (numericFields x.maximum c.maximum).all (fun p => decide (p.2.1 ≤ p.2.2)) &&
  x.maximum.privileges &&& c.maximum.privileges == x.maximum.privileges

/-! The checks (R391, R396, Table 16-5). -/

/-- What an image is checked against: at START the main domain's own values, at staging their copies in Curator SRAM (R397). -/
structure ImageBase where
  pinned : Option Bytes
  floor : Nat
  /-- at staging: the version must be above this one -/
  above : Option Nat
  ceiling : Option Ceiling
  /-- the custodian register's current set, if it is not empty -/
  current : Option CustodianSet
  registerEmpty : Bool
  custodiansNeeded : Bool

/-- The message of one authority or custodian signature. -/
def imageSigOk (alg : Nat) (key signed sig : Bytes) : Bool :=
  if alg = 1 then p384Verify key signed sig else dsaVerify dsa65 key (ascii "LX96-ULOND") signed sig

/-- The authority digest pinned is that of this authority: of its own section, or of the SUCCESSOR section that named it (R393, log 36). -/
def authorityPinned (b : ImageBase) (i : UlondImage) : Bool :=
  match b.pinned with
  | none => true
  | some p =>
    let a := mgetD i.sections 1 []
    sha384 a == p || sha384 (leBytes 1 i.sigAlg ++ zeros 7 ++ a) == p

/-- Distinct custodians of a set whose signatures are valid. -/
def validCustodians (set : CustodianSet) (signed : Bytes) (es : List CustodianSig) : Nat :=
  ((es.filter (fun e => match custodianAt set e.index with
    | some c => e.sigAlg == c.sigAlg && imageSigOk c.sigAlg c.key signed e.sig
    | none => false)).map (·.index)).eraseDups.length

/-- Check 5: the authority's signature, and with LOOSENS those of K custodians of the register's current set, or of the image's own where the register is empty (R391, R397). -/
def imageSigned (b : ImageBase) (i : UlondImage) (x : Settings) : Bool :=
  let n := ((authorityLens i.sigAlg).map (·.2)).getD 0
  let set := if b.registerEmpty then x.custodians else b.current
  imageSigOk i.sigAlg (mgetD i.sections 1 []) i.signed (i.sigBlock.take n) &&
  (!i.loosens || (match set, custodianSigs 17 (i.sigBlock.drop n) with
    | some c, some es => decide (c.k ≤ validCustodians c i.signed es)
    | _, _ => false))

/-- Checks 3 to 8 on an image whose sections are well formed: the reason of the first that fails. -/
def imageReason (b : ImageBase) (i : UlondImage) (x : Settings) : Option Nat :=
  if i.serial ≠ serialBytes then some 3
  else if !authorityPinned b i then some 4
  else if !imageSigned b i x then some 5
  else if i.version < b.floor ∨ ((b.above.map (fun v => decide (i.version ≤ v))).getD false) = true then some 6
  else if !consistent x then some 7
  else if !i.loosens && !((b.ceiling.map (tightens (ceilingOf x))).getD true) then some 8
  else none

/-- The checks of Table 16-5 in order: the reason, or the candidate. -/
def checkSlot (b : ImageBase) (slot : Mem) : Nat ⊕ (UlondImage × Settings) :=
  if headerEmpty (memReadBytes 0xFF slot 0 128) then .inl 1
  else match imageOf slot with
    | none => .inl 2
    | some i =>
      match imageValues b.custodiansNeeded i with
      | none => .inl 2
      | some x =>
        match imageReason b i x with
        | some r => .inl r
        | none => .inr (i, x)

/-- Custodians are required in PRODUCTION and DEVELOPMENT. -/
def custodiansNeeded (s : State) : Bool := s.reg.state == 4 || s.reg.state == 5

/-- What START checks against. -/
def startBase (s : State) : ImageBase :=
  { pinned := s.bb.pinned, floor := s.bb.floor, above := none, ceiling := s.img.ceiling, current := s.img.registerSet
    registerEmpty := s.vit.custody.current.isNone, custodiansNeeded := custodiansNeeded s }

/-- What staging checks against (R396, R397). -/
def stagingBase (s : State) : ImageBase :=
  { pinned := s.img.sramPin.1, floor := s.img.sramPin.2, above := some s.img.version, ceiling := s.img.sramCeiling, current := s.img.sramSet
    registerEmpty := s.img.sramDigests.1.isNone, custodiansNeeded := custodiansNeeded s }

/-! Selection (R391, R392). -/

/-- The reason of a slot: 0 for a candidate. -/
def reasonOf : Nat ⊕ (UlondImage × Settings) → Nat
  | .inl r => r
  | .inr _ => 0

/-- The candidate loaded: the higher version, slot 0 where they are equal. -/
def chosenSlot : Nat ⊕ (UlondImage × Settings) → Nat ⊕ (UlondImage × Settings) → Option (Nat × UlondImage × Settings)
  | .inr (a, x), .inr (b, y) => if b.version > a.version then some (1, b, y) else some (0, a, x)
  | .inr (a, x), .inl _ => some (0, a, x)
  | .inl _, .inr (b, y) => some (1, b, y)
  | .inl _, .inl _ => none

/-- CUR_IMAGE as a word (Table 16-6). -/
def curImage (i : Image) : Nat :=
  i.loaded + 4 * b2n i.staged + 8 * b2n i.successor + 16 * i.reason0 + 256 * i.reason1 + 4096 * b2n i.loosened + 8192 * b2n i.unpinned

/-- What the loaded settings set at once (R387, R399). -/
def applySettings (x : Settings) (s : State) : State :=
  { s with
    img := { s.img with set := x }
    pow := { s.pow with service := x.serviceMode, minRun := min 16 x.minRun, noDark := x.noDark == 1, noPllStop := x.noPllStop == 1 }
    doc := { s.doc with tickUs := x.tickUs, tickPending := none, takeTimeout := x.takeTimeoutUs, nextTick := s.now + 1000 * x.tickUs }
    rng := { s.rng with interval := 2 ^ x.reseedLog2 }
    vit := { s.vit with utcOffset := x.utcOffset }
    pair := { s.pair with
      member := x.member, tieWinner := x.member != 0 && x.tieWinner == x.member, port := x.pairPort
      partner := if x.member = 0 then 0 else x.partnerId, role := if x.member = 0 then .unpaired else .withdrawn } }

/-- Loads the defaults. -/
def loadDefaults (s : State) : State :=
  applySettings {}
    { s with img := { s.img with loaded := 3, successor := false, loosened := false, version := 0, toPin := none, digest := none } }

/-- Loads a candidate. -/
def loadCandidate (n : Nat) (i : UlondImage) (x : Settings) (s : State) : State :=
  applySettings x { s with img := { s.img with
    loaded := n, successor := i.hasSuccessor, version := i.version
    loosened := i.loosens && !((s.img.ceiling.map (tightens (ceilingOf x))).getD true)
    toPin := some (sha384 (mgetD i.sections (if i.hasSuccessor then 2 else 1) [])), digest := some (sha384 (i.signed ++ i.sigBlock)) } }

/-- The image selection of step 8 (R391, R392): whether START goes on, and the state with both reasons in CUR_IMAGE and in the event log. -/
def selectImage (s : State) : Bool × State :=
  if s.reg.state = 2 ∨ s.reg.state = 6 then (true, loadDefaults { s with img := { s.img with reason0 := 0, reason1 := 0, staged := false } })
  else
    let b := startBase s
    let a0 := checkSlot b s.img.slot0
    let a1 := checkSlot b s.img.slot1
    let s := { s with img := { s.img with reason0 := reasonOf a0, reason1 := reasonOf a1, staged := false, unpinned := s.bb.pinned.isNone } }
    let logged := fun (s : State) => logRecord 0x0080 0 0 (leBytes 8 (curImage s.img)) s
    match chosenSlot a0 a1 with
    | some (n, i, x) => (true, logged (loadCandidate n i x s))
    | none => if custodiansNeeded s then (false, logged { s with img := { s.img with loaded := 3 } }) else (true, logged (loadDefaults s))

end Sys2Proof.Machine
end

