-- ==== Sys2Proof/Machine/LinkOps.lean ====
section
/-!
DEFINITION. Span ports, handshakes, the pair link and its loss, the heartbeat and its verdicts, and the meanings of their commands (R284, R296 to R301, R304 to R308).
-/

namespace Sys2Proof.Machine

/-! The handshake (R305). -/

/-- The pair fields of an image, as the digest of HELLO covers them: own module ID, partner, member letter, tie-winner (R284, log 31). -/
def pairFieldBytes (own partner member tie : Nat) : Bytes := leBytes 2 own ++ leBytes 2 partner ++ leBytes 1 member ++ leBytes 1 tie

/-- The digest of this member's pair fields. -/
def ownPairDigest (s : State) : Bytes :=
  sha384 (pairFieldBytes s.img.set.moduleId s.img.set.partnerId s.img.set.member s.img.set.tieWinner)

/-- The digest that a matching partner sends: the images name each other, with opposite letters and the same tie-winner (R284). -/
def matchingDigest (s : State) : Bytes :=
  sha384 (pairFieldBytes s.img.set.partnerId s.img.set.moduleId (3 - s.img.set.member) s.img.set.tieWinner)

/-- What the span certificate signs (R305). -/
def certifiedBytes (h : Hello) : Bytes := leBytes 2 h.moduleId ++ leBytes 16 h.serial ++ h.identity

/-- A HELLO frame's content as bytes. -/
def helloBytes (h : Hello) : Bytes := certifiedBytes h ++ h.certificate ++ h.ephemeral ++ h.pairDigest

/-- Whether `a`'s serial is the lower. -/
def lowerFirst (a b : Hello) : Bool := decide (a.serial < b.serial)

/-- The digest of both HELLO frames, the lower serial's first (log 31). -/
def hellosDigest (a b : Hello) : Bytes := sha384 (if lowerFirst a b then helloBytes a ++ helloBytes b else helloBytes b ++ helloBytes a)

/-- This module's span certificate. -/
def ownCertificate (s : State) : Bytes :=
  let n := match s.img.set.span with
    | some m => if m.rootAlg = 1 then 96 else dsaSigLen dsa65
    | none => 0
  (List.range n).map Config.spanCertificateByte

/-- The span root's signature over a certificate verifies (R305). -/
def certified (m : SpanMap) (h : Hello) : Bool :=
  if m.rootAlg = 1 then p384Verify m.root (certifiedBytes h) h.certificate else dsaVerify dsa65 m.root [] (certifiedBytes h) h.certificate

/-- The certificate of a HELLO verifies under the span root, and names the module that the span map names for the port (R305). -/
def helloOk (s : State) (port : Nat) (h : Hello) : Bool :=
  match s.img.set.span with
  | none => false
  | some m =>
    mapPeer s port == some h.moduleId && m.modules.contains (h.moduleId, h.serial) &&
    certified m h

/-- A fresh ephemeral key and the HELLO that carries it (R305). -/
def newHello (s : State) : Bytes × Hello × State :=
  let (b, s) := drawFree 4128 56 s
  let d := p384FromSeed b
  let h : Hello := {
    moduleId := s.img.set.moduleId, serial := Config.serial.toNat, identity := identityPublic s, certificate := ownCertificate s
    ephemeral := ((ecPublic p384 d).map (ecEncode p384)).getD [], pairDigest := ownPairDigest s }
  (beBytes 48 d, h, s)

/-- Starts a handshake on a port: an ephemeral key is drawn and HELLO sent; keys in force stay until both ends confirm (R305). -/
def startHandshake (port : Nat) (s : State) : State :=
  let (d, h, s) := newHello s
  sendOn port 0 0xFFFF (.hello h) (updPort port (fun p => { p with
    ephemeral := d, helloSent := some h, helloGot := none, confirmSent := false, confirmGot := false }) s)

/-- The 64 bytes of hop keys of a handshake, lower-to-higher direction first (R305). -/
def hopKeysOf (label : String) (ephemeral : Bytes) (a b : Hello) : Option Bytes :=
  match ecDecode p384 b.ephemeral with
  | none => none
  | some q =>
    (ecdhShared p384 (ofBE ephemeral) q).map (fun z =>
      let lo := if lowerFirst a b then a else b
      let hi := if lowerFirst a b then b else a
      kdfOneStep sha384 48 z (ascii label ++ leBytes 16 lo.serial ++ leBytes 16 hi.serial ++ lo.ephemeral ++ hi.ephemeral) 64)

/-- A failed check: AUTH_FAIL counts, and the port stays down or goes on under its old keys (R305). -/
def authFail (port : Nat) (s : State) : State := updPort port (fun p => { p with authFail := sat 0xFFFF (p.authFail + 1), helloGot := none }) s

/-! The keys of modules beyond a relay (R307, log 184). -/

/-- The handshake state of a module beyond a relay. -/
def farKey (s : State) (m : Nat) : FarKey := mgetD s.pair.farKeys m {}

/-- Updates it. -/
def updFar (m : Nat) (f : FarKey → FarKey) (s : State) : State := { s with pair := { s.pair with farKeys := mset s.pair.farKeys m (f (farKey s m)) } }

/-- Starts the handshake with a module beyond a relay: R305's frames, addressed to it (R307). -/
def startFar (m : Nat) (s : State) : State :=
  let (d, h, s) := newHello s
  sendTo 0 m (.hello h) (updFar m (fun k => { k with ephemeral := d, helloSent := some h, helloGot := none, confirmSent := false, confirmGot := false }) s)

/-- Starts a handshake for every module that gallery state waits for and none is under way with (R307). -/
def openFars (s : State) : State :=
  ((s.pair.farWaiting.map (·.2.1)).eraseDups).foldl (fun s m => if farKeyed s m || (farKey s m).helloSent.isSome then s else startFar m s) s

/-- Both ends have confirmed: the end-to-end keys are in force, and what waited for them goes out (R307). -/
def finishFar (m : Nat) (s : State) : State :=
  let k := farKey s m
  match k.helloSent, k.helloGot with
  | some a, some b =>
    if !(k.confirmSent && k.confirmGot) then s
    else
      let keys := (hopKeysOf "LX96-E2E" k.ephemeral a b).getD []
      let s := updFar m (fun k => { keys := keys, lower := if keys = [] then k.lower else lowerFirst a b }) s
      let due := if keys = [] then [] else s.pair.farWaiting.filter (fun w => w.2.1 == m)
      let s := { s with pair := { s.pair with farWaiting := if keys = [] then s.pair.farWaiting else s.pair.farWaiting.filter (fun w => w.2.1 != m) } }
      due.foldl (fun s w => sendTo w.1 m w.2.2 s) s
  | _, _ => s

/-- The certificate of a HELLO from beyond a relay verifies under the span root, and names its sender as the span map does (R305, R307). -/
def farHelloOk (s : State) (m : Nat) (h : Hello) : Bool :=
  match s.img.set.span with
  | none => false
  | some sp => h.moduleId == m && sp.modules.contains (m, h.serial) && certified sp h

/-- A HELLO from beyond a relay (R307). -/
def farHelloArrives (m : Nat) (h : Hello) (s : State) : State :=
  if !farHelloOk s m h then s
  else
    let s := if (farKey s m).helloSent.isNone then startFar m s else s
    match (farKey s m).helloSent with
    | none => s
    | some a =>
      let s := updFar m (fun k => { k with helloGot := some h, confirmSent := true }) s
      finishFar m (sendTo 0 m (.keyConfirm (identitySign s (hellosDigest a h))) s)

/-- A KEYCONFIRM from beyond a relay (R307). -/
def farConfirmArrives (m : Nat) (sig : Bytes) (s : State) : State :=
  match (farKey s m).helloSent, (farKey s m).helloGot with
  | some a, some b => if p384Verify b.identity (hellosDigest a b) sig then finishFar m (updFar m (fun k => { k with confirmGot := true }) s) else s
  | _, _ => s

/-- Gallery state is read as it comes from a neighbour, or as the partner passes it on; from beyond a relay, under the key agreed with its sender (R307). -/
def readsState (s : State) (h : LinkHdr) : Bool :=
  mapPeer s h.port == some h.src || farKeyed s h.src || (paired s && s.pair.linkUp && h.port == s.pair.port)

/-- A span port brings the partner's or another placement's changes into this module's keys only as its row permits (R20, R44, Table 1-8). -/
def bringState (h : LinkHdr) (act : State → State) (s : State) : State := if hasRight (fixedRow s (portRow h.port)) 1 rightWR then act s else s

/-- A frame of gallery state that this module can read has its effect (R307). -/
def readState (h : LinkHdr) (act : State → State) (s : State) : State := if readsState s h then bringState h act s else s

/-! The pair link. -/

/-- Ends a resynchronisation that cannot go on: a repaired member is WITHDRAWN again (log 32). -/
def endResync (s : State) : State :=
  let s := { s with pair := { s.pair with resync := none, waitingDeltas := [] } }
  if s.pair.role == .resync then setRole .withdrawn s.pair.term s.pair.cause s else { s with doc := { s.doc with blockOriginating := false } }

/-- PAIR_SWAP cannot complete: the roles are no longer ORIGINATOR and STANDBY (R315, log 32). -/
def endSwap (s : State) : State :=
  match s.pair.swapping with
  | none => s
  | some t => updDesc t (fun d => { d with resp := some (statusOnly Status.accessDenied) }) { s with pair := { s.pair with swapping := none } }

/-- The pair link is declared lost (R296, R298): originating commands are blocked until the heartbeat verdict, event 32 latches. -/
def linkLost (s : State) : State :=
  if !s.pair.linkUp then s
  else
    let s := { s with pair := { s.pair with linkUp := false, lostAt := s.now, declaredLost := true } }
    let s := if s.pair.resync.isSome then endResync s else s
    let s := endSwap s
    let s := latchEvent 32 s
    if s.pair.role == .originator || s.pair.role == .standby then
      let s := { s with pair := { s.pair with hbPending := true }, doc := { s.doc with blockOriginating := true } }
      offerWork (if s.pair.role == .standby then takeVerdicts s else s)
    else s

/-- The roles and terms of a lost link: the tie-winner SOLE at t + 2, the other REFUSING at t + 1 (Table 12-2). -/
def splitRoles (cause : Nat) (s : State) : State :=
  let s := if s.pair.tieWinner then setRole .sole (s.pair.term + 2) cause s else setRole .refusing (s.pair.term + 1) cause s
  { s with
    pair := { s.pair with startTimeout := 0, waitingDeltas := [] }
    doc := { s.doc with blockOriginating := s.pair.withdrawing.isSome } }

/-- The heartbeat verdict (R299): the partner lives, or the dual-act window opens. -/
def heartbeatVerdict (live : Bool) (s : State) : State :=
  if !s.pair.hbPending then s
  else if live then offerWork (splitRoles causeLive s)
  else
    let s := splitRoles causeSilent s
    offerWork (latchEvent 32 { s with pair := { s.pair with dualAct := true, dualActEnd := s.now + 2500000 } })

/-- D: the number of the last delta that this member and its partner are known to share (R302). -/
def reportedDelta (p : Pair) : Nat :=
  match p.unacked with
  | d :: _ => d.number - 1
  | [] => p.lastDelta

/-- The link to the partner is new: what either knows of the other's sealed streams is told again (R290, log 183). -/
def tellSeals (s : State) : State :=
  let s := { s with vit := { s.vit with galleries := mmap (fun (g : Gallery) => { g with sealPartner := [] }) s.vit.galleries } }
  s.vit.galleries.foldl (fun s p => p.2.sealLive.foldl (fun s k =>
    noteSeal { gallery := p.1, place := placement s, fn := k / 65536, stream := k % 65536 } true s) s) s

/-- This member's Vitrine lacks what a copy of the changes after D would not bring back: nothing was applied yet, a record is damaged, or a gallery was given up without the partner (R183, R302, R361). -/
def copyLost (s : State) : Bool :=
  reportedDelta s.pair == 0 || s.vit.galleries.any (fun p => p.2.damaged != []) ||
  s.pair.unmirrored.any (fun u => u.2.function == 0x0E04 || u.2.function == 0x0E34)

/-- The pair link comes up authenticated (R284, R302): images that do not match form no pair; else each member reports its term and the last delta it applied. -/
def pairLinkUp (h : Hello) (s : State) : State :=
  let s := { s with pair := { s.pair with linkUp := true, partnerSerial := h.serial, partnerIdentity := h.identity, startTimeout := 0 } }
  if h.pairDigest ≠ matchingDigest s then latchEvent 32 { s with pair := { s.pair with mismatch := true } }
  else
    let s := tellSeals { s with pair := { s.pair with mismatch := false } }
    if s.pair.outUntilStart then s else
    sendPartner 3 (.resyncData (.begin s.pair.term (reportedDelta s.pair) (copyLost s))) s

/-- Both ends have confirmed: the new keys are in force (R305); at link-up the port measures its hop, routes change, and the pair link comes up. -/
def finishHandshake (port : Nat) (s : State) : State :=
  let p := spanPort s port
  match p.helloSent, p.helloGot with
  | some a, some b =>
    if !(p.confirmSent && p.confirmGot) then s
    else match hopKeysOf "LX96-SPAN" p.ephemeral a b with
    | none => authFail port s
    | some keys =>
      let s := updPort port (fun p => { p with
        hopKeys := keys, lower := lowerFirst a b, auth := true, peer := b.moduleId, handshakes := (p.handshakes + 1) % 65536
        keyedAt := s.now, keyedRx := p.rxCounter, keyedTx := p.txCounter, lastFrame := s.now, ephemeral := [], helloSent := none, helloGot := none
        confirmSent := false, confirmGot := false, tagFails := [] }) s
      if p.auth then s
      else
        let s := openFars { s with pair := { s.pair with routeChangedAt := s.now } }
        let s := updPort port (fun p => { p with probeAt := some s.now }) (sendOn port 0 0xFFFF .probe s)
        if paired s && port == s.pair.port && b.moduleId == s.pair.partner then pairLinkUp b s else s
  | _, _ => s

/-- A HELLO that verifies: the module's own HELLO if it is still to come, then KEYCONFIRM (R305). -/
def helloArrives (port : Nat) (h : Hello) (s : State) : State :=
  if !helloOk s port h then authFail port s
  else
    let s := if (spanPort s port).helloSent.isNone then startHandshake port s else s
    match (spanPort s port).helloSent with
    | none => s
    | some a =>
      let s := updPort port (fun p => { p with helloGot := some h, confirmSent := true }) s
      finishHandshake port (sendOn port 0 0xFFFF (.keyConfirm (identitySign s (hellosDigest a h))) s)

/-- A KEYCONFIRM: the peer's signature over the digest of both HELLO frames (R305). -/
def confirmArrives (port : Nat) (sig : Bytes) (s : State) : State :=
  match (spanPort s port).helloSent, (spanPort s port).helloGot with
  | some a, some b =>
    if p384Verify b.identity (hellosDigest a b) sig then finishHandshake port (updPort port (fun p => { p with confirmGot := true }) s)
    else authFail port s
  | _, _ => authFail port s

/-! Frames received (R306). -/

/-- A port's link goes down: keys dropped, routes change, the event latches, and with the pair port the pair link is lost (R296, R306, R308). -/
def portDown (port : Nat) (phys : Bool) (s : State) : State :=
  let s := updPort port (fun p => { p with
    up := p.up && !phys, auth := false, lanes := if phys then 0 else p.lanes, peer := 0, downs := sat 0xFFFF (p.downs + 1), hopKeys := [], ephemeral := []
    helloSent := none, helloGot := none, confirmSent := false, confirmGot := false, tagFails := [], probeAt := none }) s
  let me := (s.img.set.moduleId, port)
  let dead := if s.pair.deadLinks.contains me then s.pair.deadLinks else me :: s.pair.deadLinks
  let s := { s with pair := { s.pair with routeChangedAt := s.now, farKeys := mmap (fun k => { keys := k.keys, lower := k.lower }) s.pair.farKeys, deadLinks := if phys then dead else s.pair.deadLinks } }
  let s := latchEvent (28 + port) s
  if paired s && port == s.pair.port then linkLost s else s

/-- A frame whose tag fails: on the pair port the pair link is lost; on another, the third within 1 s takes the link down; a new handshake follows (R296, R306). -/
def tagFailure (port : Nat) (s : State) : State :=
  let s := updPort port (fun p => { p with authFail := sat 0xFFFF (p.authFail + 1), tagFails := s.now :: recent 1000000000 s.now p.tagFails }) s
  if (paired s && port == s.pair.port) || decide ((spanPort s port).tagFails.length ≥ 3) then startHandshake port (portDown port false s) else s

/-- A frame received: dropped on a port without keys, counted when its tag fails, dropped when its counter has been accepted; else `act` (R306). -/
def acceptFrame (handshake : Bool) (h : LinkHdr) (act : State → State) (s : State) : State :=
  let p := spanPort s h.port
  if h.port ≥ 4 || !p.up || (!handshake && !p.auth) then s
  else if !h.tagOk && p.auth then tagFailure h.port s
  else if h.counter ≤ p.rxCounter then s
  else act (updPort h.port (fun p => { p with
    rxCounter := h.counter, lastFrame := s.now, uncorrected := sat 0xFFFF (p.uncorrected + Config.fecFailures h.port h.counter) }) s)

/-- A frame for this module or its neighbour; one for another module is relayed along its route, unless it has made 4,095 hops (R306, R308). -/
def receiveFrame (h : LinkHdr) (cls : Nat) (body : FrameBody) (act : State → State) (s : State) : State :=
  acceptFrame false h (fun s =>
    if h.dst = 0xFFFF ∨ h.dst = s.img.set.moduleId then act s else relayFrame h cls body s) s

/-- A frame whose effect writes the Vitrine has it once no power-fail warning is active, in the order of arrival (R373). -/
def whenWritable (h : LinkHdr) (b : FrameBody) (act : State → State) (s : State) : State :=
  if s.pow.failWarning then { s with pair := { s.pair with heldFrames := s.pair.heldFrames ++ [(h, b)] } } else act s

/-- A frame of the pair, on the authenticated pair link from the partner. -/
def pairFrame (h : LinkHdr) (act : State → State) (s : State) : State :=
  if !(paired s && h.port == s.pair.port && s.pair.linkUp) then acceptFrame false h id s else acceptFrame false h act s

/-! The meanings. -/

/-- The widest link that a port's good lanes train to: 4, 2 or 1 lanes (R304, Table 15-1). -/
def widestLink (s : State) (port : Nat) : Nat :=
  let good := ((List.range 4).filter (fun l => !s.pair.badLanes.contains (4 * port + l))).length
  if good = 4 then 4 else min good 2

/-- SPAN_LINK_UP (R304, R305): a port links only where the span map names a peer; the handshake begins. -/
def execSpanLinkUp (port : Fin 4) (lanes : Nat) (s : State) : Host.Outcome State Fault Refusal :=
  if (spanPort s port).up || (mapPeer s port).isNone || !(lanes == 1 || lanes == 2 || lanes == 4) || decide (widestLink s port < lanes) || !s.pow.main then .next s
  else
    let s := updPort port (fun p => { p with up := true, lanes := lanes }) s
    let s := { s with pair := { s.pair with deadLinks := s.pair.deadLinks.filter (· != (s.img.set.moduleId, port.val)), routeChangedAt := s.now } }
    .next (startHandshake port (latchEvent (28 + port) s))

/-- SPAN_LINK_DOWN (R296, R308). -/
def execSpanLinkDown (port : Fin 4) (s : State) : Host.Outcome State Fault Refusal :=
  .next (if (spanPort s port).up then portDown port true s else s)

/-- HELLO (R305, R307): from the neighbour, or from a module beyond a relay. -/
def execHello (hdr : LinkHdr) (body : Hello) (s : State) : Host.Outcome State Fault Refusal := 
  .next (if hdr.dst = 0xFFFF then acceptFrame true hdr (helloArrives hdr.port body) s else receiveFrame hdr 0 (.hello body) (farHelloArrives hdr.src body) s)

/-- KEYCONFIRM (R305, R307). -/
def execKeyconfirm (hdr : LinkHdr) (signature : Bytes) (s : State) : Host.Outcome State Fault Refusal :=
  .next (if hdr.dst = 0xFFFF then acceptFrame true hdr (confirmArrives hdr.port signature) s
    else receiveFrame hdr 0 (.keyConfirm signature) (farConfirmArrives hdr.src signature) s)

/-- IDLE (R296). -/
def execIdle (hdr : LinkHdr) (s : State) : Host.Outcome State Fault Refusal := .next (acceptFrame false hdr id s)

/-- IDLE_DUE (R296). -/
def execIdleDue (s : State) : Host.Outcome State Fault Refusal := .next (sendPartner 0 .idle s)

/-- PROBE (R308): answered with ECHO. -/
def execProbe (hdr : LinkHdr) (s : State) : Host.Outcome State Fault Refusal := .next (acceptFrame false hdr (sendOn hdr.port 0 0xFFFF .echo) s)

/-- ECHO (R308): half the round trip less the turn-around, rounded up to a whole nanosecond. -/
def execEcho (hdr : LinkHdr) (roundTripNs turnAroundNs : Nat) (s : State) : Host.Outcome State Fault Refusal :=
  .next (acceptFrame false hdr (fun s =>
    if (spanPort s hdr.port).probeAt.isNone then s
    else updPort hdr.port (fun p => { p with hopNs := ceilDiv (roundTripNs - turnAroundNs) 2, probeAt := none }) s) s)

/-- HOP_MEASUREMENT_DUE (R308); what waits for an end-to-end key has its handshake started (R307). -/
def execHopMeasurementDue (port : Fin 4) (s : State) : Host.Outcome State Fault Refusal :=
  .next (if (spanPort s port).auth then updPort port (fun p => { p with probeAt := some s.now }) (sendOn port 0 0xFFFF .probe (openFars s)) else s)

/-- REHANDSHAKE_DUE (R305): every 2^32 frames in either direction, or every hour. -/
def execRehandshakeDue (port : Fin 4) (s : State) : Host.Outcome State Fault Refusal :=
  let p := spanPort s port
  if !p.auth || p.helloSent.isSome then .next s
  else if p.rxCounter - p.keyedRx ≥ 2 ^ 32 ∨ p.txCounter - p.keyedTx ≥ 2 ^ 32 then .next (startHandshake port s)
  else .next (startHandshake port (advanceTo (p.keyedAt + 3600000000000) s))

/-- PAIR_LINK_SILENCE (R296): 10 us without an authenticated frame. -/
def execPairLinkSilence (s : State) : Host.Outcome State Fault Refusal :=
  .next (if s.pair.linkUp then linkLost (advanceTo ((spanPort s s.pair.port).lastFrame + 10000) s) else s)

/-- HEARTBEAT_TOGGLE (R296): in a role that pulses PAIR_HB_OUT toggles, in every other it is low. -/
def execHeartbeatToggle (s : State) : Host.Outcome State Fault Refusal :=
  .next { s with pair := { s.pair with hbOut := rolePulses s.pair.role && !s.pair.hbOut } }

/-- HEARTBEAT_EDGE (R296, R298): after a loss, the first qualified edge is the live verdict. -/
def execHeartbeatEdge (s : State) : Host.Outcome State Fault Refusal :=
  if !paired s then .next s
  else .next (heartbeatVerdict true { s with pair := { s.pair with hbEdge := some s.now } })

/-- A member that waits at its start for a link that has not come up takes its role once the time-out has passed and the heartbeat is silent (R301). -/
def startSplit (s : State) : State :=
  if paired s && s.pair.role == .withdrawn && s.pair.startTimeout != 0 && !s.pair.linkUp && !s.pair.mismatch && !heartbeatLive s &&
      decide (s.now ≥ s.pair.startTimeout) then
    offerWork (splitRoles causeSilent { s with pair := { s.pair with declaredLost := true } })
  else s

/-- HEARTBEAT_SILENT (R298, R299, R301): 12 counts without an edge. -/
def execHeartbeatSilent (s : State) : Host.Outcome State Fault Refusal :=
  let s := match s.pair.hbEdge with
    | some t => advanceTo (t + countsNs 12) s
    | none => s
  .next (startSplit (heartbeatVerdict false s))

/-- DUAL_ACT_WINDOW_CLOSE (R299): 2.5 ms after the member's own verdict. -/
def execDualActWindowClose (s : State) : Host.Outcome State Fault Refusal :=
  if !s.pair.dualAct then .next s
  else
    let s := advanceTo s.pair.dualActEnd s
    .next (offerWork { s with pair := { s.pair with dualAct := false } })

/-- PAIR_START_TIMEOUT (R301). -/
def execPairStartTimeout (s : State) : Host.Outcome State Fault Refusal :=
  if s.pair.startTimeout = 0 then .next s else .next (startSplit (advanceTo s.pair.startTimeout s))

/-- WITHDRAW (R297): the survivor is SOLE at once, at t + 1, and executes everything still pending. -/
def execWithdraw (hdr : LinkHdr) (s : State) : Host.Outcome State Fault Refusal :=
  .next (pairFrame hdr (fun s =>
    let s := if s.pair.resync.isSome then endResync s else s
    if s.pair.role == .originator || s.pair.role == .standby then
      let s := if s.pair.role == .standby then takeVerdicts s else s
      let s := endSwap (setRole .sole (s.pair.term + 1) causeWithdraw s)
      let s := latchEvent 32 { s with pair := { s.pair with declaredLost := true, waitingDeltas := [] } }
      offerWork { s with doc := { s.doc with blockOriginating := s.pair.withdrawing.isSome } }
    else s) s)

end Sys2Proof.Machine
end

