-- ==== Sys2Proof/Machine/LogOps.lean ====
section
/-!
DEFINITION. The event log's checkpoints (R405, R406).
-/

namespace Sys2Proof.Machine

/-- What a checkpoint signs: serial, SEQ and TIME of the checkpoint, chain head. -/
def checkpointData (s : State) (h : Bytes) : Bytes := serialBytes ++ leBytes 8 (s.cur.logSeq + 1) ++ leBytes 8 (moduleTime s) ++ h

/-- Writes a CHECKPOINT and its five CONT records: chain head and signature, 144 bytes over six DATA fields (R405). -/
def writeCheckpoint (s : State) : State :=
  let h := sha256 (lastRecord s.cur)
  let b := h ++ identitySign s (checkpointData s h) ++ zeros 16
  let s := (chunks 24 6 b).zipIdx.foldl (fun s p => putRecord 0x0001 0 (if p.2 = 0 then 0 else 1) p.1 s) s
  latchEvent 37 { s with cur := { s.cur with sinceCheckpoint := 0, deferred := false } }

/-- A checkpoint that is due is written, or deferred while main power is absent (R405, R406). -/
def checkpoint (s : State) : State :=
  if s.cur.restarting.isSome || decide (s.cur.sinceCheckpoint < 4096) then s
  else if s.pow.main then writeCheckpoint s
  else { s with cur := { s.cur with deferred := true } }

/-- LOG_CHECKPOINT (R405, R406). -/
def execLogCheckpoint (s : State) : Host.Outcome State Fault Refusal := .next (checkpoint s)

end Sys2Proof.Machine
end

