-- ==== Sys2Proof/Machine/TamperOps.lean ====
section
/-!
DEFINITION. The tamper block and the discrete inputs: causes, the response, the record, the key switches, and the meanings of their commands (R200, R201, R336 to R346).
-/

namespace Sys2Proof.Machine

/-! Causes (R336, R337). -/

/-- The causes armed in a life-cycle state (R337). -/
def armedIn (state : Nat) : Nat :=
  match state with
  | 4 => 0x3FFF
  | 5 => 0x1FFF
  | 3 => 0x1FC3
  | _ => 0

/-- The causes armed now. -/
def armed (s : State) : Nat := armedIn s.reg.state

/-- The always-on domain has a supply (R16). -/
def aoPowered (s : State) : Bool := s.ao.vaux || s.ao.vbat

/-- ALARM_OUT: while the tamper latch is set, in HALT, and in TERMINATED (R340, R344). -/
def alarmOut (s : State) : Bool := s.ao.responded || s.pow.mode == .halt || s.reg.state == 15

/-- A cause's condition appears or goes: LIVE, and the time since which none is present (Tables 14-5, 14-9). -/
def setLive (c : Nat) (on : Bool) (s : State) : State :=
  let l := setBit s.ao.live c on
  { s with ao := { s.ao with live := l, quietSince := if l % 2 ^ 13 = 0 then some (s.ao.quietSince.getD s.now) else none } }

/-! The record (R345, Table 14-3). -/

/-- Bytes 0 to 59 with their CRC. -/
def sealRecord60 (b : Bytes) : Bytes := slice b 0 60 ++ leBytes 4 (crc32 (slice b 0 60))

/-- Replaces bytes of a record. -/
def putAt (b : Bytes) (off : Nat) (x : Bytes) : Bytes := b.take off ++ x ++ b.drop (off + x.length)

/-- What the record holds of the moment of the decision; the rest follows when it is written. -/
def recordAtDecision (s : State) : Bytes :=
  let supply := if s.pow.main then 0 else if s.ao.vaux then 1 else 2
  leBytes 2 1 ++ leBytes 1 (modeCode s.pow) ++ leBytes 1 s.reg.state ++ zeros 4 ++ leBytes 8 (moduleTime s) ++ zeros 1 ++ leBytes 1 supply ++
  leBytes 2 (signed 16 s.ao.temp) ++ leBytes 2 s.ao.supplies.1 ++ leBytes 2 (if s.ao.vaux then s.ao.supplies.2.1 else 0) ++
  leBytes 2 (if s.pow.main then s.ao.supplies.2.2 else 0) ++ zeros 2 ++ zeros 4 ++ serialBytes ++ zeros 4 ++ zeros 8 ++ zeros 4

/-- The record as it is written at the end of the collection count. -/
def finishedRecord (s : State) (first : Nat) : Bytes :=
  let b := putAt s.ao.record 4 (leBytes 4 s.ao.collected)
  let b := putAt b 16 (leBytes 1 first)
  let b := putAt b 28 ((List.range 4).flatMap (fun i => leBytes 1 (mgetD s.ao.loops i {}).history))
  sealRecord60 (putAt b 48 (leBytes 4 (s.ao.recordSeq + 1)))

/-- The Curator copies a record not yet logged into the event log once main power is present: whole in three records, and then its signature under the identity key (R345, Table 17-3, log 85). -/
def logTamper (s : State) : State :=
  if s.ao.recordToLog && s.pow.main && logWritable s then
    logData 0x0030 0 (s.ao.record ++ zeros 8 ++ identitySign s s.ao.record) { s with ao := { s.ao with recordToLog := false } }
  else s

/-- One more cause after the record: counted in LATER (R344). -/
def countLater (s : State) : State :=
  { s with ao := { s.ao with record := sealRecord60 (putAt s.ao.record 26 (leBytes 2 (sat 0xFFFF (leAt s.ao.record 26 2 + 1)))) } }

/-! The response (R340, R341, R343). -/

/-- What the response does to GDDR6: with main power on its keys are gone; in VAULT the Curator ends self-refresh (Table 14-2). -/
def loseGddr (s : State) : State := if s.pow.main then s else { s with vit := { s.vit with retained := false } }

/-- The tamper response: WITHDRAW, the erase line, BBRAM, TAMPER_OUT, then TAMPERED with every unreleased response replaced (R340, R341, R343, R359). -/
def tamperResponse (c : Nat) (s : State) : State :=
  let rec0 := recordAtDecision s
  let s := if s.pow.main then withdrawAtOnce s else s
  let s := loseGddr (eraseLine false s)
  let s := { s with ao := { s.ao with
    responded := true, latched := 2 ^ c, collecting := some (s.now, c), collected := 2 ^ c, tamperOut := true, record := rec0 } }
  let s := { s with pow := { s.pow with starting := false } }
  if !s.pow.main then s
  else
    let s := stopStaging (closeCeremony s)
    let s := { s with
      err := { s.err with active := 0, queued := [], codes := [], halting := none }
      pow := { s.pow with quiesce := none, pending := false } }
    let s := setMode .tampered s
    publishAll (replaceAll false Status.tampered (latchEvent 22 s))

/-- The first cause of the record: the lowest decided in the earliest count (Table 14-3). -/
def firstCause (s : State) (t first c : Nat) : Nat := if moduleTime s = countsOf (t - s.ao.since) then min first c else first

/-- A decision inside a transition window: the latch will stand when the burn has ended (Table 14-13). -/
def noteInBurn (s : State) : State := { s with reg := { s.reg with burn := s.reg.burn.map (fun b => { b with decided := true }) } }

/-- A decision on a cause: nothing when it is not armed; the response, one more cause of the collection count, or LATER (R337, R340, R344). -/
def decide_ (c : Nat) (s : State) : State :=
  if !bit (armed s) c then s
  else
    let s := noteInBurn s
    if !s.ao.responded then tamperResponse c s
    else match s.ao.collecting with
      | some (t, first) => { s with ao := { s.ao with
          collected := setBit s.ao.collected c true, latched := setBit s.ao.latched c true, collecting := some (t, firstCause s t first c) } }
      | none => countLater s

/-- A life-cycle state that arms causes comes into force: one whose condition is still observed is decided now (R336, R337). -/
def armNow (before : Nat) (s : State) : State :=
  (List.range 13).foldl (fun s c => if bit s.ao.live c && bit (armed s) c && !bit before c then decide_ c s else s) s

/-- A condition appears, and is decided once until it has gone. -/
def raiseCause (c : Nat) (s : State) : State := if bit s.ao.live c then s else decide_ c (setLive c true s)

/-- A condition observed as present or absent. -/
def observe (c : Nat) (present : Bool) (s : State) : State :=
  if !aoPowered s then s else if present then raiseCause c s else setLive c false s

/-! Loops and meshes (R338). -/

/-- The cause of a loop or mesh: loops 0 to 3, lid mesh 4, substrate mesh 5. -/
def loopCause (i : Nat) : Nat := if i < 4 then 2 + i else i - 4

/-- Changes a loop. -/
def updLoop (i : Nat) (f : Loop → Loop) (s : State) : State := { s with ao := { s.ao with loops := mupd s.ao.loops i {} f } }

/-- LOOP_DRIVE_STEP (R338): the level changes at most once every 4 counts. -/
def execLoopDriveStep (s : State) : Host.Outcome State Fault Refusal :=
  if !aoPowered s || decide (s.ao.driveCount < 4) then .next s
  else .next { s with ao := { s.ao with generator := Config.loopNext s.ao.generator, driveCount := 0 } }

/-- One comparison of one loop or mesh. -/
def compareLoop (i : Nat) (echo : Bool) (s : State) : State :=
  let e := Config.loopLevel s.ao.generator i
  let bad := echo != e
  updLoop i (fun l => { l with
    history := (2 * l.history + b2n bad) % 256, mismatches := if bad then sat 255 (l.mismatches + 1) else l.mismatches, echo := echo, expected := e }) s

/-- LOOP_COMPARE (R336, R338): each loop and mesh apart; the causes in rising order. -/
def execLoopCompare (echo : BitVec 6) (s : State) : Host.Outcome State Fault Refusal :=
  if !aoPowered s then .next s
  else
    let s := (List.range 6).foldl (fun s i => compareLoop i (echo.getLsbD i) s) s
    let s := { s with ao := { s.ao with driveCount := min 4 (s.ao.driveCount + 1) } }
    let bad := fun (s : State) (i : Nat) => bit (mgetD s.ao.loops i {}).history 0
    .next ([4, 5, 0, 1, 2, 3].foldl (fun s i => observe (loopCause i) (bad s i) s) s)

/-- LOOP_EDGE_MISMATCH (R338). -/
def execLoopEdgeMismatch (loop : Fin 6) (s : State) : Host.Outcome State Fault Refusal :=
  if !aoPowered s then .next s
  else .next (observe (loopCause loop) true (updLoop loop (fun l => { l with mismatches := sat 255 (l.mismatches + 1) }) s))

/-- TAMPER_COLLECTION_END (R340, R345): the record is written one count after the decision. -/
def execTamperCollectionEnd (s : State) : Host.Outcome State Fault Refusal :=
  match s.ao.collecting with
  | none => .next s
  | some (t, first) =>
    let s := advanceTo (t + countsNs 1) s
    .next (logTamper { s with ao := { s.ao with
      record := finishedRecord s first, recordValid := true, recordSeq := s.ao.recordSeq + 1, collecting := none, recordToLog := true } })

/-! Physical conditions (R336). -/

/-- TEMP_SAMPLE (R336): below -50 C or above 125 C for 4 samples. -/
def execTempSample (value : Int) (s : State) : Host.Outcome State Fault Refusal :=
  if !aoPowered s then .next s
  else
    let low := if value < -100 then min 4 (s.ao.tempRun.1 + 1) else 0
    let high := if value > 250 then min 4 (s.ao.tempRun.2 + 1) else 0
    let s := { s with ao := { s.ao with temp := value, tempRun := (low, high) } }
    .next (observe 7 (high == 4) (observe 6 (low == 4) s))

/-- SUPPLY_COMPARATOR (R336): below 2.0 V, or above 3.9 V. -/
def execSupplyComparator (high present : Bool) (s : State) : Host.Outcome State Fault Refusal := .next (observe (if high then 9 else 8) present s)

/-- The XTAL cause is masked for the first 3 s after the always-on domain powers up (R442). -/
def xtalMasked (s : State) : Bool := decide (s.now < s.ao.since + 3000000000)

/-- A crystal that stops where the cause is not armed is logged as a sensor record (Table 19-12, log 173). -/
def logXtal (s : State) : State := if bit (armed s) 10 || bit s.ao.live 10 then s else logRecord 0x00B0 0 0 (leBytes 2 0xFFFF ++ zeros 2) s

/-- XTAL_FAULT (R336, R442). -/
def execXtalFault (present : Bool) (s : State) : Host.Outcome State Fault Refusal :=
  .next (if !present then observe 10 false s else if xtalMasked s then s else observe 10 true (logXtal s))

/-- The conditions that are not watched on battery: the main domain is up and PWRON_RESET_N deasserted (R336). -/
def mainWatched (s : State) : Bool := s.pow.main && !s.pow.pwronAsserted

/-- RAIL_GLITCH (R336): a rise is watched while main power is on, whatever PWRON_RESET_N; a dip with it asserted is no such condition. -/
def execRailGlitch (present : Bool) (s : State) : Host.Outcome State Fault Refusal :=
  .next (if present && !s.pow.main then s else observe 11 present s)

/-- CLOCK_GLITCH (R336). -/
def execClockGlitch (present : Bool) (s : State) : Host.Outcome State Fault Refusal :=
  .next (if present && !mainWatched s then s else observe 12 present s)

/-! Discrete inputs and key switches (R200, R201, R339). -/

/-- A discrete input. -/
def inputOf (s : State) (i : Nat) : Input := mgetD s.ao.inputs i {}

/-- One sample of an input: 4 in a row at the new level qualify it (R339). -/
def sampleInput (v : Bool) (x : Input) : Input :=
  if v = x.level then { x with run := 0 }
  else if x.run + 1 ≥ 4 then { level := v, run := 0 }
  else { x with run := x.run + 1 }

/-- A key switch changes: its activation time, the time both have been off, event 39, and a ceremony that its fall closes (R200, R201). -/
def switchChanged (i : Nat) (on : Bool) (s : State) : State :=
  let s := { s with ao := { s.ao with switches := mset s.ao.switches i { since := if on then some s.now else none } } }
  let both := !(inputOf s 0).level && !(inputOf s 1).level
  let s := { s with ao := { s.ao with bothOff := if both then some s.now else none } }
  latchEvent 39 (if on then s else destroyLoad s)

/-- What follows a change of qualified level. -/
def inputChanged (i : Nat) (on : Bool) (s : State) : State :=
  if i < 2 then switchChanged i on s
  else if i = 3 && paired s then heartbeatVerdict true { s with pair := { s.pair with hbEdge := some s.now } }
  else s

/-- INPUT_SAMPLE (R339): KEYSW_A, KEYSW_B, HOLDUP_OK, PAIR_HB_IN. -/
def execInputSample (levels : BitVec 4) (s : State) : Host.Outcome State Fault Refusal :=
  if !aoPowered s then .next s
  else .next ((List.range 4).foldl (fun s i =>
    let old := inputOf s i
    let new := sampleInput (levels.getLsbD i) old
    let s := { s with ao := { s.ao with inputs := mset s.ao.inputs i new } }
    if new.level = old.level then s else inputChanged i new.level s) s)

/-- KEY_SWITCH_TIMEOUT (R201): 30 minutes after the switch's own qualified activation the ceremony closes and a lock-out is set. -/
def execKeySwitchTimeout (b : Bool) (s : State) : Host.Outcome State Fault Refusal :=
  match (mgetD s.ao.switches (b2n b) {}).since with
  | none => .next s
  | some t =>
    let s := advanceTo (t + 1800000000000) s
    if s.ao.lockout then .next s else .next (latchEvent 39 (destroyLoad { s with ao := { s.ao with lockout := true } }))

/-- LOCKOUT_END (R201): both switches off together for 1 s. -/
def execLockoutEnd (s : State) : Host.Outcome State Fault Refusal :=
  match s.ao.lockout, s.ao.bothOff with
  | true, some t => .next (latchEvent 39 { advanceTo (t + 1000000000) s with ao := { s.ao with lockout := false } })
  | _, _ => .next s

end Sys2Proof.Machine
end

