-- ==== Sys2Proof/Machine/CuratorBase.lean ====
section
/-!
DEFINITION. The Curator's transports: which bus reaches it, the mailbox, and replies (R402, R408, R409, R415, R416).
-/

namespace Sys2Proof.Machine

/-- The Curator core runs: VAUX is present and no restart is under way (R402). -/
def curatorRuns (s : State) : Bool := s.ao.vaux && s.cur.restarting.isNone

/-- Main power is on, outside VAULT. -/
def mainUp (s : State) : Bool := s.pow.main && s.pow.mode != .vault

/-- The bus reaches the Curator: 0 SMBus and I3C whenever it runs; 1 PCIe VDM, 2 the mailbox and 3 PCIe DOE with main power (R415); a mailbox message is one submitted, its answer free to be written (R416). -/
def busReaches (s : State) (bus : Nat) : Bool :=
  curatorRuns s && (bus == 0 || (mainUp s && (bus == 1 || bus == 3 || (bus == 2 && s.cur.submit && !s.cur.outValid))))

/-- Sends a reply: in the mailbox it fills the outbound buffer; over PCIe VDM it waits for the PF's Bus Master Enable (R57, R409, R416). -/
def sendReply (bus : Nat) (r : MgmtReply) (s : State) : State :=
  let a : Answered := { bus := bus, reply := r }
  let c := s.cur
  if bus = 2 then
    let b := (leBytes 1 r.code ++ r.data).take 4096
    { s with cur := { c with replies := c.replies ++ [a], outBuf := memWriteBytes 0 c.outBuf 0 b, outLen := b.length, outValid := true } }
  else sendMctp bus (.reply a) s

/-- Serves one message: taken from its bus, answered on it. -/
def serve (bus : Nat) (act : State → MgmtReply × State) (s : State) : State :=
  if !busReaches s bus then s
  else
    let s := if bus = 2 then { s with cur := { s.cur with submit := false } } else s
    let (r, s) := act s
    sendReply bus r s

/-- SCRAPPED and TERMINATED: only serial, identity certificate and fuse map are readable (R347, R352). -/
def readoutOnly (s : State) : Bool := s.reg.state == 7 || s.reg.state == 15

/-- A message that those two states do not serve. -/
def serveFull (bus : Nat) (act : State → MgmtReply × State) (s : State) : State := if readoutOnly s then s else serve bus act s

/-- A message whose answer comes later: taken from its bus now. -/
def serveLater (bus : Nat) (act : State → State) (s : State) : State :=
  if !busReaches s bus then s else act (if bus = 2 then { s with cur := { s.cur with submit := false } } else s)

/-- A reply without error. -/
def replyOk (b : Bytes) : MgmtReply := { code := 0, data := b }

/-- A reply with a completion code. -/
def replyCode (c : Nat) : MgmtReply := { code := c, data := [] }

end Sys2Proof.Machine
end

