-- ==== Sys2Proof/Machine/LifeOps.lean ====
section
/-!
DEFINITION. Life-cycle transitions, debug authorisation and the Conservator's full run, and the meanings of their commands (R347 to R356).
-/

namespace Sys2Proof.Machine

/-! Transitions (R348, R349, Table 14-5). -/

/-- The token class of a transition: RAW 0, TEST_EXIT 1, MANUFACTURE 2, PERSONALISE 3, RECOMMISSION 4, RETURN 5, SCRAP 6, UNLOCK_i 16 + i; none when Table 14-5 has no such transition or the ordering code forbids it. -/
def tokenClass (state target index : Nat) (codeE : Bool) : Option Nat :=
  if state = 1 ∧ target = 2 then (if 1 ≤ index ∧ index ≤ 7 then some (16 + index) else none)
  else if index ≠ 0 then none
  else if state = 0 ∧ target = 1 then some 0
  else if state = 2 ∧ target = 1 then some 1
  else if state = 1 ∧ target = 3 ∧ codeE = false then some 2
  else if state = 1 ∧ target = 5 ∧ codeE = true then some 2
  else if state = 3 ∧ target = 4 ∧ codeE = false then some 3
  else if (state = 3 ∨ state = 4) ∧ target = 3 then some 4
  else if state = 5 ∧ target = 5 then some 4
  else if (state = 3 ∨ state = 4 ∨ state = 5) ∧ target = 6 then some 5
  else if state = 6 ∧ target = 7 then some 6
  else none

/-- Every cause's condition has been absent for 1 s (Table 14-5). -/
def quietASecond (s : State) : Bool :=
  match s.ao.quietSince with
  | some t => s.ao.live % 2 ^ 13 == 0 && decide (s.now ≥ t + 1000000000)
  | none => false

/-- The first of the refusals of R350 in rising order of their numbers; the path comes first where no token class is named (log 34). -/
def transitionRefusal (s : State) (target index : Nat) (token : Bytes) (house : Bool) : Option Nat :=
  match tokenClass s.reg.state target index s.fuses.codeE with
  | none => some 2
  | some c =>
    let used := s.fuses.records.length
    let unlocks := s.fuses.records.filter (fun r => r.token ≠ 0)
    if sha256 token ≠ beBytes 32 (Config.tokenDigest c).toNat then some 1
    else if !(inputOf s 2).level then some 3
    else if used ≥ 64 || (used ≥ 62 && c != 5 && c != 6) || s.reg.burn.isSome || s.reg.transitioned then some 4
    else if (c = 3 && s.ao.responded) || (c = 4 && !quietASecond s) then some 5
    else if house && s.pow.mode != .quiesce then some 6
    else if c > 16 && (unlocks.any (fun r => r.token == index) || decide (unlocks.length ≥ 7)) then some 7
    else none

/-- Logs a request or a result (Table 17-3). -/
def logTransition (target reason : Nat) (s : State) : State := logRecord 0x0040 0 0 (leBytes 1 target ++ leBytes 1 reason) s

/-- Step 1 of Table 14-6: for RECOMMISSION and RETURN the erase line (R351, R353). -/
def beginTransition (target index : Nat) (ticket : Option Nat) (bus : Nat) (s : State) : State :=
  let c := (tokenClass s.reg.state target index s.fuses.codeE).getD 0
  let s := if c = 4 ∨ c = 5 then eraseLine false s else s
  { s with reg := { s.reg with burn := some { target := target, token := index, ticket := ticket, bus := bus, at_ := s.now } } }

/-- The 8-byte payload of a refusal (R350). -/
def refusalPayload (reason : Nat) : Bytes := leBytes 1 reason ++ zeros 7

/-- LCS_TRANSITION's check: a refusal is logged, and ACCESS_DENIED with its reason. -/
def transitionCheck (c : Ctx) (s : State) : Option Resp :=
  if s.reg.burn.isSome && (s.reg.burn.bind (·.ticket)) = some c.t then none
  else (transitionRefusal s (byteAt c.f 32) (byteAt c.f 33) (slice c.f 40 32) true).map (fun r =>
    { status := Status.accessDenied, fnFlags := 0, payload := refusalPayload r })

/-- The transition begins; its response waits for the completion fuse. -/
def transitionAct (c : Ctx) (s : State) : State :=
  if s.reg.burn.isSome then s
  else beginTransition (byteAt c.f 32) (byteAt c.f 33) (some c.t) 0 (logTransition (byteAt c.f 32) 0 s)

/-- A cell's refusal is logged as the request was checked (Table 17-3). -/
def logRefusal (cell : Nat) (s : State) : State :=
  match heldCommand cell 0x0E40 s with
  | none => s
  | some c =>
    match transitionCheck c s with
    | some r => logTransition (byteAt c.f 32) (byteAt r.payload 0) s
    | none => s

/-- LCS_TRANSITION (R350). -/
def execLcsTransition (cell : Fin 128) (s : State) : Host.Outcome State Fault Refusal :=
  .next (runCmd cell 0x0E40 transitionCheck transitionAct (logRefusal cell s))

/-- LCS_TRANSITION_MESSAGE (R350, R410): the Curator path, in every mode but VAULT; SCRAPPED and TERMINATED give their readout alone (R347, R352, log 192). -/
def execLcsTransitionMessage (bus : Nat) (target index : Byte) (token : Bytes) (s : State) : Host.Outcome State Fault Refusal :=
  if !mainUp s || readoutOnly s then .next s
  else match transitionRefusal s target.toNat index.toNat token false with
    | some r => .next (serve bus (fun s => ({ code := Status.accessDenied, data := refusalPayload r }, logTransition target.toNat r s)) s)
    | none => .next (serveLater bus (fun s => beginTransition target.toNat index.toNat none bus (logTransition target.toNat 0 s)) s)

/-- Target pairs whose bit is 1. -/
def targetPairs (t : Nat) : Nat := ((List.range 4).filter (fun i => bit t i)).length

/-- Time from the request to the whole record verified (Table 14-6): 0.1 ms, then 5 ms for each pair. -/
def burnNs (b : Burn) : Nat := 100000 + 5000000 * (2 + targetPairs b.target + b2n (b.token != 0))

/-- The record of a burn in progress as its pairs stand: none before step 2; then the intent pair, the target pairs burned from bit 0 up, the token-used pair, each after its 5 ms (Table 14-6). -/
def partRecord (now : Nat) (b : Burn) : Option TransitionRecord :=
  if now < b.at_ + 100000 then none
  else
    let pairs := (now - b.at_ - 100000) / 5000000
    let bits := ((List.range 4).filter (fun i => bit b.target i)).take (pairs - 1)
    some { target := (bits.map (2 ^ ·)).sum, token := if pairs ≥ 2 + targetPairs b.target then b.token else 0, complete := false }

/-- The transition records as the fuses hold them now, that of a burn in progress among them (R349, R351). -/
def fuseRecords (s : State) : List TransitionRecord := s.fuses.records ++ (s.reg.burn.bind (partRecord s.now)).toList

/-- RECOMMISSION clears the latch and the record's validity as it is made; a cause decided inside its window leaves them (R344, R354, Table 14-13). -/
def clearLatch (b : Burn) (s : State) : State :=
  if tokenClass s.reg.state b.target b.token s.fuses.codeE = some 4 && !b.decided then
    { s with ao := { s.ao with responded := false, latched := 0, recordValid := false, tamperOut := false } }
  else s

/-- A burn ends: the record stands, the request is answered OK, and every commit is answered NOT_READY from here on; a request that a tamper response or a halt has answered meanwhile keeps that answer (R343, R350, R351). -/
def finishBurn (s : State) : State :=
  match s.reg.burn with
  | none => s
  | some b =>
    let s := advanceTo (b.at_ + burnNs b) s
    let s := clearLatch b s
    let s := { s with
      fuses := { s.fuses with records := s.fuses.records ++ [{ target := b.target, token := b.token, complete := true }] }
      reg := { s.reg with burn := none, transitioned := true } }
    let s := logTransition b.target 0 s
    match b.ticket with
    | some t => if ((desc s t).map (fun d => d.st == .inService)).getD false then answerFn t (okResp []) [] s else s
    | none => sendReply b.bus (replyOk []) s

/-- TRANSITION_BURN_DONE (R350, R351). -/
def execTransitionBurnDone (s : State) : Host.Outcome State Fault Refusal := .next (finishBurn s)

/-! Debug (R355). -/

/-- The states in which debug can be enabled. -/
def debugIn (state : Nat) : Bool := state == 2 || state == 5 || state == 6

/-- Debug can be enabled now. -/
def debugState (s : State) : Bool := debugIn s.reg.state

/-- DEBUG_CHALLENGE (R355): 32 bytes of the Curator's instance; refused while that is not instantiated. -/
def execDebugChallenge (bus : Nat) (s : State) : Host.Outcome State Fault Refusal :=
  .next (serveFull bus (fun s =>
    if !debugState s || !instServes s 4128 || !mainUp s then (replyCode Status.accessDenied, s)
    else
      let (b, s) := drawBytes 4128 32 s
      (replyOk b, { s with reg := { s.reg with challenge := some b } })) s)

/-- DEBUG_RESPONSE (R355): a signature over challenge and serial under the authority whose digest is fused; the challenge is used up. -/
def execDebugResponse (bus : Nat) (key signature : Bytes) (s : State) : Host.Outcome State Fault Refusal :=
  .next (serveFull bus (fun s =>
    match s.reg.challenge with
    | none => (replyCode Status.accessDenied, s)
    | some ch =>
      let ok := debugState s && decide (sha384 key = beBytes 48 Config.debugAuthorityDigest.toNat) && p384Verify key (ch ++ serialBytes) signature
      let s := { s with reg := { s.reg with challenge := none } }
      if ok then (replyOk [], { s with ao := { s.ao with debugGrant := true } }) else (replyCode Status.accessDenied, s)) s)

/-! The Conservator (R356). -/

/-- CONSERVATOR_RUN (R356): only in DIAGNOSTIC. -/
def execConservatorRun (bus : Nat) (s : State) : Host.Outcome State Fault Refusal :=
  .next (serveFull bus (fun s =>
    if s.pow.mode == .diagnostic && !s.reg.fullRunning then (replyOk [], { s with reg := { s.reg with fullRunning := true } })
    else (replyCode Status.accessDenied, s)) s)

/-- CONSERVATOR_RUN_DONE (R356, Table 14-11): every test has run. -/
def execConservatorRunDone (pass : BitVec 8) (ms100 : Nat) (s : State) : Host.Outcome State Fault Refusal :=
  if !s.reg.fullRunning then .next s
  else .next { s with reg := { s.reg with fullRunning := false, fullPass := pass.toNat, fullRun := 255, full100ms := sat 0xFFFF ms100 } }

/-- RAW_SAMPLES (R356, R410): in DIAGNOSTIC, after a full run. -/
def execRawSamples (bus source offset : Nat) (samples : Bytes) (s : State) : Host.Outcome State Fault Refusal :=
  .next (serveFull bus (fun s =>
    if s.pow.mode == .diagnostic && s.reg.fullRun != 0 && decide (source < 8) && decide (offset < 16777216) then (replyOk samples, s)
    else (replyCode Status.accessDenied, s)) s)

end Sys2Proof.Machine
end

