-- ==== Sys2Proof/Machine/RngOps.lean ====
section
/-!
DEFINITION. The random number block: blocks, health tests, the fatal alarm, the instances, and the meanings of its commands (spec 11).
-/

namespace Sys2Proof.Machine

/-- A noise source. -/
def source (s : State) (n : Nat) : Source := mgetD s.rng.sources n {}

/-- Changes a noise source. -/
def updSource (n : Nat) (f : Source → Source) (s : State) : State := { s with rng := { s.rng with sources := mupd s.rng.sources n {} f } }

/-! The pool (R276, R277). -/

/-- A draw on the pool completes: commands parked on the instance are re-offered (R279). -/
def completeDraw (n : Nat) (reseed : Bool) (s : State) : State :=
  match nextDraw s with
  | none => s
  | some q =>
    if q.inst ≠ n ∨ q.reseed ≠ reseed ∨ s.rng.pool.length < drawBlocks q then s
    else
      let s := unqueueDraw n s
      offerWork (signalPark 1 n (if reseed then reseedInst n s else instantiate n s))

/-! RNG_STATE (Table 11-4). -/

/-- Sources in a phase, bit n for source n. -/
def sourcesIn (s : State) (p : SourcePhase) : Nat := maskOf ((List.range 8).filter (fun n => (source s n).phase == p))

/-- RNG_STATE. -/
def rngState (s : State) : Nat :=
  let r := s.rng
  sourcesIn s .live + 2 ^ 8 * sourcesIn s .starting + 2 ^ 16 * b2n r.startupDone + 2 ^ 17 * b2n (rngShort s) + 2 ^ 18 * b2n r.fatal +
  2 ^ 19 * r.fatalCause + 2 ^ 21 * r.fatalSource + 2 ^ 24 * r.pool.length + 2 ^ 31 * b2n r.dutyLow + 2 ^ 32 * r.drbgs.length + 2 ^ 48 * sat 0xFFFF r.queue.length

/-! The fatal alarm (R273, R280). -/

/-- Tickets parked with WAIT 1, not yet re-offered (Table 11-6). -/
def parkedOnRng (s : State) : List Nat :=
  (s.doc.descs.filter (fun p => match p.2.st with
    | .parked 1 _ => !p.2.signalled
    | _ => false)).map (·.1)

/-- The fatal alarm: event 24 and FATAL; sources, pool and draws; every instance but the masks' zeroised; parked commands answered ENTROPY_FAILED; then HALT where the image says so, or during START (R274, R280). -/
def rngFatalAlarm (cause src : Nat) (s : State) : State :=
  let s := latchEvent 24 s
  let stopped := s.rng.sources.map (fun (p : Nat × Source) => (p.1, { p.2 with phase := .stopped }))
  let s := { s with rng := { s.rng with
    fatal := true, fatalCause := cause, fatalSource := src, sources := stopped, pool := [], queue := []
    drbgs := s.rng.drbgs.filter (fun p => decide (4096 ≤ p.1 ∧ p.1 < 4112))
    lifeCount := sat 255 (s.rng.lifeCount + 1), lifeLast := bits (moduleTime s) 47 16 } }
  let s := logRecord 0x0060 0 0 (leBytes 8 (rngState s)) s
  let s := (parkedOnRng s).foldl (fun s t => endCommand t Status.entropyFailed s) s
  let s := (List.range 16).foldl (fun s w => shedClaims w s) (offerWork s)
  if s.pow.mode == .start || s.img.set.fatalRngAction == 1 then fatalError 0x43 s else s

/-- Sources that failed within the last second of module time. -/
def failingSources (s : State) : Nat :=
  ((List.range 8).filter (fun n => match (source s n).failedAt with
    | some t => decide (s.now < t + 1000000000)
    | none => false)).length

/-! The health tests (R271). -/

/-- The tests of Table 11-2 over samples, from sample `i` of a window on: 41 identical consecutive samples, or 795 in a window of 1,024 that equal its first; the test that fails first, or the last sample and how often it has stood there. `true` is the adaptive proportion test. -/
def healthTests : List Bool → Option Bool → Nat → Nat → Bool → Nat → Except Bool (Option Bool × Nat)
  | [], last, run, _, _, _ => .ok (last, run)
  | b :: rest, last, run, i, first, count =>
    let run := if last = some b then run + 1 else 1
    let first := if i % 1024 = 0 then b else first
    let count := if i % 1024 = 0 then 1 else if b = first then count + 1 else count
    if run ≥ 41 then .error false
    else if count ≥ 795 then .error true
    else healthTests rest (some b) run (i + 1) first count

/-- A source's tests over samples that begin a window. -/
def testSamples (x : Source) (samples : List Bool) : Except Bool (Option Bool × Nat) := healthTests samples x.last x.run 0 false 0

/-- The 1,024 samples of a block, first sample in bit 0. -/
def samplesOf (block : BitVec 1024) : List Bool := (List.range 1024).map block.getLsbD

/-- A test fails: the block is discarded and the source restarts with its compressor clear, event 23 latches, and four consecutive failures or three sources within 1 s raise the fatal alarm (R272, R273). -/
def sourceFails (n : Nat) (apt : Bool) (s : State) : State :=
  if (source s n).phase == .stopped then s
  else
    let s := updSource n (fun x => { x with
      phase := .starting, failed := sat 0xFFFF (x.failed + 1), consec := x.consec + 1, lastRct := !apt, lastApt := apt, failedAt := some s.now
      lfsr := 0, last := none, run := 0 }) s
    let s := logRecord 0x0060 n 0 (leBytes 8 (rngState s)) (latchEvent 23 s)
    if (source s n).consec ≥ 4 then rngFatalAlarm 1 n s
    else if failingSources s ≥ 3 then rngFatalAlarm 2 n s
    else s

/-- A passed block of a contributing source: compressed, counted, and pooled unless the pool is full (R269, R270, R272). -/
def passedBlock (n : Nat) (samples : List Bool) (tested : Option Bool × Nat) (s : State) : State :=
  let l := samples.foldl Config.lfsrStep (source s n).lfsr
  let s := updSource n (fun x => { x with consec := 0, blocks := sat 0xFFFFFFFF (x.blocks + 1), lfsr := l, last := tested.1, run := tested.2 }) s
  if s.rng.pool.length < 64 then { s with rng := { s.rng with pool := s.rng.pool ++ [leBytes 32 l.toNat] } } else s

/-- The samples of a block: it passes both tests, or fails one (R270, R271, R272). -/
def blockArrives (n : Nat) (block : BitVec 1024) (s : State) : State :=
  match testSamples (source s n) (samplesOf block) with
  | .ok t => passedBlock n (samplesOf block) t s
  | .error apt => sourceFails n apt s

/-- Samples in which a test fails: of a block, or of the start-up (R271, R272). -/
def samplesFail (n : Nat) (samples : List Bool) (s : State) : State :=
  match testSamples (source s n) samples with
  | .ok _ => s
  | .error apt => sourceFails n apt s

/-! The meanings. -/

/-- ENTROPY_BLOCK (R269 to R272): the 1,024 samples of a block of a contributing source; one that passes is compressed and enters the pool, or is discarded when the pool is full. -/
def execEntropyBlock (source_ : Fin 8) (block : BitVec 1024) (s : State) : Host.Outcome State Fault Refusal :=
  .next (if (source s source_).phase == .live then blockArrives source_ block s else s)

/-- HEALTH_TEST_FAIL (R271 to R273): the samples of a window up to the one at which a test fails. -/
def execHealthTestFail (source_ : Fin 8) (samples : List Bool) (s : State) : Host.Outcome State Fault Refusal := .next (samplesFail source_ samples s)

/-- SOURCE_START_UP_DONE (R272). -/
def execSourceStartUpDone (source_ : Fin 8) (s : State) : Host.Outcome State Fault Refusal :=
  .next (if (source s source_).phase == .starting then updSource source_ (fun x => { x with phase := .live }) s else s)

/-- DRBG_RESEED_DONE (R277). -/
def execDrbgReseedDone (inst : Fin 4129) (s : State) : Host.Outcome State Fault Refusal := .next (completeDraw inst true s)

/-- DRBG_INSTANTIATE_DONE (R276, R277). -/
def execDrbgInstantiateDone (inst : Fin 4129) (s : State) : Host.Outcome State Fault Refusal := .next (completeDraw inst false s)

end Sys2Proof.Machine
end

