-- ==== Sys2Proof/Machine/StartOps.lean ====
section
/-!
DEFINITION. START: how it begins, its steps and its close, and its meaning (R360 to R366).
-/

namespace Sys2Proof.Machine

/-! What a START leaves behind (R17, R18, R78, R80, R152). -/

/-- A gallery's state beside its Vitrine: journal, open operations, buckets, counts and histograms go; what its header and records hold stays (R17, R18, R174). -/
def restartGallery (g : Gallery) : Gallery :=
  { g with
    sealLive := [], sealPartner := [], journal := [], journalAt := 0, journalFull := false, ops := [], nextOp := 1, cmdTokens := g.desc.cmdBurst, pkTokens := g.desc.pkBurst
    meter := noCounts, closing := [], meterExtra := 0, meterSkip := false, admits := [], latHolder := [], streams := [] }

/-- The pair and span as a reset leaves them: every link down, the heartbeat low, no delta in flight; the anchor record stays, and SPN_ERR's AUTH_FAIL and DOWNS, which only PWRON_RESET_N resets (R9, R286, R296, R304). -/
def restartPair (p : Pair) : Pair :=
  { member := p.member, tieWinner := p.tieWinner, port := p.port, partner := p.partner, term := p.term, termBefore := p.termBefore
    cause := p.cause, at_ := p.at_, lastDelta := p.lastDelta, written := p.written, undo := p.undo, routeSel := p.routeSel, sent := p.sent
    ports := mmap (fun (x : SpanPort) => { authFail := x.authFail, downs := x.downs }) p.ports
    role := if p.member = 0 then p.role else .withdrawn }

/-- The random number block as a reset leaves it: sources stopped, pool, instances and draws gone; what its registers count since START or since PWRON_RESET_N stays (R269, R275, R281). -/
def restartRng (r : Rng) : Rng :=
  { lifeCount := r.lifeCount, lifeLast := r.lifeLast, interval := r.interval, fatal := r.fatal, fatalCause := r.fatalCause, fatalSource := r.fatalSource
    sources := mmap (fun (x : Source) => { failed := x.failed, consec := x.consec, lastRct := x.lastRct, lastApt := x.lastApt, blocks := x.blocks }) r.sources }

/-- START begins: no alarm, and no block counted, since then (Tables 11-4 and 11-5). -/
def freshRng (r : Rng) : Rng :=
  { r with
    fatal := false, fatalCause := 0, fatalSource := 0, startupDone := false
    sources := mmap (fun (x : Source) => { x with failed := 0, blocks := 0, failedAt := none }) r.sources }

/-- The main domain loses what lies outside BBRAM, the Vitrine, the flash, the Curator's SRAM and the registers: commands, windows, key cache, engines, instances, the working regions (R17, R18, R80, R372). -/
def stopMain (s : State) : State :=
  let s := settleCells s
  { s with
    fab := { s.fab with windows := [], vfRows := [] }
    doc := { tickUs := s.doc.tickUs, takeTimeout := s.doc.takeTimeout, hist := s.doc.hist, histClearedAt := s.doc.histClearedAt, flowSel := s.doc.flowSel, repairs := s.doc.repairs }
    vit := { s.vit with
      galleries := mmap restartGallery s.vit.galleries, km := [], workingKey := [], cache := [], meterStore := [], meterToArchive := [], meterWaiting := []
      admits := [], domains := [], clockOffset := 0, anchorOwed := false, custody := { s.vit.custody with components := [], loadCounter := 0, dying := false } }
    rng := restartRng s.rng
    pair := restartPair s.pair
    err := { erased := s.err.erased, lastCause := s.err.lastCause, times := s.err.times, lines := [], wings := mmap (fun (x : WingErr) => { lastCause := x.lastCause }) s.err.wings }
    pow := { s.pow with
      ceremony := false, isolated := false, pending := false, starting := false, closeStage := 0, quiesce := none, switching := [], switchTo := none, switchTicket := none
      avs := none, pllStopped := [], wRun := 16, lastTake := [], woken := [], awaited := [], wings := [], operandSpace := {} }
    cur := { s.cur with update := none, logRing := [], arcToBurn := 0 } }

/-- The life-cycle state that the fuse records spell: the last target, TERMINATED where a record is incomplete (R349, R352). -/
def fusedState (f : Fuses) : Nat :=
  if f.records.any (fun r => !r.complete) then 15 else ((f.records.getLast?).map (·.target)).getD 0

/-- Module-wide registers at their Reset columns (R9): those that no image, fuse or always-on domain holds. -/
def resetRegisters (s : State) : State :=
  { s with
    fab := { s.fab with mevCause := 0, mevMask := 0 }
    doc := { s.doc with hist := [], histClearedAt := 0, flowSel := 0 }
    pair := { s.pair with role := .withdrawn, termBefore := 0, cause := 0, at_ := 0, routeSel := 0, ports := [] }
    err := {}
    reg := { s.reg with fieldPass := 0, fieldRun := 0, fullPass := 0, fullRun := 0, fieldMs := 0, full100ms := 0, fullRunning := false, state := fusedState s.fuses }
    rng := { lifeCount := s.rng.lifeCount, lifeLast := s.rng.lifeLast, interval := s.rng.interval }
    vit := { s.vit with
      galleries := mmap (fun g => { g with latHouse := [] }) s.vit.galleries
      custody := { s.vit.custody with mismatch := false, setPending := false } }
    pow := { s.pow with firstStart := false, startMs := 0, startStep := 0, tcEst := 0, step := 0, overRange := false, hottest := 0, vcoreMv := 800, steps := 0, coolSince := none, mildSince := none, tolerance := 0 }
    img := { s.img with loaded := 3, staged := false, successor := false, reason0 := 0, reason1 := 0, loosened := false, unpinned := false, version := 0 }
    cur := { s.cur with
      logSel := 0, slot := 0, restarts := 0, inLen := 0, submit := false, outLen := 0, outValid := false, sensors := [], fwLoaded := false }
    cnt := {} }

/-- The descriptor of gallery 0 (R456). -/
def galleryZero (s : State) (epoch : Nat) : Descriptor :=
  { id := 0, privileges := 0x1E, wakeTol := 65535, reach := 0, cmdRate := 0xFFFF, cmdBurst := 65535, pkRate := 0xFFFF, pkBurst := 65535
    stagingKib := 8192, flows := 256, cacheShare := 131072, slots := 65536, loans := 0, prioCeiling := 7, epoch := epoch
    home := placement s, partner := partnerField s }

/-- Gallery 0, homed on every module at index 0 (R33). -/
def withGalleryZero (epoch inst : Nat) (s : State) : State :=
  { s with vit := { s.vit with galleries := mset s.vit.galleries 0 (newGallery s (galleryZero s epoch) 0 inst) } }

/-- START may begin: main power, both resets deasserted, no transition burn (R360, Table 19). -/
def resetReleased (s : State) : Bool := s.pow.main && !s.pow.pwronAsserted && !s.pow.perstAsserted

/-- Gallery 0 stands in the table, made anew where a Vitrine was dropped; the PF streams enabled before READY stay (R33, R78). -/
def keepZero (s : State) : State := if (gal s 0).isSome then s else withGalleryZero 0 0 s

/-- The states in which only the Registrar and the Curator respond, or the main domain does not start (R352, R365). -/
def noService (state : Nat) : Bool := state == 0 || state == 1 || state == 7 || state == 15

/-- Windows at START: only the PF's, bound to gallery 0, and none where the state gives no service (R33, R78, R365). -/
def startWindows (s : State) : State :=
  let s := keepZero s
  if noService (fusedState s.fuses) then { s with fab := { s.fab with windows := [] } }
  else
    let s := { s with fab := { s.fab with windows := [(0, { gallery := some 0, lastState := ((mget s.fab.windows 0).map (·.lastState)).getD (0, 0, 0) })] } }
    refreshWindow 0 s

/-- The shadow counters at START (R420, R429). -/
def clearShadows (s : State) : State :=
  { s with cnt := { s.cnt with
    wing := mmap (fun (c : WingCounter) => { c with shadow := 0 }) s.cnt.wing, slots := mmap (fun (x : SlotBlock) => { x with shadow := List.replicate 8 0 }) s.cnt.slots
    latShadow := [], cellAt := [], fabCycles := 0, fabFrom := s.now } }

/-- START stands before step 1, at THROUGHPUT clocks (R360, Table 15-1); DOC_HIST_CTL.CLEARED_AT takes its time (Table 10-10). -/
def openStart (s : State) : State :=
  { s with
    doc := { s.doc with histClearedAt := moduleTime s % 2 ^ 32 }
    rng := freshRng s.rng
    pow := { s.pow with
      starting := true, startStep := 0, closeStage := 0, startAt := s.now, countFrom := s.now, steps := 0, firstStart := false
      clockMode := 3, vcoreMv := wantedMv s.pow.step 3 } }

/-- A debug grant takes effect for the START that begins, in the state the fuses then give, and is consumed (R355). -/
def takeGrant (s : State) : State :=
  let on := debugIn (fusedState s.fuses) && (s.ao.debugGrant || s.reg.debug)
  { s with ao := { s.ao with debugGrant := false }, reg := { s.reg with debug := on, debugStarted := on } }

/-- START begins (R360, R371): a burn still running ends first. -/
def beginStart (s : State) : State := logTamper (takeGrant (openStart (clearShadows (startWindows (stopMain (setMode .start (finishBurn s)))))))

/-- START ends at a step (R361). -/
def endStart (n : Nat) (s : State) : State := { s with pow := { s.pow with starting := false, startStep := n } }

/-! The outcome of a step (R361). -/

/-- Logs a step: step, outcome, duration, whose value no rule fixes (Table 17-3, log 13). -/
def logStep (n outcome : Nat) (s : State) : State :=
  let (d, s) := freeBytes 4 s
  logRecord 0x0010 0 0 (leBytes 1 n ++ leBytes 1 outcome ++ d) s

/-- A firmware image that verifies and is not rolled back (R412). -/
def firmwareOk (s : State) (f : Option FwImage) : Bool :=
  match f with
  | some x => x.ecdsaOk && x.mldsaOk && decide (s.fuses.arc ≤ x.security)
  | none => false

/-- The firmware slots by number: 0 A, 1 B. -/
def firmwareSlot (s : State) (n : Nat) : Option FwImage := if n = 0 then s.img.fwA else s.img.fwB

/-- START ends in HALT, without erasure, with READY low (R361); firmware on which READY never rose is marked for the boot code, where the other slot qualifies (R414). -/
def startHalt (n : Nat) (s : State) : State :=
  let bad := decide (n ≥ 8) && !s.cur.fwProven && firmwareOk s (firmwareSlot s (1 - s.cur.slot))
  let s := if bad then { s with cur := { s.cur with fwBad := some s.cur.slot } } else s
  setMode .halt { logStep n 1 s with pow := { s.pow with starting := false } }

/-- What a step answers: the state, and whether START goes on to the next step. -/
abbrev StepEnd := Bool × State

/-- A step that must hold, or HALT. -/
def mustHold (n : Nat) (ok : Bool) (s : State) : StepEnd := if ok then (true, s) else (false, startHalt n s)

/-! Step 1 (R222, R342, R352, R353, R355, R363, R365). -/

/-- RETURNED: the Curator erases the user regions before anything else (R353, Table 16-1). -/
def wipeUserRegions (blank : Bool) (s : State) : State :=
  { s with
    img := { s.img with slot0 := [], slot1 := [], archive := [] }
    cur := { s.cur with logMirror := [] }
    reg := { s.reg with wiped := blank } }

/-- SUPPLY_LOST is decided at step 1: BBRAM lacks its validity mark in a state where that is armed; the erase line acts, and the record follows at the end of the collection count (R336, R340, R342, R345). -/
def supplyLost (s : State) : State :=
  let rec0 := recordAtDecision s
  let s := eraseLine false s
  latchEvent 22 { s with ao := { s.ao with
    responded := true, latched := setBit s.ao.latched 13 true, collecting := some (s.now, 13), collected := 2 ^ 13, tamperOut := true, record := rec0 } }

/-- LIVE shows SUPPLY_LOST's condition as step 1 finds and leaves it, armed or not; it is no standing condition of RECOMMISSION (R336, R337, Table 14-5, log 193). -/
def showSupplyLost (s : State) : State := { s with ao := { s.ao with live := setBit s.ao.live 13 (!s.bb.valid) } }

/-- The next nonce-epoch fuse is burned when BBRAM was lost; with all 63 burned the nonce service is withdrawn (R222). -/
def burnEpoch (s : State) : State :=
  if !s.bb.lost then s
  else
    let f := s.fuses
    { s with
      bb := { s.bb with lost := false }
      fuses := if f.epochs < 63 then { f with epochs := f.epochs + 1 } else { f with nonceWithdrawn := true } }

/-- The BBRAM validity mark, written in MANUFACTURED and DEVELOPMENT (R363). -/
def markValid (s : State) : State := if s.reg.state = 3 ∨ s.reg.state = 5 then { s with bb := { s.bb with valid := true } } else s

/-- The life-cycle state that the fuses encode is in force, and arms its causes (R337, R349, R350). -/
def loadState (s : State) : State :=
  armNow (armed s) { s with reg := { s.reg with state := fusedState s.fuses, transitioned := false, challenge := none } }

/-- Step 1. -/
def startStep1 (env : StartEnv) (s : State) : StepEnd :=
  let s := loadState s
  if !s.pow.starting then (false, s)
  else if s.reg.state = 15 then (false, endStart s.pow.startStep s)
  else
    let s := if s.reg.state = 6 ∧ s.reg.wiped = false then wipeUserRegions env.wipeBlank s else s
    if s.reg.state = 6 ∧ s.reg.wiped = false then (false, s)
    else if !env.fusesAgree then (false, fatalError 0x41 (logStep 1 1 s))
    else
      let s := if !s.ao.responded && bit (armed s) 13 && !s.bb.valid then supplyLost s else s
      let s := showSupplyLost (markValid (burnEpoch s))
      if s.ao.responded then (true, s)
      else if noService s.reg.state then
        (false, endStart 1 (logStep 1 0 s))
      else (true, s)

/-! Steps 2 to 7. -/

/-- Step 2: PLL lock; with the tamper latch set, TAMPERED and no later step (R342). -/
def startStep2 (env : StartEnv) (s : State) : StepEnd :=
  if !env.pllLock then (false, startHalt 2 s)
  else if s.ao.responded then (false, setMode .tampered (endStart 2 (logStep 2 0 s)))
  else (true, s)

/-- Step 5: SRAM zeroed; a failing wing is retired, and with fewer than 8 left START halts (R325, Table 15-1). -/
def startStep5 (env : StartEnv) (s : State) : StepEnd :=
  let s := (env.badWings.filter (· < 16)).foldl (fun s w => retireWing w s) s
  mustHold 5 (decide (wingsAvailable s ≥ 8)) s

/-- The Vitrine region is scrubbed, and checked under its keys: in every state that reaches these steps but MANUFACTURED (R365). -/
def readsVitrine (s : State) : Bool := s.reg.state != 3

/-- A Vitrine found missing or altered is initialised in PRODUCTION and DEVELOPMENT; in DIAGNOSTIC it stays lost (R183, R362, R365). -/
def initialises (s : State) : Bool := s.reg.state == 4 || s.reg.state == 5

/-- Step 6: an uncorrectable line marks its record damaged (R329). -/
def startStep6 (env : StartEnv) (s : State) : StepEnd :=
  if !readsVitrine s || !s.vit.retained then (true, s)
  else (true, env.badRecords.foldl (fun s p =>
    logRecord 0x0090 0 0 (leBytes 4 p.1 ++ leBytes 4 p.2) (updGal p.1 (fun g => { g with damaged := p.2 :: g.damaged.filter (· != p.2) }) s)) s)

/-- The check of R182: a Vitrine written under this KM, the anchor's counter equal to BBRAM's, its MAC, and its root equal to the one rebuilt from the lines. -/
def vitrineAccepted (env : StartEnv) (s : State) : Bool :=
  s.vit.present && s.vit.retained && s.vit.writtenUnder == s.vit.km && s.vit.anchorVersion == s.bb.version &&
  s.vit.anchorMac == anchorMacOf s && s.vit.anchorRoot == treeRoot s env.altered

/-- The Vitrine is gone: every gallery, header, register and record of it (R183). -/
def dropVitrine (s : State) : State :=
  { s with
    vit := { s.vit with
      galleries := [], remote := [], present := false, retained := false, writtenUnder := [], anchorVersion := 0, anchorTerm := 0, anchorRole := 6
      anchorDelta := 0, custody := {}, meterAcks := [] }
    img := { s.img with ceiling := none, registerSet := none }
    pair := { s.pair with written := [], undo := [], lastDelta := 0, term := 0 } }

/-- The record of a Vitrine lost, at START or by an earlier erasure (R183, R330, Table 17-3). -/
def logLost (s : State) : State := logRecord 0x0090 0 0 (leBytes 4 0xFFFFFFFF ++ leBytes 4 0xFFFFFFFF) s

/-- Step 7: KM, and the check; a START that finds no root, or fails, initialises the Vitrine after step 10 (R182, R183, R362). -/
def startStep7 (env : StartEnv) (s : State) : StepEnd :=
  if !readsVitrine s then (true, keepZero (dropVitrine s))
  else match moduleRootOf s with
    | none =>
      let s := if s.bb.fatalErased then logLost s else s
      (true, keepZero (dropVitrine { s with pow := { s.pow with firstStart := initialises s } }))
    | some root =>
      let s := { s with vit := { s.vit with km := kmOf s root } }
      if vitrineAccepted env s then (true, { s with pair := { s.pair with term := s.vit.anchorTerm, lastDelta := s.vit.anchorDelta } })
      else
        let s := logLost s
        (true, keepZero (dropVitrine { s with pow := { s.pow with firstStart := initialises s } }))

/-! Step 8 (R391, R412, R414). -/

/-- The boot code erases the slot of firmware on which READY never rose (R414). -/
def eraseBadFirmware (s : State) : State :=
  match s.cur.fwBad with
  | none => s
  | some n => { s with
      img := if n = 0 then { s.img with fwA := none, fwDataA := some [] } else { s.img with fwB := none, fwDataB := some [] }
      cur := { s.cur with fwBad := none } }

/-- The firmware slot loaded: the higher version among those that qualify, slot A where they are equal (R412). -/
def chosenFirmware (s : State) : Option (Nat × FwImage) :=
  match firmwareOk s s.img.fwA, firmwareOk s s.img.fwB, s.img.fwA, s.img.fwB with
  | true, true, some a, some b => if b.version > a.version then some (1, b) else some (0, a)
  | true, _, some a, _ => some (0, a)
  | _, true, _, some b => some (1, b)
  | _, _, _, _ => none

/-- Loads firmware; newly loaded firmware is unproven until READY rises on it (R413, R414). -/
def loadFirmware (n : Nat) (f : FwImage) (s : State) : State :=
  { s with cur := { s.cur with
      slot := n, fwLoaded := true, fwVersion := f.version, fwSecurity := f.security, fwDigest := f.digest
      fwProven := s.cur.fwProven && s.cur.fwVersion == f.version && s.cur.slot == n } }

/-- Step 8. -/
def startStep8 (s : State) : StepEnd :=
  let s := eraseBadFirmware s
  match chosenFirmware s with
  | none => (false, startHalt 8 s)
  | some (n, f) =>
    let (ok, s) := selectImage (loadFirmware n f s)
    mustHold 8 ok s

/-! Steps 9 and 10. -/

/-- Step 9: the field set; the span lanes that fail their loop-back are excluded (R356, Table 14-7). -/
def startStep9 (env : StartEnv) (s : State) : StepEnd :=
  let p := env.fieldPass.toNat
  let s := { s with
    reg := { s.reg with fieldPass := p, fieldRun := 255, fieldMs := sat 0xFFFF env.fieldMs }
    pair := { s.pair with badLanes := if bit p 1 then s.pair.badLanes else (s.pair.badLanes ++ env.failLanes).eraseDups } }
  mustHold 9 (bit p 2 && bit p 3 && bit p 4 && decide (env.sites ≥ 16) && (bit p 6 || env.noiseAgain)) s

/-- The instances that step 10 instantiates: the masks', the key generators', the Curator's, gallery 0's (R274, Table 11-3). -/
def startInstances : List Nat := (List.range 16).map (· + 4096) ++ (List.range 16).map (· + 4112) ++ [4128, 0]

/-- The instances not yet there. -/
def missingInstances (s : State) : List Nat := startInstances.filter (fun n => !mhas s.rng.drbgs n)

/-- The sources that contribute blocks. -/
def contributing (s : State) : List Nat := (List.range 8).filter (fun n => (source s n).phase == .live)

/-- One conditioned block, of the contributing sources in turn (log 39), used as soon as four are there for an instance still missing; with no source contributing there is none. -/
def takeBlock (i : Nat) (b : BitVec 1024) (s : State) : State :=
  match (contributing s)[i % (contributing s).length]? with
  | none => s
  | some n =>
    let s := blockArrives n b s
    match missingInstances s with
    | m :: _ => if s.rng.pool.length ≥ 4 then instantiate m s else s
    | [] => s

/-- Each cipher engine draws its current and its spare mask seed (R215, R216). -/
def seedEngines (s : State) : State :=
  (List.range 16).foldl (fun s w =>
    let (seed, s) := drawBytes (4096 + w) 32 s
    let (spare, s) := drawBytes (4096 + w) 32 s
    updWing w (fun x => { x with cen := { x.cen with seedReady := true, seedsUsed := 1, seed := seed, spare := spare } }) s) s

/-- The sources that stand still are started; start-up samples fail as the tests find (R272, R274). -/
def startSources (env : StartEnv) (s : State) : State :=
  (env.startFails.filter (fun p => decide (p.1 < 8))).foldl (fun s p => samplesFail p.1 p.2 s)
    ((List.range 8).foldl (fun s n => updSource n (fun x => { x with phase := if x.phase = .stopped then .starting else x.phase }) s) s)

/-- Sources whose start-up samples have passed contribute, and their blocks are conditioned (R270, R272, R274). -/
def deliverBlocks (env : StartEnv) (s : State) : State :=
  let s := (env.passed.filter (· < 8)).foldl (fun s n => updSource n (fun x => { x with phase := if x.phase = .starting then .live else x.phase }) s) s
  env.blocks.zipIdx.foldl (fun s p => takeBlock p.2 p.1 s) s

/-- The start-up of the random number block is done (R274). -/
def startedUp (s : State) : State := { s with rng := { s.rng with startupDone := true } }

/-- Step 10: known-answer tests, then the sources start and deliver; START waits while a source has not passed its start-up samples or an instance is missing, and a failed test or a fatal alarm ends it in HALT (R274). -/
def startStep10 (env : StartEnv) (s : State) : StepEnd :=
  if !env.katOk then (false, startHalt 10 s)
  else
    let s := startSources env s
    if s.rng.fatal then (false, logStep 10 1 s)
    else
      let s := deliverBlocks env s
      if (contributing s).length < 8 || missingInstances s != [] then (false, s) else (true, seedEngines (startedUp s))

/-! The close (R202, R222, R338, R362, R365, R393). -/

/-- A module root is drawn where there is none (R362). -/
def drawRoot (s : State) : State :=
  if !s.pow.firstStart then s
  else match moduleRootOf s with
    | some _ => s
    | none =>
      let (r, s) := drawBytes 4112 32 s
      { s with bb := { s.bb with root := some r, fatalErased := false } }

/-- R362: an empty Vitrine is written under the keys of the root, and gallery 0 and the anchor record are created. -/
def initVitrine (s : State) : State :=
  let s := { s with vit := { s.vit with km := kmOf s ((moduleRootOf s).getD []) }, bb := { s.bb with version := 0 } }
  let (b, s) := drawBytes 4128 16 s
  let e := s.bb.creation + 1
  let s := { s with
    bb := { s.bb with creation := e }
    vit := { s.vit with present := true, retained := true, writtenUnder := s.vit.km, anchorVersion := 0 } }
  touchVitrine (withGalleryZero e (ofLE b) s)

/-- The custodian register at the close (R202): adopted when empty, the pending value made current by an image that matches it, SET_MISMATCH otherwise. -/
def checkRegister (s : State) : State :=
  match s.img.set.custodians with
  | none => s
  | some set =>
    let d := sha256 set.content
    let c := s.vit.custody
    if c.current = some d then { s with vit := { s.vit with custody := { c with mismatch := false, setPending := c.pending.isSome } }, img := { s.img with registerSet := some set } }
    else if c.current = none ∨ c.pending = some d then
      touchVitrine { s with
        vit := { s.vit with custody := { c with current := some d, pending := none, mismatch := false, setPending := false } }
        img := { s.img with registerSet := some set } }
    else { s with vit := { s.vit with custody := { c with mismatch := true, setPending := c.pending.isSome } } }

/-- The image version floor, a BBRAM word, once an image is loaded (R393). -/
def pinFloor (s : State) : State := if s.img.loaded = 3 then s else { s with bb := { s.bb with floor := s.img.version } }

/-- The pinned authority digest, a BBRAM word (R393). -/
def pinAuthority (s : State) : State := if s.img.loaded = 3 then s else { s with bb := { s.bb with pinned := s.img.toPin } }

/-- The ceiling record, a Vitrine write (R393). -/
def pinCeiling (s : State) : State := if s.img.loaded = 3 then s else touchVitrine { s with img := { s.img with ceiling := some (ceilingOf s.img.set) } }

/-- Gallery headers are read: gallery rights above the loaded CEILING row read as 0, and the minute now open begins (R51, R399). -/
def readHeaders (s : State) : State :=
  let m := moduleTime s / 1966080
  let s := { s with vit := { s.vit with minute := m + 1 } }
  { s with vit := { s.vit with galleries := mmap (fun g => { g with
      rights := (g.rights.zip s.img.set.ceilingRow).map (fun p => p.1 &&& p.2), meterFirst := m }) s.vit.galleries } }

/-- The working key, and 31 bits added into the loop generator (R17, R338). -/
def closeDraws (s : State) : State :=
  let (k, s) := drawBytes 4128 32 s
  let (b, s) := drawBytes 4128 4 s
  { s with vit := { s.vit with workingKey := k }, ao := { s.ao with generator := s.ao.generator ^^^ BitVec.ofNat 31 (ofLE b) } }

/-- The nonce counter resumes at the mark, and the mark is advanced (R222). -/
def resumeNonces (s : State) : State :=
  { s with rng := { s.rng with nonceCounter := s.bb.nonceMark }, bb := { s.bb with nonceMark := s.bb.nonceMark + 2 ^ 24 } }

/-- Gallery 0's home fields under the loaded image, and the new galleries' rows where step 7 made them. -/
def settleZero (s : State) : State :=
  updGal 0 (fun g => { g with
    desc := galleryZero s g.desc.epoch, cmdTokens := 65535, pkTokens := 65535
    rights := if s.vit.present then g.rights else s.img.set.defaultRights }) s

/-- The stages of the close up to READY, each a single BBRAM word or Vitrine write or none, with what writes the Vitrine marked (R362, R365, R366, R373). -/
def closeStages (s : State) : List (Bool × (State → State)) :=
  [(false, drawRoot), (s.pow.firstStart, fun s => if s.pow.firstStart then initVitrine s else s), (false, fun s => settleZero (closeDraws s)),
   (true, fun s => if s.vit.present then checkRegister s else s), (false, fun s => if s.vit.present then pinFloor s else s),
   (false, fun s => if s.vit.present then pinAuthority s else s), (true, fun s => if s.vit.present then pinCeiling s else s),
   (false, fun s => readHeaders (resumeNonces (copyToCurator s)))]

/-- The registers as READY finds them (R259, R301, R364, R368). -/
def readyRegisters (ms : Nat) (s : State) : State :=
  { s with
    pow := { s.pow with starting := false, startStep := 11, closeStage := 0, startMs := sat 0xFFFFFFFF ms }
    doc := { s.doc with nextTick := s.now + 1000 * s.doc.tickUs, ticks := 0 }
    pair := { s.pair with startTimeout := s.now + 1000000 * s.img.set.pairStartMs } }

/-- Firmware that has reached READY is proven, and the anti-rollback count follows its security number (R413, R414). -/
def proveFirmware (s : State) : State := { s with cur := { s.cur with fwProven := true, arcToBurn := s.cur.fwSecurity - s.fuses.arc } }

/-- The service mode that the image names is entered by the sequence of every change of service mode, from the clocks of START (R369). -/
def applyService (s : State) : State :=
  if s.pow.service = s.pow.clockMode then s
  else { s with doc := { s.doc with modeChange := some { target := s.pow.service, ticket := none } }, pow := { s.pow with pending := true } }

/-- READY, or DIAGNOSTIC (R364, R365); firmware is proven, a burn of the anti-rollback count begins, a deferred checkpoint is written (R406, R413, R414). -/
def raiseReady (ms : Nat) (s : State) : State :=
  let s := advanceTo (s.pow.startAt + 1000000 * ms) s
  let s := logStep 11 0 s
  let s := settleCells (readyRegisters ms s)
  let s := if s.reg.state = 2 ∨ s.reg.state = 6 then setMode .diagnostic s else proveFirmware (applyService (setMode .service s))
  if s.cur.deferred then writeCheckpoint s else s

/-- The close, one stage at a time; a stage that writes the Vitrine waits for the power-fail warning to end (R366, R373). -/
def startClose (env : StartEnv) (s : State) : StepEnd :=
  match (closeStages s)[s.pow.closeStage]? with
  | none => (false, raiseReady env.ms s)
  | some (writes, act) => if writes && s.pow.failWarning then (false, s) else (true, act s)

/-! START (R361). -/

/-- One step. -/
def startStepOf (n : Nat) (env : StartEnv) (s : State) : StepEnd :=
  match n with
  | 1 => startStep1 env s
  | 2 => startStep2 env s
  | 3 => (true, { s with pair := { s.pair with badLanes := env.badLanes } })
  | 4 => mustHold 4 env.gddrOk s
  | 5 => startStep5 env s
  | 6 => startStep6 env s
  | 7 => startStep7 env s
  | 8 => startStep8 s
  | 9 => startStep9 env s
  | 10 => startStep10 env s
  | _ => startClose env s

/-- The outcome of a step that START goes on from, as its record has it: 0, or 2 where lanes or a wing were excluded or a test failed that is only reported (R361, Tables 14-7 and 15-1, log 107). -/
def stepOutcome (n : Nat) (env : StartEnv) : Nat :=
  if (n = 3 ∧ env.badLanes ≠ []) ∨ (n = 5 ∧ env.badWings ≠ []) ∨ (n = 9 ∧ env.fieldPass ≠ 255) then 2 else 0

/-- A step, or stage of the close, is done: steps 1 to 10 are logged and counted. -/
def stepDone (n : Nat) (env : StartEnv) (s : State) : State :=
  if n ≤ 10 then { logStep n (stepOutcome n env) s with pow := { s.pow with startStep := n } }
  else { s with pow := { s.pow with closeStage := s.pow.closeStage + 1 } }

/-- The step that START stands before: 1 to 10, then the stages of the close as 11 to 18, and READY as 19. -/
def nextStep (s : State) : Nat := if s.pow.startStep < 10 then s.pow.startStep + 1 else s.pow.startStep + s.pow.closeStage + 1

/-- The steps from the next one up to `upTo`; fuel 19. -/
def startSteps (upTo : Nat) (env : StartEnv) : Nat → State → State
  | 0, s => s
  | fuel + 1, s =>
    let n := nextStep s
    if !s.pow.starting || n > upTo then s
    else
      let (go, s) := startStepOf n env s
      if go then startSteps upTo env fuel (stepDone n env s) else s

/-- START (R361): from the step it stands at up to `upTo`. -/
def execStart (upTo : Fin 20) (env : StartEnv) (s : State) : Host.Outcome State Fault Refusal := .next (startSteps upTo env 19 s)

end Sys2Proof.Machine
end

