-- ==== Sys2Proof/Machine/PowerOps.lean ====
section
/-!
DEFINITION. Resets, power, modes, clocks, thermal steps and wing states, and the meanings of their commands (R14 to R16, R30, R56, R80, R360, R366 to R377, R436, R441, R444).
-/

namespace Sys2Proof.Machine

/-! Resets (R56, R80, R360, R366, R436). -/

/-- A low pulse on a reset input acts: shorter than 1 us it is ignored, from 10 us on recognised; between the two the spec leaves it open (R436, log 13). -/
def pulseSeen (lowNs : Nat) (s : State) : Bool × State :=
  if lowNs < 1000 then (false, s)
  else if lowNs ≥ 10000 then (true, s)
  else
    let (n, s) := freeNumber s
    (n % 2 == 1, s)

/-- A reset ends the mode; in VAULT there is none to end (R80, R366). A burn in progress is finished first (Table 19). -/
def endMode (s : State) : State := if s.pow.mode == .vault then s else stopMain (setMode .start (finishBurn s))

/-- START follows once nothing holds it back any more (R360). -/
def startIfReleased (s : State) : State := if resetReleased s then beginStart s else s

/-- PERST_ASSERT (R80, R366). -/
def execPerstAssert (lowNs : Nat) (s : State) : Host.Outcome State Fault Refusal :=
  let (seen, s) := pulseSeen lowNs s
  if !seen then .next s
  else
    let s := endMode s
    .next { s with pow := { s.pow with perstAsserted := true }, fab := { s.fab with linkUp := false } }

/-- PERST_DEASSERT (R9, R360): every window and MSI-X structure at its reset values; the module-wide registers keep theirs; START begins if nothing else holds it. -/
def execPerstDeassert (s : State) : Host.Outcome State Fault Refusal :=
  if !s.pow.perstAsserted then .next s
  else .next (startIfReleased { s with
    pow := { s.pow with perstAsserted := false }
    fab := { s.fab with fns := [], windows := [] } })

/-- PWRON_RESET_ASSERT (R355, R366): as PERST_N; debug ends with the first assertion after its START has begun. -/
def execPwronResetAssert (lowNs : Nat) (s : State) : Host.Outcome State Fault Refusal :=
  let (seen, s) := pulseSeen lowNs s
  if !seen then .next s
  else
    let s := endMode s
    .next { s with
      pow := { s.pow with pwronAsserted := true }
      reg := { s.reg with debug := s.reg.debug && !s.reg.debugStarted, debugStarted := false } }

/-- PWRON_RESET_DEASSERT (R9, R360): main power is within its range, and module-wide registers take their reset values; PMC_MODE's is START, while PERST_N still holds START back too. -/
def execPwronResetDeassert (s : State) : Host.Outcome State Fault Refusal :=
  if !s.pow.pwronAsserted then .next s
  else
    let s := { s with pow := { s.pow with pwronAsserted := false, main := true } }
    .next (startIfReleased (armNow (armed s) (resetRegisters (if s.pow.mode == .vault then setMode .start s else s))))

/-- PCIE_LINK_DOWN (R80): the module goes on serving. -/
def execPcieLinkDown (s : State) : Host.Outcome State Fault Refusal := .next { s with fab := { s.fab with linkUp := false } }

/-- PCIE_LINK_UP (R80). -/
def execPcieLinkUp (s : State) : Host.Outcome State Fault Refusal :=
  .next (if s.pow.perstAsserted || !s.pow.main then s else { s with fab := { s.fab with linkUp := true } })

/-- HOT_RESET (R56, R80): the functions' configuration bits and MSI-X structures reset; windows, which R9 does not name here, and commands stay (log 38). -/
def execHotReset (s : State) : Host.Outcome State Fault Refusal := .next { s with fab := { s.fab with fns := [] } }

/-! Power (R15, R16, R363, R372, R373, R444). -/

/-- A transition that main power leaves unfinished: the fuses stay as its pairs have burned (R352). -/
def breakBurn (s : State) : State :=
  { s with reg := { s.reg with burn := none }, fuses := { s.fuses with records := fuseRecords s } }

/-- VAULT: the main domain stops at once, without erasure; GDDR6 is held with VAUX and its own rails (R15, R372). -/
def enterVault (g6Kept : Bool) (s : State) : State :=
  if !s.pow.main then s
  else
    let s := stopMain (breakBurn s)
    let s := { s with
      vit := { s.vit with retained := s.vit.retained && g6Kept && s.ao.vaux }
      fab := { s.fab with fns := [], linkUp := false }
      reg := { s.reg with debug := s.reg.debug && !s.reg.debugStarted, debugStarted := false }
      pow := { s.pow with main := false, pwronAsserted := true, perstAsserted := true, failWarning := false } }
    setMode .vault s

/-- MAIN_POWER_FAIL (R372). -/
def execMainPowerFail (g6Kept : Bool) (s : State) : Host.Outcome State Fault Refusal := .next (enterVault g6Kept s)

/-- GDDR6_RAIL_LOSS (R15, R372): in VAULT the contents are lost; with main power a main rail has failed. -/
def execGddr6RailLoss (s : State) : Host.Outcome State Fault Refusal :=
  .next (if s.pow.main then enterVault false s else { s with vit := { s.vit with retained := false } })

/-- POWER_FAIL_WARNING (R373). -/
def execPowerFailWarning (s : State) : Host.Outcome State Fault Refusal :=
  .next (if s.pow.main then { s with pow := { s.pow with failWarning := true } } else s)

/-- Both supplies are gone: BBRAM and the always-on domain with it lose everything (R9, R222, R363). -/
def loseAlwaysOn (s : State) : State :=
  { s with
    bb := { lost := true }
    ao := { since := s.now, powerUps := s.ao.powerUps, vaux := false, vbat := false, generator := s.ao.generator }
    rng := { s.rng with lifeCount := 0, lifeLast := 0 } }

/-- VAUX falls: the Curator stops and its SRAM is lost; the always-on domain goes on from VBAT, or loses power (R15, R16, R17). -/
def loseVaux (s : State) : State :=
  let s := { s with
    ao := { s.ao with vaux := false }
    vit := { s.vit with retained := s.vit.retained && s.pow.main }
    cur := { s.cur with
      logSram := [], buffered := [], inBuf := [], outBuf := [], inLen := 0, submit := false, outLen := 0, outValid := false,
      update := none, eid := 0, tid := 0, eventReceiver := (0, 0), eventBus := 0, spdm := 0, transcript := [], mctpWaiting := [] }
    img := { s.img with sramDigests := (none, none), sramSet := none, sramCeiling := none, sramPin := (none, 0) } }
  if s.ao.vbat then s else loseAlwaysOn s

/-- VAUX_LOSS (R16). -/
def execVauxLoss (s : State) : Host.Outcome State Fault Refusal := .next (if s.ao.vaux then loseVaux s else s)

/-- The always-on domain powers up: the loop generator seeded from oscillator jitter, module time from 0 (R28, R338). -/
def alwaysOnUp (vaux vbat : Bool) (s : State) : State :=
  let n := s.ao.powerUps + 1
  { s with ao := { since := s.now, powerUps := n, vaux := vaux, vbat := vbat, generator := Config.loopSeed n } }

/-- VAUX_RESTORE (R16, R404): the domain takes VAUX, and the Curator starts, its SEQ going on from the highest record held. -/
def execVauxRestore (s : State) : Host.Outcome State Fault Refusal :=
  if s.ao.vaux then .next s
  else
    let s := if s.ao.vbat then { s with ao := { s.ao with vaux := true } } else alwaysOnUp true false s
    .next (logTamper { s with cur := { s.cur with logSram := [], logSeq := ((s.cur.logMirror.head?).map (·.1)).getD 0, restarting := none } })

/-- ALWAYS_ON_POWER_UP (R338): after loss of both supplies, from those that return. -/
def execAlwaysOnPowerUp (vaux vbat : Bool) (s : State) : Host.Outcome State Fault Refusal :=
  .next (if aoPowered s || !(vaux || vbat) then s else alwaysOnUp vaux vbat s)

/-- VBAT_LOSS (R444): with VAUX present only sensor 41 goes invalid. -/
def execVbatLoss (s : State) : Host.Outcome State Fault Refusal :=
  if !s.ao.vbat then .next s
  else
    let s := { s with ao := { s.ao with vbat := false }, cur := { s.cur with sensors := mupd s.cur.sensors 41 {} (fun x => { x with valid := false }) } }
    .next (if s.ao.vaux then s else loseAlwaysOn s)

/-! Clocks (R14, R227, R247, R369, R377, R441). -/

/-- What remains of an operation in an engine's pipeline, at a new clock. -/
def rescaleOp (now old new : Nat) (e : Engine) : Engine :=
  { e with busy := e.busy.map (fun b => { b with endsAt := now + ceilDiv ((b.endsAt - now) * old) (max 1 new) }) }

/-- Changes clocks: holds are counted up to now at the old clock, operations in a pipeline go on at the new one (R227, R247). -/
def changeClock (f : State → State) (s : State) : State :=
  let s := settleCells ((List.range 16).foldl (fun s w => settlePku w (settleEngine true w (settleEngine false w s))) s)
  let s' := f s
  (List.range 16).foldl (fun t w =>
    let a := engineMHz s w
    let b := engineMHz s' w
    if a = b then t else updWing w (fun x => { x with cen := rescaleOp s.now a b x.cen, hsu := rescaleOp s.now a b x.hsu }) t) s'

/-- Asks the regulator for a setpoint. -/
def askSetpoint (mv : Nat) (s : State) : State :=
  if mv = s.pow.vcoreMv then { s with pow := { s.pow with avs := none } } else { s with pow := { s.pow with avs := some { millivolts := mv, tries := 1 } } }

/-- The service mode whose setpoint applies: the higher of those that wings still run at (R369, R381). -/
def neededMv (s : State) : Nat :=
  let a := wantedMv s.pow.step s.pow.clockMode
  match s.pow.switchTo with
  | some m => max a (wantedMv s.pow.step m)
  | none => a

/-- A thermal step ends: clocks rise at the settled setpoint (R377). -/
def endStep (n : Nat) (s : State) : State :=
  latchEvent 25 (changeClock (fun s => { s with pow := { s.pow with step := n, returning := none } }) s)

/-- AVSBUS_ACK (R369, R377, R441): the setpoint has settled. -/
def execAvsbusAck (s : State) : Host.Outcome State Fault Refusal :=
  match s.pow.avs with
  | none => .next s
  | some r =>
    let s := { s with pow := { s.pow with vcoreMv := r.millivolts, avs := none } }
    match s.pow.returning with
    | some n => .next (endStep n s)
    | none => .next s

/-- AVSBUS_TIMEOUT (R441): the clocks stay, the command is repeated at each tick, the failure is logged as a record of sensor 32, VDD_CORE. -/
def execAvsbusTimeout (s : State) : Host.Outcome State Fault Refusal :=
  match s.pow.avs with
  | none => .next s
  | some r =>
    let s := { s with pow := { s.pow with avs := some { r with tries := r.tries + 1 } } }
    .next (logRecord 0x00B0 32 0 (leBytes 2 32 ++ leBytes 2 r.millivolts) s)

/-! Wing states (R49, R374 to R376). -/

/-- The effective wake tolerance in microseconds (R49); with no gallery counted, the image's idle tolerance (R375). -/
def effectiveTolerance (s : State) : Nat :=
  let all := (recent 1000000000 s.now s.vit.admits).length
  let counted := (mvals s.vit.galleries).filter (fun g =>
    (g.admits.head?.map (fun t => decide (s.now < t + 100000000))).getD false &&
    decide (1024 * (recent 1000000000 s.now g.admits).length ≥ all))
  (counted.foldl (fun m g => match m with
    | none => some g.desc.wakeTol
    | some t => some (min t g.desc.wakeTol)) none).getD s.img.set.idleToleranceUs

/-- Nanoseconds of a span from `start` in which a cell held a command, from its takes and hand-backs, newest first (Table 10-14). -/
def heldNs (start : Nat) : Option Nat → List (Nat × Bool) → Nat
  | some t, [] => t - start
  | none, [] => 0
  | fin, (t, take) :: rest =>
    if t < start then (match fin with
      | some f => f - start
      | none => 0)
    else if take then (fin.map (· - t)).getD 0 + heldNs start none rest
    else heldNs start (some t) rest

/-- DOC_CELL.LOAD: the share of the last 1.024 ms, in 1/1,024 (Table 10-14). -/
def cellLoad (s : State) (c : Nat) : Nat :=
  let r := cellRegs s c
  min 1023 (heldNs (s.now - 1024000) (if r.held.isSome then some s.now else none) r.history / 1000)

/-- 1,024 times L, the mean number of busy cells (R375). -/
def busyCells (s : State) : Nat := ((List.range 128).map (cellLoad s)).sum

/-- w_run of R375, from 1,024 times L. -/
def wRunOf (a minRun l : Nat) : Nat := if l > 0 then min a (max minRun (ceilDiv (5 * l) 32768 + 1)) else min a minRun

/-- The deepest state of R375. -/
def deepestOf (t : Nat) (noDark : Bool) : WingPower :=
  if t ≥ 130 && !noDark then .dark else if t ≥ 28 then .nap else if t ≥ 1 then .idle else .run

/-- pll_stop_ok of R375. -/
def pllStopOk (t : Nat) (d : WingPower) : Bool := (d == .nap && decide (t ≥ 93)) || (d == .dark && decide (t ≥ 195))

/-- The typical time to RUN of a sleeping wing in units of 0.1 us (Table 15-4). -/
def wakeTime (s : State) (w : Nat) : Nat :=
  let stopped := s.pow.pllStopped.contains (w / 4)
  match (wing s w).power with
  | .run => 0
  | .idle => 3
  | .nap => if stopped then 850 else 250
  | .dark => if stopped then 1800 else 1200

/-- A wake begins, restarting the group's PLL first when it is stopped; the wing counts at one more recomputation, until the next but one (R376). -/
def wakeWing (w : Nat) (s : State) : State :=
  let s := updWing w (fun x => if x.power = .run then x else { x with waking := some (x.waking.getD x.power) }) s
  { s with pow := { s.pow with pllStopped := s.pow.pllStopped.filter (· != w / 4), woken := mset s.pow.woken w 1 } }

/-- Sleeping wings that are not waking, the one with the shortest time to RUN first, then the lowest. -/
def sleepers (s : State) : List Nat :=
  ((List.range 16).filter (fun w => available s w && (wing s w).power != .run && (wing s w).waking.isNone)).mergeSort
    (fun a b => wakeTime s a ≤ wakeTime s b)

/-- Every sleeping wing is woken: THROUGHPUT and ASSURANCE keep all available wings in RUN (R374). -/
def wakeAll (s : State) : State := (sleepers s).foldl (fun s w => wakeWing w s) s

/-- A wing may leave RUN: its engines and PK unit free, no claim queued, no command in its cells' hands (R227, R247, R374). -/
def wingFree (s : State) (w : Nat) : Bool :=
  let x := wing s w
  x.cen.owner.isNone && x.cen.queue.isEmpty && !x.cen.clearing && x.hsu.owner.isNone && x.hsu.queue.isEmpty && !x.hsu.clearing &&
  x.pku.owner.isNone && x.pku.queue.isEmpty && !x.pku.wiping && wingTickets s w == []

/-- Places a wing in a state; one that ready work waits for stays awake until its take (R376); in DARK its memory is lost and the PK unit powers up DIRTY (R240, R241, Table 15-4). -/
def placeWing (p : WingPower) (w : Nat) (s : State) : State :=
  let x := wing s w
  if x.waking.isSome || x.power == p then s
  else if p == .run then wakeWing w s
  else if x.power == .run && (!wingFree s w || s.pow.awaited.contains w) then s
  else updWing w (fun x =>
    if p = .dark then { x with power := .dark, mem := [], hsu := { x.hsu with scratch := [] }, pku := { erasePku x.pku with dirty := true, gallery := 0xFFFFF } } else { x with power := p }) (settleWingCells w s)

/-- The available wings in the order in which they stay in RUN: those woken, then by latest take (R375, R376). -/
def runOrder (s : State) : List Nat :=
  ((List.range 16).filter (available s)).mergeSort (fun a b =>
    let x := mhas s.pow.woken a || (wing s a).waking.isSome
    let y := mhas s.pow.woken b || (wing s b).waking.isSome
    if x != y then x else decide (mgetD s.pow.lastTake b 0 ≤ mgetD s.pow.lastTake a 0))

/-- The groups whose PLL stops: every wing of the four in NAP or DARK (R375). -/
def stoppedGroups (s : State) : List Nat :=
  (List.range 4).filter (fun g => (List.range 4).all (fun i =>
    let x := wing s (4 * g + i)
    (x.power == .nap || x.power == .dark) && x.waking.isNone))

/-- Ready commands. -/
def readyCount (s : State) : Nat := (s.doc.descs.filter (fun p => isReady s p.1 p.2)).length

/-- The placement of ECONOMY (R375). -/
def placeWings (t : Nat) (s : State) : State :=
  let n := max (wRunOf (wingsAvailable s) (min 16 s.pow.minRun) (busyCells s)) (s.pow.woken.filter (fun p => available s p.1)).length
  let d := deepestOf t s.pow.noDark
  let order := runOrder s
  let s := { s with pow := { s.pow with
    woken := s.pow.woken.filterMap (fun (p : Nat × Nat) => if p.2 ≤ 1 then none else some (p.1, p.2 - 1))
    awaited := if readyCount s = 0 then [] else s.pow.awaited } }
  let s := (order.take n).foldl (fun s w => placeWing .run w s) s
  let s := setDuty ((order.drop n).foldl (fun s w => placeWing d w s) s)
  let groups := if pllStopOk t d && !s.pow.noPllStop then stoppedGroups s else []
  { s with pow := { s.pow with
      wRun := n, pllStopped := groups } }

/-- WING_PLACEMENT (R375). -/
def execWingPlacement (s : State) : Host.Outcome State Fault Refusal :=
  if s.pow.mode != .service then .next s
  else
    let t := effectiveTolerance s
    let s := { s with pow := { s.pow with tolerance := sat 0xFFFF t } }
    if s.pow.service = 2 then .next (placeWings t s)
    else
      let s := wakeAll s
      .next { s with pow := { s.pow with wRun := wingsAvailable s, woken := [], awaited := [] } }

/-- WING_WAKE_REQUEST (R255, R376): ready work, and no cell of a RUN wing waits. -/
def execWingWakeRequest (s : State) : Host.Outcome State Fault Refusal :=
  let n := readyCount s
  if n = 0 || s.doc.waiting.any (fun c => wingTakes s (c.cell / 8)) then .next s
  else
    let already := ((List.range 16).filter (fun w => (wing s w).waking.isSome)).length
    let ws := (sleepers s).take (1 + (n - 1) / 64 - already)
    .next (ws.foldl (fun s w => wakeWing w s) { s with pow := { s.pow with awaited := (s.pow.awaited ++ ws).eraseDups } })

/-- WING_WAKE_DONE (R376): the wing is in RUN; its cells take, and claims that woke it are served. -/
def execWingWakeDone (wing : Fin 16) (s : State) : Host.Outcome State Fault Refusal :=
  if (Sys2Proof.Machine.wing s wing).waking.isNone then .next s
  else
    let s := setDuty (updWing wing (fun x => { x with power := .run, waking := none }) (settleWingCells wing s))
    .next (offerWork (serveClaims wing (grantNext true wing (grantNext false wing s))))

/-! Service modes (R30, R369). -/

/-- The last wing has switched: the mode changes, the setpoint falls if it may, the MODE_SET is answered OK, event 26 (R368, R369). -/
def finishSwitch (s : State) : State :=
  match s.pow.switchTo with
  | none => s
  | some m =>
    let t := s.pow.switchTicket
    let s := settleCells s
    let s := withMode (fun p => { p with service := m, clockMode := m, switchTo := none, switchTicket := none, switching := [], pending := false }) s
    let s := if neededMv s < s.pow.vcoreMv then askSetpoint (neededMv s) s else s
    let s := latchEvent 26 (if m = 2 then s else wakeAll s)
    match t with
    | some t => answerFn t (okResp []) [] s
    | none => s

/-- WING_CLOCK_SWITCH (R369): once its cells hold no command taken before the boundary, other than the MODE_SET itself, and a raised setpoint has settled. -/
def execWingClockSwitch (wing : Fin 16) (s : State) : Host.Outcome State Fault Refusal :=
  if s.pow.switchTo.isNone || (s.pow.avs.isSome && s.pow.returning.isNone) then .next s
  else
    let busy := (wingTickets s wing).any (fun t => some t != s.pow.switchTicket)
    let s := if s.pow.switching.contains wing.val && !busy then
        changeClock (fun s => { s with pow := { s.pow with switching := s.pow.switching.filter (· != wing.val) } }) s
      else s
    .next (offerWork (if s.pow.switching = [] then finishSwitch s else s))

/-! MODE_SET, QUIESCE, UPDATE (R367, R368, R370). -/

/-- The transition that a TARGET asks for is in Table 15-2: a service mode is entered from another one, from CEREMONY, which it closes, or from QUIESCE (R367, R368, log 171). -/
def modeAllowed (s : State) (target : Nat) : Bool :=
  (target != 4 || decide (wingsAvailable s ≥ 8)) &&
  (match s.pow.mode with
   | .service => target == 6 || (target == 8 && !s.pow.ceremony) || (decide (target ≤ 4) && (s.pow.ceremony || target != s.pow.service))
   | .quiesce => (s.pow.quiesce.map (·.complete)).getD true && (target == 7 || decide (target ≤ 4))
   | .update => target == 6
   | _ => false)

/-- The refusals of MODE_SET (R368). -/
def modeRefusal (c : Ctx) (s : State) : Option Resp :=
  let t := byteAt c.f 32
  if !(t == 2 || t == 3 || t == 4 || t == 6 || t == 7 || t == 8) then some (statusOnly Status.paramRejected)
  else refuse (!modeAllowed s t) Status.accessDenied

/-- QUIESCE begins: a pair member withdraws, a ceremony closes, the drain time-out starts (R370). -/
def enterQuiesce (ticket : Option Nat) (drainNs : Nat) (forUpdate : Bool) (s : State) : State :=
  let s := beginWithdraw (closeCeremony s)
  let s := { s with pow := { s.pow with
    quiesce := some { ticket := ticket, drainAt := s.now + drainNs, expired := false, complete := false, forUpdate := forUpdate } } }
  setMode .quiesce s

/-- Answers the MODE_SET of a transition that has completed, and latches event 26 (R368). -/
def modeDone (t : Nat) (s : State) : State := answerFn t (okResp []) [] (latchEvent 26 s)

/-- A service mode is asked for: from QUIESCE service resumes, CEREMONY closes; a change of clocks waits for the next boundary (R30, R368, R369). -/
def askService (t m : Nat) (s : State) : State :=
  let s := closeCeremony s
  let s := if s.pow.mode == .quiesce then setMode .service { s with pow := { s.pow with quiesce := none } } else s
  if m = s.pow.service then modeDone t s
  else { s with doc := { s.doc with modeChange := some { target := m, ticket := some t } }, pow := { s.pow with pending := true } }

/-- The Ulond slot that was not loaded at the last START; slot 0 where the defaults were (R396, log 43). -/
def inactiveUlond (s : State) : Nat := if s.img.loaded = 0 then 1 else 0

/-- Changes a Ulond slot. -/
def updUlond (n : Nat) (f : Mem → Mem) (s : State) : State :=
  { s with img := if n = 0 then { s.img with slot0 := f s.img.slot0 } else { s.img with slot1 := f s.img.slot1 } }

/-- Changes what reading a firmware slot back finds: 0 A, 1 B. -/
def setFirmware (n : Nat) (f : Option FwImage) (s : State) : State :=
  { s with img := if n = 0 then { s.img with fwA := f } else { s.img with fwB := f } }

/-- Changes the bytes of a firmware slot. -/
def setFwData (n : Nat) (m : Mem) (s : State) : State :=
  { s with img := if n = 0 then { s.img with fwDataA := some m } else { s.img with fwDataB := some m } }

/-- The bytes of a firmware slot, erased ones reading 0xFF. -/
def fwData (n : Nat) (s : State) : Mem := (if n = 0 then s.img.fwDataA else s.img.fwDataB).getD []

/-- Erases a firmware slot. -/
def eraseFirmware (n : Nat) (s : State) : State := setFwData n [] (setFirmware n none s)

/-- Erases the header sector of the staged Ulond slot (R396). -/
def eraseUlondHeader (s : State) : State :=
  let s := updUlond (inactiveUlond s) (fun m => m.filter (fun p => decide (p.1 ≥ 65536))) s
  { s with img := { s.img with staged := false } }

/-- Erases what a flow staged: nothing of it takes effect (R371, R383, R396). -/
def eraseStaged (u : Update) (s : State) : State :=
  let s := if u.touched.contains 2 then eraseUlondHeader s else s
  if u.touched.contains 1 then eraseFirmware (1 - s.cur.slot) s else s

/-- An update is abandoned: what was staged is erased, and UPDATE returns to QUIESCE, complete; a flow that still waits for QUIESCE leaves the module in it (R371, R396). -/
def abandonUpdate (s : State) : State :=
  let s := match s.cur.update with
    | some u => eraseStaged u s
    | none => s
  let s := { s with cur := { s.cur with update := none } }
  if s.pow.mode == .update then
    setMode .quiesce { s with pow := { s.pow with quiesce := some { ticket := none, drainAt := s.now, expired := true, complete := true, forUpdate := false } } }
  else { s with pow := { s.pow with quiesce := s.pow.quiesce.map (fun q => { q with forUpdate := false }) } }

/-- MODE_SET's effect, while no other change is under way. -/
def modeAct (c : Ctx) (s : State) : State :=
  let t := byteAt c.f 32
  if s.pow.pending then s
  else if t ≤ 4 then askService c.t t s
  else if t = 6 then
    (if s.pow.mode == .update then modeDone c.t (abandonUpdate s)
     else enterQuiesce (some c.t) (if leAt c.f 36 4 = 0 then 100000000 else 1000 * leAt c.f 36 4) false s)
  else if t = 7 then modeDone c.t (setMode .update { s with pow := { s.pow with quiesce := none } })
  else modeDone c.t (latchEvent 39 (withMode (fun p => { p with ceremony := true }) (if s.vit.custody.dying then dropLoad s else s)))

/-- This MODE_SET's own transition is under way. -/
def modeUnderWay (s : State) (t : Nat) : Bool :=
  (s.doc.modeChange.bind (·.ticket)) == some t || s.pow.switchTicket == some t || (s.pow.quiesce.bind (·.ticket)) == some t

/-- MODE_SET's checks, while its own transition is not yet under way. -/
def modeCheck (c : Ctx) (s : State) : Option Resp := if modeUnderWay s c.t then none else modeRefusal c s

/-- MODE_SET begins its transition once. -/
def modeRun (c : Ctx) (s : State) : State := if modeUnderWay s c.t then s else modeAct c s

/-- MODE_SET (R368). -/
def execModeSet (cell : Fin 128) (s : State) : Host.Outcome State Fault Refusal :=
  .next (runCmd cell 0x0E10 modeCheck modeRun s)

/-- Every commit held behind a gap is answered with a status once it takes its position. -/
def answerHeld (a : Answer) (s : State) : State :=
  { s with doc := { s.doc with flows := mmap (fun f => { f with held := f.held.map (fun h => { h with answer := some (h.answer.getD a) }) }) s.doc.flows } }

/-- QUIESCE_DRAIN_TIMEOUT (R370): every command not yet taken is answered NOT_READY in position. -/
def execQuiesceDrainTimeout (s : State) : Host.Outcome State Fault Refusal :=
  match s.pow.quiesce with
  | none => .next s
  | some q =>
    if q.expired || q.complete then .next s
    else
      let s := advanceTo q.drainAt { s with pow := { s.pow with quiesce := some { q with expired := true } } }
      let ts := (s.doc.descs.filter (fun p => p.2.st == .queued && p.2.takeAt.isNone)).map (·.1)
      .next (offerWork (answerHeld (refusedWith Status.notReady) (ts.foldl (fun s t => docentAnswer t Status.notReady s) s)))

/-- Every admitted command is released but the MODE_SET and what its own stream holds behind it; a pair member has withdrawn (R297, R370, log 40). -/
def quiesceDrained (s : State) (q : Quiesce) : Bool :=
  let own := (q.ticket.bind (desc s)).map (·.flow)
  let behind := fun d => (q.ticket.bind (desc s)).any (fun m => m.flow == d.flow && !isEarlier d m)
  s.doc.descs.all (fun p => p.2.st == .released || behind p.2) &&
  s.doc.flows.all (fun p => p.2.held.isEmpty || some p.1 == own) && s.pair.withdrawing.isNone

/-- QUIESCE_COMPLETE (R368, R370, R412). -/
def execQuiesceComplete (s : State) : Host.Outcome State Fault Refusal :=
  match s.pow.quiesce with
  | none => .next s
  | some q =>
    if q.complete || !quiesceDrained s q then .next s
    else
      let s := { s with pow := { s.pow with quiesce := some { q with complete := true } } }
      let s := match q.ticket with
        | some t => modeDone t s
        | none => latchEvent 26 s
      if q.forUpdate then
        .next (setMode .update { s with
          pow := { s.pow with quiesce := none }
          cur := { s.cur with update := s.cur.update.map (fun u => { u with phase := .open_ }) } })
      else .next s

/-! Thermal steps (R377, R381). -/

/-- TC_EST in thousandths of 0.5 C: HOTTEST less the module power times 0.12 C/W. -/
def tcMilli (hottest : Int) (power : Nat) : Int := 1000 * hottest - 24 * power

/-- The step that an estimate asks for: above 85 C 1, above 100 C 2. -/
def stepFor (tc : Int) : Nat := if tc > 200000 then 2 else if tc > 170000 then 1 else 0

/-- Since when the estimate has stayed below a threshold. -/
def stillBelow (s : State) (limit tc : Int) (since : Option Nat) : Option Nat := if tc < limit then some (since.getD s.now) else none

/-- Since when the estimate has stayed below the return threshold of the step in force: 82 C, 97 C at half clock. -/
def returnSince (p : Power) : Option Nat := if p.step = 0 then none else if p.step ≥ 2 then p.mildSince else p.coolSince

/-- A step down: clocks fall at once in every wing, then the setpoint (R377). -/
def stepDown (n : Nat) (s : State) : State :=
  let s := changeClock (fun s => { s with pow := { s.pow with step := n, steps := sat 0xFFFF (s.pow.steps + 1), returning := none } }) s
  latchEvent 25 (askSetpoint (neededMv s) s)

/-- THERMAL_ESTIMATE (R377, Table 15-8). -/
def execThermalEstimate (hottest : Int) (power : Nat) (s : State) : Host.Outcome State Fault Refusal :=
  if !s.pow.main then .next s
  else
    let tc := tcMilli hottest power
    let s := { s with pow := { s.pow with
      hottest := hottest, tcEst := tc / 1000, overRange := decide (tc > 210000)
      coolSince := stillBelow s 164000 tc s.pow.coolSince, mildSince := stillBelow s 194000 tc s.pow.mildSince } }
    if stepFor tc > s.pow.step then .next (stepDown (stepFor tc) s)
    else .next { s with pow := { s.pow with returning := if (returnSince s.pow).isNone then none else s.pow.returning } }

/-- THERMAL_RETURN (R377): 1 s below the return threshold the step ends, the setpoint first. -/
def execThermalReturn (s : State) : Host.Outcome State Fault Refusal :=
  match returnSince s.pow with
  | none => .next s
  | some t =>
    let n := s.pow.step - 1
    let s := advanceTo (t + 1000000000) s
    let mv := neededMv { s with pow := { s.pow with step := n } }
    if mv > s.pow.vcoreMv then .next (askSetpoint mv { s with pow := { s.pow with returning := some n } })
    else .next (endStep n s)

end Sys2Proof.Machine
end

