-- ==== Sys2Proof/Machine/CuratorOps.lean ====
section
/-!
DEFINITION. The Curator's sensors, log reads, attestation, management messages and update flow, and the meanings of their commands (R402 to R417). Message layouts are those of the protocols of Table 17-4 (log 42).
-/

namespace Sys2Proof.Machine

/-! The core (R402, R417). -/

/-- A core fault: an open update is abandoned, the restart is counted, and what the core's protocols had in progress is lost (R402, R417, log 44). -/
def curatorFault (s : State) : State :=
  let s := abandonUpdate s
  { s with cur := { s.cur with
    restarting := some (s.now + 50000000), restarts := sat 0xFFFF (s.cur.restarts + 1), spdm := 0, transcript := [] } }

/-- The core runs again: the restart is logged, then the records buffered during it, in order (R402, R417). -/
def curatorBack (s : State) : State :=
  let b := s.cur.buffered
  let s := { s with cur := { s.cur with restarting := none, buffered := [] } }
  b.foldl (fun s r => logRecord (r.1 % 65536) r.2.1 (r.1 / 65536) r.2.2 s) (logRecord 0x0020 0 0 [] s)

/-- CURATOR_RESTART (R320, R402, R417). -/
def execCuratorRestart (back : Bool) (s : State) : Host.Outcome State Fault Refusal :=
  if !s.ao.vaux then .next s
  else match s.cur.restarting, back with
    | none, false => .next (curatorFault s)
    | some _, true => .next (curatorBack s)
    | _, _ => .next s

/-! Sensors (R403, Table 17-1). -/

/-- The sensors of Table 17-1. -/
def sensorKnown (i : Nat) : Bool := decide (i ≤ 25) || (decide (32 ≤ i) && decide (i ≤ 43)) || i == 48 || i == 49

/-- The sensors there are to read without main power (Table 17-1). -/
def sensorInVault (i : Nat) : Bool := i == 24 || (decide (37 ≤ i) && decide (i ≤ 42)) || i == 49

/-- The supplies that the tamper record shows (Table 14-3). -/
def noteSupply (i : Nat) (v : Int) (s : State) : State :=
  let p := s.ao.supplies
  if i = 41 then { s with ao := { s.ao with supplies := (v.toNat, p.2) } }
  else if i = 40 then { s with ao := { s.ao with supplies := (p.1, v.toNat, p.2.2) } }
  else if i = 32 then { s with ao := { s.ao with supplies := (p.1, p.2.1, v.toNat) } }
  else s

/-- One reading: published, and a threshold crossed is logged and sent as a PLDM event to the receiver (Table 17-3, R408). -/
def takeReading (i : Nat) (r : SensorReading) (s : State) : State :=
  if !sensorKnown i then s
  else
    let old := mgetD s.cur.sensors i {}
    let ok := r.valid && (mainUp s || sensorInVault i)
    let put := fun (x : Sensor) (s : State) => { s with cur := { s.cur with sensors := mset s.cur.sensors i x } }
    if !ok then put { old with valid := false, warn := false, crit := false } s
    else
      let s := put { value := r.value, valid := true, warn := r.warn, crit := r.crit, at_ := s.now } (noteSupply i r.value s)
      if r.warn = old.warn ∧ r.crit = old.crit then s
      else
        let s := logRecord 0x00B0 0 0 (leBytes 2 i ++ leBytes 2 (signed 16 r.value)) s
        if s.cur.eventReceiver.1 = 0 then s else sendMctp s.cur.eventBus (.event i r.value) s

/-- SENSOR_SAMPLE (R403). -/
def execSensorSample (readings : List (Nat × SensorReading)) (s : State) : Host.Outcome State Fault Refusal :=
  .next (if curatorRuns s then readings.foldl (fun s p => takeReading p.1 p.2 s) s else s)

/-! The mailbox (R408, R416, Table 17-9). -/

/-- MAILBOX_SUBMIT: the message is handed over; one longer than 4,096 bytes, or empty, is dropped with the MCTP control error; while SUBMIT is 1 the write is discarded with SLOT_BUSY (R408, R416). -/
def submitMailbox (inLen : Fin 8192) (s : State) : State :=
  (configWrite (fun s =>
    if s.cur.submit then setFault 0 1 s
    else if inLen.val > 4096 ∨ inLen.val = 0 then { s with cur := { s.cur with inLen := inLen.val, mctpErrors := s.cur.mctpErrors + 1 } }
    else { s with cur := { s.cur with inLen := inLen.val, submit := true } }) s)

/-- MAILBOX_SUBMIT (R408, R416). -/
def execMailboxSubmit (inLen : Fin 8192) (s : State) : Host.Outcome State Fault Refusal := .next (submitMailbox inLen s)

/-- MAILBOX_ACK: the outbound buffer is released (R416). -/
def ackMailbox (s : State) : State :=
  (configWrite (fun s => { s with cur := { s.cur with outValid := false } }) s)

/-- MAILBOX_ACK (R416). -/
def execMailboxAck (s : State) : Host.Outcome State Fault Refusal := .next (ackMailbox s)

/-- MCTP_TRANSPORT_TIMEOUT (R57): the oldest message that waits for Bus Master Enable is dropped. -/
def execMctpTransportTimeout (s : State) : Host.Outcome State Fault Refusal :=
  .next (if (pcie s 0).busMaster then s else { s with cur := { s.cur with mctpWaiting := s.cur.mctpWaiting.drop 1 } })

/-! MCTP control (R408). -/

/-- SET_ENDPOINT_ID (R408): EIDs 0 and 0xFF are refused. -/
def execSetEndpointId (bus : Nat) (eid : Byte) (s : State) : Host.Outcome State Fault Refusal :=
  .next (serveFull bus (fun s =>
    if eid = 0 ∨ eid = 0xFF then (replyCode 2, s)
    else (replyOk [0, eid, 0], { s with cur := { s.cur with eid := eid.toNat } })) s)

/-- GET_ENDPOINT_ID (R408): a simple endpoint with a dynamic ID. -/
def execGetEndpointId (bus : Nat) (s : State) : Host.Outcome State Fault Refusal :=
  .next (serveFull bus (fun s => (replyOk (leBytes 1 s.cur.eid ++ [0, 0]), s)) s)

/-- The version numbers of an MCTP message type supported; 0xFF asks for the base specification. -/
def mctpProtocol (type : Nat) : Option Nat :=
  if type = 0 ∨ type = 0xFF then some 0 else if type = 1 then some 1 else if type = 5 then some 2 else if type = 0x7E then some 3 else none

/-- A protocol's version number, 4 bytes. -/
def versionBytes (p : Nat) : Bytes := (List.range 4).map (Config.protocolVersion p)

/-- GET_MCTP_VERSION_SUPPORT (R408). -/
def execGetMctpVersionSupport (bus : Nat) (type : Byte) (s : State) : Host.Outcome State Fault Refusal :=
  .next (serveFull bus (fun s =>
    match mctpProtocol type.toNat with
    | some p => (replyOk (1 :: versionBytes p), s)
    | none => (replyCode 0x80, s)) s)

/-- GET_MESSAGE_TYPE_SUPPORT (R408): PLDM, SPDM and vendor defined, beside control. -/
def execGetMessageTypeSupport (bus : Nat) (s : State) : Host.Outcome State Fault Refusal :=
  .next (serveFull bus (fun s => (replyOk [3, 0x01, 0x05, 0x7E], s)) s)

/-- GET_VENDOR_DEFINED_MESSAGE_SUPPORT (R408): one set, under Meraugen's PCI vendor ID. -/
def execGetVendorDefinedMessageSupport (bus : Nat) (selector : Byte) (s : State) : Host.Outcome State Fault Refusal :=
  .next (serveFull bus (fun s =>
    if selector = 0 then (replyOk ([0xFF, 0] ++ beBytes 2 Config.vendorId.toNat ++ [0, 0]), s) else (replyCode 2, s)) s)

/-! PLDM base (R408). -/

/-- GETTID (R408). -/
def execGetTid (bus : Nat) (s : State) : Host.Outcome State Fault Refusal :=
  .next (serveFull bus (fun s => (replyOk (leBytes 1 s.cur.tid), s)) s)

/-- GETPLDMTYPES (R408): base, monitoring and firmware update, as a map of 64 bits. -/
def execGetPldmTypes (bus : Nat) (s : State) : Host.Outcome State Fault Refusal :=
  .next (serveFull bus (fun s => (replyOk (leBytes 8 0x25), s)) s)

/-- Commands of a PLDM type that the Curator answers (Table 17-4). -/
def pldmCommands (type : Nat) : Option (List Nat) :=
  if type = 0 then some [0x02, 0x03, 0x04, 0x05]
  else if type = 2 then some [0x04, 0x11, 0x21, 0x50, 0x51]
  else if type = 5 then some [0x10, 0x13, 0x14, 0x1A, 0x1D]
  else none

/-- GETPLDMCOMMANDS (R408): a map of 256 bits. -/
def execGetPldmCommands (bus : Nat) (type : Byte) (s : State) : Host.Outcome State Fault Refusal :=
  .next (serveFull bus (fun s =>
    match pldmCommands type.toNat with
    | some cs => (replyOk (leBytes 32 (cs.foldl (fun a c => a + 2 ^ c) 0)), s)
    | none => (replyCode 0x83, s)) s)

/-- GETPLDMVERSION (R408): the version number and its CRC-32. -/
def execGetPldmVersion (bus : Nat) (type : Byte) (s : State) : Host.Outcome State Fault Refusal :=
  .next (serveFull bus (fun s =>
    if (pldmCommands type.toNat).isSome then
      let v := versionBytes (16 + type.toNat)
      (replyOk (zeros 4 ++ [5] ++ v ++ leBytes 4 (crc32 v)), s)
    else (replyCode 0x83, s)) s)

/-! PLDM monitoring (R403, R408). -/

/-- A state by its thresholds: normal, upper warning, upper critical. -/
def sensorState (x : Sensor) : Nat := if x.crit then 9 else if x.warn then 8 else 1

/-- GETSENSORREADING (R403): a sensor that is not present is unavailable. -/
def execGetSensorReading (bus : Nat) (sensor : Nat) (s : State) : Host.Outcome State Fault Refusal :=
  .next (serveFull bus (fun s =>
    if !sensorKnown sensor then (replyCode 0x80, s)
    else
      let x := mgetD s.cur.sensors sensor {}
      let (p, s) := freeBytes 1 s
      (replyOk ([3] ++ leBytes 1 (if x.valid then 0 else 2) ++ leBytes 1 (b2n (s.cur.eventReceiver.1 != 0)) ++ leBytes 1 (sensorState x) ++ p ++
        leBytes 1 (sensorState x) ++ leBytes 2 (signed 16 x.value)), s)) s)

/-- GETSTATESENSORREADINGS (R408): the mode, and the tamper latch. -/
def execGetStateSensorReadings (bus : Nat) (sensor : Nat) (s : State) : Host.Outcome State Fault Refusal :=
  .next (serveFull bus (fun s =>
    let answer := fun (v : Nat) (s : State) =>
      let (p, s) := freeBytes 1 s
      (replyOk ([1, 0] ++ leBytes 1 v ++ p ++ leBytes 1 v), s)
    if sensor = Config.modeSensor.toNat then answer (modeCode s.pow) s
    else if sensor = Config.tamperSensor.toNat then answer (b2n s.ao.responded) s
    else (replyCode 0x80, s)) s)

/-- GETPDR (R408): the records are the unit's own. -/
def execGetPdr (bus : Nat) (record : Nat) (s : State) : Host.Outcome State Fault Refusal :=
  .next (serveFull bus (fun s =>
    if Config.pdrHeld record then (replyOk ((List.range (Config.pdrLen record).toNat).map (Config.pdrByte record)), s) else (replyCode 0x82, s)) s)

/-- GETPDRREPOSITORYINFO (R408): available, then the unit's own values. -/
def execGetPdrRepositoryInfo (bus : Nat) (s : State) : Host.Outcome State Fault Refusal :=
  .next (serveFull bus (fun s => (replyOk (0 :: (List.range 39).map Config.pdrInfoByte), s)) s)

/-- SETEVENTRECEIVER (R408). -/
def execSetEventReceiver (bus : Nat) (enable address : Byte) (s : State) : Host.Outcome State Fault Refusal :=
  .next (serveFull bus (fun s =>
    if enable.toNat > 3 then (replyCode 2, s)
    else (replyOk [], { s with cur := { s.cur with eventReceiver := (enable.toNat, address.toNat), eventBus := bus } })) s)

/-! Firmware update (R371, R383, R396, R412). -/

/-- Logs an update step: PLDM command, component, outcome (Table 17-3). -/
def logUpdate (step component outcome : Nat) (s : State) : State :=
  logRecord 0x0050 0 0 (leBytes 1 step ++ leBytes 2 component ++ leBytes 1 outcome) s

/-- The agent has made a request: its 60 s begin again (R412). -/
def updateRequest (f : Update → Update) (s : State) : State :=
  { s with cur := { s.cur with update := s.cur.update.map (fun u => { f u with lastRequest := s.now }) } }

/-- A flow opens: at once in UPDATE and in a QUIESCE that is complete, else through a QUIESCE with the 100 ms drain (R367, R412). -/
def openUpdate (s : State) : State :=
  let s := { s with cur := { s.cur with update := some { phase := .asked, lastRequest := s.now, passed := [], touched := [], verified := [] } } }
  let opened := fun (s : State) => { s with cur := { s.cur with update := s.cur.update.map (fun u => { u with phase := .open_ }) } }
  match s.pow.mode with
  | .update => opened s
  | .quiesce =>
    if (s.pow.quiesce.map (·.complete)).getD true then opened (setMode .update { s with pow := { s.pow with quiesce := none } })
    else { s with pow := { s.pow with quiesce := s.pow.quiesce.map (fun q => { q with forUpdate := true }) } }
  | _ => enterQuiesce none 100000000 true s

/-- REQUESTUPDATE (R412): one update at a time, from the modes that lead to UPDATE (Table 15-2, Table 17-7, log 45). -/
def execRequestUpdate (bus : Nat) (s : State) : Host.Outcome State Fault Refusal :=
  .next (serveFull bus (fun s =>
    if s.cur.update.isSome then (replyCode 0x81, s)
    else if !(s.pow.mode == .service || s.pow.mode == .quiesce || s.pow.mode == .update) || s.pow.pending then (replyCode 0x8A, s)
    else (replyOk (zeros 3), openUpdate (logUpdate 0x10 0 0 s))) s)

/-- An open flow in UPDATE, ready for its next component. -/
def updateOpen (s : State) : Option Update :=
  match s.cur.update with
  | some u => if s.pow.mode == .update && u.phase == .open_ then some u else none
  | none => none

/-- PASSCOMPONENTTABLE (R412): components 1 and 2. -/
def execPassComponentTable (bus : Nat) (component : Nat) (s : State) : Host.Outcome State Fault Refusal :=
  .next (serveFull bus (fun s =>
    if s.cur.update.isNone then (replyCode 0x80, s)
    else if (updateOpen s).isNone then (replyCode 0x84, updateRequest id s)
    else if component = 1 ∨ component = 2 then
      (replyOk [0, 0], logUpdate 0x13 component 0 (updateRequest (fun u => { u with passed := component :: u.passed.filter (· != component) }) s))
    else (replyOk [1, 6], logUpdate 0x13 component 6 (updateRequest id s))) s)

/-- Staging begins: the slot not loaded is erased (R383, R396). -/
def beginStaging (component : Nat) (s : State) : State :=
  let s := if component = 1 then eraseFirmware (1 - s.cur.slot) s
    else { (updUlond (inactiveUlond s) (fun _ => []) s) with img := { (updUlond (inactiveUlond s) (fun _ => []) s).img with staged := false } }
  updateRequest (fun u => { u with
    phase := .pulling component, touched := component :: u.touched.filter (· != component), verified := u.verified.filter (· != component) }) s

/-- UPDATECOMPONENT (R412): a component of the table passed; the Curator begins to pull its data. -/
def execUpdateComponent (bus : Nat) (component : Nat) (s : State) : Host.Outcome State Fault Refusal :=
  .next (serveFull bus (fun s =>
    if s.cur.update.isNone then (replyCode 0x80, s)
    else match updateOpen s with
      | none => (replyCode 0x84, updateRequest id s)
      | some u =>
        if u.passed.contains component then (replyOk (zeros 8), logUpdate 0x14 component 0 (beginStaging component s))
        else (replyOk ([1, 6] ++ zeros 6), logUpdate 0x14 component 6 (updateRequest id s))) s)

/-- The component whose data the Curator pulls, in UPDATE. -/
def pullingComponent (s : State) : Option Nat :=
  match s.cur.update with
  | some u => (match u.phase, s.pow.mode with
    | .pulling c, .update => some c
    | _, _ => none)
  | none => none

/-- REQUESTFIRMWAREDATA (R383, R412): the agent's data are written into the slot not loaded, and the Curator asks for what follows. -/
def execRequestFirmwareData (bus : Nat) (offset : Nat) (data : Bytes) (s : State) : Host.Outcome State Fault Refusal :=
  .next (serveFull bus (fun s =>
    match pullingComponent s with
    | none => (replyCode 0x88, s)
    | some c =>
      let fits := decide (offset + data.length ≤ (if c = 2 then 2 ^ 20 else 2 ^ 23))
      let n := 1 - s.cur.slot
      let s := if !fits then s
        else if c = 2 then updUlond (inactiveUlond s) (fun m => memWriteBytes 0xFF m offset data) s
        else setFwData n (memWriteBytes 0xFF (fwData n s) offset data) s
      if fits then (replyOk (leBytes 4 (offset + data.length)), s) else (replyCode 0x82, s)) s)

/-- A firmware image that may be activated: both signatures, a version above the loaded one, no rollback (R412). -/
def firmwareStageable (s : State) (f : Option FwImage) : Bool :=
  firmwareOk s f && ((f.map (fun x => decide (x.version > s.cur.fwVersion))).getD false)

/-- What reading back finds, and the state then: outcome 0, or the reason; a slot that fails is erased (R396, R412, log 45). -/
def verifyStaged (c : Nat) (image : Option FwImage) (s : State) : Nat × State :=
  if c = 1 then
    if firmwareStageable s image then (0, setFirmware (1 - s.cur.slot) image s) else (1, eraseFirmware (1 - s.cur.slot) s)
  else
    match checkSlot (stagingBase s) (if inactiveUlond s = 0 then s.img.slot0 else s.img.slot1) with
    | .inr _ => (0, { s with img := { s.img with staged := true } })
    | .inl r => (r, eraseUlondHeader s)

/-- TRANSFERCOMPLETE (R396, R412): VerifyComplete and ApplyComplete with the outcome, and event 38. -/
def execTransferComplete (bus : Nat) (image : Option FwImage) (s : State) : Host.Outcome State Fault Refusal :=
  .next (serveFull bus (fun s =>
    match pullingComponent s with
    | none => (replyCode 0x88, s)
    | some c =>
      let (r, s) := verifyStaged c image s
      let s := { s with cur := { s.cur with update := s.cur.update.map (fun u => { u with
        phase := .open_, verified := if r = 0 then c :: u.verified else u.verified }) } }
      (replyOk (leBytes 1 r ++ leBytes 1 r), latchEvent 38 (logUpdate 0x17 c r s))) s)

/-- ACTIVATEFIRMWARE (R371, R412): every component passed is verified; the activating START begins at step 1, and event 38 latches. -/
def execActivateFirmware (bus : Nat) (s : State) : Host.Outcome State Fault Refusal :=
  .next (serveFull bus (fun s =>
    match s.cur.update with
    | none => (replyCode 0x80, s)
    | some u =>
      if (updateOpen s).isNone then (replyCode 0x84, updateRequest id s)
      else if u.verified = [] || !u.passed.all (fun c => u.verified.contains c) then (replyCode 0x85, updateRequest id s)
      else (replyOk (zeros 2), beginStart (latchEvent 38 (logUpdate 0x1A 0 0 s)))) s)

/-- CANCELUPDATE (R371, R412). -/
def execCancelUpdate (bus : Nat) (s : State) : Host.Outcome State Fault Refusal :=
  .next (serveFull bus (fun s =>
    if s.cur.update.isNone then (replyCode 0x80, s) else (replyOk (zeros 9), abandonUpdate (logUpdate 0x1D 0 0 s))) s)

/-- UPDATE_AGENT_TIMEOUT (R412): 60 s without a request from the agent. -/
def execUpdateAgentTimeout (s : State) : Host.Outcome State Fault Refusal :=
  match s.cur.update with
  | none => .next s
  | some u => .next (abandonUpdate (logUpdate 0x1D 0 1 (advanceTo (u.lastRequest + 60000000000) s)))

/-- ANTI_ROLLBACK_BURN (R413): one pair, 2.5 ms. -/
def execAntiRollbackBurn (s : State) : Host.Outcome State Fault Refusal :=
  if s.cur.arcToBurn = 0 then .next s
  else .next { advanceTo (s.now + 2500000) s with
    fuses := { s.fuses with arc := min 256 (s.fuses.arc + 1) }
    cur := { s.cur with arcToBurn := s.cur.arcToBurn - 1 } }

/-! Attestation (R408, R411). -/

/-- SPDM error codes. -/
abbrev spdmInvalid : Nat := 1
/-- Busy. -/
abbrev spdmBusy : Nat := 3
/-- UnexpectedRequest. -/
abbrev spdmUnexpected : Nat := 4

/-- SPDM ERROR code UnsupportedRequest. -/
abbrev spdmUnsupported : Nat := 7

/-- An SPDM answer, added with its request to the transcript. -/
def spdmAnswer (request answer : Bytes) (s : State) : MgmtReply × State :=
  (replyOk answer, { s with cur := { s.cur with transcript := s.cur.transcript ++ request ++ answer } })

/-- Reached stage `n` of the negotiation: version, capabilities, algorithms. -/
def spdmStage (n : Nat) (s : State) : State := { s with cur := { s.cur with spdm := n } }

/-- GET_VERSION (R408): 1.3, and a new transcript. -/
def execGetVersion (bus : Nat) (s : State) : Host.Outcome State Fault Refusal :=
  .next (serve bus (fun s =>
    spdmAnswer [0x10, 0x84, 0, 0] [0x10, 0x04, 0, 0, 0, 1, 0, 0x13] (spdmStage 1 { s with cur := { s.cur with transcript := [] } })) s)

/-- GET_CAPABILITIES (R408): certificates, challenge, signed measurements; messages to 4,096 bytes. -/
def execGetCapabilities (bus : Nat) (s : State) : Host.Outcome State Fault Refusal :=
  .next (serve bus (fun s =>
    if s.cur.spdm ≠ 1 then (replyCode spdmUnexpected, s)
    else
      let (e, s) := freeBytes 1 s
      spdmAnswer [0x13, 0xE1, 0, 0] ([0x13, 0x61, 0, 0, 0] ++ e ++ [0, 0] ++ leBytes 4 0x16 ++ leBytes 4 4096 ++ leBytes 4 4096) (spdmStage 2 s)) s)

/-- NEGOTIATE_ALGORITHMS (R408): SHA-384 and ECDSA P-384 only. -/
def execNegotiateAlgorithms (bus : Nat) (hasSha384 hasP384 : Bool) (s : State) : Host.Outcome State Fault Refusal :=
  .next (serve bus (fun s =>
    if s.cur.spdm ≠ 2 then (replyCode spdmUnexpected, s)
    else if !(hasSha384 && hasP384) then (replyCode spdmInvalid, s)
    else spdmAnswer [0x13, 0xE3, 0, 0]
      ([0x13, 0x63, 0, 0] ++ leBytes 2 36 ++ [1, 0] ++ leBytes 4 4 ++ leBytes 4 0x80 ++ leBytes 4 2 ++ zeros 16) (spdmStage 3 s)) s)

/-- The certificate chain of slot 0: production, or the test authority's in TEST_UNLOCKED, DEVELOPMENT and RETURNED (R181, R411). -/
def certificateChain (s : State) : Bytes :=
  let c := b2n (onTestRoot s)
  (List.range (Config.certificateLen c).toNat).map (Config.certificateByte c)

/-- A message after the negotiation. -/
def spdmServe (bus : Nat) (act : State → MgmtReply × State) (s : State) : State :=
  serve bus (fun s => if s.cur.spdm = 3 then act s else (replyCode spdmUnexpected, s)) s

/-- GET_DIGESTS (R411). -/
def execGetDigests (bus : Nat) (s : State) : Host.Outcome State Fault Refusal :=
  .next (spdmServe bus (fun s => spdmAnswer [0x13, 0x81, 0, 0] ([0x13, 0x01, 1, 1] ++ sha384 (certificateChain s)) s) s)

/-- GET_CERTIFICATE (R411): slot 0 only. -/
def execGetCertificate (bus : Nat) (slot offset length : Nat) (s : State) : Host.Outcome State Fault Refusal :=
  .next (spdmServe bus (fun s =>
    let c := certificateChain s
    if slot ≠ 0 ∨ offset ≥ c.length then (replyCode spdmInvalid, s)
    else
      let p := (c.drop offset).take length
      spdmAnswer ([0x13, 0x82, 0, 0] ++ leBytes 2 offset ++ leBytes 2 length)
        ([0x13, 0x02, 0, 0] ++ leBytes 2 p.length ++ leBytes 2 (c.length - offset - p.length) ++ p) s) s)

/-- A signature needs main power and the identity key, which TERMINATED does not derive (R352, R411). -/
def canSign (s : State) : Bool := mainUp s && !readoutOnly s

/-- The 32-byte nonce of a response, from the Curator's instance; a free value while that serves nothing (R402, log 13). -/
def responseNonce (s : State) : Bytes × State := drawFree 4128 32 s

/-- A signature over the transcript, with the SPDM context prefix. -/
def spdmSign (s : State) (context : String) (m : Bytes) : Bytes :=
  let v := ascii "dmtf-spdm-v1.3.*"
  identitySign s (v ++ v ++ v ++ v ++ zeros (36 - context.length) ++ ascii context ++ sha384 m)

/-- CHALLENGE (R411): signed over the transcript; Busy without main power. -/
def execChallenge (bus : Nat) (slot : Nat) (nonce : BitVec 256) (s : State) : Host.Outcome State Fault Refusal :=
  .next (spdmServe bus (fun s =>
    if slot ≠ 0 then (replyCode spdmInvalid, s)
    else if !canSign s then (replyCode spdmBusy, s)
    else
      let (n, s) := responseNonce s
      let q := [0x13, 0x83, 0, 0] ++ leBytes 32 nonce.toNat
      let a := [0x13, 0x03, 0, 1] ++ sha384 (certificateChain s) ++ n ++ zeros 2
      (replyOk (a ++ spdmSign s "responder-challenge_auth signing" (s.cur.transcript ++ q ++ a)),
        { s with cur := { s.cur with transcript := [] } })) s)

/-- Unlock tokens used (Table 14-8). -/
def unlocksUsed (s : State) : Nat := ((fuseRecords s).filter (fun r => r.token != 0)).length

/-- LCS_STATE bits 6:0 (Table 14-8). -/
def lcsLow (s : State) : Nat := s.reg.state + 16 * b2n s.reg.debug + 32 * b2n (onTestRoot s) + 64 * b2n s.fuses.codeE

/-- A measurement of Table 17-6. -/
def measurement (s : State) (i : Nat) : Bytes :=
  match i with
  | 1 => beBytes 48 Config.bootDigest.toNat
  | 2 => slice s.cur.fwDigest 0 48 ++ leBytes 8 s.cur.fwVersion ++ leBytes 1 s.cur.fwSecurity
  | 3 => (match s.img.digest with
    | some d => d ++ leBytes 8 s.img.version
    | none => zeros 56)
  | 4 => leBytes 1 (lcsLow s)
  | 5 => leBytes 1 (b2n s.ao.responded) ++ sha384 s.ao.record
  | _ => leBytes 2 s.fuses.arc

/-- A measurement block. -/
def measurementBlock (s : State) (i : Nat) : Bytes :=
  let m := measurement s i
  leBytes 1 i ++ [1] ++ leBytes 2 (m.length + 3) ++ [0x80] ++ leBytes 2 m.length ++ m

/-- The blocks that a request names: none and their number for index 0, all for 0xFF, or one. -/
def measurementBlocks (s : State) (index : Nat) : Option (Nat × Bytes) :=
  if index = 0 then some (0, [])
  else if index = 0xFF then some (6, ([1, 2, 3, 4, 5, 6] : List Nat).flatMap (measurementBlock s))
  else if index ≤ 6 then some (1, measurementBlock s index)
  else none

/-- GET_MEASUREMENTS (R411, Table 17-6): Busy where a signature is asked for without main power; none in SCRAPPED and TERMINATED (R347, R352, log 192). -/
def execGetMeasurements (bus : Nat) (index : Nat) (sign : Bool) (nonce : BitVec 256) (s : State) : Host.Outcome State Fault Refusal :=
  .next (spdmServe bus (fun s =>
    if readoutOnly s then (replyCode spdmUnsupported, s)
    else match measurementBlocks s index with
    | none => (replyCode spdmInvalid, s)
    | some (k, b) =>
      if sign && !canSign s then (replyCode spdmBusy, s)
      else
        let (n, s) := responseNonce s
        let q := [0x13, 0xE0] ++ leBytes 1 (b2n sign) ++ leBytes 1 index ++ (if sign then leBytes 32 nonce.toNat else [])
        let a := [0x13, 0x60] ++ leBytes 1 (if index = 0 then 6 else 0) ++ [0] ++ leBytes 1 k ++ leBytes 3 b.length ++ b ++ n ++ zeros 2
        if sign then
          (replyOk (a ++ spdmSign s "responder-measurements signing" (s.cur.transcript ++ q ++ a)), { s with cur := { s.cur with transcript := [] } })
        else spdmAnswer q a s) s)

/-! Vendor-defined messages (R402, R407, R410). -/

/-- The fuse map that SCRAPPED and TERMINATED show beside the serial: transition records, ordering code, epoch and anti-rollback fuses (R347, R352). -/
def fuseMap (s : State) : Bytes :=
  (fuseRecords s).flatMap (fun r => leBytes 1 r.target ++ leBytes 1 r.token ++ leBytes 1 (b2n r.complete)) ++
    leBytes 1 (b2n s.fuses.codeE) ++ leBytes 1 s.fuses.epochs ++ leBytes 2 s.fuses.arc

/-- INVENTORY (R2, R402): serial, ordering code, life-cycle state, versions, anti-rollback count; in SCRAPPED and TERMINATED serial and fuse map alone (R347, R352). -/
def execInventory (bus : Nat) (s : State) : Host.Outcome State Fault Refusal :=
  .next (serve bus (fun s => (replyOk (serialBytes ++
    (if readoutOnly s then fuseMap s
     else leBytes 1 (b2n s.fuses.codeE) ++ leBytes 1 s.reg.state ++ leBytes 8 s.cur.fwVersion ++ leBytes 8 s.img.version ++ leBytes 2 s.fuses.arc)), s)) s)

/-- The record of a SEQ that one of the three places holds (R404, R407). -/
def heldRecord (s : State) (q : Nat) : Option Bytes :=
  let look := fun (l : List (Nat × Bytes)) => (l.find? (fun p => p.1 == q)).map (·.2)
  ((look s.cur.logSram).orElse (fun _ => look s.cur.logRing)).orElse (fun _ => look s.cur.logMirror)

/-- LOG_READ (R407, R417): the records still held, whole, and their count; none where the Curator's row lacks RD on the event log (R44). -/
def execLogRead (bus : Nat) (first count : Nat) (s : State) : Host.Outcome State Fault Refusal :=
  .next (serveFull bus (fun s =>
    if count < 1 ∨ count > 60 then (replyCode Status.paramRejected, s)
    else
      let l := if hasRight (fixedRow s curatorRow) 6 rightRD then (List.range count).filterMap (fun i => heldRecord s (first + i)) else []
      (replyOk (leBytes 1 l.length ++ l.flatten), s)) s)

/-- TAMPER_RECORD (R410). -/
def execTamperRecord (bus : Nat) (s : State) : Host.Outcome State Fault Refusal :=
  .next (serveFull bus (fun s => (replyOk s.ao.record, s)) s)

end Sys2Proof.Machine
end

