-- ==== Sys2Proof/Machine/CounterOps.lean ====
section
/-!
DEFINITION. Counters, sampling, tracing and meter marks, and the meanings of their commands (R51, R53, R54, R419 to R429).
-/

namespace Sys2Proof.Machine

/-! Snapshots (R420, R429). -/

/-- Counts everything that counts by the cycle up to now. -/
def settleCounters (s : State) : State :=
  settleCells ((List.range 16).foldl (fun s w => settlePku w (settleEngine true w (settleEngine false w s))) s)

/-- Every live count goes into its shadow (R420). -/
def snapCounters (s : State) : State :=
  { s with cnt := { s.cnt with
    wing := mmap (fun (c : WingCounter) => { c with shadow := c.live }) s.cnt.wing
    slots := mmap (fun (x : SlotBlock) => { x with shadow := x.live }) s.cnt.slots
    latShadow := (mvals s.vit.galleries).foldl (fun m g => g.latHouse.foldl (fun m p => mset m (32 * g.index + p.1) p.2) m) []
    snapUs := (s.now - s.pow.countFrom) / 1000 % 2 ^ 32 } }

/-- Live wing counters, slot counters and house copies of GAL_LAT become 0 (R420). -/
def clearCounters (s : State) : State :=
  { s with
    cnt := { s.cnt with
      wing := mmap (fun (c : WingCounter) => { c with live := 0 }) s.cnt.wing
      slots := mmap (fun (x : SlotBlock) => { x with live := List.replicate 8 0 }) s.cnt.slots }
    vit := { s.vit with galleries := mmap (fun (g : Gallery) => { g with latHouse := [] }) s.vit.galleries } }

/-- A write of DOC_CNT_CTL: SNAP first, then CLEAR, then FREEZE (R420, R429). -/
def writeCntCtl (snap freeze clear : Bool) (s : State) : State :=
  let s := settleCounters s
  let s := if snap then snapCounters s else s
  let s := if clear then clearCounters s else s
  { s with cnt := { s.cnt with freeze := freeze } }

/-- COUNTER_SNAP (R420, R429). -/
def execCounterSnap (freeze clear : Bool) (s : State) : Host.Outcome State Fault Refusal := .next (configWrite (writeCntCtl true freeze clear) s)

/-- COUNTER_CLEAR (R420). -/
def execCounterClear (freeze : Bool) (s : State) : Host.Outcome State Fault Refusal := .next (configWrite (writeCntCtl false freeze true) s)

/-- COUNTERS_READ answers the counts that its take left with the command. -/
def runCountersRead (c : Ctx) (s : State) : FnResult := plain (okResp c.d.counts) s

/-- COUNTERS_READ (R428): the counters of the submitting window, as the executing member held them at the take. -/
def execCountersRead (cell : Fin 128) (s : State) : Host.Outcome State Fault Refusal :=
  .next (runFn cell 0x0F01 (fun _ _ => none) runCountersRead s)

/-! Instruction sampling (R424, Tables 18-6 and 18-7). -/

/-- A write of DOC_SAMP_CTL: with ENABLE 1 the buffer empties, the status clears and the jitter generator is seeded (R424). -/
def writeSampCtl (v : W64) (s : State) : State :=
  let c := { s.cnt with
    sampEnable := flag v 0, sampRing := flag v 1, sampJitter := flag v 2, sampPeriod := field v 31 8, sampWings := field v 47 32 }
  if flag v 0 then
    { s with cnt := { c with
      samples := [], sampCount := 0, sampNext := 0, sampFull := false, sampLost := 0, sampAdd := []
      sampGen := Config.samplerSeed c.enables, enables := c.enables + 1 } }
  else { s with cnt := c }

/-- SAMPLING_ENABLE (R424). -/
def execSamplingEnable (value : W64) (s : State) : Host.Outcome State Fault Refusal := .next (configWrite (writeSampCtl (value ||| 1)) s)

/-- LOCKS of a sample (Table 18-7): what the cell holds, and the waiters of the class held first. -/
def sampleLocks (s : State) (cell : Nat) : Nat :=
  let x := wing s (cell / 8)
  let own := some (cell % 8)
  let a := x.cen.owner == own
  let b := x.hsu.owner == own
  let c := x.pku.owner == own
  let n := if a then x.cen.queue.length else if b then x.hsu.queue.length else if c then x.pku.queue.length else 0
  b2n a + 2 * b2n b + 4 * b2n c + 8 * sat 7 n

/-- HOLD_CYCLES of a sample (Table 18-7). -/
def sampleHold (s : State) (cell : Nat) : Nat :=
  let x := wing s (cell / 8)
  if x.pku.owner = some (cell % 8) then pkuCycles s (cell / 8)
  else if x.cen.owner = some (cell % 8) then engineCycles s false (cell / 8)
  else 0

/-- A sample record (Table 18-7). -/
def sampleRecord (s : State) (cell offset slot other : Nat) : Bytes :=
  let r := cellRegs s cell
  let cmd := servedBy s cell
  leBytes 8 (fabricCycles s) ++ leBytes 4 offset ++ leBytes 1 cell ++ leBytes 1 (slot % 2 + 2 * (other % 4)) ++
  leBytes 2 ((cmd.map (fun x => x.2.1.function)).getD 0) ++
  leBytes 4 ((cmd.map (fun x => x.2.2)).getD 0xFFFFF + 2 ^ 31 * b2n (cmd.isSome && r.secondary)) ++
  leBytes 2 (r.held.getD 0) ++ leBytes 1 (sampleLocks s cell) ++ [0] ++ leBytes 4 (sampleHold s cell) ++ leBytes 4 s.cur.fwVersion

/-- Writes a sample under the ring rules (R424). -/
def putSample (r : Bytes) (s : State) : State :=
  let c := s.cnt
  if c.sampCount < 512 ∨ c.sampRing then
    { s with cnt := { c with
      samples := mset c.samples c.sampNext r
      sampNext := (c.sampNext + 1) % 512
      sampCount := min 512 (c.sampCount + 1)
      sampFull := decide (c.sampCount + 1 ≥ 512) && !c.sampRing } }
  else { s with cnt := { c with sampFull := true, sampLost := sat 0xFFFFFFFF (c.sampLost + 1) } }

/-- The jitter of the next period, 0 to 255 (R424). -/
def nextJitter (cell : Nat) (s : State) : State :=
  if !s.cnt.sampJitter then s
  else
    let g := Config.samplerNext s.cnt.sampGen
    { s with cnt := { s.cnt with sampGen := g, sampAdd := mset s.cnt.sampAdd cell (g.toNat % 256) } }

/-- INSTRUCTION_SAMPLE (R424): the retirement that completes a cell's period; `other` is the class of the other slot. -/
def execInstructionSample (cell : Fin 128) (offset : Nat) (slot other : Nat) (s : State) : Host.Outcome State Fault Refusal :=
  let c := s.cnt
  if !c.sampEnable || c.sampPeriod == 0 || !bit c.sampWings (cell / 8) || !cellClocked s (cell / 8) then .next s
  else .next (nextJitter cell (putSample (sampleRecord s cell offset slot other) s))

/-! Tracing (R425, Table 18-8). -/

/-- A write of DOC_TRACE_CTL: with ENABLE 1 the ring empties, the status clears and the tag generator is seeded (R425). -/
def writeTraceCtl (v : W64) (s : State) : State :=
  let c := { s.cnt with traceEnable := flag v 0, traceRing := flag v 1, traceRate := field v 5 2, traceHolder := flag v 6 }
  if flag v 0 then
    { s with cnt := { c with
      traces := [], traceCount := 0, traceNext := 0, traceFull := false, traceLost := 0
      traceGen := Config.samplerSeed c.enables, enables := c.enables + 1 } }
  else { s with cnt := c }

/-- TRACE_ENABLE (R425). -/
def execTraceEnable (value : W64) (s : State) : Host.Outcome State Fault Refusal := .next (configWrite (writeTraceCtl (value ||| 1)) s)

/-! Metering (R51, R53, R54). -/

/-- The time of the next minute boundary of meter time (R51). -/
def markTime (s : State) : Nat := s.ao.since + countsNs ((1966080 * (s.vit.minute : Int) - s.vit.clockOffset).toNat)

/-- Minutes are marked while the module serves or drains. -/
def marksMinutes (s : State) : Bool :=
  originates s && (s.pow.mode == .service || s.pow.mode == .quiesce || s.pow.mode == .update)

/-- A gallery's mark: at the next position of every stream, mirrored to the partner with the occupancy (R51, R53); a loan's placement homes its copy too (R314). -/
def markOne (m g : Nat) (s : State) : State :=
  match gal s g with
  | none => s
  | some x =>
    let marks := (galleryFlows s g).map (fun p => (p.2.sid, p.2.next))
    markGallery g m x.meter.entryTicks marks (mirrorChanges [.mark g m x.meter.entryTicks marks] s)

/-- METER_MARK (R51, R53). -/
def execMeterMark (s : State) : Host.Outcome State Fault Refusal :=
  if !marksMinutes s then .next s
  else
    let m := s.vit.minute
    let s := advanceTo (markTime s) s
    let s := (s.vit.galleries.map (·.1)).foldl (fun s g => markOne m g s) s
    .next { s with vit := { s.vit with minute := m + 1 } }

/-- Copies one record: into free room, or over the oldest record that METER_ACK covers (R54). -/
def archiveOne (r : MeterRecord) (s : State) : State :=
  let copied := fun (a : List MeterRecord) => { s with
    img := { s.img with archive := a ++ [r] }
    vit := { s.vit with meterToArchive := s.vit.meterToArchive.filter (· != r) } }
  if s.img.archive.length < s.img.archiveSize then copied s.img.archive
  else match s.img.archive.find? (meterAcked s) with
    | some o => copied (s.img.archive.erase o)
    | none => s

/-- METER_ARCHIVE_COPY (R54): the Curator reads the meter store as its row permits (R20, R44). -/
def execMeterArchiveCopy (s : State) : Host.Outcome State Fault Refusal :=
  if !hasRight (fixedRow s curatorRow) 7 rightRD then .next s else .next (settleWaiting (s.vit.meterToArchive.foldl (fun s r => archiveOne r s) s))

/-- UTC_OFFSET_SET (R51, R399): until the next START. -/
def execUtcOffsetSet (offset : BitVec 64) (s : State) : Host.Outcome State Fault Refusal :=
  .next { s with vit := { s.vit with utcOffset := offset.toInt } }

end Sys2Proof.Machine
end

