-- ==== Sys2Proof/Machine/BarOps.lean ====
section
/-!
DEFINITION. Memory writes to a BAR: which words are registers, what each does when written, and the meaning of BAR_WRITE (R7, R58 to R61, Tables 3-2 to 3-5).
-/

namespace Sys2Proof.Machine

/-- A number below a bound, as an index. -/
def indexOf (n : Nat) (h : 0 < n) (k : Nat) : Fin n := ⟨k % n, Nat.mod_lt k h⟩

/-- A stream number. -/
def streamNo (k : Nat) : Fin 16 := indexOf 16 (by decide) k

/-- A slot number. -/
def slotNo (k : Nat) : Fin 8 := indexOf 8 (by decide) k

/-- An MSI-X vector. -/
def vectorNo (k : Nat) : Fin 256 := indexOf 256 (by decide) k

/-! Window registers (Tables 3-4, 3-5, 3-11). -/

/-- Changes a stream while it is not ACTIVE. -/
def whileIdle (fn i : Nat) (f : Stream → Stream) (s : State) : State := updStrm fn i (fun st => if st.active then st else f st) s

/-- A write to a stream block, at byte `r` of it (Table 3-5). -/
def writeStream (fn : Fin 1025) (i r : Nat) (v : W64) (s : State) : State :=
  if r = 0x00 then (if flag v 0 then enableStream fn (streamNo i) (flag v 1) s else disableStream fn (streamNo i) (flag v 1) s)
  else if r = 0x08 then whileIdle fn i (fun st => { st with base := field v 47 0 }) s
  else if r = 0x10 then updStrm fn i (fun st => { st with sealHandle := v }) s
  else if r = 0x18 then
    (if flag v 8 then commitLarge fn (streamNo i) (slotNo (field v 2 0)) s else commitSlot fn (streamNo i) (slotNo (field v 2 0)) s)
  else if r = 0x20 then ackResponse fn (streamNo i) v s
  else if r = 0x28 then updStrm fn i (fun st => { st with
    commitErr := st.commitErr && !flag v 24, ackErr := st.ackErr && !flag v 25
    enableRefused := st.enableRefused && !flag v 26, lfErr := st.lfErr && !flag v 27 }) s
  else if r = 0x30 then s
  else if r = 0x38 then updStrm fn i (fun st => { st with lfsPos := field v 13 0 }) s
  else if r = 0x40 then updStrm fn i (fun st => { st with lfrSeq := field v 47 0, lfrWord := field v 61 48 }) s
  else setFault fn 2 s

/-- WIN_EVENT_MOD.COUNT as it is stored: 1 to 8 (R74). -/
def storedCount (n : Nat) : Nat := max 1 (min 8 n)

/-- A write to a register of the window at byte `o` of its BAR, below the submit area. -/
def writeWindow (fn : Fin 1025) (o : Nat) (v : W64) (s : State) : State :=
  if o = 0x0 ∨ o = 0x8 ∨ o = 0x18 then s
  else if o = 0x10 then updWin fn (fun w => { w with fault := w.fault &&& ~~~ v }) s
  else if 0x400 ≤ o ∧ o < 0xC00 then writeStream fn ((o - 0x400) / 0x80) ((o - 0x400) % 0x80) v s
  else if o = 0x1000 then updWin fn (fun w => { w with cause := w.cause &&& ~~~ v }) s
  else if o = 0x1008 then writeEventMask fn v s
  else if o = 0x1010 then updWin fn (fun w => { w with holdoff := field v 7 0, count := storedCount (field v 11 8) }) s
  else if (0x1020 ≤ o ∧ o ≤ 0x1038) ∨ o = 0x1100 ∨ (0x1180 ≤ o ∧ o < 0x1800) then s
  else if 0x1800 ≤ o ∧ o < 0x1840 ∧ fn.val ≠ 0 then writeMsix fn (vectorNo ((o - 0x1800) / 16)) ((o - 0x1800) % 16 == 8) v s
  else if o = 0x1C00 ∧ fn.val ≠ 0 then s
  else setFault fn 2 s

/-! Module-wide registers (Table 3-3). -/

/-- What a write to a module-wide region does: `none` at a reserved offset, which sets UNMAPPED whoever may write (R61); a register's write needs WR on target 8 (R41, R44, log 41). -/
def regionWrite (r : State → Option State) (s : State) : State :=
  match r s with
  | none => setFault 0 2 s
  | some t => configWrite (fun _ => t) s

/-- A write to a wing's counter registers, at byte `r` of the wing's block; `none` where none stands (Tables 18-1, 18-4). -/
def writeWingCounter (w r : Nat) (v : W64) (s : State) : Option State :=
  if r < 0x40 then
    let n := r / 8
    let s := settleCounters s
    some { s with cnt := { s.cnt with wing := mupd s.cnt.wing (8 * w + n) {} (fun c => { c with
      event := field v 7 0, chain := flag v 8 && n % 2 == 1, filter := flag v 9, gallery := field v 31 12 }) } }
  else if r < 0x80 then some s
  else if r = 0x80 then
    some ((List.range 8).foldl (fun s n =>
      if flag v n then { s with cnt := { s.cnt with wing := mupd s.cnt.wing (8 * w + n) {} (fun c => { c with ovf := false }) } } else s) s)
  else none

/-- A write to the counters region (Table 18-1). -/
def writeCounters (o : Nat) (v : W64) (s : State) : Option State :=
  if o < 0x1000 then writeWingCounter (o / 0x100) (o % 0x100) v s
  else if o = 0x1000 then some (writeCntCtl (flag v 0) (flag v 1) (flag v 2) s)
  else if o = 0x1008 then some (writeSampCtl v s)
  else if o = 0x1018 then some (writeTraceCtl v s)
  else if o = 0x1028 then some { s with cnt := { s.cnt with latSel := field v 11 0 } }
  else if o = 0x1010 ∨ o = 0x1020 ∨ (0x1100 ≤ o ∧ o < 0x1200) ∨ (0x2000 ≤ o ∧ o < 0x4000) ∨ 0x8000 ≤ o then some s
  else none

/-- A write to the DOC_ registers (Table 10-7). -/
def writeDocRegion (o : Nat) (v : W64) (s : State) : Option State :=
  if o = 0x0 then some (writeTick v s)
  else if o = 0x10 then some (if flag v 0 then clearHist s else s)
  else if o = 0x100 then some { s with doc := { s.doc with flowSel := field v 15 0 } }
  else if o = 0x8 ∨ (0x40 ≤ o ∧ o < 0x80) ∨ o = 0x108 ∨ o = 0x110 ∨ (0x1000 ≤ o ∧ o < 0x1400) ∨ (0x2000 ≤ o ∧ o < 0x2400) then some s
  else none

/-- A write of PMC_POLICY (Table 15-9); larger values of MIN_RUN read as 16. -/
def writePolicy (v : W64) (s : State) : State :=
  { s with pow := { s.pow with minRun := min 16 (field v 4 0), noDark := flag v 8, noPllStop := flag v 9 } }

/-- A write of CUR_MBOX: ACK, and SUBMIT with IN_LEN (Table 17-9). -/
def writeMbox (v : W64) (s : State) : State :=
  let s := if flag v 30 then ackMailbox s else s
  if flag v 13 then submitMailbox (indexOf 8192 (by decide) (field v 12 0)) s
  else if s.cur.submit then setFault 0 1 s
  else { s with cur := { s.cur with inLen := field v 12 0 } }

/-- The offsets of the CUR_ view whose registers are read-only (R400, R416, R333, R281, R357). -/
def curReadOnly (o : Nat) : Bool :=
  o == 0x0 || (decide (0x40 ≤ o) && decide (o < 0x80)) || (decide (0x2000 ≤ o) && decide (o < 0x3000)) ||
  (decide (0x4000 ≤ o) && decide (o < 0x4190) && sensorKnown ((o - 0x4000) / 8)) ||
  (decide (0x8000 ≤ o) && decide (o < 0x8058)) || (decide (0x8100 ≤ o) && decide (o < 0x8188)) || o == 0x8200 || o == 0x8300 || o == 0x8308

/-- A write to the CUR_ view (R416). -/
def writeCurator (o : Nat) (v : W64) (s : State) : Option State :=
  if o = 0x8 then some (writeMbox v s)
  else if o = 0x10 then some { s with cur := { s.cur with logSel := v.toNat } }
  else if 0x1000 ≤ o ∧ o < 0x2000 then
    some (if s.cur.submit then setFault 0 1 s
      else { s with cur := { s.cur with inBuf := memWriteBytes 0 s.cur.inBuf (o - 0x1000) (leBytes 8 v.toNat) } })
  else if curReadOnly o then some s
  else none

/-- A write to PF BAR0 above the window (Table 3-3). -/
def writeModule (o : Nat) (v : W64) (s : State) : State :=
  if o < 0x40020 then { s with fab := { s.fab with mevCause := s.fab.mevCause - (s.fab.mevCause &&& (v.toNat * 2 ^ (64 * ((o - 0x40000) / 8)) &&& mevBits)) } }
  else if o < 0x40040 then writeMevMask (indexOf 4 (by decide) ((o - 0x40020) / 8)) v s
  else if 0x41000 ≤ o ∧ o < 0x42000 then s
  else if 0x42000 ≤ o ∧ o < 0x43000 then writeMsix 0 (vectorNo ((o - 0x42000) / 16)) ((o - 0x42000) % 16 == 8) v s
  else if 0x43000 ≤ o ∧ o < 0x43020 then s
  else if o = 0x50000 ∨ o = 0x50008 ∨ o = 0x50010 then s
  else if o = 0x50018 then configWrite (writePolicy v) s
  else if 0x60000 ≤ o ∧ o < 0x70000 then regionWrite (writeDocRegion (o - 0x60000) v) s
  else if 0x70000 ≤ o ∧ o < 0x80000 then regionWrite (writeCounters (o - 0x70000) v) s
  else if o = 0x80200 then configWrite (fun s => { s with pair := { s.pair with routeSel := field v 11 0 } }) s
  else if o = 0x80000 ∨ o = 0x80008 ∨ o = 0x80010 ∨ (0x80100 ≤ o ∧ o < 0x80140) ∨ o = 0x80208 then s
  else if 0x90000 ≤ o ∧ o < 0xA0000 then regionWrite (writeCurator (o - 0x90000) v) s
  else if o = 0xA0000 ∨ o = 0xA0008 ∨ o = 0xA0010 ∨ (0xA0040 ≤ o ∧ o < 0xA0080) ∨ o = 0xA0100 then s
  else setFault 0 2 s

/-- One word (R58, R61). -/
def writeWord (fn : Fin 1025) (o : Nat) (v : W64) (s : State) : State :=
  if o < 0x10000 then writeWindow fn o v s
  else if 0x40000 ≤ o then writeModule o v s
  else setFault fn 2 s

/-! BAR_WRITE. -/

/-- Bytes of a function's BAR0: 1 MiB on the PF, 256 KiB on a VF (Table 3-1). -/
def barSize (fn : Nat) : Nat := if fn = 0 then 0x100000 else 0x40000

/-- An accepted write: into a submit slot, into a large-frame submit port, or word by word in rising order of address (R58, R59, R65, R67). -/
def barWrite (fn : Fin 1025) (off : Nat) (data : Bytes) (s : State) : State :=
  if 0x10000 ≤ off ∧ off < 0x20000 then writeSlot fn ((off - 0x10000) / 0x1000) (off % 0x1000 / 0x200) (off % 0x200) data s
  else if 0x30000 ≤ off ∧ off < 0x40000 ∧ off % 0x1000 < 0x800 then writePort fn ((off - 0x30000) / 0x1000) (off % 0x800) data s
  else (chunks 8 (data.length / 8) data).zipIdx.foldl (fun s p => writeWord fn (off + 8 * p.2) (BitVec.ofNat 64 (ofLE p.1)) s) s

/-- BAR_WRITE (R58). What lies outside the function's BAR is no write to a BAR, and changes nothing (Table 3-1, log 141). -/
def execBarWrite (fn : Fin 1025) (off : Nat) (data : Bytes) (poisoned : Bool) (s : State) : Host.Outcome State Fault Refusal :=
  if off + data.length > barSize fn then .next s
  else if poisoned || !acceptedWrite off data.length then .next (partialWrite fn poisoned s)
  else .next (barWrite fn off data s)

end Sys2Proof.Machine
end

