-- ==== Sys2Proof/Machine/PairOps.lean ====
section
/-!
DEFINITION. The meanings of the pair's frames and functions: position notices and cross-feed, deltas, resynchronisation, PAIR_SWAP and PAIR_TAKEOVER (R288, R289, R291, R292, R302, R303, R315).
-/

namespace Sys2Proof.Machine

/-! Positions and cross-feed (R288, R289). -/

/-- A notice: acknowledged once the number has taken its position here, else kept until it does (R288). -/
def noticeArrives (sid : StreamId) (q digest : Nat) (s : State) : State :=
  match flowOf s sid with
  | none => s
  | some fi =>
    match mget s.doc.flows fi with
    | none => s
    | some fl =>
      if fl.next > q then sendPartner 1 (.position (.ack sid q)) s
      else updFlow fi (fun f => { f with notices := (q, digest) :: f.notices.filter (fun p => p.1 != q) }) s

/-- An acknowledgement: no cross-feed follows (R288). -/
def ackArrives (sid : StreamId) (q : Nat) (s : State) : State :=
  match (flowOf s sid).bind (fun fi => placedAt s fi q) with
  | some (t, _) => updDesc t (fun d => { d with positionAcked := true }) s
  | none => s

/-- A sealed stream of the partner is active under an epoch, or no longer (R290, log 183). -/
def sealsArrive (sid : StreamId) (epoch : Nat) (live : Bool) (s : State) : State :=
  let k := 65536 * sid.fn + sid.stream
  updGal sid.gallery (fun g => { g with
    sealPartner := if live then k :: g.sealPartner.filter (· != k) else g.sealPartner.filter (· != k)
    sealEpochs := if live then mset g.sealEpochs sid.stream (max (mgetD g.sealEpochs sid.stream 0) epoch) else g.sealEpochs }) s

/-- Every loan has the fence of a command (R292, log 183). -/
def loansDoneArrives (sid : StreamId) (q : Nat) (s : State) : State :=
  match (flowOf s sid).bind (fun fi => placedAt s fi q) with
  | some (t, _) => updDesc t (fun d => { d with loanWait := [] }) s
  | none => s

/-- POSITION (R47, R102, R288, R290, R292). -/
def execPosition (hdr : LinkHdr) (body : Position) (s : State) : Host.Outcome State Fault Refusal :=
  .next (pairFrame hdr (fun s =>
    match body with
    | .notice sid q dig => noticeArrives sid q dig s
    | .ack sid q => ackArrives sid q s
    | .verdict sid q v => offerWork (applyVerdict sid q v s)
    | .hostAck sid q => markEntry sid q (fun e => { e with ackedThere := true }) s
    | .seals sid e live => sealsArrive sid e live s
    | .loansDone sid q => offerWork (loansDoneArrives sid q s)) s)

/-- CROSSFEED_TIMEOUT (R288): 20 us after the notice, the whole frame goes to the partner, once. -/
def execCrossfeedTimeout (ticket : Fin 65536) (s : State) : Host.Outcome State Fault Refusal :=
  match desc s ticket with
  | none => .next s
  | some d =>
    match mget s.doc.flows d.flow with
    | none => .next s
    | some fl =>
      if !mirroring s || d.positionAcked || d.crossFedOut || d.behind.isSome || d.frame = [] then .next s
      else
        let s := advanceTo (d.admitAt + 20000) s
        .next (updDesc ticket (fun d => { d with crossFedOut := true }) (sendPartner 1 (.crossfeed fl.sid d.frame) s))

/-- A cross-fed frame of a stream here takes its number as though the host had committed it to the window; one of a distant stream takes it in the flow that this member holds for it (R248, R288). -/
def crossfeedArrives (sid : StreamId) (frame : Bytes) (s : State) : State :=
  let a : Arrival := { frame := frame, large := decide (frame.length > 512), commitAt := s.now, admitAt := s.now, crossFed := true }
  let st := strm s sid.fn sid.stream
  if sid.place = placement s then
    if sid.fn ≤ 1024 ∧ sid.stream < 16 ∧ st.active = true ∧ st.enable = true ∧ (win s sid.fn).gallery = some sid.gallery then
      offerWork (deliverFrame sid.fn sid.stream a s)
    else s
  else
    match flowOf s sid with
    | some fi => offerWork (placeFrame fi a s)
    | none => s

/-- CROSSFEED (R288, R289). -/
def execCrossfeed (hdr : LinkHdr) (sid : StreamId) (frame : Bytes) (s : State) : Host.Outcome State Fault Refusal :=
  .next (pairFrame hdr (fun s => if frame.length ≥ 32 then crossfeedArrives sid frame s else s) s)

/-! PAIR_SWAP and PAIR_TAKEOVER (R300, R315, Table 12-2). -/

/-- No delta waits for its acknowledgement, and no other originating command is at work. -/
def swapDrained (t : Nat) (s : State) : Bool :=
  s.pair.unacked == [] && !(s.doc.descs.any (fun p => p.1 != t && p.2.originating && p.2.st == .inService))

/-- The waiting PAIR_SWAP has its OK once the deltas before it are acknowledged (R315). -/
def answerSwap (s : State) : State :=
  match s.pair.swapping with
  | some t => if swapDrained t s && ((desc s t).map (fun d => d.resp.isNone)).getD false then answerFn t (okResp []) [] s else s
  | none => s

/-- The ORIGINATOR becomes STANDBY: the verdicts it gave stand, and what it mirrored counts as applied (Table 12-2). -/
def becomeStandby (s : State) : State :=
  let ds := s.doc.descs.map (fun (p : Nat × Desc) =>
    (p.1, { p.2 with verdict := some (p.2.verdict.getD (.accept 0)), deltaApplied := p.2.deltaApplied || p.2.delta.isSome }))
  let s := setRole .standby (s.pair.term + 1) causeSwap s
  offerWork { s with pair := { s.pair with swapping := none }, doc := { s.doc with descs := ds, blockOriginating := false } }

/-- The roles are exchanged once the delta of the PAIR_SWAP itself is acknowledged. -/
def finishSwap (s : State) : State :=
  match s.pair.swapping with
  | none => s
  | some t =>
    match (desc s t).bind (·.delta) with
    | some n => if s.pair.unacked.any (fun x => x.number == n) then s else becomeStandby s
    | none => answerSwap s

/-- The refusal of PAIR_SWAP (Table 12-6). -/
def swapRefusal (c : Ctx) (s : State) : Option Resp :=
  refuse (s.pair.role != .originator || !s.pair.linkUp || s.pair.resync.isSome || (s.pair.swapping.map (fun t => t != c.t)).getD false) Status.accessDenied

/-- PAIR_SWAP begins: originating commands are blocked until the ORIGINATOR's deltas are acknowledged (R315). -/
def beginSwap (c : Ctx) (s : State) : State :=
  answerSwap { s with pair := { s.pair with swapping := some c.t }, doc := { s.doc with blockOriginating := true } }

/-- PAIR_SWAP (R315). -/
def execPairSwap (cell : Fin 128) (s : State) : Host.Outcome State Fault Refusal := .next (runCmd cell 0x0E30 swapRefusal beginSwap s)

/-- The serial of the partner: as the span map has it, else as it sent it (R308, R305). -/
def partnerSerialOf (s : State) : Nat :=
  match (s.img.set.span.bind (fun m => m.modules.find? (fun p => p.1 == s.pair.partner))) with
  | some p => p.2
  | none => s.pair.partnerSerial

/-- The refusals of PAIR_TAKEOVER (Table 12-6). -/
def takeoverRefusal (c : Ctx) (s : State) : Option Resp :=
  orElseResp (refuse (s.pair.role != .refusing || s.pair.dualAct || s.pair.linkUp) Status.accessDenied)
    (refuse (leAt c.f 32 16 != partnerSerialOf s) Status.paramRejected)

/-- PAIR_TAKEOVER runs: the REFUSING member is SOLE at t + 2 (Table 12-2). -/
def takeover (_ : Ctx) (s : State) : FnResult := (okResp [], [], setRole .sole (s.pair.term + 2) causeTakeover s)

/-- PAIR_TAKEOVER (R300, R315). -/
def execPairTakeover (cell : Fin 128) (s : State) : Host.Outcome State Fault Refusal := .next (runFn cell 0x0E31 takeoverRefusal takeover s)

/-! Deltas (R291, R292). -/

/-- DELTA (R291): applied in number order; one already applied is acknowledged again. -/
def execDelta (hdr : LinkHdr) (body : Delta) (s : State) : Host.Outcome State Fault Refusal :=
  .next (pairFrame hdr (bringState hdr fun s =>
    if !(s.pair.role == .standby || s.pair.role == .resync) then s
    else if body.number ≤ s.pair.lastDelta && appliesDeltas s then sendPartner 1 (.deltaAck body.number) s
    else
      let s := { s with pair := { s.pair with
        waitingDeltas := s.pair.waitingDeltas.filter (fun d => d.number != body.number) ++ [body] } }
      offerReady (if appliesDeltas s then drainDeltas (s.pair.waitingDeltas.length + 1) s else s)) s)

/-- DELTA_ACK (R292): deltas are applied in order, so an acknowledgement covers those before it. -/
def execDeltaAck (hdr : LinkHdr) (number : Nat) (s : State) : Host.Outcome State Fault Refusal :=
  .next (pairFrame hdr (fun s =>
    finishSwap { s with pair := { s.pair with
      unacked := s.pair.unacked.filter (fun d => decide (d.number > number))
      undo := s.pair.undo.filter (fun u => decide (u.1 > number)) } }) s)

/-! Resynchronisation (R302, R303). -/

/-- The higher term is active; with equal terms the tie-winner (R302). -/
def isActiveMember (s : State) (term : Nat) : Bool := decide (s.pair.term > term) || (s.pair.term == term && s.pair.tieWinner)

/-- The whole Vitrine goes over: it was lost, or D lies more than 2^24 deltas back (R302). -/
def copiesWhole (lost : Bool) (last d : Nat) : Bool := lost || decide (last - d > 2 ^ 24)

/-- The galleries that the pair shares: those homed here, and its loan copies (R302, R314). -/
def pairGalleries (s : State) : List (Nat × Gallery) := s.vit.galleries

/-- The records of a gallery that a copy carries: all, or those written after D, a freed slot as none. -/
def copyRecords (s : State) (full : Bool) (d : Nat) (p : Nat × Gallery) : List CopyItem :=
  if full then p.2.records.map (fun r => .vrecord p.1 r.1 (some r.2))
  else (((s.pair.written.filter (fun w => decide (w.1 > d) && w.2.1 == p.1)).map (·.2.2)).eraseDups).map (fun n => .vrecord p.1 n (recordAt p.2 n))

/-- A gallery's header as a copy carries it (R302, R310). -/
def headerItem (g : Gallery) (old : Option (Nat × Nat)) : CopyItem :=
  .header g.desc g.inst g.accession g.rootKey g.rights g.sealEpochs g.keyGen g.loanSeq old

/-- The header of a pair's gallery: a loan copy's names the home and the last delta applied here, any other's this placement (R302, R314). -/
def pairHeader (s : State) (g : Gallery) : CopyItem :=
  match g.loanCopy with
  | some c => headerItem { g with desc := { g.desc with home := c.home }, loanSeq := c.applied } g.oldHome
  | none => headerItem { g with desc := { g.desc with home := placement s } } g.oldHome

/-- NEXT and the release point of each stream of a gallery (R302). -/
def streamItems (s : State) (g : Nat) : List CopyItem := (galleryFlows s g).map (fun p => .stream p.2.sid p.2.next p.2.rel)

/-- What a gallery's table entry holds beside its header: bindings, migration, loans. -/
def tableChanges (s : State) (p : Nat × Gallery) : List Change :=
  ((boundWindows s p.1).filter (· != 0)).map (fun fn => .bind fn (some p.1) none) ++
  (match p.2.migration with
   | some m => [.migration p.1 (some (m.home, m.partner)) (if m.cutDeclared then
       some ((galleryFlows s p.1).filterMap (fun f => f.2.cut.map (fun c => (f.2.sid, c)))) else none)]
   | none => []) ++
  p.2.loans.map (fun l => .loan p.1 l.1 (some l.2.partner))

/-- The windows that are bound to no gallery of this pair, as they stand (R302, log 185). -/
def otherBindings (s : State) : List Change :=
  (List.range 1024).filterMap (fun i =>
    match (win s (i + 1)).gallery with
    | none => some (.bind (i + 1) none none)
    | some g => if (gal s g).isSome then none else some (.bind (i + 1) (some g) (mget s.vit.remote g)))

/-- Everything a copy of one gallery carries (R302, step 3). -/
def galleryItems (s : State) (full : Bool) (d : Nat) (p : Nat × Gallery) : List CopyItem :=
  pairHeader s p.2 :: copyRecords s full d p ++ p.2.journal.reverse.map (.journal p.1) ++ p.2.ops.map (fun o => .spanOp p.1 o.2) ++
  streamItems s p.1 ++ [.meter p.1 p.2.meterSeq, .delta { number := 0, changes := tableChanges s p }]

/-- Sends copy items to the partner. -/
def sendResync (l : List CopyItem) (s : State) : State := l.foldl (fun s c => sendPartner 3 (.resyncData c) s) s

/-- Records still to copy (PAI_SYNC.RECORDS_LEFT). -/
def recordsLeft (s : State) (full : Bool) (d : Nat) : Nat := ((pairGalleries s).map (fun p => (copyRecords s full d p).length)).foldl (· + ·) 0

/-- The active member starts: it waits for the report of the repaired member, and originates meanwhile (R302). -/
def beginActive (term d : Nat) (lost : Bool) (s : State) : State :=
  let full := copiesWhole lost s.pair.lastDelta d
  { s with
    pair := { s.pair with hbPending := false, resync := some {
      active := true, full := full, reported := false, from_ := d, results := [], left := recordsLeft s full d, term := term, seen := [], ended := false } }
    doc := { s.doc with blockOriginating := s.pair.withdrawing.isSome } }

/-- Puts a record back as it stood; the cached key of what stood there goes (R302). -/
def restoreRecord (u : Nat × Nat × Nat × Option VRecord) (s : State) : State :=
  let s := match (gal s u.2.1).bind (fun x => recordAt x u.2.2.1) with
    | some o => discardRecord u.2.1 u.2.2.1 o.generation s
    | none => s
  touchVitrine (updGal u.2.1 (fun x => { x with
    records := match u.2.2.2 with
    | some r => mset x.records u.2.2.1 r
    | none => mdel x.records u.2.2.1
    writes := mset x.writes u.2.2.1 (mgetD x.writes u.2.2.1 0 + 1) }) s)

/-- The repaired member starts: its own changes after D are discarded, the role is RESYNC, and it reports (R302 steps 1 and 2). -/
def beginRepaired (term n : Nat) (s : State) : State :=
  let d := reportedDelta s.pair
  let own := s.pair.unmirrored
  let lost := copyLost s
  let s := s.pair.undo.foldl (fun s u => restoreRecord u s) s
  let s := { s with pair := { s.pair with
    undo := [], unacked := [], waitingDeltas := [], dualAct := false, hbPending := false, lastDelta := d
    resync := some {
      active := false, full := copiesWhole lost n d, reported := true, from_ := d, results := own.map (·.2), left := 0, term := term, seen := [], ended := false } } }
  let s := setRole .resync s.pair.term s.pair.cause s
  let s := sendResync (own.reverse.map (fun p => .result p.2)) s
  sendPartner 3 .resyncEnd s

/-- The two members' terms decide which of them is active (R302). -/
def resyncBegins (term d : Nat) (lost : Bool) (s : State) : State :=
  if s.pair.mismatch || s.pair.outUntilStart || s.pair.resync.isSome then s
  else if isActiveMember s term then beginActive term d lost s else beginRepaired term d s

/-- A gallery that the copy names for the first time is put into the table; one that is here keeps what the copy does not replace (R302). -/
def putHeader (d : Descriptor) (inst acc : Nat) (rootKey : Bytes) (rights : List Nat) (seals : Map Nat) (keyGen loanSeq : Nat) (clear : Bool) (s : State) : State :=
  let s := match gal s d.id with
    | some _ => s
    | none =>
      match freeIndex s with
      | some i => { s with vit := { s.vit with galleries := mset s.vit.galleries d.id (newGallery s d i inst), remote := mdel s.vit.remote d.id } }
      | none => s
  updGal d.id (fun g => { g with
    desc := d, inst := inst, accession := acc, rootKey := rootKey, rights := rights, sealEpochs := seals, keyGen := keyGen, loanSeq := loanSeq
    records := if clear then [] else g.records, damaged := if clear then [] else g.damaged
    journal := [], journalAt := 0, ops := [], streams := [], loans := [], migration := none }) s

/-- Adds a copied journal entry, oldest first: the active member alone answers its number to the host (R102, R303, log 146). -/
def copyJournal (g : Nat) (e : JournalEntry) (s : State) : State :=
  updGal g (appendEntry { e with acked := true, ackedThere := e.acked }) s

/-- An item that either kind of copy carries: records, journal, operations, positions (R302, R310). -/
def putItem (c : CopyItem) (s : State) : State :=
  match c with
  | .vrecord g n r =>
    let s := match (gal s g).bind (fun x => recordAt x n) with
      | some o => discardRecord g n o.generation s
      | none => s
    replaceRecord g n r s
  | .journal g e => copyJournal g e s
  | .spanOp g o => updGal g (fun x => { x with ops := mset x.ops o.opId { o with idleAt := some (idleEnd s) }, nextOp := max x.nextOp (o.opId + 1) }) s
  | .stream sid n r => updGal sid.gallery (fun x => { x with streams := (sid, n, r) :: x.streams.filter (fun p => p.1 != sid) }) s
  | .meter g n => updGal g (fun x => { x with meterSeq := n }) s
  | _ => s

/-- One item of the copy at the repaired member (R302 steps 2 to 4). -/
def repairItem (r : Resync) (c : CopyItem) (s : State) : State :=
  match c with
  | .header d inst acc k rights seals kg ls old =>
    let s := touchVitrine (putHeader d inst acc k rights seals kg ls r.full s)
    let copy : Option LoanCopy := if d.home = placement s then none else
      some { home := d.home, applied := ls, named := ls, suspended := true, lastCurrency := s.now }
    let s := updGal d.id (fun g => { g with oldHome := old, loanCopy := copy }) s
    { s with pair := { s.pair with resync := some { r with seen := d.id :: r.seen } } }
  | .delta x =>
    let s := x.changes.foldl applyChange s
    if x.number = 0 then s else { s with pair := { s.pair with lastDelta := x.number }, vit := { s.vit with anchorDelta := x.number } }
  | c => putItem c s

/-- The effect of RESYNC_DATA (R302). -/
def resyncItem (hdr : LinkHdr) (item : CopyItem) (s : State) : State :=
  match item, s.pair.resync with
  | .begin term n lost, _ => resyncBegins term n lost s
  | .result e, some r => if r.active && !r.reported then
      { s with pair := { s.pair with resync := some { r with results := r.results ++ [e] } } } else s
  | .stream sid n q, some r => if r.active then s else putItem (.stream sid n q) s
  | c, some r => if r.active || r.ended then s else bringState hdr (repairItem r c) s
  | _, none => s

/-- RESYNC_DATA (R302): the opening reports of both members, the repaired member's results, then the copy. -/
def execResyncData (hdr : LinkHdr) (item : CopyItem) (s : State) : Host.Outcome State Fault Refusal :=
  .next (pairFrame hdr (whenWritable hdr (.resyncData item) (resyncItem hdr item)) s)

/-- The contents of two entries differ (R302). -/
def entriesDiffer (a b : JournalEntry) : Bool := a.status != b.status || a.fnFlags != b.fnFlags || a.payload != b.payload

/-- A result whose contents differ is counted, and event 34 latches (R302 step 5). -/
def countSuperseded (s : State) : State := latchEvent 34 { s with pair := { s.pair with superseded := sat 0xFFFF (s.pair.superseded + 1) } }

/-- One reported result against the active member's journal: the active member's entry stands, or the repaired member's is kept, marked SUPERSEDED (R302 step 5). -/
def compareResult (s : State) (e : JournalEntry) : State :=
  match (gal s e.sid.gallery).bind (fun g => findJournal g e.sid e.seq) with
  | some a => if entriesDiffer a e then countSuperseded s else s
  | none => countSuperseded (updGal e.sid.gallery (appendEntry { e with superseded := true }) s)

/-- The same at the repaired member, against the journal it has received. -/
def compareOwn (s : State) (e : JournalEntry) : State :=
  match (gal s e.sid.gallery).bind (fun g => findJournal g e.sid e.seq) with
  | some a => if a.superseded || entriesDiffer a e then countSuperseded s else s
  | none => s

/-- The report is complete: the active member compares, copies, sends the deltas that were queued behind the copy, and blocks originating commands until the last is applied (R302 steps 2 to 6). -/
def sendCopy (r : Resync) (s : State) : State :=
  let s := r.results.foldl compareResult s
  let queued := s.pair.waitingDeltas
  let base := match queued with
    | d :: _ => d.number - 1
    | [] => s.pair.lastDelta
  let s := sendResync (s.fab.vfRows.map (fun p => .delta { number := 0, changes := [.vfRow p.1 p.2] })) s
  let s := sendResync [.delta { number := 0, changes := .creation s.bb.creation :: otherBindings s }] s
  let s := (pairGalleries s).foldl (fun s p => sendResync (galleryItems s r.full r.from_ p) s) s
  let s := sendPartner 3 .resyncEnd (sendResync [.delta { number := base, changes := [] }] s)
  let s := queued.foldl (fun s d => sendPartner 1 (.delta d) s) s
  { s with
    pair := { s.pair with waitingDeltas := [], unacked := queued, resync := some { r with reported := true, ended := true, left := 0 } }
    doc := { s.doc with blockOriginating := true } }

/-- The copy is complete at the repaired member: galleries it did not name are gone, results are compared, and the deltas behind it apply (R302). -/
def endCopy (r : Resync) (s : State) : State :=
  let gone := ((pairGalleries s).map (·.1)).filter (fun g => g != 0 && !r.seen.contains g)
  let s := gone.foldl (fun s g => dropGallery g s) s
  let s := r.results.foldl compareOwn s
  let s := { s with pair := { s.pair with resync := some { r with ended := true }, unmirrored := [] } }
  drainDeltas (s.pair.waitingDeltas.length + 1) s

/-- The effect of RESYNC_END (R302). -/
def resyncEnds (s : State) : State :=
  match s.pair.resync with
  | none => s
  | some r => if r.active then (if r.reported then s else sendCopy r s) else if r.ended then s else endCopy r s

/-- RESYNC_END (R302): the end of the report at the active member, of the copy at the repaired one. -/
def execResyncEnd (hdr : LinkHdr) (s : State) : Host.Outcome State Fault Refusal :=
  .next (pairFrame hdr (whenWritable hdr .resyncEnd resyncEnds) s)

/-- The rejoin point of each stream: what the repaired member has not published goes, NEXT and the release point are the active member's; the minute now open is not this member's to record (R55, R303). -/
def rejoin (s : State) : State :=
  let s := dropUnpublished (discardUnreleased s)
  let gs := mmap (fun (g : Gallery) => { g with meter := noCounts, closing := [], meterExtra := 0, meterSkip := true }) s.vit.galleries
  let s := { s with vit := { s.vit with galleries := gs } }
  (mkeys s.doc.flows).foldl (fun s fi => updFlow fi (fun f =>
    let f := { f with held := [], gapAt := none, holds := 0, notices := [], verdicts := [] }
    match (gal s f.sid.gallery).bind (fun g => g.streams.find? (fun p => p.1 == f.sid)) with
    | some p => { f with next := p.2.1, rel := p.2.1 }
    | none => f) s) s

/-- The entries up to the rejoin point are answered to the host by the active member alone: the active member needs no other acknowledgement of them, and tells those it has (R102, R303, log 146). -/
def settleJournals (s : State) : State :=
  let s := s.vit.galleries.foldl (fun s p => (p.2.journal.filter (·.acked)).foldl (fun s e => sendPartner 1 (.position (.hostAck e.sid e.seq)) s) s) s
  { s with vit := { s.vit with galleries := mmap (fun (g : Gallery) => { g with journal := g.journal.map (fun e => { e with ackedThere := true }) }) s.vit.galleries } }

/-- RESYNC_COMPLETE (R302 step 6, R303, Table 12-2): the last delta is applied; the roles of a formed pair at the active member's term plus one. -/
def execResyncComplete (s : State) : Host.Outcome State Fault Refusal :=
  match s.pair.resync with
  | none => .next s
  | some r =>
    if !r.ended then .next s
    else if r.active then
      if s.pair.unacked != [] then .next s
      else
        let s := settleJournals ((pairGalleries s).foldl (fun s p => sendResync (streamItems s p.1) s) s)
        let s := { s with pair := { s.pair with resync := none, declaredLost := false, dualAct := false, unmirrored := [], undo := [] }
                          doc := { s.doc with blockOriginating := s.pair.withdrawing.isSome } }
        .next (offerWork (latchEvent 33 (setRole .originator (s.pair.term + 1) causeFormed s)))
    else if s.pair.waitingDeltas != [] then .next s
    else
      let s := rejoin { s with vit := { s.vit with galleries := mmap (fun (g : Gallery) => { g with journal := g.journal.map (fun e => { e with acked := true }) }) s.vit.galleries } }
      let s := { s with pair := { s.pair with resync := none, declaredLost := false, dualAct := false, undo := [] }, doc := { s.doc with blockOriginating := false } }
      .next (offerWork (latchEvent 33 (setRole .standby (r.term + 1) causeFormed s)))

end Sys2Proof.Machine
end

