-- ==== Sys2Proof/Machine/LoanOps.lean ====
section
/-!
DEFINITION. The meanings of forwarding, migration and loans (R309 to R315).
-/

namespace Sys2Proof.Machine

/-! Forwarding (R309). -/

/-- A loan sends home only what it does not serve, so its numbers need not follow one another (R314). -/
def fromLoan (s : State) (sid : StreamId) : Bool := ((gal s sid.gallery).map (fun g => mhas g.loans sid.place)).getD false

/-- A pair's ORIGINATOR passes on to its partner what arrives for both. -/
def passOn (hdr : LinkHdr) (cls : Nat) (body : FrameBody) (s : State) : State :=
  if mirrors s && hdr.src != s.pair.partner then sendPartner cls body s else s

/-- Opens a flow here for a distant stream that begins at a number; a stream enabled after MIGRATE_CUT has its cut there (R248, R309, R310). -/
def openRemote (sid : StreamId) (base : Nat) (sealKey : Option Nat) (src : Nat) (s : State) : State :=
  if docentFlows s ≥ 65536 then s
  else match lowestFree s.doc.flows 65536 with
    | none => s
    | some fi =>
      let cut := if ((gal s sid.gallery).bind (·.migration)).map (·.cutDeclared) = some true then some base else none
      let key := sealKey.bind (fun h => (sealRecord s sid.gallery (BitVec.ofNat 64 h)).map (fun r => (h, r.generation)))
      let fl : Flow := { sid := sid, next := base, rel := base, remote := true, sealed := sealKey.isSome, sealKey := key, openers := [src], sparse := fromLoan s sid, cut := cut }
      noteCut fi { s with doc := { s.doc with flows := mset s.doc.flows fi fl } }

/-- SEAL_EPOCH of a sealed enable at another module's window, and the keys that its home derives; an identity that is active already keeps its epoch (R72, R290, log 154). -/
def sealFar (sid : StreamId) (sealKey : Option Nat) (again : Bool) (s : State) : Option (Nat × Bytes × Bytes) × State :=
  match sealKey.bind (fun h => sealRecord s sid.gallery (BitVec.ofNat 64 h)), gal s sid.gallery with
  | some r, some x =>
    let e := mgetD x.sealEpochs sid.stream 0 + b2n (!again)
    let ks := sealKeysOf r.material sid.gallery sid.stream e
    (some (e, ks.1, ks.2), if again then s else mirrorChanges [.sealEpoch sid.gallery sid.stream e] (updGal sid.gallery (fun x => { x with sealEpochs := mset x.sealEpochs sid.stream e }) s))
  | _, _ => (none, s)

/-- The home's answer to an enable goes back to the window's module. -/
def replyOpen (dst : Nat) (sid : StreamId) (r : OpenReply) (s : State) : State :=
  sendTo 2 dst (.forwardRsp sid 0 (statusOnly Status.ok) { flags := 0, cause := 0, opened := some r }) s

/-- A stream is to be enabled at a window of another module: the home judges it as an enable of its own, and its partner follows (R63, R72, R248, log 148, log 154). -/
def opensArrive (hdr : LinkHdr) (sid : StreamId) (base : Nat) (sealKey : Option Nat) (s : State) : State :=
  let known := flowOf s sid
  if s.pair.role == .standby then
    match known with
    | some fi => updFlow fi (fun f => { f with openers := (f.openers ++ [hdr.src]).eraseDups }) s
    | none => openRemote sid base sealKey hdr.src s
  else if known.isNone && galleryRefuses s sid.gallery sid.fn sid.stream base sealKey then replyOpen hdr.src sid .refused s
  else
    let (k, s) := sealFar sid sealKey known.isSome s
    let s := match known with
      | some fi => updFlow fi (fun f => { f with openers := (f.openers ++ [hdr.src]).eraseDups }) s
      | none => openRemote sid base sealKey hdr.src s
    replyOpen hdr.src sid (.accepted k) (passOn hdr 2 (.forward sid (.opens base sealKey)) s)

/-- The ACTIVE of a distant stream has returned to 0: with the last module that had it enabled, what no cell has taken is discarded and the flow is freed (R79, R248, log 148). -/
def closesArrive (src : Nat) (sid : StreamId) (s : State) : State :=
  match flowOf s sid with
  | none => s
  | some fi =>
    let s := updFlow fi (fun f => { f with openers := f.openers.filter (· != src) }) s
    if ((mget s.doc.flows fi).map (·.openers)).getD [] = [] then closeFlows [fi] (discardFlows [fi] s) else s

/-- A command of a distant stream takes its number here (R248, R309); what its own window answered returns to nobody. -/
def commandArrives (src : Nat) (sid : StreamId) (frame : Bytes) (answer : Option Answer) (s : State) : State :=
  let q := hdrSeq frame
  let s := if (flowOf s sid).isSome then s else openRemote sid q none src s
  match flowOf s sid with
  | none => s
  | some fi =>
    let s := if fromLoan s sid then updFlow fi (fun f => { f with next := max q f.next }) s else s
    offerWork (placeFrame fi {
      frame := frame, large := decide (frame.length > 512), commitAt := s.now, admitAt := s.now
      askers := if answer.isSome then [] else [src], far := answer } s)

/-- A FORWARD frame at its home (R248, R309); a command of a gallery that is gone is answered ACCESS_DENIED (R39, log 76). -/
def forwardArrives (hdr : LinkHdr) (sid : StreamId) (body : Forwarded) (s : State) : State :=
  match homed s sid.gallery, body with
  | none, .command f none => sendTo 2 hdr.src (.forwardRsp sid (hdrSeq f) (statusOnly Status.accessDenied) { flags := 0, cause := 0 }) s
  | none, .opens _ _ => replyOpen hdr.src sid .refused s
  | none, _ => s
  | some _, .opens base sealKey => opensArrive hdr sid base sealKey s
  | some _, .command f a => commandArrives hdr.src sid f a s
  | some _, .closes => closesArrive hdr.src sid (passOn hdr 2 (.forward sid .closes) s)

/-- A STANDBY passes what a window's module forwards to its home on to the ORIGINATOR, to which it belongs (R309, log 148). -/
def isMisdirected (s : State) (hdr : LinkHdr) : Bool := s.pair.role == .standby && s.pair.linkUp && hdr.src != s.pair.partner

/-- FORWARD (R309). -/
def execForward (hdr : LinkHdr) (sid : StreamId) (body : Forwarded) (s : State) : Host.Outcome State Fault Refusal :=
  .next (receiveFrame hdr 2 (.forward sid body) (fun s =>
    if isMisdirected s hdr then sendFrame s.pair.port 2 s.pair.partner (some (hdr.src, hdr.hops + 1)) false (.forward sid body) s
    else forwardArrives hdr sid body s) s)

/-- The command of a stream here that waits for its forwarded response. -/
def forwardedAt (s : State) (sid : StreamId) (q : Nat) : Option (Nat × Desc) :=
  s.doc.descs.find? (fun p => p.2.seq == q && p.2.forwardAt.isSome && ((mget s.doc.flows p.2.flow).map (fun f => f.sid == sid && !f.remote)).getD false)

/-- The response has returned from the home (R292, R309): its flags go with it, and a quota that refused it there counts as a refusal of the window (R74, R75). -/
def forwardReturns (sid : StreamId) (q : Nat) (r : Resp) (far : FarFlags) (s : State) : State :=
  let flags := far.flags
  let cause := far.cause
  match forwardedAt s sid q with
  | none => s
  | some (t, d) =>
    let s := updDesc t (fun d => { d with
      st := .done, resp := some r, forwardAt := none, doneAt := some s.now, quotaCause := cause
      windowRefusal := d.windowRefusal || cause != 0 || r.status == Status.sequenceGap
      unsealed := far.unsealed, journaled := bit flags 0, crossFed := d.crossFed || bit flags 2, assured := bit flags 5, unmirrored := bit flags 6 }) s
    match mget s.doc.flows d.flow with
    | none => s
    | some fl =>
      let s := if cause = 0 then s else countRefusal fl cause s
      let s := if r.status = Status.sequenceGap then noteVerdict d.flow fl q (.answer r.status) s else s
      releaseAll d.flow (leaveService t s)

/-- FORWARD_RSP (R309): a response, or the answer to an enable. -/
def execForwardRsp (hdr : LinkHdr) (sid : StreamId) (seq : Nat) (resp : Resp) (flags : FarFlags) (s : State) : Host.Outcome State Fault Refusal :=
  .next (receiveFrame hdr 2 (.forwardRsp sid seq resp flags) (fun s =>
    match flags.opened with
    | some r => openReplies sid r s
    | none => offerWork (forwardReturns sid seq resp flags s)) s)

/-- FORWARD_RETRY (R309, R318): 50 us after a route change without a response the command is forwarded again, over the route as it now is. -/
def execForwardRetry (ticket : Fin 65536) (s : State) : Host.Outcome State Fault Refusal :=
  match desc s ticket with
  | none => .next s
  | some d =>
    match d.forwardAt, mget s.doc.flows d.flow with
    | some t, some fl =>
      if s.pair.routeChangedAt < t then .next s
      else
        let s := advanceTo (s.pair.routeChangedAt + 50000) s
        match homeOf s fl.sid.gallery with
        | none => .next s
        | some h =>
          let (d', s) := forwardHome h fl.sid d s
          .next (releaseAll d.flow (updDesc ticket (fun _ => { d' with forwardAt := if d'.resp.isSome then none else some (s.now + 1) }) s))
    | _, _ => .next s

/-! Copies of gallery state (R307, R310, R314). -/

/-- Sends copy items to a module. -/
def sendState (dst : Nat) (l : List CopyItem) (s : State) : State := l.foldl (fun s c => sendTo 3 dst (.stateData c) s) s

/-- What a migration copies: header, records, journal, operations, positions (R310, R313). -/
def migrationItems (s : State) (p : Nat × Gallery) : List CopyItem :=
  headerItem p.2 (some (placement s, partnerField s)) :: copyRecords s true 0 p ++ p.2.journal.reverse.map (.journal p.1) ++
  p.2.ops.map (fun o => .spanOp p.1 o.2) ++ streamItems s p.1

/-- What a loan copies: header and records (R314). -/
def loanItems (s : State) (p : Nat × Gallery) : List CopyItem := headerItem { p.2 with desc := { p.2.desc with home := placement s } } none :: copyRecords s true 0 p

/-- The discard of a copy, as a change. -/
def discardItem (g : Nat) : CopyItem := .delta { number := 0, changes := [.gallery g none 0 []] }

/-- A header arrives: a gallery that moves here, or a loan of one (R310, R314). -/
def arriveHeader (d : Descriptor) (inst acc : Nat) (k : Bytes) (rights : List Nat) (seals : Map Nat) (kg ls : Nat) (old : Option (Nat × Nat)) (s : State) : State :=
  match old with
  | some o =>
    let s := putHeader { d with home := placement s, partner := partnerField s } inst acc k rights seals kg ls true s
    touchVitrine (updGal d.id (fun g => { g with arriving := true, oldHome := some o, cutKnown := false, cuts := [] }) s)
  | none =>
    let s := putHeader d inst acc k rights seals kg ls true s
    touchVitrine (updGal d.id (fun g => { g with loanCopy := some { home := d.home, applied := ls, named := ls, suspended := true, lastCurrency := s.now } }) s)

/-- The commands of a discarded loan that no cell has taken go home (R315). -/
def sendHome (h : Descriptor) (s : State) : State :=
  let left := s.doc.descs.filter (fun p => p.2.loan && p.2.st == .queued && p.2.keyGen.isNone &&
    ((mget s.doc.flows p.2.flow).map (·.sid.gallery)) == some h.id)
  left.foldl (fun s p => match mget s.doc.flows p.2.flow with
    | some fl =>
      let (d, s) := forwardHome h fl.sid { p.2 with loan := false } s
      updDesc p.1 (fun _ => d) s
    | none => s) s

/-- The flows of a gallery's windows here are served elsewhere from here on: each moves to the place that a window's own record of such a stream has. -/
def toProxies (g : Nat) (s : State) : State :=
  (s.doc.flows.filter (fun p => p.2.sid.gallery == g && !p.2.remote && !p.2.proxy)).foldl (fun s p =>
    let n := 65536 + 16 * p.2.sid.fn + p.2.sid.stream
    let s := updStrm p.2.sid.fn p.2.sid.stream (fun st => { st with flow := if st.flow = some p.1 then some n else st.flow }) s
    { s with doc := { s.doc with
      flows := mset (mdel s.doc.flows p.1) n { p.2 with proxy := true }
      descs := s.doc.descs.map (fun d => if d.2.flow = p.1 then (d.1, { d.2 with flow := n }) else d) } }) s

/-- A copy held here is discarded: a migration aborted, or a loan ended; a loan's windows then forward every command home (R315). -/
def dropCopy (g : Nat) (s : State) : State :=
  match gal s g with
  | none => s
  | some x =>
    match x.loanCopy with
    | some c =>
      let h : Descriptor := { x.desc with home := c.home }
      let s := toProxies g (dropGallery g (sendHome h s))
      { s with vit := { s.vit with remote := mset s.vit.remote g h } }
    | none => if x.arriving then dropGallery g s else s

/-- A change that follows a copy. -/
def followChange (s : State) (c : Change) : State :=
  match c with
  | .gallery g none _ _ => dropCopy g s
  | .gallery g (some d) i k => applyGallery g (some { d with home := placement s, partner := partnerField s }) i k s
  | .journal e => if (gal s e.sid.gallery).map (fun x => x.arriving) = some true then applyChange s c else s
  | c => applyChange s c

/-- One item of STATE_DATA (R310, R314). -/
def arriveItem (c : CopyItem) (s : State) : State :=
  match c with
  | .header d inst acc k rights seals kg ls old => arriveHeader d inst acc k rights seals kg ls old s
  | .cut sid q => updGal sid.gallery (fun g => { g with
      cutKnown := true, cuts := if sid.fn = 0xFFFF then g.cuts else mset g.cuts (65536 * sid.fn + sid.stream) q }) s
  | .delta d => d.changes.foldl followChange s
  | c => putItem c s

/-- STATE_DATA (R307, R310, R314). -/
def execStateData (hdr : LinkHdr) (item : CopyItem) (s : State) : Host.Outcome State Fault Refusal :=
  .next (receiveFrame hdr 3 (.stateData item) (readState hdr (whenWritable hdr (.stateData item) (fun s => offerWork (arriveItem item (passOn hdr 3 (.stateData item) s))))) s)

/-- STATE_END: of a loan copy, which is acknowledged and current from now on; of a migration, first when every cut is reached, then when the old placement has ended it (R310, R311, R314). -/
def stateEnds (g : Nat) (s : State) : State :=
  match gal s g with
  | none => s
  | some x =>
    match x.loanCopy with
    | some c =>
      sendTo 1 c.home (.loanAck g c.applied) (updGal g (fun x => { x with loanCopy := some { c with suspended := false, lastCurrency := s.now } }) s)
    | none =>
      if x.arriving then updGal g (fun x => { x with arriving := false }) s
      else updGal g (fun x => { x with oldHome := none, cuts := [] }) s

/-- STATE_END (R310, R314). -/
def execStateEnd (hdr : LinkHdr) (s : State) : Host.Outcome State Fault Refusal :=
  .next (receiveFrame hdr 3 (.stateEnd hdr.gallery) (whenWritable hdr (.stateEnd hdr.gallery) (fun s => offerWork (stateEnds hdr.gallery (passOn hdr 3 (.stateEnd hdr.gallery) s)))) s)

/-! Migration (R310, R311, R312, Table 12-6). -/

/-- A loan of the gallery is still being created. -/
def loanPending (g : Gallery) : Bool := g.loans.any (fun l => !l.2.copied)

/-- A module to which this one has no route, or is itself. -/
def noRoute (s : State) (m : Nat) : Bool := m == s.img.set.moduleId || (routeTo s m).isNone

/-- The refusals of MIGRATE_BEGIN (Table 12-6). -/
def beginRefusal (full : Bool) (c : Ctx) (s : State) : Option Resp :=
  let g := leAt c.f 32 4
  match homed s g with
  | none => some (statusOnly Status.accessDenied)
  | some x =>
    orElseResp (refuse (g == 0 || x.migration.isSome || x.arriving || loanPending x) Status.accessDenied)
    (orElseResp (refuse (noRoute s (leAt c.f 36 2)) Status.outOfReach) (refuse full Status.quotaExceeded))

/-- MIGRATE_BEGIN runs: the copy goes out; the gallery goes on serving (R310 step 1). -/
def beginMigration (c : Ctx) (s : State) : FnResult :=
  let g := leAt c.f 32 4
  let m := leAt c.f 36 2
  let p := leAt c.f 38 2
  match gal s g with
  | none => (statusOnly Status.accessDenied, [], s)
  | some x =>
    let s := sendState m (migrationItems s (g, x)) (updGal g (fun x => { x with migration := some { home := m, partner := p } }) s)
    (okResp [], [.migration g (some (m, p)) none], s)

/-- MIGRATE_BEGIN (R310, R315). -/
def execMigrateBegin (cell : Fin 128) (destFull : Bool) (s : State) : Host.Outcome State Fault Refusal :=
  .next (openFars (runFn cell 0x0E32 (beginRefusal destFull) beginMigration s))

/-- The refusals of MIGRATE_CUT (Table 12-6). -/
def cutRefusal (c : Ctx) (s : State) : Option Resp :=
  let m := (gal s (leAt c.f 32 4)).bind (·.migration)
  orElseResp (refuse ((m.map (·.cutDeclared)).getD true) Status.accessDenied) (refuse (decide (leAt c.f 36 4 > 65535)) Status.paramRejected)

/-- An entry of MIGRATE_CUT's response: VF number, stream, S (Table 12-6). -/
def cutEntry (p : StreamId × Nat) : Bytes := leBytes 2 p.1.fn ++ leBytes 1 p.1.stream ++ zeros 5 ++ leBytes 6 p.2 ++ zeros 2

/-- MIGRATE_CUT runs: every stream's S is its NEXT plus MARGIN, and the new placement learns them (R310 steps 2 to 4). -/
def cutMigration (c : Ctx) (s : State) : FnResult :=
  let g := leAt c.f 32 4
  match (gal s g).bind (·.migration) with
  | none => (statusOnly Status.accessDenied, [], s)
  | some m =>
    let cuts := (galleryFlows s g).map (fun p => (p.2.sid, p.2.next + leAt c.f 36 4))
    let s := applyMigration g (some (m.home, m.partner)) (some cuts) s
    let known : StreamId := { gallery := g, place := 0, fn := 0xFFFF, stream := 0 }
    let s := sendState m.home (cuts.map (fun p => .cut p.1 p.2) ++ [.cut known 0]) s
    let s := (galleryFlows s g).foldl (fun s p => testCut p.1 (migrateHeld p.1 s)) s
    let s := if cuts = [] then updGal g (fun x => { x with migration := some { m with cutDeclared := true, stateEnded := true } })
        (sendTo 3 m.home (.stateEnd g) s) else s
    (okResp (leBytes 4 cuts.length ++ zeros 4 ++ cuts.flatMap cutEntry), [.migration g (some (m.home, m.partner)) (some cuts)], s)

/-- MIGRATE_CUT (R310, R315). -/
def execMigrateCut (cell : Fin 128) (s : State) : Host.Outcome State Fault Refusal := .next (runFn cell 0x0E33 cutRefusal cutMigration s)

/-- The refusal of MIGRATE_END: no cut declared, a cut not reached, a window still bound here (Table 12-6). -/
def endRefusal (c : Ctx) (s : State) : Option Resp :=
  let g := leAt c.f 32 4
  let m := (gal s g).bind (·.migration)
  refuse (!((m.map (·.cutDeclared)).getD false) || !((galleryFlows s g).all (fun p => p.2.cutReached)) || boundWindows s g != []) Status.accessDenied

/-- MIGRATE_END runs: the final record, the gallery is gone here, and the new placement serves alone (R310 step 6). -/
def endMigration (c : Ctx) (s : State) : FnResult :=
  let g := leAt c.f 32 4
  match gal s g with
  | none => (statusOnly Status.accessDenied, [], s)
  | some x =>
    match x.migration with
    | none => (statusOnly Status.accessDenied, [], s)
    | some m =>
      let s := if m.stateEnded then s else sendTo 3 m.home (.stateEnd g) s
      let s := sendTo 3 m.home (.stateEnd g) s
      let s := x.loans.foldl (fun s l => sendState l.1 [discardItem g] s) s
      let s := dropGallery g (finalMeter g s)
      let s := { s with
        vit := { s.vit with remote := mset s.vit.remote g { x.desc with home := m.home, partner := m.partner } }
        doc := { s.doc with flows := s.doc.flows.filter (fun p => p.2.sid.gallery != g) } }
      (okResp [], [.gallery g none 0 []], s)

/-- MIGRATE_END (R310, R315). -/
def execMigrateEnd (cell : Fin 128) (s : State) : Host.Outcome State Fault Refusal := .next (runFn cell 0x0E34 endRefusal endMigration s)

/-- The refusal of MIGRATE_ABORT (Table 12-6). -/
def abortRefusal (c : Ctx) (s : State) : Option Resp :=
  refuse ((((gal s (leAt c.f 32 4)).bind (·.migration)).map (·.cutDeclared)).getD true) Status.accessDenied

/-- MIGRATE_ABORT runs: the new placement discards its copy. -/
def abortMigration (c : Ctx) (s : State) : FnResult :=
  let g := leAt c.f 32 4
  match (gal s g).bind (·.migration) with
  | none => (statusOnly Status.accessDenied, [], s)
  | some m =>
    (okResp [], [.migration g none none], sendState m.home [discardItem g] (updGal g (fun x => { x with migration := none }) s))

/-- MIGRATE_ABORT (R315). -/
def execMigrateAbort (cell : Fin 128) (s : State) : Host.Outcome State Fault Refusal := .next (runFn cell 0x0E35 abortRefusal abortMigration s)

/-! Loans (R314, Table 12-6). -/

/-- The LOAN_CREATE that waits for a module's copy of a gallery. -/
def creatingLoan (s : State) (g m : Nat) : Option Nat :=
  (s.doc.descs.find? (fun p => p.2.function == 0x0E36 && p.2.st == .inService && p.2.resp.isNone && leAt p.2.frame 32 4 == g && leAt p.2.frame 36 2 == m)).map (·.1)

/-- The refusals of LOAN_CREATE (Table 12-6, R45); a loan that this very command has begun is no refusal of it. -/
def loanRefusal (full : Bool) (c : Ctx) (s : State) : Option Resp :=
  let g := leAt c.f 32 4
  let m := leAt c.f 36 2
  match homed s g with
  | none => some (statusOnly Status.accessDenied)
  | some x =>
    if ((mget x.loans m).map (·.copied)) = some false ∧ (creatingLoan s g m).all (· == c.t) then none
    else
      orElseResp (refuse (g == 0 || x.migration.isSome || x.arriving || mhas x.loans m) Status.accessDenied)
      (orElseResp (refuse (noRoute s m) Status.outOfReach) (refuse (full || decide (x.loans.length ≥ x.desc.loans)) Status.quotaExceeded))

/-- LOAN_CREATE begins: the copy goes out, and the response waits until it has been applied. -/
def beginLoan (c : Ctx) (s : State) : State :=
  let g := leAt c.f 32 4
  let m := leAt c.f 36 2
  match gal s g with
  | none => s
  | some x =>
    if mhas x.loans m then s
    else
      let s := updGal g (fun x => { x with loans := mset x.loans m { partner := leAt c.f 38 2 } }) s
      sendTo 3 m (.stateEnd g) (sendState m (loanItems s (g, x)) s)

/-- LOAN_CREATE (R314, R315). -/
def execLoanCreate (cell : Fin 128) (destFull : Bool) (s : State) : Host.Outcome State Fault Refusal :=
  .next (openFars (runCmd cell 0x0E36 (loanRefusal destFull) beginLoan s))

/-- Commands wait for some loans no longer; the partner learns when one waits for none (R292, R314, log 183). -/
def dropWaits (which : Desc → Bool) (ms : List Nat) (s : State) : State :=
  let hit := s.doc.descs.filter (fun p => which p.2 && p.2.loanWait.any ms.contains)
  let s := hit.foldl (fun s p => updDesc p.1 (fun d => { d with loanWait := d.loanWait.filter (fun m => !ms.contains m) }) s) s
  (hit.filter (fun p => p.2.loanWait.all ms.contains)).foldl (fun s p => match mget s.doc.flows p.2.flow with
    | some fl => if s.pair.role == .originator then sendPartner 1 (.position (.loansDone fl.sid p.2.seq)) s else s
    | none => s) s

/-- LOAN_END runs. -/
def endLoan (c : Ctx) (s : State) : FnResult :=
  let g := leAt c.f 32 4
  let m := leAt c.f 36 2
  let s := dropWaits (fun d => d.loanGallery == g) [m] s
  (okResp [], [.loan g m none], sendState m [discardItem g] (updGal g (fun x => { x with loans := mdel x.loans m }) s))

/-- The refusal of LOAN_END (Table 12-6). -/
def endLoanRefusal (c : Ctx) (s : State) : Option Resp :=
  refuse (!(((gal s (leAt c.f 32 4)).map (fun x => mhas x.loans (leAt c.f 36 2))).getD false)) Status.accessDenied

/-- LOAN_END (R315). -/
def execLoanEnd (cell : Fin 128) (s : State) : Host.Outcome State Fault Refusal :=
  .next (runFn cell 0x0E37 endLoanRefusal endLoan s)

/-- A LOAN_DELTA at the loan: applied in number order and acknowledged to the member that sent it (R314). -/
def loanDeltaArrives (src g : Nat) (b : Delta) (s : State) : State :=
  match (gal s g).bind (·.loanCopy) with
  | none => s
  | some c =>
    if b.number ≤ c.applied then sendTo 1 src (.loanAck g b.number) s
    else if b.number ≠ c.applied + 1 then s
    else
      let s := b.changes.foldl applyChange s
      let silent := decide (s.now ≥ c.lastCurrency + 100000)
      let c := { c with applied := b.number, suspended := c.suspended && (silent || decide (b.number < c.named)) }
      sendTo 1 src (.loanAck g b.number) (updGal g (fun x => { x with loanCopy := some c }) s)

/-- LOAN_DELTA (R314). -/
def execLoanDelta (hdr : LinkHdr) (body : Delta) (s : State) : Host.Outcome State Fault Refusal :=
  .next (receiveFrame hdr 1 (.loanDelta hdr.gallery body) (readState hdr (whenWritable hdr (.loanDelta hdr.gallery body) (fun s =>
    offerWork (loanDeltaArrives hdr.src hdr.gallery body (passOn hdr 1 (.loanDelta hdr.gallery body) s))))) s)

/-- A LOAN_ACK at the home (R314): a copy applied completes LOAN_CREATE; a fence waits for this loan no longer. -/
def loanAckArrives (g m n : Nat) (s : State) : State :=
  match (gal s g).bind (fun x => mget x.loans m) with
  | none => s
  | some l =>
    let last := ((gal s g).map (·.loanSeq)).getD 0
    let s := updGal g (fun x => { x with loans := mset x.loans m { l with
      copied := true, acked := max l.acked n, suspended := l.suspended && decide (n < last) } }) s
    let s := match creatingLoan s g m with
      | some t => answerFn t (okResp []) [.loan g m (some l.partner)] s
      | none => s
    dropWaits (fun d => d.loanSeq ≤ n ∧ d.loanGallery = g) [m] s

/-- LOAN_ACK (R314). -/
def execLoanAck (hdr : LinkHdr) (number : Nat) (s : State) : Host.Outcome State Fault Refusal :=
  .next (receiveFrame hdr 1 (.loanAck hdr.gallery number) (readState hdr (fun s => offerWork (loanAckArrives hdr.gallery hdr.src number s))) s)

/-- CURRENCY at a loan: one that lacks a delta named is suspended, one that lacks none serves (R314). -/
def currencyArrives (g n : Nat) (s : State) : State :=
  match (gal s g).bind (·.loanCopy) with
  | none => s
  | some c => updGal g (fun x => { x with loanCopy := some { c with named := n, lastCurrency := s.now, suspended := decide (c.applied < n) } }) s

/-- CURRENCY (R314). -/
def execCurrency (hdr : LinkHdr) (number : Nat) (s : State) : Host.Outcome State Fault Refusal :=
  .next (receiveFrame hdr 1 (.currency hdr.gallery number) (fun s => currencyArrives hdr.gallery number (passOn hdr 1 (.currency hdr.gallery number) s)) s)

/-- The member of a placement that speaks for it: the ORIGINATOR, the SOLE member, an unpaired module (R309, R314). -/
def speaksHome (s : State) : Bool := s.pair.role == .unpaired || s.pair.role == .originator || s.pair.role == .sole

/-- CURRENCY_DUE (R314): the home names its latest delta to every loan of every gallery. -/
def execCurrencyDue (s : State) : Host.Outcome State Fault Refusal :=
  .next (if !speaksHome s then s else s.vit.galleries.foldl (fun s p => p.2.loans.foldl (fun s l => if l.2.copied then sendTo 1 l.1 (.currency p.1 p.2.loanSeq) s else s) s) s)

/-- LOAN_CURRENCY_TIMEOUT (R314): 100 us without CURRENCY suspend the loan. -/
def execLoanCurrencyTimeout (gallery : Nat) (s : State) : Host.Outcome State Fault Refusal :=
  match (gal s gallery).bind (·.loanCopy) with
  | none => .next s
  | some c =>
    .next (updGal gallery (fun x => { x with loanCopy := some { c with suspended := true } }) (advanceTo (c.lastCurrency + 100000) s))

/-- LOAN_ACK_TIMEOUT (R314): after 150 us the home treats the loans it waits for as suspended. -/
def execLoanAckTimeout (ticket : Fin 65536) (s : State) : Host.Outcome State Fault Refusal :=
  match desc s ticket with
  | none => .next s
  | some d =>
    if d.loanWait = [] then .next s
    else
      let s := advanceTo (d.loanSentAt + 150000) s
      let s := updGal d.loanGallery (fun g => { g with loans := d.loanWait.foldl (fun m x => malter m x (fun l => { l with suspended := true })) g.loans }) s
      .next (dropWaits (fun x => x.flow == d.flow && x.seq == d.seq) d.loanWait s)

/-! The end of a power-fail warning (R373). -/

/-- The effect of a frame that waited. -/
def frameEffect (h : LinkHdr) (b : FrameBody) (s : State) : State :=
  match b with
  | .resyncData c => resyncItem h c s
  | .resyncEnd => resyncEnds s
  | .stateData c => arriveItem c (passOn h 3 b s)
  | .stateEnd g => stateEnds g (passOn h 3 b s)
  | .loanDelta g d => loanDeltaArrives h.src g d (passOn h 1 b s)
  | _ => s

/-- What waited for the Vitrine goes on: the anchor record, sealed enables, frames in the order of their arrival, deltas (R286, R373). -/
def resumeWrites (s : State) : State :=
  let frames := s.pair.heldFrames
  let s := if s.vit.anchorOwed then writeAnchor s else s
  let s := resumeEnables { s with pair := { s.pair with heldFrames := [] } }
  offerWork (frames.foldl (fun s p => frameEffect p.1 p.2 s) s)

/-- POWER_FAIL_WARNING_CLEAR (R373). -/
def execPowerFailWarningClear (s : State) : Host.Outcome State Fault Refusal :=
  .next (if s.pow.failWarning then resumeWrites { s with pow := { s.pow with failWarning := false } } else s)

end Sys2Proof.Machine
end

