-- ==== Sys2Proof/Machine/SpanOps.lean ====
section
/-!
DEFINITION. Operations that span frames (R151 to R154): AEAD_SEAL_CHUNKED, AEAD_OPEN_ESCROWED, HASH_CHUNKED and HMAC_CHUNKED.
-/

namespace Sys2Proof.Machine

/-- The operation a FIRST frame opens, with its nonce and release key. -/
def newOp (c : Ctx) (nonce release : Bytes) : SpanOp :=
  let f := c.f
  { opId := leAt f 40 4, function := c.d.function, sid := c.sid, nextIndex := 0, param := byteAt f 56, macLen := byteAt f 57
    verify := fnBit0 f, key := c.key? 0, nonce := nonce, releaseKey := release, aad := slice f 144 (leAt f 58 2), data := [], dataLen := 0
    idleAt := none }

/-- DATA of Table 6-5. -/
def spanData (f : Bytes) : Bytes := slice f (144 + pad8 (leAt f 58 2)) (leAt f 52 4)

/-- Open operations of the module. -/
def opsOpen (s : State) : Nat := ((mvals s.vit.galleries).map (·.ops.length)).sum

/-- PARAM and MAC_LEN are in range for the function (Table 6-5). -/
def spanParams (f : Bytes) : Bool :=
  if hdrFunction f / 256 = 8 then
    decide (12 ≤ byteAt f 56) && decide (byteAt f 56 ≤ 16) && decide (leAt f 58 2 ≤ 16384) && (!isFirst f || asksNonce f || zeroAt f 76 4)
  else match hashOf (byteAt f 56) with
    | none => false
    | some h => hdrFunction f == 0x0905 || (decide (16 ≤ byteAt f 57) && decide (byteAt f 57 ≤ h.len))

/-- The checks of a frame of an operation (R152). -/
def checkSpan (c : Ctx) (s : State) : Option Resp :=
  let f := c.f
  let g := (gal s c.g).getD c.gal
  if isFirst f then
    refuse (!spanParams f || mhas g.ops (leAt f 40 4) || decide (64 ≤ g.ops.length) || decide (8192 ≤ opsOpen s)) Status.paramRejected
  else match namedOp g c.sid c.d with
    | none => some (statusOnly Status.aborted)
    | some o =>
      if leAt f 44 4 ≠ o.nextIndex then some (statusOnly Status.aborted)
      else refuse (byteAt f 56 != o.param || byteAt f 57 != o.macLen || (c.d.function == 0x0906 && fnBit0 f != o.verify) ||
        (c.d.function / 256 == 8 && decide (o.dataLen + leAt f 52 4 > 2 ^ 36 - 32))) Status.paramRejected

/-- The response of a frame (Table 6-6). -/
def spanResp (index : Nat) (nonce result data : Bytes) : Resp :=
  okResp (leBytes 4 index ++ leBytes 4 data.length ++ slice nonce 0 16 ++ slice result 0 64 ++ data)

/-- The operation after a frame: it ends on LAST, else expects the next index. -/
def spanChange (c : Ctx) (o : SpanOp) (absorbed : Bytes) : List Change :=
  if isLast c.f then [.spanOp c.g o.opId none]
  else [.spanOp c.g o.opId (some { o with nextIndex := o.nextIndex + 1, data := o.data ++ absorbed, dataLen := o.dataLen + absorbed.length })]

/-- The operation that a frame works on: the one it opens, or the one it names. -/
def spanOpAt (c : Ctx) (fresh : SpanOp) (s : State) : SpanOp :=
  if isFirst c.f then fresh else (((gal s c.g).bind (fun g => namedOp g c.sid c.d)).getD fresh)

/-- The block cipher of an operation's key. -/
def SpanOp.cipher (o : SpanOp) : BlockCipher := (o.key.getD noHeldKey).cipher

/-- AEAD_SEAL_CHUNKED. -/
def runSealChunked (c : Ctx) (s : State) : FnResult :=
  let f := c.f
  let (nonce, s) := if asksNonce f then drawNonce s else (slice f 64 12, s)
  let o := spanOpAt c (newOp c nonce []) s
  let j0 := gcmJ0 o.cipher o.nonce
  let ct := gctr o.cipher j0 (o.dataLen / 16) (spanData f)
  let tag := if isLast f then (gcmTag o.cipher j0 o.aad (o.data ++ ct)).take o.param else []
  (spanResp (leAt f 44 4) o.nonce tag ct, spanChange c o ct ++ (if asksNonce f then [.nonce nonce] else []), s)

/-- AES-256-CTR under a release key: the counter block is CHUNK_INDEX, 8 zero bytes and the block number (R154). -/
def escrowed (release : Bytes) (index : Nat) (d : Bytes) : Bytes :=
  ctrMode (aesOf release) (beBytes 4 index ++ zeros 12) d

/-- AEAD_OPEN_ESCROWED (R154). -/
def runOpenEscrowed (c : Ctx) (s : State) : FnResult :=
  let f := c.f
  let (release, s) := if isFirst f then drawBytes (drawInstance c) 32 s else ([], s)
  let o := spanOpAt c (newOp c (slice f 64 12) release) s
  let j0 := gcmJ0 o.cipher o.nonce
  let pt := gctr o.cipher j0 (o.dataLen / 16) (spanData f)
  if !isLast f then (spanResp (leAt f 44 4) [] [] (escrowed o.releaseKey (leAt f 44 4) pt), spanChange c o (spanData f), s)
  else if (gcmTag o.cipher j0 o.aad (o.data ++ spanData f)).take o.param = slice f 80 o.param then
    (spanResp (leAt f 44 4) [] o.releaseKey pt, spanChange c o [], s)
  else (statusOnly Status.tagMismatch, spanChange c o [], s)

/-- HASH_CHUNKED. -/
def runHashChunked (c : Ctx) (s : State) : FnResult :=
  let f := c.f
  let o := spanOpAt c (newOp c [] []) s
  (spanResp (leAt f 44 4) [] (if isLast f then (hashAt o.param).run (o.data ++ spanData f) else []) [], spanChange c o (spanData f), s)

/-- HMAC_CHUNKED. -/
def runHmacChunked (c : Ctx) (s : State) : FnResult :=
  let f := c.f
  let o := spanOpAt c (newOp c [] []) s
  let m := ((hashAt o.param).hmac (o.key.getD noHeldKey).material (o.data ++ spanData f)).take o.macLen
  if !isLast f then (spanResp (leAt f 44 4) [] [] [], spanChange c o (spanData f), s)
  else if !o.verify then (spanResp (leAt f 44 4) [] m [], spanChange c o [], s)
  else if m = slice f 80 o.macLen then (spanResp (leAt f 44 4) [] [] [], spanChange c o [], s)
  else (statusOnly Status.verifyFailed, spanChange c o [], s)

/-- AEAD_SEAL_CHUNKED (R151 to R153). -/
def execAeadSealChunked (cell : Fin 128) (s : State) : Host.Outcome State Fault Refusal :=
  .next (runFn cell 0x0805 checkSpan runSealChunked s)

/-- AEAD_OPEN_ESCROWED (R151 to R154). -/
def execAeadOpenEscrowed (cell : Fin 128) (s : State) : Host.Outcome State Fault Refusal :=
  .next (runFn cell 0x0806 checkSpan runOpenEscrowed s)

/-- HASH_CHUNKED (R151 to R153). -/
def execHashChunked (cell : Fin 128) (s : State) : Host.Outcome State Fault Refusal :=
  .next (runFn cell 0x0905 checkSpan runHashChunked s)

/-- HMAC_CHUNKED (R151 to R153). -/
def execHmacChunked (cell : Fin 128) (s : State) : Host.Outcome State Fault Refusal :=
  .next (runFn cell 0x0906 checkSpan runHmacChunked s)

end Sys2Proof.Machine
end

