-- ==== Sys2Proof/Machine/Dispatch.lean ====
section
/-!
DEFINITION. The meaning of each command, one arm for each constructor.
-/

namespace Sys2Proof.Machine

def exec (i : Instr) (s : State) : Host.Outcome State Fault Refusal :=
  match i with
  | .barWrite fn off data poisoned => Sys2Proof.Machine.execBarWrite fn off data poisoned s
  | .submitSlotWrite fn stream slot off data poisoned => Sys2Proof.Machine.execSubmitSlotWrite fn stream slot off data poisoned s
  | .largeFramePortWrite fn stream off data poisoned => Sys2Proof.Machine.execLargeFramePortWrite fn stream off data poisoned s
  | .responseAreaRead fn stream port off len => Sys2Proof.Machine.execResponseAreaRead fn stream port off len s
  | .commit fn stream slot => Sys2Proof.Machine.execCommit fn stream slot s
  | .largeCommit fn stream slot => Sys2Proof.Machine.execLargeCommit fn stream slot s
  | .slotCopyDone fn stream slot => Sys2Proof.Machine.execSlotCopyDone fn stream slot s
  | .largeFrameCopyDone fn stream => Sys2Proof.Machine.execLargeFrameCopyDone fn stream s
  | .streamEnable fn stream sealed => Sys2Proof.Machine.execStreamEnable fn stream sealed s
  | .streamDisable fn stream sealed => Sys2Proof.Machine.execStreamDisable fn stream sealed s
  | .streamDrained fn stream => Sys2Proof.Machine.execStreamDrained fn stream s
  | .winRespAck fn stream value => Sys2Proof.Machine.execWinRespAck fn stream value s
  | .winEventMaskWrite fn value => Sys2Proof.Machine.execWinEventMaskWrite fn value s
  | .winMevMaskWrite k value => Sys2Proof.Machine.execWinMevMaskWrite k value s
  | .msixTableWrite fn vector upper value => Sys2Proof.Machine.execMsixTableWrite fn vector upper value s
  | .pcieConfigWrite fn command msixEnable fnMask => Sys2Proof.Machine.execPcieConfigWrite fn command msixEnable fnMask s
  | .holdoffExpiry fn => Sys2Proof.Machine.execHoldoffExpiry fn s
  | .functionLevelReset fn => Sys2Proof.Machine.execFunctionLevelReset fn s
  | .functionLevelResetDone fn => Sys2Proof.Machine.execFunctionLevelResetDone fn s
  | .perstAssert lowNs => Sys2Proof.Machine.execPerstAssert lowNs s
  | .perstDeassert => Sys2Proof.Machine.execPerstDeassert s
  | .pwronResetAssert lowNs => Sys2Proof.Machine.execPwronResetAssert lowNs s
  | .pwronResetDeassert => Sys2Proof.Machine.execPwronResetDeassert s
  | .pcieLinkDown => Sys2Proof.Machine.execPcieLinkDown s
  | .start upTo env => Sys2Proof.Machine.execStart upTo env s
  | .docTake cell => Sys2Proof.Machine.execDocTake cell s
  | .takeTimeout cell => Sys2Proof.Machine.execTakeTimeout cell s
  | .docDoneComplete cell ticket => Sys2Proof.Machine.execDocDoneComplete cell ticket s
  | .docDonePark cell ticket wait object => Sys2Proof.Machine.execDocDonePark cell ticket wait object s
  | .docDoneRetry cell ticket => Sys2Proof.Machine.execDocDoneRetry cell ticket s
  | .parkSignal wait object => Sys2Proof.Machine.execParkSignal wait object s
  | .responseRelease flow => Sys2Proof.Machine.execResponseRelease flow s
  | .responsePublish fn stream => Sys2Proof.Machine.execResponsePublish fn stream s
  | .tickBoundary => Sys2Proof.Machine.execTickBoundary s
  | .modeAndQuotaChanges => Sys2Proof.Machine.execModeAndQuotaChanges s
  | .tokenRefill => Sys2Proof.Machine.execTokenRefill s
  | .gapTimeOut flow => Sys2Proof.Machine.execGapTimeOut flow s
  | .deadline ticket => Sys2Proof.Machine.execDeadline ticket s
  | .operationIdleTimeOut gallery opId => Sys2Proof.Machine.execOperationIdleTimeOut gallery opId s
  | .unbindDrainTimeOut fn => Sys2Proof.Machine.execUnbindDrainTimeOut fn s
  | .unbindComplete fn => Sys2Proof.Machine.execUnbindComplete fn s
  | .tickUsWrite value => Sys2Proof.Machine.execTickUsWrite value s
  | .histClear => Sys2Proof.Machine.execHistClear s
  | .pinTranslate cell => Sys2Proof.Machine.execPinTranslate cell s
  | .pinCalc cell => Sys2Proof.Machine.execPinCalc cell s
  | .pinVerify cell => Sys2Proof.Machine.execPinVerify cell s
  | .pinGenerate cell => Sys2Proof.Machine.execPinGenerate cell s
  | .pinTrySet cell => Sys2Proof.Machine.execPinTrySet cell s
  | .cvvGenerate cell => Sys2Proof.Machine.execCvvGenerate cell s
  | .cvvVerify cell => Sys2Proof.Machine.execCvvVerify cell s
  | .arqcVerify cell => Sys2Proof.Machine.execArqcVerify cell s
  | .scriptMac cell => Sys2Proof.Machine.execScriptMac cell s
  | .scriptEncrypt cell => Sys2Proof.Machine.execScriptEncrypt cell s
  | .dukptPinTranslate cell => Sys2Proof.Machine.execDukptPinTranslate cell s
  | .dukptDecrypt cell => Sys2Proof.Machine.execDukptDecrypt cell s
  | .dukptMacVerify cell => Sys2Proof.Machine.execDukptMacVerify cell s
  | .dukptInitialKeyExport cell => Sys2Proof.Machine.execDukptInitialKeyExport cell s
  | .dukptOriginate cell => Sys2Proof.Machine.execDukptOriginate cell s
  | .macGenerate cell => Sys2Proof.Machine.execMacGenerate cell s
  | .macVerify cell => Sys2Proof.Machine.execMacVerify cell s
  | .keyblockImport cell => Sys2Proof.Machine.execKeyblockImport cell s
  | .keyblockExport cell => Sys2Proof.Machine.execKeyblockExport cell s
  | .rklExport cell => Sys2Proof.Machine.execRklExport cell s
  | .dataEncrypt cell => Sys2Proof.Machine.execDataEncrypt cell s
  | .dataDecrypt cell => Sys2Proof.Machine.execDataDecrypt cell s
  | .ff1Encrypt cell => Sys2Proof.Machine.execFf1Encrypt cell s
  | .ff1Decrypt cell => Sys2Proof.Machine.execFf1Decrypt cell s
  | .cipherEncrypt cell => Sys2Proof.Machine.execCipherEncrypt cell s
  | .cipherDecrypt cell => Sys2Proof.Machine.execCipherDecrypt cell s
  | .aeadSeal cell => Sys2Proof.Machine.execAeadSeal cell s
  | .aeadOpen cell => Sys2Proof.Machine.execAeadOpen cell s
  | .aeadSealChunked cell => Sys2Proof.Machine.execAeadSealChunked cell s
  | .aeadOpenEscrowed cell => Sys2Proof.Machine.execAeadOpenEscrowed cell s
  | .hash cell => Sys2Proof.Machine.execHash cell s
  | .hmacGenerate cell => Sys2Proof.Machine.execHmacGenerate cell s
  | .hmacVerify cell => Sys2Proof.Machine.execHmacVerify cell s
  | .kdf cell => Sys2Proof.Machine.execKdf cell s
  | .hashChunked cell => Sys2Proof.Machine.execHashChunked cell s
  | .hmacChunked cell => Sys2Proof.Machine.execHmacChunked cell s
  | .ecdsaSign cell => Sys2Proof.Machine.execEcdsaSign cell s
  | .ecdsaVerify cell => Sys2Proof.Machine.execEcdsaVerify cell s
  | .eddsaSign cell => Sys2Proof.Machine.execEddsaSign cell s
  | .eddsaVerify cell => Sys2Proof.Machine.execEddsaVerify cell s
  | .rsaSign cell => Sys2Proof.Machine.execRsaSign cell s
  | .rsaVerify cell => Sys2Proof.Machine.execRsaVerify cell s
  | .mldsaSign cell => Sys2Proof.Machine.execMldsaSign cell s
  | .mldsaVerify cell => Sys2Proof.Machine.execMldsaVerify cell s
  | .ecdh cell => Sys2Proof.Machine.execEcdh cell s
  | .ecdhEphemeral cell => Sys2Proof.Machine.execEcdhEphemeral cell s
  | .mlkemEncaps cell => Sys2Proof.Machine.execMlkemEncaps cell s
  | .mlkemDecaps cell => Sys2Proof.Machine.execMlkemDecaps cell s
  | .rsaOaepDecrypt cell => Sys2Proof.Machine.execRsaOaepDecrypt cell s
  | .curveLoad cell => Sys2Proof.Machine.execCurveLoad cell s
  | .curveQuery cell => Sys2Proof.Machine.execCurveQuery cell s
  | .randomBytes cell => Sys2Proof.Machine.execRandomBytes cell s
  | .accession cell => Sys2Proof.Machine.execAccession cell s
  | .deaccession cell => Sys2Proof.Machine.execDeaccession cell s
  | .keyQuery cell => Sys2Proof.Machine.execKeyQuery cell s
  | .accessionInfo cell => Sys2Proof.Machine.execAccessionInfo cell s
  | .galleryCreate cell => Sys2Proof.Machine.execGalleryCreate cell s
  | .galleryBind call => Sys2Proof.Machine.execGalleryBind call s
  | .galleryUnbind cell => Sys2Proof.Machine.execGalleryUnbind cell s
  | .galleryRemove call => Sys2Proof.Machine.execGalleryRemove call s
  | .gallerySet cell => Sys2Proof.Machine.execGallerySet cell s
  | .galleryRights cell => Sys2Proof.Machine.execGalleryRights cell s
  | .galleryQuery cell => Sys2Proof.Machine.execGalleryQuery cell s
  | .meterRead cell => Sys2Proof.Machine.execMeterRead cell s
  | .meterAck cell => Sys2Proof.Machine.execMeterAck cell s
  | .modeSet cell => Sys2Proof.Machine.execModeSet cell s
  | .ceremonyAccession cell => Sys2Proof.Machine.execCeremonyAccession cell s
  | .pairSwap cell => Sys2Proof.Machine.execPairSwap cell s
  | .pairTakeover cell => Sys2Proof.Machine.execPairTakeover cell s
  | .migrateBegin cell destFull => Sys2Proof.Machine.execMigrateBegin cell destFull s
  | .migrateCut cell => Sys2Proof.Machine.execMigrateCut cell s
  | .migrateEnd cell => Sys2Proof.Machine.execMigrateEnd cell s
  | .migrateAbort cell => Sys2Proof.Machine.execMigrateAbort cell s
  | .loanCreate cell destFull => Sys2Proof.Machine.execLoanCreate cell destFull s
  | .loanEnd cell => Sys2Proof.Machine.execLoanEnd cell s
  | .lcsTransition cell => Sys2Proof.Machine.execLcsTransition cell s
  | .countersRead cell => Sys2Proof.Machine.execCountersRead cell s
  | .cenClaim cell => Sys2Proof.Machine.execCenClaim cell s
  | .cenGrantRead cell => Sys2Proof.Machine.execCenGrantRead cell s
  | .cenRelease cell => Sys2Proof.Machine.execCenRelease cell s
  | .cenKeyload cell entry keyreg => Sys2Proof.Machine.execCenKeyload cell entry keyreg s
  | .cenKeyloadStep cell entry keyreg => Sys2Proof.Machine.execCenKeyloadStep cell entry keyreg s
  | .cenOp cell word ctx stores => Sys2Proof.Machine.execCenOp cell word ctx stores s
  | .cenOpDone wing => Sys2Proof.Machine.execCenOpDone wing s
  | .cenStatusRead cell => Sys2Proof.Machine.execCenStatusRead cell s
  | .cenNonceRead cell => Sys2Proof.Machine.execCenNonceRead cell s
  | .hsuClaim cell => Sys2Proof.Machine.execHsuClaim cell s
  | .hsuGrantRead cell => Sys2Proof.Machine.execHsuGrantRead cell s
  | .hsuRelease cell => Sys2Proof.Machine.execHsuRelease cell s
  | .hsuKeyload cell entry two step => Sys2Proof.Machine.execHsuKeyload cell entry two step s
  | .hsuOp cell word ctx stores => Sys2Proof.Machine.execHsuOp cell word ctx stores s
  | .hsuStatusRead cell => Sys2Proof.Machine.execHsuStatusRead cell s
  | .engineClearDone wing hashUnit ok => Sys2Proof.Machine.execEngineClearDone wing hashUnit ok s
  | .engineHoldOverrun wing hashUnit => Sys2Proof.Machine.execEngineHoldOverrun wing hashUnit s
  | .engineFaultAlarm wing hashUnit mask => Sys2Proof.Machine.execEngineFaultAlarm wing hashUnit mask s
  | .engineSelfCheckDone wing hashUnit pass => Sys2Proof.Machine.execEngineSelfCheckDone wing hashUnit pass s
  | .maskSeedChange wing => Sys2Proof.Machine.execMaskSeedChange wing s
  | .seedRefillDone wing => Sys2Proof.Machine.execSeedRefillDone wing s
  | .pkuClaim cell => Sys2Proof.Machine.execPkuClaim cell s
  | .pkuGrantRead cell => Sys2Proof.Machine.execPkuGrantRead cell s
  | .pkuRelease cell => Sys2Proof.Machine.execPkuRelease cell s
  | .pkuAbandon cell => Sys2Proof.Machine.execPkuAbandon cell s
  | .pkuCfgWrite cell value qinv => Sys2Proof.Machine.execPkuCfgWrite cell value qinv s
  | .mac cell word => Sys2Proof.Machine.execMac cell word s
  | .macShift cell word => Sys2Proof.Machine.execMacShift cell word s
  | .loadAcc cell word => Sys2Proof.Machine.execLoadAcc cell word s
  | .storeAcc cell word => Sys2Proof.Machine.execStoreAcc cell word s
  | .pkuDmaIn cell word stores pages => Sys2Proof.Machine.execPkuDmaIn cell word stores pages s
  | .pkuDmaOut cell word pages => Sys2Proof.Machine.execPkuDmaOut cell word pages s
  | .pkuDmaDone wing => Sys2Proof.Machine.execPkuDmaDone wing s
  | .pkuStatusRead cell => Sys2Proof.Machine.execPkuStatusRead cell s
  | .pkuWipeDone wing ok => Sys2Proof.Machine.execPkuWipeDone wing ok s
  | .pkuHoldOverrun wing => Sys2Proof.Machine.execPkuHoldOverrun wing s
  | .pkuFaultAlarm wing => Sys2Proof.Machine.execPkuFaultAlarm wing s
  | .pkuSelfCheckDone wing pass => Sys2Proof.Machine.execPkuSelfCheckDone wing pass s
  | .entropyBlock source block => Sys2Proof.Machine.execEntropyBlock source block s
  | .healthTestFail source samples => Sys2Proof.Machine.execHealthTestFail source samples s
  | .sourceStartUpDone source => Sys2Proof.Machine.execSourceStartUpDone source s
  | .drbgReseedDone inst => Sys2Proof.Machine.execDrbgReseedDone inst s
  | .drbgInstantiateDone inst => Sys2Proof.Machine.execDrbgInstantiateDone inst s
  | .meterMark => Sys2Proof.Machine.execMeterMark s
  | .spanLinkUp port lanes => Sys2Proof.Machine.execSpanLinkUp port lanes s
  | .spanLinkDown port => Sys2Proof.Machine.execSpanLinkDown port s
  | .hello hdr body => Sys2Proof.Machine.execHello hdr body s
  | .keyconfirm hdr signature => Sys2Proof.Machine.execKeyconfirm hdr signature s
  | .idle hdr => Sys2Proof.Machine.execIdle hdr s
  | .idleDue => Sys2Proof.Machine.execIdleDue s
  | .probe hdr => Sys2Proof.Machine.execProbe hdr s
  | .echo hdr roundTripNs turnAroundNs => Sys2Proof.Machine.execEcho hdr roundTripNs turnAroundNs s
  | .hopMeasurementDue port => Sys2Proof.Machine.execHopMeasurementDue port s
  | .withdraw hdr => Sys2Proof.Machine.execWithdraw hdr s
  | .withdrawSend => Sys2Proof.Machine.execWithdrawSend s
  | .position hdr body => Sys2Proof.Machine.execPosition hdr body s
  | .crossfeedTimeout ticket => Sys2Proof.Machine.execCrossfeedTimeout ticket s
  | .crossfeed hdr sid frame => Sys2Proof.Machine.execCrossfeed hdr sid frame s
  | .delta hdr body => Sys2Proof.Machine.execDelta hdr body s
  | .deltaAck hdr number => Sys2Proof.Machine.execDeltaAck hdr number s
  | .loanDelta hdr body => Sys2Proof.Machine.execLoanDelta hdr body s
  | .loanAck hdr number => Sys2Proof.Machine.execLoanAck hdr number s
  | .currency hdr number => Sys2Proof.Machine.execCurrency hdr number s
  | .currencyDue => Sys2Proof.Machine.execCurrencyDue s
  | .loanCurrencyTimeout gallery => Sys2Proof.Machine.execLoanCurrencyTimeout gallery s
  | .loanAckTimeout ticket => Sys2Proof.Machine.execLoanAckTimeout ticket s
  | .forward hdr sid body => Sys2Proof.Machine.execForward hdr sid body s
  | .forwardRsp hdr sid seq resp flags => Sys2Proof.Machine.execForwardRsp hdr sid seq resp flags s
  | .forwardRetry ticket => Sys2Proof.Machine.execForwardRetry ticket s
  | .resyncData hdr item => Sys2Proof.Machine.execResyncData hdr item s
  | .resyncEnd hdr => Sys2Proof.Machine.execResyncEnd hdr s
  | .resyncComplete => Sys2Proof.Machine.execResyncComplete s
  | .stateData hdr item => Sys2Proof.Machine.execStateData hdr item s
  | .stateEnd hdr => Sys2Proof.Machine.execStateEnd hdr s
  | .rehandshakeDue port => Sys2Proof.Machine.execRehandshakeDue port s
  | .pairLinkSilence => Sys2Proof.Machine.execPairLinkSilence s
  | .heartbeatToggle => Sys2Proof.Machine.execHeartbeatToggle s
  | .heartbeatEdge => Sys2Proof.Machine.execHeartbeatEdge s
  | .heartbeatSilent => Sys2Proof.Machine.execHeartbeatSilent s
  | .dualActWindowClose => Sys2Proof.Machine.execDualActWindowClose s
  | .pairStartTimeout => Sys2Proof.Machine.execPairStartTimeout s
  | .commandError code ticket unit => Sys2Proof.Machine.execCommandError code ticket unit s
  | .wingError code wing => Sys2Proof.Machine.execWingError code wing s
  | .wingRestorationDone wing pass => Sys2Proof.Machine.execWingRestorationDone wing pass s
  | .cellWatchdog cell => Sys2Proof.Machine.execCellWatchdog cell s
  | .moduleError code => Sys2Proof.Machine.execModuleError code s
  | .containedHaltTimeout => Sys2Proof.Machine.execContainedHaltTimeout s
  | .fatalError code => Sys2Proof.Machine.execFatalError code s
  | .vitrineLineFail line gallery slot => Sys2Proof.Machine.execVitrineLineFail line gallery slot s
  | .eccCorrected wing => Sys2Proof.Machine.execEccCorrected wing s
  | .curatorRestart back => Sys2Proof.Machine.execCuratorRestart back s
  | .loopDriveStep => Sys2Proof.Machine.execLoopDriveStep s
  | .loopCompare echo => Sys2Proof.Machine.execLoopCompare echo s
  | .loopEdgeMismatch loop => Sys2Proof.Machine.execLoopEdgeMismatch loop s
  | .tamperCollectionEnd => Sys2Proof.Machine.execTamperCollectionEnd s
  | .tempSample value => Sys2Proof.Machine.execTempSample value s
  | .supplyComparator high present => Sys2Proof.Machine.execSupplyComparator high present s
  | .xtalFault present => Sys2Proof.Machine.execXtalFault present s
  | .railGlitch present => Sys2Proof.Machine.execRailGlitch present s
  | .clockGlitch present => Sys2Proof.Machine.execClockGlitch present s
  | .inputSample levels => Sys2Proof.Machine.execInputSample levels s
  | .keySwitchTimeout b => Sys2Proof.Machine.execKeySwitchTimeout b s
  | .lockoutEnd => Sys2Proof.Machine.execLockoutEnd s
  | .transitionBurnDone => Sys2Proof.Machine.execTransitionBurnDone s
  | .mainPowerFail g6Kept => Sys2Proof.Machine.execMainPowerFail g6Kept s
  | .powerFailWarning => Sys2Proof.Machine.execPowerFailWarning s
  | .vauxLoss => Sys2Proof.Machine.execVauxLoss s
  | .vauxRestore => Sys2Proof.Machine.execVauxRestore s
  | .alwaysOnPowerUp vaux vbat => Sys2Proof.Machine.execAlwaysOnPowerUp vaux vbat s
  | .avsbusAck => Sys2Proof.Machine.execAvsbusAck s
  | .avsbusTimeout => Sys2Proof.Machine.execAvsbusTimeout s
  | .wingClockSwitch wing => Sys2Proof.Machine.execWingClockSwitch wing s
  | .quiesceDrainTimeout => Sys2Proof.Machine.execQuiesceDrainTimeout s
  | .quiesceComplete => Sys2Proof.Machine.execQuiesceComplete s
  | .thermalEstimate hottest power => Sys2Proof.Machine.execThermalEstimate hottest power s
  | .thermalReturn => Sys2Proof.Machine.execThermalReturn s
  | .wingPlacement => Sys2Proof.Machine.execWingPlacement s
  | .wingWakeRequest => Sys2Proof.Machine.execWingWakeRequest s
  | .wingWakeDone wing => Sys2Proof.Machine.execWingWakeDone wing s
  | .sensorSample readings => Sys2Proof.Machine.execSensorSample readings s
  | .logCheckpoint => Sys2Proof.Machine.execLogCheckpoint s
  | .mailboxSubmit inLen => Sys2Proof.Machine.execMailboxSubmit inLen s
  | .mailboxAck => Sys2Proof.Machine.execMailboxAck s
  | .setEndpointId bus eid => Sys2Proof.Machine.execSetEndpointId bus eid s
  | .getEndpointId bus => Sys2Proof.Machine.execGetEndpointId bus s
  | .getMctpVersionSupport bus type => Sys2Proof.Machine.execGetMctpVersionSupport bus type s
  | .getMessageTypeSupport bus => Sys2Proof.Machine.execGetMessageTypeSupport bus s
  | .getVendorDefinedMessageSupport bus selector => Sys2Proof.Machine.execGetVendorDefinedMessageSupport bus selector s
  | .getTid bus => Sys2Proof.Machine.execGetTid bus s
  | .getPldmTypes bus => Sys2Proof.Machine.execGetPldmTypes bus s
  | .getPldmCommands bus type => Sys2Proof.Machine.execGetPldmCommands bus type s
  | .getPldmVersion bus type => Sys2Proof.Machine.execGetPldmVersion bus type s
  | .getSensorReading bus sensor => Sys2Proof.Machine.execGetSensorReading bus sensor s
  | .getStateSensorReadings bus sensor => Sys2Proof.Machine.execGetStateSensorReadings bus sensor s
  | .getPdr bus record => Sys2Proof.Machine.execGetPdr bus record s
  | .getPdrRepositoryInfo bus => Sys2Proof.Machine.execGetPdrRepositoryInfo bus s
  | .setEventReceiver bus enable address => Sys2Proof.Machine.execSetEventReceiver bus enable address s
  | .requestUpdate bus => Sys2Proof.Machine.execRequestUpdate bus s
  | .passComponentTable bus component => Sys2Proof.Machine.execPassComponentTable bus component s
  | .updateComponent bus component => Sys2Proof.Machine.execUpdateComponent bus component s
  | .requestFirmwareData bus offset data => Sys2Proof.Machine.execRequestFirmwareData bus offset data s
  | .transferComplete bus image => Sys2Proof.Machine.execTransferComplete bus image s
  | .activateFirmware bus => Sys2Proof.Machine.execActivateFirmware bus s
  | .cancelUpdate bus => Sys2Proof.Machine.execCancelUpdate bus s
  | .updateAgentTimeout => Sys2Proof.Machine.execUpdateAgentTimeout s
  | .antiRollbackBurn => Sys2Proof.Machine.execAntiRollbackBurn s
  | .getVersion bus => Sys2Proof.Machine.execGetVersion bus s
  | .getCapabilities bus => Sys2Proof.Machine.execGetCapabilities bus s
  | .negotiateAlgorithms bus hasSha384 hasP384 => Sys2Proof.Machine.execNegotiateAlgorithms bus hasSha384 hasP384 s
  | .getDigests bus => Sys2Proof.Machine.execGetDigests bus s
  | .getCertificate bus slot offset length => Sys2Proof.Machine.execGetCertificate bus slot offset length s
  | .challenge bus slot nonce => Sys2Proof.Machine.execChallenge bus slot nonce s
  | .getMeasurements bus index sign nonce => Sys2Proof.Machine.execGetMeasurements bus index sign nonce s
  | .inventory bus => Sys2Proof.Machine.execInventory bus s
  | .logRead bus first count => Sys2Proof.Machine.execLogRead bus first count s
  | .tamperRecord bus => Sys2Proof.Machine.execTamperRecord bus s
  | .lcsTransitionMessage bus target index token => Sys2Proof.Machine.execLcsTransitionMessage bus target index token s
  | .debugChallenge bus => Sys2Proof.Machine.execDebugChallenge bus s
  | .debugResponse bus key signature => Sys2Proof.Machine.execDebugResponse bus key signature s
  | .conservatorRun bus => Sys2Proof.Machine.execConservatorRun bus s
  | .conservatorRunDone pass ms100 => Sys2Proof.Machine.execConservatorRunDone pass ms100 s
  | .rawSamples bus source offset samples => Sys2Proof.Machine.execRawSamples bus source offset samples s
  | .counterSnap freeze clear => Sys2Proof.Machine.execCounterSnap freeze clear s
  | .counterClear freeze => Sys2Proof.Machine.execCounterClear freeze s
  | .samplingEnable value => Sys2Proof.Machine.execSamplingEnable value s
  | .instructionSample cell offset slot other => Sys2Proof.Machine.execInstructionSample cell offset slot other s
  | .traceEnable value => Sys2Proof.Machine.execTraceEnable value s
  | .hotReset => Sys2Proof.Machine.execHotReset s
  | .pcieLinkUp => Sys2Proof.Machine.execPcieLinkUp s
  | .gddr6RailLoss => Sys2Proof.Machine.execGddr6RailLoss s
  | .vbatLoss => Sys2Proof.Machine.execVbatLoss s
  | .powerFailWarningClear => Sys2Proof.Machine.execPowerFailWarningClear s
  | .mctpTransportTimeout => Sys2Proof.Machine.execMctpTransportTimeout s
  | .meterArchiveCopy => Sys2Proof.Machine.execMeterArchiveCopy s
  | .utcOffsetSet offset => Sys2Proof.Machine.execUtcOffsetSet offset s
  | .docentCopyRepair => Sys2Proof.Machine.execDocentCopyRepair s

end Sys2Proof.Machine
end

