-- ==== Sys2Proof/Safety.lean ====
section
/-! DEFINITION. What counts as a safe state of the module and as a safe change of it. -/

namespace Sys2Proof.Safety

open Sys2Proof.Machine

/-- Fuses only burn: the transition records of before stand first, in their order, and no count falls (17 R349, R413, 08 R222). -/
def FusesGrow (f g : Fuses) : Prop :=
  f.records <+: g.records ∧ f.epochs ≤ g.epochs ∧ f.arc ≤ g.arc ∧ (f.nonceWithdrawn = true → g.nonceWithdrawn = true) ∧ g.codeE = f.codeE

/-- The fuse budgets: 63 nonce epochs (08 R222), 256 anti-rollback pairs (17 R413). -/
def FuseBudget (f : Fuses) : Prop := f.epochs ≤ 63 ∧ f.arc ≤ 256

/-- With the tamper latch set BBRAM holds no module root (14 R340), and a START under way has not gone past step 1 (14 R342). -/
def LatchSafe (s : State) : Prop :=
  s.ao.responded = true → s.bb.root = none ∧ (s.pow.starting = true → s.pow.startStep ≤ 1)

/-- The byte memories are in their canonical form: the two Ulond slots and what is held of the two firmware slots over erased flash (FFH), the mailbox buffers and the operand space over zeros. -/
def MemoriesWf (s : State) : Prop :=
  memWf 0xFF s.img.slot0 = true ∧ memWf 0xFF s.img.slot1 = true ∧ memWf 0 s.cur.inBuf = true ∧ memWf 0 s.cur.outBuf = true ∧
    memWf 0 s.pow.operandSpace.mem = true ∧ memWf 0xFF (s.img.fwDataA.getD []) = true ∧ memWf 0xFF (s.img.fwDataB.getD []) = true

/-! A cell and the command it holds. -/

/-- Nothing keeps a cell from running the function of the command it holds: the command `c` is in service there under that code and has no response, it need not wait for a state object, the power-fail warning or a journal page (04 R97, R102, 15 R373), it is not turned away, the copy is not the secondary one (10 R262), the engine it needs has a mask seed (08 R216), and the instance it draws from, if any, serves (11 R279, R280). -/
def Serves (cell : Fin 128) (code : Nat) (s : State) (c : Ctx) : Prop :=
  heldCommand cell code s = some c ∧ mustWait s c = false ∧ turnedAway s c = false ∧ (cellRegs s cell).secondary = false ∧ lacksSeed s c = false ∧
    (drawsNow c.d = true → s.rng.fatal = false ∧ instServes s (drawInstance c) = true)

/-- The slots whose use budgets the command has still to step (07 R176, 08 R214). -/
def owedSteps (c : Ctx) : List Nat := (finiteSlots c.d).filter (fun n => !c.d.stepped.contains n)

/-- `v` is `s` after the command's steps of use budgets; with no finite key only the command's own descriptor is written, with what it held. -/
def Charged (c : Ctx) (s v : State) : Prop :=
  ∃ steps u, stepSlots c.g (owedSteps c) s = some (steps, u) ∧
    v = updDesc c.t (fun d => { d with stepped := d.stepped ++ owedSteps c, changes := d.changes ++ steps }) u

/-- The function of a row runs to its answer: its response stands in the command's descriptor, with the changes of state it made; `fact` says what they are. A function that draws is refused none of its requests by its instance (11 R279). -/
def Answers (row : Fin 128 → Instr) (code : Nat) (check : Ctx → State → Option Resp) (run : Ctx → State → FnResult) (fact : Ctx → State → FnResult → Prop) : Prop :=
  ∀ (cell : Fin 128) (s v : State) (c : Ctx), Serves cell code s c → check c s = none → Charged c s v →
    (drawsNow c.d = true → (run c v).2.2.rng.starved = none) →
    exec (row cell) s = .next (answerFn c.t (run c v).1 (run c v).2.1 (run c v).2.2) ∧ fact c v (run c v)

/-- The function answers and changes nothing else. -/
def Pure (v : State) (x : FnResult) : Prop := x.2.1 = [] ∧ x.2.2 = v

/-- The function makes no step of state; besides its answer only its random number instance moves. -/
def DrawsOnly (v : State) (x : FnResult) : Prop := x.2.1 = [] ∧ x.2.2 = { v with rng := x.2.2.rng, freeCount := x.2.2.freeCount }

/-- The function makes no step of state; besides its answer only the key cache, and its random number instance, move. -/
def CachesOnly (v : State) (x : FnResult) : Prop := x.2.1 = [] ∧ x.2.2 = { v with vit := x.2.2.vit, rng := x.2.2.rng, freeCount := x.2.2.freeCount }

/-- The response is OK, or the bare status `st`. -/
def OkOr (st : Nat) (x : FnResult) : Prop := x.1.status = Status.ok ∨ x.1 = statusOnly st

/-- The response is OK or VERIFY_FAILED by the outcome of a comparison, without payload. -/
def Compared (b : Prop) (x : FnResult) : Prop := (b → x.1 = statusOnly Status.ok) ∧ (¬ b → x.1 = statusOnly Status.verifyFailed)

/-! The functions, each with its row, its code and its own checks. -/

/-- A function: its row, its code and its own checks. -/
structure FnRow where
  row : Fin 128 → Instr
  code : Nat
  check : Ctx → State → Option Resp

/-- The functions of PIN and card verification (04). -/
def pinRows : List FnRow := [
  ⟨.pinTranslate, 0x0101, checkPinTranslate⟩, ⟨.pinCalc, 0x0102, checkPinCalc⟩,
  ⟨.pinVerify, 0x0103, checkPinVerify⟩, ⟨.pinGenerate, 0x0104, checkPinGenerate⟩,
  ⟨.pinTrySet, 0x0105, checkPinTrySet⟩, ⟨.cvvGenerate, 0x0201, checkCvv⟩,
  ⟨.cvvVerify, 0x0202, checkCvv⟩]

/-- The functions of EMV, DUKPT and MACs (04, 05). -/
def payRows : List FnRow := [
  ⟨.arqcVerify, 0x0301, checkArqc⟩, ⟨.scriptMac, 0x0302, checkScriptMac⟩,
  ⟨.scriptEncrypt, 0x0303, checkScriptEncrypt⟩, ⟨.dukptPinTranslate, 0x0401, checkDukptPin⟩,
  ⟨.dukptDecrypt, 0x0402, checkDukptDecrypt⟩, ⟨.dukptMacVerify, 0x0403, checkDukptMac⟩,
  ⟨.dukptInitialKeyExport, 0x0404, checkInitialExport⟩, ⟨.dukptOriginate, 0x0405, checkOriginate⟩,
  ⟨.macGenerate, 0x0501, checkMac⟩, ⟨.macVerify, 0x0502, checkMac⟩]

/-- The functions of key blocks, data and FF1 (05). -/
def blockRows : List FnRow := [
  ⟨.keyblockImport, 0x0601, checkImport⟩, ⟨.keyblockExport, 0x0602, checkExport⟩,
  ⟨.rklExport, 0x0603, checkRkl⟩, ⟨.dataEncrypt, 0x0701, (checkData false)⟩,
  ⟨.dataDecrypt, 0x0702, (checkData true)⟩, ⟨.ff1Encrypt, 0x0703, checkFf1⟩,
  ⟨.ff1Decrypt, 0x0704, checkFf1⟩]

/-- The functions of ciphers, hashes and derivation (06). -/
def cipherRows : List FnRow := [
  ⟨.cipherEncrypt, 0x0801, checkCipher⟩, ⟨.cipherDecrypt, 0x0802, checkCipher⟩,
  ⟨.aeadSeal, 0x0803, checkAead⟩, ⟨.aeadOpen, 0x0804, checkAead⟩,
  ⟨.aeadSealChunked, 0x0805, checkSpan⟩, ⟨.aeadOpenEscrowed, 0x0806, checkSpan⟩,
  ⟨.hash, 0x0901, checkHash⟩, ⟨.hmacGenerate, 0x0902, checkHmac⟩,
  ⟨.hmacVerify, 0x0903, checkHmac⟩, ⟨.kdf, 0x0904, checkKdf⟩,
  ⟨.hashChunked, 0x0905, checkSpan⟩, ⟨.hmacChunked, 0x0906, checkSpan⟩]

/-- The functions of signatures (06). -/
def signRows : List FnRow := [
  ⟨.ecdsaSign, 0x0A01, checkSign⟩, ⟨.ecdsaVerify, 0x0A02, (checkVerify ecTypes)⟩,
  ⟨.eddsaSign, 0x0A03, checkSign⟩, ⟨.eddsaVerify, 0x0A04, (checkVerify edTypes)⟩,
  ⟨.rsaSign, 0x0A05, checkSign⟩, ⟨.rsaVerify, 0x0A06, (checkVerify rsaTypes)⟩,
  ⟨.mldsaSign, 0x0A07, checkSign⟩, ⟨.mldsaVerify, 0x0A08, (checkVerify dsaTypes)⟩]

/-- The functions of agreement, curves and random bytes (06, 11). -/
def agreeRows : List FnRow := [
  ⟨.ecdh, 0x0B01, checkAgree⟩, ⟨.ecdhEphemeral, 0x0B02, (checkEphemeral ecTypes)⟩,
  ⟨.mlkemEncaps, 0x0B03, (checkEphemeral kemTypes)⟩, ⟨.mlkemDecaps, 0x0B04, checkAgree⟩,
  ⟨.rsaOaepDecrypt, 0x0B05, checkOaep⟩, ⟨.curveLoad, 0x0B10, checkCurveLoad⟩,
  ⟨.curveQuery, 0x0B11, checkCurveQuery⟩, ⟨.randomBytes, 0x0C01, checkRandom⟩]

/-- The functions of keys (07). -/
def keyRows : List FnRow := [
  ⟨.accession, 0x0D01, checkMessage⟩, ⟨.deaccession, 0x0D02, checkDeaccession⟩,
  ⟨.keyQuery, 0x0D03, checkKeyQuery⟩, ⟨.accessionInfo, 0x0D04, (fun _ _ => none)⟩]

/-- The functions of galleries, modes, pair and counters (02, 12, 15, 18). -/
def moduleRows : List FnRow := [
  ⟨.galleryCreate, 0x0E01, createCheck⟩, ⟨(fun cell => .galleryBind ⟨cell, none⟩), 0x0E02, bindRefusal none⟩,
  ⟨.galleryUnbind, 0x0E03, unbindRefusal⟩,
  ⟨.gallerySet, 0x0E05, setRefusal⟩, ⟨.galleryRights, 0x0E06, rightsRefusal⟩,
  ⟨.galleryQuery, 0x0E07, queryRefusal⟩, ⟨.meterRead, 0x0E08, readRefusal⟩,
  ⟨.meterAck, 0x0E09, ackRefusal⟩, ⟨.modeSet, 0x0E10, modeCheck⟩,
  ⟨.ceremonyAccession, 0x0E21, checkMessage⟩, ⟨.pairSwap, 0x0E30, swapRefusal⟩,
  ⟨.pairTakeover, 0x0E31, takeoverRefusal⟩, ⟨.migrateCut, 0x0E33, cutRefusal⟩,
  ⟨.migrateEnd, 0x0E34, endRefusal⟩, ⟨.migrateAbort, 0x0E35, abortRefusal⟩,
  ⟨.loanEnd, 0x0E37, endLoanRefusal⟩, ⟨.countersRead, 0x0F01, (fun _ _ => none)⟩]

/-- The functions that are told what the module cannot see: whether another module has a window on the gallery, whether the placement they name has room. -/
def farRows : List FnRow := [false, true].flatMap (fun b =>
  [⟨(fun cell => .galleryRemove ⟨cell, b⟩), 0x0E04, removeRefusal b⟩, ⟨(.migrateBegin · b), 0x0E32, beginRefusal b⟩, ⟨(.loanCreate · b), 0x0E36, loanRefusal b⟩])

/-- Every function but LCS_TRANSITION, which besides logs what it refuses. -/
def functionRows : List FnRow := pinRows ++ payRows ++ blockRows ++ cipherRows ++ signRows ++ agreeRows ++ keyRows ++ moduleRows ++ farRows

/-! Link frames (12 R305, R306, R308). -/

/-- The frame that a row delivers: its header, and whether it belongs to a handshake. -/
def frameOf : Instr → Option (LinkHdr × Bool)
  | .hello h _ => some (h, true)
  | .keyconfirm h _ => some (h, true)
  | .idle h => some (h, false)
  | .probe h => some (h, false)
  | .echo h _ _ => some (h, false)
  | .withdraw h => some (h, false)
  | .position h _ => some (h, false)
  | .crossfeed h _ _ => some (h, false)
  | .delta h _ => some (h, false)
  | .deltaAck h _ => some (h, false)
  | .resyncData h _ => some (h, false)
  | .resyncEnd h => some (h, false)
  | .loanDelta h _ => some (h, false)
  | .loanAck h _ => some (h, false)
  | .currency h _ => some (h, false)
  | .forward h _ _ => some (h, false)
  | .forwardRsp h _ _ _ _ => some (h, false)
  | .stateData h _ => some (h, false)
  | .stateEnd h => some (h, false)
  | _ => none

/-- The frames that a module relays when they are for another: their class and content. -/
def relayOf : Instr → Option (Nat × FrameBody)
  | .loanDelta h b => some (1, .loanDelta h.gallery b)
  | .loanAck h n => some (1, .loanAck h.gallery n)
  | .currency h n => some (1, .currency h.gallery n)
  | .forward _ sid b => some (2, .forward sid b)
  | .forwardRsp _ sid q r f => some (2, .forwardRsp sid q r f)
  | .stateData _ c => some (3, .stateData c)
  | .stateEnd h => some (3, .stateEnd h.gallery)
  | _ => none

/-- The frames that only the partner sends, on the pair link. -/
def ofPair : Instr → Bool
  | .withdraw _ | .position _ _ | .crossfeed _ _ _ | .delta _ _ | .deltaAck _ _ | .resyncData _ _ | .resyncEnd _ => true
  | _ => false

/-- A port takes a frame: it is up, has keys unless the frame belongs to a handshake, the tag verifies where it has keys, and the counter is a new one. -/
def Accepts (handshake : Bool) (h : LinkHdr) (s : State) : Prop :=
  h.port < 4 ∧ (spanPort s h.port).up = true ∧ (handshake = false → (spanPort s h.port).auth = true) ∧
    ((spanPort s h.port).auth = true → h.tagOk = true) ∧ (spanPort s h.port).rxCounter < h.counter

/-- The state in which an accepted frame acts: its counter is noted, and what its error correction could not mend is counted. -/
def received (h : LinkHdr) (s : State) : State := updPort h.port (fun p => { p with
  rxCounter := h.counter, lastFrame := s.now, uncorrected := sat 0xFFFF (p.uncorrected + Config.fecFailures h.port h.counter) }) s

/-- The port's row lets it send on the span (R44). -/
def Sends (s : State) (port : Nat) : Prop := hasRight (fixedRow s (portRow port)) 9 rightUSE = true

/-- The port's row lets its frames write the stores of this module's keys (R20, R44). -/
def Brings (s : State) (port : Nat) : Prop := hasRight (fixedRow s (portRow port)) 1 rightWR = true

/-- Exactly one frame has left: `f`, in the bytes that it has on the link. -/
def SentOne (s t : State) (f : SentFrame) : Prop := ∃ w, t.pair.sent = s.pair.sent ++ [{ f with wire := w }]

/-- An accepted frame from the partner, on the pair link. -/
def FromPartner (h : LinkHdr) (s : State) : Prop := Accepts false h s ∧ paired s = true ∧ h.port = s.pair.port ∧ s.pair.linkUp = true

/-- An accepted frame for this module. -/
def ForHere (h : LinkHdr) (s : State) : Prop := Accepts false h s ∧ (h.dst = 0xFFFF ∨ h.dst = s.img.set.moduleId)

end Sys2Proof.Safety
end

