-- ==== Sys2Proof/WellFormed.lean ====
section
/-!
DEFINITION. Well-formed commands: the operands that the spec's widths and ranges leave, where their Lean type is wider. A command that is not well-formed names something no host, link, bus or pin can deliver.
-/

namespace Sys2Proof

open Sys2Proof.Machine

/-- A memory write of at least one byte, 512 at most, that stays inside `size` bytes (R56, Table 3-1). -/
def wfWrite (off : Nat) (data : Bytes) (size : Nat) : Bool := decide (1 ≤ data.length) && decide (data.length ≤ 512) && decide (off + data.length ≤ size)

/-- A memory read of at least one byte that stays inside `size` bytes. -/
def wfRead (off len size : Nat) : Bool := decide (1 ≤ len) && decide (off + len ≤ size)

/-- Bytes of a function's BAR0: 1 MiB on the PF, 256 KiB on a VF (Table 3-1). -/
def barBytes (fn : Fin 1025) : Nat := if fn.val = 0 then 2 ^ 20 else 2 ^ 18

/-- A function has this MSI-X vector: 256 on the PF, 4 on a VF (Table 3-1). -/
def wfVector (fn : Fin 1025) (v : Fin 256) : Bool := decide (fn.val = 0) || decide (v.val < 4)

/-- The eight context words of an engine, where they are written. -/
def wfContext : Option (List W64) → Bool
  | none => true
  | some l => l.length == 8

/-- A cell's stores lie in its wing's 2 MiB of memory, below the 256 KiB of operand memory (Table 1-7, R229). -/
def wfStores (l : List (Nat × Bytes)) : Bool := l.all (fun p => decide (p.1 + p.2.length ≤ 1792 * 1024))

/-- Pages of the operand space: 8,192 of 64 KiB (R235). -/
def wfPages (l : List Nat) : Bool := l.all (fun p => decide (p < 8192))

/-- The header fields of a link frame fit their widths, and its port is one of four (Table 12-4). -/
def wfHdr (h : LinkHdr) : Bool :=
  decide (h.port < 4) && decide (h.counter < 2 ^ 64) && decide (h.src < 2 ^ 12) && decide (h.dst < 2 ^ 16) && decide (h.hops < 4096) &&
  decide (h.gallery < 2 ^ 20) && decide (h.ref < 2 ^ 64)

/-- A stream identity fits its fields (R89). -/
def wfSid (x : StreamId) : Bool := decide (x.gallery < 2 ^ 20) && decide (x.place < 2 ^ 12) && decide (x.fn ≤ 1024) && decide (x.stream < 16)

/-- A sequence number: 48 bits (R83). -/
def wfSeq (n : Nat) : Bool := decide (n < 2 ^ 48)

/-- A command frame: a header, and at most 65,536 bytes of payload (R83, R67). -/
def wfFrame (f : Bytes) : Bool := decide (32 ≤ f.length) && decide (f.length ≤ 65568)

/-- The content of a FORWARD frame: a base or a frame that fits its field, an answer with a 16-bit status. -/
def wfForwarded (b : Forwarded) : Bool :=
  match b with
  | .opens base _ => wfSeq base
  | .command f a => wfFrame f && (a.map (fun x => decide (x.status < 2 ^ 16))).getD true
  | .closes => true

/-- A response: STATUS of 16 bits, flags of 8, at most 65,536 bytes of payload (R87). -/
def wfResp (r : Resp) : Bool := decide (r.status < 2 ^ 16) && decide (r.fnFlags < 256) && decide (r.payload.length ≤ 65536)

/-- The content of a HELLO fits its fields: a module ID, a 128-bit serial, 97-byte public keys, a 48-byte digest (R305). -/
def wfHello (h : Hello) : Bool :=
  decide (h.moduleId < 2 ^ 12) && decide (h.serial < 2 ^ 128) && h.identity.length == 97 && h.ephemeral.length == 97 && h.pairDigest.length == 48

/-- What a POSITION frame carries names a stream and a number, or a stream and an epoch (R72, R288). -/
def wfPosition : Position → Bool
  | .notice sid q digest => wfSid sid && wfSeq q && decide (digest < 2 ^ 64)
  | .ack sid q => wfSid sid && wfSeq q
  | .verdict sid q _ => wfSid sid && wfSeq q
  | .hostAck sid q => wfSid sid && wfSeq q
  | .seals sid epoch _ => wfSid sid && decide (epoch < 2 ^ 32)
  | .loansDone sid q => wfSid sid && wfSeq q

/-- The buses to the Curator: SMBus and I3C 0, PCIe VDM 1, the mailbox 2, PCIe DOE 3 (R408, R415). -/
def wfBus (bus : Nat) : Bool := decide (bus ≤ 3)

/-- The unit an error is attributed to: a cell, a cipher engine, a hash unit or a PK unit (R322). -/
def wfUnit (u : Nat) : Bool := decide (u < 176)

/-- An error code is one byte (Table 13-2). -/
def wfCode (c : Nat) : Bool := decide (c < 256)

/-- A reading of `w` bits, signed. -/
def wfReading (w : Nat) (v : Int) : Bool := decide (-(2 ^ (w - 1) : Int) ≤ v) && decide (v < (2 ^ (w - 1) : Int))

/-- A module, a gallery and a Vitrine slot fit their widths. -/
def wfRecord (gallery slot : Nat) : Bool := decide (gallery < 2 ^ 20) && decide (slot < 2 ^ 24)

/-- What START finds: lanes of four ports of four, wings of sixteen, temperature sites of twenty-four (Tables 15-1, 17-1). -/
def wfStart (e : StartEnv) : Bool :=
  e.badLanes.all (fun l => decide (l < 16)) && e.failLanes.all (fun l => decide (l < 16)) && e.badWings.all (fun w => decide (w < 16)) && e.badRecords.all (fun r => wfRecord r.1 r.2) && decide (e.sites ≤ 24)

/-- Every operand of the command is one that can occur. -/
def Instr.wellFormed : Instr → Bool
  | .barWrite fn off data _ => wfWrite off data (barBytes fn)
  | .submitSlotWrite _ _ _ off data _ => wfWrite off data 512
  | .largeFramePortWrite _ _ off data _ => wfWrite off data 2048
  | .responseAreaRead _ _ port off len => wfRead off len (if port then 2048 else 4096)
  | .msixTableWrite fn v _ _ => wfVector fn v
  | .start _ env => wfStart env
  | .operationIdleTimeOut gallery op => decide (gallery < 2 ^ 20) && decide (op < 2 ^ 64)
  | .cenOp _ _ ctx stores => wfContext ctx && wfStores stores
  | .hsuOp _ _ ctx stores => wfContext ctx && wfStores stores
  | .pkuDmaIn _ _ stores pages => wfStores stores && wfPages pages
  | .pkuDmaOut _ _ pages => wfPages pages
  | .spanLinkUp _ lanes => lanes == 1 || lanes == 2 || lanes == 4
  | .hello h b => wfHdr h && wfHello b
  | .keyconfirm h sig => wfHdr h && sig.length == 96
  | .idle h => wfHdr h
  | .probe h => wfHdr h
  | .echo h _ _ => wfHdr h
  | .withdraw h => wfHdr h
  | .position h p => wfHdr h && wfPosition p
  | .crossfeed h sid f => wfHdr h && wfSid sid && wfFrame f
  | .delta h d => wfHdr h && decide (d.number < 2 ^ 64)
  | .deltaAck h n => wfHdr h && decide (n < 2 ^ 64)
  | .loanDelta h d => wfHdr h && decide (d.number < 2 ^ 64)
  | .loanAck h n => wfHdr h && decide (n < 2 ^ 64)
  | .currency h n => wfHdr h && decide (n < 2 ^ 64)
  | .loanCurrencyTimeout g => decide (g < 2 ^ 20)
  | .forward h sid b => wfHdr h && wfSid sid && wfForwarded b
  | .forwardRsp h sid q r _ => wfHdr h && wfSid sid && wfSeq q && wfResp r
  | .resyncData h _ => wfHdr h
  | .resyncEnd h => wfHdr h
  | .stateData h _ => wfHdr h
  | .stateEnd h => wfHdr h
  | .commandError code _ unit => wfCode code && wfUnit unit
  | .wingError code _ => wfCode code
  | .moduleError code => wfCode code
  | .fatalError code => wfCode code
  | .vitrineLineFail _ g slot => wfRecord g slot
  | .tempSample v => wfReading 16 v
  | .thermalEstimate v _ => wfReading 12 v
  | .sensorSample l => l.all (fun p => decide (p.1 < 50) && wfReading 16 p.2.value)
  | .setEndpointId b _ => wfBus b
  | .getEndpointId b => wfBus b
  | .getMctpVersionSupport b _ => wfBus b
  | .getMessageTypeSupport b => wfBus b
  | .getVendorDefinedMessageSupport b _ => wfBus b
  | .getTid b => wfBus b
  | .getPldmTypes b => wfBus b
  | .getPldmCommands b _ => wfBus b
  | .getPldmVersion b _ => wfBus b
  | .getSensorReading b _ => wfBus b
  | .getStateSensorReadings b _ => wfBus b
  | .getPdr b _ => wfBus b
  | .getPdrRepositoryInfo b => wfBus b
  | .setEventReceiver b _ _ => wfBus b
  | .requestUpdate b => wfBus b
  | .passComponentTable b _ => wfBus b
  | .updateComponent b _ => wfBus b
  | .requestFirmwareData b _ _ => wfBus b
  | .transferComplete b _ => wfBus b
  | .activateFirmware b => wfBus b
  | .cancelUpdate b => wfBus b
  | .getVersion b => wfBus b
  | .getCapabilities b => wfBus b
  | .negotiateAlgorithms b _ _ => wfBus b
  | .getDigests b => wfBus b
  | .getCertificate b _ _ _ => wfBus b
  | .challenge b _ _ => wfBus b
  | .getMeasurements b _ _ _ => wfBus b
  | .inventory b => wfBus b
  | .logRead b _ _ => wfBus b
  | .tamperRecord b => wfBus b
  | .lcsTransitionMessage b _ _ t => wfBus b && t.length == 32
  | .debugChallenge b => wfBus b
  | .debugResponse b k sig => wfBus b && k.length == 97 && sig.length == 96
  | .conservatorRun b => wfBus b
  | .rawSamples b _ _ _ => wfBus b
  | .instructionSample _ off slot other => decide (off < 2 ^ 32) && decide (slot < 2) && decide (other < 4)
  | .commit _ _ _ | .largeCommit _ _ _ | .slotCopyDone _ _ _ | .largeFrameCopyDone _ _ | .streamEnable _ _ _ | .streamDisable _ _ _
  | .streamDrained _ _ | .winRespAck _ _ _ | .winEventMaskWrite _ _ | .winMevMaskWrite _ _ | .pcieConfigWrite _ _ _ _ | .holdoffExpiry _
  | .functionLevelReset _ | .functionLevelResetDone _ | .perstAssert _ | .perstDeassert | .pwronResetAssert _ | .pwronResetDeassert | .pcieLinkDown
  | .docTake _ | .takeTimeout _ | .docDoneComplete _ _ | .docDonePark _ _ _ _ | .docDoneRetry _ _ | .parkSignal _ _ | .responseRelease _
  | .responsePublish _ _ | .tickBoundary | .modeAndQuotaChanges | .tokenRefill | .gapTimeOut _ | .deadline _ | .unbindDrainTimeOut _
  | .unbindComplete _ | .tickUsWrite _ | .histClear | .pinTranslate _ | .pinCalc _ | .pinVerify _ | .pinGenerate _ | .pinTrySet _ | .cvvGenerate _
  | .cvvVerify _ | .arqcVerify _ | .scriptMac _ | .scriptEncrypt _ | .dukptPinTranslate _ | .dukptDecrypt _ | .dukptMacVerify _
  | .dukptInitialKeyExport _ | .dukptOriginate _ | .macGenerate _ | .macVerify _ | .keyblockImport _ | .keyblockExport _ | .rklExport _
  | .dataEncrypt _ | .dataDecrypt _ | .ff1Encrypt _ | .ff1Decrypt _ | .cipherEncrypt _ | .cipherDecrypt _ | .aeadSeal _ | .aeadOpen _
  | .aeadSealChunked _ | .aeadOpenEscrowed _ | .hash _ | .hmacGenerate _ | .hmacVerify _ | .kdf _ | .hashChunked _ | .hmacChunked _ | .ecdsaSign _
  | .ecdsaVerify _ | .eddsaSign _ | .eddsaVerify _ | .rsaSign _ | .rsaVerify _ | .mldsaSign _ | .mldsaVerify _ | .ecdh _ | .ecdhEphemeral _
  | .mlkemEncaps _ | .mlkemDecaps _ | .rsaOaepDecrypt _ | .curveLoad _ | .curveQuery _ | .randomBytes _ | .accession _ | .deaccession _ | .keyQuery _
  | .accessionInfo _ | .galleryCreate _ | .galleryBind _ | .galleryUnbind _ | .galleryRemove _ | .gallerySet _ | .galleryRights _ | .galleryQuery _
  | .meterRead _ | .meterAck _ | .modeSet _ | .ceremonyAccession _ | .pairSwap _ | .pairTakeover _ | .migrateBegin _ _ | .migrateCut _
  | .migrateEnd _ | .migrateAbort _ | .loanCreate _ _ | .loanEnd _ | .lcsTransition _ | .countersRead _ | .cenClaim _ | .cenGrantRead _
  | .cenRelease _ | .cenKeyload _ _ _ | .cenKeyloadStep _ _ _ | .cenOpDone _ | .cenStatusRead _ | .cenNonceRead _ | .hsuClaim _ | .hsuGrantRead _
  | .hsuRelease _ | .hsuKeyload _ _ _ _ | .hsuStatusRead _ | .engineClearDone _ _ _ | .engineHoldOverrun _ _ | .engineFaultAlarm _ _ _
  | .engineSelfCheckDone _ _ _ | .maskSeedChange _ | .seedRefillDone _ | .pkuClaim _ | .pkuGrantRead _ | .pkuRelease _ | .pkuAbandon _
  | .pkuCfgWrite _ _ _ | .mac _ _ | .macShift _ _ | .loadAcc _ _ | .storeAcc _ _ | .pkuDmaDone _ | .pkuStatusRead _ | .pkuWipeDone _ _
  | .pkuHoldOverrun _ | .pkuFaultAlarm _ | .pkuSelfCheckDone _ _ | .entropyBlock _ _ | .healthTestFail _ _ | .sourceStartUpDone _ | .drbgReseedDone _
  | .drbgInstantiateDone _ | .meterMark | .spanLinkDown _ | .idleDue | .hopMeasurementDue _ | .withdrawSend | .crossfeedTimeout _ | .currencyDue
  | .loanAckTimeout _ | .forwardRetry _ | .resyncComplete | .rehandshakeDue _ | .pairLinkSilence | .heartbeatToggle | .heartbeatEdge
  | .heartbeatSilent | .dualActWindowClose | .pairStartTimeout | .wingRestorationDone _ _ | .cellWatchdog _ | .containedHaltTimeout | .eccCorrected _
  | .curatorRestart _ | .loopDriveStep | .loopCompare _ | .loopEdgeMismatch _ | .tamperCollectionEnd | .supplyComparator _ _ | .xtalFault _
  | .railGlitch _ | .clockGlitch _ | .inputSample _ | .keySwitchTimeout _ | .lockoutEnd | .transitionBurnDone | .mainPowerFail _ | .powerFailWarning
  | .vauxLoss | .vauxRestore | .alwaysOnPowerUp _ _ | .avsbusAck | .avsbusTimeout | .wingClockSwitch _ | .quiesceDrainTimeout | .quiesceComplete
  | .thermalReturn | .wingPlacement | .wingWakeRequest | .wingWakeDone _ | .logCheckpoint | .mailboxSubmit _ | .mailboxAck | .updateAgentTimeout
  | .antiRollbackBurn | .conservatorRunDone _ _ | .counterSnap _ _ | .counterClear _ | .samplingEnable _ | .traceEnable _ | .hotReset | .pcieLinkUp
  | .gddr6RailLoss | .vbatLoss | .powerFailWarningClear | .mctpTransportTimeout | .meterArchiveCopy | .utcOffsetSet _ | .docentCopyRepair => true

end Sys2Proof
end

