-- ==== Sys2Proof/Certificates/Slice0/Obligations.lean ====
section
/-! DEFINITION. The statements for the provers. -/

open Sys2Proof Sys2Proof.Machine Sys2Proof.Safety

/-! The machine as a whole. -/

/-- A step takes the command at the front of the queue and runs it on the queue's rest; with none waiting the block idles: only the model's clock advances (the idle step is the model's choice, log 1). -/
def Obligations.StepRunsTheFrontCommand : Prop :=
  (∀ (c : Instr) (rest : List Instr) (s : State), s.pending = c :: rest → step s = exec c { s with pending := rest }) ∧
  (∀ s : State, s.pending = [] → step s = .next { s with now := s.now + 1 })

/-- Every command completes: whatever the state, it answers a next state, in which the queue is as it was. So no command puts another into the queue, and none is lost: a step leaves the queue's rest. -/
def Obligations.StepTakesOneCommand : Prop :=
  (∀ (c : Instr) (s : State), ∃ t, exec c s = .next t ∧ t.pending = s.pending) ∧
  (∀ s : State, ∃ t, step s = .next t ∧ t.pending = s.pending.tail)

/-- Fuses only burn: no step takes back a transition record, an epoch fuse or an anti-rollback pair, and none goes beyond what the silicon has (17 R413, 08 R222, 14 R349). -/
def Obligations.FusesOnlyBurn : Prop :=
  ∀ s t : State, FuseBudget s.fuses → step s = .next t → FusesGrow s.fuses t.fuses ∧ FuseBudget t.fuses

/-- The invariant behind the erasure at a tamper response: while the latch is set BBRAM holds no module root, and no START goes past step 2 (14 R340, R342). -/
def Obligations.LatchKeepsTheRootErased : Prop :=
  ∀ s t : State, LatchSafe s → step s = .next t → LatchSafe t

/-- The byte memories keep their canonical form. -/
def Obligations.MemoriesStayCanonical : Prop :=
  ∀ s t : State, MemoriesWf s → step s = .next t → MemoriesWf t

/-- Right after reset: the invariants hold, the queue is empty, the mode is START with PERST_N asserted and no step run (15 R360), every stream is inactive, every mask 0 (03 R9). -/
def Obligations.ResetIsSafe : Prop :=
  FuseBudget State.reset.fuses ∧ LatchSafe State.reset ∧ MemoriesWf State.reset ∧ State.reset.pending = [] ∧
  State.reset.pow.mode = .start ∧ State.reset.pow.perstAsserted = true ∧ State.reset.pow.startStep = 0 ∧
  (∀ fn i, (strm State.reset fn i).active = false ∧ (strm State.reset fn i).enable = false) ∧ (∀ fn, (win State.reset fn).mask = 0 ∧ (win State.reset fn).cause = 0)

/-! Endpoint and windows. -/

/-- Writes into the submit area (03 R58, R65, R67, R68): an accepted write into a slot that is not being copied stores its bytes, one into the large-frame port stores them at frame byte 8 x WORD + offset; a slot being copied keeps its bytes and SLOT_BUSY is set, a port being copied keeps its and LF_ERR is set. No other stream, no other byte and nothing outside the endpoint changes. A read of the response area is completed from the current contents and has no other effect; where RD on target 10 is missing it is masked: zeros, and READ_MASKED (03 R58, R62, R70). -/
def Obligations.SubmitAreaWrites : Prop :=
  ((∀ (fn : Fin 1025) (stream : Fin 16) (slot : Fin 8) (off : Nat) (data : Bytes) (s : State),
    acceptedWrite off data.length = true → off + data.length ≤ 512 → (strm s fn stream).busy.contains slot.val = false →
    ∃ t, exec (.submitSlotWrite fn stream slot off data false) s = .next t ∧ t = { s with fab := t.fab } ∧
      strm t fn stream = { strm s fn stream with submit := memWriteBytes 0 (strm s fn stream).submit (512 * slot.val + off) data } ∧
      (∀ a, a < 512 * slot.val + off ∨ 512 * slot.val + off + data.length ≤ a →
        memRead 0 (strm t fn stream).submit a = memRead 0 (strm s fn stream).submit a) ∧
      (∀ k j, ¬(k = fn.val ∧ j = stream.val) → strm t k j = strm s k j)) ∧
  (∀ (fn : Fin 1025) (stream : Fin 16) (slot : Fin 8) (off : Nat) (data : Bytes) (s : State),
    acceptedWrite off data.length = true → off + data.length ≤ 512 → (strm s fn stream).busy.contains slot.val = true →
    ∃ t, exec (.submitSlotWrite fn stream slot off data false) s = .next t ∧ t = { s with fab := t.fab } ∧
      (win t fn).fault = (win s fn).fault ||| 2#64 ∧ (∀ k j, strm t k j = strm s k j)) ∧
  (∀ (fn : Fin 1025) (stream : Fin 16) (off : Nat) (data : Bytes) (s : State),
    acceptedWrite off data.length = true → off + data.length ≤ 2048 → (strm s fn stream).lfsCopy = none →
    8 * (strm s fn stream).lfsPos + off + data.length ≤ 65568 →
    ∃ t, exec (.largeFramePortWrite fn stream off data false) s = .next t ∧ t = { s with fab := t.fab } ∧
      strm t fn stream = { strm s fn stream with large := memWriteBytes 0 (strm s fn stream).large (8 * (strm s fn stream).lfsPos + off) data } ∧
      (∀ k j, ¬(k = fn.val ∧ j = stream.val) → strm t k j = strm s k j)) ∧
  (∀ (fn : Fin 1025) (stream : Fin 16) (off : Nat) (data : Bytes) (s : State),
    acceptedWrite off data.length = true → off + data.length ≤ 2048 → (strm s fn stream).lfsCopy.isSome = true →
    ∃ t, exec (.largeFramePortWrite fn stream off data false) s = .next t ∧ t = { s with fab := t.fab } ∧
      strm t fn stream = { strm s fn stream with lfErr := true } ∧ flag (win t fn).cause (32 + stream.val) = true ∧
      (∀ k j, ¬(k = fn.val ∧ j = stream.val) → strm t k j = strm s k j))) ∧
  (∀ (fn : Fin 1025) (stream : Fin 16) (port : Bool) (off len : Nat) (s : State),
    off % 4 = 0 → 4 ≤ len → len ≤ 512 → off + len ≤ (if port then 2048 else 4096) →
    (windowHas s fn rightRD = true →
      exec (.responseAreaRead fn stream port off len) s = .next { s with fab := { s.fab with lastRead := responseBytes (strm s fn stream) port off len } }) ∧
    (windowHas s fn rightRD = false →
      ∃ t, exec (.responseAreaRead fn stream port off len) s = .next t ∧ t = { s with fab := t.fab } ∧ t.fab.lastRead = zeros len ∧
        (win t fn).fault = (win s fn).fault ||| 8#64 ∧ (∀ k j, strm t k j = strm s k j)))

/-- A write the BAR does not accept is discarded as a whole and sets PARTIAL_WRITE, whichever row carries it; one that is poisoned counts an AER non-fatal error besides (03 R58). BAR_WRITE (03 R58, R59, Tables 3-1, 3-3): an accepted write is carried out where its offset lies: in a submit slot or a large-frame submit port as the write of that slot or port, above them word by word in rising order of address; a write outside the BAR is no write to a register and changes nothing (the model's choice, log 141). -/
def Obligations.BarWrites : Prop :=
  (∀ (fn : Fin 1025) (stream : Fin 16) (slot : Fin 8) (off : Nat) (data : Bytes) (poisoned : Bool) (s : State),
    (poisoned || !acceptedWrite off data.length) = true →
    ∃ t, exec (.submitSlotWrite fn stream slot off data poisoned) s = .next t ∧ exec (.largeFramePortWrite fn stream off data poisoned) s = .next t ∧
      (off + data.length ≤ barSize fn → exec (.barWrite fn off data poisoned) s = .next t) ∧
      t = { s with fab := t.fab } ∧ (win t fn).fault = (win s fn).fault ||| 1#64 ∧ (∀ k j, strm t k j = strm s k j) ∧
      (∀ k, k ≠ fn.val → win t k = win s k) ∧ t.fab.aerNonFatal = s.fab.aerNonFatal + (if poisoned then 1 else 0)) ∧
  ((∀ (fn : Fin 1025) (stream : Fin 16) (slot : Fin 8) (off : Nat) (data : Bytes) (s : State), acceptedWrite off data.length = true → off + data.length ≤ 512 →
    exec (.barWrite fn (0x10000 + 0x1000 * stream.val + 0x200 * slot.val + off) data false) s = exec (.submitSlotWrite fn stream slot off data false) s) ∧
  (∀ (fn : Fin 1025) (stream : Fin 16) (off : Nat) (data : Bytes) (s : State), acceptedWrite off data.length = true → off + data.length ≤ 2048 →
    exec (.barWrite fn (0x30000 + 0x1000 * stream.val + off) data false) s = exec (.largeFramePortWrite fn stream off data false) s) ∧
  (∀ (fn : Fin 1025) (off n : Nat) (data : Bytes) (s : State), off + data.length ≤ barSize fn → acceptedWrite off data.length = true →
    data.length = 8 * n → (off < 0x10000 ∨ 0x40000 ≤ off) →
    exec (.barWrite fn off data false) s = .next ((List.range n).foldl (fun s k => writeWord fn (off + 8 * k) (BitVec.ofNat 64 (ofLE ((data.drop (8 * k)).take 8))) s) s)) ∧
  (∀ (fn : Fin 1025) (off : Nat) (data : Bytes) (poisoned : Bool) (s : State), barSize fn < off + data.length →
    exec (.barWrite fn off data poisoned) s = .next s))

/-- A row that names one register is the 8-byte write of that register (03 Tables 3-2 to 3-5, R59): for the window's and its streams' registers, the event mask, TICK_US and the histogram's clear, the same step as BAR_WRITE at the register's offset. TICK_US and the wait histogram (10 R259, R266, Tables 10-8, 10-10; 02 R41, R44): a value of 1 to 100 waits for the next boundary, any other is ignored; the clear empties every bin; without WR on target 8 neither write has an effect (log 41). -/
def Obligations.RegisterRowsAreBarWrites : Prop :=
  (∀ (fn : Fin 1025) (stream : Fin 16) (v : W64) (s : State),
    let w := fun (o : Nat) => exec (.barWrite fn o (leBytes 8 v.toNat) false) s
    let pf := fun (o : Nat) => exec (.barWrite 0 o (leBytes 8 v.toNat) false) s
    w (0x400 + 0x80 * stream.val) = (if flag v 0 then exec (.streamEnable fn stream (flag v 1)) s else exec (.streamDisable fn stream (flag v 1)) s) ∧
    w (0x418 + 0x80 * stream.val) = (if flag v 8 then exec (.largeCommit fn stream (slotNo (field v 2 0))) s else exec (.commit fn stream (slotNo (field v 2 0))) s) ∧
    w (0x420 + 0x80 * stream.val) = exec (.winRespAck fn stream v) s ∧
    w 0x1008 = exec (.winEventMaskWrite fn v) s ∧
    (∀ k : Fin 4, pf (0x40020 + 8 * k.val) = exec (.winMevMaskWrite k v) s) ∧
    pf 0x60000 = exec (.tickUsWrite v) s ∧
    (flag v 0 = true → pf 0x60010 = exec .histClear s ∧ pf 0x71000 = exec (.counterSnap (flag v 1) (flag v 2)) s ∧
      pf 0x71008 = exec (.samplingEnable v) s ∧ pf 0x71018 = exec (.traceEnable v) s) ∧
    (flag v 0 = false → flag v 2 = true → pf 0x71000 = exec (.counterClear (flag v 1)) s) ∧
    (flag v 30 = false → flag v 13 = true → pf 0x90008 = exec (.mailboxSubmit (indexOf 8192 (by decide) (field v 12 0))) s)) ∧
  (∀ (value : W64) (s : State),
    (hasRight (windowRow s 0) 8 rightWR = true → 1 ≤ field value 6 0 → field value 6 0 ≤ 100 →
      exec (.tickUsWrite value) s = .next { s with doc := { s.doc with tickPending := some (field value 6 0) } }) ∧
    ((field value 6 0 = 0 ∨ 100 < field value 6 0) → exec (.tickUsWrite value) s = .next s) ∧
    (hasRight (windowRow s 0) 8 rightWR = true → exec .histClear s = .next { s with doc := { s.doc with hist := [], histClearedAt := moduleTime s % 2 ^ 32 } }) ∧
    (hasRight (windowRow s 0) 8 rightWR = false → exec (.tickUsWrite value) s = .next s ∧ exec .histClear s = .next s))

/-- Commits (03 R65, R66, R68): a commit that the stream takes copies the slot, holds it, and places the frame that the slot's bytes make; a LARGE commit holds the slot and LFS_BUSY, places the frame that the port's bytes make, and clears the port; any other is discarded with COMMIT_ERR. The copy's end frees the slot; the end of a large frame's copy frees its slot and LFS_BUSY, and returns WIN_LFS_POS to 0. -/
def Obligations.CommitsOfSlots : Prop :=
  (∀ (fn : Fin 1025) (stream : Fin 16) (slot : Fin 8) (s : State), takesCommit s (strm s fn stream) slot = true →
    exec (.commit fn stream slot) s = .next (offerWork (deliverFrame fn stream
      { frame := frameIn (memReadBytes 0 (strm s fn stream).submit (512 * slot.val) 512), large := false, commitAt := s.now, admitAt := s.now }
      (updStrm fn stream (fun st => { st with busy := st.busy ++ [slot.val] }) s)))) ∧
  (∀ (fn : Fin 1025) (stream : Fin 16) (slot : Fin 8) (s : State), takesCommit s (strm s fn stream) slot = true → (strm s fn stream).lfsCopy = none →
    let head := memReadBytes 0 (strm s fn stream).large 0 32
    exec (.largeCommit fn stream slot) s = .next (offerWork (deliverFrame fn stream
      { frame := memReadBytes 0 (strm s fn stream).large 0 (32 + min 65536 (hdrLength head)), large := true, commitAt := s.now, admitAt := s.now }
      (updStrm fn stream (fun st => { st with busy := st.busy ++ [slot.val], lfsCopy := some (slot.val, hdrSeq head), large := [] }) s)))) ∧
  (∀ (fn : Fin 1025) (stream : Fin 16) (slot : Fin 8) (s : State), takesCommit s (strm s fn stream) slot = false →
    ∃ t, exec (.commit fn stream slot) s = .next t ∧ exec (.largeCommit fn stream slot) s = .next t ∧ t = { s with fab := t.fab } ∧
      strm t fn stream = { strm s fn stream with commitErr := true } ∧ flag (win t fn).cause (32 + stream.val) = true) ∧
  (∀ (fn : Fin 1025) (stream : Fin 16) (slot : Fin 8) (s : State), (strm s fn stream).lfsCopy.map (·.1) ≠ some slot.val →
    ∃ t, exec (.slotCopyDone fn stream slot) s = .next t ∧ t = { s with fab := t.fab } ∧ slot.val ∉ (strm t fn stream).busy ∧
      (∀ k j, ¬(k = fn.val ∧ j = stream.val) → strm t k j = strm s k j)) ∧
  (∀ (fn : Fin 1025) (stream : Fin 16) (k q : Nat) (s : State), (strm s fn stream).lfsCopy = some (k, q) →
    ∃ u, exec (.largeFrameCopyDone fn stream) s = .next (offerWork u) ∧ u = { s with fab := u.fab } ∧
      strm u fn stream = { strm s fn stream with lfsCopy := none, lfsPos := 0, busy := (strm s fn stream).busy.filter (· != k) } ∧
      (∀ k j, ¬(k = fn.val ∧ j = stream.val) → strm u k j = strm s k j))

/-- Streams (03 R63, R64, R71): an enable that is not refused gives the stream a flow at its base; a refused one sets ENABLE_REFUSED; the home of a gallery homed elsewhere is asked first (log 154); a disable stops admission and leaves the flow; the drained stream's flow is freed; an acknowledgement frees the slot and the descriptor of the response it names, or sets ACK_ERR. -/
def Obligations.StreamCommands : Prop :=
  (∀ (fn : Fin 1025) (stream : Fin 16) (g fi : Nat) (s : State), (strm s fn stream).active = false → (strm s fn stream).opening = false →
    enableRefused (updStrm fn stream (fun st => { st with sealed := false }) s) fn stream false = false →
    (win s fn).gallery = some g → (gal s g).isSome = true → asksHome s g = false → lowestFree s.doc.flows 65536 = some fi →
    ∃ t, exec (.streamEnable fn stream false) s = .next t ∧ (strm t fn stream).active = true ∧ (strm t fn stream).enable = true ∧
      (strm t fn stream).flow = some fi ∧ (strm t fn stream).next = (strm s fn stream).base ∧ (strm t fn stream).sealed = false ∧
      (mget t.doc.flows fi).map (fun f => (f.sid, f.next, f.rel)) = some (sidOf s g fn stream, (strm s fn stream).base, (strm s fn stream).base)) ∧
  (∀ (fn : Fin 1025) (stream : Fin 16) (g fi : Nat) (r : VRecord) (s : State), (strm s fn stream).active = false → (strm s fn stream).opening = false → s.pow.failWarning = false →
    enableRefused (updStrm fn stream (fun st => { st with sealed := true }) s) fn stream true = false →
    (win s fn).gallery = some g → (gal s g).isSome = true → asksHome s g = false → lowestFree s.doc.flows 65536 = some fi → sealRecord s g (strm s fn stream).sealHandle = some r →
    ∃ t, exec (.streamEnable fn stream true) s = .next t ∧ (strm t fn stream).active = true ∧ (strm t fn stream).enable = true ∧
      (strm t fn stream).flow = some fi ∧ (strm t fn stream).sealed = true ∧ (strm t fn stream).sealGen = r.generation ∧
      (strm t fn stream).sealKeys = some (sealKeysOf r.material g stream (strm t fn stream).sealEpoch)) ∧
  (∀ (fn : Fin 1025) (stream : Fin 16) (sealed : Bool) (s : State), (strm s fn stream).active = false → (strm s fn stream).opening = false →
    enableRefused (updStrm fn stream (fun st => { st with sealed := sealed }) s) fn stream sealed = true →
    ∃ t, exec (.streamEnable fn stream sealed) s = .next t ∧ t = { s with fab := t.fab } ∧ (strm t fn stream).enable = false ∧
      (strm t fn stream).active = false ∧ (strm t fn stream).enableRefused = true ∧ flag (win t fn).cause (32 + stream.val) = true) ∧
  (∀ (fn : Fin 1025) (stream : Fin 16) (g : Nat) (sealed : Bool) (s : State), (strm s fn stream).active = false → (strm s fn stream).opening = false →
    enableRefused (updStrm fn stream (fun st => { st with sealed := sealed }) s) fn stream sealed = false → (win s fn).gallery = some g → asksHome s g = true →
    ∃ u, exec (.streamEnable fn stream sealed) s = .next (tellStream (sidOf s g fn stream) (.opens (strm s fn stream).base (sealOf s fn stream sealed)) u) ∧
      u = { s with fab := u.fab } ∧ strm u fn stream = { strm s fn stream with enable := true, opening := true, sealed := sealed }) ∧
  (∀ (fn : Fin 1025) (stream : Fin 16) (sealed : Bool) (s : State),
    ∃ t, exec (.streamDisable fn stream sealed) s = .next t ∧ t = { s with fab := t.fab } ∧
      strm t fn stream = { strm s fn stream with enable := false, opening := false, sealed := if (strm s fn stream).active then (strm s fn stream).sealed else sealed } ∧
      (∀ k j, ¬(k = fn.val ∧ j = stream.val) → strm t k j = strm s k j)) ∧
  (∀ (fn : Fin 1025) (stream : Fin 16) (fi : Nat) (s : State), (strm s fn stream).flow = some fi → (strm s fn stream).active = true →
    (strm s fn stream).enable = false → (strm s fn stream).lfsCopy = none → flowEmpty s fi = true →
    ∃ t, exec (.streamDrained fn stream) s = .next t ∧ (strm t fn stream).active = false ∧ (strm t fn stream).flow = none ∧
      (strm t fn stream).sealKeys = none ∧ t.doc = { s.doc with flows := mdel s.doc.flows fi }) ∧
  (∀ (fn : Fin 1025) (stream : Fin 16) (value : W64) (k : Nat) (p : Published) (s : State),
    (strm s fn stream).resp.find? (fun p => p.2.seq == field value 47 0) = some (k, p) →
    ∃ u, exec (.winRespAck fn stream value) s = .next (offerWork (signalPages u)) ∧ (strm u fn stream).resp = mdel (strm s fn stream).resp k ∧
      (strm u fn stream).respStall = false ∧ u.doc.descs = mdel s.doc.descs p.ticket ∧ (∀ n, n ≠ p.ticket → desc u n = desc s n)) ∧
  (∀ (fn : Fin 1025) (stream : Fin 16) (value : W64) (s : State), (strm s fn stream).resp.find? (fun p => p.2.seq == field value 47 0) = none →
    ∃ t, exec (.winRespAck fn stream value) s = .next t ∧ t = { s with fab := t.fab } ∧ strm t fn stream = { strm s fn stream with ackErr := true } ∧
      flag (win t fn).cause (32 + stream.val) = true)

/-- After a write of 0 to ENABLE (03 R64): admission stops at once, and every commit and large commit is discarded with COMMIT_ERR; ACTIVE stays 1 while a command of the flow has not been released and acknowledged; then it becomes 0 and the flow counts against the quota no longer. -/
def Obligations.AdmissionAfterDisable : Prop :=
  (∀ (fn : Fin 1025) (stream : Fin 16) (sealed : Bool) (s : State),
    ∃ t, exec (.streamDisable fn stream sealed) s = .next t ∧ (strm t fn stream).enable = false ∧ (strm t fn stream).active = (strm s fn stream).active ∧
      ∀ slot : Fin 8, ∃ u, exec (.commit fn stream slot) t = .next u ∧ exec (.largeCommit fn stream slot) t = .next u ∧ u = { t with fab := u.fab } ∧
        strm u fn stream = { strm t fn stream with commitErr := true }) ∧
  (∀ (fn : Fin 1025) (stream : Fin 16) (fi : Nat) (s : State), (strm s fn stream).flow = some fi → flowEmpty s fi = false →
    exec (.streamDrained fn stream) s = .next s) ∧
  (∀ (fn : Fin 1025) (stream : Fin 16) (fi g : Nat) (s : State), (strm s fn stream).flow = some fi → (strm s fn stream).active = true →
    (strm s fn stream).enable = false → (strm s fn stream).lfsCopy = none → flowEmpty s fi = true → (s.doc.flows.map (·.1)).Nodup →
    ∃ t, exec (.streamDrained fn stream) s = .next t ∧ (strm t fn stream).active = false ∧ mget t.doc.flows fi = none ∧
      galleryFlows t g = (galleryFlows s g).filter (fun p => p.1 != fi))

/-- Vectors (03 R57): with both enables set and both masks clear a vector is sent with its entry's address and data; otherwise its pending bit is set and nothing is sent. Masks, MSI-X and configuration (03 R57, R75, R76): each write stores what it names; the masks leave the causes; the moderation's hold-off ends with vector 0 and an empty count. -/
def Obligations.EventRegisters : Prop :=
  (∀ (fn v : Nat) (s : State),
    (vectorFree (pcie s fn) v = true →
      (sendVector fn v s).fab.sent = s.fab.sent ++ [{ fn := fn, vector := v, addr := (mgetD (pcie s fn).vectors v {}).addr, data := (mgetD (pcie s fn).vectors v {}).data }] ∧
      (mgetD (pcie (sendVector fn v s) fn).vectors v {}).pending = false) ∧
    (vectorFree (pcie s fn) v = false →
      (sendVector fn v s).fab.sent = s.fab.sent ∧ (mgetD (pcie (sendVector fn v s) fn).vectors v {}).pending = true) ∧
    (∀ k, k ≠ fn → pcie (sendVector fn v s) k = pcie s k) ∧ (∀ k, win (sendVector fn v s) k = win s k) ∧ sendVector fn v s = { s with fab := (sendVector fn v s).fab }) ∧
  ((∀ (fn : Fin 1025) (value : W64) (s : State), ∃ t, exec (.winEventMaskWrite fn value) s = .next t ∧ t = { s with fab := t.fab } ∧
    (win t fn).mask = value &&& eventBits ∧ (win t fn).cause = (win s fn).cause ∧ (∀ k j, strm t k j = strm s k j) ∧ (∀ k, k ≠ fn.val → win t k = win s k)) ∧
  (∀ (k : Fin 4) (value : W64) (s : State), ∃ t, exec (.winMevMaskWrite k value) s = .next t ∧ t = { s with fab := t.fab } ∧
    t.fab.mevMask = s.fab.mevMask - bits s.fab.mevMask (64 * k.val + 63) (64 * k.val) * 2 ^ (64 * k.val) + (value.toNat * 2 ^ (64 * k.val) &&& mevBits) ∧
    t.fab.mevCause = s.fab.mevCause ∧ (∀ n, win t n = win s n)) ∧
  (∀ (fn : Fin 1025) (vector : Fin 256) (value : W64) (s : State), fn.val = 0 ∨ vector.val < 4 →
    (∃ t, exec (.msixTableWrite fn vector false value) s = .next t ∧ t = { s with fab := t.fab } ∧
      (mgetD (pcie t fn).vectors vector.val {}).addr = value &&& ~~~ 3#64 ∧ (∀ n, win t n = win s n)) ∧
    (∃ t, exec (.msixTableWrite fn vector true value) s = .next t ∧ t = { s with fab := t.fab } ∧
      (mgetD (pcie t fn).vectors vector.val {}).data = field value 31 0 ∧ (mgetD (pcie t fn).vectors vector.val {}).masked = flag value 32 ∧ (∀ n, win t n = win s n))) ∧
  (∀ (fn : Fin 1025) (vector : Fin 256) (upper : Bool) (value : W64) (s : State), fn.val ≠ 0 → 4 ≤ vector.val →
    ∃ t, exec (.msixTableWrite fn vector upper value) s = .next t ∧ t = { s with fab := t.fab } ∧ (win t fn).fault = (win s fn).fault ||| 4#64 ∧ t.fab.fns = s.fab.fns) ∧
  (∀ (fn : Fin 1025) (command : PcieCommand) (msixEnable fnMask : Bool) (s : State),
    ∃ t, exec (.pcieConfigWrite fn command msixEnable fnMask) s = .next t ∧ t = { s with fab := t.fab, cur := t.cur } ∧
      (pcie t fn).busMaster = command.busMaster ∧ (pcie t fn).msixEnable = msixEnable ∧ (pcie t fn).fnMask = fnMask ∧ (pcie t fn).d3hot = command.d3hot ∧ (∀ n, win t n = win s n) ∧
      ((pcie t 0).busMaster = true → t.cur.mctpWaiting = [] ∧ s.cur.replies <+: t.cur.replies ∧ s.cur.events <+: t.cur.events)) ∧
  (∀ (fn : Fin 1025) (due : Nat) (s : State), (win s fn).firstUnsignalled = some due → (win s fn).holdoff ≠ 0 →
    ∃ t, exec (.holdoffExpiry fn) s = .next t ∧ t = { s with fab := t.fab, now := max s.now (due + 1000 * (win s fn).holdoff) } ∧
      (win t fn).unsignalled = 0 ∧ (win t fn).firstUnsignalled = none ∧
      (readyCause (win s fn) = true → vectorFree (pcie s fn) 0 = true → t.fab.sent.length = s.fab.sent.length + 1)))

/-- Reset of a function (03 R79): it completes in every state; its window's registers and streams stand at their reset values, with its binding, an unbind under way and the state last reported (which are no registers of it) kept, and its configuration and MSI-X structures are cleared; no other window changes; of the window's commands only those that a cell has taken are left, their responses to be discarded, and the reset waits for these. Its end: once none of those it waits for is left to be discarded, the reset is over and, of the window's flows, those that neither hold a command nor serve a stream enabled since are gone. A hot reset clears every function's configuration and MSI-X structures and nothing else (the model's choice, log 38). -/
def Obligations.FunctionLevelResets : Prop :=
  (∀ (fn : Fin 1025) (s : State), ∃ t ts, exec (.functionLevelReset fn) s = .next t ∧
    win t fn = { gallery := (win s fn).gallery, unbind := (win s fn).unbind, lastState := (win s fn).lastState, flr := some ts } ∧
    pcie t fn = {} ∧ (∀ k, k ≠ fn.val → win t k = win s k) ∧ (∀ k, k ≠ fn.val → k ≠ 0 → pcie t k = pcie s k) ∧
    (∀ p ∈ t.doc.descs, (windowFlows s fn).contains p.2.flow = true → runsOn p.2 = true ∧ p.2.discard = true ∧ p.1 ∈ ts) ∧
    t.bb = s.bb ∧ t.fuses = s.fuses ∧ t.pow = s.pow ∧ t.now = s.now) ∧
  (∀ (fn : Fin 1025) (ts : List Nat) (s : State), (win s fn).flr = some ts → (∀ t ∈ ts, ∀ d, desc s t = some d → d.discard = false) →
    ∃ t, exec (.functionLevelResetDone fn) s = .next t ∧ win t fn = { win s fn with flr := none } ∧ (∀ k, k ≠ fn.val → win t k = win s k) ∧ t.doc.descs = s.doc.descs ∧
      (∀ p ∈ t.doc.flows, p ∈ s.doc.flows ∧ ((windowFlows s fn).contains p.1 = true → (∃ i ∈ (win s fn).streams, i.2.flow = some p.1) ∨ ∃ d ∈ s.doc.descs, d.2.flow = p.1)) ∧
      t.bb = s.bb ∧ t.fuses = s.fuses ∧ t.pow = s.pow ∧ t.now = s.now) ∧
  (∀ s : State, exec .hotReset s = .next { s with fab := { s.fab with fns := [] } })

/-- The link and the reset pins (03 R9, R80, 15 R360, R366): a pulse of 10 us or more on either pin ends the mode, and with it every window, command and flow; one below 1 us is ignored; when the last pin is released with main power present START stands before step 1, and only the PF has a window; the PCIe link alone ends nothing. -/
def Obligations.ResetPins : Prop :=
  (∀ (lowNs : Nat) (s : State), 10000 ≤ lowNs → s.pow.mode ≠ .vault →
    (∃ t, exec (.perstAssert lowNs) s = .next t ∧ t.pow.perstAsserted = true ∧ t.pow.mode = .start ∧ t.pow.starting = false ∧ t.fab.linkUp = false ∧
      t.fab.windows = [] ∧ t.doc.descs = [] ∧ t.doc.flows = [] ∧ t.vit.cache = []) ∧
    (∃ t, exec (.pwronResetAssert lowNs) s = .next t ∧ t.pow.pwronAsserted = true ∧ t.pow.mode = .start ∧ t.pow.starting = false ∧
      t.fab.windows = [] ∧ t.doc.descs = [] ∧ t.doc.flows = [] ∧ t.vit.cache = [] ∧ t.reg.debugStarted = false)) ∧
  (∀ (lowNs : Nat) (s : State), lowNs < 1000 → exec (.perstAssert lowNs) s = .next s ∧ exec (.pwronResetAssert lowNs) s = .next s) ∧
  (∀ (lowNs : Nat) (s : State), 10000 ≤ lowNs → s.pow.mode = .vault →
    exec (.perstAssert lowNs) s = .next { s with pow := { s.pow with perstAsserted := true }, fab := { s.fab with linkUp := false } }) ∧
  (∀ s : State, s.pow.perstAsserted = true → s.pow.pwronAsserted = false → s.pow.main = true →
    ∃ t, exec .perstDeassert s = .next t ∧ t.pow.perstAsserted = false ∧ t.pow.mode = .start ∧ t.pow.starting = true ∧ t.pow.startStep = 0 ∧
      (∀ k, k ≠ 0 → mget t.fab.windows k = none) ∧ t.doc.descs = [] ∧ t.doc.flows = []) ∧
  (∀ s : State, s.pow.perstAsserted = true → s.pow.pwronAsserted = true →
    exec .perstDeassert s = .next { s with pow := { s.pow with perstAsserted := false }, fab := { s.fab with fns := [], windows := [] } }) ∧
  (∀ s : State, s.pow.pwronAsserted = true → s.pow.perstAsserted = true → s.ao.live = 0 →
    ∃ t, exec .pwronResetDeassert s = .next t ∧ t.pow.pwronAsserted = false ∧ t.pow.main = true ∧ t.pow.perstAsserted = true ∧ (s.pow.mode = .vault → t.pow.mode = .start) ∧
      t.fab.mevCause = 0 ∧ t.fab.mevMask = 0 ∧ t.pair.role = .withdrawn ∧
      t.cnt = {} ∧ t.err = {} ∧ t.bb = s.bb ∧ t.ao = s.ao ∧ t.fuses = s.fuses ∧ t.img.slot0 = s.img.slot0 ∧ t.img.slot1 = s.img.slot1) ∧
  (∀ s : State, s.pow.pwronAsserted = true → s.pow.perstAsserted = false → s.ao.live = 0 →
    ∃ t, exec .pwronResetDeassert s = .next t ∧ t.pow.pwronAsserted = false ∧ t.pow.main = true ∧ t.pow.starting = true ∧ t.pow.startStep = 0 ∧ t.pow.mode = .start) ∧
  (∀ s : State, exec .pcieLinkDown s = .next { s with fab := { s.fab with linkUp := false } }) ∧
  (∀ s : State, s.pow.perstAsserted = false → s.pow.main = true → exec .pcieLinkUp s = .next { s with fab := { s.fab with linkUp := true } })

/-- START (15 R361, R364, R365, R366, 14 R342). It runs one step after the other, from the one at which it stands: a step that can be gone on from is counted by START_STEP and leads to the next, one that cannot ends START or leaves it waiting there. Said of each step, with the conditions on what it finds: step 1 in DEVELOPMENT and PRODUCTION with agreeing fuses, a valid BBRAM, the latch clear and no tamper condition observed; step 2 with the PLLs locked; steps 3 and 6, which nothing stops; step 4 with GDDR6 trained; step 5 with eight wings left once those that fail are retired; step 7 where a module root is found and the Vitrine is accepted, which puts KM and the anchor's term in force; step 8 where firmware and image are found; step 9 where the tests that halt pass; step 10 where the known-answer tests pass and every source and instance is there; each stage of the close, unless it writes the Vitrine under a power-fail warning; and READY, which ends START in the service mode, or in TEST_UNLOCKED and RETURNED in DIAGNOSTIC with READY low. A failed condition of steps 2, 4, 8, 9 and 10 ends it in HALT with READY low; fuse rows that disagree do so as the FATAL error 0x41; with the latch set step 2 leads to TAMPERED; in BLANK, TEST_LOCKED and SCRAPPED it ends after step 1 and the mode stays as it is, in TERMINATED before it. While no START is under way the row has no effect. -/
def Obligations.StartSteps : Prop :=
  (∀ (env : StartEnv) (n : Fin 20) (s : State), s.pow.starting = true → nextStep s = n.val →
    ∃ t, exec (.start n env) s = .next t ∧
      ((startStepOf n env s).1 = true → t = stepDone n env (startStepOf n env s).2) ∧ ((startStepOf n env s).1 = false → t = (startStepOf n env s).2)) ∧
  (∀ (env : StartEnv) (s : State), s.pow.starting = true → s.pow.startStep = 0 → fusedState s.fuses = 4 ∨ fusedState s.fuses = 5 →
    env.fusesAgree = true → s.bb.valid = true → s.ao.responded = false → s.ao.live = 0 →
    ∃ t, exec (.start 1 env) s = .next t ∧ t.pow.startStep = 1 ∧ t.pow.starting = true ∧ t.reg.state = fusedState s.fuses ∧ t.bb.valid = true ∧ t.bb.lost = false ∧
      (s.bb.lost = true → s.fuses.epochs < 63 → t.fuses.epochs = s.fuses.epochs + 1) ∧ (s.bb.lost = false → t.fuses = s.fuses)) ∧
  (∀ (env : StartEnv) (s : State), s.pow.starting = true →
    (s.pow.startStep = 1 → env.pllLock = true → s.ao.responded = false → ∃ t, exec (.start 2 env) s = .next t ∧ t.pow.startStep = 2 ∧ t.pow.starting = true) ∧
    (s.pow.startStep = 2 → ∃ t, exec (.start 3 env) s = .next t ∧ t.pow.startStep = 3 ∧ t.pow.starting = true ∧ t.pair.badLanes = env.badLanes) ∧
    (s.pow.startStep = 3 → env.gddrOk = true → ∃ t, exec (.start 4 env) s = .next t ∧ t.pow.startStep = 4 ∧ t.pow.starting = true) ∧
    (s.pow.startStep = 4 → 8 ≤ wingsAvailable ((env.badWings.filter (· < 16)).foldl (fun s w => retireWing w s) s) → ∃ t, exec (.start 5 env) s = .next t ∧ t.pow.startStep = 5 ∧ t.pow.starting = true) ∧
    (s.pow.startStep = 5 → ∃ t, exec (.start 6 env) s = .next t ∧ t.pow.startStep = 6 ∧ t.pow.starting = true) ∧
    (∀ root, s.pow.startStep = 6 → readsVitrine s = true → moduleRootOf s = some root →
      vitrineAccepted env { s with vit := { s.vit with km := kmOf s root } } = true →
      ∃ t, exec (.start 7 env) s = .next t ∧ t.pow.startStep = 7 ∧ t.pow.starting = true ∧ t.vit.km = kmOf s root ∧ t.pair.term = s.vit.anchorTerm) ∧
    (∀ n f, s.pow.startStep = 7 → chosenFirmware (eraseBadFirmware s) = some (n, f) → (selectImage (loadFirmware n f (eraseBadFirmware s))).1 = true →
      ∃ t, exec (.start 8 env) s = .next t ∧ t.pow.startStep = 8 ∧ t.pow = { (selectImage (loadFirmware n f (eraseBadFirmware s))).2.pow with startStep := 8 }) ∧
    (s.pow.startStep = 8 → 16 ≤ env.sites → bit env.fieldPass.toNat 2 = true → bit env.fieldPass.toNat 3 = true → bit env.fieldPass.toNat 4 = true →
      bit env.fieldPass.toNat 6 = true ∨ env.noiseAgain = true →
      ∃ t, exec (.start 9 env) s = .next t ∧ t.pow.startStep = 9 ∧ t.pow.starting = true ∧ t.reg.fieldPass = env.fieldPass.toNat ∧
        (bit env.fieldPass.toNat 1 = false → ∀ l ∈ env.failLanes, l ∈ t.pair.badLanes)) ∧
    (s.pow.startStep = 9 → env.katOk = true → (startSources env s).rng.fatal = false → 8 ≤ (contributing (deliverBlocks env (startSources env s))).length →
      missingInstances (deliverBlocks env (startSources env s)) = [] →
      ∃ t, exec (.start 10 env) s = .next t ∧ t.pow.startStep = 10 ∧ t.rng.startupDone = true)) ∧
  (∀ (env : StartEnv) (n : Fin 20) (s : State), s.pow.starting = true → s.pow.startStep = 10 → s.pow.closeStage < 8 → 11 + s.pow.closeStage = n.val → s.pow.failWarning = false →
    ∃ t, exec (.start n env) s = .next t ∧ t.pow.closeStage = s.pow.closeStage + 1 ∧ t.pow.startStep = 10 ∧ t.pow.starting = true) ∧
  (∀ (env : StartEnv) (s : State), s.pow.starting = true → s.pow.startStep = 10 → s.pow.closeStage = 8 →
    ∃ t, exec (.start 19 env) s = .next t ∧ t.pow.startStep = 11 ∧ t.pow.starting = false ∧
      t.pow.mode = (if s.reg.state = 2 ∨ s.reg.state = 6 then .diagnostic else .service) ∧ t.pow.ready = (t.pow.mode == .service)) ∧
  (∀ (env : StartEnv) (s : State), s.pow.starting = true →
    (s.pow.startStep = 1 → env.pllLock = false → ∃ t, exec (.start 2 env) s = .next t ∧ t.pow.mode = .halt ∧ t.pow.starting = false ∧ t.pow.ready = false) ∧
    (s.pow.startStep = 3 → env.gddrOk = false → ∃ t, exec (.start 4 env) s = .next t ∧ t.pow.mode = .halt ∧ t.pow.starting = false ∧ t.pow.ready = false ∧ t.bb = s.bb ∧ t.vit = s.vit) ∧
    (s.pow.startStep = 7 → chosenFirmware (eraseBadFirmware s) = none → ∃ t, exec (.start 8 env) s = .next t ∧ t.pow.mode = .halt ∧ t.pow.starting = false ∧ t.pow.ready = false) ∧
    (s.pow.startStep = 8 → bit env.fieldPass.toNat 3 = false → ∃ t, exec (.start 9 env) s = .next t ∧ t.pow.mode = .halt ∧ t.pow.starting = false ∧ t.pow.ready = false) ∧
    (s.pow.startStep = 9 → env.katOk = false → ∃ t, exec (.start 10 env) s = .next t ∧ t.pow.mode = .halt ∧ t.pow.starting = false ∧ t.pow.ready = false) ∧
    (s.pow.startStep = 0 → s.pow.mode = .start → s.ao.live = 0 → fusedState s.fuses = 4 ∨ fusedState s.fuses = 5 → env.fusesAgree = false →
      ∃ t, exec (.start 1 env) s = .next t ∧ t.pow.mode = .halt ∧ t.pow.starting = false ∧ t.pow.ready = false ∧ t.err.lastCause = 0x41)) ∧
  (∀ (env : StartEnv) (upTo : Fin 20) (s : State), 2 ≤ upTo.val → s.pow.starting = true → s.pow.startStep = 1 → env.pllLock = true → s.ao.responded = true →
    ∃ t, exec (.start upTo env) s = .next t ∧ t.pow.mode = .tampered ∧ t.pow.starting = false ∧ t.pow.ready = false ∧ t.ao = s.ao ∧ t.bb = s.bb) ∧
  (∀ (env : StartEnv) (upTo : Fin 20) (s : State), 1 ≤ upTo.val → s.pow.starting = true → s.pow.startStep = 0 → s.ao.live = 0 →
    (fusedState s.fuses = 15 → ∃ t, exec (.start upTo env) s = .next t ∧ t.pow.startStep = 0 ∧ t.pow.starting = false ∧ t.pow.mode = s.pow.mode) ∧
    (fusedState s.fuses = 0 ∨ fusedState s.fuses = 1 ∨ fusedState s.fuses = 7 → env.fusesAgree = true → s.ao.responded = false → s.bb.valid = true →
      ∃ t, exec (.start upTo env) s = .next t ∧ t.pow.startStep = 1 ∧ t.pow.starting = false ∧ t.pow.mode = s.pow.mode)) ∧
  (∀ (env : StartEnv) (upTo : Fin 20) (s : State), s.pow.starting = false → exec (.start upTo env) s = .next s)

/-- The supplies (00 R15, R16, 14 R338, 15 R372, R373, 17 R444): loss of main power leads to VAULT with both resets asserted and without erasure; loss of VAUX takes the Curator's SRAM and, without VBAT, BBRAM and the always-on domain; a domain that returns starts with the latch clear. -/
def Obligations.Supplies : Prop :=
  (∀ (g6Kept : Bool) (s : State), s.pow.main = true → s.reg.burn = none →
    ∃ t, exec (.mainPowerFail g6Kept) s = .next t ∧ t.pow.main = false ∧ t.pow.mode = .vault ∧ t.pow.ready = false ∧ t.pow.pwronAsserted = true ∧
      t.pow.perstAsserted = true ∧ t.fab.linkUp = false ∧ t.doc.descs = [] ∧ t.vit.retained = (s.vit.retained && g6Kept && s.ao.vaux) ∧
      t.bb = s.bb ∧ t.ao = s.ao ∧ t.fuses = s.fuses) ∧
  (∀ s : State, s.pow.main = true → s.reg.burn = none → ∃ t, exec .gddr6RailLoss s = .next t ∧ t.pow.mode = .vault ∧ t.vit.retained = false ∧ t.bb = s.bb) ∧
  (∀ s : State, s.pow.main = false → exec .gddr6RailLoss s = .next { s with vit := { s.vit with retained := false } }) ∧
  (∀ s : State, s.pow.main = true → exec .powerFailWarning s = .next { s with pow := { s.pow with failWarning := true } }) ∧
  (∀ s : State, (s.pow.failWarning = true → exec .powerFailWarningClear s = .next (resumeWrites { s with pow := { s.pow with failWarning := false } })) ∧
    (s.pow.failWarning = false → exec .powerFailWarningClear s = .next s)) ∧
  (∀ s : State, s.ao.vaux = true → s.ao.vbat = true →
    ∃ t, exec .vauxLoss s = .next t ∧ t.ao = { s.ao with vaux := false } ∧ t.bb = s.bb ∧ t.cur.logSram = [] ∧ t.cur.inBuf = [] ∧ t.cur.outBuf = [] ∧ t.cur.transcript = [] ∧ t.cur.mctpWaiting = [] ∧
      t.cur.logMirror = s.cur.logMirror ∧ t.fuses = s.fuses ∧ t.pow = s.pow) ∧
  (∀ s : State, s.ao.vaux = true → s.ao.vbat = false →
    ∃ t, exec .vauxLoss s = .next t ∧ t.bb = { lost := true } ∧ t.ao.responded = false ∧ t.ao.latched = 0 ∧ t.ao.vaux = false ∧ t.fuses = s.fuses) ∧
  (∀ s : State, s.ao.vaux = false → s.ao.vbat = true →
    ∃ t, exec .vauxRestore s = .next t ∧ t = { s with ao := { s.ao with vaux := true, recordToLog := t.ao.recordToLog }, cur := t.cur } ∧ t.cur.restarting = none ∧
      (s.ao.recordToLog = false → t.ao.recordToLog = false ∧ t.cur.logSeq = ((s.cur.logMirror.head?).map (·.1)).getD 0)) ∧
  (∀ (vaux vbat : Bool) (s : State), s.ao.vaux = false → s.ao.vbat = false → (vaux || vbat) = true →
    ∃ t, exec (.alwaysOnPowerUp vaux vbat) s = .next t ∧ t = { s with ao := t.ao } ∧ t.ao.vaux = vaux ∧ t.ao.vbat = vbat ∧ t.ao.since = s.now ∧ t.ao.responded = false) ∧
  (∀ s : State, s.ao.vbat = true → s.ao.vaux = true →
    ∃ t, exec .vbatLoss s = .next t ∧ t = { s with ao := { s.ao with vbat := false }, cur := t.cur } ∧ (mgetD t.cur.sensors 41 {}).valid = false) ∧
  (∀ s : State, s.ao.vbat = true → s.ao.vaux = false → ∃ t, exec .vbatLoss s = .next t ∧ t.bb = { lost := true } ∧ t.ao.vbat = false) ∧
  (∀ (r : AvsRequest) (s : State), s.pow.avs = some r → s.pow.returning = none →
    exec .avsbusAck s = .next { s with pow := { s.pow with vcoreMv := r.millivolts, avs := none } }) ∧
  (∀ (r : AvsRequest) (s : State), s.pow.avs = some r →
    ∃ t, exec .avsbusTimeout s = .next t ∧ t = { s with pow := { s.pow with avs := some { r with tries := r.tries + 1 } }, cur := t.cur })

/-- The supply of the tamper block and BBRAM (00 R16): there is power whenever VAUX or VBAT is there; a change from one to the other, in either direction, clears nothing of BBRAM and no latch, raises no tamper alarm, and changes nothing of the always-on domain but the supply itself and, where the Curator that starts copies a tamper record into its log, the mark that it was still to be copied. -/
def Obligations.SupplySwitch : Prop :=
  (∀ s : State, aoPowered s = true ↔ (s.ao.vaux = true ∨ s.ao.vbat = true)) ∧
  (∀ s : State, s.ao.vaux = true → s.ao.vbat = true →
    ∃ t, exec .vauxLoss s = .next t ∧ aoPowered t = true ∧ t.bb = s.bb ∧ t.ao = { s.ao with vaux := false } ∧ t.pow.mode = s.pow.mode ∧ t.fab = s.fab ∧ t.vit.cache = s.vit.cache) ∧
  (∀ s : State, s.ao.vaux = false → s.ao.vbat = true →
    ∃ t, exec .vauxRestore s = .next t ∧ aoPowered t = true ∧ t.bb = s.bb ∧ t.ao = { s.ao with vaux := true, recordToLog := t.ao.recordToLog } ∧ t.pow.mode = s.pow.mode ∧ t.fab = s.fab ∧ t.vit.cache = s.vit.cache) ∧
  (∀ s : State, s.ao.vaux = true → s.ao.vbat = true →
    ∃ t, exec .vbatLoss s = .next t ∧ aoPowered t = true ∧ t.bb = s.bb ∧ t.ao = { s.ao with vbat := false } ∧ t.pow.mode = s.pow.mode ∧ t.fab = s.fab ∧ t.vit.cache = s.vit.cache)

/-! The Docent. -/

/-- DOC_TAKE (10 R251, R255): a cell that holds nothing and does not wait joins the cells that wait, from now on; then the Docent hands out what is ready. At the time-out the stalled read returns 0. -/
def Obligations.TakesAndTheirTimeOut : Prop :=
  (∀ (cell : Fin 128) (s : State), (cellRegs s cell).held = none → s.doc.waiting.any (fun c => c.cell == cell.val) = false →
    ∃ u, exec (.docTake cell) s = .next (offerWork u) ∧
      u = { s with doc := { s.doc with waiting := s.doc.waiting ++ [{ cell := cell.val, since := s.now }] }, cnt := u.cnt, freeCount := u.freeCount }) ∧
  (∀ (cell : Fin 128) (s : State), ((cellRegs s cell).held.isSome || s.doc.waiting.any (fun c => c.cell == cell.val)) = true → exec (.docTake cell) s = .next s) ∧
  (∀ (cell : Fin 128) (c : WaitingCell) (s : State), s.doc.waiting.find? (fun c => c.cell == cell.val) = some c →
    ∃ t, exec (.takeTimeout cell) s = .next t ∧ t = { s with doc := t.doc, cnt := t.cnt, freeCount := t.freeCount, now := max s.now (c.since + 1000 * s.doc.takeTimeout) } ∧
      (cellRegs t cell).take = 0 ∧ t.doc.waiting = s.doc.waiting.filter (fun x => x.cell != cell.val) ∧ t.doc.descs = s.doc.descs ∧ t.doc.flows = s.doc.flows)

/-- DOC_DONE (10 R256, R258, R261, R323): a complete command that originates nothing is done with the response it has and the cell is free; a park leaves the command on its object with its ticket, the signal re-offers it; a retry is an error of its cell (13 Table 13-2): the first of its unit within 1 s re-offers the command, and a third failure of a command that originates nothing is answered ENGINE_FAULT; a write for a command the cell does not hold is logged and changes nothing else. -/
def Obligations.DoneParkAndRetry : Prop :=
  (∀ (cell : Fin 128) (ticket : Fin 65536) (d : Desc) (fl : Flow) (s : State), (cellRegs s cell).held = some ticket.val → desc s ticket = some d →
    d.resp.isSome = true → isSecondary d cell = false → copiesAgree d = true → s.rng.fatal = false → d.originating = false → d.discard = false → (completeCopy cell d).2 = true → mget s.doc.flows d.flow = some fl →
    ∃ u, exec (.docDoneComplete cell ticket) s = .next (offerWork u) ∧ (cellRegs u cell).held = none ∧
      (desc u ticket).map (fun x => (x.st, x.resp)) = some (.done, d.resp) ∧ (∀ k, k ≠ ticket.val → desc u k = desc s k) ∧ u.fab = s.fab ∧ u.now = s.now) ∧
  (∀ (cell : Fin 128) (ticket : Fin 65536) (wait : Fin 8) (object : Fin 65536) (d : Desc) (s : State), (cellRegs s cell).held = some ticket.val → desc s ticket = some d →
    wait = 2 ∨ (wait = 1 ∧ s.rng.fatal = false ∧ instServes s object = false) →
    ∃ u, exec (.docDonePark cell ticket wait object) s = .next (offerWork u) ∧
      (desc u ticket).map (fun x => (x.st, x.copies, x.seq)) = some (.parked wait.val object.val, d.copies.filter (fun k => k.cell != cell.val), d.seq) ∧ (∀ k, k ≠ ticket.val → desc u k = desc s k) ∧
      u.doc.parkCount = s.doc.parkCount + 1 ∧ u.fab = s.fab) ∧
  (∀ (cell : Fin 128) (ticket : Fin 65536) (d : Desc) (s : State), (cellRegs s cell).held = some ticket.val → desc s ticket = some d →
    s.pow.mode = .service → s.err.active < 2 → s.err.byUnit = [] → (wing s (cell.val / 8)).quarantined = false → d.st = .inService → d.fails + 1 < 3 →
    ∃ u, exec (.docDoneRetry cell ticket) s = .next (offerWork u) ∧
      (desc u ticket).map (fun x => (x.st, x.retry, x.fails, x.copies)) = some (.queued, min 7 (d.retry + 1), d.fails + 1, []) ∧
      (∀ k, k ≠ ticket.val → desc u k = desc s k) ∧ u.fab = s.fab) ∧
  (∀ (cell : Fin 128) (ticket : Fin 65536) (d : Desc) (s : State), (cellRegs s cell).held = some ticket.val → desc s ticket = some d →
    s.pow.mode = .service → s.err.active < 2 → s.err.byUnit = [] → (wing s (cell.val / 8)).quarantined = false → d.st = .inService → d.originating = false → d.discard = false → 3 ≤ d.fails + 1 →
    ∃ u, exec (.docDoneRetry cell ticket) s = .next (offerWork u) ∧
      (desc u ticket).map (fun x => (x.st, x.resp)) = some (.done, some (statusOnly Status.engineFault)) ∧ (∀ k, k ≠ ticket.val → desc u k = desc s k) ∧ u.fab = s.fab) ∧
  (∀ (cell : Fin 128) (ticket : Fin 65536) (wait : Fin 8) (object : Fin 65536) (s : State), (cellRegs s cell).held ≠ some ticket.val →
    ∃ t, exec (.docDoneComplete cell ticket) s = .next t ∧ exec (.docDonePark cell ticket wait object) s = .next t ∧ exec (.docDoneRetry cell ticket) s = .next t ∧
      t = { s with cur := t.cur }) ∧
  (∀ (wait : Fin 8) (object : Fin 65536) (s : State), ∃ u, exec (.parkSignal wait object) s = .next (offerWork u) ∧ u = { s with doc := { s.doc with descs := u.doc.descs } } ∧
    (∀ t d, desc s t = some d → d.st = .parked wait.val object.val → desc u t = some { d with signalled := true }) ∧
    (∀ t d, desc s t = some d → d.st ≠ .parked wait.val object.val → desc u t = some d))

/-- Release and publication (10 R252, R263, 03 R69, R70, R74): a done command whose release conditions hold is released into its stream; the oldest released response is published into the lowest free slot and RESP_READY latches; with no slot free it waits with RESP_STALL set. -/
def Obligations.ReleaseAndPublication : Prop :=
  (∀ (flow : Fin 65536) (fl : Flow) (t fn i : Nat) (d : Desc) (r : Resp) (s : State), mget s.doc.flows flow = some fl → dueAt s flow fl = some (t, d) → d.resp = some r →
    releasable s fl d = true → d.discard = false → localStream fl = some (fn, i) → s.doc.descs.filter (fun p => p.1 == t) = [(t, d)] →
    ∃ u, exec (.responseRelease flow) s = .next (offerWork u) ∧ (desc u t).map (·.st) = some .released ∧
      { ticket := t, seq := d.seq, releasedAt := s.now } ∈ (strm u fn i).waiting ∧ (strm s fn i).waiting <+: (strm u fn i).waiting) ∧
  (∀ (fn : Fin 1025) (stream : Fin 16) (r : Released) (rest : List Released) (k : Nat) (d : Desc) (rsp : Resp) (fl : Flow) (s : State),
    (strm s fn stream).waiting = r :: rest → lowestFree (strm s fn stream).resp 8 = some k → desc s r.ticket = some d → d.resp = some rsp → mget s.doc.flows d.flow = some fl →
    ∃ t, exec (.responsePublish fn stream) s = .next t ∧ (strm t fn stream).waiting = rest ∧
      (mget (strm t fn stream).resp k).map (fun p => (p.seq, p.ticket)) = some (d.seq, r.ticket) ∧
      (strm t fn stream).slots = mset (strm s fn stream).slots k (slice (sealResponse (strm s fn stream) d (responseFrame s stream d rsp)) 0 512) ∧
      flag (win t fn).cause stream.val = true ∧ t.doc = s.doc ∧ (∀ n, n ≠ fn.val → win t n = win s n)) ∧
  (∀ (fn : Fin 1025) (stream : Fin 16) (s : State), (strm s fn stream).waiting ≠ [] → lowestFree (strm s fn stream).resp 8 = none →
    ∃ t, exec (.responsePublish fn stream) s = .next t ∧ t = { s with fab := t.fab } ∧ strm t fn stream = { strm s fn stream with respStall := true })

/-- The tick and its timers (10 R257, R259, R260, 02 R38, R45): a boundary moves time to it, closes the tick and takes a pending TICK_US; tokens are refilled once for each boundary; a gap, a deadline, an operation's idle time-out and an unbind fire at the first boundary at or after their expiry. -/
def Obligations.TickAndTimers : Prop :=
  (∀ s : State, ∃ u, exec .tickBoundary s = .next (offerWork u) ∧ u.doc.ticks = (s.doc.ticks + 1) % 2 ^ 32 ∧ u.doc.refilled = false ∧ u.doc.tickPending = none ∧
    u.doc.tickUs = s.doc.tickPending.getD s.doc.tickUs ∧ u.doc.nextTick = s.doc.nextTick + 1000 * u.doc.tickUs ∧ u.doc.quotaChanges = [] ∧ u.now = max s.now s.doc.nextTick) ∧
  (∀ s : State, ∃ t, exec .modeAndQuotaChanges s = .next t ∧ t = { s with doc := t.doc, vit := t.vit, pow := t.pow, now := max s.now s.doc.nextTick } ∧
    t.doc.quotaChanges = [] ∧ t.doc.modeChange = none ∧ t.doc.descs = s.doc.descs) ∧
  (∀ s : State, s.doc.refilled = false → exec .tokenRefill s = .next { s with
    vit := { s.vit with galleries := mmap refillGallery s.vit.galleries }, doc := { s.doc with refilled := true }, now := max s.now s.doc.nextTick }) ∧
  (∀ s : State, s.doc.refilled = true → exec .tokenRefill s = .next s) ∧
  (∀ (flow : Fin 65536) (fl : Flow) (due : Nat) (s : State), mget s.doc.flows flow = some fl → fl.gapAt = some due → fl.held ≠ [] → ownVerdicts s = true →
    ∃ u, exec (.gapTimeOut flow) s = .next (offerWork u) ∧ u.now = max s.now (boundaryFor s due) ∧
      (mget u.doc.flows flow).map (fun f => (f.held, f.gapAt, f.next)) = some ([], none, fl.held.foldl (fun a h => max a h.seq) 0 + 1)) ∧
  (∀ (ticket : Fin 65536) (d : Desc) (due : Nat) (s : State), desc s ticket = some d → d.deadline = some due → ownVerdicts s = true → d.st = .queued →
    ∃ u, exec (.deadline ticket) s = .next (offerWork u) ∧ u.now = max s.now (boundaryFor s due) ∧ desc u ticket = some { d with expired := true } ∧
      (∀ k, k ≠ ticket.val → desc u k = desc s k)) ∧
  (∀ (ticket : Fin 65536) (d : Desc) (due w o : Nat) (s : State), desc s ticket = some d → d.deadline = some due → ownVerdicts s = true → d.st = .parked w o → d.signalled = false →
    hasBegun d = false → d.discard = false →
    ∃ u, exec (.deadline ticket) s = .next (offerWork u) ∧ u.now = max s.now (boundaryFor s due) ∧
      (desc u ticket).map (fun x => (x.st, x.resp)) = some (.done, some (statusOnly (if w = 1 then Status.entropyUnavailable else Status.timeout))) ∧
      (∀ k, k ≠ ticket.val → desc u k = desc s k)) ∧
  (∀ (gallery opId due : Nat) (g : Gallery) (o : SpanOp) (s : State), gal s gallery = some g → mget g.ops opId = some o → frameWaits s gallery o = false → o.idleAt = some due →
    ∃ t, exec (.operationIdleTimeOut gallery opId) s = .next t ∧ t = { s with vit := { s.vit with galleries := t.vit.galleries }, now := max s.now (boundaryFor s due) } ∧
      gal t gallery = some { g with ops := mdel g.ops opId } ∧ (∀ k, k ≠ gallery → gal t k = gal s k)) ∧
  (∀ (fn : Fin 1025) (b : Unbind) (s : State), (win s fn).unbind = some b →
    ∃ t, exec (.unbindDrainTimeOut fn) s = .next t ∧ t.now = max s.now (boundaryFor s b.expiry) ∧ (win t fn).unbind = none ∧ (win t fn).gallery = none ∧
      (win t fn).streams = [] ∧ (unbindWaits s b.ticket = true → ∀ d, desc t b.ticket = some d → d.resp = some (okResp [])) ∧ (∀ k, k ≠ fn.val → win t k = win s k)) ∧
  (∀ (fn : Fin 1025) (b : Unbind) (s : State), (win s fn).unbind = some b → windowDrained s fn = true →
    ∃ t, exec (.unbindComplete fn) s = .next t ∧ t.now = s.now ∧ (win t fn).unbind = none ∧ (win t fn).gallery = none ∧
      (win t fn).streams = [] ∧ (unbindWaits s b.ticket = true → ∀ d, desc t b.ticket = some d → d.resp = some (okResp [])) ∧ (∀ k, k ≠ fn.val → win t k = win s k))

/-! The house's functions. Each statement is for every command that a cell may run, whatever its operands, once the function's own checks have passed; where they do not, see FunctionsTurnedAway. -/

/-- PIN and card verification (04): PIN_TRANSLATE, PIN_CALC, PIN_VERIFY, PIN_GENERATE, PIN_TRY_SET, CVV_GENERATE and CVV_VERIFY answer. A comparison answers OK or VERIFY_FAILED and changes nothing; PIN_VERIFY without TRY returns 0xFF for the tries; with TRY it returns what is left after this attempt (04 R124). -/
def Obligations.PinFunctionsAnswer : Prop :=
  Answers .pinTranslate 0x0101 checkPinTranslate runPinTranslate (fun _ v x => Pure v x ∧ OkOr Status.verifyFailed x) ∧
  Answers .pinCalc 0x0102 checkPinCalc runPinCalc (fun c v x => Pure v x ∧ (match calcValue c with
    | some ds => x.1 = okResp (digitField 16 ds)
    | none => x.1 = statusOnly Status.verifyFailed)) ∧
  Answers .pinVerify 0x0103 checkPinVerify runPinVerify (fun c v x =>
    (fnBit0 c.f = false → Pure v x ∧ x.1 = { status := (if pinMatches c then Status.ok else Status.verifyFailed), fnFlags := 0, payload := triesPayload 0xFF }) ∧
    (∀ r, fnBit0 c.f = true → tryRecord c = some r →
      x.1 = { status := (if pinMatches c then Status.ok else Status.verifyFailed)
              fnFlags := 0
              payload := triesPayload ((tryCounter r (byteAt c.f 132)).1 - (if pinMatches c then 0 else (tryCounter r (byteAt c.f 132)).2 + 1)) } ∧
      (x.2.1 = [] ∨ ∃ r', x.2.1 = [.vrecord c.g r.slot (some r')] ∧ x.2.2 = putRecordAt c.g r.slot (some r') v))) ∧
  Answers .pinGenerate 0x0104 checkPinGenerate runPinGenerate (fun _ v x => x.1.status = Status.ok ∧ DrawsOnly v x) ∧
  Answers .pinTrySet 0x0105 checkPinTrySet runPinTrySet (fun c v x =>
    (x.1 = okResp [] ∧ (Pure v x ∨ ∃ r', x.2.1 = [.vrecord c.g (leAt c.f 32 3) r'] ∧ x.2.2 = putRecordAt c.g (leAt c.f 32 3) r' v)) ∨
    (x.1 = statusOnly Status.quotaExceeded ∧ x.2.1 = [])) ∧
  Answers .cvvGenerate 0x0201 checkCvv runCvvGenerate (fun c v x => Pure v x ∧ x.1 = okResp (digitField 8 (cvvOf c))) ∧
  Answers .cvvVerify 0x0202 checkCvv runCvvVerify (fun c v x => Pure v x ∧ Compared (cvvOf c = ((slice c.f 72 8).take (byteAt c.f 40)).map (·.toNat)) x)

/-- EMV, DUKPT and MACs (04, 05): every function of the three groups answers. A wrong cryptogram or MAC is VERIFY_FAILED without payload; the DUKPT functions move the key cache at most; DUKPT_ORIGINATE advances the counter of its record; a MAC is returned in 16 bytes. -/
def Obligations.PaymentFunctionsAnswer : Prop :=
  Answers .arqcVerify 0x0301 checkArqc runArqcVerify (fun c v x => Pure v x ∧
    ((emvMac (c.key 0).alg (arqcKeys c).2 (byteAt c.f 41) (slice c.f 96 (leAt c.f 46 2))).take 8 ≠ slice c.f 64 8 → x.1 = statusOnly Status.verifyFailed) ∧
    ((emvMac (c.key 0).alg (arqcKeys c).2 (byteAt c.f 41) (slice c.f 96 (leAt c.f 46 2))).take 8 = slice c.f 64 8 →
      x.1 = okResp (if fnBit0 c.f then arpcOf c (arqcKeys c).1 (arqcKeys c).2 else []))) ∧
  Answers .scriptMac 0x0302 checkScriptMac runScriptMac (fun _ v x => Pure v x ∧ x.1.status = Status.ok ∧ x.1.payload.length = 8) ∧
  Answers .scriptEncrypt 0x0303 checkScriptEncrypt runScriptEncrypt (fun _ v x => Pure v x ∧ OkOr Status.verifyFailed x) ∧
  Answers .dukptPinTranslate 0x0401 checkDukptPin runDukptPin (fun _ v x => CachesOnly v x ∧ OkOr Status.verifyFailed x) ∧
  Answers .dukptDecrypt 0x0402 checkDukptDecrypt runDukptDecrypt (fun _ v x => CachesOnly v x ∧ x.1.status = Status.ok) ∧
  Answers .dukptMacVerify 0x0403 checkDukptMac runDukptMac (fun _ v x => CachesOnly v x ∧ (x.1 = statusOnly Status.ok ∨ x.1 = statusOnly Status.verifyFailed)) ∧
  Answers .dukptInitialKeyExport 0x0404 checkInitialExport runInitialExport (fun _ v x => CachesOnly v x ∧ x.1.status = Status.ok) ∧
  Answers .dukptOriginate 0x0405 checkOriginate runOriginate (fun c v x =>
    ∀ r n, (gal v c.g).bind (fun g => recordAt g (c.key 0).slot) = some r → nextCount ((c.key 0).alg == 65) r.counter = some n →
      x.1.status = Status.ok ∧ x.2.1 = [.vrecord c.g r.slot (some { r with counter := n })] ∧ x.2.2 = putRecordAt c.g r.slot (some { r with counter := n }) v) ∧
  Answers .macGenerate 0x0501 checkMac runMacGenerate (fun c v x => Pure v x ∧ x.1 = okResp (slice (macOf c) 0 16) ∧ x.1.payload.length = 16) ∧
  Answers .macVerify 0x0502 checkMac runMacVerify (fun c v x => Pure v x ∧ Compared (macOf c = slice c.f 48 (byteAt c.f 42)) x)

/-- Decimalisation tables (05 R121): a table of sixteen decimal digits is accepted only when each value 0 to 9 appears at least once and none more than twice; PIN_CALC, PIN_VERIFY and PIN_GENERATE that name METHOD 1 with any other table answer PARAM_REJECTED and change nothing. -/
def Obligations.DecimalisationTables : Prop :=
  (∀ t : Bytes, decTableOk t = true ↔ t.length = 16 ∧ (∀ b ∈ t, b.toNat ≤ 9) ∧
    ∀ v < 10, 1 ≤ (t.filter (fun b => b.toNat == v)).length ∧ (t.filter (fun b => b.toNat == v)).length ≤ 2) ∧
  (∀ (cell : Fin 128) (s : State) (c : Ctx) (code : Nat) (row : Fin 128 → Instr) (method table : Nat),
    (code, row, method, table) ∈ [(0x0102, (.pinCalc : Fin 128 → Instr), 48, 88), (0x0103, .pinVerify, 48, 88), (0x0104, .pinGenerate, 48, 72)] →
    heldCommand cell code s = some c → mustWait s c = false → turnedAway s c = false →
    byteAt c.f method = 1 → decTableOk (slice c.f table 16) = false →
    exec (row cell) s = .next (answerFn c.t (statusOnly Status.paramRejected) [] s))

/-- Key blocks, data and FF1 (05): KEYBLOCK_IMPORT and KEYBLOCK_EXPORT, RKL_EXPORT, DATA_ENCRYPT and DATA_DECRYPT, FF1_ENCRYPT and FF1_DECRYPT answer; none makes a step of state. -/
def Obligations.KeyBlockAndDataFunctionsAnswer : Prop :=
  Answers .keyblockImport 0x0601 checkImport runImport (fun _ v x => Pure v x ∧ OkOr Status.keyBlockInvalid x) ∧
  Answers .keyblockExport 0x0602 checkExport runExport (fun _ v x => DrawsOnly v x ∧ x.1.status = Status.ok) ∧
  Answers .rklExport 0x0603 checkRkl runRkl (fun c _ x => x.2.1 = [] ∧
    let good := verifies c.gal (c.key 1).keyType (c.key 1).material (authoritySig c.gal (c.key 1).keyType (slice c.f 72 1 ++ deviceKey c.f)) (deviceSig c.f)
    (good = false → x.1 = statusOnly Status.verifyFailed) ∧
    (good = true → (rsaTypes.contains (c.key 1).keyType && rsaInputBad (c.key 1).keyType (c.key 1).material (deviceSig c.f)) = false →
      x.1.status = Status.ok ∨ x.1 = statusOnly Status.paramRejected ∨ x.1 = privateFault)) ∧
  Answers .dataEncrypt 0x0701 (checkData false) runDataEncrypt (fun _ v x => DrawsOnly v x ∧ x.1.status = Status.ok) ∧
  Answers .dataDecrypt 0x0702 (checkData true) runDataDecrypt (fun c v x => Pure v x ∧
    x.1 = okResp (cbcDec (c.key 0).cipher (slice c.f 48 (c.key 0).cipher.len) (slice c.f 64 (leAt c.f 44 4)))) ∧
  Answers .ff1Encrypt 0x0703 checkFf1 runFf1Encrypt (fun c v x => Pure v x ∧
    x.1 = okResp (ff1Output c.f (ff1Enc (c.key 0).material (slice c.f 48 (leAt c.f 46 2)) (leAt c.f 40 2)))) ∧
  Answers .ff1Decrypt 0x0704 checkFf1 runFf1Decrypt (fun c v x => Pure v x ∧
    x.1 = okResp (ff1Output c.f (ff1Dec (c.key 0).material (slice c.f 48 (leAt c.f 46 2)) (leAt c.f 40 2))))

/-- Ciphers, AEAD, hashes and derivation (06 R140 to R154): the single-frame functions and the chunked ones answer. A tag or MAC that does not match is refused without plaintext; a nonce asked for is the next of the nonce service; an intermediate frame's answer carries its index. -/
def Obligations.CipherAndHashFunctionsAnswer : Prop :=
  Answers .cipherEncrypt 0x0801 checkCipher (runCipher false) (fun c v x => Pure v x ∧ x.1.status = Status.ok ∧
    (byteAt c.f 40 = 0 → x.1.payload = ecbEnc (c.key 0).cipher (slice c.f 64 (leAt c.f 44 4)))) ∧
  Answers .cipherDecrypt 0x0802 checkCipher (runCipher true) (fun c v x => Pure v x ∧ x.1.status = Status.ok ∧
    (byteAt c.f 40 = 0 → x.1.payload = ecbDec (c.key 0).cipher (slice c.f 64 (leAt c.f 44 4)))) ∧
  Answers .aeadSeal 0x0803 checkAead runAeadSeal (fun c v x => x.1.status = Status.ok ∧ (asksNonce c.f = false → Pure v x) ∧
    (asksNonce c.f = true → x.2.1 = [.nonce (drawNonce v).1] ∧ x.2.2 = (drawNonce v).2)) ∧
  Answers .aeadOpen 0x0804 checkAead runAeadOpen (fun c v x => Pure v x ∧
    ((gcmOpen (c.key 0).cipher (slice c.f 48 12) (aeadAad c.f) (aeadData c.f)).2.take (byteAt c.f 40) ≠ slice c.f 64 (byteAt c.f 40) → x.1 = statusOnly Status.tagMismatch) ∧
    ((gcmOpen (c.key 0).cipher (slice c.f 48 12) (aeadAad c.f) (aeadData c.f)).2.take (byteAt c.f 40) = slice c.f 64 (byteAt c.f 40) →
      x.1 = okResp (gcmOpen (c.key 0).cipher (slice c.f 48 12) (aeadAad c.f) (aeadData c.f)).1)) ∧
  Answers .aeadSealChunked 0x0805 checkSpan runSealChunked (fun c v x => x.1.status = Status.ok ∧ x.1.payload.take 4 = leBytes 4 (leAt c.f 44 4) ∧
    (asksNonce c.f = false → x.2.2 = v) ∧ (asksNonce c.f = true → x.2.2 = (drawNonce v).2)) ∧
  Answers .aeadOpenEscrowed 0x0806 checkSpan runOpenEscrowed (fun c v x => OkOr Status.tagMismatch x ∧ x.2.2 = { v with rng := x.2.2.rng, freeCount := x.2.2.freeCount } ∧
    (isFirst c.f = false → x.2.2 = v) ∧ (isLast c.f = false → x.1.payload.take 4 = leBytes 4 (leAt c.f 44 4))) ∧
  Answers .hash 0x0901 checkHash runHash (fun c v x => Pure v x ∧ x.1 = okResp ((hashAt (byteAt c.f 32)).run (slice c.f 40 (leAt c.f 36 4)))) ∧
  Answers .hmacGenerate 0x0902 checkHmac runHmacGenerate (fun c v x => Pure v x ∧ x.1 = okResp (slice (hmacOf c) 0 64)) ∧
  Answers .hmacVerify 0x0903 checkHmac runHmacVerify (fun c v x => Pure v x ∧ Compared (hmacOf c = slice c.f 48 (byteAt c.f 41)) x) ∧
  Answers .kdf 0x0904 checkKdf runKdf (fun c v x => Pure v x ∧ x.1 = outputReplay c.f (c.key 1) (kdfBytes c)) ∧
  Answers .hashChunked 0x0905 checkSpan runHashChunked (fun c v x => x.2.2 = v ∧ x.1.status = Status.ok ∧ x.1.payload.take 4 = leBytes 4 (leAt c.f 44 4)) ∧
  Answers .hmacChunked 0x0906 checkSpan runHmacChunked (fun c v x => x.2.2 = v ∧ OkOr Status.verifyFailed x ∧
    (isLast c.f = false → x.1.payload.take 4 = leBytes 4 (leAt c.f 44 4)))

/-- Signatures (06 R160 to R165). A signing function answers OK with SIG_LEN, four reserved bytes and the signature, and makes no step of state. ECDSA_SIGN: under DETERMINISTIC the deterministic signature of the digest, and the instance does not move; else the signature under drawn candidates k; a private value out of range is ENGINE_FAULT (R165), and so is the case that 64 candidates in a row give r or s of 0 (the model's bound, log 199). EDDSA_SIGN: the signature of the message under the context, without a draw. RSA_SIGN: of SCHEME 1 the PKCS #1 v1.5 encoding under the private operation, without a draw; of SCHEME 2 the PSS encoding with a salt drawn from the instance, none where SALT_LEN is 0. MLDSA_SIGN: under DETERMINISTIC with 32 zero bytes and without a draw, else hedged with 32 drawn bytes. The four verifying functions answer OK where the signature verifies and VERIFY_FAILED where it does not, without payload; they move at most the prepared domain of a loaded curve. -/
def Obligations.SignatureFunctionsAnswer : Prop :=
  Answers .ecdsaSign 0x0A01 checkSign runEcdsaSign (fun c v x => x.2.1 = [] ∧
    let k := c.key 0
    let d := domainAt c.gal k.keyType
    let p := ecPrivate d k.material
    let f := signFields c.f
    let u := useKeyDomain c.g k.keyType v
    (scalarOk d p = false → x.1 = privateFault ∧ x.2.2 = u) ∧
    (∀ rs, scalarOk d p = true → fnBit0 c.f = true → ecdsaDeterministic d.curve p (sigDigest f) (hashAt f.hash).hmac (hashAt f.hash).len = some rs →
      x.1 = signResp (ecdsaEncode d.curve rs) ∧ x.2.2 = u) ∧
    (∀ rs w, scalarOk d p = true → fnBit0 c.f = false → drawnEcdsa c d p (sigDigest f) 64 u = (some rs, w) →
      x.1 = signResp (ecdsaEncode d.curve rs) ∧ x.2.2 = w ∧ w = { u with rng := w.rng, freeCount := w.freeCount }) ∧
    (∀ w, scalarOk d p = true → fnBit0 c.f = false → drawnEcdsa c d p (sigDigest f) 64 u = (none, w) → x.1 = privateFault ∧ x.2.2 = w)) ∧
  Answers .eddsaSign 0x0A03 checkSign runEddsaSign (fun c v x => Pure v x ∧
    x.1 = signResp (edSign (edOf (c.key 0).keyType) ((c.key 0).material.take (edOf (c.key 0).keyType).len) (signFields c.f).ctx (signFields c.f).msg)) ∧
  Answers .rsaSign 0x0A05 checkSign runRsaSign (fun c v x => DrawsOnly v x ∧
    let k := c.key 0
    let f := signFields c.f
    let n := rsaLen k.keyType
    (f.scheme = 1 → Pure v x ∧ x.1 = signResp (beBytes n (rsaPrivate k.keyType k.material (ofBE (pkcs1Encode f.hash (sigDigest f) n))))) ∧
    (f.scheme = 2 → f.salt = 0 → Pure v x ∧ x.1 = signResp (beBytes n (rsaPrivate k.keyType k.material (ofBE (pssEncode (hashAt f.hash).run (sigDigest f) [] (8 * n - 1)))))) ∧
    (f.scheme = 2 → f.salt ≠ 0 → x.2.2 = (drawBytes (drawInstance c) f.salt v).2 ∧
      x.1 = signResp (beBytes n (rsaPrivate k.keyType k.material (ofBE (pssEncode (hashAt f.hash).run (sigDigest f) (drawBytes (drawInstance c) f.salt v).1 (8 * n - 1))))))) ∧
  Answers .mldsaSign 0x0A07 checkSign runMldsaSign (fun c v x => DrawsOnly v x ∧
    let k := c.key 0
    let f := signFields c.f
    (fnBit0 c.f = true → Pure v x ∧ x.1 = signResp (dsaSign (dsaOf k.keyType) (k.material.take 32) f.ctx f.msg (zeros 32))) ∧
    (fnBit0 c.f = false → x.2.2 = (drawBytes (drawInstance c) 32 v).2 ∧
      x.1 = signResp (dsaSign (dsaOf k.keyType) (k.material.take 32) f.ctx f.msg (drawBytes (drawInstance c) 32 v).1))) ∧
  (∀ p ∈ [((.ecdsaVerify : Fin 128 → Instr), 0x0A02, ecTypes), (.eddsaVerify, 0x0A04, edTypes), (.rsaVerify, 0x0A06, rsaTypes), (.mldsaVerify, 0x0A08, dsaTypes)],
    Answers p.1 p.2.1 (checkVerify p.2.2) runVerify (fun c v x => x.2.1 = [] ∧ x.2.2 = useKeyDomain c.g (verifyType c) v ∧
      Compared (verifies c.gal (verifyType c) (verifyKey c) (verifyFields c.f) (verifySig c.f) = true) x))

/-- Agreement, curves and random bytes (06 R159, R163, R165, R166). ECDH answers the key derived from the shared point, wrapped as a block, PARAM_REJECTED for a shared point at infinity, ENGINE_FAULT for a private value out of range. ECDH_EPHEMERAL draws a scalar and answers the derived key with the ephemeral public key as extra output. MLKEM_ENCAPS draws 32 bytes and answers the derived key with the ciphertext; MLKEM_DECAPS the derived key, implicit rejection included. RSA_OAEP_DECRYPT answers the recovered value where it decodes and is KEY_BYTES long, else VERIFY_FAILED. CURVE_LOAD stores the record with the outcome of its checks and answers RESULT and the mask, or QUOTA_EXCEEDED and nothing is stored; CURVE_QUERY answers what the record holds. RANDOM_BYTES answers COUNT bytes of its gallery's instance and moves only that. None makes a step of state but CURVE_LOAD. -/
def Obligations.AgreementFunctionsAnswer : Prop :=
  Answers .ecdh 0x0B01 checkAgree runEcdh (fun c v x => x.2.1 = [] ∧
    let k := c.key 0
    let d := domainAt c.gal k.keyType
    let p := ecPrivate d k.material
    x.2.2 = useKeyDomain c.g k.keyType v ∧
    (scalarOk d p = false → x.1 = privateFault) ∧
    (scalarOk d p = true → sharedSecret d p (agreePub c.f 50) = none → x.1 = statusOnly Status.paramRejected) ∧
    (∀ z, scalarOk d p = true → sharedSecret d p (agreePub c.f 50) = some z →
      x.1 = outputReplay c.f (c.key 1) (agreedKey (byteAt c.f 48) z (agreeInfo c.f 50 52) (templateBytes c.f)))) ∧
  Answers .ecdhEphemeral 0x0B02 (checkEphemeral ecTypes) runEphemeral (fun c v x => x.2.1 = [] ∧
    let kt := leAt c.f 40 4
    let d := domainAt c.gal kt
    let p := drawScalar (drawInstance c) d (useKeyDomain c.g kt v)
    (∀ z q, sharedSecret d p.1 (agreePub c.f 46) = some z → ecPublic d.curve p.1 = some q →
      let o := outputDrawn c (c.key 0) (agreedKey (byteAt c.f 44) z (agreeInfo c.f 46 48) (templateBytes c.f)) (ecEncode d.curve q) p.2
      x.1 = o.1 ∧ x.1.status = Status.ok ∧ x.2.2 = o.2) ∧
    (sharedSecret d p.1 (agreePub c.f 46) = none → x.1 = statusOnly Status.paramRejected ∧ x.2.2 = p.2)) ∧
  Answers .mlkemEncaps 0x0B03 (checkEphemeral kemTypes) runEncaps (fun c v x => DrawsOnly v x ∧
    let m := drawBytes (drawInstance c) 32 v
    let e := kemEncaps (kemOf (leAt c.f 40 4)) (agreePub c.f 46) m.1
    let o := outputDrawn c (c.key 0) (agreedKey (byteAt c.f 44) e.1 (agreeInfo c.f 46 48) (templateBytes c.f)) e.2 m.2
    x.1 = o.1 ∧ x.1.status = Status.ok ∧ x.2.2 = o.2) ∧
  Answers .mlkemDecaps 0x0B04 checkAgree runDecaps (fun c v x => Pure v x ∧
    let k := c.key 0
    let dk := (kemKeyGen (kemOf k.keyType) (k.material.take 32) ((k.material.drop 32).take 32)).2
    x.1 = outputReplay c.f (c.key 1) (agreedKey (byteAt c.f 48) (kemDecaps (kemOf k.keyType) dk (agreePub c.f 50)) (agreeInfo c.f 50 52) (templateBytes c.f))) ∧
  Answers .rsaOaepDecrypt 0x0B05 checkOaep runOaep (fun c v x => Pure v x ∧
    let k := c.key 0
    let h := hashAt (byteAt c.f 48)
    let em := beBytes (rsaLen k.keyType) (rsaPrivate k.keyType k.material (ofBE (agreePub c.f 50)))
    (∀ m, oaepDecode h.run h.len (agreeInfo c.f 50 52) em = some m → m.length = templateBytes c.f → x.1 = outputReplay c.f (c.key 1) m) ∧
    (∀ m, oaepDecode h.run h.len (agreeInfo c.f 50 52) em = some m → m.length ≠ templateBytes c.f → x.1 = statusOnly Status.verifyFailed) ∧
    (oaepDecode h.run h.len (agreeInfo c.f 50 52) em = none → x.1 = statusOnly Status.verifyFailed)) ∧
  Answers .curveLoad 0x0B10 checkCurveLoad runCurveLoad (fun c v x => ∀ g, gal v c.g = some g →
    let slot := leAt c.f 32 3
    let val := fun i => ofBE (loadedValue c.f i)
    let r := plainRecord 6 c.g slot ((List.range 6).flatMap (loadedValue c.f))
    let bad := (curveChecks (drawInstance c) (leAt c.f 36 2) (leAt c.f 38 2) { p := val 0, a := val 1, b := val 2, gx := val 3, gy := val 4, n := val 5 } v).1
    let verdict := [BitVec.ofNat 8 (b2n bad.isSome), BitVec.ofNat 8 ((bad.map (2 ^ ·)).getD 0)]
    (slotQuotaOk g slot r = false → x.1 = statusOnly Status.quotaExceeded ∧ x.2.1 = [] ∧ x.2.2 = latchGallery c.g 19 v) ∧
    (slotQuotaOk g slot r = true → x.1 = okResp (verdict ++ zeros 6) ∧
      x.2.1 = [.vrecord c.g slot (some { r with keyId := leBytes 2 (leAt c.f 36 2) ++ leBytes 2 (leAt c.f 38 2) ++ verdict })])) ∧
  Answers .curveQuery 0x0B11 checkCurveQuery runCurveQuery (fun c v x => Pure v x ∧ ∀ r, queriedCurve c = some r → x.1 = okResp (slice r.keyId 0 8 ++ sha256 r.material)) ∧
  Answers .randomBytes 0x0C01 checkRandom runRandom (fun c v x => x.1 = okResp (drawBytes (drawInstance c) (leAt c.f 32 4) v).1 ∧ DrawsOnly v x ∧
    x.2.2 = (drawBytes (drawInstance c) (leAt c.f 32 4) v).2)

/-- Keys of the Vitrine (07 R184, R189 to R192, R197). ACCESSION is judged against its gallery as the command took it, with the slot it writes as it stands (R98, R105): the first check of Table 7-4 that fails is its answer, and nothing else changes; where none fails and the quota allows it, a message of kinds 1 to 6 stores the record made of its payload and answers its generation, its physical records, its check value and a key pair's public key, and a message of kind 7 stores the record with its budget, each with the accession counter; a payload that fails is REJECTED at PAYLOAD. DEACCESSION leaves a tombstone where a key was and an empty slot where another record was, and advances the key-state generation. KEY_QUERY and ACCESSION_INFO answer and change nothing. CEREMONY_ACCESSION, where the checks of its message pass, takes up an authority, a component or a custodian list. -/
def Obligations.KeyFunctionsAnswer : Prop :=
  Answers .accession 0x0D01 checkMessage runAccession (fun c v x => ∀ g, gal v c.g = some g →
    let m := accMsg c.f
    let w := messageView c m g
    (∀ r, headChecks [1, 2, 3, 4, 5, 6, 7] false v m c.g w = some r → x = (r, [], v)) ∧
    (∀ r, headChecks [1, 2, 3, 4, 5, 6, 7] false v m c.g w = none → slotChecks m c.g w = some r → x = (r, [], v)) ∧
    (headChecks [1, 2, 3, 4, 5, 6, 7] false v m c.g w = none → slotChecks m c.g w = none →
      (accQuotaOk { w with records := g.records } m = false → x.1 = statusOnly Status.quotaExceeded ∧ x.2.1 = []) ∧
      (∀ r, accQuotaOk { w with records := g.records } m = true → m.kind = 7 → recordAt w m.slot = some r →
        x.1 = accessionResp w { rebudget m r with kind := 1 } ∧ .vrecord c.g m.slot (some (rebudget m r)) ∈ x.2.1 ∧ .accession c.g m.counter ∈ x.2.1) ∧
      (accQuotaOk { w with records := g.records } m = true → m.kind ≠ 7 → parentChecks m w = none → strengthChecks m w = none →
        (∀ mat keyId u, payloadMaterial (drawInstance c) w m (useMessageDomain c.g m v) = (some (mat, keyId), u) →
          x.1 = accessionResp w (newRecord w m mat keyId) ∧ .vrecord c.g m.slot (some (newRecord w m mat keyId)) ∈ x.2.1 ∧ .accession c.g m.counter ∈ x.2.1) ∧
        (∀ u, payloadMaterial (drawInstance c) w m (useMessageDomain c.g m v) = (none, u) → x = (rejected 10 0, [], u))))) ∧
  Answers .deaccession 0x0D02 checkDeaccession runDeaccession (fun c v x => ∀ g r, gal v c.g = some g → recordAt g (leAt c.f 32 3) = some r →
    x.1 = okResp [] ∧ (∃ f, x.2.1 = [.vrecord c.g (leAt c.f 32 3) (if isKey r then some (tombstone r) else none), f]) ∧
    ∃ g', gal x.2.2 c.g = some g' ∧ recordAt g' (leAt c.f 32 3) = (if isKey r then some (tombstone r) else none) ∧ g'.keyGen = (g.keyGen + 1) % 2 ^ 32) ∧
  Answers .keyQuery 0x0D03 checkKeyQuery runKeyQuery (fun c v x => Pure v x ∧ ∀ r, recordAt c.gal (leAt c.f 32 3) = some r →
    x.1 = okResp (recordHead r ++ leBytes 4 (publicOf c.gal r).length ++ zeros 4 ++ publicOf c.gal r)) ∧
  Answers .accessionInfo 0x0D04 (fun _ _ => none) runAccessionInfo (fun c v x => Pure v x ∧ ∀ g, gal v c.g = some g →
    x.1 = okResp (accessionInfo v g ++ identitySign v (accessionInfo v g))) ∧
  Answers .ceremonyAccession 0x0E21 checkMessage runCeremony (fun c v x => ∀ g, gal v c.g = some g →
    let m := accMsg c.f
    let refusal := orElseResp (headChecks [6, 8, 9] (openFor c m v) v m c.g g) (slotChecks m c.g g)
    (∀ r, refusal = some r → x = (r, [], endLoad c v)) ∧
    (refusal = none → m.kind = 6 → let y := acceptKey c m g v
      x = (y.1, y.2.1, copyToCurator y.2.2)) ∧
    (refusal = none → m.kind = 8 → accQuotaOk g m = true →
      let y := acceptComponent c m g (((custodiansInForce v).map (·.k)).getD 2) v
      x = (y.1, y.2.1, endLoad c y.2.2)) ∧
    (refusal = none → m.kind = 9 → accQuotaOk g m = true → x = acceptCustodians m v))

/-- Galleries (02 R35 to R43, R54, Table 2-1). GALLERY_CREATE, while one of the 4,096 places is free, makes the gallery with the next value of the creation counter and the image's rights and answers its descriptor with that epoch and its home; GALLERY_BIND binds the window to the gallery; GALLERY_REMOVE answers OK and the gallery is homed here no longer; GALLERY_SET answers the descriptor with the selected fields changed, stores it, and advances the key-state generation, and changes nothing where it selects none; GALLERY_RIGHTS stores the byte with the rights that do not apply at the target as 0, a gallery's at a fence, a VF's without; GALLERY_QUERY answers the stored descriptor and METER_READ the first kept records from a number on, up to the count, and both change nothing; METER_ACK moves the acknowledged number and never back. GALLERY_UNBIND leaves the window bound, with its drain under way until the time-out it names. -/
def Obligations.GalleryFunctionsAnswer : Prop :=
  Answers .galleryCreate 0x0E01 createCheck createGallery (fun c v x => (freeIndex v).isSome = true →
    let d := { createdDescriptor v c.f with epoch := v.bb.creation + 1, home := placement v, partner := partnerField v }
    x.1 = okResp (descriptorBytes d) ∧ x.2.2.bb.creation = v.bb.creation + 1 ∧
    (gal x.2.2 d.id).map (fun g => (g.desc, g.rights)) = some (d, v.img.set.defaultRights)) ∧
  (∀ far : Option Descriptor, Answers (fun cell => .galleryBind ⟨cell, far⟩) 0x0E02 (bindRefusal far) (bindGallery far) (fun c _ x =>
    x.1 = okResp [] ∧ (win x.2.2 (leAt c.f 36 2)).gallery = some (leAt c.f 32 4))) ∧
  (∀ elsewhere : Bool, Answers (fun cell => .galleryRemove ⟨cell, elsewhere⟩) 0x0E04 (removeRefusal elsewhere) removeGallery (fun c _ x =>
    x.1 = okResp [] ∧ (∃ f, x.2.1 = [f, .gallery (leAt c.f 32 4) none 0 []]) ∧ gal x.2.2 (leAt c.f 32 4) = none)) ∧
  Answers .gallerySet 0x0E05 setRefusal setGallery (fun c v x => ∀ g, gal v (descriptorOf (slice c.f 40 64)).id = some g → g.desc.id = (descriptorOf (slice c.f 40 64)).id →
    let d := changedDescriptor (leAt c.f 32 4) (descriptorOf (slice c.f 40 64)) (storedDescriptor v g)
    x.1 = okResp (descriptorBytes d) ∧ (leAt c.f 32 4 = 0 → Pure v x) ∧
    (leAt c.f 32 4 ≠ 0 → ∃ g', gal x.2.2 d.id = some g' ∧ g'.keyGen = (g.keyGen + 1) % 2 ^ 32 ∧ g'.desc.slots = d.slots ∧ g'.desc.privileges = d.privileges)) ∧
  Answers .galleryRights 0x0E06 rightsRefusal changeRights (fun c v x =>
    let byte := byteAt c.f 37 &&& reachAt (leAt c.f 32 4) (byteAt c.f 36)
    x.1 = okResp [] ∧
    (vfOf (leAt c.f 32 4) = none → (∃ f, x.2.1 = [.rights (leAt c.f 32 4) (byteAt c.f 36) byte, f]) ∧
      ∀ g, gal v (leAt c.f 32 4) = some g → (gal x.2.2 (leAt c.f 32 4)).map (fun y => (y.rights, y.keyGen)) = some (g.rights.set (byteAt c.f 36) byte, (g.keyGen + 1) % 2 ^ 32)) ∧
    (∀ n, vfOf (leAt c.f 32 4) = some n → x.2.1 = [.rights (leAt c.f 32 4) (byteAt c.f 36) byte] ∧
      mget x.2.2.fab.vfRows n = some ((windowRow v n).set (byteAt c.f 36) byte))) ∧
  Answers .galleryQuery 0x0E07 queryRefusal queryGallery (fun c v x => Pure v x ∧ ∀ g, homed v (leAt c.f 32 4) = some g → x.1 = okResp (descriptorBytes (storedDescriptor v g))) ∧
  Answers .meterRead 0x0E08 readRefusal readMeter (fun c v x => Pure v x ∧
    x.1 = okResp (((keptRecords v).filter (fun r => decide (leAt c.f 32 8 ≤ r.number))).take (byteAt c.f 40) |>.flatMap (·.bytes))) ∧
  Answers .meterAck 0x0E09 ackRefusal ackMeter (fun c v x => x.1 = okResp [] ∧
    x.2.1 = [.meterAck (leAt c.f 32 4) (leAt c.f 40 8)] ∧ x.2.2 = { v with vit := x.2.2.vit } ∧
    mget x.2.2.vit.meterAcks (leAt c.f 32 4) = some (max (leAt c.f 40 8) (mgetD v.vit.meterAcks (leAt c.f 32 4) 0))) ∧
  (∀ (cell : Fin 128) (s : State) (c : Ctx), Serves cell 0x0E03 s c → unbindRefusal c s = none → (win s (leAt c.f 32 2)).unbind = none →
    ∃ t, exec (.galleryUnbind cell) s = .next t ∧ t = { s with fab := t.fab, doc := t.doc } ∧ t.doc.descs = s.doc.descs ∧
      (win t (leAt c.f 32 2)).unbind.map (fun u => (u.ticket, u.expiry)) = some (c.t, s.now + 1000 * leAt c.f 36 4) ∧ (win t (leAt c.f 32 2)).gallery = (win s (leAt c.f 32 2)).gallery)

/-- MODE_SET, LCS_TRANSITION, COUNTERS_READ (15 R368, R369, R370, 14 R350, 18 R428): a change of service mode waits for the next boundary; QUIESCE begins its drain and MODE_SET waits for it; UPDATE and CEREMONY are entered at once; a transition that no check refuses is to be burned, with nothing burned yet; the counts of the take are answered. -/
def Obligations.ModeAndLifeCycleFunctions : Prop :=
  (∀ (cell : Fin 128) (s : State) (c : Ctx), Serves cell 0x0E10 s c → modeUnderWay s c.t = false → modeRefusal c s = none → s.pow.pending = false → s.pow.ceremony = false →
    (byteAt c.f 32 ≤ 4 → s.pow.mode = .service → byteAt c.f 32 ≠ s.pow.service →
      exec (.modeSet cell) s = .next { s with
        doc := { s.doc with modeChange := some { target := byteAt c.f 32, ticket := some c.t } }, pow := { s.pow with pending := true } }) ∧
    (byteAt c.f 32 ≤ 4 → s.pow.mode = .quiesce → byteAt c.f 32 = s.pow.service →
      ∃ t, exec (.modeSet cell) s = .next t ∧ t.pow.mode = .service ∧ t.pow.quiesce = none ∧ (desc t c.t).bind (·.resp) = some (okResp [])) ∧
    (byteAt c.f 32 = 6 → s.pow.mode = .service →
      ∃ t, exec (.modeSet cell) s = .next t ∧ t.pow.mode = .quiesce ∧ t.doc.descs = s.doc.descs ∧ t.pow.quiesce = some {
        ticket := some c.t, drainAt := s.now + (if leAt c.f 36 4 = 0 then 100000000 else 1000 * leAt c.f 36 4), expired := false, complete := false, forUpdate := false }) ∧
    (byteAt c.f 32 = 7 → ∃ t, exec (.modeSet cell) s = .next t ∧ t.pow.mode = .update ∧ (desc t c.t).bind (·.resp) = some (okResp [])) ∧
    (byteAt c.f 32 = 8 → ∃ t, exec (.modeSet cell) s = .next t ∧ t.pow.mode = s.pow.mode ∧ t.pow.ceremony = true ∧ (desc t c.t).bind (·.resp) = some (okResp []))) ∧
  (∀ (cell : Fin 128) (s : State) (c : Ctx), Serves cell 0x0E40 s c → s.reg.burn = none →
    (transitionCheck c s = none → ∃ t, exec (.lcsTransition cell) s = .next t ∧ t.fuses = s.fuses ∧ t.doc = s.doc ∧
      t.reg.burn = some { target := byteAt c.f 32, token := byteAt c.f 33, ticket := some c.t, bus := 0, at_ := s.now }) ∧
    (∀ r, transitionCheck c s = some r →
      ∃ t, exec (.lcsTransition cell) s = .next t ∧ t = { s with doc := t.doc, cur := t.cur } ∧ (desc t c.t).bind (·.resp) = some r ∧ r.status = Status.accessDenied)) ∧
  Answers .countersRead 0x0F01 (fun _ _ => none) runCountersRead (fun c v x => Pure v x ∧ x.1 = okResp c.d.counts)

/-- The pair's, the migration's and the loan's functions (12 R300, R310, R314, R315, Table 12-6). PAIR_SWAP blocks originating commands and answers OK at once where every delta is acknowledged, else waits; PAIR_TAKEOVER answers OK and makes the member SOLE at TERM + 2, in the anchor record too unless a power-fail warning forbids it; MIGRATE_BEGIN answers OK, and the migration to the placement it names is under way; MIGRATE_CUT answers each stream's cut, its NEXT plus MARGIN; MIGRATE_END answers OK, the gallery's flows are gone and it is known as homed at the new placement; MIGRATE_ABORT answers OK and no migration is under way; LOAN_CREATE notes the loan, whose copy goes out, and leaves the command without a response until it has been applied; LOAN_END answers OK and the loan is noted no longer. The frames they send, and the handshakes those wait for, change nothing but the link's state, the random numbers drawn and what is noted of them. -/
def Obligations.PairFunctionsAnswer : Prop :=
  (∀ (cell : Fin 128) (s : State) (c : Ctx), Serves cell 0x0E30 s c → swapRefusal c s = none →
    let u := { s with pair := { s.pair with swapping := some c.t }, doc := { s.doc with blockOriginating := true } }
    (swapDrained c.t u = true → exec (.pairSwap cell) s = .next (answerFn c.t (okResp []) [] u)) ∧
    (swapDrained c.t u = false → exec (.pairSwap cell) s = .next u)) ∧
  Answers .pairTakeover 0x0E31 takeoverRefusal takeover (fun _ v x => x.1 = okResp [] ∧ x.2.1 = [] ∧ x.2.2.pair.role = .sole ∧ x.2.2.pair.term = v.pair.term + 2 ∧
    (v.pow.failWarning = false → x.2.2.vit = { v.vit with anchorTerm := v.pair.term + 2, anchorRole := roleCode .sole, anchorOwed := false }) ∧ x.2.2.doc = v.doc) ∧
  (∀ (full : Bool) (cell : Fin 128) (s v : State) (c : Ctx) (y : Gallery), Serves cell 0x0E32 s c → beginRefusal full c s = none → Charged c s v → gal v (leAt c.f 32 4) = some y →
    ∃ t, exec (.migrateBegin cell full) s = .next t ∧ (desc t c.t).bind (·.resp) = some (okResp []) ∧
      t = { v with doc := t.doc, vit := t.vit, pair := t.pair, rng := t.rng, freeCount := t.freeCount } ∧ t.doc.flows = v.doc.flows ∧
      gal t (leAt c.f 32 4) = some { y with migration := some { home := leAt c.f 36 2, partner := leAt c.f 38 2 } }) ∧
  Answers .migrateCut 0x0E33 cutRefusal cutMigration (fun c v x => ∀ m, (gal v (leAt c.f 32 4)).bind (·.migration) = some m →
    x.1 = okResp (leBytes 4 (galleryFlows v (leAt c.f 32 4)).length ++ zeros 4 ++
      (galleryFlows v (leAt c.f 32 4)).flatMap (fun p => cutEntry (p.2.sid, p.2.next + leAt c.f 36 4))) ∧
    x.2.1 = [.migration (leAt c.f 32 4) (some (m.home, m.partner)) (some ((galleryFlows v (leAt c.f 32 4)).map (fun p => (p.2.sid, p.2.next + leAt c.f 36 4))))]) ∧
  Answers .migrateEnd 0x0E34 endRefusal endMigration (fun c v x => ∀ y m, gal v (leAt c.f 32 4) = some y → y.migration = some m →
    x.1 = okResp [] ∧ x.2.1 = [.gallery (leAt c.f 32 4) none 0 []] ∧ (∀ p ∈ x.2.2.doc.flows, p.2.sid.gallery ≠ leAt c.f 32 4) ∧
    mget x.2.2.vit.remote (leAt c.f 32 4) = some { y.desc with home := m.home, partner := m.partner }) ∧
  Answers .migrateAbort 0x0E35 abortRefusal abortMigration (fun c v x => ∀ y m, gal v (leAt c.f 32 4) = some y → y.migration = some m →
    x.1 = okResp [] ∧ x.2.1 = [.migration (leAt c.f 32 4) none none] ∧ gal x.2.2 (leAt c.f 32 4) = some { y with migration := none } ∧
    x.2.2 = { v with vit := x.2.2.vit, pair := x.2.2.pair }) ∧
  (∀ (cell : Fin 128) (full : Bool) (s : State) (c : Ctx) (y : Gallery), Serves cell 0x0E36 s c → loanRefusal full c s = none → gal s (leAt c.f 32 4) = some y →
    mhas y.loans (leAt c.f 36 2) = false →
    ∃ t, exec (.loanCreate cell full) s = .next t ∧ t = { s with vit := t.vit, pair := t.pair, rng := t.rng, freeCount := t.freeCount } ∧
      gal t (leAt c.f 32 4) = some { y with loans := mset y.loans (leAt c.f 36 2) { partner := leAt c.f 38 2 } }) ∧
  Answers .loanEnd 0x0E37 endLoanRefusal endLoan (fun c v x => ∀ y, gal v (leAt c.f 32 4) = some y →
    x.1 = okResp [] ∧ x.2.1 = [.loan (leAt c.f 32 4) (leAt c.f 36 2) none] ∧
    gal x.2.2 (leAt c.f 32 4) = some { y with loans := mdel y.loans (leAt c.f 36 2) } ∧ x.2.2.fab = v.fab)

/-- What keeps a function from its effect (04 R97, 02 R44, 08 R216, R217, 10 R262, 11 R279, R280, 15 R373), of every function but LCS_TRANSITION. A cell that holds no command of the function does nothing. On the primary copy: a command behind an earlier one on a state object, one that writes the Vitrine under a power-fail warning, or one whose journal has no page, waits, and nothing changes; then a right or a nonce service that is missing is ACCESS_DENIED; then a check of the function that fails is answered as it says; then, without a spare mask seed, it waits, or where none can come any more its engine is avoided and it is offered elsewhere; with the random number service lost it is ENTROPY_FAILED; with its instance at its limit a reseed or instantiation is queued and it waits; budgets that ran out meanwhile are KEY_USE_LIMIT. The secondary copy of a command that originates or draws takes over what the primary has answered so far and changes nothing else. Said of MIGRATE_BEGIN and LOAN_CREATE where no frame waits for a handshake. -/
def Obligations.FunctionsTurnedAway : Prop :=
  ∀ p ∈ functionRows, ∀ (cell : Fin 128) (s : State), s.pair.farWaiting = [] ∨ p.code ∉ [0x0E32, 0x0E36] →
    (heldCommand cell p.code s = none → exec (p.row cell) s = .next s) ∧
    (∀ c, heldCommand cell p.code s = some c → (cellRegs s cell).secondary = true → (drawsNow c.d || c.d.originating) = true →
      exec (p.row cell) s = .next (updDesc c.t (fun d => { d with resp2 := d.resp }) s)) ∧
    (∀ c, heldCommand cell p.code s = some c → (cellRegs s cell).secondary = false →
      (mustWait s c = true → exec (p.row cell) s = .next s) ∧
      (mustWait s c = false → turnedAway s c = true → exec (p.row cell) s = .next (answerFn c.t (statusOnly Status.accessDenied) [] s)) ∧
      (mustWait s c = false → turnedAway s c = false →
        (∀ r, p.check c s = some r → exec (p.row cell) s = .next (answerFn c.t r [] s)) ∧
        (p.check c s = none → lacksSeed s c = true →
          exec (p.row cell) s = .next (if maskExhausted s (cell.val / 8) then offerWork (avoidEngine c.t (cell.val / 8) s) else s)) ∧
        (p.check c s = none → drawsNow c.d = true → lacksSeed s c = false → s.rng.fatal = true →
          exec (p.row cell) s = .next (answerFn c.t (statusOnly Status.entropyFailed) [] s)) ∧
        (p.check c s = none → drawsNow c.d = true → lacksSeed s c = false → s.rng.fatal = false → instServes s (drawInstance c) = false →
          exec (p.row cell) s = .next (queueDraw (drawInstance c) (mhas s.rng.drbgs (drawInstance c)) s)) ∧
        (Serves cell p.code s c → s.rng.starved = none → p.check c s = none → p.code ∉ [0x0E03, 0x0E10, 0x0E30, 0x0E36] → stepSlots c.g (owedSteps c) s = none →
          exec (p.row cell) s = .next (answerFn c.t (statusOnly Status.keyUseLimit) [] s))))

/-! The cipher engines and the hash units of the wings; `h` says which of the two. -/

/-- Claims, grants and releases of the cipher engine and of the hash unit (08 R209, R210, R212, R225, R227). By a cell of a wing in RUN that has no claim out: a claim with USE on the engine's target is granted at once while the engine is free, not clearing, not faulted and with a spare seed, with the next HOLD_ID; while another cell holds the engine it waits behind the claims made before it and, of those made at one moment, behind those of lower cells; where the holder was granted a claim of this same moment and has a higher index, the grant becomes this cell's and the holder's claim waits (what counts as one moment is the model's choice, log 162); without the right, or with no command served, it is DENIED. A grant read returns and clears the grant, and stalls while the claim waits. The holder's release ends the hold, erases keys and context and starts the clear; any other cell's does nothing. -/
def Obligations.EngineClaims : Prop :=
  ∀ (h : Bool) (cell : Fin 128) (s : State),
    let w := cell.val / 8
    let c := cell.val % 8
    let e := engineOf s h w
    let claims := (wing s w).power = .run ∧ (wing s w).quarantined = false ∧ (wing s w).retired = false ∧ e.owner ≠ some c ∧ e.queue.contains c = false ∧ mhas e.grants c = false ∧ e.reading.contains c = false
    (∀ t d g, claims → servedBy s cell = some (t, d, g) → hasRight d.rights (if h then 3 else 2) rightUSE = true → e.owner = none → e.queue = [] → e.clearing = false →
      e.faulted = false → (h || e.seedReady) = true →
      ∃ u, exec (if h then .hsuClaim cell else .cenClaim cell) s = .next u ∧ u = { s with pow := u.pow, doc := u.doc, cnt := u.cnt } ∧
        (engineOf u h w).owner = some c ∧ (engineOf u h w).gallery = g ∧ (engineOf u h w).holdFrom = s.now ∧ (engineOf u h w).holdBase = 0 ∧ (engineOf u h w).holdId = (e.holdId + 1) % 256 ∧
        mget (engineOf u h w).grants c = some { granted := true, denied := false, wiped := false, holdId := (e.holdId + 1) % 256 } ∧ (∀ k, k ≠ w → wing u k = wing s k)) ∧
    (∀ t d g o, claims → servedBy s cell = some (t, d, g) → hasRight d.rights (if h then 3 else 2) rightUSE = true → (!h && maskExhausted s w) = false → e.owner = some o → grantedNow e s.now = none ∨ o ≤ c →
      ∃ u, exec (if h then .hsuClaim cell else .cenClaim cell) s = .next u ∧ u = { s with pow := u.pow } ∧
        engineOf u h w = { e with
          queue := insertClaim s.now c e.claimedAt e.queue, claimedAt := mset e.claimedAt c s.now, waitFrom := some (e.waitFrom.getD s.now) } ∧ (∀ k, k ≠ w → wing u k = wing s k)) ∧
    (∀ t d g o, claims → servedBy s cell = some (t, d, g) → hasRight d.rights (if h then 3 else 2) rightUSE = true → (!h && maskExhausted s w) = false → grantedNow e s.now = some o → c < o →
      ∃ u, exec (if h then .hsuClaim cell else .cenClaim cell) s = .next u ∧ u = { s with pow := u.pow } ∧ (engineOf u h w).owner = some c ∧ (engineOf u h w).gallery = g ∧
        (engineOf u h w).queue = o :: e.queue ∧ (engineOf u h w).holdId = e.holdId ∧ (∀ k, k ≠ w → wing u k = wing s k)) ∧
    (claims → (∀ t d g, servedBy s cell = some (t, d, g) → hasRight d.rights (if h then 3 else 2) rightUSE = false) →
      ∃ u, exec (if h then .hsuClaim cell else .cenClaim cell) s = .next u ∧ u = { s with pow := u.pow } ∧
        engineOf u h w = { e with grants := mset e.grants c { granted := false, denied := true, wiped := false, holdId := e.holdId } } ∧ (∀ k, k ≠ w → wing u k = wing s k)) ∧
    (e.queue.contains c = false → ∃ u, exec (if h then .hsuGrantRead cell else .cenGrantRead cell) s = .next u ∧ u = { s with pow := u.pow } ∧
      engineOf u h w = { e with grants := mdel e.grants c, lastRead := mset e.lastRead c (((mget e.grants c).map grantWord).getD 0) } ∧ (∀ k, k ≠ w → wing u k = wing s k)) ∧
    (e.queue.contains c = true → ∃ u, exec (if h then .hsuGrantRead cell else .cenGrantRead cell) s = .next u ∧ u = { s with pow := u.pow } ∧
      engineOf u h w = { e with reading := if e.reading.contains c then e.reading else e.reading ++ [c] } ∧ (∀ k, k ≠ w → wing u k = wing s k)) ∧
    (e.owner = some c → ∃ u, exec (if h then .hsuRelease cell else .cenRelease cell) s = .next u ∧ u = { s with pow := u.pow, doc := u.doc, cnt := u.cnt } ∧
      (engineOf u h w).owner = none ∧ (engineOf u h w).clearing = true ∧ (engineOf u h w).keys = [] ∧ (engineOf u h w).ctx = List.replicate 8 0 ∧
      (engineOf u h w).busy = none ∧ (engineOf u h w).queue = e.queue ∧ (∀ k, k ≠ w → wing u k = wing s k)) ∧
    (e.owner ≠ some c → exec (if h then .hsuRelease cell else .cenRelease cell) s = .next s)

/-- Key loads and operations of the cipher engine and of the hash unit (08 R208, R213, R214, R224, R225, Tables 8-5, 8-6). A load by the holder, of an entry of its gallery that is live, suits the engine and has the entries it names, occupies the engine, with STEP after the key's step; any other is KEY_DENIED and loads nothing; one with STEP of a budget that has run out sets LIMIT and loads nothing; one with STEP behind a command that entered service earlier and has still to step the key is kept, and goes on when its end is due and the lock is free. An operation that the holder starts, that its gallery's row permits in wing memory (R44) and that the engine accepts, occupies it for its cycles; one that the engine does not accept sets OP_REFUSED; one that the row does not permit answers the command ACCESS_DENIED. The end of what an engine does loads the register, or leaves the output in wing memory and the context words. A load or an operation of another cell than the holder starts nothing. -/
def Obligations.EngineOperations : Prop :=
  (∀ (h : Bool) (cell : Fin 128) (entry : Fin 131072) (keyreg : Fin 4) (two step : Bool) (s : State),
    let w := cell.val / 8
    let e := engineOf s h w
    let row : Instr := if h then .hsuKeyload cell entry two step else if step then .cenKeyloadStep cell entry keyreg else .cenKeyload cell entry keyreg
    let count := if h && two then 2 else 1
    let reg := if h then 0 else keyreg.val
    let taken := fun (k : CacheEntry) => e.busy = none ∧ e.pendingLoad = none ∧ k.gallery = e.gallery ∧ k.count = count ∧ entrySuits h k = true ∧ entryLive s k = true
    (e.owner ≠ some (cell.val % 8) → exec row s = .next s) ∧
    (∀ k u, e.owner = some (cell.val % 8) → mget s.vit.cache entry = some k → taken k → (step && stepWaits s cell k) = false → (if step then loadStep cell k s else some s) = some u →
      ∃ t, exec row s = .next t ∧ t = { u with pow := t.pow } ∧ engineOf t h w = { engineOf u h w with busy := some {
        load := some (reg, entryKey entry k), dst := 0, out := [], ctxAfter := e.ctx, scratch := none, blocks := 0, endsAt := u.now + (if count = 2 then 300 else 200) } }) ∧
    (∀ k, e.owner = some (cell.val % 8) → mget s.vit.cache entry = some k → taken k → step = true → stepWaits s cell k = false → loadStep cell k s = none →
      ∃ t, exec row s = .next t ∧ t = { s with pow := t.pow } ∧ engineOf t h w = { e with status := setBit e.status 3 true }) ∧
    (∀ k, e.owner = some (cell.val % 8) → mget s.vit.cache entry = some k → taken k → (step && stepWaits s cell k) = true →
      ∃ t, exec row s = .next t ∧ t = { s with pow := t.pow } ∧ engineOf t h w = { e with pendingLoad := some (cell.val, entry.val, reg, count) }) ∧
    (e.owner = some (cell.val % 8) → (∀ k, mget s.vit.cache entry = some k → ¬ taken k) →
      ∃ t, exec row s = .next t ∧ t = { s with pow := t.pow } ∧ engineOf t h w = { e with status := setBit e.status 2 true })) ∧
  (∀ (cell : Fin 128) (word : W64) (ctx : Option (List W64)) (stores : List (Nat × Bytes)) (s : State),
    let w := cell.val / 8
    (∀ h : Bool, (engineOf s h w).owner ≠ some (cell.val % 8) →
      exec (if h then .hsuOp cell word ctx stores else .cenOp cell word ctx stores) s = .next (cellWrites cell stores s)) ∧
    ((engineOf s false w).owner = some (cell.val % 8) →
      let v := writeCtx false cell ctx (cellWrites cell stores s)
      let permitted := wingRight v cell rightRD && (wingRight v cell rightWR || decide (bits word.toNat 6 3 > 3))
      (permitted = false → exec (.cenOp cell word ctx stores) s = .next (denyAccess cell v)) ∧
      (permitted = true → cenRefused v w word.toNat = true → ∃ t, exec (.cenOp cell word ctx stores) s = .next t ∧ t = { v with pow := t.pow } ∧
        engineOf t false w = { engineOf v false w with status := setBit (engineOf v false w).status 4 true }) ∧
      (permitted = true → cenRefused v w word.toNat = false → v.rng.fatal = false →
        ∃ t, exec (.cenOp cell word ctx stores) s = .next t ∧ t = { v with pow := t.pow, cnt := t.cnt } ∧ (wing t w).mem = (wing v w).mem ∧
        ((wing t w).cen.busy).map (fun o => (o.load, o.dst, o.blocks, o.endsAt)) = some (none, 32 * bits word.toNat 63 48, bits word.toNat 28 16,
          v.now + cyclesNs (engineMHz v w) (cenCycles (bits word.toNat 6 3) (bit word.toNat 7) (bits word.toNat 28 16) ((cenLatency (bits word.toNat 2 0)).getD 0))))) ∧
    ((engineOf s true w).owner = some (cell.val % 8) →
      let v := writeCtx true cell ctx (cellWrites cell stores s)
      (wingRight v cell rightRD = false → exec (.hsuOp cell word ctx stores) s = .next (denyAccess cell v)) ∧
      (wingRight v cell rightRD = true → hsuRefused v w word.toNat = true → ∃ t, exec (.hsuOp cell word ctx stores) s = .next t ∧ t = { v with pow := t.pow } ∧
        engineOf t true w = { engineOf v true w with status := setBit (engineOf v true w).status 4 true }) ∧
      (wingRight v cell rightRD = true → hsuRefused v w word.toNat = false →
        ∃ t, exec (.hsuOp cell word ctx stores) s = .next t ∧ t = { v with pow := t.pow } ∧ (wing t w).mem = (wing v w).mem ∧
        ((wing t w).hsu.busy).map (fun o => (o.load, o.out, o.blocks, o.endsAt)) = some (none, [], bits word.toNat 28 16,
          v.now + cyclesNs (engineMHz v w) (bits word.toNat 28 16 * ((hsuBlock (bits word.toNat 2 0)).getD (64, 64)).2))))) ∧
  (∀ (wing : Fin 16) (o : EngineOp) (s : State), (engineOf s false wing).busy = some o → (engineOf s false wing).pendingLoad = none →
    ∃ t, exec (.cenOpDone wing) s = .next t ∧ t = { s with pow := t.pow, now := max s.now o.endsAt } ∧ (engineOf t false wing).busy = none ∧
      (∀ r k, o.load = some (r, k) → engineOf t false wing = { engineOf s false wing with
        busy := none, keys := mset (engineOf s false wing).keys r k, status := setBit (engineOf s false wing).status 1 true }) ∧
      (o.load = none → (engineOf t false wing).ctx = o.ctxAfter ∧ (engineOf t false wing).keys = (engineOf s false wing).keys ∧
        (Machine.wing t wing).mem = if o.out = [] then (Machine.wing s wing).mem else memWriteBytes 0 (Machine.wing s wing).mem o.dst o.out)) ∧
  (∀ (wing : Fin 16) (cell entry reg count : Nat) (k : CacheEntry) (s : State), (engineOf s false wing).busy = none → (engineOf s false wing).pendingLoad = some (cell, entry, reg, count) →
    mget s.vit.cache entry = some k → stepWaits s cell k = true → exec (.cenOpDone wing) s = .next s)

/-- Status and nonce reads (08 R221, R222, Table 8-6). The holder's status read completes what runs, returns the status bits and clears them, unless a load still waits for its key's lock: then it returns nothing yet; another cell's returns the alarms of the last second alone and clears nothing. A nonce read by the holder, for a command with the privilege, returns the counter's value, makes it the IV and advances the counter, and the reservation mark stays above the counter; without the privilege, or with the nonce service withdrawn, it returns 0 and sets NONCE_DENIED; the secondary copy's is given what the primary has drawn; another cell's returns 0. -/
def Obligations.EngineReads : Prop :=
  (∀ (h : Bool) (cell : Fin 128) (s : State),
    let w := cell.val / 8
    let c := cell.val % 8
    let word := fun (holder : Bool) (u : State) => statusWord holder (engineOf u h w).status (recent 1000000000 u.now (engineOf u h w).alarms).length
    ((engineOf s h w).owner ≠ some c → ∃ t, exec (if h then .hsuStatusRead cell else .cenStatusRead cell) s = .next t ∧ t = { s with pow := t.pow } ∧
      engineOf t h w = { engineOf s h w with lastRead := mset (engineOf s h w).lastRead c (word false s) }) ∧
    ((engineOf s h w).owner = some c → (engineOf (completeOp h w s) h w).pendingLoad.isSome = true →
      exec (if h then .hsuStatusRead cell else .cenStatusRead cell) s = .next (completeOp h w s)) ∧
    ((engineOf s h w).owner = some c → (engineOf (completeOp h w s) h w).pendingLoad = none → ∃ t, exec (if h then .hsuStatusRead cell else .cenStatusRead cell) s = .next t ∧
      t = { completeOp h w s with pow := t.pow } ∧ (engineOf t h w).status = 0 ∧ (engineOf t h w).busy = none ∧
      mget (engineOf t h w).lastRead c = some (word true (completeOp h w s)))) ∧
  (∀ (cell : Fin 128) (s : State),
    let w := cell.val / 8
    let c := cell.val % 8
    (∀ t d g, (wing s w).cen.owner = some c → servedBy s cell = some (t, d, g) → bit d.privileges 1 = true → s.fuses.nonceWithdrawn = false → (cellRegs s cell).secondary = false →
      ∃ u, exec (.cenNonceRead cell) s = .next u ∧ u = { s with pow := u.pow, doc := u.doc, rng := u.rng, bb := u.bb } ∧ u.rng.nonceCounter = s.rng.nonceCounter + 1 ∧
        (s.rng.nonceCounter < s.bb.nonceMark → u.rng.nonceCounter < u.bb.nonceMark) ∧
        mget (wing u w).cen.lastRead c = some (BitVec.ofNat 64 s.rng.nonceCounter) ∧
        (wing u w).cen.nonceIv = some (beBytes 4 (fixedField s) ++ beBytes 8 s.rng.nonceCounter)) ∧
    (∀ t d g n, (wing s w).cen.owner = some c → servedBy s cell = some (t, d, g) → bit d.privileges 1 = true → s.fuses.nonceWithdrawn = false →
      (cellRegs s cell).secondary = true → d.nonces[d.nonceTaken]? = some n →
      ∃ u, exec (.cenNonceRead cell) s = .next u ∧ u = { s with pow := u.pow, doc := u.doc } ∧ mget (wing u w).cen.lastRead c = some (BitVec.ofNat 64 n) ∧
        (wing u w).cen.nonceIv = some (beBytes 4 (fixedField s) ++ beBytes 8 n)) ∧
    ((wing s w).cen.owner = some c → (∀ t d g, servedBy s cell = some (t, d, g) → bit d.privileges 1 = false ∨ s.fuses.nonceWithdrawn = true) →
      ∃ u, exec (.cenNonceRead cell) s = .next u ∧ u = { s with pow := u.pow } ∧ mget (wing u w).cen.lastRead c = some 0 ∧
        (wing u w).cen.status = setBit (wing s w).cen.status 8 true ∧ (wing u w).cen.nonceIv = (wing s w).cen.nonceIv) ∧
    ((wing s w).cen.owner ≠ some c → ∃ u, exec (.cenNonceRead cell) s = .next u ∧ u = { s with pow := u.pow } ∧
      (wing u w).cen = { (wing s w).cen with lastRead := mset (wing s w).cen.lastRead c 0 }))

/-- What befalls an engine (08 R211, R212, R215 to R220, R227). The clear ends 56 cycles after its begin, and the oldest claim that waits, if there is one, is granted; a read-back that fails is a fault alarm instead. An overrun, at cycle 4,801 of the hold, ends the hold, erases the keys, starts the clear and sets OVERRUN, and the command is a COMMAND-scope error. A first fault alarm erases and faults the engine and ends its hold, and its command is a COMMAND-scope error. The self-check that passes clears the fault; one that fails is a WING-scope error. A change of mask seed takes up the spare one and asks for another; the refill puts a drawn one in its place, or, where the instance does not serve, queues its reseed. -/
def Obligations.EngineEvents : Prop :=
  (∀ (wing : Fin 16) (h : Bool) (s : State), (engineOf s h wing).clearing = true → (engineOf s h wing).queue = [] →
    ∃ t, exec (.engineClearDone wing h true) s = .next t ∧ t = { s with pow := t.pow, now := max s.now ((engineOf s h wing).holdFrom + cyclesNs (engineMHz s wing) (56 - (engineOf s h wing).holdBase)) } ∧
      engineOf t h wing = { engineOf s h wing with clearing := false }) ∧
  (∀ (wing : Fin 16) (h : Bool) (c : Nat) (rest : List Nat) (s : State), (engineOf s h wing).clearing = true → (engineOf s h wing).queue = c :: rest → (engineOf s h wing).owner = none →
    (engineOf s h wing).faulted = false → (h || (engineOf s h wing).seedReady) = true →
    ∃ t, exec (.engineClearDone wing h true) s = .next t ∧ (engineOf t h wing).clearing = false ∧ (engineOf t h wing).owner = some c ∧ (engineOf t h wing).queue = rest) ∧
  (∀ (wing : Fin 16) (h : Bool) (s : State), (engineOf s h wing).clearing = true →
    ∃ u, exec (.engineClearDone wing h false) s = .next (offerWork (engineAlarm h wing false u)) ∧ u = { s with pow := u.pow, now := u.now } ∧
      engineOf u h wing = { engineOf s h wing with clearing := false }) ∧
  (∀ (wing : Fin 16) (h ok : Bool) (s : State), (engineOf s h wing).clearing = false → exec (.engineClearDone wing h ok) s = .next s) ∧
  (∀ (wing : Fin 16) (h : Bool) (o : Nat) (s : State), (engineOf s h wing).owner = some o →
    ∃ u, exec (.engineHoldOverrun wing h) s = .next (offerWork (commandError 0x07
        (holderTicket s wing (some o)) (engineUnit h wing) u)) ∧
      u.now = max s.now ((engineOf s h wing).holdFrom + cyclesNs (engineMHz s wing) (4801 - (engineOf s h wing).holdBase)) ∧
      (engineOf u h wing).owner = none ∧ (engineOf u h wing).clearing = true ∧ (engineOf u h wing).keys = [] ∧
      (engineOf u h wing).status = setBit (engineOf s h wing).status 7 true ∧ u.vit = s.vit ∧ u.fab = s.fab) ∧
  (∀ (wing : Fin 16) (h : Bool) (s : State), (engineOf s h wing).owner = none → exec (.engineHoldOverrun wing h) s = .next s) ∧
  (∀ (wing : Fin 16) (h mask : Bool) (s : State), (engineOf s h wing).alarms = [] →
    ∃ u, exec (.engineFaultAlarm wing h mask) s = .next (offerWork (commandError (if h then 0x04 else if mask then 0x03 else 0x02)
        (holderTicket s wing (engineOf s h wing).owner) (engineUnit h wing) u)) ∧
      (engineOf u h wing).owner = none ∧ (engineOf u h wing).faulted = true ∧ (engineOf u h wing).keys = [] ∧ (engineOf u h wing).alarms = [s.now] ∧
      (engineOf u h wing).status = setBit (engineOf s h wing).status (if mask && !h then 6 else 5) true ∧ u.vit = s.vit ∧ u.fab = s.fab ∧ u.now = s.now) ∧
  (∀ (wing : Fin 16) (h : Bool) (s : State), (engineOf s h wing).faulted = true → (engineOf s h wing).escalated = false →
    ((engineOf s h wing).queue = [] → ∃ t, exec (.engineSelfCheckDone wing h true) s = .next t ∧ t = { s with pow := t.pow } ∧
      engineOf t h wing = { engineOf s h wing with faulted := false }) ∧
    (∃ u, exec (.engineSelfCheckDone wing h false) s = .next (offerWork (wingError (if h then 0x04 else 0x02) wing u)) ∧ u = { s with pow := u.pow } ∧
      engineOf u h wing = { engineOf s h wing with escalated := true })) ∧
  (∀ (wing : Fin 16) (h pass : Bool) (s : State), ((engineOf s h wing).faulted = false ∨ (engineOf s h wing).escalated = true) →
    exec (.engineSelfCheckDone wing h pass) s = .next s) ∧
  (∀ (wing : Fin 16) (s : State), (engineOf s false wing).seedReady = true → s.rng.fatal = false →
    ∃ t, exec (.maskSeedChange wing) s = .next t ∧ t = { s with pow := t.pow, cnt := t.cnt } ∧ engineOf t false wing = { engineOf s false wing with
      seedReady := false, refilling := true, seed := (engineOf s false wing).spare, spare := [], seedBlocks := (engineOf s false wing).seedBlocks - 65536, seedsUsed := sat 0xFFFFFFFF ((engineOf s false wing).seedsUsed + 1) }) ∧
  (∀ (wing : Fin 16) (s : State), (engineOf s false wing).seedReady = false → exec (.maskSeedChange wing) s = .next s) ∧
  (∀ (wing : Fin 16) (s : State), (engineOf s false wing).refilling = true → instServes s (4096 + wing) = true → (engineOf s false wing).queue = [] →
    ∃ t, exec (.seedRefillDone wing) s = .next t ∧ t = { s with pow := t.pow, rng := t.rng, freeCount := t.freeCount } ∧
      engineOf t false wing = { engineOf s false wing with seedReady := true, refilling := false, spare := (drawBytes (4096 + wing) 32 s).1 }) ∧
  (∀ (wing : Fin 16) (s : State), (engineOf s false wing).refilling = true → instServes s (4096 + wing) = false → s.rng.fatal = false →
    exec (.seedRefillDone wing) s = .next (queueDraw (4096 + wing) true s))

/-! The PK units. -/

/-- Ownership of a PK unit (09 R232, R234, R239, R240, Table 9-3). By a cell of a wing in RUN that has no claim out: a claim with USE on target 4 is granted at once where the unit is free and clean for its gallery, starts a wipe where it is free and not, and waits behind a holder; without the right, or with no command served, it is DENIED. A grant read returns and clears the grant, and stalls while the claim waits. Release, with no transfer in flight, and abandonment end the holder's hold, the second leaves the unit dirty and its transfer dropped; another cell's write does nothing. The end of a wipe, 4,160 cycles on, leaves the unit wiped, and grants the oldest claim that waits, if there is one. -/
def Obligations.PkuOwnership : Prop :=
  ∀ (cell : Fin 128) (s : State),
    let w := cell.val / 8
    let c := cell.val % 8
    let p := (wing s w).pku
    let claims := (wing s w).power = .run ∧ (wing s w).quarantined = false ∧ (wing s w).retired = false ∧ p.owner ≠ some c ∧ p.queue.contains c = false ∧ mhas p.grants c = false ∧ p.reading.contains c = false
    let granted := fun (wiped : Bool) => some ({ granted := true, denied := false, wiped := wiped, holdId := (p.holdId + 1) % 256 } : Grant)
    (∀ t d g, claims → servedBy s cell = some (t, d, g) → hasRight d.rights 4 rightUSE = true → p.owner = none → p.queue = [] → p.wiping = false → p.faulted = false →
      p.dirty = false → p.gallery = g →
      ∃ u, exec (.pkuClaim cell) s = .next u ∧ u = { s with pow := u.pow, doc := u.doc, cnt := u.cnt } ∧ (wing u w).pku.owner = some c ∧ (wing u w).pku.holdFrom = s.now ∧
        mget (wing u w).pku.grants c = granted false ∧ (wing u w).pku.slots = p.slots ∧ (∀ k, k ≠ w → wing u k = wing s k)) ∧
    (∀ t d g, claims → servedBy s cell = some (t, d, g) → hasRight d.rights 4 rightUSE = true → p.owner = none → p.queue = [] → p.wiping = false → p.faulted = false →
      (p.dirty = true ∨ p.gallery ≠ g) →
      ∃ u, exec (.pkuClaim cell) s = .next u ∧ u = { s with pow := u.pow } ∧ (wing u w).pku = { p with
        queue := [c], claimedAt := mset p.claimedAt c s.now, wiping := true, holdBase := 0, holdFrom := s.now } ∧ (∀ k, k ≠ w → wing u k = wing s k)) ∧
    (∀ t d g o, claims → servedBy s cell = some (t, d, g) → hasRight d.rights 4 rightUSE = true → p.owner = some o →
      ∃ u, exec (.pkuClaim cell) s = .next u ∧ u = { s with pow := u.pow } ∧ (wing u w).pku = { p with
        queue := insertClaim s.now c p.claimedAt p.queue, claimedAt := mset p.claimedAt c s.now }) ∧
    (claims → (∀ t d g, servedBy s cell = some (t, d, g) → hasRight d.rights 4 rightUSE = false) →
      ∃ u, exec (.pkuClaim cell) s = .next u ∧ u = { s with pow := u.pow } ∧
        (wing u w).pku = { p with grants := mset p.grants c { granted := false, denied := true, wiped := false, holdId := p.holdId } }) ∧
    (p.queue.contains c = false → ∃ u, exec (.pkuGrantRead cell) s = .next u ∧ u = { s with pow := u.pow } ∧
      (wing u w).pku = { p with grants := mdel p.grants c, lastRead := mset p.lastRead c (((mget p.grants c).map grantWord).getD 0) }) ∧
    (p.queue.contains c = true → ∃ u, exec (.pkuGrantRead cell) s = .next u ∧ u = { s with pow := u.pow } ∧
      (wing u w).pku = { p with reading := if p.reading.contains c then p.reading else p.reading ++ [c] }) ∧
    (p.owner = some c → p.dma = none → p.queue = [] → ∃ u, exec (.pkuRelease cell) s = .next (offerWork u) ∧ u = { s with pow := u.pow, doc := u.doc, cnt := u.cnt } ∧
      (wing u w).pku.owner = none ∧ (wing u w).pku.dirty = p.dirty ∧ (wing u w).pku.slots = p.slots ∧ (wing u w).pku.acc = p.acc) ∧
    (p.owner = some c → p.queue = [] → ∃ u, exec (.pkuAbandon cell) s = .next u ∧ u = { s with pow := u.pow, doc := u.doc, cnt := u.cnt } ∧
      (wing u w).pku.owner = none ∧ (wing u w).pku.dirty = true ∧ (wing u w).pku.dma = none) ∧
    (p.owner ≠ some c → exec (.pkuRelease cell) s = .next s ∧ exec (.pkuAbandon cell) s = .next s) ∧
    (∀ v : Fin 16, (wing s v).pku.wiping = true → (wing s v).pku.queue = [] →
      ∃ u, exec (.pkuWipeDone v true) s = .next u ∧ u = { s with pow := u.pow, cnt := u.cnt, now := max s.now ((wing s v).pku.holdFrom + cyclesNs (pkMHz s v) (4160 - (wing s v).pku.holdBase)) } ∧
        (wing u v).pku = wipedPku (wing s v).pku ∧ (∀ k, k ≠ v.val → wing u k = wing s k)) ∧
    (∀ (v : Fin 16) (o : Nat) (rest : List Nat), (wing s v).pku.wiping = true → (wing s v).pku.queue = o :: rest → (wing s v).pku.faulted = false →
      ∃ u, exec (.pkuWipeDone v true) s = .next u ∧ (wing u v).pku.owner = some o ∧ (wing u v).pku.queue = rest ∧ (wing u v).pku.slots = [] ∧ (wing u v).pku.wiping = false) ∧
    (∀ (v : Fin 16) (ok : Bool), (wing s v).pku.wiping = false → exec (.pkuWipeDone v ok) s = .next s)

/-- Arithmetic of a PK unit (09 R228, R230, R231, R234, R237, Table 9-4). For the holder of the unit and a word it accepts: where the operand's residues match and the lanes' identity holds, MAC leaves each lane's sum in the accumulator, and MAC_SHIFT each lane's sum without its low 64 bits; LOAD_ACC copies the slot into the accumulator, lane by lane, where its residues match, and STORE_ACC the accumulator into a slot. A residue or identity that does not hold, or under the Q path low bits that are not zero, is a fault alarm. A refused word sets OP_REFUSED. PKU_CFG takes lanes and QMOD within their bounds, sets OP_REFUSED outside them, and takes QINV in either case. A write by another cell leaves the unit as it is. -/
def Obligations.PkuArithmetic : Prop :=
  ∀ (cell : Fin 128) (word value : W64) (q : Option W64) (s : State),
    let w := cell.val / 8
    let p := (wing s w).pku
    let sh := laneShape p.lanes
    let a := slotAt p (bits word.toNat 16 8)
    let bs := if bit word.toNat 5 then p.qpath ++ List.replicate (sh.1 - p.qpath.length) 0 else bWords p (bits word.toNat 25 17) (bits word.toNat 31 26)
    let accs := if bit word.toNat 3 then List.replicate sh.1 0 else accLanes p
    let sums := (List.range sh.1).map (fun i => laneMac p.lanes p.qmod (bit word.toNat 4) (accs.getD i 0) (((List.range sh.1).map (laneOf a sh.2.1)).getD i 0) (bs.getD i 0))
    let holds := (List.range sh.1).all (fun i => residueHolds p.lanes (bit word.toNat 4) (accs.getD i 0) (((List.range sh.1).map (laneOf a sh.2.1)).getD i 0) (bs.getD i 0) (sums.getD i 0))
    let whole := slotResidues p (bits word.toNat 16 8) = residuesOf a
    (p.owner ≠ some (cell.val % 8) → exec (.mac cell word) s = .next (offerWork s) ∧ exec (.macShift cell word) s = .next (offerWork s) ∧
      exec (.loadAcc cell word) s = .next (offerWork s) ∧ exec (.storeAcc cell word) s = .next s ∧ exec (.pkuCfgWrite cell value q) s = .next s) ∧
    (p.owner = some (cell.val % 8) →
      (pkuOpRefused p 0 word.toNat = false → whole → holds = true → ∃ u, exec (.mac cell word) s = .next (offerWork u) ∧ u = { s with pow := u.pow } ∧
        (wing u w).pku = { p with acc := packLanes sh.2.2 sums, qpath := qPath p.lanes p.qinv sums } ∧ (∀ k, k ≠ w → wing u k = wing s k)) ∧
      (pkuOpRefused p 1 word.toNat = false → whole → holds = true → (bit word.toNat 5 && sums.any (fun x => x % 2 ^ 64 != 0)) = false →
        ∃ u, exec (.macShift cell word) s = .next (offerWork u) ∧ u = { s with pow := u.pow } ∧
        (wing u w).pku = { p with acc := packLanes sh.2.2 (sums.map (· / 2 ^ 64)), qpath := qPath p.lanes p.qinv (sums.map (· / 2 ^ 64)) }) ∧
      (pkuOpRefused p 2 word.toNat = false → whole → ∃ u, exec (.loadAcc cell word) s = .next (offerWork u) ∧ u = { s with pow := u.pow } ∧
        (wing u w).pku = { p with acc := packLanes sh.2.2 ((List.range sh.1).map (laneOf a sh.2.1)), qpath := qPath p.lanes p.qinv ((List.range sh.1).map (laneOf a sh.2.1)) }) ∧
      (pkuOpRefused p 3 word.toNat = false → ∃ u, exec (.storeAcc cell word) s = .next u ∧ u = { s with pow := u.pow } ∧
        (wing u w).pku = putSlot (bits word.toNat 40 32) (packLanes sh.2.1 accs) { p with acc := if bit word.toNat 3 then 0 else p.acc }) ∧
      (pkuOpRefused p 0 word.toNat = false → (¬ whole ∨ holds = false) → exec (.mac cell word) s = .next (offerWork (pkuAlarm w 2 0x05 s))) ∧
      (pkuOpRefused p 1 word.toNat = false → (¬ whole ∨ holds = false) → exec (.macShift cell word) s = .next (offerWork (pkuAlarm w 2 0x05 s))) ∧
      (pkuOpRefused p 1 word.toNat = false → whole → holds = true → (bit word.toNat 5 && sums.any (fun x => x % 2 ^ 64 != 0)) = true →
        exec (.macShift cell word) s = .next (offerWork (pkuAlarm w 3 0x05 s))) ∧
      (pkuOpRefused p 2 word.toNat = false → ¬ whole → exec (.loadAcc cell word) s = .next (offerWork (pkuAlarm w 2 0x05 s))) ∧
      (∀ op : Fin 3, pkuOpRefused p op word.toNat = true →
        ∃ u, exec (if op = 0 then .mac cell word else if op = 1 then .macShift cell word else .loadAcc cell word) s = .next (offerWork u) ∧ u = { s with pow := u.pow } ∧
          (wing u w).pku = { p with status := setBit p.status 6 true }) ∧
      (pkuOpRefused p 3 word.toNat = true → ∃ u, exec (.storeAcc cell word) s = .next u ∧ u = { s with pow := u.pow } ∧
        (wing u w).pku = { p with status := setBit p.status 6 true }) ∧
      (qmodOk (field value 1 0) (field value 46 16) = true → ∃ u, exec (.pkuCfgWrite cell value q) s = .next u ∧ u = { s with pow := u.pow } ∧
        (wing u w).pku = { p with qinv := (q.map (·.toNat)).getD p.qinv, lanes := field value 1 0, qmod := field value 46 16 }) ∧
      (qmodOk (field value 1 0) (field value 46 16) = false → ∃ u, exec (.pkuCfgWrite cell value q) s = .next u ∧ u = { s with pow := u.pow } ∧
        (wing u w).pku = { p with qinv := (q.map (·.toNat)).getD p.qinv, status := setBit p.status 6 true }))

/-- Operand DMA and what befalls a PK unit (09 R233, R235 to R238, Tables 9-5, 9-6). With no transfer in flight: one that the holder starts and the unit takes is under way, an outbound one with the bytes it moves; one with a refused field sets OP_REFUSED; one in wing memory that the row of the cell's command does not permit answers that command ACCESS_DENIED (02 R44); one by another cell, over a page of another gallery, or outbound from a dirty unit, sets DMA_DENIED and is a COMMAND-scope error. The end of an inbound transfer from wing memory, without SHUFFLE and SELECT, stores the operands in their slots with their residues; that of an outbound one to the operand space writes its bytes there. A status read, with no transfer in flight, returns the status, and clears it for the holder alone. An overrun, at cycle 262,145, ends the hold and leaves the unit dirty, and is a COMMAND-scope error; so is a first fault alarm, which besides faults the unit, clears accumulator and Q path and starts a wipe; the self-check that passes clears the fault and leaves the unit wiped, and one that fails is a WING-scope error. -/
def Obligations.PkuTransfersAndEvents : Prop :=
  (∀ (cell : Fin 128) (word : W64) (stores : List (Nat × Bytes)) (pages : List Nat) (out : Bool) (s : State),
    let w := cell.val / 8
    let row : Instr := if out then .pkuDmaOut cell word pages else .pkuDmaIn cell word stores pages
    let v := allocatePages cell pages (if out then s else cellWrites cell stores s)
    let p := (wing v w).pku
    let x := word.toNat / 2 * 2 + b2n out
    let permitted := bit x 1 || wingRight v cell (if out then rightWR else rightRD)
    p.dma = none →
    (p.owner = some (cell.val % 8) → dmaRefused p out x = false → permitted = true → (foreignPage v p.gallery x || (out && p.dirty)) = false →
      ∃ t, exec row s = .next t ∧ t = { v with pow := t.pow } ∧ (wing t w).pku = { p with dma := some { cell := cell, word := BitVec.ofNat 64 x, data := if out then dmaSlots p x else [] } }) ∧
    (p.owner = some (cell.val % 8) → dmaRefused p out x = true → ∃ t, exec row s = .next t ∧ t = { v with pow := t.pow } ∧ (wing t w).pku = { p with status := setBit p.status 6 true }) ∧
    (p.owner = some (cell.val % 8) → dmaRefused p out x = false → permitted = false → exec row s = .next (denyAccess cell v)) ∧
    ((p.owner ≠ some (cell.val % 8) ∨ (dmaRefused p out x = false ∧ permitted = true ∧ (foreignPage v p.gallery x || (out && p.dirty)) = true)) →
      ∃ u, exec row s = .next (offerWork (commandError 0x08 (((servedBy v cell).map (·.1)).getD 65536) (160 + w) u)) ∧ u = { v with pow := u.pow } ∧
        (wing u w).pku = { p with status := setBit p.status 5 true })) ∧
  (∀ (wing : Fin 16) (d : PkuDma) (s : State), (Machine.wing s wing).pku.dma = some d → bit d.word.toNat 0 = false → bit d.word.toNat 1 = false →
    bit d.word.toNat 20 = false → bits d.word.toNat 19 17 = 0 →
    ∃ u, exec (.pkuDmaDone wing) s = .next (offerWork u) ∧ u = { s with pow := u.pow, cnt := u.cnt } ∧
      (Machine.wing u wing).pku = (dmaEntries (updPku wing (fun u => { u with dma := none }) s) wing d.word.toNat).zipIdx.foldl
        (fun u p => putSlot (bits d.word.toNat 10 2 + p.2) p.1 u) { (Machine.wing s wing).pku with dma := none }) ∧
  (∀ (wing : Fin 16) (d : PkuDma) (s : State), (Machine.wing s wing).pku.dma = some d → bit d.word.toNat 0 = true → bit d.word.toNat 1 = true →
    ∃ u, exec (.pkuDmaDone wing) s = .next (offerWork u) ∧ u = { s with pow := u.pow, cnt := u.cnt } ∧ (Machine.wing u wing).pku = { (Machine.wing s wing).pku with dma := none } ∧
      u.pow.operandSpace.mem = memWriteBytes 0 s.pow.operandSpace.mem (64 * bits d.word.toNat 50 28) d.data) ∧
  (∀ (wing : Fin 16) (s : State), (Machine.wing s wing).pku.dma = none → exec (.pkuDmaDone wing) s = .next (offerWork s)) ∧
  (∀ (cell : Fin 128) (s : State),
    let w := cell.val / 8
    let p := (wing s w).pku
    p.dma = none → ∃ u, exec (.pkuStatusRead cell) s = .next (offerWork u) ∧ u = { s with pow := u.pow } ∧
      (wing u w).pku = { p with
        lastRead := mset p.lastRead (cell.val % 8) (statusWord (p.owner == some (cell.val % 8)) p.status (recent 1000000000 s.now p.alarms).length)
        status := if p.owner == some (cell.val % 8) then 0 else p.status }) ∧
  (∀ (wing : Fin 16) (s : State), (Machine.wing s wing).pku.owner.isSome = true → (Machine.wing s wing).pku.queue = [] →
    ∃ u, exec (.pkuHoldOverrun wing) s = .next (offerWork (commandError 0x07 (holderTicket s wing (Machine.wing s wing).pku.owner) (160 + wing) u)) ∧
      u.now = max s.now ((Machine.wing s wing).pku.holdFrom + cyclesNs (pkMHz s wing) (262145 - (Machine.wing s wing).pku.holdBase)) ∧
      (Machine.wing u wing).pku.owner = none ∧ (Machine.wing u wing).pku.dirty = true ∧ (Machine.wing u wing).pku.dma = none ∧
      (Machine.wing u wing).pku.status = setBit (Machine.wing s wing).pku.status 4 true) ∧
  (∀ (wing : Fin 16) (s : State), (Machine.wing s wing).pku.owner = none → exec (.pkuHoldOverrun wing) s = .next s) ∧
  (∀ (wing : Fin 16) (s : State), (Machine.wing s wing).pku.alarms = [] →
    ∃ u, exec (.pkuFaultAlarm wing) s = .next (offerWork (commandError 0x05 (holderTicket s wing (Machine.wing s wing).pku.owner) (160 + wing) u)) ∧
      u = { s with pow := u.pow, doc := u.doc, cnt := u.cnt } ∧ (Machine.wing u wing).pku.owner = none ∧ (Machine.wing u wing).pku.faulted = true ∧
      (Machine.wing u wing).pku.dirty = true ∧ (Machine.wing u wing).pku.wiping = true ∧ (Machine.wing u wing).pku.acc = 0 ∧ (Machine.wing u wing).pku.qpath = [] ∧
      (Machine.wing u wing).pku.alarms = [s.now] ∧ (Machine.wing u wing).pku.status = setBit (Machine.wing s wing).pku.status 2 true) ∧
  (∀ (wing : Fin 16) (s : State), (Machine.wing s wing).pku.faulted = true → (Machine.wing s wing).pku.escalated = false →
    ((Machine.wing s wing).pku.queue = [] → ∃ u, exec (.pkuSelfCheckDone wing true) s = .next u ∧ u = { s with pow := u.pow } ∧
      (Machine.wing u wing).pku = { wipedPku (Machine.wing s wing).pku with faulted := false }) ∧
    (∃ u, exec (.pkuSelfCheckDone wing false) s = .next (offerWork (wingError 0x05 wing u)) ∧ u = { s with pow := u.pow } ∧
      (Machine.wing u wing).pku = { (Machine.wing s wing).pku with escalated := true })) ∧
  (∀ (wing : Fin 16) (pass : Bool) (s : State), ((Machine.wing s wing).pku.faulted = false ∨ (Machine.wing s wing).pku.escalated = true) →
    exec (.pkuSelfCheckDone wing pass) s = .next s)

/-- The random number block (11 R269 to R273, R276, R277). The samples of a block of a contributing source: where they pass both tests, the source's count of failures is 0 again, and the block that its compressor makes of them enters the pool, or is discarded when the pool is full; where a test fails, in a block or in the start-up, the source restarts with its compressor clear, the pool stays as it is, the failure is counted, and event 23 latches; the fourth failure in a row is the fatal alarm. Samples that pass outside a block change nothing, and so does what a stopped source is said to have sampled. The end of the start-up samples makes the source contribute. A draw that the pool serves next, where it holds its blocks, reseeds or instantiates its instance, takes these blocks and leaves the queue. -/
def Obligations.RandomNumberBlock : Prop :=
  (∀ (n : Fin 8) (block : BitVec 1024) (p : Option Bool × Nat) (s : State), (source s n).phase = .live → testSamples (source s n) (samplesOf block) = .ok p →
    let l := (samplesOf block).foldl Config.lfsrStep (source s n).lfsr
    ∃ t, exec (.entropyBlock n block) s = .next t ∧ t = { s with rng := t.rng } ∧
      t.rng.pool = (if s.rng.pool.length < 64 then s.rng.pool ++ [leBytes 32 l.toNat] else s.rng.pool) ∧
      source t n = { source s n with consec := 0, blocks := sat 0xFFFFFFFF ((source s n).blocks + 1), lfsr := l, last := p.1, run := p.2 } ∧
      (∀ k, k ≠ n.val → source t k = source s k) ∧ t.rng.drbgs = s.rng.drbgs) ∧
  (∀ (n : Fin 8) (block : BitVec 1024) (s : State), (source s n).phase ≠ .live → exec (.entropyBlock n block) s = .next s) ∧
  (∀ (n : Fin 8) (block : BitVec 1024) (samples : List Bool) (apt inBlock : Bool) (s : State),
    let row : Instr := if inBlock then .entropyBlock n block else .healthTestFail n samples
    (if inBlock then (source s n).phase = .live else (source s n).phase ≠ .stopped) → testSamples (source s n) (if inBlock then samplesOf block else samples) = .error apt →
    ((source s n).consec + 1 < 4 → (∀ k, (source s k).failedAt = none) →
      ∃ t, exec row s = .next t ∧ t = { s with rng := t.rng, fab := t.fab, cur := t.cur } ∧ t.rng.pool = s.rng.pool ∧ t.rng.fatal = s.rng.fatal ∧
        source t n = { source s n with
          phase := .starting, failed := sat 0xFFFF ((source s n).failed + 1), consec := (source s n).consec + 1, lastRct := !apt, lastApt := apt, failedAt := some s.now
          lfsr := 0, last := none, run := 0 } ∧
        bit t.fab.mevCause 23 = true) ∧
    (4 ≤ (source s n).consec + 1 →
      ∃ u, exec row s = .next (rngFatalAlarm 1 n u) ∧ u = { s with rng := u.rng, fab := u.fab, cur := u.cur } ∧ (source u n).consec = (source s n).consec + 1)) ∧
  (∀ (n : Fin 8) (samples : List Bool) (p : Option Bool × Nat) (s : State), testSamples (source s n) samples = .ok p → exec (.healthTestFail n samples) s = .next s) ∧
  (∀ (n : Fin 8) (samples : List Bool) (s : State), (source s n).phase = .stopped → exec (.healthTestFail n samples) s = .next s) ∧
  (∀ (n : Fin 8) (s : State),
    ((source s n).phase = .starting → ∃ t, exec (.sourceStartUpDone n) s = .next t ∧ t = { s with rng := t.rng } ∧ source t n = { source s n with phase := .live } ∧ t.rng.pool = s.rng.pool) ∧
    ((source s n).phase ≠ .starting → exec (.sourceStartUpDone n) s = .next s)) ∧
  (∀ (n : Fin 4129) (q : PoolDraw) (d : Drbg) (s : State), nextDraw s = some q → q.inst = n.val → q.reseed = true → 2 ≤ s.rng.pool.length → mget s.rng.drbgs n = some d →
    ∃ u, exec (.drbgReseedDone n) s = .next (offerWork u) ∧ u = { s with rng := u.rng, doc := u.doc } ∧ u.rng.pool = s.rng.pool.drop 2 ∧
      mget u.rng.drbgs n = some { key := (drbgReseed d.key d.v (s.rng.pool.take 2).flatten).1, v := (drbgReseed d.key d.v (s.rng.pool.take 2).flatten).2, requests := 0 } ∧
      u.rng.queue = s.rng.queue.filter (fun x => x.inst != n.val)) ∧
  (∀ (n : Fin 4129) (q : PoolDraw) (s : State), nextDraw s = some q → q.inst = n.val → q.reseed = false → 4 ≤ s.rng.pool.length →
    ∃ u, exec (.drbgInstantiateDone n) s = .next (offerWork u) ∧ u = { s with rng := u.rng, doc := u.doc } ∧ u.rng.pool = s.rng.pool.drop 4 ∧
      mget u.rng.drbgs n = some { key := (drbgInstantiate (s.rng.pool.take 4).flatten (personalOf s n)).1, v := (drbgInstantiate (s.rng.pool.take 4).flatten (personalOf s n)).2, requests := 0 } ∧
      u.rng.queue = s.rng.queue.filter (fun x => x.inst != n.val))

/-! The span and the pair. -/

/-- Frames that arrive (12 R306, R308): one on a port that is down or has no keys is dropped, and so is one whose counter has been accepted; one whose tag fails is counted; one for another module is relayed under its source and its hops plus one, up to 4,095 hops; one of the pair that does not come from the partner on the pair link has no effect but its counter's. IDLE, PROBE and ECHO (12 R296, R308): an idle frame only shows that the link lives; a probe is answered at once; an echo gives half the round trip less the turn-around, rounded up to a whole nanosecond. -/
def Obligations.LinkFramesAreChecked : Prop :=
  ((∀ (i : Instr) (h : LinkHdr) (hs : Bool) (s : State), frameOf i = some (h, hs) →
    ((4 ≤ h.port ∨ (spanPort s h.port).up = false ∨ (hs = false ∧ (spanPort s h.port).auth = false)) → exec i s = .next s) ∧
    (h.port < 4 → (spanPort s h.port).up = true → (spanPort s h.port).auth = true → h.tagOk = false → (paired s && h.port == s.pair.port) = false →
      (recent 1000000000 s.now (spanPort s h.port).tagFails).length < 2 →
      ∃ t, exec i s = .next t ∧ t = { s with pair := t.pair } ∧ spanPort t h.port = { spanPort s h.port with
        authFail := sat 0xFFFF ((spanPort s h.port).authFail + 1), tagFails := s.now :: recent 1000000000 s.now (spanPort s h.port).tagFails }) ∧
    (h.port < 4 → (spanPort s h.port).up = true → (hs = true ∨ (spanPort s h.port).auth = true) → ((spanPort s h.port).auth = true → h.tagOk = true) →
      h.counter ≤ (spanPort s h.port).rxCounter → exec i s = .next s)) ∧
  (∀ (i : Instr) (h : LinkHdr) (cls : Nat) (body : FrameBody) (s : State), frameOf i = some (h, false) → relayOf i = some (cls, body) → Accepts false h s →
    h.dst ≠ 0xFFFF → h.dst ≠ s.img.set.moduleId →
    exec i s = .next (relayFrame h cls body (received h s)) ∧ (4095 ≤ h.hops + 1 → exec i s = .next (received h s)) ∧
    (∀ p n, routeTo s h.dst = some (p, n) → h.hops + 1 < 4095 → Sends s p → ∃ t, exec i s = .next t ∧ t = { s with pair := t.pair } ∧
      SentOne s t { port := p, cls := cls, dst := h.dst, counter := (spanPort s p).txCounter + 1, body := body, relayed := some (h.src, h.hops + 1), endToEnd := carriesState body })) ∧
  (∀ (i : Instr) (h : LinkHdr) (s : State), frameOf i = some (h, false) → ofPair i = true → Accepts false h s →
    (paired s = false ∨ h.port ≠ s.pair.port ∨ s.pair.linkUp = false) → exec i s = .next (received h s))) ∧
  ((∀ (h : LinkHdr) (s : State), Accepts false h s → exec (.idle h) s = .next (received h s)) ∧
  (∀ s : State, s.pair.linkUp = true → Sends s s.pair.port → ∃ t, exec .idleDue s = .next t ∧ t = { s with pair := t.pair } ∧
    SentOne s t { port := s.pair.port, cls := 0, dst := s.pair.partner, counter := (spanPort s s.pair.port).txCounter + 1, body := .idle } ∧
    (spanPort t s.pair.port).txCounter = (spanPort s s.pair.port).txCounter + 1) ∧
  (∀ s : State, s.pair.linkUp = false → exec .idleDue s = .next s) ∧
  (∀ (h : LinkHdr) (s : State), Accepts false h s → Sends s h.port → ∃ t, exec (.probe h) s = .next t ∧ t = { s with pair := t.pair } ∧
    SentOne s t { port := h.port, cls := 0, dst := 0xFFFF, counter := (spanPort s h.port).txCounter + 1, body := .echo }) ∧
  (∀ (h : LinkHdr) (trip turn : Nat) (s : State), Accepts false h s →
    ((spanPort s h.port).probeAt.isSome = true → ∃ t, exec (.echo h trip turn) s = .next t ∧ t = { s with pair := t.pair } ∧
      spanPort t h.port = { spanPort (received h s) h.port with hopNs := ceilDiv (trip - turn) 2, probeAt := none }) ∧
    ((spanPort s h.port).probeAt = none → exec (.echo h trip turn) s = .next (received h s))) ∧
  (∀ (port : Fin 4) (s : State),
    ((spanPort s port).auth = true → ∃ t, exec (.hopMeasurementDue port) s = .next t ∧ t = { s with pair := t.pair, rng := t.rng, freeCount := t.freeCount } ∧ (spanPort t port).probeAt = some s.now ∧
      (Sends s port → s.pair.farWaiting = [] → SentOne s t { port := port, cls := 0, dst := 0xFFFF, counter := (spanPort s port).txCounter + 1, body := .probe })) ∧
    ((spanPort s port).auth = false → exec (.hopMeasurementDue port) s = .next s)))

/-- A port's link (12 R304, R305, R308). It comes up where the span map names a peer, in 1, 2 or 4 lanes and no more than its good lanes train to, and a handshake begins. A HELLO of the neighbour that verifies is answered with KEYCONFIRM, one that does not is counted; the confirmations of both ends put new keys into force, unless their agreement yields none, which is counted as a failed check. A link that goes down drops its keys and latches its event. HELLO and KEYCONFIRM that name this module as their destination come from beyond a relay and agree the key of R307 with their source. -/
def Obligations.PortsAndHandshakes : Prop :=
  (∀ (port : Fin 4) (lanes : Nat) (s : State), (spanPort s port).up = false → (mapPeer s port).isSome = true → lanes = 1 ∨ lanes = 2 ∨ lanes = 4 → lanes ≤ widestLink s port → s.pow.main = true →
    ∃ t, exec (.spanLinkUp port lanes) s = .next t ∧ (spanPort t port).up = true ∧ (spanPort t port).lanes = lanes ∧ (spanPort t port).auth = (spanPort s port).auth ∧
      (spanPort t port).helloSent.isSome = true ∧ t.pair.routeChangedAt = s.now ∧ bit t.fab.mevCause (28 + port.val) = true ∧
      (∀ k, k ≠ port.val → spanPort t k = spanPort s k)) ∧
  (∀ (port : Fin 4) (lanes : Nat) (s : State), ((spanPort s port).up = true ∨ mapPeer s port = none ∨ (lanes ≠ 1 ∧ lanes ≠ 2 ∧ lanes ≠ 4) ∨ widestLink s port < lanes ∨ s.pow.main = false) →
    exec (.spanLinkUp port lanes) s = .next s) ∧
  (∀ (port : Fin 4) (s : State), (spanPort s port).up = true → (paired s && port.val == s.pair.port) = false →
    ∃ t, exec (.spanLinkDown port) s = .next t ∧ t = { s with pair := t.pair, fab := t.fab } ∧ (spanPort t port).up = false ∧ (spanPort t port).auth = false ∧
      (spanPort t port).hopKeys = [] ∧ (spanPort t port).lanes = 0 ∧ (spanPort t port).downs = sat 0xFFFF ((spanPort s port).downs + 1) ∧
      (s.img.set.moduleId, port.val) ∈ t.pair.deadLinks ∧ bit t.fab.mevCause (28 + port.val) = true ∧ (∀ k, k ≠ port.val → spanPort t k = spanPort s k)) ∧
  (∀ (port : Fin 4) (s : State), (spanPort s port).up = true → (paired s && port.val == s.pair.port) = true →
    ∃ u, exec (.spanLinkDown port) s = .next (linkLost u) ∧ u = { s with pair := u.pair, fab := u.fab } ∧ (spanPort u port).up = false ∧ (spanPort u port).hopKeys = []) ∧
  (∀ (port : Fin 4) (s : State), (spanPort s port).up = false → exec (.spanLinkDown port) s = .next s) ∧
  (∀ (h : LinkHdr) (body : Hello) (s : State), Accepts true h s → h.dst = 0xFFFF → helloOk s h.port body = false →
    ∃ t, exec (.hello h body) s = .next t ∧ t = { s with pair := t.pair } ∧
      spanPort t h.port = { spanPort (received h s) h.port with authFail := sat 0xFFFF ((spanPort s h.port).authFail + 1), helloGot := none }) ∧
  (∀ (h : LinkHdr) (body : Hello) (s : State), Accepts true h s → h.dst = 0xFFFF → helloOk s h.port body = true → ((spanPort s h.port).helloSent = none ∨ (spanPort s h.port).confirmGot = false) →
    ∃ t, exec (.hello h body) s = .next t ∧ t = { s with pair := t.pair, rng := t.rng, freeCount := t.freeCount } ∧ (spanPort t h.port).helloSent.isSome = true ∧
      (spanPort t h.port).helloGot = some body ∧ (spanPort t h.port).confirmSent = true ∧ (spanPort t h.port).hopKeys = (spanPort s h.port).hopKeys ∧
      (spanPort t h.port).auth = (spanPort s h.port).auth) ∧
  (∀ (h : LinkHdr) (sig : Bytes) (a b : Hello) (s : State), Accepts true h s → h.dst = 0xFFFF → (spanPort s h.port).helloSent = some a → (spanPort s h.port).helloGot = some b →
    p384Verify b.identity (hellosDigest a b) sig = true → (spanPort s h.port).confirmSent = true →
    (∀ keys, hopKeysOf "LX96-SPAN" (spanPort s h.port).ephemeral a b = some keys → (paired s && h.port == s.pair.port) = false →
      ∃ t, exec (.keyconfirm h sig) s = .next t ∧ t = { s with pair := t.pair, rng := t.rng, freeCount := t.freeCount } ∧ (spanPort t h.port).auth = true ∧
        (spanPort t h.port).peer = b.moduleId ∧ (spanPort t h.port).hopKeys = keys ∧ (spanPort t h.port).lower = lowerFirst a b ∧ (spanPort t h.port).keyedAt = s.now ∧
        (spanPort t h.port).handshakes = ((spanPort s h.port).handshakes + 1) % 65536 ∧ (spanPort t h.port).helloSent = none) ∧
    (hopKeysOf "LX96-SPAN" (spanPort s h.port).ephemeral a b = none → ∃ t, exec (.keyconfirm h sig) s = .next t ∧ t = { s with pair := t.pair } ∧
      spanPort t h.port = { spanPort (received h s) h.port with authFail := sat 0xFFFF ((spanPort s h.port).authFail + 1), confirmGot := true, helloGot := none })) ∧
  (∀ (h : LinkHdr) (sig : Bytes) (s : State), Accepts true h s → h.dst = 0xFFFF → (∀ a b, (spanPort s h.port).helloSent = some a → (spanPort s h.port).helloGot = some b →
      p384Verify b.identity (hellosDigest a b) sig = false) →
    ∃ t, exec (.keyconfirm h sig) s = .next t ∧ t = { s with pair := t.pair } ∧
      spanPort t h.port = { spanPort (received h s) h.port with authFail := sat 0xFFFF ((spanPort s h.port).authFail + 1), helloGot := none }) ∧
  (∀ (h : LinkHdr) (body : Hello) (s : State), Accepts false h s → h.dst ≠ 0xFFFF → h.dst = s.img.set.moduleId →
    (farHelloOk s h.src body = false → exec (.hello h body) s = .next (received h s)) ∧
    (∀ a, farHelloOk s h.src body = true → (farKey s h.src).helloSent = some a → (farKey s h.src).confirmGot = false →
      ∃ t, exec (.hello h body) s = .next t ∧ t = { s with pair := t.pair } ∧ farKey t h.src = { farKey s h.src with helloGot := some body, confirmSent := true }) ∧
    (farHelloOk s h.src body = true → (farKey s h.src).helloSent = none →
      ∃ t, exec (.hello h body) s = .next t ∧ t = { s with pair := t.pair, rng := t.rng, freeCount := t.freeCount } ∧
        (farKey t h.src).helloSent.isSome = true ∧ (farKey t h.src).helloGot = some body ∧ (farKey t h.src).confirmSent = true ∧ (farKey t h.src).keys = (farKey s h.src).keys)) ∧
  (∀ (h : LinkHdr) (sig : Bytes) (a b : Hello) (s : State), Accepts false h s → h.dst ≠ 0xFFFF → h.dst = s.img.set.moduleId →
    (farKey s h.src).helloSent = some a → (farKey s h.src).helloGot = some b →
    (p384Verify b.identity (hellosDigest a b) sig = false → exec (.keyconfirm h sig) s = .next (received h s)) ∧
    (∀ keys, p384Verify b.identity (hellosDigest a b) sig = true → (farKey s h.src).confirmSent = true → hopKeysOf "LX96-E2E" (farKey s h.src).ephemeral a b = some keys → keys ≠ [] →
      ∃ t, exec (.keyconfirm h sig) s = .next t ∧ t = { s with pair := t.pair } ∧ farKey t h.src = { keys := keys, lower := lowerFirst a b } ∧
        t.pair.farWaiting = s.pair.farWaiting.filter (fun w => w.2.1 != h.src))) ∧
  (∀ (port : Fin 4) (s : State),
    let p := spanPort s port
    let due := p.rxCounter - p.keyedRx ≥ 2 ^ 32 ∨ p.txCounter - p.keyedTx ≥ 2 ^ 32
    (p.auth = true → p.helloSent = none → ∃ t, exec (.rehandshakeDue port) s = .next t ∧
      t = { s with pair := t.pair, rng := t.rng, freeCount := t.freeCount, now := if due then s.now else max s.now (p.keyedAt + 3600000000000) } ∧
      (spanPort t port).helloSent.isSome = true ∧ (spanPort t port).hopKeys = p.hopKeys ∧ (spanPort t port).auth = true) ∧
    ((p.auth = false ∨ p.helloSent.isSome = true) → exec (.rehandshakeDue port) s = .next s))

/-- Loss of the pair link and the heartbeat (12 R296 to R301, Table 12-2). Silence of the link blocks originating commands until the verdict; a live heartbeat makes the tie-winner SOLE at TERM + 2 and the other REFUSING at TERM + 1, a silent one opens the dual-act window besides; a WITHDRAW frame makes the survivor SOLE at TERM + 1. A member that waits at its start for a link that does not come up takes its role at the time-out. A withdrawal ends once its deltas are acknowledged or 20 us have passed, and with it a MODULE handler, whose queued errors then follow (13 R331). -/
def Obligations.LossOfThePairLink : Prop :=
  (∀ s : State, s.pair.linkUp = true → s.pair.role = .originator → s.pair.resync = none → s.pair.swapping = none →
    ∃ u, exec .pairLinkSilence s = .next (offerWork u) ∧ u.now = max s.now ((spanPort s s.pair.port).lastFrame + 10000) ∧ u.pair.linkUp = false ∧ u.pair.hbPending = true ∧
      u.pair.declaredLost = true ∧ u.pair.role = .originator ∧ u.pair.term = s.pair.term ∧ u.doc.blockOriginating = true ∧ bit u.fab.mevCause 32 = true) ∧
  (∀ s : State, s.pair.linkUp = true → s.pair.role = .sole → s.pair.resync = none → s.pair.swapping = none →
    ∃ t, exec .pairLinkSilence s = .next t ∧ t.now = max s.now ((spanPort s s.pair.port).lastFrame + 10000) ∧ t.pair.linkUp = false ∧ t.pair.role = .sole ∧
      t.doc = s.doc ∧ bit t.fab.mevCause 32 = true) ∧
  (∀ s : State, s.pair.linkUp = false → exec .pairLinkSilence s = .next s) ∧
  (∀ s : State, exec .heartbeatToggle s = .next { s with pair := { s.pair with hbOut := rolePulses s.pair.role && !s.pair.hbOut } }) ∧
  (∀ s : State, (paired s = false → exec .heartbeatEdge s = .next s) ∧
    (paired s = true → s.pair.hbPending = false → exec .heartbeatEdge s = .next { s with pair := { s.pair with hbEdge := some s.now } }) ∧
    (paired s = true → s.pair.hbPending = true → ∃ u, exec .heartbeatEdge s = .next (offerWork u) ∧ u.pair.hbEdge = some s.now ∧ u.pair.hbPending = false ∧ u.pair.cause = causeLive ∧
      u.pair.role = (if s.pair.tieWinner then .sole else .refusing) ∧ u.pair.term = s.pair.term + (if s.pair.tieWinner then 2 else 1) ∧ u.pair.dualAct = s.pair.dualAct)) ∧
  (∀ s : State, s.pair.hbPending = true → ∃ u, exec .heartbeatSilent s = .next (startSplit (offerWork u)) ∧ u.pair.dualAct = true ∧ u.pair.dualActEnd = u.now + 2500000 ∧
    u.pair.role = (if s.pair.tieWinner then .sole else .refusing) ∧ u.pair.term = s.pair.term + (if s.pair.tieWinner then 2 else 1) ∧ u.pair.cause = causeSilent ∧
    u.now = max s.now ((s.pair.hbEdge.map (fun t => t + countsNs 12)).getD 0) ∧ bit u.fab.mevCause 32 = true) ∧
  (∀ s : State, s.pair.hbPending = false → s.pair.startTimeout = 0 →
    exec .heartbeatSilent s = .next { s with now := max s.now ((s.pair.hbEdge.map (fun t => t + countsNs 12)).getD 0) }) ∧
  (∀ s : State, s.pair.dualAct = true → ∃ u, exec .dualActWindowClose s = .next (offerWork u) ∧
    u = { s with now := max s.now s.pair.dualActEnd, pair := { s.pair with dualAct := false } }) ∧
  (∀ s : State, s.pair.dualAct = false → exec .dualActWindowClose s = .next s) ∧
  (∀ s : State, s.pair.startTimeout = 0 → exec .pairStartTimeout s = .next s) ∧
  (∀ s : State, s.pair.startTimeout ≠ 0 → paired s = true → s.pair.role = .withdrawn → s.pair.linkUp = false → s.pair.mismatch = false →
    heartbeatLive { s with now := max s.now s.pair.startTimeout } = false →
    ∃ u, exec .pairStartTimeout s = .next (offerWork u) ∧ u.now = max s.now s.pair.startTimeout ∧ u.pair.startTimeout = 0 ∧ u.pair.declaredLost = true ∧
      u.pair.role = (if s.pair.tieWinner then .sole else .refusing) ∧ u.pair.term = s.pair.term + (if s.pair.tieWinner then 2 else 1)) ∧
  (∀ (h : LinkHdr) (s : State), FromPartner h s → s.pair.role = .originator → s.pair.resync = none → s.pair.swapping = none →
    ∃ u, exec (.withdraw h) s = .next (offerWork u) ∧ u.pair.role = .sole ∧ u.pair.term = s.pair.term + 1 ∧ u.pair.cause = causeWithdraw ∧ u.pair.declaredLost = true ∧
      bit u.fab.mevCause 32 = true) ∧
  (∀ (h : LinkHdr) (s : State), FromPartner h s → s.pair.role = .sole → s.pair.resync = none → exec (.withdraw h) s = .next (received h s)) ∧
  (∀ s : State, s.pair.withdrawing = none → exec .withdrawSend s = .next s) ∧
  (∀ (at_ : Nat) (s : State), s.pair.withdrawing = some at_ →
    let when_ := if s.pair.unacked = [] ∨ s.pair.linkUp = false then s.now else max s.now (at_ + 20000)
    (s.err.active ≠ 3 → ∃ t, exec .withdrawSend s = .next t ∧ t.now = when_ ∧ t.pair.role = .withdrawn ∧ t.pair.term = s.pair.term ∧ t.pair.withdrawing = none ∧ t.err = s.err) ∧
    (s.err.active = 3 → ∃ u, exec .withdrawSend s = .next (handleQueued s.err.queued u) ∧ u.now = when_ ∧ u.pair.role = .withdrawn ∧ u.pair.term = s.pair.term ∧ u.pair.withdrawing = none ∧
      u.err = { s.err with active := 0, codes := [], queued := [] }))

/-- POSITION frames and cross-feed (12 R288, R289, R290, R292). A notice of a number that has its position here is acknowledged, one still to come is kept; an acknowledgement ends the wait of the command it names; an accepting verdict stands with the command that waits for it. An acknowledgement by the partner's host, a sealed stream of the partner and the end of a wait for loans are noted where they belong: that these travel in POSITION frames is the model's choice (logs 148, 183). Without an acknowledgement in time the whole frame goes to the partner, once; a frame fed across is placed as though the host had committed it to the window of the same number, or, of a distant stream, in the flow that this member holds for it. A port whose row lacks USE on the span egress sends nothing (02 R44). -/
def Obligations.PositionsAndCrossFeed : Prop :=
  (∀ (h : LinkHdr) (sid : StreamId) (q dig fi : Nat) (fl : Flow) (s : State), FromPartner h s → flowOf s sid = some fi → mget s.doc.flows fi = some fl →
    (q < fl.next → Sends s s.pair.port → ∃ t, exec (.position h (.notice sid q dig)) s = .next t ∧ t = { s with pair := t.pair } ∧
      SentOne s t { port := s.pair.port, cls := 1, dst := s.pair.partner, counter := (spanPort s s.pair.port).txCounter + 1, body := .position (.ack sid q) }) ∧
    (fl.next ≤ q → ∃ t, exec (.position h (.notice sid q dig)) s = .next t ∧ t = { s with pair := (received h s).pair, doc := t.doc } ∧
      mget t.doc.flows fi = some { fl with notices := (q, dig) :: fl.notices.filter (fun p => p.1 != q) } ∧ t.doc.descs = s.doc.descs)) ∧
  (∀ (h : LinkHdr) (sid : StreamId) (q dig : Nat) (s : State), FromPartner h s → flowOf s sid = none → exec (.position h (.notice sid q dig)) s = .next (received h s)) ∧
  (∀ (h : LinkHdr) (sid : StreamId) (q fi k : Nat) (d : Desc) (s : State), FromPartner h s → flowOf s sid = some fi → placedAt s fi q = some (k, d) → desc s k = some d →
    (∃ t, exec (.position h (.ack sid q)) s = .next t ∧ t = { s with pair := (received h s).pair, doc := t.doc } ∧ desc t k = some { d with positionAcked := true } ∧
      (∀ n, n ≠ k → desc t n = desc s n)) ∧
    (∃ u, exec (.position h (.loansDone sid q)) s = .next (offerWork u) ∧ u = { s with pair := (received h s).pair, doc := u.doc } ∧ desc u k = some { d with loanWait := [] } ∧
      (∀ n, n ≠ k → desc u n = desc s n))) ∧
  (∀ (h : LinkHdr) (sid : StreamId) (q fi k gen : Nat) (d : Desc) (fl : Flow) (s : State), FromPartner h s → flowOf s sid = some fi → mget s.doc.flows fi = some fl →
    judgedAt s fi q = some (k, d) → desc s k = some d → d.windowRefusal = false → d.st ≠ .released →
    ∃ u, exec (.position h (.verdict sid q (.accept gen))) s = .next (offerWork u) ∧ u = { s with pair := (received h s).pair, doc := u.doc } ∧
      desc u k = some { d with verdict := some (.accept gen) } ∧ (∀ n, n ≠ k → desc u n = desc s n)) ∧
  (∀ (h : LinkHdr) (sid : StreamId) (q : Nat) (x : Gallery) (s : State), FromPartner h s → gal s sid.gallery = some x →
    ∃ t, exec (.position h (.hostAck sid q)) s = .next t ∧ t = { s with pair := (received h s).pair, vit := t.vit } ∧
      gal t sid.gallery = some { x with journal := x.journal.map (fun e => if e.sid == sid && e.seq == q then { e with ackedThere := true } else e) } ∧
      (∀ k, k ≠ sid.gallery → gal t k = gal s k)) ∧
  (∀ (h : LinkHdr) (sid : StreamId) (epoch : Nat) (x : Gallery) (s : State), FromPartner h s → gal s sid.gallery = some x →
    (∃ t, exec (.position h (.seals sid epoch true)) s = .next t ∧ t = { s with pair := (received h s).pair, vit := t.vit } ∧
      gal t sid.gallery = some { x with
        sealPartner := (65536 * sid.fn + sid.stream) :: x.sealPartner.filter (· != 65536 * sid.fn + sid.stream)
        sealEpochs := mset x.sealEpochs sid.stream (max (mgetD x.sealEpochs sid.stream 0) epoch) } ∧
      (∀ k, k ≠ sid.gallery → gal t k = gal s k)) ∧
    (∃ t, exec (.position h (.seals sid epoch false)) s = .next t ∧ t = { s with pair := (received h s).pair, vit := t.vit } ∧
      gal t sid.gallery = some { x with sealPartner := x.sealPartner.filter (· != 65536 * sid.fn + sid.stream) } ∧ (∀ k, k ≠ sid.gallery → gal t k = gal s k))) ∧
  (∀ (ticket : Fin 65536) (d : Desc) (fl : Flow) (s : State), desc s ticket = some d → mget s.doc.flows d.flow = some fl →
    (mirroring s = true → d.positionAcked = false → d.crossFedOut = false → d.behind = none → d.frame ≠ [] →
      ∃ t, exec (.crossfeedTimeout ticket) s = .next t ∧ t = { s with pair := t.pair, doc := t.doc, now := max s.now (d.admitAt + 20000) } ∧
        desc t ticket = some { d with crossFedOut := true } ∧
        (Sends s s.pair.port → SentOne s t { port := s.pair.port, cls := 1, dst := s.pair.partner, counter := (spanPort s s.pair.port).txCounter + 1, body := .crossfeed fl.sid d.frame })) ∧
    ((mirroring s = false ∨ d.positionAcked = true ∨ d.crossFedOut = true ∨ d.behind.isSome = true ∨ d.frame = []) → exec (.crossfeedTimeout ticket) s = .next s)) ∧
  (∀ (h : LinkHdr) (sid : StreamId) (frame : Bytes) (s : State), FromPartner h s →
    (sid.place = placement s → sid.fn ≤ 1024 → sid.stream < 16 → (strm s sid.fn sid.stream).active = true → (strm s sid.fn sid.stream).enable = true →
      (win s sid.fn).gallery = some sid.gallery → 32 ≤ frame.length → exec (.crossfeed h sid frame) s = .next (offerWork (deliverFrame sid.fn sid.stream
        { frame := frame, large := decide (frame.length > 512), commitAt := s.now, admitAt := s.now, crossFed := true } (received h s)))) ∧
    (∀ fi, sid.place ≠ placement s → flowOf s sid = some fi → 32 ≤ frame.length → exec (.crossfeed h sid frame) s = .next (offerWork (placeFrame fi
        { frame := frame, large := decide (frame.length > 512), commitAt := s.now, admitAt := s.now, crossFed := true } (received h s)))) ∧
    ((frame.length < 32 ∨ (sid.place = placement s ∧ ((strm s sid.fn sid.stream).enable = false ∨ (win s sid.fn).gallery ≠ some sid.gallery)) ∨
      (sid.place ≠ placement s ∧ flowOf s sid = none)) → exec (.crossfeed h sid frame) s = .next (received h s)))

/-- Deltas and resynchronisation (12 R291, R292, R302, R303, Table 12-2). A STANDBY acknowledges a delta applied before again, and a new one waits for its turn; an acknowledgement covers those before it, and the one of a PAIR_SWAP's delta ends the ORIGINATOR's role. The terms decide which member is active; the other is RESYNC, and its results are collected; a record of the copy is put into its slot. At the copy's end the active member blocks originating commands; after the last delta the pair is formed at the active member's term plus one. A frame whose effect writes the Vitrine waits while the power-fail warning is active (15 R373); one that changes this module's keys needs the port's right (01 R20). -/
def Obligations.DeltasAndResynchronisation : Prop :=
  (∀ (h : LinkHdr) (b : Delta) (s : State), FromPartner h s →
    (s.pair.role ≠ .standby → s.pair.role ≠ .resync → exec (.delta h b) s = .next (received h s)) ∧
    (¬ Brings s h.port → exec (.delta h b) s = .next (received h s)) ∧
    (s.pair.role = .standby → Brings s h.port → b.number ≤ s.pair.lastDelta → Sends s s.pair.port → ∃ t, exec (.delta h b) s = .next t ∧ t = { s with pair := t.pair } ∧
      SentOne s t { port := s.pair.port, cls := 1, dst := s.pair.partner, counter := (spanPort s s.pair.port).txCounter + 1, body := .deltaAck b.number } ∧
      t.pair.lastDelta = s.pair.lastDelta ∧ t.pair.waitingDeltas = s.pair.waitingDeltas) ∧
    (s.pair.role = .standby → Brings s h.port → s.pair.lastDelta < b.number →
      ∃ u, exec (.delta h b) s = .next (offerReady (drainDeltas (u.pair.waitingDeltas.length + 1) u)) ∧
        u = { s with pair := { (received h s).pair with waitingDeltas := s.pair.waitingDeltas.filter (fun d => d.number != b.number) ++ [b] } })) ∧
  (∀ (h : LinkHdr) (n : Nat) (s : State), FromPartner h s → s.pair.swapping = none →
    exec (.deltaAck h n) s = .next { s with pair := { (received h s).pair with
      unacked := s.pair.unacked.filter (fun d => decide (d.number > n)), undo := s.pair.undo.filter (fun u => decide (u.1 > n)) } }) ∧
  (∀ (h : LinkHdr) (n k m : Nat) (d : Desc) (s : State), FromPartner h s → s.pair.swapping = some k → desc s k = some d → d.delta = some n →
    n ∉ (s.pair.unacked.filter (fun x => decide (x.number > m))).map (·.number) →
    ∃ u, exec (.deltaAck h m) s = .next (offerWork u) ∧ u.pair.role = .standby ∧ u.pair.term = s.pair.term + 1 ∧ u.pair.cause = causeSwap ∧ u.pair.swapping = none ∧ u.doc.blockOriginating = false) ∧
  (∀ (h : LinkHdr) (item : CopyItem) (s : State), FromPartner h s → s.pow.failWarning = true →
    exec (.resyncData h item) s = .next { s with pair := { (received h s).pair with heldFrames := s.pair.heldFrames ++ [(h, .resyncData item)] } } ∧
    exec (.resyncEnd h) s = .next { s with pair := { (received h s).pair with heldFrames := s.pair.heldFrames ++ [(h, .resyncEnd)] } }) ∧
  (∀ (h : LinkHdr) (term n : Nat) (lost : Bool) (s : State), FromPartner h s → s.pow.failWarning = false →
    ((s.pair.mismatch = true ∨ s.pair.outUntilStart = true ∨ s.pair.resync.isSome = true) → exec (.resyncData h (.begin term n lost)) s = .next (received h s)) ∧
    (s.pair.mismatch = false → s.pair.outUntilStart = false → s.pair.resync = none → isActiveMember s term = true →
      ∃ t, exec (.resyncData h (.begin term n lost)) s = .next t ∧ t = { s with pair := t.pair, doc := t.doc } ∧ t.pair.role = s.pair.role ∧
        t.pair.resync.map (fun r => (r.active, r.reported, r.from_, r.full, r.term)) = some (true, false, n, copiesWhole lost s.pair.lastDelta n, term)) ∧
    (s.pair.mismatch = false → s.pair.outUntilStart = false → s.pair.resync = none → isActiveMember s term = false →
      ∃ t, exec (.resyncData h (.begin term n lost)) s = .next t ∧ t.pair.role = .resync ∧ t.pair.unacked = [] ∧ t.pair.undo = [] ∧
        t.pair.lastDelta = reportedDelta s.pair ∧ t.pair.resync.map (fun r => (r.active, r.reported, r.from_, r.term)) = some (false, true, reportedDelta s.pair, term))) ∧
  (∀ (h : LinkHdr) (e : JournalEntry) (r : Resync) (s : State), FromPartner h s → s.pow.failWarning = false → s.pair.resync = some r → r.active = true → r.reported = false →
    exec (.resyncData h (.result e)) s = .next { s with pair := { (received h s).pair with resync := some { r with results := r.results ++ [e] } } }) ∧
  (∀ (h : LinkHdr) (item : CopyItem) (s : State), FromPartner h s → s.pow.failWarning = false → (∀ a b c, item ≠ .begin a b c) → s.pair.resync = none →
    exec (.resyncData h item) s = .next (received h s)) ∧
  (∀ (h : LinkHdr) (g n : Nat) (vr : Option VRecord) (r : Resync) (s : State), FromPartner h s → s.pow.failWarning = false → s.pair.resync = some r → r.active = false → r.ended = false → Brings s h.port →
    exec (.resyncData h (.vrecord g n vr)) s = .next (putItem (.vrecord g n vr) (received h s))) ∧
  (∀ (h : LinkHdr) (s : State), FromPartner h s → s.pow.failWarning = false →
    (s.pair.resync = none → exec (.resyncEnd h) s = .next (received h s)) ∧
    (∀ r, s.pair.resync = some r → r.active = true → r.reported = false → ∃ t, exec (.resyncEnd h) s = .next t ∧ t.doc.blockOriginating = true ∧ t.pair.waitingDeltas = [] ∧
      t.pair.resync = some { r with reported := true, ended := true, left := 0 }) ∧
    (∀ r, s.pair.resync = some r → r.active = false → r.ended = false → ∃ u, exec (.resyncEnd h) s = .next (drainDeltas (u.pair.waitingDeltas.length + 1) u) ∧
      u.pair.resync = some { r with ended := true } ∧ u.pair.unmirrored = [])) ∧
  (∀ (r : Resync) (s : State), s.pair.resync = some r → r.ended = true →
    (r.active = true → s.pair.unacked = [] → ∃ u, exec .resyncComplete s = .next (offerWork u) ∧ u.pair.role = .originator ∧ u.pair.term = s.pair.term + 1 ∧ u.pair.resync = none ∧
      u.pair.declaredLost = false ∧ bit u.fab.mevCause 33 = true) ∧
    (r.active = false → s.pair.waitingDeltas = [] → ∃ u, exec .resyncComplete s = .next (offerWork u) ∧ u.pair.role = .standby ∧ u.pair.term = r.term + 1 ∧ u.pair.resync = none ∧
      u.pair.declaredLost = false ∧ u.doc.blockOriginating = false ∧ bit u.fab.mevCause 33 = true)) ∧
  (∀ s : State, (∀ r, s.pair.resync = some r → r.ended = false) → exec .resyncComplete s = .next s)

/-- Forwarded commands (12 R309, R318, 10 R248, 03 R63, R72). An enable at a window of another module is judged at the home: refused, or accepted and a flow opened, with the next SEAL_EPOCH if the stream is sealed; a window that shares the identity joins the flow, and the last one's end closes it. A command from such a stream takes its number in that flow; one of a gallery that is not homed here is answered ACCESS_DENIED; a STANDBY passes what others send to its home on to the ORIGINATOR. The response that returns, with the home's flags, ends the wait of the command it answers; a change of route has it forwarded again. What a FORWARD and a FORWARD_RSP frame carry is the model's choice (logs 148, 154). -/
def Obligations.ForwardedCommands : Prop :=
  (∀ (h : LinkHdr) (sid : StreamId) (body : Forwarded) (s : State), ForHere h s → isMisdirected s h = true →
    exec (.forward h sid body) s = .next (sendFrame s.pair.port 2 s.pair.partner (some (h.src, h.hops + 1)) false (.forward sid body) (received h s))) ∧
  (∀ (h : LinkHdr) (sid : StreamId) (frame : Bytes) (base : Nat) (key : Option Nat) (s : State), ForHere h s → isMisdirected s h = false → homed s sid.gallery = none →
    exec (.forward h sid (.command frame none)) s = .next (sendTo 2 h.src (.forwardRsp sid (hdrSeq frame) (statusOnly Status.accessDenied) ⟨0, 0, false, none⟩) (received h s)) ∧
    exec (.forward h sid (.opens base key)) s = .next (replyOpen h.src sid .refused (received h s)) ∧ exec (.forward h sid .closes) s = .next (received h s)) ∧
  (∀ (h : LinkHdr) (sid : StreamId) (frame : Bytes) (ans : Option Answer) (base fi : Nat) (key : Option Nat) (s : State), ForHere h s → isMisdirected s h = false →
    (homed s sid.gallery).isSome = true → flowOf s sid = some fi →
    (fromLoan s sid = false → exec (.forward h sid (.command frame ans)) s = .next (offerWork (placeFrame fi
      { frame := frame, large := decide (frame.length > 512), commitAt := s.now, admitAt := s.now, askers := if ans.isSome then [] else [h.src], far := ans } (received h s)))) ∧
    (∀ fl, mget s.doc.flows fi = some fl → ∃ t, exec (.forward h sid (.opens base key)) s = .next t ∧ t = { s with doc := t.doc, pair := t.pair } ∧
      mget t.doc.flows fi = some { fl with openers := (fl.openers ++ [h.src]).eraseDups } ∧ t.doc.descs = s.doc.descs) ∧
    (∀ fl m rest, mirrors s = false → mget s.doc.flows fi = some fl → fl.openers.filter (· != h.src) = m :: rest →
      ∃ t, exec (.forward h sid .closes) s = .next t ∧ t = { received h s with doc := t.doc } ∧ mget t.doc.flows fi = some { fl with openers := m :: rest } ∧ t.doc.descs = s.doc.descs)) ∧
  (∀ (h : LinkHdr) (sid : StreamId) (base : Nat) (key : Option Nat) (s : State), ForHere h s → s.pair.role ≠ .standby → (homed s sid.gallery).isSome = true → flowOf s sid = none →
    (galleryRefuses s sid.gallery sid.fn sid.stream base key = true → exec (.forward h sid (.opens base key)) s = .next (replyOpen h.src sid .refused (received h s))) ∧
    (∀ fi, galleryRefuses s sid.gallery sid.fn sid.stream base key = false → mirrors s = false → (gal s sid.gallery).bind (·.migration) = none → lowestFree s.doc.flows 65536 = some fi →
      ∃ t, exec (.forward h sid (.opens base key)) s = .next t ∧ t = { s with doc := t.doc, pair := t.pair, vit := t.vit } ∧ t.doc.descs = s.doc.descs ∧
        (mget t.doc.flows fi).map (fun f => (f.sid, f.next, f.rel, f.remote, f.sealed, f.openers)) = some (sid, base, base, true, key.isSome, [h.src]) ∧
        (key = none → t.vit = s.vit) ∧
        (∀ k r x, key = some k → sealRecord s sid.gallery (BitVec.ofNat 64 k) = some r → gal s sid.gallery = some x →
          gal t sid.gallery = some { x with sealEpochs := mset x.sealEpochs sid.stream (mgetD x.sealEpochs sid.stream 0 + 1) }))) ∧
  (∀ (h : LinkHdr) (sid : StreamId) (base fi : Nat) (key : Option Nat) (s : State), ForHere h s → s.pair.role = .standby → isMisdirected s h = false → (homed s sid.gallery).isSome = true →
    flowOf s sid = none → docentFlows s < 65536 → (gal s sid.gallery).bind (·.migration) = none → lowestFree s.doc.flows 65536 = some fi →
    ∃ t, exec (.forward h sid (.opens base key)) s = .next t ∧ t = { received h s with doc := t.doc } ∧ t.doc.descs = s.doc.descs ∧
      (mget t.doc.flows fi).map (fun f => (f.sid, f.next, f.rel, f.remote, f.sealed, f.openers)) = some (sid, base, base, true, key.isSome, [h.src])) ∧
  (∀ (h : LinkHdr) (sid : StreamId) (q flags cause : Nat) (uns : Bool) (r : Resp) (s : State), ForHere h s →
    (∀ o, exec (.forwardRsp h sid q r ⟨flags, cause, uns, some o⟩) s = .next (openReplies sid o (received h s))) ∧
    (forwardedAt s sid q = none → exec (.forwardRsp h sid q r ⟨flags, cause, uns, none⟩) s = .next (offerWork (received h s))) ∧
    (∀ k d fl, forwardedAt s sid q = some (k, d) → desc s k = some d → mget s.doc.flows d.flow = some fl → cause = 0 → r.status ≠ Status.sequenceGap →
      ∃ u, exec (.forwardRsp h sid q r ⟨flags, cause, uns, none⟩) s = .next (offerWork (releaseAll d.flow (leaveService k u))) ∧ u = { received h s with doc := u.doc } ∧
        desc u k = some { d with
          st := .done, resp := some r, forwardAt := none, doneAt := some s.now, quotaCause := 0, unsealed := uns, journaled := bit flags 0
          crossFed := d.crossFed || bit flags 2, assured := bit flags 5, unmirrored := bit flags 6 } ∧
        (∀ n, n ≠ k → desc u n = desc s n))) ∧
  (∀ (ticket : Fin 65536) (d : Desc) (fl : Flow) (at_ : Nat) (hd : Descriptor) (s : State), desc s ticket = some d → d.forwardAt = some at_ → mget s.doc.flows d.flow = some fl →
    (s.pair.routeChangedAt < at_ → exec (.forwardRetry ticket) s = .next s) ∧
    (at_ ≤ s.pair.routeChangedAt → homeOf s fl.sid.gallery = some hd →
      ∃ u, exec (.forwardRetry ticket) s = .next (releaseAll d.flow u) ∧ u = { s with pair := u.pair, doc := u.doc, now := max s.now (s.pair.routeChangedAt + 50000) } ∧
        (outOfReach { s with now := u.now } hd = false → d.resp = none → desc u ticket = some { d with forwardAt := some (u.now + 1), forwarded := true }) ∧
        (outOfReach { s with now := u.now } hd = true → (desc u ticket).map (fun x => (x.st, x.resp, x.forwardAt)) = some (.done, some (statusOnly Status.outOfReach), none)) ∧
        (∀ n, n ≠ ticket.val → desc u n = desc s n))) ∧
  (∀ (ticket : Fin 65536) (s : State), (∀ d, desc s ticket = some d → d.forwardAt = none) → exec (.forwardRetry ticket) s = .next s)

/-- Copies and loans (12 R307, R310, R311, R314). What a copy carries is put where it belongs; its end makes a loan current, or, the first time, ends a moved gallery's arrival, and the second time its dependence on the old placement. Deltas of a loan apply in their order and are acknowledged; the home counts what was acknowledged, completes the LOAN_CREATE that waited for the copy, and its fences wait for that loan no longer; a loan that lacks a delta named, or hears nothing for 100 us, is suspended, and so is one that a fence has waited for in vain. A frame of gallery state acts only if this module can read it and the port may write its stores, and waits while the power-fail warning is active (15 R373, 01 R20). -/
def Obligations.CopiesAndLoans : Prop :=
  (∀ (h : LinkHdr) (item : CopyItem) (s : State), ForHere h s →
    (readsState s h = false ∨ ¬ Brings s h.port → exec (.stateData h item) s = .next (received h s)) ∧
    (readsState s h = true → Brings s h.port → s.pow.failWarning = true →
      exec (.stateData h item) s = .next { s with pair := { (received h s).pair with heldFrames := s.pair.heldFrames ++ [(h, .stateData item)] } }) ∧
    (readsState s h = true → Brings s h.port → s.pow.failWarning = false → mirrors s = false → exec (.stateData h item) s = .next (offerWork (arriveItem item (received h s))))) ∧
  (∀ (g n : Nat) (r : Option VRecord) (x : Gallery) (s : State), gal s g = some x → r.isSome = true →
    ∃ y, gal (arriveItem (.vrecord g n r) s) g = some y ∧ recordAt y n = r ∧ y.journal = x.journal) ∧
  (∀ (sid : StreamId) (q : Nat) (x : Gallery) (s : State), gal s sid.gallery = some x → sid.fn ≠ 0xFFFF →
    gal (arriveItem (.cut sid q) s) sid.gallery = some { x with cutKnown := true, cuts := mset x.cuts (65536 * sid.fn + sid.stream) q }) ∧
  (∀ (h : LinkHdr) (x : Gallery) (s : State), ForHere h s → s.pow.failWarning = false → mirrors s = false → gal s h.gallery = some x →
    (∀ c, x.loanCopy = some c → ∃ u, exec (.stateEnd h) s = .next (offerWork u) ∧ gal u h.gallery = some { x with loanCopy := some { c with suspended := false, lastCurrency := s.now } } ∧
      u = { s with vit := u.vit, pair := u.pair }) ∧
    (x.loanCopy = none → x.arriving = true → ∃ u, exec (.stateEnd h) s = .next (offerWork u) ∧ gal u h.gallery = some { x with arriving := false }) ∧
    (x.loanCopy = none → x.arriving = false → ∃ u, exec (.stateEnd h) s = .next (offerWork u) ∧ gal u h.gallery = some { x with oldHome := none, cuts := [] })) ∧
  (∀ (h : LinkHdr) (b : Delta) (c : LoanCopy) (s : State), ForHere h s → readsState s h = true → Brings s h.port → s.pow.failWarning = false → mirrors s = false →
    (gal s h.gallery).bind (·.loanCopy) = some c →
    (b.number ≤ c.applied → exec (.loanDelta h b) s = .next (offerWork (sendTo 1 h.src (.loanAck h.gallery b.number) (received h s)))) ∧
    (c.applied + 1 < b.number → exec (.loanDelta h b) s = .next (offerWork (received h s))) ∧
    (b.number = c.applied + 1 → b.changes = [] → ∃ u, exec (.loanDelta h b) s = .next (offerWork u) ∧ u = { s with vit := u.vit, pair := u.pair } ∧
      (gal u h.gallery).bind (·.loanCopy) = some { c with applied := b.number, suspended := c.suspended && (decide (s.now ≥ c.lastCurrency + 100000) || decide (b.number < c.named)) })) ∧
  (∀ (h : LinkHdr) (n : Nat) (x : Gallery) (l : Loan) (s : State), ForHere h s → readsState s h = true → Brings s h.port → gal s h.gallery = some x → mget x.loans h.src = some l →
    (creatingLoan s h.gallery h.src = none → ∃ u, exec (.loanAck h n) s = .next (offerWork u) ∧ u = { s with vit := u.vit, doc := u.doc, pair := u.pair } ∧
      gal u h.gallery = some { x with loans := mset x.loans h.src { l with copied := true, acked := max l.acked n, suspended := l.suspended && decide (n < x.loanSeq) } } ∧
      u.doc.flows = s.doc.flows ∧
      (∀ k d, desc s k = some d → d.loanSeq ≤ n → d.loanGallery = h.gallery → desc u k = some { d with loanWait := d.loanWait.filter (· != h.src) }) ∧
      (∀ k d, desc s k = some d → d.loanWait = [] → desc u k = some d)) ∧
    (∀ k d, creatingLoan s h.gallery h.src = some k → desc s k = some d →
      ∃ u, exec (.loanAck h n) s = .next (offerWork u) ∧ (desc u k).map (·.resp) = some (some (okResp [])))) ∧
  (∀ (h : LinkHdr) (n : Nat) (x : Gallery) (c : LoanCopy) (s : State), ForHere h s → mirrors s = false → gal s h.gallery = some x → x.loanCopy = some c →
    ∃ t, exec (.currency h n) s = .next t ∧ t = { s with vit := t.vit, pair := (received h s).pair } ∧
      gal t h.gallery = some { x with loanCopy := some { c with named := n, lastCurrency := s.now, suspended := decide (c.applied < n) } }) ∧
  (∀ s : State, (speaksHome s = false → exec .currencyDue s = .next s) ∧ (∃ t, exec .currencyDue s = .next t ∧ t = { s with pair := t.pair } ∧ s.pair.sent <+: t.pair.sent)) ∧
  (∀ (g m : Nat) (x : Gallery) (l : Loan) (s : State), speaksHome s = true → s.vit.galleries = [(g, x)] → x.loans = [(m, l)] → l.copied = true →
    exec .currencyDue s = .next (sendTo 1 m (.currency g x.loanSeq) s)) ∧
  (∀ (g : Nat) (x : Gallery) (c : LoanCopy) (s : State), gal s g = some x → x.loanCopy = some c →
    ∃ t, exec (.loanCurrencyTimeout g) s = .next t ∧ t = { s with vit := t.vit, now := max s.now (c.lastCurrency + 100000) } ∧
      gal t g = some { x with loanCopy := some { c with suspended := true } } ∧ (∀ k, k ≠ g → gal t k = gal s k)) ∧
  (∀ (g : Nat) (s : State), (gal s g).bind (·.loanCopy) = none → exec (.loanCurrencyTimeout g) s = .next s) ∧
  (∀ (ticket : Fin 65536) (d : Desc) (s : State), desc s ticket = some d →
    (d.loanWait = [] → exec (.loanAckTimeout ticket) s = .next s) ∧
    (d.loanWait ≠ [] → ∃ t, exec (.loanAckTimeout ticket) s = .next t ∧ t = { s with vit := t.vit, doc := t.doc, pair := t.pair, now := max s.now (d.loanSentAt + 150000) } ∧
      desc t ticket = some { d with loanWait := [] } ∧ (∀ n e, n ≠ ticket.val → desc s n = some e → e.loanWait = [] → desc t n = some e)))

/-! Errors, tamper, life cycle. -/

/-- Errors by scope (13 R320 to R331, Table 13-2, 10 R264). A code of another scope names no error of the row. A COMMAND error is counted for its unit's wing and its command recovered, while its flow is held; behind a handler of higher scope it is queued, its flow held. A WING error quarantines the wing while more than eight are left, is queued behind a MODULE handler, and retires a wing under restoration; a restored wing takes work again or is retired. A MODULE error latches event 20 and holds every flow: a pair member begins to withdraw, an unpaired module its contained halt; a later one is folded into it. The halt's end is HALT, after which what was queued follows. A FATAL error erases where its cause is security-relevant and ends in HALT. -/
def Obligations.ErrorsByScope : Prop :=
  (∀ (code unit : Nat) (ticket : Fin 65536) (s : State), isCommandCode code = false → exec (.commandError code ticket unit) s = .next s) ∧
  (∀ (code unit : Nat) (ticket : Fin 65536) (s : State), isCommandCode code = true → (s.pow.mode = .vault ∨ s.pow.mode = .tampered ∨ s.pow.mode = .halt) →
    exec (.commandError code ticket unit) s = .next s) ∧
  (∀ (unit : Nat) (ticket : Fin 65536) (s : State), s.pow.mode = .service → paired s = true → exec (.commandError 0x24 ticket unit) s = .next (moduleError 0x24 s)) ∧
  (∀ (code unit : Nat) (ticket : Fin 65536) (s : State), isCommandCode code = true → (code = 0x24 → paired s = false) → s.pow.mode = .service → unit < 128 → (wing s (unit / 8)).quarantined = false →
    s.err.active < 2 → s.err.byUnit = [] →
    ∃ u, exec (.commandError code ticket unit) s = .next (offerWork (lowerHolds (flowsOf s [ticket.val]) (recoverCommand code ticket unit (raiseHolds (flowsOf s [ticket.val]) u)))) ∧ u = { s with err := u.err, cur := u.cur, cnt := u.cnt } ∧
      wingErr u (unit / 8) = { wingErr s (unit / 8) with command := sat 0xFFFF ((wingErr s (unit / 8)).command + 1), lastCause := code } ∧ u.err.byUnit = [(unit, s.now)]) ∧
  (∀ (code unit : Nat) (ticket : Fin 65536) (s : State), isCommandCode code = true → (code = 0x24 → paired s = false) → s.pow.mode = .service → unit < 128 → (wing s (unit / 8)).quarantined = false →
    2 ≤ s.err.active → s.err.byUnit = [] →
    ∃ u, exec (.commandError code ticket unit) s = .next (raiseHolds (flowsOf s [ticket.val]) u) ∧ u = { s with err := u.err, cnt := u.cnt } ∧
      u.err.queued = s.err.queued ++ [{ code := code, scope := 1, unit := unit, ticket := ticket }]) ∧
  (∀ (code : Nat) (w : Fin 16) (s : State), code = 0x06 ∨ code = 0x0A ∨ code = 0x10 → (wing s w).retired = false →
    ((wing s w).quarantined = true → exec (.wingError code w) s = .next (retireWing w s)) ∧
    ((wing s w).quarantined = false → 3 ≤ s.err.active →
      exec (.wingError code w) s = .next { s with err := { s.err with queued := s.err.queued ++ [{ code := code, scope := 2, unit := w, ticket := 0 }] } }) ∧
    ((wing s w).quarantined = false → s.err.active < 3 → 8 < wingsAvailable s → exec (.wingError code w) s = .next (quarantineWing code w s)) ∧
    ((wing s w).quarantined = false → s.err.active < 3 → wingsAvailable s ≤ 8 →
      ∃ u, exec (.wingError code w) s = .next (moduleError 0x44 (denyAssurance u)) ∧ u = { s with err := u.err } ∧ wingErr u w = { wingErr s w with lastCause := code })) ∧
  (∀ (code : Nat) (w : Fin 16) (s : State), code = 0x06 ∨ code = 0x0A ∨ code = 0x10 → (wing s w).retired = true → exec (.wingError code w) s = .next s) ∧
  (∀ (code : Nat) (w : Fin 16) (s : State), code ≠ 0x06 → code ≠ 0x0A → code ≠ 0x10 → isCommandCode code = false → exec (.wingError code w) s = .next s) ∧
  (∀ (w : Fin 16) (s : State), (wing s w).quarantined = true →
    (∃ u, exec (.wingRestorationDone w true) s = .next (offerWork u) ∧ (wing u w).quarantined = false ∧ (wing u w).retired = (wing s w).retired ∧ (wing u w).mem = [] ∧
      (wing u w).cen.faulted = false ∧ (wing u w).pku.faulted = false ∧ (wingErr u w).restoring = false) ∧
    (∃ t, exec (.wingRestorationDone w false) s = .next t ∧ (wing t w).quarantined = false ∧ (wing t w).retired = true ∧ (wing t w).power = .dark ∧ (wingErr t w).restoring = false)) ∧
  (∀ (w : Fin 16) (pass : Bool) (s : State), (wing s w).quarantined = false → exec (.wingRestorationDone w pass) s = .next s) ∧
  (∀ (cell : Fin 128) (t : Nat) (d : Desc) (c : Copy) (s : State), (cellRegs s cell).held = some t → desc s t = some d → withheld d.function = false →
    d.copies.find? (fun c => c.cell == cell.val) = some c →
    exec (.cellWatchdog cell) s = .next (wingError 0x0A (cell.val / 8) { s with now := max s.now (c.takenAt + 2000000) })) ∧
  (∀ (cell : Fin 128) (s : State), (cellRegs s cell).held = none → exec (.cellWatchdog cell) s = .next s) ∧
  (∀ (cell : Fin 128) (t : Nat) (d : Desc) (s : State), (cellRegs s cell).held = some t → desc s t = some d → withheld d.function = true → exec (.cellWatchdog cell) s = .next s) ∧
  (∀ (code : Nat) (s : State), isModuleCode s code = true → s.pow.mode = .service →
    (3 ≤ s.err.active → ∃ t, exec (.moduleError code) s = .next t ∧ t = { s with err := { s.err with lastCause := code, codes := s.err.codes ++ [code] }, fab := t.fab, cur := t.cur } ∧
      bit t.fab.mevCause 20 = true) ∧
    (s.err.active < 3 → paired s = false → ∃ t, exec (.moduleError code) s = .next t ∧
      t = { s with err := { s.err with active := 3, lastCause := code, codes := s.err.codes ++ [code], halting := some (s.now + 100000) }, doc := t.doc, fab := t.fab, cur := t.cur } ∧
      t.doc.descs = s.doc.descs ∧ (∀ fi fl, mget s.doc.flows fi = some fl → ∃ f, mget t.doc.flows fi = some f ∧ fl.holds < f.holds) ∧ bit t.fab.mevCause 20 = true) ∧
    (s.err.active < 3 → paired s = true → s.pair.role ≠ .withdrawn → s.pair.withdrawing = none → ∃ t, exec (.moduleError code) s = .next t ∧ t.err.active = 3 ∧
      t.pair.withdrawing = some s.now ∧ t.pair.outUntilStart = true ∧ t.doc.blockOriginating = true ∧ t.doc.descs = s.doc.descs ∧
      (∀ fi fl, mget s.doc.flows fi = some fl → ∃ f, mget t.doc.flows fi = some f ∧ fl.holds < f.holds) ∧ bit t.fab.mevCause 20 = true) ∧
    (s.err.active < 3 → paired s = true → s.pair.role = .withdrawn → s.pair.withdrawing = none → ∃ t, exec (.moduleError code) s = .next t ∧ t.err.active = 0 ∧ t.err.codes = [] ∧
      t.err.lastCause = code ∧ t.pair.outUntilStart = true ∧ t.pair.role = .withdrawn ∧ bit t.fab.mevCause 20 = true)) ∧
  (∀ (code : Nat) (s : State), isModuleCode s code = false → exec (.moduleError code) s = .next s) ∧
  (∀ (at_ : Nat) (s : State), s.err.halting = some at_ → ∃ u, exec .containedHaltTimeout s = .next (handleQueued s.err.queued u) ∧ u.now = max s.now at_ ∧ u.pow.mode = .halt ∧
    u.err.halting = none ∧ u.err.active = 0 ∧ u.err.queued = []) ∧
  (∀ s : State, s.err.halting = none → exec .containedHaltTimeout s = .next s) ∧
  (∀ (code : Nat) (s : State), isFatalCode code = true → s.pow.mode ≠ .vault → s.pow.mode ≠ .tampered →
    ∃ t, exec (.fatalError code) s = .next t ∧ t.pow.mode = .halt ∧ t.pow.starting = false ∧ t.err.erased = (s.err.erased || isSecurity code) ∧ t.err.lastCause = code ∧
      bit t.fab.mevCause 21 = true ∧ (isSecurity code = true → t.bb = clearBbram true s.bb ∧ t.vit.cache = [] ∧ t.vit.workingKey = []) ∧ (isSecurity code = false → t.bb = s.bb)) ∧
  (∀ (code : Nat) (s : State), isFatalCode code = false → exec (.fatalError code) s = .next s) ∧
  (∀ (line gallery slot : Nat) (x : Gallery) (s : State), s.pow.mode = .service → paired s = false → s.err.lines = [] → gal s gallery = some x →
    ∃ t, exec (.vitrineLineFail line gallery slot) s = .next t ∧ t = { s with err := t.err, vit := t.vit, fab := t.fab, cur := t.cur } ∧
      gal t gallery = some { x with damaged := slot :: x.damaged.filter (· != slot) } ∧ (∀ k, k ≠ gallery → gal t k = gal s k) ∧ bit t.fab.mevCause 20 = true) ∧
  (∀ (line gallery slot : Nat) (s : State), s.pow.mode = .service → paired s = true → s.err.lines = [] →
    exec (.vitrineLineFail line gallery slot) s = .next (moduleError 0x20 { s with err := { s.err with lines := [(s.now, line)] } })) ∧
  (∀ (w : Fin 16) (s : State), ∃ t, exec (.eccCorrected w) s = .next t ∧ t = { s with err := { s.err with corrected := s.err.corrected + 1 }, cnt := t.cnt }) ∧
  (∀ s : State, exec .docentCopyRepair s = .next { s with doc := { s.doc with repairs := s.doc.repairs + 1 } })

/-- Escalation (13 R322): a second COMMAND error of the same cell, engine, hash unit or PK unit within 1 s of the first is handled at WING scope, for the wing of that unit; before it only the error's own record has been written. -/
def Obligations.CommandErrorEscalates : Prop :=
  ∀ (code unit : Nat) (ticket : Fin 65536) (first : Nat) (s : State), isCommandCode code = true → (code = 0x24 → paired s = false) →
    s.pow.mode ≠ .vault → s.pow.mode ≠ .tampered → s.pow.mode ≠ .halt → unit < 176 → (wing s (unitWing unit)).quarantined = false →
    (unit, first) ∈ s.err.byUnit → s.now < first + 1000000000 →
    ∃ u, exec (.commandError code ticket unit) s = .next (wingError code (unitWing unit) u) ∧ u = { s with err := u.err, cnt := u.cnt } ∧
      wingErr u (unitWing unit) = { wingErr s (unitWing unit) with command := sat 0xFFFF ((wingErr s (unitWing unit)).command + 1), lastCause := code } ∧
      (unit, s.now) ∈ u.err.byUnit

/-- Tamper causes (14 R336 to R340, R345). Without a supply nothing is watched, and the crystal not for 3 s after the domain powers up (19 R442); the rails are watched with main power, the clock besides with PWRON_RESET_N deasserted. A condition that a cause has not shown before is decided once: a cause that is not armed in the life-cycle state has no effect but its LIVE bit; an armed one, with main power, is the response: latch, BBRAM and keys erased, TAMPERED; a further one during the collection is only recorded. The record is complete one count after the decision. -/
def Obligations.TamperCauses : Prop :=
  (∀ (c : Nat) (s : State), aoPowered s = true → bit s.ao.live c = false → bit (armed s) c = true → s.ao.responded = false → s.pow.main = true →
    (observe c true s).ao.responded = true ∧ (observe c true s).ao.latched = 2 ^ c ∧ (observe c true s).ao.tamperOut = true ∧ bit (observe c true s).ao.live c = true ∧
      (observe c true s).ao.collecting = some (s.now, c) ∧ (observe c true s).bb = clearBbram false s.bb ∧ (observe c true s).vit.cache = [] ∧ (observe c true s).vit.workingKey = [] ∧
      (observe c true s).pow.mode = .tampered ∧ (observe c true s).pow.starting = false ∧ (observe c true s).pow.ready = false ∧ bit (observe c true s).fab.mevCause 22 = true) ∧
  (∀ (c : Nat) (s : State), aoPowered s = true → bit s.ao.live c = false → bit (armed s) c = false → observe c true s = setLive c true s) ∧
  (∀ (c t k : Nat) (s : State), aoPowered s = true → bit s.ao.live c = false → bit (armed s) c = true → s.ao.responded = true → s.ao.collecting = some (t, k) →
    observe c true s = { s with ao := (observe c true s).ao, reg := { s.reg with burn := s.reg.burn.map (fun b => { b with decided := true }) } } ∧ bit (observe c true s).ao.latched c = true ∧ (observe c true s).ao.recordValid = s.ao.recordValid) ∧
  (∀ (c : Nat) (s : State), aoPowered s = true → bit s.ao.live c = true → observe c true s = s) ∧
  (∀ (c : Nat) (s : State), aoPowered s = true → observe c false s = setLive c false s) ∧
  (∀ (high present : Bool) (s : State), exec (.supplyComparator high present) s = .next (observe (if high then 9 else 8) present s)) ∧
  (∀ s : State, exec (.xtalFault false) s = .next (observe 10 false s)) ∧
  (∀ s : State, (s.now < s.ao.since + 3000000000 → exec (.xtalFault true) s = .next s) ∧
    (s.ao.since + 3000000000 ≤ s.now → exec (.xtalFault true) s = .next (observe 10 true (logXtal s)) ∧ (bit (armed s) 10 = true → logXtal s = s))) ∧
  (∀ (present : Bool) (s : State), (s.pow.main = true ∨ present = false → exec (.railGlitch present) s = .next (observe 11 present s)) ∧
    (mainWatched s = true ∨ present = false → exec (.clockGlitch present) s = .next (observe 12 present s))) ∧
  (∀ s : State, (s.pow.main = false → exec (.railGlitch true) s = .next s) ∧ (mainWatched s = false → exec (.clockGlitch true) s = .next s)) ∧
  (∀ (value : Int) (s : State), aoPowered s = true → -100 ≤ value → value ≤ 250 →
    exec (.tempSample value) s = .next (observe 7 false (observe 6 false { s with ao := { s.ao with temp := value, tempRun := (0, 0) } }))) ∧
  (∀ (value : Int) (s : State), aoPowered s = true → 250 < value →
    exec (.tempSample value) s = .next (observe 7 (min 4 (s.ao.tempRun.2 + 1) == 4) (observe 6 false { s with ao := { s.ao with temp := value, tempRun := (0, min 4 (s.ao.tempRun.2 + 1)) } }))) ∧
  (∀ (value : Int) (s : State), aoPowered s = true → value < -100 →
    exec (.tempSample value) s = .next (observe 7 false (observe 6 (min 4 (s.ao.tempRun.1 + 1) == 4) { s with ao := { s.ao with temp := value, tempRun := (min 4 (s.ao.tempRun.1 + 1), 0) } }))) ∧
  (∀ s : State, aoPowered s = true → 4 ≤ s.ao.driveCount →
    exec .loopDriveStep s = .next { s with ao := { s.ao with generator := Config.loopNext s.ao.generator, driveCount := 0 } }) ∧
  (∀ s : State, s.ao.driveCount < 4 → exec .loopDriveStep s = .next s) ∧
  (∀ (echo : BitVec 6) (s : State), aoPowered s = true → ∃ u, exec (.loopCompare echo) s = .next (([4, 5, 0, 1, 2, 3] : List Nat).foldl
      (fun v i => observe (loopCause i) (bit (mgetD v.ao.loops i {}).history 0) v) u) ∧ u = { s with ao := u.ao } ∧ u.ao.driveCount = min 4 (s.ao.driveCount + 1) ∧
    (∀ i : Fin 6, mgetD u.ao.loops i.val {} = { mgetD s.ao.loops i.val {} with
      history := (2 * (mgetD s.ao.loops i.val {}).history + b2n (echo.getLsbD i.val != Config.loopLevel s.ao.generator i.val)) % 256
      mismatches := if echo.getLsbD i.val != Config.loopLevel s.ao.generator i.val then sat 255 ((mgetD s.ao.loops i.val {}).mismatches + 1) else (mgetD s.ao.loops i.val {}).mismatches
      echo := echo.getLsbD i.val
      expected := Config.loopLevel s.ao.generator i.val })) ∧
  (∀ (i : Fin 6) (s : State), aoPowered s = true → ∃ u, exec (.loopEdgeMismatch i) s = .next (observe (loopCause i) true u) ∧ u = { s with ao := u.ao } ∧
    mgetD u.ao.loops i.val {} = { mgetD s.ao.loops i.val {} with mismatches := sat 255 ((mgetD s.ao.loops i.val {}).mismatches + 1) }) ∧
  (∀ (t first : Nat) (s : State), s.ao.collecting = some (t, first) → ∃ u, exec .tamperCollectionEnd s = .next u ∧ u.now = max s.now (t + countsNs 1) ∧ u.ao.recordValid = true ∧
    u.ao.recordSeq = s.ao.recordSeq + 1 ∧ u.ao.collecting = none ∧ u.ao.record.length = 64 ∧ u.ao.record.drop 60 = leBytes 4 (crc32 (u.ao.record.take 60)) ∧
    u.ao.latched = s.ao.latched ∧ u.bb = s.bb) ∧
  (∀ s : State, s.ao.collecting = none → exec .tamperCollectionEnd s = .next s) ∧
  (∀ (echo : BitVec 6) (i : Fin 6) (value : Int) (s : State), aoPowered s = false →
    exec .loopDriveStep s = .next s ∧ exec (.loopCompare echo) s = .next s ∧ exec (.loopEdgeMismatch i) s = .next s ∧ exec (.tempSample value) s = .next s)

/-- Discrete inputs, key switches and the life cycle (14 R339, R347, R350 to R352, R355, R356, 07 R200, R201). A sample that differs from the level counts, and the fourth in a row changes it; what follows a change of a key switch or of the partner's heartbeat is not said here. A switch held 30 minutes sets the lock-out, which ends 1 s after both have been off. The end of a transition's burn completes its record and answers the request; RECOMMISSION clears the tamper latch unless a cause was decided meanwhile. Debug needs its own states and the fused authority's signature; a full self-test runs in DIAGNOSTIC. SCRAPPED and TERMINATED answer none of these messages. -/
def Obligations.InputsAndLifeCycle : Prop :=
  (∀ (levels : BitVec 4) (s : State), aoPowered s = false → exec (.inputSample levels) s = .next s) ∧
  (∀ (levels : BitVec 4) (s : State), aoPowered s = true → (∀ i : Fin 4, i ≠ 2 → levels.getLsbD i.val ≠ (inputOf s i.val).level → (inputOf s i.val).run + 1 < 4) →
    ∃ t, exec (.inputSample levels) s = .next t ∧ t = { s with ao := { s.ao with inputs := t.ao.inputs } } ∧ (∀ i : Fin 4, inputOf t i.val = sampleInput (levels.getLsbD i.val) (inputOf s i.val))) ∧
  (∀ (b : Bool) (t : Nat) (s : State), (mgetD s.ao.switches (b2n b) {}).since = some t →
    (s.ao.lockout = false → ∃ u, exec (.keySwitchTimeout b) s = .next u ∧ u = { s with ao := { s.ao with lockout := true }, vit := u.vit, fab := u.fab, now := max s.now (t + 1800000000000) } ∧
      (componentInService s none = false → u.vit.custody.components = []) ∧ (componentInService s none = true → u.vit.custody.dying = true) ∧ u.vit.galleries = s.vit.galleries ∧ bit u.fab.mevCause 39 = true) ∧
    (s.ao.lockout = true → exec (.keySwitchTimeout b) s = .next { s with now := max s.now (t + 1800000000000) })) ∧
  (∀ (b : Bool) (s : State), (mgetD s.ao.switches (b2n b) {}).since = none → exec (.keySwitchTimeout b) s = .next s) ∧
  (∀ (t : Nat) (s : State), s.ao.lockout = true → s.ao.bothOff = some t → ∃ u, exec .lockoutEnd s = .next u ∧
    u = { s with ao := { s.ao with lockout := false }, fab := u.fab, now := max s.now (t + 1000000000) } ∧ bit u.fab.mevCause 39 = true) ∧
  (∀ s : State, (s.ao.lockout = false ∨ s.ao.bothOff = none) → exec .lockoutEnd s = .next s) ∧
  (∀ (b : Burn) (s : State), s.reg.burn = some b → ∃ u, exec .transitionBurnDone s = .next u ∧ u.now = max s.now (b.at_ + burnNs b) ∧ u.reg.burn = none ∧ u.reg.transitioned = true ∧
    u.fuses = { s.fuses with records := s.fuses.records ++ [{ target := b.target, token := b.token, complete := true }] } ∧
    (tokenClass s.reg.state b.target b.token s.fuses.codeE = some 4 → b.decided = false → u.ao = { s.ao with responded := false, latched := 0, recordValid := false, tamperOut := false }) ∧
    ((tokenClass s.reg.state b.target b.token s.fuses.codeE ≠ some 4 ∨ b.decided = true) → u.ao = s.ao) ∧
    (∀ t d, b.ticket = some t → desc s t = some d → (d.st = .inService → (desc u t).map (·.resp) = some (some (okResp []))) ∧ (d.st ≠ .inService → desc u t = some d))) ∧
  (∀ s : State, s.reg.burn = none → exec .transitionBurnDone s = .next s) ∧
  (∀ (bus : Nat) (target index : Byte) (token : Bytes) (s : State), busReaches s bus = true → mainUp s = true → readoutOnly s = false →
    (transitionRefusal s target.toNat index.toNat token false = none → ∃ t, exec (.lcsTransitionMessage bus target index token) s = .next t ∧ t.fuses = s.fuses ∧
      t.cur.replies = s.cur.replies ∧ t.reg.burn = some { target := target.toNat, token := index.toNat, ticket := none, bus := bus, at_ := s.now }) ∧
    (∀ r, transitionRefusal s target.toNat index.toNat token false = some r → bus = 0 → ∃ t, exec (.lcsTransitionMessage bus target index token) s = .next t ∧
      t = { s with cur := t.cur } ∧ t.cur.replies = s.cur.replies ++ [{ bus := bus, reply := { code := Status.accessDenied, data := refusalPayload r } }])) ∧
  (∀ (bus : Nat) (target index : Byte) (token : Bytes) (s : State), (mainUp s = false ∨ readoutOnly s = true) → exec (.lcsTransitionMessage bus target index token) s = .next s) ∧
  (∀ s : State, busReaches s 0 = true → readoutOnly s = false →
    (debugState s = true → instServes s 4128 = true → mainUp s = true → ∃ t b, exec (.debugChallenge 0) s = .next t ∧ t.reg.challenge = some b ∧
      t.cur.replies = s.cur.replies ++ [{ bus := 0, reply := replyOk b }] ∧ t = { s with rng := t.rng, reg := { s.reg with challenge := some b }, cur := t.cur, freeCount := t.freeCount }) ∧
    ((debugState s = false ∨ instServes s 4128 = false ∨ mainUp s = false) → exec (.debugChallenge 0) s = .next (sendReply 0 (replyCode Status.accessDenied) s)) ∧
    (∀ key sig, s.reg.challenge = none → exec (.debugResponse 0 key sig) s = .next (sendReply 0 (replyCode Status.accessDenied) s)) ∧
    (∀ key sig ch, s.reg.challenge = some ch → ∃ t, exec (.debugResponse 0 key sig) s = .next t ∧ t.reg.challenge = none ∧
      t.ao.debugGrant = (s.ao.debugGrant || (debugState s && decide (sha384 key = beBytes 48 Config.debugAuthorityDigest.toNat) && p384Verify key (ch ++ serialBytes) sig))) ∧
    (s.pow.mode = .diagnostic → s.reg.fullRunning = false →
      exec (.conservatorRun 0) s = .next (sendReply 0 (replyOk []) { s with reg := { s.reg with fullRunning := true } })) ∧
    ((s.pow.mode ≠ .diagnostic ∨ s.reg.fullRunning = true) → exec (.conservatorRun 0) s = .next (sendReply 0 (replyCode Status.accessDenied) s)) ∧
    (∀ src off b, s.pow.mode = .diagnostic → s.reg.fullRun ≠ 0 → src < 8 → off < 16777216 → exec (.rawSamples 0 src off b) s = .next (sendReply 0 (replyOk b) s)) ∧
    (∀ src off b, (s.pow.mode ≠ .diagnostic ∨ s.reg.fullRun = 0 ∨ 8 ≤ src ∨ 16777216 ≤ off) → exec (.rawSamples 0 src off b) s = .next (sendReply 0 (replyCode Status.accessDenied) s))) ∧
  (∀ (bus src off : Nat) (key sig b : Bytes) (s : State), readoutOnly s = true → exec (.debugChallenge bus) s = .next s ∧ exec (.debugResponse bus key sig) s = .next s ∧
    exec (.conservatorRun bus) s = .next s ∧ exec (.rawSamples bus src off b) s = .next s) ∧
  (∀ (pass : BitVec 8) (ms : Nat) (s : State), s.reg.fullRunning = true → exec (.conservatorRunDone pass ms) s = .next { s with
    reg := { s.reg with fullRunning := false, fullPass := pass.toNat, fullRun := 255, full100ms := sat 0xFFFF ms } }) ∧
  (∀ (pass : BitVec 8) (ms : Nat) (s : State), s.reg.fullRunning = false → exec (.conservatorRunDone pass ms) s = .next s)

/-! Power, modes and the wings' states. -/

/-- Service modes, QUIESCE and thermal steps (15 R369, R370, R377, R441). A wing switches once its cells are free and a raised setpoint has settled, and the last one ends the change; QUIESCE refuses at its time-out what no cell has taken, and is complete once it is drained, when UPDATE follows if it was for one; an estimate above a threshold steps the clocks down at once; 1 s below the return threshold the step ends, first raising the setpoint where it must, whose settling then ends it. -/
def Obligations.ModesAndSteps : Prop :=
  (∀ (w : Fin 16) (s : State), (s.pow.switchTo = none ∨ (s.pow.avs.isSome = true ∧ s.pow.returning = none)) → exec (.wingClockSwitch w) s = .next s) ∧
  (∀ (w v : Fin 16) (m : Nat) (s : State), s.pow.switchTo = some m → s.pow.avs = none → s.pow.switching = [w.val, v.val] → v ≠ w → wingTickets s w = [] →
    ∃ u, exec (.wingClockSwitch w) s = .next (offerWork u) ∧ u.pow.switching = [v.val] ∧ u.pow.service = s.pow.service ∧ u.pow.switchTo = some m ∧ u.doc = s.doc ∧ u.fab = s.fab) ∧
  (∀ (w : Fin 16) (m : Nat) (s : State), s.pow.switchTo = some m → s.pow.avs = none → s.pow.switching = [w.val] → wingTickets s w = [] → s.pow.switchTicket = none →
    ∃ u, exec (.wingClockSwitch w) s = .next (offerWork u) ∧ u.pow.service = m ∧ u.pow.switchTo = none ∧ u.pow.pending = false ∧ bit u.fab.mevCause 26 = true) ∧
  (∀ s : State, s.pow.quiesce = none → exec .quiesceDrainTimeout s = .next s ∧ exec .quiesceComplete s = .next s) ∧
  (∀ (q : Quiesce) (s : State), s.pow.quiesce = some q → q.expired = false → q.complete = false →
    exec .quiesceDrainTimeout s = .next (offerWork (answerHeld (refusedWith Status.notReady) (((s.doc.descs.filter (fun p => p.2.st == .queued && p.2.takeAt.isNone)).map (·.1)).foldl
      (fun s t => docentAnswer t Status.notReady s) { s with pow := { s.pow with quiesce := some { q with expired := true } }, now := max s.now q.drainAt })))) ∧
  (∀ (q : Quiesce) (s : State), s.pow.quiesce = some q → (q.expired = true ∨ q.complete = true) → exec .quiesceDrainTimeout s = .next s) ∧
  (∀ (q : Quiesce) (s : State), s.pow.quiesce = some q → (q.complete = true ∨ quiesceDrained s q = false) → exec .quiesceComplete s = .next s) ∧
  (∀ (q : Quiesce) (t : Nat) (d : Desc) (s : State), s.pow.quiesce = some q → q.complete = false → quiesceDrained s q = true → q.forUpdate = false → q.ticket = some t → desc s t = some d →
    ∃ u, exec .quiesceComplete s = .next u ∧ u = { s with pow := { s.pow with quiesce := some { q with complete := true } }, doc := u.doc, fab := u.fab } ∧
      (desc u t).map (·.resp) = some (some (okResp [])) ∧ bit u.fab.mevCause 26 = true) ∧
  (∀ (q : Quiesce) (s : State), s.pow.quiesce = some q → q.complete = false → quiesceDrained s q = true → q.forUpdate = true → q.ticket = none →
    ∃ u, exec .quiesceComplete s = .next u ∧ u.pow.mode = .update ∧ u.pow.quiesce = none ∧ u.cur.update = s.cur.update.map (fun x => { x with phase := .open_ }) ∧ u.doc = s.doc) ∧
  (∀ (hottest : Int) (power : Nat) (s : State), s.pow.main = true → s.pow.step < stepFor (tcMilli hottest power) →
    ∃ t, exec (.thermalEstimate hottest power) s = .next t ∧ t.pow.step = stepFor (tcMilli hottest power) ∧ t.pow.steps = sat 0xFFFF (s.pow.steps + 1) ∧ t.pow.hottest = hottest ∧
      t.pow.tcEst = tcMilli hottest power / 1000 ∧ t.pow.overRange = decide (tcMilli hottest power > 210000) ∧ bit t.fab.mevCause 25 = true ∧ t.doc = s.doc) ∧
  (∀ (hottest : Int) (power : Nat) (s : State), s.pow.main = true → stepFor (tcMilli hottest power) ≤ s.pow.step →
    ∃ t, exec (.thermalEstimate hottest power) s = .next t ∧ t = { s with pow := t.pow } ∧ t.pow.step = s.pow.step ∧ t.pow.tcEst = tcMilli hottest power / 1000 ∧
      t.pow.coolSince = (if tcMilli hottest power < 164000 then some (s.pow.coolSince.getD s.now) else none) ∧
      t.pow.mildSince = (if tcMilli hottest power < 194000 then some (s.pow.mildSince.getD s.now) else none)) ∧
  (∀ (hottest : Int) (power : Nat) (s : State), s.pow.main = false → exec (.thermalEstimate hottest power) s = .next s) ∧
  (∀ s : State, returnSince s.pow = none → exec .thermalReturn s = .next s) ∧
  (∀ (at_ : Nat) (s : State), returnSince s.pow = some at_ → neededMv { s with now := max s.now (at_ + 1000000000), pow := { s.pow with step := s.pow.step - 1 } } ≤ s.pow.vcoreMv →
    ∃ t, exec .thermalReturn s = .next t ∧ t.now = max s.now (at_ + 1000000000) ∧ t.pow.step = s.pow.step - 1 ∧ t.pow.returning = none ∧ bit t.fab.mevCause 25 = true) ∧
  (∀ (at_ : Nat) (s : State), returnSince s.pow = some at_ → s.pow.vcoreMv < neededMv { s with now := max s.now (at_ + 1000000000), pow := { s.pow with step := s.pow.step - 1 } } →
    ∃ t, exec .thermalReturn s = .next t ∧ t.pow.step = s.pow.step ∧ t.pow.returning = some (s.pow.step - 1) ∧
      t.pow.avs = some { millivolts := neededMv { s with now := max s.now (at_ + 1000000000), pow := { s.pow with step := s.pow.step - 1 } }, tries := 1 }) ∧
  (∀ (r : AvsRequest) (n : Nat) (s : State), s.pow.avs = some r → s.pow.returning = some n →
    ∃ t, exec .avsbusAck s = .next t ∧ t.pow.step = n ∧ t.pow.returning = none ∧ t.pow.vcoreMv = r.millivolts ∧ t.pow.avs = none ∧ bit t.fab.mevCause 25 = true) ∧
  (∀ s : State, s.pow.avs = none → exec .avsbusAck s = .next s ∧ exec .avsbusTimeout s = .next s)

/-- Wing states and the wake (15 R374, R375, R376, 10 R255): in ECONOMY the placement keeps w_run wings awake and in THROUGHPUT and ASSURANCE all are woken; a wake is asked for when work is ready and no cell of an awake wing waits; its end puts the wing in RUN. -/
def Obligations.WingStates : Prop :=
  (∀ s : State, s.pow.mode ≠ .service → exec .wingPlacement s = .next s) ∧
  (∀ s : State, s.pow.mode = .service → s.pow.service ≠ 2 → ∃ t, exec .wingPlacement s = .next t ∧ t = { s with pow := t.pow } ∧ t.pow.tolerance = sat 0xFFFF (effectiveTolerance s) ∧
    t.pow.wRun = wingsAvailable t ∧ (∀ w : Fin 16, available s w = true → (wing t w).power = .run ∨ (wing t w).waking.isSome = true)) ∧
  (∀ s : State, s.pow.mode = .service → s.pow.service = 2 → ∃ t, exec .wingPlacement s = .next t ∧ t.pow.tolerance = sat 0xFFFF (effectiveTolerance s) ∧ t.doc = s.doc ∧ t.fab = s.fab ∧
    t.pow.wRun = max (wRunOf (wingsAvailable s) (min 16 s.pow.minRun) (busyCells s)) (s.pow.woken.filter (fun p => available s p.1)).length) ∧
  (∀ s : State, (readyCount s = 0 ∨ s.doc.waiting.any (fun c => wingTakes s (c.cell / 8)) = true) → exec .wingWakeRequest s = .next s) ∧
  (∀ (w : Nat) (rest : List Nat) (s : State), 0 < readyCount s → readyCount s ≤ 64 → s.doc.waiting.any (fun c => wingTakes s (c.cell / 8)) = false → (∀ k : Fin 16, (wing s k).waking = none) →
    sleepers s = w :: rest → ∃ t, exec .wingWakeRequest s = .next t ∧ t = { s with pow := t.pow } ∧ (wing t w).waking = some (wing s w).power ∧ (∀ k, k ≠ w → wing t k = wing s k) ∧
      mget t.pow.woken w = some 1 ∧ w ∈ t.pow.awaited) ∧
  (∀ (w : Fin 16) (s : State), (wing s w).waking = none → exec (.wingWakeDone w) s = .next s) ∧
  (∀ (w : Fin 16) (s : State), (wing s w).waking.isSome = true → ∃ u, exec (.wingWakeDone w) s = .next (offerWork u) ∧ (wing u w).power = .run ∧ (wing u w).waking = none ∧
    u.fab = s.fab ∧ u.vit = s.vit ∧ (∀ k, k ≠ w.val → wing u k = wing s k))

/-! The Curator and the counters. -/

/-- The Curator's core, its sensors, its log and its mailbox (17 R402, R403, R405, R406, R408, R416, R417): a core fault restarts it in 50 ms and abandons an open update; a reading is published, and a threshold crossed is logged; a checkpoint is written when 4,096 records are due and main power is there; a message of 1 to 4,096 bytes is handed over, any other dropped. -/
def Obligations.CuratorCore : Prop :=
  (∀ s : State, s.ao.vaux = true → s.cur.restarting = none → ∃ t, exec (.curatorRestart false) s = .next t ∧ t.cur.restarting = some (t.now + 50000000) ∧ t.now = s.now ∧
    t.cur.update = none ∧ t.cur.spdm = 0 ∧ t.cur.transcript = [] ∧ t.cur.restarts = sat 0xFFFF (s.cur.restarts + 1) ∧ t.doc = s.doc ∧ t.vit = s.vit ∧ t.bb = s.bb) ∧
  (∀ (at_ : Nat) (s : State), s.ao.vaux = true → s.cur.restarting = some at_ → s.cur.buffered = [] →
    exec (.curatorRestart true) s = .next (logRecord 0x0020 0 0 [] { s with cur := { s.cur with restarting := none, buffered := [] } })) ∧
  (∀ (back : Bool) (s : State), (s.ao.vaux = false ∨ s.cur.restarting.isSome = !back) → exec (.curatorRestart back) s = .next s) ∧
  (∀ (l : List (Nat × SensorReading)) (s : State), curatorRuns s = false → exec (.sensorSample l) s = .next s) ∧
  (∀ (i : Nat) (r : SensorReading) (s : State), curatorRuns s = true → sensorKnown i = true → r.valid = true → mainUp s = true →
    ∃ t, exec (.sensorSample [(i, r)]) s = .next t ∧ t = { s with ao := { s.ao with supplies := t.ao.supplies }, cur := t.cur } ∧
      mget t.cur.sensors i = some { value := r.value, valid := true, warn := r.warn, crit := r.crit, at_ := s.now } ∧
      (r.warn = (mgetD s.cur.sensors i {}).warn → r.crit = (mgetD s.cur.sensors i {}).crit → t.cur.logSeq = s.cur.logSeq)) ∧
  (∀ (i : Nat) (r : SensorReading) (s : State), curatorRuns s = true → sensorKnown i = true → (r.valid = false ∨ (mainUp s = false ∧ sensorInVault i = false)) →
    exec (.sensorSample [(i, r)]) s = .next { s with cur := { s.cur with sensors := mset s.cur.sensors i { mgetD s.cur.sensors i {} with valid := false, warn := false, crit := false } } }) ∧
  (∀ s : State, (s.cur.restarting.isSome = true ∨ s.cur.sinceCheckpoint < 4096) → exec .logCheckpoint s = .next s) ∧
  (∀ s : State, s.cur.restarting = none → 4096 ≤ s.cur.sinceCheckpoint → s.pow.main = false → exec .logCheckpoint s = .next { s with cur := { s.cur with deferred := true } }) ∧
  (∀ s : State, s.cur.restarting = none → 4096 ≤ s.cur.sinceCheckpoint → s.pow.main = true →
    ∃ t, exec .logCheckpoint s = .next t ∧ t = { s with cur := t.cur, fab := t.fab } ∧ t.cur.sinceCheckpoint = 0 ∧ t.cur.deferred = false ∧ bit t.fab.mevCause 37 = true) ∧
  (∀ (n : Fin 8192) (s : State), hasRight (windowRow s 0) 8 rightWR = true →
    (s.cur.submit = false → 1 ≤ n.val → n.val ≤ 4096 → exec (.mailboxSubmit n) s = .next { s with cur := { s.cur with inLen := n.val, submit := true } }) ∧
    (s.cur.submit = false → (n.val = 0 ∨ 4096 < n.val) → exec (.mailboxSubmit n) s = .next { s with cur := { s.cur with inLen := n.val, mctpErrors := s.cur.mctpErrors + 1 } }) ∧
    (s.cur.submit = true → ∃ t, exec (.mailboxSubmit n) s = .next t ∧ t = { s with fab := t.fab } ∧ (win t 0).fault = (win s 0).fault ||| 2#64) ∧
    exec .mailboxAck s = .next { s with cur := { s.cur with outValid := false } }) ∧
  (∀ (n : Fin 8192) (s : State), hasRight (windowRow s 0) 8 rightWR = false → exec (.mailboxSubmit n) s = .next s ∧ exec .mailboxAck s = .next s) ∧
  (∀ s : State, ((pcie s 0).busMaster = true → exec .mctpTransportTimeout s = .next s) ∧
    ((pcie s 0).busMaster = false → exec .mctpTransportTimeout s = .next { s with cur := { s.cur with mctpWaiting := s.cur.mctpWaiting.drop 1 } }))

/-- Management messages that read or set (17 R402, R407, R408, R410): each is answered on its bus, with what the rules say; a bus that does not reach the Curator gets no answer; in SCRAPPED and TERMINATED the inventory is serial and fuse map, and the other messages named here get no answer. -/
def Obligations.ManagementMessages : Prop :=
  (∀ (bus : Nat) (s : State), busReaches s bus = true → bus = 0 ∨ bus = 3 →
    exec (.inventory bus) s = .next (sendReply bus (replyOk (serialBytes ++ (if readoutOnly s then fuseMap s
      else leBytes 1 (b2n s.fuses.codeE) ++ leBytes 1 s.reg.state ++ leBytes 8 s.cur.fwVersion ++ leBytes 8 s.img.version ++ leBytes 2 s.fuses.arc))) s) ∧
    (readoutOnly s = false →
      exec (.tamperRecord bus) s = .next (sendReply bus (replyOk s.ao.record) s) ∧
      exec (.getEndpointId bus) s = .next (sendReply bus (replyOk (leBytes 1 s.cur.eid ++ [0, 0])) s) ∧
      exec (.getMessageTypeSupport bus) s = .next (sendReply bus (replyOk [3, 0x01, 0x05, 0x7E]) s) ∧
      exec (.getTid bus) s = .next (sendReply bus (replyOk (leBytes 1 s.cur.tid)) s) ∧
      exec (.getPldmTypes bus) s = .next (sendReply bus (replyOk (leBytes 8 0x25)) s) ∧
      (∀ eid : Byte, exec (.setEndpointId bus eid) s = .next (if eid = 0 ∨ eid = 0xFF then sendReply bus (replyCode 2) s
        else sendReply bus (replyOk [0, eid, 0]) { s with cur := { s.cur with eid := eid.toNat } })) ∧
      (∀ type : Byte, exec (.getMctpVersionSupport bus type) s = .next (sendReply bus (match mctpProtocol type.toNat with
        | some p => replyOk (1 :: versionBytes p)
        | none => replyCode 0x80) s)) ∧
      (∀ sel : Byte, exec (.getVendorDefinedMessageSupport bus sel) s = .next (sendReply bus
        (if sel = 0 then replyOk ([0xFF, 0] ++ beBytes 2 Config.vendorId.toNat ++ [0, 0]) else replyCode 2) s)) ∧
      (∀ type : Byte, (∃ r, exec (.getPldmCommands bus type) s = .next (sendReply bus r s) ∧ (r.code = 0 ↔ (pldmCommands type.toNat).isSome = true)) ∧
        (∃ r, exec (.getPldmVersion bus type) s = .next (sendReply bus r s) ∧ (r.code = 0 ↔ (pldmCommands type.toNat).isSome = true))) ∧
      (∀ n : Nat, ∃ r u, exec (.getSensorReading bus n) s = .next (sendReply bus r u) ∧ u = { s with freeCount := u.freeCount } ∧ (r.code = 0 ↔ sensorKnown n = true)) ∧
      (∀ n : Nat, ∃ r u, exec (.getStateSensorReadings bus n) s = .next (sendReply bus r u) ∧ u = { s with freeCount := u.freeCount } ∧
        (r.code = 0 ↔ n = Config.modeSensor.toNat ∨ n = Config.tamperSensor.toNat)) ∧
      (∀ n : Nat, ∃ r, exec (.getPdr bus n) s = .next (sendReply bus r s) ∧ (r.code = 0 ↔ Config.pdrHeld n = true)) ∧
      (∃ r, exec (.getPdrRepositoryInfo bus) s = .next (sendReply bus r s) ∧ r.code = 0 ∧ r.data.length = 40) ∧
      (∀ e a : Byte, exec (.setEventReceiver bus e a) s = .next (if e.toNat > 3 then sendReply bus (replyCode 2) s
        else sendReply bus (replyOk []) { s with cur := { s.cur with eventReceiver := (e.toNat, a.toNat), eventBus := bus } })) ∧
      (∀ first count : Nat, hasRight (fixedRow s curatorRow) 6 rightRD = true → exec (.logRead bus first count) s = .next (sendReply bus (if count < 1 ∨ count > 60 then replyCode Status.paramRejected
        else replyOk (leBytes 1 ((List.range count).filterMap (fun i => heldRecord s (first + i))).length ++ ((List.range count).filterMap (fun i => heldRecord s (first + i))).flatten)) s)) ∧
      (∀ first count : Nat, hasRight (fixedRow s curatorRow) 6 rightRD = false → 1 ≤ count → count ≤ 60 → exec (.logRead bus first count) s = .next (sendReply bus (replyOk [0]) s))) ∧
    (readoutOnly s = true → ∀ (e a : Byte) (n m : Nat), exec (.tamperRecord bus) s = .next s ∧ exec (.getEndpointId bus) s = .next s ∧ exec (.getMessageTypeSupport bus) s = .next s ∧
      exec (.getTid bus) s = .next s ∧ exec (.getPldmTypes bus) s = .next s ∧ exec (.setEndpointId bus e) s = .next s ∧ exec (.setEventReceiver bus e a) s = .next s ∧
      exec (.logRead bus n m) s = .next s ∧ exec (.getPdr bus n) s = .next s ∧ exec (.requestUpdate bus) s = .next s)) ∧
  (∀ (bus n : Nat) (e : Byte) (s : State), busReaches s bus = false → exec (.inventory bus) s = .next s ∧ exec (.tamperRecord bus) s = .next s ∧ exec (.getTid bus) s = .next s ∧
    exec (.setEndpointId bus e) s = .next s ∧ exec (.getSensorReading bus n) s = .next s ∧ exec (.getVersion bus) s = .next s ∧ exec (.requestUpdate bus) s = .next s ∧
    exec (.debugChallenge bus) s = .next s ∧ exec (.conservatorRun bus) s = .next s)

/-- Firmware update (17 R412, R413, 15 R371, 16 R396): one update at a time, through QUIESCE into UPDATE; a component passed is staged, its data written into the slot not loaded, and read back at the end; activation needs every component passed to be verified, and begins START; cancelling, or 60 s without a request, abandons; a burn of the anti-rollback count is one pair. -/
def Obligations.FirmwareUpdate : Prop :=
  (∀ s : State, busReaches s 0 = true → readoutOnly s = false →
    (s.cur.update.isSome = true → exec (.requestUpdate 0) s = .next (sendReply 0 (replyCode 0x81) s)) ∧
    (s.cur.update = none → s.pow.mode = .service → s.pow.pending = false → s.pow.ceremony = false → ∃ t, exec (.requestUpdate 0) s = .next t ∧ t.pow.mode = .quiesce ∧
      t.pow.quiesce = some { ticket := none, drainAt := s.now + 100000000, expired := false, complete := false, forUpdate := true } ∧
      t.cur.update = some { phase := .asked, lastRequest := s.now, passed := [], touched := [], verified := [] } ∧
      t.cur.replies = s.cur.replies ++ [{ bus := 0, reply := replyOk (zeros 3) }]) ∧
    (s.cur.update = none → s.pow.mode = .diagnostic → exec (.requestUpdate 0) s = .next (sendReply 0 (replyCode 0x8A) s)) ∧
    (∀ (c off : Nat) (data : Bytes) (image : Option FwImage), s.cur.update = none →
      exec (.passComponentTable 0 c) s = .next (sendReply 0 (replyCode 0x80) s) ∧ exec (.updateComponent 0 c) s = .next (sendReply 0 (replyCode 0x80) s) ∧
      exec (.requestFirmwareData 0 off data) s = .next (sendReply 0 (replyCode 0x88) s) ∧ exec (.transferComplete 0 image) s = .next (sendReply 0 (replyCode 0x88) s) ∧
      exec (.activateFirmware 0) s = .next (sendReply 0 (replyCode 0x80) s) ∧ exec (.cancelUpdate 0) s = .next (sendReply 0 (replyCode 0x80) s)) ∧
    (∀ (c : Nat) (u : Update), updateOpen s = some u → c = 1 ∨ c = 2 → ∃ t, exec (.passComponentTable 0 c) s = .next t ∧
      t.cur.update = some { u with passed := c :: u.passed.filter (· != c), lastRequest := s.now } ∧ t.cur.replies = s.cur.replies ++ [{ bus := 0, reply := replyOk [0, 0] }] ∧ t.img = s.img) ∧
    (∀ (c : Nat) (u : Update), updateOpen s = some u → u.passed.contains c = true → ∃ t, exec (.updateComponent 0 c) s = .next t ∧
      t.cur.update = some { u with phase := .pulling c, touched := c :: u.touched.filter (· != c), verified := u.verified.filter (· != c), lastRequest := s.now } ∧
      (c = 1 → t.img.slot0 = s.img.slot0 ∧ t.img.slot1 = s.img.slot1 ∧ (if 1 - s.cur.slot = 0 then t.img.fwA else t.img.fwB) = none ∧ fwData (1 - s.cur.slot) t = []) ∧
      (c ≠ 1 → (if inactiveUlond s = 0 then t.img.slot0 else t.img.slot1) = [] ∧ (if inactiveUlond s = 0 then t.img.slot1 = s.img.slot1 else t.img.slot0 = s.img.slot0))) ∧
    (∀ (off : Nat) (data : Bytes), pullingComponent s = some 2 → off + data.length ≤ 2 ^ 20 →
      exec (.requestFirmwareData 0 off data) s = .next (sendReply 0 (replyOk (leBytes 4 (off + data.length))) (updUlond (inactiveUlond s) (fun m => memWriteBytes 0xFF m off data) s))) ∧
    (∀ (off : Nat) (data : Bytes), pullingComponent s = some 1 → off + data.length ≤ 2 ^ 23 →
      exec (.requestFirmwareData 0 off data) s =
        .next (sendReply 0 (replyOk (leBytes 4 (off + data.length))) (setFwData (1 - s.cur.slot) (memWriteBytes 0xFF (fwData (1 - s.cur.slot) s) off data) s))) ∧
    (∀ (c off : Nat) (data : Bytes), pullingComponent s = some c → (if c = 2 then 2 ^ 20 else 2 ^ 23) < off + data.length →
      exec (.requestFirmwareData 0 off data) s = .next (sendReply 0 (replyCode 0x82) s)) ∧
    (∀ image, pullingComponent s = some 1 → ∃ t, exec (.transferComplete 0 image) s = .next t ∧ t = { s with img := t.img, cur := t.cur, fab := t.fab } ∧
      (if 1 - s.cur.slot = 0 then t.img.fwA else t.img.fwB) = (if firmwareStageable s image then image else none) ∧ t.cur.update.map (·.phase) = some .open_ ∧ bit t.fab.mevCause 38 = true) ∧
    (∀ u, updateOpen s = some u → u.verified ≠ [] → u.passed.all (fun c => u.verified.contains c) = true → ∃ x, exec (.activateFirmware 0) s = .next (sendReply 0 (replyOk (zeros 2)) (beginStart x)) ∧
      x = { s with cur := x.cur, fab := x.fab } ∧ bit x.fab.mevCause 38 = true) ∧
    (∀ u, updateOpen s = some u → (u.verified = [] ∨ u.passed.all (fun c => u.verified.contains c) = false) →
      ∃ x, exec (.activateFirmware 0) s = .next (sendReply 0 (replyCode 0x85) x) ∧ x = { s with cur := { s.cur with update := some { u with lastRequest := s.now } } }) ∧
    (s.cur.update.isSome = true → s.pow.mode = .update → ∃ t, exec (.cancelUpdate 0) s = .next t ∧ t.cur.update = none ∧ t.pow.mode = .quiesce ∧ t.pow.quiesce.map (·.complete) = some true ∧
      t.cur.replies = s.cur.replies ++ [{ bus := 0, reply := replyOk (zeros 9) }])) ∧
  (∀ s : State, s.cur.update = none → exec .updateAgentTimeout s = .next s) ∧
  (∀ (u : Update) (s : State), s.cur.update = some u → ∃ t, exec .updateAgentTimeout s = .next t ∧ t.now = max s.now (u.lastRequest + 60000000000) ∧ t.cur.update = none ∧ t.doc = s.doc) ∧
  (∀ s : State, 0 < s.cur.arcToBurn → exec .antiRollbackBurn s = .next { s with
    now := s.now + 2500000, fuses := { s.fuses with arc := min 256 (s.fuses.arc + 1) }, cur := { s.cur with arcToBurn := s.cur.arcToBurn - 1 } }) ∧
  (∀ s : State, s.cur.arcToBurn = 0 → exec .antiRollbackBurn s = .next s)

/-- Attestation (17 R408, R411, Table 17-6): version, capabilities and algorithms are negotiated in this order and opened by GET_VERSION alone; digests and the chain of slot 0 are given after it; a challenge and signed measurements are signed, or Busy where no signature can be made; a signed answer ends the transcript; SCRAPPED and TERMINATED give no measurements (log 192). -/
def Obligations.Attestation : Prop :=
  ∀ s : State, busReaches s 0 = true →
    (∃ t, exec (.getVersion 0) s = .next t ∧ t = { s with cur := t.cur } ∧ t.cur.spdm = 1 ∧ t.cur.transcript = [0x10, 0x84, 0, 0] ++ [0x10, 0x04, 0, 0, 0, 1, 0, 0x13] ∧
      t.cur.replies = s.cur.replies ++ [{ bus := 0, reply := replyOk [0x10, 0x04, 0, 0, 0, 1, 0, 0x13] }]) ∧
    (s.cur.spdm = 1 → ∃ t b, exec (.getCapabilities 0) s = .next t ∧ t = { s with cur := t.cur, freeCount := t.freeCount } ∧ t.cur.spdm = 2 ∧
      t.cur.replies = s.cur.replies ++ [{ bus := 0, reply := replyOk b }] ∧ t.cur.transcript = s.cur.transcript ++ [0x13, 0xE1, 0, 0] ++ b) ∧
    (s.cur.spdm ≠ 1 → exec (.getCapabilities 0) s = .next (sendReply 0 (replyCode spdmUnexpected) s)) ∧
    (s.cur.spdm = 2 → ∃ t b, exec (.negotiateAlgorithms 0 true true) s = .next t ∧ t = { s with cur := t.cur } ∧ t.cur.spdm = 3 ∧ t.cur.replies = s.cur.replies ++ [{ bus := 0, reply := replyOk b }]) ∧
    (∀ a b, s.cur.spdm = 2 → (a && b) = false → exec (.negotiateAlgorithms 0 a b) s = .next (sendReply 0 (replyCode spdmInvalid) s)) ∧
    (∀ a b, s.cur.spdm ≠ 2 → exec (.negotiateAlgorithms 0 a b) s = .next (sendReply 0 (replyCode spdmUnexpected) s)) ∧
    (∀ (slot off len i : Nat) (sign : Bool) (nonce : BitVec 256), s.cur.spdm ≠ 3 → exec (.getDigests 0) s = .next (sendReply 0 (replyCode spdmUnexpected) s) ∧
      exec (.getCertificate 0 slot off len) s = .next (sendReply 0 (replyCode spdmUnexpected) s) ∧ exec (.challenge 0 slot nonce) s = .next (sendReply 0 (replyCode spdmUnexpected) s) ∧
      exec (.getMeasurements 0 i sign nonce) s = .next (sendReply 0 (replyCode spdmUnexpected) s)) ∧
    (s.cur.spdm = 3 →
      (∃ t, exec (.getDigests 0) s = .next t ∧ t = { s with cur := t.cur } ∧
        t.cur.replies = s.cur.replies ++ [{ bus := 0, reply := replyOk ([0x13, 0x01, 1, 1] ++ sha384 (certificateChain s)) }]) ∧
      (∀ off len, off < (certificateChain s).length → ∃ t, exec (.getCertificate 0 0 off len) s = .next t ∧ t = { s with cur := t.cur } ∧
        t.cur.replies = s.cur.replies ++ [{ bus := 0, reply := replyOk ([0x13, 0x02, 0, 0] ++ leBytes 2 (((certificateChain s).drop off).take len).length ++
          leBytes 2 ((certificateChain s).length - off - (((certificateChain s).drop off).take len).length) ++ ((certificateChain s).drop off).take len) }]) ∧
      (∀ slot off len, (slot ≠ 0 ∨ (certificateChain s).length ≤ off) → exec (.getCertificate 0 slot off len) s = .next (sendReply 0 (replyCode spdmInvalid) s)) ∧
      (∀ nonce, canSign s = true → ∃ t, exec (.challenge 0 0 nonce) s = .next t ∧ t = { s with cur := t.cur, rng := t.rng, freeCount := t.freeCount } ∧ t.cur.transcript = [] ∧
        t.cur.replies.length = s.cur.replies.length + 1) ∧
      (∀ nonce, canSign s = false → exec (.challenge 0 0 nonce) s = .next (sendReply 0 (replyCode spdmBusy) s)) ∧
      (∀ (i : Nat) (k : Nat) (b : Bytes) (nonce : BitVec 256), readoutOnly s = false → measurementBlocks s i = some (k, b) →
        (canSign s = true → ∃ t, exec (.getMeasurements 0 i true nonce) s = .next t ∧ t = { s with cur := t.cur, rng := t.rng, freeCount := t.freeCount } ∧ t.cur.transcript = []) ∧
        (∃ t, exec (.getMeasurements 0 i false nonce) s = .next t ∧ t = { s with cur := t.cur, rng := t.rng, freeCount := t.freeCount } ∧ s.cur.transcript <+: t.cur.transcript) ∧
        (canSign s = false → exec (.getMeasurements 0 i true nonce) s = .next (sendReply 0 (replyCode spdmBusy) s))) ∧
      (∀ (i : Nat) (sign : Bool) (nonce : BitVec 256), readoutOnly s = false → measurementBlocks s i = none →
        exec (.getMeasurements 0 i sign nonce) s = .next (sendReply 0 (replyCode spdmInvalid) s)) ∧
      (∀ (i : Nat) (sign : Bool) (nonce : BitVec 256), readoutOnly s = true → exec (.getMeasurements 0 i sign nonce) s = .next (sendReply 0 (replyCode spdmUnsupported) s)))

/-- Counters, samples, traces and the meter (18 R420, R424, R425, R429, 02 R51, R53, R54): SNAP copies every live count into its shadow, then CLEAR empties, then FREEZE holds; enabling sampling or tracing empties its ring; a sample goes into the next place of the ring, or is lost; a minute's mark moves the minute on; meter records are copied into free archive room. -/
def Obligations.CountersAndMeter : Prop :=
  (∀ (freeze clear : Bool) (s : State), hasRight (windowRow s 0) 8 rightWR = true →
    (∃ t, exec (.counterSnap freeze clear) s = .next t ∧ t.cnt.freeze = freeze ∧ t.doc = (settleCounters s).doc ∧ t.now = s.now ∧
      (∀ k c, mget (settleCounters s).cnt.wing k = some c → mget t.cnt.wing k = some { c with shadow := c.live, live := if clear then 0 else c.live })) ∧
    (∃ t, exec (.counterClear freeze) s = .next t ∧ t.cnt.freeze = freeze ∧ t.now = s.now ∧
      (∀ k c, mget (settleCounters s).cnt.wing k = some c → mget t.cnt.wing k = some { c with live := 0 }))) ∧
  (∀ (freeze clear : Bool) (v : W64) (s : State), hasRight (windowRow s 0) 8 rightWR = false → exec (.counterSnap freeze clear) s = .next s ∧ exec (.counterClear freeze) s = .next s ∧
    exec (.samplingEnable v) s = .next s ∧ exec (.traceEnable v) s = .next s) ∧
  (∀ (v : W64) (s : State), hasRight (windowRow s 0) 8 rightWR = true →
    (∃ t, exec (.samplingEnable v) s = .next t ∧ t = { s with cnt := t.cnt } ∧ t.cnt.sampEnable = true ∧ t.cnt.samples = [] ∧ t.cnt.sampCount = 0 ∧ t.cnt.sampFull = false ∧ t.cnt.sampLost = 0 ∧
      t.cnt.sampPeriod = field v 31 8 ∧ t.cnt.sampWings = field v 47 32 ∧ t.cnt.wing = s.cnt.wing) ∧
    (∃ t, exec (.traceEnable v) s = .next t ∧ t = { s with cnt := t.cnt } ∧ t.cnt.traceEnable = true ∧ t.cnt.traces = [] ∧ t.cnt.traceCount = 0 ∧ t.cnt.traceFull = false ∧ t.cnt.traceLost = 0 ∧
      t.cnt.traceRate = field v 5 2 ∧ t.cnt.wing = s.cnt.wing)) ∧
  (∀ (cell : Fin 128) (off slot other : Nat) (s : State),
    let sampled := s.cnt.sampEnable = true ∧ s.cnt.sampPeriod ≠ 0 ∧ bit s.cnt.sampWings (cell.val / 8) = true ∧ cellClocked s (cell.val / 8) = true
    (sampled → (s.cnt.sampCount < 512 ∨ s.cnt.sampRing = true) → ∃ t, exec (.instructionSample cell off slot other) s = .next t ∧ t = { s with cnt := t.cnt } ∧
      mget t.cnt.samples s.cnt.sampNext = some (sampleRecord s cell off slot other) ∧ t.cnt.sampNext = (s.cnt.sampNext + 1) % 512 ∧ t.cnt.sampCount = min 512 (s.cnt.sampCount + 1)) ∧
    (sampled → 512 ≤ s.cnt.sampCount → s.cnt.sampRing = false → ∃ t, exec (.instructionSample cell off slot other) s = .next t ∧ t.cnt.samples = s.cnt.samples ∧ t.cnt.sampFull = true ∧
      t.cnt.sampLost = sat 0xFFFFFFFF (s.cnt.sampLost + 1)) ∧
    (¬ sampled → exec (.instructionSample cell off slot other) s = .next s)) ∧
  (∀ s : State, (marksMinutes s = false → exec .meterMark s = .next s) ∧
    (marksMinutes s = true → ∃ t, exec .meterMark s = .next t ∧ t.now = max s.now (markTime s) ∧ t.vit.minute = s.vit.minute + 1 ∧ t.doc.descs = s.doc.descs)) ∧
  (∀ (r : MeterRecord) (s : State), hasRight (fixedRow s curatorRow) 7 rightRD = true → s.vit.meterToArchive = [r] → s.vit.meterWaiting = [] → s.img.archive.length < s.img.archiveSize →
    ∃ t, exec .meterArchiveCopy s = .next t ∧ t = { s with img := { s.img with archive := s.img.archive ++ [r] }, vit := t.vit } ∧ t.vit.meterToArchive = []) ∧
  (∀ s : State, (hasRight (fixedRow s curatorRow) 7 rightRD = false ∨ s.vit.meterToArchive = [] ∧ s.vit.meterWaiting = []) → exec .meterArchiveCopy s = .next s) ∧
  (∀ (off : BitVec 64) (s : State), exec (.utcOffsetSet off) s = .next { s with vit := { s.vit with utcOffset := off.toInt } })
end

