-- ==== Sys2Proof/Laws/Map.lean ====
section
/-!
SUPPORT. The laws of sparse tables and byte memories: a read after a write, a write leaves every other place alone, the canonical form is kept.
-/

namespace Sys2Proof.Machine

variable {α : Type}

/-- Every key of the table lies above `k`. -/
def keysAbove (k : Nat) (m : Map α) : Prop := ∀ p ∈ m, k < p.1

theorem keysRising_cons (a : Nat) (v : α) (m : Map α) : keysRising ((a, v) :: m) = true ↔ keysAbove a m ∧ keysRising m = true := by
  induction m generalizing a v with
  | nil => simp [keysRising, keysAbove]
  | cons p t ih =>
    obtain ⟨b, w⟩ := p
    simp only [keysRising, Bool.and_eq_true, decide_eq_true_eq, ih b w, keysAbove, List.mem_cons]
    constructor
    · rintro ⟨hab, hb, ht⟩
      refine ⟨?_, hb, ht⟩
      rintro p (rfl | hp)
      · exact hab
      · exact lt_trans hab (hb p hp)
    · rintro ⟨h, hb, ht⟩
      exact ⟨h (b, w) (.inl rfl), hb, ht⟩

@[simp] theorem mget_nil (k : Nat) : mget ([] : Map α) k = none := rfl

theorem mget_of_keysAbove {m : Map α} {a k : Nat} (h : keysAbove a m) (hk : k ≤ a) : mget m k = none := by
  induction m with
  | nil => rfl
  | cons p t ih =>
    have h1 : a < p.1 := h p List.mem_cons_self
    have h2 : p.1 ≠ k := by omega
    simpa [mget, h2] using ih (fun q hq => h q (List.mem_cons_of_mem _ hq))

/-- A read finds what was written there. -/
@[simp] theorem mget_mset_same (m : Map α) (k : Nat) (v : α) : mget (mset m k v) k = some v := by
  induction m with
  | nil => simp [mset, mget]
  | cons p t ih =>
    obtain ⟨a, w⟩ := p
    rcases Nat.lt_trichotomy k a with h | h | h
    · simp [mset, mget, h]
    · subst h; simp [mset, mget]
    · have h1 : ¬ k < a := by omega
      have h2 : a ≠ k := by omega
      simp [mset, mget, h1, h2, ih]

/-- A write leaves every other key alone. -/
theorem mget_mset_ne (m : Map α) {k j : Nat} (v : α) (h : j ≠ k) : mget (mset m k v) j = mget m j := by
  induction m with
  | nil => simp [mset, mget, Ne.symm h]
  | cons p t ih =>
    obtain ⟨a, w⟩ := p
    rcases Nat.lt_trichotomy k a with h' | h' | h'
    · simp [mset, mget, h', Ne.symm h]
    · subst h'; simp [mset, mget, Ne.symm h]
    · have h1 : ¬ k < a := by omega
      have h2 : a ≠ k := by omega
      simp only [mset, h1, h2, if_false, mget, ih]

theorem mget_mset (m : Map α) (k j : Nat) (v : α) : mget (mset m k v) j = if j = k then some v else mget m j := by
  by_cases h : j = k
  · subst h; simp
  · simp [h, mget_mset_ne m v h]

@[simp] theorem mgetD_mset_same (m : Map α) (k : Nat) (v d : α) : mgetD (mset m k v) k d = v := by simp [mgetD]

theorem mgetD_mset_ne (m : Map α) {k j : Nat} (v d : α) (h : j ≠ k) : mgetD (mset m k v) j d = mgetD m j d := by simp [mgetD, mget_mset_ne m v h]

/-- A dropped key reads as unlisted. -/
theorem mget_mdel_same {m : Map α} (k : Nat) (h : keysRising m = true) : mget (mdel m k) k = none := by
  induction m with
  | nil => rfl
  | cons p t ih =>
    obtain ⟨a, w⟩ := p
    have ⟨ha, ht⟩ := (keysRising_cons a w t).1 h
    by_cases hk : a = k
    · subst hk; simpa [mdel] using mget_of_keysAbove ha le_rfl
    · simpa [mdel, hk, mget] using ih ht

theorem mget_mdel_ne (m : Map α) {k j : Nat} (h : j ≠ k) : mget (mdel m k) j = mget m j := by
  induction m with
  | nil => rfl
  | cons p t ih =>
    obtain ⟨a, w⟩ := p
    by_cases hk : a = k
    · subst hk; simp [mdel, mget, Ne.symm h]
    · simp only [mdel, hk, if_false, mget, ih]

theorem keysAbove_mset {m : Map α} {a k : Nat} (v : α) (h : keysAbove a m) (hk : a < k) : keysAbove a (mset m k v) := by
  induction m with
  | nil => simpa [mset, keysAbove] using hk
  | cons p t ih =>
    obtain ⟨b, w⟩ := p
    have hb : a < b := h (b, w) List.mem_cons_self
    have ht : keysAbove a t := fun q hq => h q (List.mem_cons_of_mem _ hq)
    unfold mset
    split
    · intro q hq; rcases List.mem_cons.1 hq with rfl | hq; exacts [hk, h q hq]
    · split
      · intro q hq; rcases List.mem_cons.1 hq with rfl | hq; exacts [hk, ht q hq]
      · intro q hq; rcases List.mem_cons.1 hq with rfl | hq; exacts [hb, ih ht q hq]

theorem keysAbove_mdel {m : Map α} {a : Nat} (k : Nat) (h : keysAbove a m) : keysAbove a (mdel m k) := by
  induction m with
  | nil => simpa [mdel] using h
  | cons p t ih =>
    obtain ⟨b, w⟩ := p
    have ht : keysAbove a t := fun q hq => h q (List.mem_cons_of_mem _ hq)
    unfold mdel
    split
    · exact ht
    · intro q hq; rcases List.mem_cons.1 hq with rfl | hq; exacts [h _ List.mem_cons_self, ih ht q hq]

/-- A write keeps the keys rising. -/
theorem keysRising_mset {m : Map α} (k : Nat) (v : α) (h : keysRising m = true) : keysRising (mset m k v) = true := by
  induction m with
  | nil => rfl
  | cons p t ih =>
    obtain ⟨a, w⟩ := p
    have ⟨ha, ht⟩ := (keysRising_cons a w t).1 h
    unfold mset
    split
    · rename_i hk
      refine (keysRising_cons ..).2 ⟨?_, h⟩
      intro q hq; rcases List.mem_cons.1 hq with rfl | hq
      · exact hk
      · exact lt_trans hk (ha q hq)
    · split
      · rename_i hk; subst hk; exact (keysRising_cons ..).2 ⟨ha, ht⟩
      · refine (keysRising_cons ..).2 ⟨keysAbove_mset v ha (by omega), ih ht⟩

/-- So does dropping a key. -/
theorem keysRising_mdel {m : Map α} (k : Nat) (h : keysRising m = true) : keysRising (mdel m k) = true := by
  induction m with
  | nil => rfl
  | cons p t ih =>
    obtain ⟨a, w⟩ := p
    have ⟨ha, ht⟩ := (keysRising_cons a w t).1 h
    unfold mdel
    split
    · exact ht
    · exact (keysRising_cons ..).2 ⟨keysAbove_mdel k ha, ih ht⟩

theorem mem_mset {m : Map α} {k : Nat} {v : α} {q : Nat × α} (h : q ∈ mset m k v) : q = (k, v) ∨ q ∈ m := by
  induction m with
  | nil => simpa [mset] using h
  | cons p t ih =>
    obtain ⟨a, w⟩ := p
    unfold mset at h
    split at h
    · exact List.mem_cons.1 h
    · split at h
      · rcases List.mem_cons.1 h with h | h
        · exact .inl h
        · exact .inr (List.mem_cons_of_mem _ h)
      · rcases List.mem_cons.1 h with h | h
        · exact .inr (h ▸ List.mem_cons_self)
        · rcases ih h with h | h
          · exact .inl h
          · exact .inr (List.mem_cons_of_mem _ h)

theorem mem_mdel {m : Map α} {k : Nat} {q : Nat × α} (h : q ∈ mdel m k) : q ∈ m := by
  induction m with
  | nil => exact h
  | cons p t ih =>
    obtain ⟨a, w⟩ := p
    unfold mdel at h
    split at h
    · exact List.mem_cons_of_mem _ h
    · rcases List.mem_cons.1 h with h | h
      · exact h ▸ List.mem_cons_self
      · exact List.mem_cons_of_mem _ (ih h)

/-! Byte memories. -/

theorem memWf_iff (d : Byte) (m : Mem) : memWf d m = true ↔ keysRising m = true ∧ ∀ p ∈ m, p.2 ≠ d := by
  simp [memWf]

@[simp] theorem memWf_nil (d : Byte) : memWf d [] = true := rfl

/-- Writing a byte keeps the canonical form. -/
theorem memWf_memWrite {d : Byte} {m : Mem} (a : Nat) (b : Byte) (h : memWf d m = true) : memWf d (memWrite d m a b) = true := by
  have ⟨hk, hd⟩ := (memWf_iff d m).1 h
  unfold memWrite
  split
  · exact (memWf_iff ..).2 ⟨keysRising_mdel a hk, fun p hp => hd p (mem_mdel hp)⟩
  · rename_i hb
    refine (memWf_iff ..).2 ⟨keysRising_mset a b hk, fun p hp => ?_⟩
    rcases mem_mset hp with rfl | hp
    · exact hb
    · exact hd p hp

/-- So does writing a byte string. -/
theorem memWf_memWriteBytes {d : Byte} (bs : Bytes) {m : Mem} (a : Nat) (h : memWf d m = true) : memWf d (memWriteBytes d m a bs) = true := by
  induction bs generalizing m a with
  | nil => exact h
  | cons b t ih => exact ih (a + 1) (memWf_memWrite a b h)

/-- A byte reads back as it was written. -/
theorem memRead_memWrite_same {d : Byte} {m : Mem} (a : Nat) (b : Byte) (h : memWf d m = true) : memRead d (memWrite d m a b) a = b := by
  have ⟨hk, _⟩ := (memWf_iff d m).1 h
  unfold memRead memWrite mgetD
  split
  · rename_i hb; simp [mget_mdel_same a hk, hb]
  · simp

/-- A byte written leaves every other address alone. -/
theorem memRead_memWrite_ne {d : Byte} (m : Mem) {a c : Nat} (b : Byte) (h : c ≠ a) : memRead d (memWrite d m a b) c = memRead d m c := by
  unfold memRead memWrite mgetD
  split
  · simp [mget_mdel_ne m h]
  · simp [mget_mset_ne m b h]

/-- A string written leaves every address outside it alone. -/
theorem memRead_memWriteBytes_out {d : Byte} (bs : Bytes) (m : Mem) {a c : Nat} (h : c < a ∨ a + bs.length ≤ c) :
    memRead d (memWriteBytes d m a bs) c = memRead d m c := by
  induction bs generalizing m a with
  | nil => rfl
  | cons b t ih =>
    simp only [List.length_cons] at h
    rw [memWriteBytes, ih _ (by omega), memRead_memWrite_ne m b (by omega)]

/-- A string reads back as it was written. -/
theorem memRead_memWriteBytes_in {d : Byte} (bs : Bytes) {m : Mem} (a i : Nat) (hw : memWf d m = true) (hi : i < bs.length) :
    memRead d (memWriteBytes d m a bs) (a + i) = bs[i] := by
  induction bs generalizing m a i with
  | nil => simp at hi
  | cons b t ih =>
    have hw' := memWf_memWrite a b hw
    cases i with
    | zero => rw [memWriteBytes, memRead_memWriteBytes_out t _ (by omega)]; simpa using memRead_memWrite_same a b hw
    | succ n =>
      have := ih (a + 1) n hw' (by simpa using hi)
      rw [memWriteBytes, show a + (n + 1) = a + 1 + n by omega, this]; simp

/-- The bytes read after a string was written there are the string. -/
theorem memReadBytes_memWriteBytes {d : Byte} (bs : Bytes) {m : Mem} (a : Nat) (hw : memWf d m = true) :
    memReadBytes d (memWriteBytes d m a bs) a bs.length = bs := by
  apply List.ext_getElem
  · simp [memReadBytes]
  · intro i h1 h2
    simpa [memReadBytes] using memRead_memWriteBytes_in bs a i hw h2

end Sys2Proof.Machine
end

