-- ==== Sys2Proof/Laws/State.lean ====
section
/-!
SUPPORT. What each update of the state changes and what it leaves: one lemma per field and update, and the lookups after an update of the same thing.
-/

namespace Sys2Proof.Machine

variable (s : State)

/-! Maps. -/

theorem mget_malter {α : Type} (m : Map α) (k j : Nat) (f : α → α) : mget (malter m k f) j = if j = k then (mget m k).map f else mget m j := by
  unfold malter
  split
  · rename_i v h
    rw [mget_mset, h]; rfl
  · rename_i h
    split
    · rename_i hj; rw [hj, h]; rfl
    · rfl

theorem mgetD_mupd {α : Type} (m : Map α) (k j : Nat) (d : α) (f : α → α) : mgetD (mupd m k d f) j d = if j = k then f (mgetD m k d) else mgetD m j d := by
  unfold mupd mgetD
  rw [mget_mset]
  split <;> rfl

/-! The other components. -/

@[simp] theorem updWin_doc (fn : Nat) (f : Window → Window) : (updWin fn f s).doc = s.doc := rfl
@[simp] theorem updWin_vit (fn : Nat) (f : Window → Window) : (updWin fn f s).vit = s.vit := rfl
@[simp] theorem updWin_rng (fn : Nat) (f : Window → Window) : (updWin fn f s).rng = s.rng := rfl
@[simp] theorem updWin_pair (fn : Nat) (f : Window → Window) : (updWin fn f s).pair = s.pair := rfl
@[simp] theorem updWin_err (fn : Nat) (f : Window → Window) : (updWin fn f s).err = s.err := rfl
@[simp] theorem updWin_bb (fn : Nat) (f : Window → Window) : (updWin fn f s).bb = s.bb := rfl
@[simp] theorem updWin_ao (fn : Nat) (f : Window → Window) : (updWin fn f s).ao = s.ao := rfl
@[simp] theorem updWin_fuses (fn : Nat) (f : Window → Window) : (updWin fn f s).fuses = s.fuses := rfl
@[simp] theorem updWin_reg (fn : Nat) (f : Window → Window) : (updWin fn f s).reg = s.reg := rfl
@[simp] theorem updWin_pow (fn : Nat) (f : Window → Window) : (updWin fn f s).pow = s.pow := rfl
@[simp] theorem updWin_img (fn : Nat) (f : Window → Window) : (updWin fn f s).img = s.img := rfl
@[simp] theorem updWin_cur (fn : Nat) (f : Window → Window) : (updWin fn f s).cur = s.cur := rfl
@[simp] theorem updWin_cnt (fn : Nat) (f : Window → Window) : (updWin fn f s).cnt = s.cnt := rfl
@[simp] theorem updWin_now (fn : Nat) (f : Window → Window) : (updWin fn f s).now = s.now := rfl
@[simp] theorem updWin_freeCount (fn : Nat) (f : Window → Window) : (updWin fn f s).freeCount = s.freeCount := rfl
@[simp] theorem updWin_pending (fn : Nat) (f : Window → Window) : (updWin fn f s).pending = s.pending := rfl

@[simp] theorem updStrm_doc (fn i : Nat) (f : Stream → Stream) : (updStrm fn i f s).doc = s.doc := rfl
@[simp] theorem updStrm_vit (fn i : Nat) (f : Stream → Stream) : (updStrm fn i f s).vit = s.vit := rfl
@[simp] theorem updStrm_rng (fn i : Nat) (f : Stream → Stream) : (updStrm fn i f s).rng = s.rng := rfl
@[simp] theorem updStrm_pair (fn i : Nat) (f : Stream → Stream) : (updStrm fn i f s).pair = s.pair := rfl
@[simp] theorem updStrm_err (fn i : Nat) (f : Stream → Stream) : (updStrm fn i f s).err = s.err := rfl
@[simp] theorem updStrm_bb (fn i : Nat) (f : Stream → Stream) : (updStrm fn i f s).bb = s.bb := rfl
@[simp] theorem updStrm_ao (fn i : Nat) (f : Stream → Stream) : (updStrm fn i f s).ao = s.ao := rfl
@[simp] theorem updStrm_fuses (fn i : Nat) (f : Stream → Stream) : (updStrm fn i f s).fuses = s.fuses := rfl
@[simp] theorem updStrm_reg (fn i : Nat) (f : Stream → Stream) : (updStrm fn i f s).reg = s.reg := rfl
@[simp] theorem updStrm_pow (fn i : Nat) (f : Stream → Stream) : (updStrm fn i f s).pow = s.pow := rfl
@[simp] theorem updStrm_img (fn i : Nat) (f : Stream → Stream) : (updStrm fn i f s).img = s.img := rfl
@[simp] theorem updStrm_cur (fn i : Nat) (f : Stream → Stream) : (updStrm fn i f s).cur = s.cur := rfl
@[simp] theorem updStrm_cnt (fn i : Nat) (f : Stream → Stream) : (updStrm fn i f s).cnt = s.cnt := rfl
@[simp] theorem updStrm_now (fn i : Nat) (f : Stream → Stream) : (updStrm fn i f s).now = s.now := rfl
@[simp] theorem updStrm_freeCount (fn i : Nat) (f : Stream → Stream) : (updStrm fn i f s).freeCount = s.freeCount := rfl
@[simp] theorem updStrm_pending (fn i : Nat) (f : Stream → Stream) : (updStrm fn i f s).pending = s.pending := rfl

@[simp] theorem updPcie_doc (fn : Nat) (f : PcieFn → PcieFn) : (updPcie fn f s).doc = s.doc := rfl
@[simp] theorem updPcie_vit (fn : Nat) (f : PcieFn → PcieFn) : (updPcie fn f s).vit = s.vit := rfl
@[simp] theorem updPcie_rng (fn : Nat) (f : PcieFn → PcieFn) : (updPcie fn f s).rng = s.rng := rfl
@[simp] theorem updPcie_pair (fn : Nat) (f : PcieFn → PcieFn) : (updPcie fn f s).pair = s.pair := rfl
@[simp] theorem updPcie_err (fn : Nat) (f : PcieFn → PcieFn) : (updPcie fn f s).err = s.err := rfl
@[simp] theorem updPcie_bb (fn : Nat) (f : PcieFn → PcieFn) : (updPcie fn f s).bb = s.bb := rfl
@[simp] theorem updPcie_ao (fn : Nat) (f : PcieFn → PcieFn) : (updPcie fn f s).ao = s.ao := rfl
@[simp] theorem updPcie_fuses (fn : Nat) (f : PcieFn → PcieFn) : (updPcie fn f s).fuses = s.fuses := rfl
@[simp] theorem updPcie_reg (fn : Nat) (f : PcieFn → PcieFn) : (updPcie fn f s).reg = s.reg := rfl
@[simp] theorem updPcie_pow (fn : Nat) (f : PcieFn → PcieFn) : (updPcie fn f s).pow = s.pow := rfl
@[simp] theorem updPcie_img (fn : Nat) (f : PcieFn → PcieFn) : (updPcie fn f s).img = s.img := rfl
@[simp] theorem updPcie_cur (fn : Nat) (f : PcieFn → PcieFn) : (updPcie fn f s).cur = s.cur := rfl
@[simp] theorem updPcie_cnt (fn : Nat) (f : PcieFn → PcieFn) : (updPcie fn f s).cnt = s.cnt := rfl
@[simp] theorem updPcie_now (fn : Nat) (f : PcieFn → PcieFn) : (updPcie fn f s).now = s.now := rfl
@[simp] theorem updPcie_freeCount (fn : Nat) (f : PcieFn → PcieFn) : (updPcie fn f s).freeCount = s.freeCount := rfl
@[simp] theorem updPcie_pending (fn : Nat) (f : PcieFn → PcieFn) : (updPcie fn f s).pending = s.pending := rfl

@[simp] theorem updGal_fab (g : Nat) (f : Gallery → Gallery) : (updGal g f s).fab = s.fab := rfl
@[simp] theorem updGal_doc (g : Nat) (f : Gallery → Gallery) : (updGal g f s).doc = s.doc := rfl
@[simp] theorem updGal_rng (g : Nat) (f : Gallery → Gallery) : (updGal g f s).rng = s.rng := rfl
@[simp] theorem updGal_pair (g : Nat) (f : Gallery → Gallery) : (updGal g f s).pair = s.pair := rfl
@[simp] theorem updGal_err (g : Nat) (f : Gallery → Gallery) : (updGal g f s).err = s.err := rfl
@[simp] theorem updGal_bb (g : Nat) (f : Gallery → Gallery) : (updGal g f s).bb = s.bb := rfl
@[simp] theorem updGal_ao (g : Nat) (f : Gallery → Gallery) : (updGal g f s).ao = s.ao := rfl
@[simp] theorem updGal_fuses (g : Nat) (f : Gallery → Gallery) : (updGal g f s).fuses = s.fuses := rfl
@[simp] theorem updGal_reg (g : Nat) (f : Gallery → Gallery) : (updGal g f s).reg = s.reg := rfl
@[simp] theorem updGal_pow (g : Nat) (f : Gallery → Gallery) : (updGal g f s).pow = s.pow := rfl
@[simp] theorem updGal_img (g : Nat) (f : Gallery → Gallery) : (updGal g f s).img = s.img := rfl
@[simp] theorem updGal_cur (g : Nat) (f : Gallery → Gallery) : (updGal g f s).cur = s.cur := rfl
@[simp] theorem updGal_cnt (g : Nat) (f : Gallery → Gallery) : (updGal g f s).cnt = s.cnt := rfl
@[simp] theorem updGal_now (g : Nat) (f : Gallery → Gallery) : (updGal g f s).now = s.now := rfl
@[simp] theorem updGal_freeCount (g : Nat) (f : Gallery → Gallery) : (updGal g f s).freeCount = s.freeCount := rfl
@[simp] theorem updGal_pending (g : Nat) (f : Gallery → Gallery) : (updGal g f s).pending = s.pending := rfl

@[simp] theorem updDesc_fab (t : Nat) (f : Desc → Desc) : (updDesc t f s).fab = s.fab := rfl
@[simp] theorem updDesc_vit (t : Nat) (f : Desc → Desc) : (updDesc t f s).vit = s.vit := rfl
@[simp] theorem updDesc_rng (t : Nat) (f : Desc → Desc) : (updDesc t f s).rng = s.rng := rfl
@[simp] theorem updDesc_pair (t : Nat) (f : Desc → Desc) : (updDesc t f s).pair = s.pair := rfl
@[simp] theorem updDesc_err (t : Nat) (f : Desc → Desc) : (updDesc t f s).err = s.err := rfl
@[simp] theorem updDesc_bb (t : Nat) (f : Desc → Desc) : (updDesc t f s).bb = s.bb := rfl
@[simp] theorem updDesc_ao (t : Nat) (f : Desc → Desc) : (updDesc t f s).ao = s.ao := rfl
@[simp] theorem updDesc_fuses (t : Nat) (f : Desc → Desc) : (updDesc t f s).fuses = s.fuses := rfl
@[simp] theorem updDesc_reg (t : Nat) (f : Desc → Desc) : (updDesc t f s).reg = s.reg := rfl
@[simp] theorem updDesc_pow (t : Nat) (f : Desc → Desc) : (updDesc t f s).pow = s.pow := rfl
@[simp] theorem updDesc_img (t : Nat) (f : Desc → Desc) : (updDesc t f s).img = s.img := rfl
@[simp] theorem updDesc_cur (t : Nat) (f : Desc → Desc) : (updDesc t f s).cur = s.cur := rfl
@[simp] theorem updDesc_cnt (t : Nat) (f : Desc → Desc) : (updDesc t f s).cnt = s.cnt := rfl
@[simp] theorem updDesc_now (t : Nat) (f : Desc → Desc) : (updDesc t f s).now = s.now := rfl
@[simp] theorem updDesc_freeCount (t : Nat) (f : Desc → Desc) : (updDesc t f s).freeCount = s.freeCount := rfl
@[simp] theorem updDesc_pending (t : Nat) (f : Desc → Desc) : (updDesc t f s).pending = s.pending := rfl

@[simp] theorem updFlow_fab (i : Nat) (f : Flow → Flow) : (updFlow i f s).fab = s.fab := rfl
@[simp] theorem updFlow_vit (i : Nat) (f : Flow → Flow) : (updFlow i f s).vit = s.vit := rfl
@[simp] theorem updFlow_rng (i : Nat) (f : Flow → Flow) : (updFlow i f s).rng = s.rng := rfl
@[simp] theorem updFlow_pair (i : Nat) (f : Flow → Flow) : (updFlow i f s).pair = s.pair := rfl
@[simp] theorem updFlow_err (i : Nat) (f : Flow → Flow) : (updFlow i f s).err = s.err := rfl
@[simp] theorem updFlow_bb (i : Nat) (f : Flow → Flow) : (updFlow i f s).bb = s.bb := rfl
@[simp] theorem updFlow_ao (i : Nat) (f : Flow → Flow) : (updFlow i f s).ao = s.ao := rfl
@[simp] theorem updFlow_fuses (i : Nat) (f : Flow → Flow) : (updFlow i f s).fuses = s.fuses := rfl
@[simp] theorem updFlow_reg (i : Nat) (f : Flow → Flow) : (updFlow i f s).reg = s.reg := rfl
@[simp] theorem updFlow_pow (i : Nat) (f : Flow → Flow) : (updFlow i f s).pow = s.pow := rfl
@[simp] theorem updFlow_img (i : Nat) (f : Flow → Flow) : (updFlow i f s).img = s.img := rfl
@[simp] theorem updFlow_cur (i : Nat) (f : Flow → Flow) : (updFlow i f s).cur = s.cur := rfl
@[simp] theorem updFlow_cnt (i : Nat) (f : Flow → Flow) : (updFlow i f s).cnt = s.cnt := rfl
@[simp] theorem updFlow_now (i : Nat) (f : Flow → Flow) : (updFlow i f s).now = s.now := rfl
@[simp] theorem updFlow_freeCount (i : Nat) (f : Flow → Flow) : (updFlow i f s).freeCount = s.freeCount := rfl
@[simp] theorem updFlow_pending (i : Nat) (f : Flow → Flow) : (updFlow i f s).pending = s.pending := rfl

@[simp] theorem updCell_fab (c : Nat) (f : CellRegs → CellRegs) : (updCell c f s).fab = s.fab := rfl
@[simp] theorem updCell_vit (c : Nat) (f : CellRegs → CellRegs) : (updCell c f s).vit = s.vit := rfl
@[simp] theorem updCell_rng (c : Nat) (f : CellRegs → CellRegs) : (updCell c f s).rng = s.rng := rfl
@[simp] theorem updCell_pair (c : Nat) (f : CellRegs → CellRegs) : (updCell c f s).pair = s.pair := rfl
@[simp] theorem updCell_err (c : Nat) (f : CellRegs → CellRegs) : (updCell c f s).err = s.err := rfl
@[simp] theorem updCell_bb (c : Nat) (f : CellRegs → CellRegs) : (updCell c f s).bb = s.bb := rfl
@[simp] theorem updCell_ao (c : Nat) (f : CellRegs → CellRegs) : (updCell c f s).ao = s.ao := rfl
@[simp] theorem updCell_fuses (c : Nat) (f : CellRegs → CellRegs) : (updCell c f s).fuses = s.fuses := rfl
@[simp] theorem updCell_reg (c : Nat) (f : CellRegs → CellRegs) : (updCell c f s).reg = s.reg := rfl
@[simp] theorem updCell_pow (c : Nat) (f : CellRegs → CellRegs) : (updCell c f s).pow = s.pow := rfl
@[simp] theorem updCell_img (c : Nat) (f : CellRegs → CellRegs) : (updCell c f s).img = s.img := rfl
@[simp] theorem updCell_cur (c : Nat) (f : CellRegs → CellRegs) : (updCell c f s).cur = s.cur := rfl
@[simp] theorem updCell_cnt (c : Nat) (f : CellRegs → CellRegs) : (updCell c f s).cnt = s.cnt := rfl
@[simp] theorem updCell_now (c : Nat) (f : CellRegs → CellRegs) : (updCell c f s).now = s.now := rfl
@[simp] theorem updCell_freeCount (c : Nat) (f : CellRegs → CellRegs) : (updCell c f s).freeCount = s.freeCount := rfl
@[simp] theorem updCell_pending (c : Nat) (f : CellRegs → CellRegs) : (updCell c f s).pending = s.pending := rfl

@[simp] theorem updWing_fab (w : Nat) (f : Wing → Wing) : (updWing w f s).fab = s.fab := rfl
@[simp] theorem updWing_doc (w : Nat) (f : Wing → Wing) : (updWing w f s).doc = s.doc := rfl
@[simp] theorem updWing_vit (w : Nat) (f : Wing → Wing) : (updWing w f s).vit = s.vit := rfl
@[simp] theorem updWing_rng (w : Nat) (f : Wing → Wing) : (updWing w f s).rng = s.rng := rfl
@[simp] theorem updWing_pair (w : Nat) (f : Wing → Wing) : (updWing w f s).pair = s.pair := rfl
@[simp] theorem updWing_err (w : Nat) (f : Wing → Wing) : (updWing w f s).err = s.err := rfl
@[simp] theorem updWing_bb (w : Nat) (f : Wing → Wing) : (updWing w f s).bb = s.bb := rfl
@[simp] theorem updWing_ao (w : Nat) (f : Wing → Wing) : (updWing w f s).ao = s.ao := rfl
@[simp] theorem updWing_fuses (w : Nat) (f : Wing → Wing) : (updWing w f s).fuses = s.fuses := rfl
@[simp] theorem updWing_reg (w : Nat) (f : Wing → Wing) : (updWing w f s).reg = s.reg := rfl
@[simp] theorem updWing_img (w : Nat) (f : Wing → Wing) : (updWing w f s).img = s.img := rfl
@[simp] theorem updWing_cur (w : Nat) (f : Wing → Wing) : (updWing w f s).cur = s.cur := rfl
@[simp] theorem updWing_cnt (w : Nat) (f : Wing → Wing) : (updWing w f s).cnt = s.cnt := rfl
@[simp] theorem updWing_now (w : Nat) (f : Wing → Wing) : (updWing w f s).now = s.now := rfl
@[simp] theorem updWing_freeCount (w : Nat) (f : Wing → Wing) : (updWing w f s).freeCount = s.freeCount := rfl
@[simp] theorem updWing_pending (w : Nat) (f : Wing → Wing) : (updWing w f s).pending = s.pending := rfl

@[simp] theorem updEngine_fab (h : Bool) (w : Nat) (f : Engine → Engine) : (updEngine h w f s).fab = s.fab := rfl
@[simp] theorem updEngine_doc (h : Bool) (w : Nat) (f : Engine → Engine) : (updEngine h w f s).doc = s.doc := rfl
@[simp] theorem updEngine_vit (h : Bool) (w : Nat) (f : Engine → Engine) : (updEngine h w f s).vit = s.vit := rfl
@[simp] theorem updEngine_rng (h : Bool) (w : Nat) (f : Engine → Engine) : (updEngine h w f s).rng = s.rng := rfl
@[simp] theorem updEngine_pair (h : Bool) (w : Nat) (f : Engine → Engine) : (updEngine h w f s).pair = s.pair := rfl
@[simp] theorem updEngine_err (h : Bool) (w : Nat) (f : Engine → Engine) : (updEngine h w f s).err = s.err := rfl
@[simp] theorem updEngine_bb (h : Bool) (w : Nat) (f : Engine → Engine) : (updEngine h w f s).bb = s.bb := rfl
@[simp] theorem updEngine_ao (h : Bool) (w : Nat) (f : Engine → Engine) : (updEngine h w f s).ao = s.ao := rfl
@[simp] theorem updEngine_fuses (h : Bool) (w : Nat) (f : Engine → Engine) : (updEngine h w f s).fuses = s.fuses := rfl
@[simp] theorem updEngine_reg (h : Bool) (w : Nat) (f : Engine → Engine) : (updEngine h w f s).reg = s.reg := rfl
@[simp] theorem updEngine_img (h : Bool) (w : Nat) (f : Engine → Engine) : (updEngine h w f s).img = s.img := rfl
@[simp] theorem updEngine_cur (h : Bool) (w : Nat) (f : Engine → Engine) : (updEngine h w f s).cur = s.cur := rfl
@[simp] theorem updEngine_cnt (h : Bool) (w : Nat) (f : Engine → Engine) : (updEngine h w f s).cnt = s.cnt := rfl
@[simp] theorem updEngine_now (h : Bool) (w : Nat) (f : Engine → Engine) : (updEngine h w f s).now = s.now := rfl
@[simp] theorem updEngine_freeCount (h : Bool) (w : Nat) (f : Engine → Engine) : (updEngine h w f s).freeCount = s.freeCount := rfl
@[simp] theorem updEngine_pending (h : Bool) (w : Nat) (f : Engine → Engine) : (updEngine h w f s).pending = s.pending := rfl

@[simp] theorem updPku_fab (w : Nat) (f : Pku → Pku) : (updPku w f s).fab = s.fab := rfl
@[simp] theorem updPku_doc (w : Nat) (f : Pku → Pku) : (updPku w f s).doc = s.doc := rfl
@[simp] theorem updPku_vit (w : Nat) (f : Pku → Pku) : (updPku w f s).vit = s.vit := rfl
@[simp] theorem updPku_rng (w : Nat) (f : Pku → Pku) : (updPku w f s).rng = s.rng := rfl
@[simp] theorem updPku_pair (w : Nat) (f : Pku → Pku) : (updPku w f s).pair = s.pair := rfl
@[simp] theorem updPku_err (w : Nat) (f : Pku → Pku) : (updPku w f s).err = s.err := rfl
@[simp] theorem updPku_bb (w : Nat) (f : Pku → Pku) : (updPku w f s).bb = s.bb := rfl
@[simp] theorem updPku_ao (w : Nat) (f : Pku → Pku) : (updPku w f s).ao = s.ao := rfl
@[simp] theorem updPku_fuses (w : Nat) (f : Pku → Pku) : (updPku w f s).fuses = s.fuses := rfl
@[simp] theorem updPku_reg (w : Nat) (f : Pku → Pku) : (updPku w f s).reg = s.reg := rfl
@[simp] theorem updPku_img (w : Nat) (f : Pku → Pku) : (updPku w f s).img = s.img := rfl
@[simp] theorem updPku_cur (w : Nat) (f : Pku → Pku) : (updPku w f s).cur = s.cur := rfl
@[simp] theorem updPku_cnt (w : Nat) (f : Pku → Pku) : (updPku w f s).cnt = s.cnt := rfl
@[simp] theorem updPku_now (w : Nat) (f : Pku → Pku) : (updPku w f s).now = s.now := rfl
@[simp] theorem updPku_freeCount (w : Nat) (f : Pku → Pku) : (updPku w f s).freeCount = s.freeCount := rfl
@[simp] theorem updPku_pending (w : Nat) (f : Pku → Pku) : (updPku w f s).pending = s.pending := rfl

@[simp] theorem updPort_fab (p : Nat) (f : SpanPort → SpanPort) : (updPort p f s).fab = s.fab := rfl
@[simp] theorem updPort_doc (p : Nat) (f : SpanPort → SpanPort) : (updPort p f s).doc = s.doc := rfl
@[simp] theorem updPort_vit (p : Nat) (f : SpanPort → SpanPort) : (updPort p f s).vit = s.vit := rfl
@[simp] theorem updPort_rng (p : Nat) (f : SpanPort → SpanPort) : (updPort p f s).rng = s.rng := rfl
@[simp] theorem updPort_err (p : Nat) (f : SpanPort → SpanPort) : (updPort p f s).err = s.err := rfl
@[simp] theorem updPort_bb (p : Nat) (f : SpanPort → SpanPort) : (updPort p f s).bb = s.bb := rfl
@[simp] theorem updPort_ao (p : Nat) (f : SpanPort → SpanPort) : (updPort p f s).ao = s.ao := rfl
@[simp] theorem updPort_fuses (p : Nat) (f : SpanPort → SpanPort) : (updPort p f s).fuses = s.fuses := rfl
@[simp] theorem updPort_reg (p : Nat) (f : SpanPort → SpanPort) : (updPort p f s).reg = s.reg := rfl
@[simp] theorem updPort_pow (p : Nat) (f : SpanPort → SpanPort) : (updPort p f s).pow = s.pow := rfl
@[simp] theorem updPort_img (p : Nat) (f : SpanPort → SpanPort) : (updPort p f s).img = s.img := rfl
@[simp] theorem updPort_cur (p : Nat) (f : SpanPort → SpanPort) : (updPort p f s).cur = s.cur := rfl
@[simp] theorem updPort_cnt (p : Nat) (f : SpanPort → SpanPort) : (updPort p f s).cnt = s.cnt := rfl
@[simp] theorem updPort_now (p : Nat) (f : SpanPort → SpanPort) : (updPort p f s).now = s.now := rfl
@[simp] theorem updPort_freeCount (p : Nat) (f : SpanPort → SpanPort) : (updPort p f s).freeCount = s.freeCount := rfl
@[simp] theorem updPort_pending (p : Nat) (f : SpanPort → SpanPort) : (updPort p f s).pending = s.pending := rfl

@[simp] theorem updSource_fab (n : Nat) (f : Source → Source) : (updSource n f s).fab = s.fab := rfl
@[simp] theorem updSource_doc (n : Nat) (f : Source → Source) : (updSource n f s).doc = s.doc := rfl
@[simp] theorem updSource_vit (n : Nat) (f : Source → Source) : (updSource n f s).vit = s.vit := rfl
@[simp] theorem updSource_pair (n : Nat) (f : Source → Source) : (updSource n f s).pair = s.pair := rfl
@[simp] theorem updSource_err (n : Nat) (f : Source → Source) : (updSource n f s).err = s.err := rfl
@[simp] theorem updSource_bb (n : Nat) (f : Source → Source) : (updSource n f s).bb = s.bb := rfl
@[simp] theorem updSource_ao (n : Nat) (f : Source → Source) : (updSource n f s).ao = s.ao := rfl
@[simp] theorem updSource_fuses (n : Nat) (f : Source → Source) : (updSource n f s).fuses = s.fuses := rfl
@[simp] theorem updSource_reg (n : Nat) (f : Source → Source) : (updSource n f s).reg = s.reg := rfl
@[simp] theorem updSource_pow (n : Nat) (f : Source → Source) : (updSource n f s).pow = s.pow := rfl
@[simp] theorem updSource_img (n : Nat) (f : Source → Source) : (updSource n f s).img = s.img := rfl
@[simp] theorem updSource_cur (n : Nat) (f : Source → Source) : (updSource n f s).cur = s.cur := rfl
@[simp] theorem updSource_cnt (n : Nat) (f : Source → Source) : (updSource n f s).cnt = s.cnt := rfl
@[simp] theorem updSource_now (n : Nat) (f : Source → Source) : (updSource n f s).now = s.now := rfl
@[simp] theorem updSource_freeCount (n : Nat) (f : Source → Source) : (updSource n f s).freeCount = s.freeCount := rfl
@[simp] theorem updSource_pending (n : Nat) (f : Source → Source) : (updSource n f s).pending = s.pending := rfl

@[simp] theorem updWingErr_fab (w : Nat) (f : WingErr → WingErr) : (updWingErr w f s).fab = s.fab := rfl
@[simp] theorem updWingErr_doc (w : Nat) (f : WingErr → WingErr) : (updWingErr w f s).doc = s.doc := rfl
@[simp] theorem updWingErr_vit (w : Nat) (f : WingErr → WingErr) : (updWingErr w f s).vit = s.vit := rfl
@[simp] theorem updWingErr_rng (w : Nat) (f : WingErr → WingErr) : (updWingErr w f s).rng = s.rng := rfl
@[simp] theorem updWingErr_pair (w : Nat) (f : WingErr → WingErr) : (updWingErr w f s).pair = s.pair := rfl
@[simp] theorem updWingErr_bb (w : Nat) (f : WingErr → WingErr) : (updWingErr w f s).bb = s.bb := rfl
@[simp] theorem updWingErr_ao (w : Nat) (f : WingErr → WingErr) : (updWingErr w f s).ao = s.ao := rfl
@[simp] theorem updWingErr_fuses (w : Nat) (f : WingErr → WingErr) : (updWingErr w f s).fuses = s.fuses := rfl
@[simp] theorem updWingErr_reg (w : Nat) (f : WingErr → WingErr) : (updWingErr w f s).reg = s.reg := rfl
@[simp] theorem updWingErr_pow (w : Nat) (f : WingErr → WingErr) : (updWingErr w f s).pow = s.pow := rfl
@[simp] theorem updWingErr_img (w : Nat) (f : WingErr → WingErr) : (updWingErr w f s).img = s.img := rfl
@[simp] theorem updWingErr_cur (w : Nat) (f : WingErr → WingErr) : (updWingErr w f s).cur = s.cur := rfl
@[simp] theorem updWingErr_cnt (w : Nat) (f : WingErr → WingErr) : (updWingErr w f s).cnt = s.cnt := rfl
@[simp] theorem updWingErr_now (w : Nat) (f : WingErr → WingErr) : (updWingErr w f s).now = s.now := rfl
@[simp] theorem updWingErr_freeCount (w : Nat) (f : WingErr → WingErr) : (updWingErr w f s).freeCount = s.freeCount := rfl
@[simp] theorem updWingErr_pending (w : Nat) (f : WingErr → WingErr) : (updWingErr w f s).pending = s.pending := rfl

@[simp] theorem updLoop_fab (i : Nat) (f : Loop → Loop) : (updLoop i f s).fab = s.fab := rfl
@[simp] theorem updLoop_doc (i : Nat) (f : Loop → Loop) : (updLoop i f s).doc = s.doc := rfl
@[simp] theorem updLoop_vit (i : Nat) (f : Loop → Loop) : (updLoop i f s).vit = s.vit := rfl
@[simp] theorem updLoop_rng (i : Nat) (f : Loop → Loop) : (updLoop i f s).rng = s.rng := rfl
@[simp] theorem updLoop_pair (i : Nat) (f : Loop → Loop) : (updLoop i f s).pair = s.pair := rfl
@[simp] theorem updLoop_err (i : Nat) (f : Loop → Loop) : (updLoop i f s).err = s.err := rfl
@[simp] theorem updLoop_bb (i : Nat) (f : Loop → Loop) : (updLoop i f s).bb = s.bb := rfl
@[simp] theorem updLoop_fuses (i : Nat) (f : Loop → Loop) : (updLoop i f s).fuses = s.fuses := rfl
@[simp] theorem updLoop_reg (i : Nat) (f : Loop → Loop) : (updLoop i f s).reg = s.reg := rfl
@[simp] theorem updLoop_pow (i : Nat) (f : Loop → Loop) : (updLoop i f s).pow = s.pow := rfl
@[simp] theorem updLoop_img (i : Nat) (f : Loop → Loop) : (updLoop i f s).img = s.img := rfl
@[simp] theorem updLoop_cur (i : Nat) (f : Loop → Loop) : (updLoop i f s).cur = s.cur := rfl
@[simp] theorem updLoop_cnt (i : Nat) (f : Loop → Loop) : (updLoop i f s).cnt = s.cnt := rfl
@[simp] theorem updLoop_now (i : Nat) (f : Loop → Loop) : (updLoop i f s).now = s.now := rfl
@[simp] theorem updLoop_freeCount (i : Nat) (f : Loop → Loop) : (updLoop i f s).freeCount = s.freeCount := rfl
@[simp] theorem updLoop_pending (i : Nat) (f : Loop → Loop) : (updLoop i f s).pending = s.pending := rfl

@[simp] theorem advanceTo_fab (t : Nat) : (advanceTo t s).fab = s.fab := rfl
@[simp] theorem advanceTo_doc (t : Nat) : (advanceTo t s).doc = s.doc := rfl
@[simp] theorem advanceTo_vit (t : Nat) : (advanceTo t s).vit = s.vit := rfl
@[simp] theorem advanceTo_rng (t : Nat) : (advanceTo t s).rng = s.rng := rfl
@[simp] theorem advanceTo_pair (t : Nat) : (advanceTo t s).pair = s.pair := rfl
@[simp] theorem advanceTo_err (t : Nat) : (advanceTo t s).err = s.err := rfl
@[simp] theorem advanceTo_bb (t : Nat) : (advanceTo t s).bb = s.bb := rfl
@[simp] theorem advanceTo_ao (t : Nat) : (advanceTo t s).ao = s.ao := rfl
@[simp] theorem advanceTo_fuses (t : Nat) : (advanceTo t s).fuses = s.fuses := rfl
@[simp] theorem advanceTo_reg (t : Nat) : (advanceTo t s).reg = s.reg := rfl
@[simp] theorem advanceTo_pow (t : Nat) : (advanceTo t s).pow = s.pow := rfl
@[simp] theorem advanceTo_img (t : Nat) : (advanceTo t s).img = s.img := rfl
@[simp] theorem advanceTo_cur (t : Nat) : (advanceTo t s).cur = s.cur := rfl
@[simp] theorem advanceTo_cnt (t : Nat) : (advanceTo t s).cnt = s.cnt := rfl
@[simp] theorem advanceTo_freeCount (t : Nat) : (advanceTo t s).freeCount = s.freeCount := rfl
@[simp] theorem advanceTo_pending (t : Nat) : (advanceTo t s).pending = s.pending := rfl

@[simp] theorem setLive_fab (c : Nat) (on : Bool) : (setLive c on s).fab = s.fab := rfl
@[simp] theorem setLive_doc (c : Nat) (on : Bool) : (setLive c on s).doc = s.doc := rfl
@[simp] theorem setLive_vit (c : Nat) (on : Bool) : (setLive c on s).vit = s.vit := rfl
@[simp] theorem setLive_rng (c : Nat) (on : Bool) : (setLive c on s).rng = s.rng := rfl
@[simp] theorem setLive_pair (c : Nat) (on : Bool) : (setLive c on s).pair = s.pair := rfl
@[simp] theorem setLive_err (c : Nat) (on : Bool) : (setLive c on s).err = s.err := rfl
@[simp] theorem setLive_bb (c : Nat) (on : Bool) : (setLive c on s).bb = s.bb := rfl
@[simp] theorem setLive_fuses (c : Nat) (on : Bool) : (setLive c on s).fuses = s.fuses := rfl
@[simp] theorem setLive_reg (c : Nat) (on : Bool) : (setLive c on s).reg = s.reg := rfl
@[simp] theorem setLive_pow (c : Nat) (on : Bool) : (setLive c on s).pow = s.pow := rfl
@[simp] theorem setLive_img (c : Nat) (on : Bool) : (setLive c on s).img = s.img := rfl
@[simp] theorem setLive_cur (c : Nat) (on : Bool) : (setLive c on s).cur = s.cur := rfl
@[simp] theorem setLive_cnt (c : Nat) (on : Bool) : (setLive c on s).cnt = s.cnt := rfl
@[simp] theorem setLive_now (c : Nat) (on : Bool) : (setLive c on s).now = s.now := rfl
@[simp] theorem setLive_freeCount (c : Nat) (on : Bool) : (setLive c on s).freeCount = s.freeCount := rfl
@[simp] theorem setLive_pending (c : Nat) (on : Bool) : (setLive c on s).pending = s.pending := rfl

/-! Lookups in another component. -/

@[simp] theorem gal_updWin (fn : Nat) (f : Window → Window) (k : Nat) : gal (updWin fn f s) k = gal s k := rfl
@[simp] theorem desc_updWin (fn : Nat) (f : Window → Window) (k : Nat) : desc (updWin fn f s) k = desc s k := rfl
@[simp] theorem cellRegs_updWin (fn : Nat) (f : Window → Window) (k : Nat) : cellRegs (updWin fn f s) k = cellRegs s k := rfl
@[simp] theorem wing_updWin (fn : Nat) (f : Window → Window) (k : Nat) : wing (updWin fn f s) k = wing s k := rfl
@[simp] theorem engineOf_updWin (fn : Nat) (f : Window → Window) (b : Bool) (k : Nat) : engineOf (updWin fn f s) b k = engineOf s b k := rfl
@[simp] theorem spanPort_updWin (fn : Nat) (f : Window → Window) (k : Nat) : spanPort (updWin fn f s) k = spanPort s k := rfl
@[simp] theorem source_updWin (fn : Nat) (f : Window → Window) (k : Nat) : source (updWin fn f s) k = source s k := rfl

@[simp] theorem gal_updStrm (fn i : Nat) (f : Stream → Stream) (k : Nat) : gal (updStrm fn i f s) k = gal s k := rfl
@[simp] theorem desc_updStrm (fn i : Nat) (f : Stream → Stream) (k : Nat) : desc (updStrm fn i f s) k = desc s k := rfl
@[simp] theorem cellRegs_updStrm (fn i : Nat) (f : Stream → Stream) (k : Nat) : cellRegs (updStrm fn i f s) k = cellRegs s k := rfl
@[simp] theorem wing_updStrm (fn i : Nat) (f : Stream → Stream) (k : Nat) : wing (updStrm fn i f s) k = wing s k := rfl
@[simp] theorem engineOf_updStrm (fn i : Nat) (f : Stream → Stream) (b : Bool) (k : Nat) : engineOf (updStrm fn i f s) b k = engineOf s b k := rfl
@[simp] theorem spanPort_updStrm (fn i : Nat) (f : Stream → Stream) (k : Nat) : spanPort (updStrm fn i f s) k = spanPort s k := rfl
@[simp] theorem source_updStrm (fn i : Nat) (f : Stream → Stream) (k : Nat) : source (updStrm fn i f s) k = source s k := rfl

@[simp] theorem gal_updPcie (fn : Nat) (f : PcieFn → PcieFn) (k : Nat) : gal (updPcie fn f s) k = gal s k := rfl
@[simp] theorem desc_updPcie (fn : Nat) (f : PcieFn → PcieFn) (k : Nat) : desc (updPcie fn f s) k = desc s k := rfl
@[simp] theorem cellRegs_updPcie (fn : Nat) (f : PcieFn → PcieFn) (k : Nat) : cellRegs (updPcie fn f s) k = cellRegs s k := rfl
@[simp] theorem wing_updPcie (fn : Nat) (f : PcieFn → PcieFn) (k : Nat) : wing (updPcie fn f s) k = wing s k := rfl
@[simp] theorem engineOf_updPcie (fn : Nat) (f : PcieFn → PcieFn) (b : Bool) (k : Nat) : engineOf (updPcie fn f s) b k = engineOf s b k := rfl
@[simp] theorem spanPort_updPcie (fn : Nat) (f : PcieFn → PcieFn) (k : Nat) : spanPort (updPcie fn f s) k = spanPort s k := rfl
@[simp] theorem source_updPcie (fn : Nat) (f : PcieFn → PcieFn) (k : Nat) : source (updPcie fn f s) k = source s k := rfl

@[simp] theorem win_updGal (g : Nat) (f : Gallery → Gallery) (k : Nat) : win (updGal g f s) k = win s k := rfl
@[simp] theorem strm_updGal (g : Nat) (f : Gallery → Gallery) (k j : Nat) : strm (updGal g f s) k j = strm s k j := rfl
@[simp] theorem pcie_updGal (g : Nat) (f : Gallery → Gallery) (k : Nat) : pcie (updGal g f s) k = pcie s k := rfl
@[simp] theorem desc_updGal (g : Nat) (f : Gallery → Gallery) (k : Nat) : desc (updGal g f s) k = desc s k := rfl
@[simp] theorem cellRegs_updGal (g : Nat) (f : Gallery → Gallery) (k : Nat) : cellRegs (updGal g f s) k = cellRegs s k := rfl
@[simp] theorem wing_updGal (g : Nat) (f : Gallery → Gallery) (k : Nat) : wing (updGal g f s) k = wing s k := rfl
@[simp] theorem engineOf_updGal (g : Nat) (f : Gallery → Gallery) (b : Bool) (k : Nat) : engineOf (updGal g f s) b k = engineOf s b k := rfl
@[simp] theorem spanPort_updGal (g : Nat) (f : Gallery → Gallery) (k : Nat) : spanPort (updGal g f s) k = spanPort s k := rfl
@[simp] theorem source_updGal (g : Nat) (f : Gallery → Gallery) (k : Nat) : source (updGal g f s) k = source s k := rfl

@[simp] theorem win_updDesc (t : Nat) (f : Desc → Desc) (k : Nat) : win (updDesc t f s) k = win s k := rfl
@[simp] theorem strm_updDesc (t : Nat) (f : Desc → Desc) (k j : Nat) : strm (updDesc t f s) k j = strm s k j := rfl
@[simp] theorem pcie_updDesc (t : Nat) (f : Desc → Desc) (k : Nat) : pcie (updDesc t f s) k = pcie s k := rfl
@[simp] theorem gal_updDesc (t : Nat) (f : Desc → Desc) (k : Nat) : gal (updDesc t f s) k = gal s k := rfl
@[simp] theorem wing_updDesc (t : Nat) (f : Desc → Desc) (k : Nat) : wing (updDesc t f s) k = wing s k := rfl
@[simp] theorem engineOf_updDesc (t : Nat) (f : Desc → Desc) (b : Bool) (k : Nat) : engineOf (updDesc t f s) b k = engineOf s b k := rfl
@[simp] theorem spanPort_updDesc (t : Nat) (f : Desc → Desc) (k : Nat) : spanPort (updDesc t f s) k = spanPort s k := rfl
@[simp] theorem source_updDesc (t : Nat) (f : Desc → Desc) (k : Nat) : source (updDesc t f s) k = source s k := rfl

@[simp] theorem win_updFlow (i : Nat) (f : Flow → Flow) (k : Nat) : win (updFlow i f s) k = win s k := rfl
@[simp] theorem strm_updFlow (i : Nat) (f : Flow → Flow) (k j : Nat) : strm (updFlow i f s) k j = strm s k j := rfl
@[simp] theorem pcie_updFlow (i : Nat) (f : Flow → Flow) (k : Nat) : pcie (updFlow i f s) k = pcie s k := rfl
@[simp] theorem gal_updFlow (i : Nat) (f : Flow → Flow) (k : Nat) : gal (updFlow i f s) k = gal s k := rfl
@[simp] theorem wing_updFlow (i : Nat) (f : Flow → Flow) (k : Nat) : wing (updFlow i f s) k = wing s k := rfl
@[simp] theorem engineOf_updFlow (i : Nat) (f : Flow → Flow) (b : Bool) (k : Nat) : engineOf (updFlow i f s) b k = engineOf s b k := rfl
@[simp] theorem spanPort_updFlow (i : Nat) (f : Flow → Flow) (k : Nat) : spanPort (updFlow i f s) k = spanPort s k := rfl
@[simp] theorem source_updFlow (i : Nat) (f : Flow → Flow) (k : Nat) : source (updFlow i f s) k = source s k := rfl

@[simp] theorem win_updCell (c : Nat) (f : CellRegs → CellRegs) (k : Nat) : win (updCell c f s) k = win s k := rfl
@[simp] theorem strm_updCell (c : Nat) (f : CellRegs → CellRegs) (k j : Nat) : strm (updCell c f s) k j = strm s k j := rfl
@[simp] theorem pcie_updCell (c : Nat) (f : CellRegs → CellRegs) (k : Nat) : pcie (updCell c f s) k = pcie s k := rfl
@[simp] theorem gal_updCell (c : Nat) (f : CellRegs → CellRegs) (k : Nat) : gal (updCell c f s) k = gal s k := rfl
@[simp] theorem wing_updCell (c : Nat) (f : CellRegs → CellRegs) (k : Nat) : wing (updCell c f s) k = wing s k := rfl
@[simp] theorem engineOf_updCell (c : Nat) (f : CellRegs → CellRegs) (b : Bool) (k : Nat) : engineOf (updCell c f s) b k = engineOf s b k := rfl
@[simp] theorem spanPort_updCell (c : Nat) (f : CellRegs → CellRegs) (k : Nat) : spanPort (updCell c f s) k = spanPort s k := rfl
@[simp] theorem source_updCell (c : Nat) (f : CellRegs → CellRegs) (k : Nat) : source (updCell c f s) k = source s k := rfl

@[simp] theorem win_updWing (w : Nat) (f : Wing → Wing) (k : Nat) : win (updWing w f s) k = win s k := rfl
@[simp] theorem strm_updWing (w : Nat) (f : Wing → Wing) (k j : Nat) : strm (updWing w f s) k j = strm s k j := rfl
@[simp] theorem pcie_updWing (w : Nat) (f : Wing → Wing) (k : Nat) : pcie (updWing w f s) k = pcie s k := rfl
@[simp] theorem gal_updWing (w : Nat) (f : Wing → Wing) (k : Nat) : gal (updWing w f s) k = gal s k := rfl
@[simp] theorem desc_updWing (w : Nat) (f : Wing → Wing) (k : Nat) : desc (updWing w f s) k = desc s k := rfl
@[simp] theorem cellRegs_updWing (w : Nat) (f : Wing → Wing) (k : Nat) : cellRegs (updWing w f s) k = cellRegs s k := rfl
@[simp] theorem spanPort_updWing (w : Nat) (f : Wing → Wing) (k : Nat) : spanPort (updWing w f s) k = spanPort s k := rfl
@[simp] theorem source_updWing (w : Nat) (f : Wing → Wing) (k : Nat) : source (updWing w f s) k = source s k := rfl

@[simp] theorem win_updEngine (h : Bool) (w : Nat) (f : Engine → Engine) (k : Nat) : win (updEngine h w f s) k = win s k := rfl
@[simp] theorem strm_updEngine (h : Bool) (w : Nat) (f : Engine → Engine) (k j : Nat) : strm (updEngine h w f s) k j = strm s k j := rfl
@[simp] theorem pcie_updEngine (h : Bool) (w : Nat) (f : Engine → Engine) (k : Nat) : pcie (updEngine h w f s) k = pcie s k := rfl
@[simp] theorem gal_updEngine (h : Bool) (w : Nat) (f : Engine → Engine) (k : Nat) : gal (updEngine h w f s) k = gal s k := rfl
@[simp] theorem desc_updEngine (h : Bool) (w : Nat) (f : Engine → Engine) (k : Nat) : desc (updEngine h w f s) k = desc s k := rfl
@[simp] theorem cellRegs_updEngine (h : Bool) (w : Nat) (f : Engine → Engine) (k : Nat) : cellRegs (updEngine h w f s) k = cellRegs s k := rfl
@[simp] theorem spanPort_updEngine (h : Bool) (w : Nat) (f : Engine → Engine) (k : Nat) : spanPort (updEngine h w f s) k = spanPort s k := rfl
@[simp] theorem source_updEngine (h : Bool) (w : Nat) (f : Engine → Engine) (k : Nat) : source (updEngine h w f s) k = source s k := rfl

@[simp] theorem win_updPku (w : Nat) (f : Pku → Pku) (k : Nat) : win (updPku w f s) k = win s k := rfl
@[simp] theorem strm_updPku (w : Nat) (f : Pku → Pku) (k j : Nat) : strm (updPku w f s) k j = strm s k j := rfl
@[simp] theorem pcie_updPku (w : Nat) (f : Pku → Pku) (k : Nat) : pcie (updPku w f s) k = pcie s k := rfl
@[simp] theorem gal_updPku (w : Nat) (f : Pku → Pku) (k : Nat) : gal (updPku w f s) k = gal s k := rfl
@[simp] theorem desc_updPku (w : Nat) (f : Pku → Pku) (k : Nat) : desc (updPku w f s) k = desc s k := rfl
@[simp] theorem cellRegs_updPku (w : Nat) (f : Pku → Pku) (k : Nat) : cellRegs (updPku w f s) k = cellRegs s k := rfl
@[simp] theorem spanPort_updPku (w : Nat) (f : Pku → Pku) (k : Nat) : spanPort (updPku w f s) k = spanPort s k := rfl
@[simp] theorem source_updPku (w : Nat) (f : Pku → Pku) (k : Nat) : source (updPku w f s) k = source s k := rfl

@[simp] theorem win_updPort (p : Nat) (f : SpanPort → SpanPort) (k : Nat) : win (updPort p f s) k = win s k := rfl
@[simp] theorem strm_updPort (p : Nat) (f : SpanPort → SpanPort) (k j : Nat) : strm (updPort p f s) k j = strm s k j := rfl
@[simp] theorem pcie_updPort (p : Nat) (f : SpanPort → SpanPort) (k : Nat) : pcie (updPort p f s) k = pcie s k := rfl
@[simp] theorem gal_updPort (p : Nat) (f : SpanPort → SpanPort) (k : Nat) : gal (updPort p f s) k = gal s k := rfl
@[simp] theorem desc_updPort (p : Nat) (f : SpanPort → SpanPort) (k : Nat) : desc (updPort p f s) k = desc s k := rfl
@[simp] theorem cellRegs_updPort (p : Nat) (f : SpanPort → SpanPort) (k : Nat) : cellRegs (updPort p f s) k = cellRegs s k := rfl
@[simp] theorem wing_updPort (p : Nat) (f : SpanPort → SpanPort) (k : Nat) : wing (updPort p f s) k = wing s k := rfl
@[simp] theorem engineOf_updPort (p : Nat) (f : SpanPort → SpanPort) (b : Bool) (k : Nat) : engineOf (updPort p f s) b k = engineOf s b k := rfl
@[simp] theorem source_updPort (p : Nat) (f : SpanPort → SpanPort) (k : Nat) : source (updPort p f s) k = source s k := rfl

@[simp] theorem win_updSource (n : Nat) (f : Source → Source) (k : Nat) : win (updSource n f s) k = win s k := rfl
@[simp] theorem strm_updSource (n : Nat) (f : Source → Source) (k j : Nat) : strm (updSource n f s) k j = strm s k j := rfl
@[simp] theorem pcie_updSource (n : Nat) (f : Source → Source) (k : Nat) : pcie (updSource n f s) k = pcie s k := rfl
@[simp] theorem gal_updSource (n : Nat) (f : Source → Source) (k : Nat) : gal (updSource n f s) k = gal s k := rfl
@[simp] theorem desc_updSource (n : Nat) (f : Source → Source) (k : Nat) : desc (updSource n f s) k = desc s k := rfl
@[simp] theorem cellRegs_updSource (n : Nat) (f : Source → Source) (k : Nat) : cellRegs (updSource n f s) k = cellRegs s k := rfl
@[simp] theorem wing_updSource (n : Nat) (f : Source → Source) (k : Nat) : wing (updSource n f s) k = wing s k := rfl
@[simp] theorem engineOf_updSource (n : Nat) (f : Source → Source) (b : Bool) (k : Nat) : engineOf (updSource n f s) b k = engineOf s b k := rfl
@[simp] theorem spanPort_updSource (n : Nat) (f : Source → Source) (k : Nat) : spanPort (updSource n f s) k = spanPort s k := rfl

@[simp] theorem win_updWingErr (w : Nat) (f : WingErr → WingErr) (k : Nat) : win (updWingErr w f s) k = win s k := rfl
@[simp] theorem strm_updWingErr (w : Nat) (f : WingErr → WingErr) (k j : Nat) : strm (updWingErr w f s) k j = strm s k j := rfl
@[simp] theorem pcie_updWingErr (w : Nat) (f : WingErr → WingErr) (k : Nat) : pcie (updWingErr w f s) k = pcie s k := rfl
@[simp] theorem gal_updWingErr (w : Nat) (f : WingErr → WingErr) (k : Nat) : gal (updWingErr w f s) k = gal s k := rfl
@[simp] theorem desc_updWingErr (w : Nat) (f : WingErr → WingErr) (k : Nat) : desc (updWingErr w f s) k = desc s k := rfl
@[simp] theorem cellRegs_updWingErr (w : Nat) (f : WingErr → WingErr) (k : Nat) : cellRegs (updWingErr w f s) k = cellRegs s k := rfl
@[simp] theorem wing_updWingErr (w : Nat) (f : WingErr → WingErr) (k : Nat) : wing (updWingErr w f s) k = wing s k := rfl
@[simp] theorem engineOf_updWingErr (w : Nat) (f : WingErr → WingErr) (b : Bool) (k : Nat) : engineOf (updWingErr w f s) b k = engineOf s b k := rfl
@[simp] theorem spanPort_updWingErr (w : Nat) (f : WingErr → WingErr) (k : Nat) : spanPort (updWingErr w f s) k = spanPort s k := rfl
@[simp] theorem source_updWingErr (w : Nat) (f : WingErr → WingErr) (k : Nat) : source (updWingErr w f s) k = source s k := rfl

@[simp] theorem win_updLoop (i : Nat) (f : Loop → Loop) (k : Nat) : win (updLoop i f s) k = win s k := rfl
@[simp] theorem strm_updLoop (i : Nat) (f : Loop → Loop) (k j : Nat) : strm (updLoop i f s) k j = strm s k j := rfl
@[simp] theorem pcie_updLoop (i : Nat) (f : Loop → Loop) (k : Nat) : pcie (updLoop i f s) k = pcie s k := rfl
@[simp] theorem gal_updLoop (i : Nat) (f : Loop → Loop) (k : Nat) : gal (updLoop i f s) k = gal s k := rfl
@[simp] theorem desc_updLoop (i : Nat) (f : Loop → Loop) (k : Nat) : desc (updLoop i f s) k = desc s k := rfl
@[simp] theorem cellRegs_updLoop (i : Nat) (f : Loop → Loop) (k : Nat) : cellRegs (updLoop i f s) k = cellRegs s k := rfl
@[simp] theorem wing_updLoop (i : Nat) (f : Loop → Loop) (k : Nat) : wing (updLoop i f s) k = wing s k := rfl
@[simp] theorem engineOf_updLoop (i : Nat) (f : Loop → Loop) (b : Bool) (k : Nat) : engineOf (updLoop i f s) b k = engineOf s b k := rfl
@[simp] theorem spanPort_updLoop (i : Nat) (f : Loop → Loop) (k : Nat) : spanPort (updLoop i f s) k = spanPort s k := rfl
@[simp] theorem source_updLoop (i : Nat) (f : Loop → Loop) (k : Nat) : source (updLoop i f s) k = source s k := rfl

@[simp] theorem win_advanceTo (t : Nat) (k : Nat) : win (advanceTo t s) k = win s k := rfl
@[simp] theorem strm_advanceTo (t : Nat) (k j : Nat) : strm (advanceTo t s) k j = strm s k j := rfl
@[simp] theorem pcie_advanceTo (t : Nat) (k : Nat) : pcie (advanceTo t s) k = pcie s k := rfl
@[simp] theorem gal_advanceTo (t : Nat) (k : Nat) : gal (advanceTo t s) k = gal s k := rfl
@[simp] theorem desc_advanceTo (t : Nat) (k : Nat) : desc (advanceTo t s) k = desc s k := rfl
@[simp] theorem cellRegs_advanceTo (t : Nat) (k : Nat) : cellRegs (advanceTo t s) k = cellRegs s k := rfl
@[simp] theorem wing_advanceTo (t : Nat) (k : Nat) : wing (advanceTo t s) k = wing s k := rfl
@[simp] theorem engineOf_advanceTo (t : Nat) (b : Bool) (k : Nat) : engineOf (advanceTo t s) b k = engineOf s b k := rfl
@[simp] theorem spanPort_advanceTo (t : Nat) (k : Nat) : spanPort (advanceTo t s) k = spanPort s k := rfl
@[simp] theorem source_advanceTo (t : Nat) (k : Nat) : source (advanceTo t s) k = source s k := rfl

@[simp] theorem win_setLive (c : Nat) (on : Bool) (k : Nat) : win (setLive c on s) k = win s k := rfl
@[simp] theorem strm_setLive (c : Nat) (on : Bool) (k j : Nat) : strm (setLive c on s) k j = strm s k j := rfl
@[simp] theorem pcie_setLive (c : Nat) (on : Bool) (k : Nat) : pcie (setLive c on s) k = pcie s k := rfl
@[simp] theorem gal_setLive (c : Nat) (on : Bool) (k : Nat) : gal (setLive c on s) k = gal s k := rfl
@[simp] theorem desc_setLive (c : Nat) (on : Bool) (k : Nat) : desc (setLive c on s) k = desc s k := rfl
@[simp] theorem cellRegs_setLive (c : Nat) (on : Bool) (k : Nat) : cellRegs (setLive c on s) k = cellRegs s k := rfl
@[simp] theorem wing_setLive (c : Nat) (on : Bool) (k : Nat) : wing (setLive c on s) k = wing s k := rfl
@[simp] theorem engineOf_setLive (c : Nat) (on : Bool) (b : Bool) (k : Nat) : engineOf (setLive c on s) b k = engineOf s b k := rfl
@[simp] theorem spanPort_setLive (c : Nat) (on : Bool) (k : Nat) : spanPort (setLive c on s) k = spanPort s k := rfl
@[simp] theorem source_setLive (c : Nat) (on : Bool) (k : Nat) : source (setLive c on s) k = source s k := rfl

/-! Lookups of what an update changes. -/

@[simp] theorem win_updWin (fn k : Nat) (f : Window → Window) : win (updWin fn f s) k = if k = fn then f (win s fn) else win s k := by
  simp only [win, updWin, mgetD, mget_mset]; split <;> rfl

@[simp] theorem win_updStrm (fn i k : Nat) (f : Stream → Stream) :
    win (updStrm fn i f s) k = if k = fn then { win s fn with streams := mset (win s fn).streams i (f (mgetD (win s fn).streams i {})) } else win s k := by
  simp only [updStrm, win_updWin]

@[simp] theorem strm_updStrm (fn i k j : Nat) (f : Stream → Stream) : strm (updStrm fn i f s) k j = if k = fn ∧ j = i then f (strm s fn i) else strm s k j := by
  unfold strm
  rw [win_updStrm]
  by_cases h : k = fn
  · subst h
    by_cases h2 : j = i
    · subst h2; simp
    · simp [h2, mgetD_mset_ne _ _ _ h2]
  · simp [h]

@[simp] theorem pcie_updPcie (fn k : Nat) (f : PcieFn → PcieFn) : pcie (updPcie fn f s) k = if k = fn then f (pcie s fn) else pcie s k := mgetD_mupd ..

@[simp] theorem pcie_updWin (fn k : Nat) (f : Window → Window) : pcie (updWin fn f s) k = pcie s k := rfl

@[simp] theorem pcie_updStrm (fn i k : Nat) (f : Stream → Stream) : pcie (updStrm fn i f s) k = pcie s k := rfl

@[simp] theorem win_updPcie (fn k : Nat) (f : PcieFn → PcieFn) : win (updPcie fn f s) k = win s k := rfl

@[simp] theorem strm_updPcie (fn i j : Nat) (f : PcieFn → PcieFn) : strm (updPcie fn f s) i j = strm s i j := rfl

@[simp] theorem gal_updGal (g k : Nat) (f : Gallery → Gallery) : gal (updGal g f s) k = if k = g then (gal s g).map f else gal s k := mget_malter ..

@[simp] theorem desc_updDesc (t k : Nat) (f : Desc → Desc) : desc (updDesc t f s) k = if k = t then (desc s t).map f else desc s k := mget_malter ..

@[simp] theorem desc_updFlow (i k : Nat) (f : Flow → Flow) : desc (updFlow i f s) k = desc s k := rfl

@[simp] theorem desc_updCell (c k : Nat) (f : CellRegs → CellRegs) : desc (updCell c f s) k = desc s k := rfl

@[simp] theorem cellRegs_updCell (c k : Nat) (f : CellRegs → CellRegs) : cellRegs (updCell c f s) k = if k = c then f (cellRegs s c) else cellRegs s k := mgetD_mupd ..

@[simp] theorem cellRegs_updDesc (t k : Nat) (f : Desc → Desc) : cellRegs (updDesc t f s) k = cellRegs s k := rfl

@[simp] theorem cellRegs_updFlow (i k : Nat) (f : Flow → Flow) : cellRegs (updFlow i f s) k = cellRegs s k := rfl

@[simp] theorem wing_updWing (w k : Nat) (f : Wing → Wing) : wing (updWing w f s) k = if k = w then f (wing s w) else wing s k := mgetD_mupd ..

@[simp] theorem wing_updPku (w k : Nat) (f : Pku → Pku) : wing (updPku w f s) k = if k = w then { wing s w with pku := f (wing s w).pku } else wing s k := wing_updWing ..

@[simp] theorem engineOf_updPku (b : Bool) (w k : Nat) (f : Pku → Pku) : engineOf (updPku w f s) b k = engineOf s b k := by
  unfold engineOf
  rw [wing_updPku]
  by_cases h : k = w <;> simp [h]

@[simp] theorem engineOf_updEngine (h b : Bool) (w k : Nat) (f : Engine → Engine) :
    engineOf (updEngine h w f s) b k = if k = w ∧ b = h then f (engineOf s h w) else engineOf s b k := by
  unfold engineOf updEngine
  rw [wing_updWing]
  by_cases hk : k = w <;> cases h <;> cases b <;> simp [hk]

@[simp] theorem pku_updEngine (h : Bool) (w k : Nat) (f : Engine → Engine) : (wing (updEngine h w f s) k).pku = (wing s k).pku := by
  unfold updEngine
  rw [wing_updWing]
  by_cases hk : k = w <;> cases h <;> simp [hk]

@[simp] theorem spanPort_updPort (p k : Nat) (f : SpanPort → SpanPort) : spanPort (updPort p f s) k = if k = p then f (spanPort s p) else spanPort s k := mgetD_mupd ..

@[simp] theorem source_updSource (n k : Nat) (f : Source → Source) : source (updSource n f s) k = if k = n then f (source s n) else source s k := mgetD_mupd ..

@[simp] theorem advanceTo_now (t : Nat) : (advanceTo t s).now = max s.now t := rfl

end Sys2Proof.Machine
end

