-- ==== Sys2Proof/Laws/Ops.lean ====
section
/-!
SUPPORT. What the shared operations can do: vectors, causes and events of the endpoint, records of the log, modes, a command's answer.
-/

namespace Sys2Proof.Machine

/-! Bits. -/

theorem flag_or_pow (v : W64) (b c : Nat) (hc : c < 64) : flag (v ||| BitVec.ofNat 64 (2 ^ b)) c = (flag v c || decide (b = c)) := by
  have h : ∀ (n k : Nat), bit n k = n.testBit k := by
    intro n k
    simp [bit, Nat.testBit_eq_decide_div_mod_eq]
    cases Nat.mod_two_eq_zero_or_one (n / 2 ^ k) <;> simp_all
  simp only [flag, h, BitVec.toNat_or, BitVec.toNat_ofNat, Nat.testBit_or, Nat.testBit_mod_two_pow, hc, decide_true, Bool.true_and]
  congr 1
  rw [Nat.testBit_two_pow]

theorem or_pow_of_flag (v : W64) (b : Nat) (h : flag v b = true) : v ||| BitVec.ofNat 64 (2 ^ b) = v := by
  have hb : v.toNat.testBit b = true := by
    simp only [flag, bit, beq_iff_eq] at h
    simp [Nat.testBit_eq_decide_div_mod_eq, h]
  apply BitVec.eq_of_toNat_eq
  apply Nat.eq_of_testBit_eq
  intro i
  simp only [BitVec.toNat_or, BitVec.toNat_ofNat, Nat.testBit_or, Nat.testBit_mod_two_pow, Nat.testBit_two_pow]
  by_cases hi : b = i
  · subst hi; simp [hb]
  · simp [hi]

/-! Vectors (03 R57). -/

variable (s : State)

theorem sendVector_fab (fn v : Nat) : sendVector fn v s = { s with fab := (sendVector fn v s).fab } := by
  unfold sendVector; dsimp only; split <;> rfl

@[simp] theorem win_sendVector (fn v k : Nat) : win (sendVector fn v s) k = win s k := by
  unfold sendVector; dsimp only; split <;> rfl

@[simp] theorem sendVector_windows (fn v : Nat) : (sendVector fn v s).fab.windows = s.fab.windows := by
  unfold sendVector; dsimp only; split <;> rfl

@[simp] theorem sendVector_mevCause (fn v : Nat) : (sendVector fn v s).fab.mevCause = s.fab.mevCause := by
  unfold sendVector; dsimp only; split <;> rfl

@[simp] theorem sendVector_mevMask (fn v : Nat) : (sendVector fn v s).fab.mevMask = s.fab.mevMask := by
  unfold sendVector; dsimp only; split <;> rfl

/-- A vector whose enables and masks permit it is sent, with the table entry's address and data. -/
theorem sendVector_sent (fn v : Nat) (h : vectorFree (pcie s fn) v = true) :
    (sendVector fn v s).fab.sent = s.fab.sent ++ [{ fn := fn, vector := v, addr := (mgetD (pcie s fn).vectors v {}).addr, data := (mgetD (pcie s fn).vectors v {}).data }] := by
  unfold sendVector; simp only [h, if_true]; rfl

/-- One that they forbid is pending. -/
theorem sendVector_pending (fn v : Nat) (h : vectorFree (pcie s fn) v = false) :
    (sendVector fn v s).fab.sent = s.fab.sent ∧ (mgetD (pcie (sendVector fn v s) fn).vectors v {}).pending = true := by
  have he : sendVector fn v s = updPcie fn (fun p => { p with vectors := mset p.vectors v { (mgetD (pcie s fn).vectors v {}) with pending := true } }) s := by
    unfold sendVector; simp only [h]; rfl
  rw [he, pcie_updPcie, if_pos rfl]
  exact ⟨rfl, by simp⟩

theorem flushVectors_fab (fn : Nat) : flushVectors fn s = { s with fab := (flushVectors fn s).fab } ∧ ∀ k, win (flushVectors fn s) k = win s k := by
  unfold flushVectors
  generalize (pcie s fn).vectors = l
  induction l generalizing s with
  | nil => exact ⟨rfl, fun _ => rfl⟩
  | cons a t ih =>
    rw [List.foldl_cons]
    split
    · have h := ih (sendVector fn a.1 s)
      refine ⟨?_, fun k => (h.2 k).trans (win_sendVector ..)⟩
      rw [h.1, sendVector_fab]
    · exact ih s

@[simp] theorem win_flushVectors (fn k : Nat) : win (flushVectors fn s) k = win s k := (flushVectors_fab s fn).2 k

/-! Causes and events (03 R74 to R76). -/

theorem latchCause_fab (fn b : Nat) : latchCause fn b s = { s with fab := (latchCause fn b s).fab } := by
  unfold latchCause
  dsimp only
  split
  · rfl
  · split
    · rw [sendVector_fab]; rfl
    · rfl

/-- The cause bit is set; nothing else of any window changes. -/
theorem win_latchCause (fn b k : Nat) :
    win (latchCause fn b s) k = if k = fn then { win s fn with cause := (win s fn).cause ||| BitVec.ofNat 64 (2 ^ b) } else win s k := by
  unfold latchCause
  dsimp only
  split
  · rename_i h
    split
    · rename_i hk; rw [or_pow_of_flag _ _ h, hk]
    · rfl
  · split
    · rw [win_sendVector, win_updWin]
    · rw [win_updWin]

@[simp] theorem strm_latchCause (fn b k j : Nat) : strm (latchCause fn b s) k j = strm s k j := by
  unfold strm
  rw [win_latchCause]
  split
  · rename_i h; rw [h]
  · rfl

theorem latchStreamErr_fab (fn i : Nat) : latchStreamErr fn i s = { s with fab := (latchStreamErr fn i s).fab } := latchCause_fab ..

@[simp] theorem strm_latchStreamErr (fn i k j : Nat) : strm (latchStreamErr fn i s) k j = strm s k j := strm_latchCause ..

theorem latchStreamErr_cause (fn i : Nat) (h : i < 16) : flag (win (latchStreamErr fn i s) fn).cause (32 + i) = true := by
  unfold latchStreamErr
  rw [win_latchCause, if_pos rfl, flag_or_pow _ _ _ (by omega)]
  simp

theorem setFault_fab (fn b : Nat) : setFault fn b s = { s with fab := (setFault fn b s).fab } := rfl

@[simp] theorem win_setFault (fn b k : Nat) :
    win (setFault fn b s) k = if k = fn then { win s fn with fault := (win s fn).fault ||| BitVec.ofNat 64 (2 ^ b) } else win s k := win_updWin ..

@[simp] theorem strm_setFault (fn b k j : Nat) : strm (setFault fn b s) k j = strm s k j := by
  unfold strm
  rw [win_setFault]
  split
  · rename_i h; rw [h]
  · rfl

theorem latchEvent_fab (n : Nat) : latchEvent n s = { s with fab := (latchEvent n s).fab } := by
  unfold latchEvent
  split
  · rfl
  · dsimp only
    split
    · rw [sendVector_fab]
    · rfl

@[simp] theorem win_latchEvent (n k : Nat) : win (latchEvent n s) k = win s k := by
  unfold latchEvent
  split
  · rfl
  · dsimp only
    split
    · rw [win_sendVector]; rfl
    · rfl

theorem bit_setBit (v n : Nat) : bit (setBit v n true) n = true := by
  unfold setBit
  split
  · assumption
  · rename_i h
    simp only [if_true, bit, beq_iff_eq] at *
    have hp : 0 < 2 ^ n := Nat.two_pow_pos n
    rw [Nat.add_div_right _ hp]
    have := Nat.mod_two_eq_zero_or_one (v / 2 ^ n)
    omega

/-- The event's bit is set. -/
theorem latchEvent_cause (n : Nat) : bit (latchEvent n s).fab.mevCause n = true := by
  unfold latchEvent
  split
  · assumption
  · dsimp only
    split
    · rw [sendVector_mevCause]; exact bit_setBit ..
    · exact bit_setBit ..

/-! The log. -/

theorem putRecord_cur (type source flags : Nat) (data : Bytes) : putRecord type source flags data s = { s with cur := (putRecord type source flags data s).cur } := by
  unfold putRecord; dsimp only; split <;> rfl

/-- A record changes the Curator alone. -/
theorem logRecord_cur (type source flags : Nat) (data : Bytes) : logRecord type source flags data s = { s with cur := (logRecord type source flags data s).cur } := by
  unfold logRecord
  split
  · rfl
  · dsimp only
    rw [putRecord_cur]

theorem foldl_cur {β : Type} (g : State → β → State) (h : ∀ s x, g s x = { s with cur := (g s x).cur }) (l : List β) : l.foldl g s = { s with cur := (l.foldl g s).cur } := by
  induction l generalizing s with
  | nil => rfl
  | cons a t ih => rw [List.foldl_cons, ih, h]

theorem logData_cur (type source : Nat) (data : Bytes) : logData type source data s = { s with cur := (logData type source data s).cur } := by
  unfold logData
  generalize (chunks 24 (max 1 (ceilDiv data.length 24)) data).zipIdx = l
  exact foldl_cur _ _ (fun _ _ => logRecord_cur ..) _

/-! Modes. -/

theorem refreshWindow_fab (fn : Nat) : refreshWindow fn s = { s with fab := (refreshWindow fn s).fab } := by
  unfold refreshWindow
  dsimp only
  split
  · rfl
  · rw [latchCause_fab]; rfl

theorem foldl_fab {β : Type} (g : State → β → State) (h : ∀ s x, g s x = { s with fab := (g s x).fab }) (l : List β) : l.foldl g s = { s with fab := (l.foldl g s).fab } := by
  induction l generalizing s with
  | nil => rfl
  | cons a t ih => rw [List.foldl_cons, ih, h]

theorem refreshWindows_fab : refreshWindows s = { s with fab := (refreshWindows s).fab } := by
  unfold refreshWindows
  generalize List.range 1025 = l
  exact foldl_fab _ _ (fun _ _ => refreshWindow_fab ..) _

/-- READY follows the mode; the endpoint's event 27 may latch. -/
theorem settleReady_only : settleReady s = { s with pow := { s.pow with ready := s.pow.mode == .service }, fab := (settleReady s).fab } := by
  unfold settleReady
  dsimp only
  split
  · rw [latchEvent_fab]
  · rfl

theorem refreshed_only (R : State → State) (hR : ∀ u : State, R u = { u with fab := (R u).fab }) (u v : State) (hv : v = { u with cur := v.cur }) :
    R (settleReady v) = { u with pow := { u.pow with ready := u.pow.mode == .service }, fab := (R (settleReady v)).fab, cur := (R (settleReady v)).cur } := by
  have h1 := hR (settleReady v)
  generalize R (settleReady v) = x at h1
  have h2 := settleReady_only v
  generalize settleReady v = y at h1 h2
  rw [hv] at h2
  rw [h1, h2]

/-- A change of mode changes the power state as asked, READY with it, the log and the endpoint; nothing else. -/
theorem withMode_only (f : Power → Power) :
    withMode f s = { s with pow := { f s.pow with ready := (f s.pow).mode == .service }, fab := (withMode f s).fab, cur := (withMode f s).cur } := by
  have key : ∀ v : State, v = { s with pow := f s.pow, cur := v.cur } → withMode f s = refreshWindows (settleReady v) →
      withMode f s = { s with pow := { f s.pow with ready := (f s.pow).mode == .service }, fab := (withMode f s).fab, cur := (withMode f s).cur } := by
    intro v hv h
    have := refreshed_only refreshWindows refreshWindows_fab { s with pow := f s.pow } v hv
    rw [← h] at this
    exact this
  by_cases hc : modeCode s.pow = modeCode (f s.pow)
  · exact key { s with pow := f s.pow } rfl (by unfold withMode; dsimp only; rw [if_pos hc])
  · exact key (logRecord 0x0011 0 0 [BitVec.ofNat 8 (modeCode s.pow), BitVec.ofNat 8 (modeCode (f s.pow))] { s with pow := f s.pow }) (logRecord_cur ..) (by unfold withMode; dsimp only; rw [if_neg hc])

@[simp] theorem withMode_pow (f : Power → Power) : (withMode f s).pow = { f s.pow with ready := (f s.pow).mode == .service } := by rw [withMode_only]

@[simp] theorem setMode_pow (m : Mode) : 
    (setMode m s).pow = { s.pow with mode := m, isolated := isolatedRole s.pair.role && m == .service, ready := m == .service } := withMode_pow ..

theorem setMode_only (m : Mode) :
    setMode m s = { s with pow := { s.pow with mode := m, isolated := isolatedRole s.pair.role && m == .service, ready := m == .service }, fab := (setMode m s).fab, cur := (setMode m s).cur } := withMode_only ..

/-! A command's answer. -/

/-- An answer stands in the command's descriptor; no other descriptor and nothing outside the Docent changes. -/
theorem answerFn_only (t : Nat) (r : Resp) (ch : List Change) :
    answerFn t r ch s = { s with doc := (answerFn t r ch s).doc } ∧ (∀ k, k ≠ t → desc (answerFn t r ch s) k = desc s k) ∧
      (desc (answerFn t r ch s) t).bind (·.resp) = (desc s t).map (fun _ => r) := by
  unfold answerFn
  refine ⟨rfl, fun k h => by rw [desc_updDesc, if_neg h], ?_⟩
  rw [desc_updDesc, if_pos rfl]
  cases desc s t <;> rfl

end Sys2Proof.Machine
end

