-- ==== Sys2Proof/Laws/Vital.lean ====
section
/-! SUPPORT. The vital fields of a state and what the laws `vital_f` (the operation `f` leaves them as they are) and `ok_f` (it keeps the invariants on
them) rest on. The laws themselves stand in the files Laws/Vital*.lean, one per operation of the model. -/

open Sys2Proof

set_option linter.unusedSimpArgs false

namespace Sys2Proof.Machine
/-- The fields of a state that the whole-machine invariants speak of: the waiting commands, the fuses, the wrapping root, the tamper latch,
the START under way, and the seven byte memories. -/
structure Vital where
  pending : List Instr
  fuses : Fuses
  root : Option Bytes
  responded : Bool
  starting : Bool
  startStep : Nat
  slot0 : Mem
  slot1 : Mem
  inBuf : Mem
  outBuf : Mem
  space : Mem
  fwA : Mem
  fwB : Mem
/-- The vital fields of a state. -/
def vital (s : State) : Vital := ⟨s.pending, s.fuses, s.bb.root, s.ao.responded, s.pow.starting, s.pow.startStep, s.img.slot0, s.img.slot1, s.cur.inBuf, s.cur.outBuf, s.pow.operandSpace.mem,
  s.img.fwDataA.getD [], s.img.fwDataB.getD []⟩
/-- A state rebuilt with the same vital components has the same vital fields. -/
theorem vital_mk (s : State) (fab doc vit rng pair err reg cnt now freeCount) (bb : Bbram) (ao : AlwaysOn) (pow : Power) (img : Image) (cur : Curator)
    (h1 : bb.root = s.bb.root) (h2 : ao.responded = s.ao.responded) (h3 : pow.starting = s.pow.starting)
    (h5 : pow.startStep = s.pow.startStep) (h6 : pow.operandSpace = s.pow.operandSpace) (h7 : img.slot0 = s.img.slot0) (h8 : img.slot1 = s.img.slot1)
    (h9 : cur.inBuf = s.cur.inBuf) (h10 : cur.outBuf = s.cur.outBuf) (h11 : img.fwDataA = s.img.fwDataA) (h12 : img.fwDataB = s.img.fwDataB) :
    vital (State.mk fab doc vit rng pair err bb ao s.fuses reg pow img cur cnt now freeCount s.pending) = vital s := by
  simp [vital, *]
theorem vital_foldl {β : Type} (g : State → β → State) (h : ∀ s x, vital (g s x) = vital s) (l : List β) (s : State) : vital (l.foldl g s) = vital s := by
  induction l generalizing s with
  | nil => rfl
  | cons a t ih => rw [List.foldl_cons, ih, h]
end Sys2Proof.Machine

namespace Sys2Proof.Machine
theorem memWf_filter {d : Byte} {m : Mem} (q : Nat × Byte → Bool) (h : memWf d m = true) : memWf d (m.filter q) = true := by
  induction m with
  | nil => rfl
  | cons a t ih =>
    rw [memWf_iff, keysRising_cons] at h
    have ht : memWf d t = true := (memWf_iff d t).2 ⟨h.1.2, fun p hp => h.2 p (List.mem_cons_of_mem _ hp)⟩
    rw [List.filter_cons]
    split
    · rw [memWf_iff, keysRising_cons]
      have := (memWf_iff d _).1 (ih ht)
      refine ⟨⟨fun p hp => h.1.1 p (List.mem_of_mem_filter hp), this.1⟩, ?_⟩
      intro p hp
      rcases List.mem_cons.1 hp with rfl | hp
      · exact h.2 _ List.mem_cons_self
      · exact this.2 p hp
    · exact ih ht
/-- Which of the three invariants a lemma is used for. -/
structure Under where
  fuses : Prop
  latch : Prop
  mems : Prop
/-- The invariants held by vital fields: the queue is `p`; the fuses have only grown from `f` (R341); a set latch leaves no wrapping root and no START past
step 1 (R314, R361); the memories are canonical. -/
structure OkV (b : Under) (p : List Instr) (f : Fuses) (v : Vital) : Prop where
  pending : v.pending = p
  fuses : b.fuses → Safety.FusesGrow f v.fuses ∧ Safety.FuseBudget v.fuses
  latch : b.latch → v.responded = true → v.root = none ∧ (v.starting = true → v.startStep ≤ 1)
  mems : b.mems → memWf 0xFF v.slot0 = true ∧ memWf 0xFF v.slot1 = true ∧ memWf 0 v.inBuf = true ∧ memWf 0 v.outBuf = true ∧ memWf 0 v.space = true ∧
    memWf 0xFF v.fwA = true ∧ memWf 0xFF v.fwB = true
theorem fusesGrow_record {f g : Fuses} {r : List TransitionRecord} (h : Safety.FusesGrow f g) : Safety.FusesGrow f { g with records := g.records ++ r } :=
  ⟨h.1.trans (List.prefix_append _ _), h.2⟩
theorem ok_ite {b p f} {c : Prop} [Decidable c] {x y : State} (hx : OkV b p f (vital x)) (hy : OkV b p f (vital y)) : OkV b p f (vital (if c then x else y)) := by
  split <;> assumption
theorem ok_powOff {b p f} (s : State) (pw : Power) (h : OkV b p f (vital s)) (h1 : pw.starting = false) (h2 : pw.operandSpace.mem = s.pow.operandSpace.mem) :
    OkV b p f (vital { s with pow := pw }) :=
  ⟨h.pending, h.fuses, fun hb hr => ⟨(h.latch hb hr).1, fun hs => absurd (h1.symm.trans hs) nofun⟩,
    fun hb => ⟨(h.mems hb).1, (h.mems hb).2.1, (h.mems hb).2.2.1, (h.mems hb).2.2.2.1, by
      have := (h.mems hb).2.2.2.2.1
      simp only [vital] at this ⊢
      rw [h2]; exact this, (h.mems hb).2.2.2.2.2⟩⟩
theorem space_of {s t : State} (h : vital t = vital s) : s.pow.operandSpace.mem = t.pow.operandSpace.mem := (congrArg Vital.space h).symm
theorem ok_foldl {b p f} {β : Type} (g : State → β → State) (hg : ∀ s x, OkV b p f (vital s) → OkV b p f (vital (g s x))) (l : List β) (s : State)
    (h : OkV b p f (vital s)) : OkV b p f (vital (l.foldl g s)) := by
  induction l generalizing s with
  | nil => exact h
  | cons a t ih => exact ih _ (hg _ _ h)
theorem stops_foldl {β : Type} (g : State → β → State) (hg : ∀ s x, vital (g s x) = vital s ∨ (g s x).pow.starting = false) (l : List β) (s : State) :
    vital (l.foldl g s) = vital s ∨ (l.foldl g s).pow.starting = false := by
  induction l generalizing s with
  | nil => exact .inl rfl
  | cons a t ih =>
    rcases ih (g s a) with h | h
    · rcases hg s a with k | k
      · exact .inl (h.trans k)
      · exact .inr ((congrArg Vital.starting h).trans k)
    · exact .inr h
theorem stops_trans {s t u : State} (h1 : vital t = vital s ∨ t.pow.starting = false) (h2 : vital u = vital t ∨ u.pow.starting = false) :
    vital u = vital s ∨ u.pow.starting = false := by
  rcases h2 with h | h
  · exact h1.imp h.trans (congrArg Vital.starting h).trans
  · exact .inr h
end Sys2Proof.Machine
end

