-- ==== Sys2Proof/Laws/VitalShared.lean ====
section
/-! SUPPORT. For each operation of the shared operations, the Docent, the windows and the engines: it leaves the vital fields of the state as they are (`vital_f`), or it keeps the invariants
on them (`ok_f`). -/

open Sys2Proof

set_option linter.unusedSimpArgs false

namespace Sys2Proof.Machine

/-! ### Ops -/

theorem vital_freeBytes (n : Nat) (s : State) : vital (freeBytes n s).2 = vital s := by
  rfl

theorem vital_updPort (p : Nat) (f : SpanPort → SpanPort) (s : State) : vital (updPort p f s) = vital s := by
  rfl

theorem vital_emitMctp (m : MctpMsg) (s : State) : vital (emitMctp m s) = vital s := by
  unfold emitMctp; try dsimp only
  repeat' split
  all_goals first | rfl | (simp only [vital_mk, vital_foldl, apply_ite vital, ite_self, implies_true]; done) | grind [vital]

theorem vital_freeNumber (s : State) : vital (freeNumber s).2 = vital s := by
  rfl

theorem vital_updCell (c : Nat) (f : CellRegs → CellRegs) (s : State) : vital (updCell c f s) = vital s := by
  rfl

theorem vital_advanceTo (t : Nat) (s : State) : vital (advanceTo t s) = vital s := by
  rfl

theorem vital_updPcie (fn : Nat) (f : PcieFn → PcieFn) (s : State) : vital (updPcie fn f s) = vital s := by
  rfl

theorem vital_sendVector (fn : Nat) (v : Nat) (s : State) : vital (sendVector fn v s) = vital s := by
  unfold sendVector; simp only [vital_mk, vital_foldl, apply_ite vital, ite_self, implies_true, vital_updPcie]

theorem vital_latchEvent (n : Nat) (s : State) : vital (latchEvent n s) = vital s := by
  unfold latchEvent; simp only [vital_mk, vital_foldl, apply_ite vital, ite_self, implies_true, vital_sendVector]

theorem vital_updWing (w : Nat) (f : Wing → Wing) (s : State) : vital (updWing w f s) = vital s := by
  rfl

theorem vital_putRecord (type : Nat) (source : Nat) (flags : Nat) (data : Sys2Proof.Bytes) (s : State) : vital (putRecord type source flags data s) = vital s := by
  unfold putRecord; simp only [vital_mk, vital_foldl, apply_ite vital, ite_self, implies_true]

theorem vital_logRecord (type : Nat) (source : Nat) (flags : Nat) (data : Sys2Proof.Bytes) (s : State) : vital (logRecord type source flags data s) = vital s := by
  grind [logRecord, vital, vital_putRecord]

theorem vital_updWin (fn : Nat) (f : Window → Window) (s : State) : vital (updWin fn f s) = vital s := by
  rfl

theorem vital_latchCause (fn : Nat) (b : Nat) (s : State) : vital (latchCause fn b s) = vital s := by
  unfold latchCause; simp only [vital_mk, vital_foldl, apply_ite vital, ite_self, implies_true, vital_updWin, vital_sendVector]

theorem vital_refreshWindow (fn : Nat) (s : State) : vital (refreshWindow fn s) = vital s := by
  unfold refreshWindow; simp only [vital_mk, vital_foldl, apply_ite vital, ite_self, implies_true, vital_latchCause, vital_updWin]

theorem vital_refreshWindows (s : State) : vital (refreshWindows s) = vital s := by
  unfold refreshWindows; generalize List.range 1025 = l; exact vital_foldl _ (fun s x => vital_refreshWindow _ _) _ _

theorem vital_settleReady (s : State) : vital (settleReady s) = vital s := by
  unfold settleReady; simp only [vital_mk, vital_foldl, apply_ite vital, ite_self, implies_true, vital_latchEvent]

theorem vital_withMode (f : Power → Power) (s : State)
    (hf : ∀ p, (f p).starting = p.starting ∧ (f p).startStep = p.startStep ∧ (f p).operandSpace = p.operandSpace) :
    vital (withMode f s) = vital s := by
  unfold withMode
  dsimp only
  rw [vital_refreshWindows, vital_settleReady]
  have h : vital { s with pow := f s.pow } = vital s := by
    obtain ⟨a, b, c⟩ := hf s.pow
    simp [vital, a, b, c]
  split
  · exact h
  · rw [vital_logRecord]; exact h

theorem vital_setMode (m : Mode) (s : State) : vital (setMode m s) = vital s := vital_withMode _ _ (fun _ => ⟨rfl, rfl, rfl⟩)

theorem vital_updGal (g : Nat) (f : Gallery → Gallery) (s : State) : vital (updGal g f s) = vital s := by
  rfl

theorem vital_updDesc (t : Nat) (f : Desc → Desc) (s : State) : vital (updDesc t f s) = vital s := by
  rfl

theorem vital_updFlow (i : Nat) (f : Flow → Flow) (s : State) : vital (updFlow i f s) = vital s := by
  rfl

theorem vital_updStrm (fn : Nat) (i : Nat) (f : Stream → Stream) (s : State) : vital (updStrm fn i f s) = vital s := by
  unfold updStrm; simp only [vital_mk, vital_foldl, apply_ite vital, ite_self, implies_true, vital_updWin]

theorem vital_countPublication (fn : Nat) (s : State) : vital (countPublication fn s) = vital s := by
  unfold countPublication; simp only [vital_mk, vital_foldl, apply_ite vital, ite_self, implies_true, vital_sendVector, vital_updWin]

theorem vital_latchReady (fn : Nat) (i : Nat) (s : State) : vital (latchReady fn i s) = vital s := by
  unfold latchReady; simp only [vital_mk, vital_foldl, apply_ite vital, ite_self, implies_true, vital_updWin, vital_countPublication]

theorem vital_latchStreamErr (fn : Nat) (i : Nat) (s : State) : vital (latchStreamErr fn i s) = vital s := by
  unfold latchStreamErr; simp only [vital_mk, vital_foldl, apply_ite vital, ite_self, implies_true, vital_latchCause]

theorem vital_logData (type : Nat) (source : Nat) (data : Sys2Proof.Bytes) (s : State) : vital (logData type source data s) = vital s := by
  unfold logData; simp only [vital_mk, vital_foldl, apply_ite vital, ite_self, implies_true, vital_logRecord]

theorem vital_sendMctp (bus : Nat) (m : MctpMsg) (s : State) : vital (sendMctp bus m s) = vital s := by
  unfold sendMctp; simp only [vital_mk, vital_foldl, apply_ite vital, ite_self, implies_true, vital_emitMctp]

theorem vital_idleStep (s : State) : vital (idleStep s) = vital s := by
  rfl

theorem vital_flushVectors (fn : Nat) (s : State) : vital (flushVectors fn s) = vital s := by
  unfold flushVectors; simp only [vital_mk, vital_foldl, apply_ite vital, ite_self, implies_true, vital_sendVector]

/-! ### Meter -/

theorem vital_makeRecord (id : Nat) (c : Closing) (keep : MeterRecord → State → State) (s : State) (h_keep : ∀ x0 x1, vital (keep x0 x1) = vital x1) : vital (makeRecord id c keep s) = vital s := by
  grind [makeRecord, vital, vital_updGal, vital_latchEvent]

theorem vital_storeMeter (r : MeterRecord) (s : State) : vital (storeMeter r s) = vital s := by
  grind [storeMeter, vital]

theorem vital_writeMeter (id : Nat) (c : Closing) (s : State) : vital (writeMeter id c s) = vital s := by
  grind [writeMeter, vital, vital_updGal, vital_makeRecord, vital_storeMeter]

theorem vital_closeMinutes (id : Nat) (a1 : Nat) (a2 : State) : vital (closeMinutes id a1 a2) = vital a2 := by
  fun_induction closeMinutes id a1 a2 <;> grind [vital, vital_writeMeter]

theorem vital_closeMinute (id : Nat) (s : State) : vital (closeMinute id s) = vital s := by
  grind [closeMinute, vital, vital_closeMinutes]

theorem vital_settleWaiting (s : State) : vital (settleWaiting s) = vital s := by
  unfold settleWaiting; simp only [vital_mk, vital_foldl, apply_ite vital, ite_self, implies_true, vital_storeMeter]

theorem vital_meterRelease (sid : StreamId) (d : Desc) (r : Resp) (s : State) : vital (meterRelease sid d r s) = vital s := by
  unfold meterRelease; simp only [vital_mk, vital_foldl, apply_ite vital, ite_self, implies_true, vital_updGal]

/-! ### Operands -/

theorem vital_configWrite (f : State → State) (s : State) (h_f : ∀ x0, vital (f x0) = vital x0) : vital (configWrite f s) = vital s := by
  grind [configWrite, vital]

theorem ok_configWrite {b p f} (g : State → State) (s : State) (hg : ∀ s, OkV b p f (vital s) → OkV b p f (vital (g s))) (h : OkV b p f (vital s)) :
    OkV b p f (vital (configWrite g s)) := by
  unfold configWrite
  split
  · exact hg _ h
  · exact h

/-! ### Trace -/

theorem vital_bumpCounter (w : Nat) (a1 : Nat) (a2 : Nat) (a3 : Nat) (a4 : State) : vital (bumpCounter w a1 a2 a3 a4) = vital a4 := by
  fun_induction bumpCounter w a1 a2 a3 a4 <;> grind [vital]

theorem vital_countEvent (w : Nat) (e : Nat) (k : Nat) (g : Option Nat) (s : State) : vital (countEvent w e k g s) = vital s := by
  unfold countEvent
  split
  · rfl
  · refine vital_foldl _ (fun s x => ?_) _ _
    dsimp only
    split
    · exact vital_bumpCounter ..
    · rfl

theorem vital_settleCell (c : Nat) (s : State) : vital (settleCell c s) = vital s := by
  unfold settleCell; simp only [vital_mk, vital_foldl, apply_ite vital, ite_self, implies_true, vital_freeBytes, vital_countEvent]

theorem vital_settleWingCells (w : Nat) (s : State) : vital (settleWingCells w s) = vital s := by
  unfold settleWingCells; simp only [vital_mk, vital_foldl, apply_ite vital, ite_self, implies_true, vital_settleCell]

theorem vital_settleCells (s : State) : vital (settleCells s) = vital s := by
  rw [← vital_foldl (fun s w => settleWingCells w s) (fun s x => vital_settleWingCells _ _) (List.range 16) s]
  unfold settleCells
  generalize List.foldl _ s (List.range 16) = X
  rfl

theorem vital_traceTags (s : State) (flag : Bool) (privilege : Bool) : vital (traceTags s flag privilege).2.2 = vital s := by
  grind [traceTags, vital]

theorem vital_putTrace (r : Sys2Proof.Bytes) (s : State) : vital (putTrace r s) = vital s := by
  unfold putTrace; simp only [vital_mk, vital_foldl, apply_ite vital, ite_self, implies_true]

theorem vital_traceCommand (fn : Nat) (d : Desc) (sid : StreamId) (status : Nat) (s : State) : vital (traceCommand fn d sid status s) = vital s := by
  unfold traceCommand; simp only [vital_mk, vital_foldl, apply_ite vital, ite_self, implies_true, vital_putTrace, vital_updWin]

theorem vital_countLatency (g : Nat) (ns : Nat) (s : State) : vital (countLatency g ns s) = vital s := by
  unfold countLatency; simp only [vital_mk, vital_foldl, apply_ite vital, ite_self, implies_true, vital_updGal]

/-! ### KeyStore -/

theorem vital_dropEntry (i : Nat) (s : State) : vital (dropEntry i s) = vital s := by
  rfl

theorem vital_evictShare (g : Nat) (share : Nat) (n : Nat) (a3 : Nat) (a4 : State) : vital (evictShare g share n a3 a4) = vital a4 := by
  induction a3 generalizing a4 with
  | zero => rfl
  | succ n ih => unfold evictShare; grind [vital_dropEntry]

theorem vital_trimCache (g : Nat) (s : State) : vital (trimCache g s) = vital s := by
  grind [trimCache, vital, vital_evictShare]

theorem vital_dropHolds (t : Nat) (s : State) : vital (dropHolds t s) = vital s := by
  unfold dropHolds; simp only [vital_mk, vital_foldl, apply_ite vital, ite_self, implies_true, vital_trimCache]

theorem vital_discardWhere (dead : CacheEntry → Bool) (s : State) : vital (discardWhere dead s) = vital s := by
  rfl

theorem vital_discardRecord (g : Nat) (slot : Nat) (gen : Nat) (s : State) : vital (discardRecord g slot gen s) = vital s := by
  unfold discardRecord; simp only [vital_mk, vital_foldl, apply_ite vital, ite_self, implies_true, vital_discardWhere]

theorem vital_discardBroken (g : Nat) (frame : Sys2Proof.Bytes) (h : Nat) (s : State) : vital (discardBroken g frame h s) = vital s := by
  grind [discardBroken, vital, vital_discardRecord, vital_discardWhere]

theorem vital_evictAny (n : Nat) (a1 : Nat) (a2 : State) : vital (evictAny n a1 a2) = vital a2 := by
  induction a1 generalizing a2 with
  | zero => rfl
  | succ n ih => unfold evictAny; grind [vital_dropEntry]

theorem vital_holdKey (w : Nat) (t : Nat) (g : Nat) (k : HeldKey) (s : State) : vital (holdKey w t g k s).2 = vital s := by
  grind [holdKey, vital, vital_countEvent, vital_evictAny, vital_evictShare]

theorem vital_noteWrite (g : Nat) (slot : Nat) (s : State) : vital (noteWrite g slot s) = vital s := by
  unfold noteWrite; simp only [vital_mk, vital_foldl, apply_ite vital, ite_self, implies_true]

theorem vital_touchVitrine (s : State) : vital (touchVitrine s) = vital s := by
  rfl

theorem vital_putRecordAt (g : Nat) (slot : Nat) (r : Option VRecord) (s : State) : vital (putRecordAt g slot r s) = vital s := by
  unfold putRecordAt; simp only [vital_mk, vital_foldl, apply_ite vital, ite_self, implies_true, vital_noteWrite, vital_touchVitrine, vital_updGal]

theorem vital_replaceRecord (g : Nat) (slot : Nat) (r : Option VRecord) (s : State) : vital (replaceRecord g slot r s) = vital s := by
  unfold replaceRecord; simp only [vital_mk, vital_foldl, apply_ite vital, ite_self, implies_true, vital_updGal, vital_putRecordAt]

theorem vital_latchGallery (g : Nat) (b : Nat) (s : State) : vital (latchGallery g b s) = vital s := by
  unfold latchGallery; simp only [vital_mk, vital_foldl, apply_ite vital, ite_self, implies_true, vital_latchCause]

theorem vital_discardGallery (g : Nat) (s : State) : vital (discardGallery g s) = vital s := by
  unfold discardGallery; simp only [vital_mk, vital_foldl, apply_ite vital, ite_self, implies_true, vital_discardWhere]

theorem vital_dropLoad (s : State) : vital (dropLoad s) = vital s := by
  rfl

theorem vital_stepBudget (g : Nat) (slot : Nat) (s : State) : ∀ t, stepBudget g slot s = some t → vital t.2 = vital s := by
  grind [stepBudget, vital, vital_putRecordAt]

theorem vital_placeFence (g : Nat) (s : State) : vital (placeFence g s).2 = vital s := by
  unfold placeFence; simp only [vital_mk, vital_foldl, apply_ite vital, ite_self, implies_true, vital_updGal, vital_latchGallery]

/-! ### Route -/

theorem vital_sendFrame (port : Nat) (cls : Nat) (dst : Nat) (relayed : Option (Nat × Nat)) (endToEnd : Bool) (body : FrameBody) (s : State) : vital (sendFrame port cls dst relayed endToEnd body s) = vital s := by
  unfold sendFrame; simp only [vital_mk, vital_foldl, apply_ite vital, ite_self, implies_true, vital_updPort]

theorem vital_sendTo (cls : Nat) (dst : Nat) (body : FrameBody) (s : State) : vital (sendTo cls dst body s) = vital s := by
  grind [sendTo, vital, vital_sendFrame]

theorem vital_sendOn (port : Nat) (cls : Nat) (dst : Nat) (body : FrameBody) (s : State) : vital (sendOn port cls dst body s) = vital s := by
  unfold sendOn; simp only [vital_mk, vital_foldl, apply_ite vital, ite_self, implies_true, vital_sendFrame]

theorem vital_sendPartner (cls : Nat) (body : FrameBody) (s : State) : vital (sendPartner cls body s) = vital s := by
  unfold sendPartner; simp only [vital_mk, vital_foldl, apply_ite vital, ite_self, implies_true, vital_sendOn]

theorem vital_relayFrame (h : LinkHdr) (cls : Nat) (body : FrameBody) (s : State) : vital (relayFrame h cls body s) = vital s := by
  grind [relayFrame, vital, vital_sendFrame]

/-! ### Journal -/

theorem vital_makeRoom (id : Nat) (n : Nat) (a2 : Nat) (a3 : State) : ∀ t, makeRoom id n a2 a3 = some t → vital t = vital a3 := by
  induction a2 generalizing a3 with
  | zero => unfold makeRoom; grind
  | succ n ih => unfold makeRoom; grind [vital_updGal]

theorem vital_putJournal (id : Nat) (e : JournalEntry) (s : State) : ∀ t, putJournal id e s = some t → vital t = vital s := by
  unfold putJournal; intro t h; obtain ⟨x, hx, rfl⟩ := Option.map_eq_some_iff.1 h; rw [vital_updGal]; exact vital_makeRoom _ _ _ _ _ hx

theorem vital_markEntry (sid : StreamId) (q : Nat) (f : JournalEntry → JournalEntry) (s : State) : vital (markEntry sid q f s) = vital s := by
  unfold markEntry; simp only [vital_mk, vital_foldl, apply_ite vital, ite_self, implies_true, vital_updGal]

theorem vital_ackJournal (sid : StreamId) (q : Nat) (s : State) : vital (ackJournal sid q s) = vital s := by
  unfold ackJournal
  dsimp only
  split
  · rw [vital_sendPartner, vital_markEntry]
  · exact vital_markEntry ..

/-! ### Placement -/

theorem vital_nextOrder (s : State) : vital (nextOrder s) = vital s := by
  rfl

theorem vital_setIdle (sid : StreamId) (d : Desc) (at_ : Option Nat) (s : State) : vital (setIdle sid d at_ s) = vital s := by
  grind [setIdle, vital, vital_nextOrder, vital_updGal]

theorem vital_sendVerdict (sid : StreamId) (q : Nat) (v : Verdict) (s : State) : vital (sendVerdict sid q v s) = vital s := by
  unfold sendVerdict; simp only [vital_mk, vital_foldl, apply_ite vital, ite_self, implies_true, vital_sendPartner]

theorem vital_countRefusal (fl : Flow) (b : Nat) (s : State) : vital (countRefusal fl b s) = vital s := by
  unfold countRefusal; simp only [vital_mk, vital_foldl, apply_ite vital, ite_self, implies_true, vital_latchCause, vital_updWin]

theorem vital_noteVerdict (fi : Nat) (fl : Flow) (q : Nat) (v : Verdict) (s : State) : vital (noteVerdict fi fl q v s) = vital s := by
  unfold noteVerdict; try dsimp only
  repeat' split
  all_goals first | rfl | (simp only [vital_mk, vital_foldl, apply_ite vital, ite_self, implies_true, vital_updFlow, vital_countRefusal]; done) | grind [vital, vital_updFlow, vital_countRefusal]

theorem vital_forwardHome (home : Descriptor) (sid : StreamId) (d : Desc) (s : State) : vital (forwardHome home sid d s).2 = vital s := by
  grind [forwardHome, vital, vital_sendTo]

theorem vital_routed (fl : Flow) (d : Desc) (s : State) : vital (routed fl d s).2 = vital s := by
  grind [routed, vital, vital_forwardHome]

theorem vital_admitted (fl : Flow) (d : Desc) (s : State) : vital (admitted fl d s).2 = vital s := by
  unfold admitted; simp only [vital_mk, vital_foldl, apply_ite vital, ite_self, implies_true, vital_traceTags, vital_routed]

theorem vital_tellHome (fl : Flow) (d : Desc) (s : State) : vital (tellHome fl d s) = vital s := by
  grind [tellHome, vital, vital_sendTo]

theorem vital_entered (fl : Flow) (d : Desc) (ans : Option Answer) (s : State) : vital (entered fl d ans s).2 = vital s := by
  unfold entered; try dsimp only
  repeat' split
  all_goals first | rfl | (simp only [vital_mk, vital_foldl, apply_ite vital, ite_self, implies_true, vital_admitted, vital_tellHome]; done) | grind [vital, vital_admitted, vital_tellHome]

theorem vital_enterHeld (fi : Nat) (fl : Flow) (h : Held) (s : State) : vital (enterHeld fi fl h s).2 = vital s := by
  unfold enterHeld; simp only [vital_mk, vital_foldl, apply_ite vital, ite_self, implies_true, vital_entered]

theorem vital_withVerdict (fi : Nat) (fl : Flow) (d : Desc) (s : State) : vital (withVerdict fi fl d s).2 = vital s := by
  grind [withVerdict, vital, vital_updFlow, vital_noteVerdict]

theorem vital_noticePosition (fi : Nat) (d : Desc) (s : State) : vital (noticePosition fi d s) = vital s := by
  grind [noticePosition, vital, vital_sendPartner, vital_updFlow]

theorem vital_addDesc (d : Desc) (s : State) : vital (addDesc d s) = vital s := by
  unfold addDesc; try dsimp only
  repeat' split
  all_goals first | rfl | (simp only [vital_mk, vital_foldl, apply_ite vital, ite_self, implies_true, vital_nextOrder]; done) | grind [vital, vital_nextOrder] | (refine (vital_foldl _ (fun s x => ?_) _ _).trans ?_ <;> (first | rfl | exact vital_nextOrder .. | (simp only [vital_mk, vital_foldl, apply_ite vital, ite_self, implies_true, vital_nextOrder]; done) | grind [vital, vital_nextOrder])) | (rw [vital_nextOrder]; refine (vital_foldl _ (fun s x => ?_) _ _).trans ?_ <;> (first | rfl | exact vital_nextOrder .. | (simp only [vital_mk, vital_foldl, apply_ite vital, ite_self, implies_true, vital_nextOrder]; done) | grind [vital, vital_nextOrder]))

theorem vital_countAdmit (g : Nat) (s : State) : vital (countAdmit g s) = vital s := by
  unfold countAdmit; simp only [vital_mk, vital_foldl, apply_ite vital, ite_self, implies_true, vital_updGal]

theorem vital_placeDesc (fi : Nat) (fl : Flow) (d : Desc) (s : State) : vital (placeDesc fi fl d s) = vital s := by
  grind [placeDesc, vital, vital_withVerdict, vital_setIdle, vital_noticePosition, vital_addDesc, vital_sendVerdict, vital_countAdmit]

theorem vital_placeGap (fi : Nat) (fl : Flow) (q : Nat) (s : State) : vital (placeGap fi fl q s) = vital s := by
  unfold placeGap; simp only [vital_mk, vital_foldl, apply_ite vital, ite_self, implies_true, vital_noteVerdict, vital_placeDesc, vital_tellHome]

theorem vital_drainHeld (fi : Nat) (a1 : Nat) (a2 : State) : vital (drainHeld fi a1 a2) = vital a2 := by
  induction a1 generalizing a2 with
  | zero => rfl
  | succ n ih => unfold drainHeld; grind [vital_updFlow, vital_placeGap, vital_placeDesc, vital_enterHeld]

theorem vital_answerOut (fi : Nat) (fl : Flow) (a : Arrival) (r : Resp) (journaled : Bool) (s : State) : vital (answerOut fi fl a r journaled s) = vital s := by
  unfold answerOut; simp only [vital_mk, vital_foldl, apply_ite vital, ite_self, implies_true, vital_addDesc]

theorem vital_absorb (t : Nat) (a : Arrival) (s : State) : vital (absorb t a s) = vital s := by
  unfold absorb; simp only [vital_mk, vital_foldl, apply_ite vital, ite_self, implies_true, vital_updDesc]

theorem vital_repeatVerdict (fl : Flow) (d : Desc) (s : State) : vital (repeatVerdict fl d s) = vital s := by
  grind [repeatVerdict, vital, vital_sendVerdict]

theorem vital_judgeQuota (g : Nat) (a : Arrival) (s : State) : vital (judgeQuota g a s).2 = vital s := by
  grind [judgeQuota, vital, vital_updGal]

theorem vital_judgeForward (fl : Flow) (a : Arrival) (s : State) : vital (judgeForward fl a s).2 = vital s := by
  grind [judgeForward, vital, vital_judgeQuota]

theorem vital_judgeCommit (fl : Flow) (a : Arrival) (s : State) : vital (judgeCommit fl a s).2 = vital s := by
  grind [judgeCommit, vital, vital_judgeQuota, vital_countRefusal]

theorem vital_commitAnswer (fl : Flow) (a : Arrival) (s : State) : vital (commitAnswer fl a s).2 = vital s := by
  grind [commitAnswer, vital, vital_judgeForward, vital_judgeCommit]

theorem vital_reexecute (fi : Nat) (fl : Flow) (a : Arrival) (s : State) : vital (reexecute fi fl a s) = vital s := by
  grind [reexecute, vital, vital_commitAnswer, vital_admitted, vital_withVerdict, vital_addDesc, vital_sendVerdict]

theorem vital_resubmit (fi : Nat) (fl : Flow) (a : Arrival) (s : State) : vital (resubmit fi fl a s) = vital s := by
  grind [resubmit, vital, vital_answerOut, vital_absorb, vital_repeatVerdict, vital_reexecute]

theorem vital_takePosition (fi : Nat) (fl : Flow) (d : Desc) (s : State) : vital (takePosition fi fl d s) = vital s := by
  unfold takePosition; simp only [vital_mk, vital_foldl, apply_ite vital, ite_self, implies_true, vital_placeDesc, vital_drainHeld, vital_updFlow]

theorem vital_holdCommit (fi : Nat) (fl : Flow) (a : Arrival) (s : State) : vital (holdCommit fi fl a s) = vital s := by
  unfold holdCommit; simp only [vital_mk, vital_foldl, apply_ite vital, ite_self, implies_true, vital_commitAnswer, vital_nextOrder, vital_updFlow]

theorem vital_placeFrame (fi : Nat) (a : Arrival) (s : State) : vital (placeFrame fi a s) = vital s := by
  grind [placeFrame, vital, vital_answerOut, vital_resubmit, vital_commitAnswer, vital_entered, vital_takePosition, vital_updFlow, vital_holdCommit]

theorem vital_migrateHeld (fi : Nat) (s : State) : vital (migrateHeld fi s) = vital s := by
  unfold migrateHeld; try dsimp only
  repeat' split
  all_goals first | rfl | (simp only [vital_mk, vital_foldl, apply_ite vital, ite_self, implies_true, vital_updFlow, vital_answerOut]; done) | grind [vital, vital_updFlow, vital_answerOut] | (refine (vital_foldl _ (fun s x => ?_) _ _).trans ?_ <;> (first | rfl | exact vital_updFlow .. | exact vital_answerOut .. | (simp only [vital_mk, vital_foldl, apply_ite vital, ite_self, implies_true, vital_updFlow, vital_answerOut]; done) | grind [vital, vital_updFlow, vital_answerOut])) | (rw [vital_updFlow]; refine (vital_foldl _ (fun s x => ?_) _ _).trans ?_ <;> (first | rfl | exact vital_updFlow .. | exact vital_answerOut .. | (simp only [vital_mk, vital_foldl, apply_ite vital, ite_self, implies_true, vital_updFlow, vital_answerOut]; done) | grind [vital, vital_updFlow, vital_answerOut]))

/-! ### Docent -/

theorem vital_signalParks (wait : Nat) (signals : Nat → Bool) (s : State) : vital (signalParks wait signals s) = vital s := by
  rfl

theorem vital_signalPark (wait : Nat) (object : Nat) (s : State) : vital (signalPark wait object s) = vital s := by
  unfold signalPark; simp only [vital_mk, vital_foldl, apply_ite vital, ite_self, implies_true, vital_signalParks]

theorem vital_freeCell (c : Nat) (s : State) : vital (freeCell c s) = vital s := by
  unfold freeCell; simp only [vital_mk, vital_foldl, apply_ite vital, ite_self, implies_true, vital_settleCell, vital_updCell]

theorem vital_freeCopies (t : Nat) (d : Desc) (s : State) : vital (freeCopies t d s) = vital s := by
  unfold freeCopies; simp only [vital_mk, vital_foldl, apply_ite vital, ite_self, implies_true, vital_freeCell]

theorem vital_tellStream (sid : StreamId) (body : Forwarded) (s : State) : vital (tellStream sid body s) = vital s := by
  grind [tellStream, vital, vital_sendTo]

theorem vital_closeFlows (fis : List Nat) (s : State) : vital (closeFlows fis s) = vital s := by
  unfold closeFlows; simp only [vital_mk, vital_foldl, apply_ite vital, ite_self, implies_true, vital_tellStream, vital_closeMinute]

theorem vital_leaveService (t : Nat) (s : State) : vital (leaveService t s) = vital s := by
  grind [leaveService, vital, vital_dropHolds, vital_closeFlows]

theorem vital_docentAnswer (t : Nat) (st : Nat) (s : State) : vital (docentAnswer t st s) = vital s := by
  grind [docentAnswer, vital, vital_setIdle, vital_leaveService, vital_updDesc]

theorem vital_applyOps (cs : List Change) (s : State) : vital (applyOps cs s) = vital s := by
  unfold applyOps; refine vital_foldl _ (fun s x => ?_) _ _; split <;> rfl

theorem vital_sendStateDelta (sid : StreamId) (d : Desc) (r : Resp) (s : State) : vital (sendStateDelta sid d r s) = vital s := by
  grind [sendStateDelta, vital, vital_sendTo]

theorem vital_sendLoanDeltas (t : Nat) (d : Desc) (s : State) : vital (sendLoanDeltas t d s) = vital s := by
  unfold sendLoanDeltas; try dsimp only
  repeat' split
  all_goals first | rfl | (simp only [vital_mk, vital_foldl, apply_ite vital, ite_self, implies_true, vital_updGal, vital_sendTo, vital_updDesc]; done) | grind [vital, vital_updGal, vital_sendTo, vital_updDesc]

theorem vital_mirrorChanges (cs : List Change) (s : State) : vital (mirrorChanges cs s) = vital s := by
  unfold mirrorChanges; simp only [vital_mk, vital_foldl, apply_ite vital, ite_self, implies_true, vital_sendPartner]

theorem vital_sendDelta (t : Nat) (sid : StreamId) (d : Desc) (r : Resp) (entry : Bool) (s : State) : vital (sendDelta t sid d r entry s) = vital s := by
  unfold sendDelta; simp only [vital_mk, vital_foldl, apply_ite vital, ite_self, implies_true, vital_updDesc, vital_mirrorChanges]

theorem vital_spread (t : Nat) (fl : Flow) (d : Desc) (r : Resp) (entry : Bool) (s : State) : vital (spread t fl d r entry s) = vital s := by
  unfold spread; simp only [vital_mk, vital_foldl, apply_ite vital, ite_self, implies_true, vital_applyOps, vital_setIdle, vital_updDesc, vital_sendStateDelta, vital_sendLoanDeltas, vital_sendDelta]

theorem vital_waitPage (t : Nat) (fl : Flow) (s : State) : vital (waitPage t fl s) = vital s := by
  unfold waitPage; simp only [vital_mk, vital_foldl, apply_ite vital, ite_self, implies_true, vital_updDesc, vital_nextOrder]

theorem vital_endCommand (t : Nat) (st : Nat) (s : State) : vital (endCommand t st s) = vital s := by
  unfold endCommand
  split
  · rfl
  · split
    · exact vital_docentAnswer ..
    · dsimp only
      generalize hu : updDesc t _ (dropHolds t (freeCopies t _ s)) = u
      have hv : vital u = vital s := by rw [← hu, vital_updDesc, vital_dropHolds, vital_freeCopies]
      split
      · split
        · rename_i v h
          rw [vital_leaveService, vital_spread]; exact (vital_putJournal _ _ _ _ h).trans hv
        · split
          · rw [vital_waitPage]; exact hv
          · rw [vital_leaveService, vital_spread]; exact hv
      · rw [vital_docentAnswer, vital_sendVerdict, vital_applyOps]; exact hv

theorem vital_takeKeys (w : Nat) (t : Nat) (g : Nat) (rights : List Nat) (f : Sys2Proof.Bytes) (a5 : List (KeyReq × Nat)) (a6 : State) (a7 : List (Option HeldKey)) : vital (takeKeys w t g rights f a5 a6 a7).2.2 = vital a6 := by
  induction a5 generalizing a6 a7 with
  | nil => rfl
  | cons p t ih => obtain ⟨r, i⟩ := p; unfold takeKeys; grind [vital_holdKey, vital_discardBroken]

theorem vital_takeChecks (w : Nat) (t : Nat) (sid : StreamId) (sealed : Bool) (d : Desc) (s : State) : vital (takeChecks w t sid sealed d s).2.2 = vital s := by
  grind [takeChecks, vital, vital_takeKeys]

theorem vital_firstTake (c : Nat) (t : Nat) (sid : StreamId) (sealed : Bool) (d : Desc) (s : State) : vital (firstTake c t sid sealed d s).2 = vital s := by
  unfold firstTake; simp only [vital_mk, vital_foldl, apply_ite vital, ite_self, implies_true, vital_takeChecks, vital_nextOrder]

theorem vital_refetchKeys (w t g : Nat) (d : Desc) (s : State) : vital (refetchKeys w t g d s).2 = vital s := by
  have h : ∀ (l : List (Option HeldKey)) (a : List (Option HeldKey) × State), vital (l.foldl (fun (a : List (Option HeldKey) × State) k =>
      match k with
      | some k =>
        let (k, s) := holdKey w t g k a.2
        (a.1 ++ [some k], s)
      | none => (a.1 ++ [none], a.2)) a).2 = vital a.2 := by
    intro l
    induction l with
    | nil => intro a; rfl
    | cons k l ih =>
      intro a
      rw [List.foldl_cons, ih]
      split
      · exact vital_holdKey ..
      · rfl
  exact h _ _

theorem vital_sendAccept (sid : StreamId) (d : Desc) (s : State) : vital (sendAccept sid d s) = vital s := by
  unfold sendAccept; simp only [vital_mk, vital_foldl, apply_ite vital, ite_self, implies_true, vital_sendVerdict]

theorem vital_giveTo (c : Nat) (t : Nat) (d : Desc) (s : State) : vital (giveTo c t d s) = vital s := by
  grind [giveTo, vital, vital_settleCell, vital_freeNumber, vital_firstTake, vital_refetchKeys, vital_sendAccept, vital_updCell, vital_countEvent]

theorem vital_timeoutTake (t : Nat) (d : Desc) (s : State) : vital (timeoutTake t d s) = vital s := by
  grind [timeoutTake, vital, vital_sendVerdict, vital_docentAnswer]

theorem vital_handOver (a0 : Nat) (a1 : State) : vital (handOver a0 a1) = vital a1 := by
  induction a0 generalizing a1 with
  | zero => rfl
  | succ n ih => unfold handOver; grind [vital_giveTo, vital_timeoutTake]

theorem vital_reclass (s : State) : vital (reclass s) = vital s := by
  rfl

theorem vital_offerReady (s : State) : vital (offerReady s) = vital s := by
  unfold offerReady; simp only [vital_mk, vital_foldl, apply_ite vital, ite_self, implies_true, vital_handOver, vital_reclass]

theorem vital_noteSeal (sid : StreamId) (live : Bool) (s : State) : vital (noteSeal sid live s) = vital s := by
  unfold noteSeal; simp only [vital_mk, vital_foldl, apply_ite vital, ite_self, implies_true, vital_sendPartner]

theorem vital_dropSeals (fn : Nat) (s : State) : vital (dropSeals fn s) = vital s := by
  unfold dropSeals; try dsimp only
  repeat' split
  all_goals first | rfl | (simp only [vital_mk, vital_foldl, apply_ite vital, ite_self, implies_true, vital_noteSeal, vital_updGal]; done) | grind [vital, vital_noteSeal, vital_updGal]

theorem vital_discardFlows (fis : List Nat) (s : State) : vital (discardFlows fis s) = vital s := by
  unfold discardFlows; simp only [vital_mk, vital_foldl, apply_ite vital, ite_self, implies_true, vital_dropHolds, vital_updFlow]

theorem vital_reoffer (t : Nat) (badWings : List Nat) (s : State) : vital (reoffer t badWings s) = vital s := by
  unfold reoffer; simp only [vital_mk, vital_foldl, apply_ite vital, ite_self, implies_true, vital_updDesc]

theorem vital_raiseHolds (fis : List Nat) (s : State) : vital (raiseHolds fis s) = vital s := by
  unfold raiseHolds; simp only [vital_mk, vital_foldl, apply_ite vital, ite_self, implies_true, vital_updFlow]

theorem vital_lowerHolds (fis : List Nat) (s : State) : vital (lowerHolds fis s) = vital s := by
  unfold lowerHolds; simp only [vital_mk, vital_foldl, apply_ite vital, ite_self, implies_true, vital_updFlow]

theorem vital_failCommand (t : Nat) (wings : List Nat) (s : State) : vital (failCommand t wings s) = vital s := by
  unfold failCommand
  split
  · rfl
  · dsimp only
    split
    · rw [vital_endCommand, vital_updDesc, vital_freeCopies]
    · rw [vital_reoffer, vital_updDesc, vital_freeCopies]

theorem vital_finish (t : Nat) (s : State) : vital (finish t s) = vital s := by
  unfold finish; try dsimp only
  repeat' split
  all_goals first | rfl | (simp only [vital_mk, vital_foldl, apply_ite vital, ite_self, implies_true, vital_dropHolds, vital_updDesc, vital_putJournal, vital_waitPage, vital_leaveService, vital_spread]; done) | grind [vital, vital_dropHolds, vital_updDesc, vital_putJournal, vital_waitPage, vital_leaveService, vital_spread]

theorem vital_signalPages (s : State) : vital (signalPages s) = vital s := by
  unfold signalPages; simp only [vital_mk, vital_foldl, apply_ite vital, ite_self, implies_true, vital_signalParks]

theorem vital_ignoredDone (c : Nat) (t : Nat) (s : State) : vital (ignoredDone c t s) = vital s := by
  unfold ignoredDone; simp only [vital_mk, vital_foldl, apply_ite vital, ite_self, implies_true, vital_logRecord]

theorem vital_resetWindow (fn : Nat) (s : State) : vital (resetWindow fn s) = vital s := by
  unfold resetWindow; simp only [vital_mk, vital_foldl, apply_ite vital, ite_self, implies_true, vital_updWin]

/-! ### Release -/

theorem vital_freeDesc (t : Nat) (s : State) : vital (freeDesc t s) = vital s := by
  unfold freeDesc; simp only [vital_mk, vital_foldl, apply_ite vital, ite_self, implies_true, vital_dropHolds]

theorem vital_publishNext (fn : Nat) (i : Nat) (s : State) : vital (publishNext fn i s) = vital s := by
  grind [publishNext, vital, vital_updStrm, vital_latchReady, vital_latchStreamErr, vital_traceCommand, vital_countLatency]

theorem vital_publishStream (fn : Nat) (i : Nat) (a2 : Nat) (a3 : State) : vital (publishStream fn i a2 a3) = vital a3 := by
  fun_induction publishStream fn i a2 a3 <;> grind [vital, vital_publishNext]

theorem vital_publishAll (s : State) : vital (publishAll s) = vital s := by
  unfold publishAll; simp only [vital_mk, vital_foldl, apply_ite vital, ite_self, implies_true, vital_publishStream]

theorem vital_returnFar (fl : Flow) (d : Desc) (r : Resp) (s : State) : vital (returnFar fl d r s) = vital s := by
  unfold returnFar; simp only [vital_mk, vital_foldl, apply_ite vital, ite_self, implies_true, vital_sendTo]

theorem vital_closeRemote (fi : Nat) (s : State) : vital (closeRemote fi s) = vital s := by
  grind [closeRemote, vital, vital_closeFlows]

theorem vital_releaseOne (fi : Nat) (fl : Flow) (t : Nat) (d : Desc) (r : Resp) (s : State) : vital (releaseOne fi fl t d r s) = vital s := by
  grind [releaseOne, vital, vital_meterRelease, vital_updDesc, vital_returnFar, vital_updStrm, vital_closeRemote, vital_freeDesc]

theorem vital_testCut (fi : Nat) (s : State) : vital (testCut fi s) = vital s := by
  grind [testCut, vital, vital_latchEvent, vital_updFlow, vital_updGal, vital_sendTo]

theorem vital_releaseFlow (fi : Nat) (a1 : Nat) (a2 : State) : vital (releaseFlow fi a1 a2) = vital a2 := by
  fun_induction releaseFlow fi a1 a2 <;> grind [vital, vital_releaseOne, vital_testCut, vital_updFlow]

theorem vital_releaseAll (fi : Nat) (s : State) : vital (releaseAll fi s) = vital s := by
  grind [releaseAll, vital, vital_releaseFlow, vital_closeMinute]

theorem vital_replaceFlow (keep : Bool) (st : Nat) (fi : Nat) (s : State) : vital (replaceFlow keep st fi s) = vital s := by
  unfold replaceFlow; try dsimp only
  repeat' split
  all_goals first | rfl | (simp only [vital_mk, vital_foldl, apply_ite vital, ite_self, implies_true, vital_addDesc, vital_updFlow]; done) | grind [vital, vital_addDesc, vital_updFlow]

theorem vital_replaceAll (keep : Bool) (st : Nat) (s : State) : vital (replaceAll keep st s) = vital s := by
  unfold replaceAll; simp only [vital_mk, vital_foldl, apply_ite vital, ite_self, implies_true, vital_releaseAll, vital_replaceFlow]

/-! ### GalleryBase -/

theorem vital_answerGone (g : Nat) (s : State) : vital (answerGone g s) = vital s := by
  unfold answerGone; simp only [vital_mk, vital_foldl, apply_ite vital, ite_self, implies_true, vital_docentAnswer, vital_freeCopies]

theorem vital_dropGallery (g : Nat) (s : State) : vital (dropGallery g s) = vital s := by
  unfold dropGallery; simp only [vital_mk, vital_foldl, apply_ite vital, ite_self, implies_true, vital_answerGone, vital_discardGallery, vital_touchVitrine]

theorem vital_keepFinal (r : MeterRecord) (s : State) : vital (keepFinal r s) = vital s := by
  unfold keepFinal; simp only [vital_mk, vital_foldl, apply_ite vital, ite_self, implies_true, vital_settleWaiting]

theorem vital_finalMeter (g : Nat) (s : State) : vital (finalMeter g s) = vital s := by
  unfold finalMeter; try dsimp only
  repeat' split
  all_goals first | rfl | (simp only [vital_mk, vital_foldl, apply_ite vital, ite_self, implies_true, vital_writeMeter, vital_makeRecord, vital_keepFinal]; done) | grind [vital, vital_writeMeter, vital_makeRecord, vital_keepFinal]

theorem vital_putDescriptor (g : Nat) (d : Descriptor) (s : State) : vital (putDescriptor g d s) = vital s := by
  grind [putDescriptor, vital, vital_trimCache, vital_updGal]

theorem vital_setRight (g : Nat) (target : Nat) (byte : Nat) (s : State) : vital (setRight g target byte s) = vital s := by
  unfold setRight; simp only [vital_mk, vital_foldl, apply_ite vital, ite_self, implies_true, vital_updGal]

theorem vital_putRights (g : Nat) (target : Nat) (byte : Nat) (s : State) : vital (putRights g target byte s) = vital s := by
  grind [putRights, vital, vital_setRight]

theorem vital_ackRecords (g : Nat) (n : Nat) (s : State) : vital (ackRecords g n s) = vital s := by
  unfold ackRecords; simp only [vital_mk, vital_foldl, apply_ite vital, ite_self, implies_true, vital_settleWaiting]

theorem vital_bindWindow (vf : Nat) (g : Nat) (s : State) : vital (bindWindow vf g s) = vital s := by
  unfold bindWindow; simp only [vital_mk, vital_foldl, apply_ite vital, ite_self, implies_true, vital_refreshWindow, vital_updWin]

theorem vital_bindFar (vf : Nat) (g : Nat) (far : Option Descriptor) (s : State) : vital (bindFar vf g far s) = vital s := by
  unfold bindFar; try dsimp only
  repeat' split
  all_goals first | rfl | (simp only [vital_mk, vital_foldl, apply_ite vital, ite_self, implies_true, vital_bindWindow]; done) | grind [vital, vital_bindWindow]

/-! ### Term -/

theorem vital_writeAnchor (s : State) : vital (writeAnchor s) = vital s := by
  unfold writeAnchor; simp only [vital_mk, vital_foldl, apply_ite vital, ite_self, implies_true]

theorem vital_setRole (role : Role) (term : Nat) (cause : Nat) (s : State) : vital (setRole role term cause s) = vital s := by
  grind [setRole, vital, vital_writeAnchor, vital_withMode, vital_logRecord]

/-! ### Deltas -/

theorem vital_awaitLoans (d : Delta) (s : State) : vital (awaitLoans d s) = vital s := by
  grind [awaitLoans, vital, vital_updDesc]

theorem vital_applyResponse (sid : StreamId) (q : Nat) (r : Resp) (s : State) : vital (applyResponse sid q r s) = vital s := by
  grind [applyResponse, vital, vital_updDesc, vital_dropHolds, vital_freeCopies, vital_setIdle]

theorem vital_applyRecord (g : Nat) (slot : Nat) (r : Option VRecord) (s : State) : vital (applyRecord g slot r s) = vital s := by
  grind [applyRecord, vital, vital_discardRecord, vital_replaceRecord]

theorem vital_endUnder (t : Nat) (fl : Flow) (d : Desc) (v : Verdict) (s : State) : vital (endUnder t fl d v s) = vital s := by
  unfold endUnder; simp only [vital_mk, vital_foldl, apply_ite vital, ite_self, implies_true, vital_updDesc, vital_dropHolds, vital_freeCopies, vital_setIdle]

theorem vital_applyVerdict (sid : StreamId) (q : Nat) (v : Verdict) (s : State) : vital (applyVerdict sid q v s) = vital s := by
  grind [applyVerdict, vital, vital_updDesc, vital_noteVerdict, vital_endUnder, vital_drainHeld, vital_updFlow]

theorem vital_markGallery (g : Nat) (minute : Nat) (ticks : Nat) (marks : List (StreamId × Nat)) (s : State) : vital (markGallery g minute ticks marks s) = vital s := by
  unfold markGallery
  split
  · rfl
  · dsimp only
    split
    · rw [vital_latchEvent, vital_updGal]
    · rw [vital_closeMinute, vital_updGal]

theorem vital_applyGallery (g : Nat) (d : Option Descriptor) (inst : Nat) (rootKey : Sys2Proof.Bytes) (s : State) : vital (applyGallery g d inst rootKey s) = vital s := by
  unfold applyGallery; try dsimp only
  repeat' split
  all_goals first | rfl | (simp only [vital_mk, vital_foldl, apply_ite vital, ite_self, implies_true, vital_dropGallery, vital_finalMeter, vital_touchVitrine, vital_putDescriptor]; done) | grind [vital, vital_dropGallery, vital_finalMeter, vital_touchVitrine, vital_putDescriptor]

theorem vital_dropWindow (fn : Nat) (s : State) : vital (dropWindow fn s) = vital s := by
  unfold dropWindow; simp only [vital_mk, vital_foldl, apply_ite vital, ite_self, implies_true, vital_dropSeals, vital_closeFlows, vital_discardFlows, vital_refreshWindow, vital_updWin]

theorem vital_applyMigration (g : Nat) (target : Option (Nat × Nat)) (cuts : Option (List (StreamId × Nat))) (s : State) : vital (applyMigration g target cuts s) = vital s := by
  unfold applyMigration; try dsimp only
  repeat' split
  all_goals first | rfl | (simp only [vital_mk, vital_foldl, apply_ite vital, ite_self, implies_true, vital_updGal, vital_updFlow]; done) | grind [vital, vital_updGal, vital_updFlow] | (refine (vital_foldl _ (fun s x => ?_) _ _).trans ?_ <;> (first | rfl | exact vital_updGal .. | exact vital_updFlow .. | (simp only [vital_mk, vital_foldl, apply_ite vital, ite_self, implies_true, vital_updGal, vital_updFlow]; done) | grind [vital, vital_updGal, vital_updFlow])) | (rw [vital_updGal]; refine (vital_foldl _ (fun s x => ?_) _ _).trans ?_ <;> (first | rfl | exact vital_updGal .. | exact vital_updFlow .. | (simp only [vital_mk, vital_foldl, apply_ite vital, ite_self, implies_true, vital_updGal, vital_updFlow]; done) | grind [vital, vital_updGal, vital_updFlow]))

theorem vital_applyChange (s : State) (c : Change) : vital (applyChange s c) = vital s := by
  unfold applyChange; try dsimp only
  repeat' split
  all_goals first | rfl | (simp only [vital_mk, vital_foldl, apply_ite vital, ite_self, implies_true, vital_applyResponse, vital_putJournal, vital_applyRecord, vital_updGal, vital_latchGallery, vital_applyVerdict, vital_markGallery, vital_applyGallery, vital_putRights, vital_ackRecords, vital_bindFar, vital_dropWindow, vital_applyMigration]; done) | grind [vital, vital_applyResponse, vital_putJournal, vital_applyRecord, vital_updGal, vital_latchGallery, vital_applyVerdict, vital_markGallery, vital_applyGallery, vital_putRights, vital_ackRecords, vital_bindFar, vital_dropWindow, vital_applyMigration]

theorem vital_ownVerdict (t : Nat) (d : Desc) (s : State) : vital (ownVerdict t d s) = vital s := by
  grind [ownVerdict, vital, vital_sendVerdict, vital_countRefusal, vital_updDesc, vital_dropHolds, vital_freeCopies, vital_updGal]

theorem vital_takeVerdicts (s : State) : vital (takeVerdicts s) = vital s := by
  unfold takeVerdicts; simp only [vital_mk, vital_foldl, apply_ite vital, ite_self, implies_true, vital_ownVerdict]

theorem vital_applyDelta (d : Delta) (s : State) : vital (applyDelta d s) = vital s := by
  unfold applyDelta; simp only [vital_mk, vital_foldl, apply_ite vital, ite_self, implies_true, vital_awaitLoans, vital_applyChange, vital_sendPartner, vital_takeVerdicts, vital_setRole]

theorem vital_drainDeltas (a0 : Nat) (a1 : State) : vital (drainDeltas a0 a1) = vital a1 := by
  fun_induction drainDeltas a0 a1 <;> grind [vital, vital_applyDelta]

theorem vital_offerWork (s : State) : vital (offerWork s) = vital s := by
  unfold offerWork; simp only [vital_mk, vital_foldl, apply_ite vital, ite_self, implies_true, vital_offerReady, vital_drainDeltas]

/-! ### Window -/

theorem vital_refuseStream (fn : Nat) (i : Nat) (s : State) : vital (refuseStream fn i s) = vital s := by
  unfold refuseStream; simp only [vital_mk, vital_foldl, apply_ite vital, ite_self, implies_true, vital_latchStreamErr, vital_updStrm]

theorem vital_noteCut (fi : Nat) (s : State) : vital (noteCut fi s) = vital s := by
  grind [noteCut, vital, vital_testCut, vital_sendTo]

theorem vital_openStream (fn : Nat) (i : Nat) (g : Nat) (sealed : Bool) (s : State) : vital (openStream fn i g sealed s) = vital s := by
  grind [openStream, vital, vital_updGal, vital_noteCut, vital_updStrm]

theorem vital_sealHere (fn : Nat) (i : Nat) (g : Nat) (x : Gallery) (r : VRecord) (s : State) : vital (sealHere fn i g x r s) = vital s := by
  unfold sealHere; simp only [vital_mk, vital_foldl, apply_ite vital, ite_self, implies_true, vital_updGal, vital_updStrm, vital_noteSeal, vital_mirrorChanges]

theorem vital_sealStream (fn : Nat) (i : Nat) (g : Nat) (s : State) : vital (sealStream fn i g s) = vital s := by
  grind [sealStream, vital, vital_sealHere]

theorem vital_enableStream (fn : Fin 1025) (stream : Fin 16) (sealed : Bool) (s : State) : vital (enableStream fn stream sealed s) = vital s := by
  grind [enableStream, vital, vital_updStrm, vital_refuseStream, vital_tellStream, vital_openStream, vital_sealStream]

theorem vital_resumeEnables (s : State) : vital (resumeEnables s) = vital s := by
  unfold resumeEnables; try dsimp only
  repeat' split
  all_goals first | rfl | (simp only [vital_mk, vital_foldl, apply_ite vital, ite_self, implies_true, vital_updStrm, vital_enableStream]; done) | grind [vital, vital_updStrm, vital_enableStream] | (refine (vital_foldl _ (fun s x => ?_) _ _).trans ?_ <;> (first | rfl | exact vital_updStrm .. | exact vital_enableStream .. | (simp only [vital_mk, vital_foldl, apply_ite vital, ite_self, implies_true, vital_updStrm, vital_enableStream]; done) | grind [vital, vital_updStrm, vital_enableStream])) | (rw [vital_updStrm]; refine (vital_foldl _ (fun s x => ?_) _ _).trans ?_ <;> (first | rfl | exact vital_updStrm .. | exact vital_enableStream .. | (simp only [vital_mk, vital_foldl, apply_ite vital, ite_self, implies_true, vital_updStrm, vital_enableStream]; done) | grind [vital, vital_updStrm, vital_enableStream]))

theorem vital_disableStream (fn : Fin 1025) (stream : Fin 16) (sealed : Bool) (s : State) : vital (disableStream fn stream sealed s) = vital s := by
  unfold disableStream; simp only [vital_mk, vital_foldl, apply_ite vital, ite_self, implies_true, vital_updStrm]

theorem vital_execStreamDisable (fn : Fin 1025) (stream : Fin 16) (sealed : Bool) (s : State) : ∀ t, execStreamDisable fn stream sealed s = .next t → vital t = vital s := by
  unfold execStreamDisable; rintro t ⟨rfl⟩; simp only [vital_mk, vital_foldl, apply_ite vital, ite_self, implies_true, vital_disableStream]

theorem vital_writePort (fn : Nat) (i : Nat) (off : Nat) (data : Sys2Proof.Bytes) (s : State) : vital (writePort fn i off data s) = vital s := by
  unfold writePort; simp only [vital_mk, vital_foldl, apply_ite vital, ite_self, implies_true, vital_latchStreamErr, vital_updStrm]

theorem vital_setFault (fn : Nat) (b : Nat) (s : State) : vital (setFault fn b s) = vital s := by
  unfold setFault; simp only [vital_mk, vital_foldl, apply_ite vital, ite_self, implies_true, vital_updWin]

theorem vital_partialWrite (fn : Nat) (poisoned : Bool) (s : State) : vital (partialWrite fn poisoned s) = vital s := by
  unfold partialWrite; simp only [vital_mk, vital_foldl, apply_ite vital, ite_self, implies_true, vital_setFault]

theorem vital_ackResponse (fn : Fin 1025) (stream : Fin 16) (value : Sys2Proof.W64) (s : State) : vital (ackResponse fn stream value s) = vital s := by
  grind [ackResponse, vital, vital_latchStreamErr, vital_updStrm, vital_ackJournal, vital_offerWork, vital_signalPages, vital_freeDesc]

theorem vital_writeEventMask (fn : Fin 1025) (value : Sys2Proof.W64) (s : State) : vital (writeEventMask fn value s) = vital s := by
  unfold writeEventMask; simp only [vital_mk, vital_foldl, apply_ite vital, ite_self, implies_true, vital_updWin, vital_countPublication, vital_sendVector]

theorem vital_writeMevMask (k : Fin 4) (value : Sys2Proof.W64) (s : State) : vital (writeMevMask k value s) = vital s := by
  unfold writeMevMask; simp only [vital_mk, vital_foldl, apply_ite vital, ite_self, implies_true, vital_sendVector]

theorem vital_deliverFrame (fn : Nat) (i : Nat) (a : Arrival) (s : State) : vital (deliverFrame fn i a s) = vital s := by
  grind [deliverFrame, vital, vital_placeFrame, vital_updStrm]

theorem vital_execWinRespAck (fn : Fin 1025) (stream : Fin 16) (value : Sys2Proof.W64) (s : State) : ∀ t, execWinRespAck fn stream value s = .next t → vital t = vital s := by
  unfold execWinRespAck; rintro t ⟨rfl⟩; simp only [vital_mk, vital_foldl, apply_ite vital, ite_self, implies_true, vital_ackResponse]

theorem vital_writeMsix (fn : Fin 1025) (vector : Fin 256) (upper : Bool) (value : Sys2Proof.W64) (s : State) : vital (writeMsix fn vector upper value s) = vital s := by
  unfold writeMsix; simp only [vital_mk, vital_foldl, apply_ite vital, ite_self, implies_true, vital_setFault, vital_flushVectors, vital_updPcie]

theorem vital_writeSlot (fn : Nat) (i : Nat) (k : Nat) (off : Nat) (data : Sys2Proof.Bytes) (s : State) : vital (writeSlot fn i k off data s) = vital s := by
  unfold writeSlot; simp only [vital_mk, vital_foldl, apply_ite vital, ite_self, implies_true, vital_setFault, vital_updStrm]

theorem vital_flushMctp (s : State) : vital (flushMctp s) = vital s := by
  unfold flushMctp; try dsimp only
  repeat' split
  all_goals first | rfl | (simp only [vital_mk, vital_foldl, apply_ite vital, ite_self, implies_true, vital_emitMctp]; done) | grind [vital, vital_emitMctp]

theorem vital_commitError (fn : Nat) (i : Nat) (s : State) : vital (commitError fn i s) = vital s := by
  unfold commitError; simp only [vital_mk, vital_foldl, apply_ite vital, ite_self, implies_true, vital_latchStreamErr, vital_updStrm]

theorem vital_endStream (fn : Nat) (i : Nat) (s : State) : vital (endStream fn i s) = vital s := by
  grind [endStream, vital, vital_tellStream, vital_noteSeal, vital_updGal, vital_updStrm]

theorem vital_execStreamDrained (fn : Fin 1025) (stream : Fin 16) (s : State) : ∀ t, execStreamDrained fn stream s = .next t → vital t = vital s := by
  grind [execStreamDrained, vital, vital_endStream]

theorem vital_execSlotCopyDone (fn : Fin 1025) (stream : Fin 16) (slot : Fin 8) (s : State) : ∀ t, execSlotCopyDone fn stream slot s = .next t → vital t = vital s := by
  grind [execSlotCopyDone, vital, vital_updStrm]

theorem vital_execFunctionLevelReset (fn : Fin 1025) (s : State) : ∀ t, execFunctionLevelReset fn s = .next t → vital t = vital s := by
  unfold execFunctionLevelReset; rintro t ⟨rfl⟩; simp only [vital_mk, vital_foldl, apply_ite vital, ite_self, implies_true, vital_discardFlows, vital_closeFlows, vital_dropSeals, vital_resetWindow, vital_updWin, vital_updPcie]

theorem vital_commitLarge (fn : Fin 1025) (stream : Fin 16) (slot : Fin 8) (s : State) : vital (commitLarge fn stream slot s) = vital s := by
  unfold commitLarge; simp only [vital_mk, vital_foldl, apply_ite vital, ite_self, implies_true, vital_commitError, vital_updStrm, vital_offerWork, vital_deliverFrame]

theorem vital_commitSlot (fn : Fin 1025) (stream : Fin 16) (slot : Fin 8) (s : State) : vital (commitSlot fn stream slot s) = vital s := by
  unfold commitSlot; simp only [vital_mk, vital_foldl, apply_ite vital, ite_self, implies_true, vital_commitError, vital_updStrm, vital_offerWork, vital_deliverFrame]

theorem vital_execResponseAreaRead (fn : Fin 1025) (stream : Fin 16) (port : Bool) (off : Nat) (len : Nat) (s : State) : ∀ t, execResponseAreaRead fn stream port off len s = .next t → vital t = vital s := by
  grind [execResponseAreaRead, vital, vital_setFault]

theorem vital_execStreamEnable (fn : Fin 1025) (stream : Fin 16) (sealed : Bool) (s : State) : ∀ t, execStreamEnable fn stream sealed s = .next t → vital t = vital s := by
  unfold execStreamEnable; rintro t ⟨rfl⟩; simp only [vital_mk, vital_foldl, apply_ite vital, ite_self, implies_true, vital_enableStream]

theorem vital_execLargeFramePortWrite (fn : Fin 1025) (stream : Fin 16) (off : Nat) (data : Sys2Proof.Bytes) (poisoned : Bool) (s : State) : ∀ t, execLargeFramePortWrite fn stream off data poisoned s = .next t → vital t = vital s := by
  grind [execLargeFramePortWrite, vital, vital_partialWrite, vital_writePort]

theorem vital_sealFrom (fn : Nat) (i : Nat) (k : Nat × Sys2Proof.Bytes × Sys2Proof.Bytes) (s : State) : vital (sealFrom fn i k s) = vital s := by
  unfold sealFrom; simp only [vital_mk, vital_foldl, apply_ite vital, ite_self, implies_true, vital_updStrm]

theorem vital_execPcieConfigWrite (fn : Fin 1025) (command : PcieCommand) (msixEnable : Bool) (fnMask : Bool) (s : State) : ∀ t, execPcieConfigWrite fn command msixEnable fnMask s = .next t → vital t = vital s := by
  unfold execPcieConfigWrite; rintro t ⟨rfl⟩; simp only [vital_mk, vital_foldl, apply_ite vital, ite_self, implies_true, vital_flushMctp, vital_flushVectors, vital_updPcie]

theorem vital_openReplies (sid : StreamId) (r : OpenReply) (s : State) : vital (openReplies sid r s) = vital s := by
  unfold openReplies; try dsimp only
  repeat' split
  all_goals first | rfl | (simp only [vital_mk, vital_foldl, apply_ite vital, ite_self, implies_true, vital_tellStream, vital_refuseStream, vital_openStream, vital_sealFrom]; done) | grind [vital, vital_tellStream, vital_refuseStream, vital_openStream, vital_sealFrom]

theorem vital_execSubmitSlotWrite (fn : Fin 1025) (stream : Fin 16) (slot : Fin 8) (off : Nat) (data : Sys2Proof.Bytes) (poisoned : Bool) (s : State) : ∀ t, execSubmitSlotWrite fn stream slot off data poisoned s = .next t → vital t = vital s := by
  grind [execSubmitSlotWrite, vital, vital_partialWrite, vital_writeSlot]

theorem vital_execCommit (fn : Fin 1025) (stream : Fin 16) (slot : Fin 8) (s : State) : ∀ t, execCommit fn stream slot s = .next t → vital t = vital s := by
  unfold execCommit; rintro t ⟨rfl⟩; simp only [vital_mk, vital_foldl, apply_ite vital, ite_self, implies_true, vital_commitSlot]

theorem vital_execLargeCommit (fn : Fin 1025) (stream : Fin 16) (slot : Fin 8) (s : State) : ∀ t, execLargeCommit fn stream slot s = .next t → vital t = vital s := by
  unfold execLargeCommit; rintro t ⟨rfl⟩; simp only [vital_mk, vital_foldl, apply_ite vital, ite_self, implies_true, vital_commitLarge]

theorem vital_execLargeFrameCopyDone (fn : Fin 1025) (stream : Fin 16) (s : State) : ∀ t, execLargeFrameCopyDone fn stream s = .next t → vital t = vital s := by
  grind [execLargeFrameCopyDone, vital, vital_offerWork, vital_updStrm]

theorem vital_execWinEventMaskWrite (fn : Fin 1025) (value : Sys2Proof.W64) (s : State) : ∀ t, execWinEventMaskWrite fn value s = .next t → vital t = vital s := by
  unfold execWinEventMaskWrite; rintro t ⟨rfl⟩; simp only [vital_mk, vital_foldl, apply_ite vital, ite_self, implies_true, vital_writeEventMask]

theorem vital_execWinMevMaskWrite (k : Fin 4) (value : Sys2Proof.W64) (s : State) : ∀ t, execWinMevMaskWrite k value s = .next t → vital t = vital s := by
  unfold execWinMevMaskWrite; rintro t ⟨rfl⟩; simp only [vital_mk, vital_foldl, apply_ite vital, ite_self, implies_true, vital_writeMevMask]

theorem vital_execMsixTableWrite (fn : Fin 1025) (vector : Fin 256) (upper : Bool) (value : Sys2Proof.W64) (s : State) : ∀ t, execMsixTableWrite fn vector upper value s = .next t → vital t = vital s := by
  unfold execMsixTableWrite; rintro t ⟨rfl⟩; simp only [vital_mk, vital_foldl, apply_ite vital, ite_self, implies_true, vital_writeMsix]

theorem vital_execHoldoffExpiry (fn : Fin 1025) (s : State) : ∀ t, execHoldoffExpiry fn s = .next t → vital t = vital s := by
  grind [execHoldoffExpiry, vital, vital_updWin, vital_advanceTo, vital_sendVector]

theorem vital_execFunctionLevelResetDone (fn : Fin 1025) (s : State) : ∀ t, execFunctionLevelResetDone fn s = .next t → vital t = vital s := by
  grind [execFunctionLevelResetDone, vital, vital_updWin, vital_closeFlows]

/-! ### Engines -/

theorem vital_updPku (w : Nat) (f : Pku → Pku) (s : State) : vital (updPku w f s) = vital s := by
  unfold updPku; simp only [vital_mk, vital_foldl, apply_ite vital, ite_self, implies_true, vital_updWing]

theorem vital_settlePku (w : Nat) (s : State) : vital (settlePku w s) = vital s := by
  unfold settlePku; simp only [vital_mk, vital_foldl, apply_ite vital, ite_self, implies_true, vital_countEvent, vital_updPku]

theorem vital_updEngine (h : Bool) (w : Nat) (f : Engine → Engine) (s : State) : vital (updEngine h w f s) = vital s := by
  unfold updEngine; simp only [vital_mk, vital_foldl, apply_ite vital, ite_self, implies_true, vital_updWing]

theorem vital_settleEngine (h : Bool) (w : Nat) (s : State) : vital (settleEngine h w s) = vital s := by
  grind [settleEngine, vital, vital_countEvent, vital_updEngine]

theorem vital_dropClaim (cell : Nat) (s : State) : vital (dropClaim cell s) = vital s := by
  unfold dropClaim; simp only [vital_mk, vital_foldl, apply_ite vital, ite_self, implies_true, vital_updWing]

theorem vital_answerFn (t : Nat) (r : Resp) (ch : List Change) (s : State) : vital (answerFn t r ch s) = vital s := by
  unfold answerFn; simp only [vital_mk, vital_foldl, apply_ite vital, ite_self, implies_true, vital_updDesc]

theorem vital_avoidEngine (t w : Nat) (s : State) : vital (avoidEngine t w s) = vital s := by
  unfold avoidEngine
  split
  · rfl
  · dsimp only
    split
    · rw [vital_reoffer, vital_freeCopies]; exact vital_foldl _ (fun s x => vital_dropClaim _ _) _ _
    · rw [vital_answerFn]; exact vital_foldl _ (fun s x => vital_dropClaim _ _) _ _

theorem vital_shedClaims (w : Nat) (s : State) : vital (shedClaims w s) = vital s := by
  unfold shedClaims; simp only [vital_mk, vital_foldl, apply_ite vital, ite_self, implies_true, vital_offerWork, vital_avoidEngine]

theorem vital_raisePku (w : Nat) (b : Nat) (s : State) : vital (raisePku w b s) = vital s := by
  unfold raisePku; simp only [vital_mk, vital_foldl, apply_ite vital, ite_self, implies_true, vital_updPku]

theorem vital_stampRelease (cls : Nat) (cell : Nat) (s : State) : vital (stampRelease cls cell s) = vital s := by
  grind [stampRelease, vital, vital_updDesc]

theorem vital_freePku (w : Nat) (dirty : Bool) (s : State) : vital (freePku w dirty s) = vital s := by
  grind [freePku, vital, vital_settlePku, vital_stampRelease, vital_updPku]

theorem vital_clearEngine (h : Bool) (w : Nat) (s : State) : vital (clearEngine h w s) = vital s := by
  grind [clearEngine, vital, vital_settleEngine, vital_stampRelease, vital_updEngine]

theorem vital_stampGrant (cls : Nat) (cell : Nat) (s : State) : vital (stampGrant cls cell s) = vital s := by
  grind [stampGrant, vital, vital_updDesc]

theorem vital_changeSeed (w : Nat) (s : State) : vital (changeSeed w s) = vital s := by
  unfold changeSeed; simp only [vital_mk, vital_foldl, apply_ite vital, ite_self, implies_true, vital_updEngine, vital_shedClaims, vital_countEvent]

theorem vital_countBlocks (w : Nat) (n : Nat) (s : State) : vital (countBlocks w n s) = vital s := by
  unfold countBlocks; simp only [vital_mk, vital_foldl, apply_ite vital, ite_self, implies_true, vital_updEngine, vital_changeSeed]

theorem vital_countFunction (cell : Nat) (d : Desc) (s : State) : vital (countFunction cell d s) = vital s := by
  unfold countFunction; simp only [vital_mk, vital_foldl, apply_ite vital, ite_self, implies_true, vital_countBlocks]

/-! ### DocentCmd -/

theorem vital_strayResponse (s : State) : vital (strayResponse s).2 = vital s := by
  unfold strayResponse; simp only [vital_mk, vital_foldl, apply_ite vital, ite_self, implies_true, vital_freeNumber, vital_freeBytes]

theorem vital_stagedResponse (secondary : Bool) (d : Desc) (s : State) : vital (stagedResponse secondary d s).2 = vital s := by
  grind [stagedResponse, vital, vital_strayResponse]

theorem vital_writeTick (value : Sys2Proof.W64) (s : State) : vital (writeTick value s) = vital s := by
  unfold writeTick; simp only [vital_mk, vital_foldl, apply_ite vital, ite_self, implies_true, vital_configWrite]

theorem vital_clearHist (s : State) : vital (clearHist s) = vital s := by
  unfold clearHist; simp only [vital_mk, vital_foldl, apply_ite vital, ite_self, implies_true, vital_configWrite]

theorem vital_execResponseRelease (flow : Fin 65536) (s : State) : ∀ t, execResponseRelease flow s = .next t → vital t = vital s := by
  unfold execResponseRelease; rintro t ⟨rfl⟩; simp only [vital_mk, vital_foldl, apply_ite vital, ite_self, implies_true, vital_offerWork, vital_releaseAll]

theorem vital_parkDesc (c : Nat) (t : Nat) (wait : Nat) (object : Nat) (s : State) : vital (parkDesc c t wait object s) = vital s := by
  unfold parkDesc; try dsimp only
  repeat' split
  all_goals first | rfl | (simp only [vital_mk, vital_foldl, apply_ite vital, ite_self, implies_true, vital_updDesc, vital_nextOrder, vital_freeCell]; done) | grind [vital, vital_updDesc, vital_nextOrder, vital_freeCell]

theorem vital_execResponsePublish (fn : Fin 1025) (stream : Fin 16) (s : State) : ∀ t, execResponsePublish fn stream s = .next t → vital t = vital s := by
  unfold execResponsePublish; rintro t ⟨rfl⟩; simp only [vital_mk, vital_foldl, apply_ite vital, ite_self, implies_true, vital_publishNext]

theorem vital_beginSwitch (m : ModeChange) (s : State) : vital (beginSwitch m s) = vital s := by
  rfl

theorem vital_fireDeadline (t : Nat) (s : State) : vital (fireDeadline t s) = vital s := by
  grind [fireDeadline, vital, vital_updDesc, vital_endCommand]

theorem vital_execDeadline (ticket : Fin 65536) (s : State) : ∀ t, execDeadline ticket s = .next t → vital t = vital s := by
  grind [execDeadline, vital, vital_offerWork, vital_fireDeadline, vital_advanceTo]

theorem vital_completeUnbind (fn : Nat) (s : State) : vital (completeUnbind fn s) = vital s := by
  grind [completeUnbind, vital, vital_dropWindow, vital_updDesc, vital_mirrorChanges]

theorem vital_execUnbindComplete (fn : Fin 1025) (s : State) : ∀ t, execUnbindComplete fn s = .next t → vital t = vital s := by
  grind [execUnbindComplete, vital, vital_completeUnbind]

theorem vital_fireGap (fi : Nat) (s : State) : vital (fireGap fi s) = vital s := by
  unfold fireGap; try dsimp only
  repeat' split
  all_goals first | rfl | (simp only [vital_mk, vital_foldl, apply_ite vital, ite_self, implies_true, vital_enterHeld, vital_placeDesc, vital_placeGap, vital_updFlow]; done) | grind [vital, vital_enterHeld, vital_placeDesc, vital_placeGap, vital_updFlow] | (refine (vital_foldl _ (fun s x => ?_) _ _).trans ?_ <;> (first | rfl | exact vital_enterHeld .. | exact vital_placeDesc .. | exact vital_placeGap .. | exact vital_updFlow .. | (simp only [vital_mk, vital_foldl, apply_ite vital, ite_self, implies_true, vital_enterHeld, vital_placeDesc, vital_placeGap, vital_updFlow]; done) | grind [vital, vital_enterHeld, vital_placeDesc, vital_placeGap, vital_updFlow])) | (rw [vital_enterHeld]; refine (vital_foldl _ (fun s x => ?_) _ _).trans ?_ <;> (first | rfl | exact vital_enterHeld .. | exact vital_placeDesc .. | exact vital_placeGap .. | exact vital_updFlow .. | (simp only [vital_mk, vital_foldl, apply_ite vital, ite_self, implies_true, vital_enterHeld, vital_placeDesc, vital_placeGap, vital_updFlow]; done) | grind [vital, vital_enterHeld, vital_placeDesc, vital_placeGap, vital_updFlow]))

theorem vital_settlePark (t : Nat) (wait : Nat) (object : Nat) (s : State) : vital (settlePark t wait object s) = vital s := by
  unfold settlePark; simp only [vital_mk, vital_foldl, apply_ite vital, ite_self, implies_true, vital_endCommand, vital_signalPark]

theorem vital_execGapTimeOut (flow : Fin 65536) (s : State) : ∀ t, execGapTimeOut flow s = .next t → vital t = vital s := by
  grind [execGapTimeOut, vital, vital_offerWork, vital_fireGap, vital_advanceTo]

theorem vital_execDocDonePark (cell : Fin 128) (ticket : Fin 65536) (wait : Fin 8) (object : Fin 65536) (s : State) : ∀ t, execDocDonePark cell ticket wait object s = .next t → vital t = vital s := by
  grind [execDocDonePark, vital, vital_ignoredDone, vital_offerWork, vital_settlePark, vital_parkDesc]

theorem vital_execTakeTimeout (cell : Fin 128) (s : State) : ∀ t, execTakeTimeout cell s = .next t → vital t = vital s := by
  grind [execTakeTimeout, vital, vital_settleCell, vital_advanceTo, vital_updCell]

theorem vital_tickRefill (s : State) : vital (tickRefill s) = vital s := by
  rfl

theorem vital_execTokenRefill (s : State) : ∀ t, execTokenRefill s = .next t → vital t = vital s := by
  grind [execTokenRefill, vital, vital_tickRefill, vital_advanceTo]

theorem vital_execHistClear (s : State) : ∀ t, execHistClear s = .next t → vital t = vital s := by
  unfold execHistClear; rintro t ⟨rfl⟩; simp only [vital_mk, vital_foldl, apply_ite vital, ite_self, implies_true, vital_clearHist]

theorem vital_execUnbindDrainTimeOut (fn : Fin 1025) (s : State) : ∀ t, execUnbindDrainTimeOut fn s = .next t → vital t = vital s := by
  grind [execUnbindDrainTimeOut, vital, vital_completeUnbind, vital_advanceTo]

theorem vital_abandonOp (g : Nat) (op : Nat) (s : State) : vital (abandonOp g op s) = vital s := by
  unfold abandonOp; simp only [vital_mk, vital_foldl, apply_ite vital, ite_self, implies_true, vital_updGal]

theorem vital_execOperationIdleTimeOut (gallery : Nat) (opId : Nat) (s : State) : ∀ t, execOperationIdleTimeOut gallery opId s = .next t → vital t = vital s := by
  grind [execOperationIdleTimeOut, vital, vital_abandonOp, vital_advanceTo]

theorem vital_execTickUsWrite (value : Sys2Proof.W64) (s : State) : ∀ t, execTickUsWrite value s = .next t → vital t = vital s := by
  unfold execTickUsWrite; rintro t ⟨rfl⟩; simp only [vital_mk, vital_foldl, apply_ite vital, ite_self, implies_true, vital_writeTick]

theorem vital_applyQuota (q : QuotaChange) (s : State) : vital (applyQuota q s) = vital s := by
  unfold applyQuota; simp only [vital_mk, vital_foldl, apply_ite vital, ite_self, implies_true, vital_updGal]

theorem vital_tickChanges (s : State) : vital (tickChanges s) = vital s := by
  unfold tickChanges; try dsimp only
  repeat' split
  all_goals first | rfl | (simp only [vital_mk, vital_foldl, apply_ite vital, ite_self, implies_true, vital_applyQuota, vital_beginSwitch]; done) | grind [vital, vital_applyQuota, vital_beginSwitch]

theorem vital_execModeAndQuotaChanges (s : State) : ∀ t, execModeAndQuotaChanges s = .next t → vital t = vital s := by
  unfold execModeAndQuotaChanges; rintro t ⟨rfl⟩; simp only [vital_mk, vital_foldl, apply_ite vital, ite_self, implies_true, vital_tickChanges, vital_advanceTo]

theorem vital_execDocTake (cell : Fin 128) (s : State) : ∀ t, execDocTake cell s = .next t → vital t = vital s := by
  grind [execDocTake, vital, vital_settleCell, vital_offerWork]

theorem vital_execParkSignal (wait : Fin 8) (object : Fin 65536) (s : State) : ∀ t, execParkSignal wait object s = .next t → vital t = vital s := by
  unfold execParkSignal; rintro t ⟨rfl⟩; simp only [vital_mk, vital_foldl, apply_ite vital, ite_self, implies_true, vital_offerWork, vital_signalPark]

theorem vital_tickClose (period : Nat) (s : State) : vital (tickClose period s) = vital s := by
  rfl

theorem vital_execTickBoundary (s : State) : ∀ t, execTickBoundary s = .next t → vital t = vital s := by
  unfold execTickBoundary; rintro t ⟨rfl⟩; simp only [vital_mk, vital_foldl, apply_ite vital, ite_self, implies_true, vital_advanceTo, vital_tickChanges, vital_tickRefill, vital_fireGap, vital_fireDeadline, vital_abandonOp, vital_completeUnbind, vital_offerWork, vital_tickClose]

/-! ### Run -/

theorem vital_reseedInst (n : Nat) (s : State) : vital (reseedInst n s) = vital s := by
  grind [reseedInst, vital]

theorem vital_unqueueDraw (n : Nat) (s : State) : vital (unqueueDraw n s) = vital s := by
  rfl

theorem vital_reseedFirst (n : Nat) (s : State) : vital (reseedFirst n s) = vital s := by
  grind [reseedFirst, vital, vital_reseedInst, vital_unqueueDraw]

theorem vital_queueDraw (n : Nat) (reseed : Bool) (s : State) : vital (queueDraw n reseed s) = vital s := by
  unfold queueDraw; simp only [vital_mk, vital_foldl, apply_ite vital, ite_self, implies_true]

theorem vital_starve (n : Nat) (len : Nat) (s : State) : vital (starve n len s).2 = vital s := by
  unfold starve; simp only [vital_mk, vital_foldl, apply_ite vital, ite_self, implies_true, vital_queueDraw]

theorem vital_drawBytes (n : Nat) (len : Nat) (s : State) : vital (drawBytes n len s).2 = vital s := by
  grind [drawBytes, vital, vital_reseedFirst, vital_starve, vital_queueDraw]

theorem vital_drawFree (n : Nat) (len : Nat) (s : State) : vital (drawFree n len s).2 = vital s := by
  grind [drawFree, vital, vital_drawBytes, vital_freeBytes]

theorem vital_plain (r : Resp) (s : State) : vital (plain r s).2.2 = vital s := by
  rfl

theorem vital_instantiate (n : Nat) (s : State) : vital (instantiate n s) = vital s := by
  rfl

theorem vital_unlessStarved (before after : State) (h : vital after = vital before) : vital (unlessStarved before after) = vital before := by
  unfold unlessStarved
  split
  · simp only [vital, Vital.mk.injEq] at h ⊢
    simp only [h, and_self]
  · exact h

theorem vital_runPrimary (c : Ctx) (check : Ctx → State → Option Resp) (act : Ctx → State → State) (s : State) (h_act : ∀ x0 x1, vital (act x0 x1) = vital x1) :
    vital (runPrimary c check act s) = vital s := by
  unfold runPrimary
  repeat' split
  all_goals first
    | rfl
    | exact h_act _ _
    | exact vital_unlessStarved _ _ (h_act _ _)
    | simp only [vital_answerFn, vital_queueDraw, vital_offerWork, vital_avoidEngine]
theorem ok_runPrimary {b p f} (c : Ctx) (check : Ctx → State → Option Resp) (act : Ctx → State → State) (s : State)
    (h_act : ∀ c s, OkV b p f (vital s) → OkV b p f (vital (act c s))) (h_draw : drawsNow c.d = false) (h : OkV b p f (vital s)) :
    OkV b p f (vital (runPrimary c check act s)) := by
  unfold runPrimary
  simp only [h_draw]
  repeat' split
  all_goals first
    | exact h
    | exact h_act _ _ h
    | (simp only [vital_answerFn, vital_offerWork, vital_avoidEngine]; exact h)
    | contradiction

theorem vital_runSecondary (c : Ctx) (check : Ctx → State → Option Resp) (act : Ctx → State → State) (s : State) (h_act : ∀ x0 x1, vital (act x0 x1) = vital x1) : vital (runSecondary c check act s) = vital s := by
  unfold runSecondary; simp only [vital_mk, vital_foldl, apply_ite vital, ite_self, implies_true, vital_updDesc, vital_runPrimary]

theorem vital_runCmd (cell code : Nat) (check : Ctx → State → Option Resp) (act : Ctx → State → State) (s : State)
    (h_act : ∀ x0 x1, vital (act x0 x1) = vital x1) : vital (runCmd cell code check act s) = vital s := by
  unfold runCmd
  split
  · rfl
  · split
    · exact vital_runSecondary _ _ _ _ h_act
    · exact vital_runPrimary _ _ _ _ h_act
theorem heldCommand_function {cell code : Nat} {s : State} {c : Ctx} (h : heldCommand cell code s = some c) : c.d.function = code := by
  unfold heldCommand at h
  repeat' split at h
  all_goals first
    | (cases h; done)
    | (rename_i hc; obtain rfl := Option.some.inj h; exact hc.1)

theorem ok_runCmd {b p f} (cell code : Nat) (check : Ctx → State → Option Resp) (act : Ctx → State → State) (s : State)
    (h_act : ∀ c s, OkV b p f (vital s) → OkV b p f (vital (act c s))) (h_draw : ∀ d : Desc, d.function = code → drawsNow d = false)
    (h : OkV b p f (vital s)) : OkV b p f (vital (runCmd cell code check act s)) := by
  unfold runCmd
  split
  · exact h
  · rename_i c hc
    split
    · unfold runSecondary
      split
      · rw [vital_updDesc]; exact h
      · rw [vital_updDesc]; exact h
    · exact ok_runPrimary _ _ _ _ h_act (h_draw _ (heldCommand_function hc)) h

theorem vital_stepSlots (g : Nat) (a1 : List Nat) (a2 : State) : ∀ t, stepSlots g a1 a2 = some t → vital t.2 = vital a2 := by
  induction a1 generalizing a2 with
  | nil => intro t h; cases h; rfl
  | cons x l ih =>
    intro t h
    unfold stepSlots at h
    split at h
    · cases h
    · rename_i ch s1 h1
      obtain ⟨r, hr, rfl⟩ := Option.map_eq_some_iff.1 h
      exact (ih _ _ hr).trans (vital_stepBudget _ _ _ _ h1)

theorem vital_applyFn (c : Ctx) (run : Ctx → State → FnResult) (s : State) (h_run : ∀ x0 x1, vital (run x0 x1).2.2 = vital x1) : vital (applyFn c run s) = vital s := by
  unfold applyFn
  dsimp only
  split
  · exact vital_answerFn ..
  · rename_i steps s1 h1
    rw [vital_answerFn, h_run, vital_updDesc]
    exact vital_stepSlots _ _ _ _ h1

theorem vital_runFn (cell : Nat) (code : Nat) (check : Ctx → State → Option Resp) (run : Ctx → State → FnResult) (s : State) (h_run : ∀ x0 x1, vital (run x0 x1).2.2 = vital x1) : vital (runFn cell code check run s) = vital s := by
  grind [runFn, vital, vital_runCmd, vital_applyFn]

theorem vital_nextNonce (s : State) : vital (nextNonce s).2 = vital s := by
  rfl

theorem vital_drawNonce (s : State) : vital (drawNonce s).2 = vital s := by
  unfold drawNonce; simp only [vital_mk, vital_foldl, apply_ite vital, ite_self, implies_true, vital_nextNonce]

end Sys2Proof.Machine
end

