-- ==== Sys2Proof/Laws/VitalFunctions.lean ====
section
/-! SUPPORT. For each operation of the cryptographic and gallery functions: it leaves the vital fields of the state as they are (`vital_f`), or it keeps the invariants
on them (`ok_f`). -/

open Sys2Proof

set_option linter.unusedSimpArgs false

namespace Sys2Proof.Machine

/-! ### PinOps -/

theorem vital_runPinCalc (c : Ctx) (s : State) : vital (runPinCalc c s).2.2 = vital s := by
  grind [runPinCalc, vital, vital_plain]

theorem vital_quotaRefused (g : Nat) (s : State) : vital (quotaRefused g s).2.2 = vital s := by
  unfold quotaRefused; simp only [vital_mk, vital_foldl, apply_ite vital, ite_self, implies_true, vital_latchGallery]

theorem vital_runCvvGenerate (c : Ctx) (s : State) : vital (runCvvGenerate c s).2.2 = vital s := by
  unfold runCvvGenerate; simp only [vital_mk, vital_foldl, apply_ite vital, ite_self, implies_true, vital_plain]

theorem vital_drawPin (inst : Nat) (n : Nat) (avoid : Bool) (a3 : Nat) (a4 : State) : vital (drawPin inst n avoid a3 a4).2 = vital a4 := by
  fun_induction drawPin inst n avoid a3 a4 <;> grind [vital, vital_drawBytes]

theorem vital_runPinTranslate (c : Ctx) (s : State) : vital (runPinTranslate c s).2.2 = vital s := by
  grind [runPinTranslate, vital, vital_plain]

theorem vital_execPinTranslate (cell : Fin 128) (s : State) : ∀ t, execPinTranslate cell s = .next t → vital t = vital s := by
  unfold execPinTranslate; rintro t ⟨rfl⟩; simp only [vital_mk, vital_foldl, apply_ite vital, ite_self, implies_true, vital_runFn, vital_runPinTranslate]

theorem vital_runCvvVerify (c : Ctx) (s : State) : vital (runCvvVerify c s).2.2 = vital s := by
  unfold runCvvVerify; simp only [vital_mk, vital_foldl, apply_ite vital, ite_self, implies_true, vital_plain]

theorem vital_execCvvGenerate (cell : Fin 128) (s : State) : ∀ t, execCvvGenerate cell s = .next t → vital t = vital s := by
  unfold execCvvGenerate; rintro t ⟨rfl⟩; simp only [vital_mk, vital_foldl, apply_ite vital, ite_self, implies_true, vital_runFn, vital_runCvvGenerate]

theorem vital_runPinTrySet (c : Ctx) (s : State) : vital (runPinTrySet c s).2.2 = vital s := by
  grind [runPinTrySet, vital, vital_plain, vital_putRecordAt, vital_quotaRefused]

theorem vital_runPinVerify (c : Ctx) (s : State) : vital (runPinVerify c s).2.2 = vital s := by
  grind [runPinVerify, vital, vital_plain, vital_putRecordAt]

theorem vital_execPinVerify (cell : Fin 128) (s : State) : ∀ t, execPinVerify cell s = .next t → vital t = vital s := by
  unfold execPinVerify; rintro t ⟨rfl⟩; simp only [vital_mk, vital_foldl, apply_ite vital, ite_self, implies_true, vital_runFn, vital_runPinVerify]

theorem vital_execPinTrySet (cell : Fin 128) (s : State) : ∀ t, execPinTrySet cell s = .next t → vital t = vital s := by
  unfold execPinTrySet; rintro t ⟨rfl⟩; simp only [vital_mk, vital_foldl, apply_ite vital, ite_self, implies_true, vital_runFn, vital_runPinTrySet]

theorem vital_execCvvVerify (cell : Fin 128) (s : State) : ∀ t, execCvvVerify cell s = .next t → vital t = vital s := by
  unfold execCvvVerify; rintro t ⟨rfl⟩; simp only [vital_mk, vital_foldl, apply_ite vital, ite_self, implies_true, vital_runFn, vital_runCvvVerify]

theorem vital_runPinGenerate (c : Ctx) (s : State) : vital (runPinGenerate c s).2.2 = vital s := by
  unfold runPinGenerate; try dsimp only
  repeat' split
  all_goals first | rfl | (simp only [vital_mk, vital_foldl, apply_ite vital, ite_self, implies_true, vital_drawPin, vital_drawBytes, vital_plain]; done) | grind [vital, vital_drawPin, vital_drawBytes, vital_plain] | (refine (vital_foldl _ (fun s x => ?_) _ _).trans ?_ <;> (first | rfl | exact vital_drawPin .. | exact vital_drawBytes .. | exact vital_plain .. | (simp only [vital_mk, vital_foldl, apply_ite vital, ite_self, implies_true, vital_drawPin, vital_drawBytes, vital_plain]; done) | grind [vital, vital_drawPin, vital_drawBytes, vital_plain])) | (rw [vital_drawPin]; refine (vital_foldl _ (fun s x => ?_) _ _).trans ?_ <;> (first | rfl | exact vital_drawPin .. | exact vital_drawBytes .. | exact vital_plain .. | (simp only [vital_mk, vital_foldl, apply_ite vital, ite_self, implies_true, vital_drawPin, vital_drawBytes, vital_plain]; done) | grind [vital, vital_drawPin, vital_drawBytes, vital_plain]))

theorem vital_execPinGenerate (cell : Fin 128) (s : State) : ∀ t, execPinGenerate cell s = .next t → vital t = vital s := by
  unfold execPinGenerate; rintro t ⟨rfl⟩; simp only [vital_mk, vital_foldl, apply_ite vital, ite_self, implies_true, vital_runFn, vital_runPinGenerate]

theorem vital_execPinCalc (cell : Fin 128) (s : State) : ∀ t, execPinCalc cell s = .next t → vital t = vital s := by
  unfold execPinCalc; rintro t ⟨rfl⟩; simp only [vital_mk, vital_foldl, apply_ite vital, ite_self, implies_true, vital_runFn, vital_runPinCalc]

/-! ### EmvOps -/

theorem vital_runArqcVerify (c : Ctx) (s : State) : vital (runArqcVerify c s).2.2 = vital s := by
  grind [runArqcVerify, vital, vital_plain]

theorem vital_execArqcVerify (cell : Fin 128) (s : State) : ∀ t, execArqcVerify cell s = .next t → vital t = vital s := by
  unfold execArqcVerify; rintro t ⟨rfl⟩; simp only [vital_mk, vital_foldl, apply_ite vital, ite_self, implies_true, vital_runFn, vital_runArqcVerify]

theorem vital_runScriptMac (c : Ctx) (s : State) : vital (runScriptMac c s).2.2 = vital s := by
  unfold runScriptMac; simp only [vital_mk, vital_foldl, apply_ite vital, ite_self, implies_true, vital_plain]

theorem vital_execScriptMac (cell : Fin 128) (s : State) : ∀ t, execScriptMac cell s = .next t → vital t = vital s := by
  unfold execScriptMac; rintro t ⟨rfl⟩; simp only [vital_mk, vital_foldl, apply_ite vital, ite_self, implies_true, vital_runFn, vital_runScriptMac]

theorem vital_runScriptEncrypt (c : Ctx) (s : State) : vital (runScriptEncrypt c s).2.2 = vital s := by
  grind [runScriptEncrypt, vital, vital_plain]

theorem vital_execScriptEncrypt (cell : Fin 128) (s : State) : ∀ t, execScriptEncrypt cell s = .next t → vital t = vital s := by
  unfold execScriptEncrypt; rintro t ⟨rfl⟩; simp only [vital_mk, vital_foldl, apply_ite vital, ite_self, implies_true, vital_runFn, vital_runScriptEncrypt]

/-! ### DukptOps -/

theorem vital_runOriginate (c : Ctx) (s : State) : vital (runOriginate c s).2.2 = vital s := by
  grind [runOriginate, vital, vital_plain, vital_putRecordAt]

theorem vital_drawPad (c : Ctx) (kalg : Nat) (n : Nat) (s : State) : vital (drawPad c kalg n s).2 = vital s := by
  grind [drawPad, vital, vital_drawBytes]

theorem vital_cacheInitial (c : Ctx) (n : Ksn) (s : State) : vital (cacheInitial c n s) = vital s := by
  unfold cacheInitial; simp only [vital_mk, vital_foldl, apply_ite vital, ite_self, implies_true, vital_holdKey]

theorem vital_runDukptMac (c : Ctx) (s : State) : vital (runDukptMac c s).2.2 = vital s := by
  unfold runDukptMac; simp only [vital_mk, vital_foldl, apply_ite vital, ite_self, implies_true, vital_cacheInitial, vital_plain]

theorem vital_execDukptMacVerify (cell : Fin 128) (s : State) : ∀ t, execDukptMacVerify cell s = .next t → vital t = vital s := by
  unfold execDukptMacVerify; rintro t ⟨rfl⟩; simp only [vital_mk, vital_foldl, apply_ite vital, ite_self, implies_true, vital_runFn, vital_runDukptMac]

theorem vital_runDukptDecrypt (c : Ctx) (s : State) : vital (runDukptDecrypt c s).2.2 = vital s := by
  unfold runDukptDecrypt; simp only [vital_mk, vital_foldl, apply_ite vital, ite_self, implies_true, vital_cacheInitial, vital_plain]

theorem vital_execDukptDecrypt (cell : Fin 128) (s : State) : ∀ t, execDukptDecrypt cell s = .next t → vital t = vital s := by
  unfold execDukptDecrypt; rintro t ⟨rfl⟩; simp only [vital_mk, vital_foldl, apply_ite vital, ite_self, implies_true, vital_runFn, vital_runDukptDecrypt]

theorem vital_execDukptOriginate (cell : Fin 128) (s : State) : ∀ t, execDukptOriginate cell s = .next t → vital t = vital s := by
  unfold execDukptOriginate; rintro t ⟨rfl⟩; simp only [vital_mk, vital_foldl, apply_ite vital, ite_self, implies_true, vital_runFn, vital_runOriginate]

theorem vital_runDukptPin (c : Ctx) (s : State) : vital (runDukptPin c s).2.2 = vital s := by
  grind [runDukptPin, vital, vital_cacheInitial, vital_plain]

theorem vital_execDukptPinTranslate (cell : Fin 128) (s : State) : ∀ t, execDukptPinTranslate cell s = .next t → vital t = vital s := by
  unfold execDukptPinTranslate; rintro t ⟨rfl⟩; simp only [vital_mk, vital_foldl, apply_ite vital, ite_self, implies_true, vital_runFn, vital_runDukptPin]

theorem vital_runInitialExport (c : Ctx) (s : State) : vital (runInitialExport c s).2.2 = vital s := by
  unfold runInitialExport; simp only [vital_mk, vital_foldl, apply_ite vital, ite_self, implies_true, vital_cacheInitial, vital_drawPad, vital_plain]

theorem vital_execDukptInitialKeyExport (cell : Fin 128) (s : State) : ∀ t, execDukptInitialKeyExport cell s = .next t → vital t = vital s := by
  unfold execDukptInitialKeyExport; rintro t ⟨rfl⟩; simp only [vital_mk, vital_foldl, apply_ite vital, ite_self, implies_true, vital_runFn, vital_runInitialExport]

/-! ### DataOps -/

theorem vital_runExport (c : Ctx) (s : State) : vital (runExport c s).2.2 = vital s := by
  unfold runExport; simp only [vital_mk, vital_foldl, apply_ite vital, ite_self, implies_true, vital_drawPad, vital_plain]

theorem vital_execKeyblockExport (cell : Fin 128) (s : State) : ∀ t, execKeyblockExport cell s = .next t → vital t = vital s := by
  unfold execKeyblockExport; rintro t ⟨rfl⟩; simp only [vital_mk, vital_foldl, apply_ite vital, ite_self, implies_true, vital_runFn, vital_runExport]

theorem vital_runDataEncrypt (c : Ctx) (s : State) : vital (runDataEncrypt c s).2.2 = vital s := by
  grind [runDataEncrypt, vital, vital_drawBytes, vital_plain]

theorem vital_runMacGenerate (c : Ctx) (s : State) : vital (runMacGenerate c s).2.2 = vital s := by
  unfold runMacGenerate; simp only [vital_mk, vital_foldl, apply_ite vital, ite_self, implies_true, vital_plain]

theorem vital_execMacGenerate (cell : Fin 128) (s : State) : ∀ t, execMacGenerate cell s = .next t → vital t = vital s := by
  unfold execMacGenerate; rintro t ⟨rfl⟩; simp only [vital_mk, vital_foldl, apply_ite vital, ite_self, implies_true, vital_runFn, vital_runMacGenerate]

theorem vital_runMacVerify (c : Ctx) (s : State) : vital (runMacVerify c s).2.2 = vital s := by
  unfold runMacVerify; simp only [vital_mk, vital_foldl, apply_ite vital, ite_self, implies_true, vital_plain]

theorem vital_execMacVerify (cell : Fin 128) (s : State) : ∀ t, execMacVerify cell s = .next t → vital t = vital s := by
  unfold execMacVerify; rintro t ⟨rfl⟩; simp only [vital_mk, vital_foldl, apply_ite vital, ite_self, implies_true, vital_runFn, vital_runMacVerify]

theorem vital_runImport (c : Ctx) (s : State) : vital (runImport c s).2.2 = vital s := by
  grind [runImport, vital, vital_plain]

theorem vital_runFf1Decrypt (c : Ctx) (s : State) : vital (runFf1Decrypt c s).2.2 = vital s := by
  unfold runFf1Decrypt; simp only [vital_mk, vital_foldl, apply_ite vital, ite_self, implies_true, vital_plain]

theorem vital_execKeyblockImport (cell : Fin 128) (s : State) : ∀ t, execKeyblockImport cell s = .next t → vital t = vital s := by
  unfold execKeyblockImport; rintro t ⟨rfl⟩; simp only [vital_mk, vital_foldl, apply_ite vital, ite_self, implies_true, vital_runFn, vital_runImport]

theorem vital_execDataEncrypt (cell : Fin 128) (s : State) : ∀ t, execDataEncrypt cell s = .next t → vital t = vital s := by
  unfold execDataEncrypt; rintro t ⟨rfl⟩; simp only [vital_mk, vital_foldl, apply_ite vital, ite_self, implies_true, vital_runFn, vital_runDataEncrypt]

theorem vital_runDataDecrypt (c : Ctx) (s : State) : vital (runDataDecrypt c s).2.2 = vital s := by
  unfold runDataDecrypt; simp only [vital_mk, vital_foldl, apply_ite vital, ite_self, implies_true, vital_plain]

theorem vital_execDataDecrypt (cell : Fin 128) (s : State) : ∀ t, execDataDecrypt cell s = .next t → vital t = vital s := by
  unfold execDataDecrypt; rintro t ⟨rfl⟩; simp only [vital_mk, vital_foldl, apply_ite vital, ite_self, implies_true, vital_runFn, vital_runDataDecrypt]

theorem vital_runFf1Encrypt (c : Ctx) (s : State) : vital (runFf1Encrypt c s).2.2 = vital s := by
  unfold runFf1Encrypt; simp only [vital_mk, vital_foldl, apply_ite vital, ite_self, implies_true, vital_plain]

theorem vital_execFf1Encrypt (cell : Fin 128) (s : State) : ∀ t, execFf1Encrypt cell s = .next t → vital t = vital s := by
  unfold execFf1Encrypt; rintro t ⟨rfl⟩; simp only [vital_mk, vital_foldl, apply_ite vital, ite_self, implies_true, vital_runFn, vital_runFf1Encrypt]

theorem vital_execFf1Decrypt (cell : Fin 128) (s : State) : ∀ t, execFf1Decrypt cell s = .next t → vital t = vital s := by
  unfold execFf1Decrypt; rintro t ⟨rfl⟩; simp only [vital_mk, vital_foldl, apply_ite vital, ite_self, implies_true, vital_runFn, vital_runFf1Decrypt]

/-! ### CipherOps -/

theorem vital_runAeadSeal (c : Ctx) (s : State) : vital (runAeadSeal c s).2.2 = vital s := by
  grind [runAeadSeal, vital, vital_drawNonce]

theorem vital_execAeadSeal (cell : Fin 128) (s : State) : ∀ t, execAeadSeal cell s = .next t → vital t = vital s := by
  unfold execAeadSeal; rintro t ⟨rfl⟩; simp only [vital_mk, vital_foldl, apply_ite vital, ite_self, implies_true, vital_runFn, vital_runAeadSeal]

theorem vital_runCipher (decrypt : Bool) (c : Ctx) (s : State) : vital (runCipher decrypt c s).2.2 = vital s := by
  unfold runCipher; simp only [vital_mk, vital_foldl, apply_ite vital, ite_self, implies_true, vital_plain]

theorem vital_execCipherDecrypt (cell : Fin 128) (s : State) : ∀ t, execCipherDecrypt cell s = .next t → vital t = vital s := by
  unfold execCipherDecrypt; rintro t ⟨rfl⟩; simp only [vital_mk, vital_foldl, apply_ite vital, ite_self, implies_true, vital_runFn, vital_runCipher]

theorem vital_runHmacGenerate (c : Ctx) (s : State) : vital (runHmacGenerate c s).2.2 = vital s := by
  unfold runHmacGenerate; simp only [vital_mk, vital_foldl, apply_ite vital, ite_self, implies_true, vital_plain]

theorem vital_execHmacGenerate (cell : Fin 128) (s : State) : ∀ t, execHmacGenerate cell s = .next t → vital t = vital s := by
  unfold execHmacGenerate; rintro t ⟨rfl⟩; simp only [vital_mk, vital_foldl, apply_ite vital, ite_self, implies_true, vital_runFn, vital_runHmacGenerate]

theorem vital_runHmacVerify (c : Ctx) (s : State) : vital (runHmacVerify c s).2.2 = vital s := by
  unfold runHmacVerify; simp only [vital_mk, vital_foldl, apply_ite vital, ite_self, implies_true, vital_plain]

theorem vital_execHmacVerify (cell : Fin 128) (s : State) : ∀ t, execHmacVerify cell s = .next t → vital t = vital s := by
  unfold execHmacVerify; rintro t ⟨rfl⟩; simp only [vital_mk, vital_foldl, apply_ite vital, ite_self, implies_true, vital_runFn, vital_runHmacVerify]

theorem vital_runHash (c : Ctx) (s : State) : vital (runHash c s).2.2 = vital s := by
  unfold runHash; simp only [vital_mk, vital_foldl, apply_ite vital, ite_self, implies_true, vital_plain]

theorem vital_execHash (cell : Fin 128) (s : State) : ∀ t, execHash cell s = .next t → vital t = vital s := by
  unfold execHash; rintro t ⟨rfl⟩; simp only [vital_mk, vital_foldl, apply_ite vital, ite_self, implies_true, vital_runFn, vital_runHash]

theorem vital_outputDrawn (c : Ctx) (w : HeldKey) (kb : Sys2Proof.Bytes) (extra : Sys2Proof.Bytes) (s : State) : vital (outputDrawn c w kb extra s).2 = vital s := by
  unfold outputDrawn; simp only [vital_mk, vital_foldl, apply_ite vital, ite_self, implies_true, vital_drawPad]

theorem vital_runKdf (c : Ctx) (s : State) : vital (runKdf c s).2.2 = vital s := by
  unfold runKdf; simp only [vital_mk, vital_foldl, apply_ite vital, ite_self, implies_true, vital_plain]

theorem vital_execCipherEncrypt (cell : Fin 128) (s : State) : ∀ t, execCipherEncrypt cell s = .next t → vital t = vital s := by
  unfold execCipherEncrypt; rintro t ⟨rfl⟩; simp only [vital_mk, vital_foldl, apply_ite vital, ite_self, implies_true, vital_runFn, vital_runCipher]

theorem vital_runAeadOpen (c : Ctx) (s : State) : vital (runAeadOpen c s).2.2 = vital s := by
  grind [runAeadOpen, vital, vital_plain]

theorem vital_execAeadOpen (cell : Fin 128) (s : State) : ∀ t, execAeadOpen cell s = .next t → vital t = vital s := by
  unfold execAeadOpen; rintro t ⟨rfl⟩; simp only [vital_mk, vital_foldl, apply_ite vital, ite_self, implies_true, vital_runFn, vital_runAeadOpen]

theorem vital_execKdf (cell : Fin 128) (s : State) : ∀ t, execKdf cell s = .next t → vital t = vital s := by
  unfold execKdf; rintro t ⟨rfl⟩; simp only [vital_mk, vital_foldl, apply_ite vital, ite_self, implies_true, vital_runFn, vital_runKdf]

/-! ### PkKeys -/

theorem vital_drawScalar (n : Nat) (d : Domain) (s : State) : vital (drawScalar n d s).2 = vital s := by
  unfold drawScalar; simp only [vital_mk, vital_foldl, apply_ite vital, ite_self, implies_true, vital_drawBytes]

theorem vital_drawnRounds (inst : Nat) (p : Nat) (a2 : Nat) (a3 : State) : vital (drawnRounds inst p a2 a3).2 = vital a3 := by
  fun_induction drawnRounds inst p a2 a3 <;> grind [vital, vital_drawBytes]

theorem vital_probablePrime (inst : Nat) (p : Nat) (rounds : Nat) (s : State) : vital (probablePrime inst p rounds s).2 = vital s := by
  grind [probablePrime, vital, vital_drawnRounds]

theorem vital_useDomain (g : Nat) (slot : Nat) (fieldBits : Nat) (s : State) : vital (useDomain g slot fieldBits s) = vital s := by
  rfl

theorem vital_useKeyDomain (g : Nat) (kt : Nat) (s : State) : vital (useKeyDomain g kt s) = vital s := by
  grind [useKeyDomain, vital, vital_useDomain]

theorem vital_drawLong (n : Nat) (len : Nat) (s : State) : vital (drawLong n len s).2 = vital s := by
  unfold drawLong
  generalize List.range (ceilDiv len 4096) = l
  suffices h : ∀ a : Bytes × State, vital (l.foldl (fun (a : Bytes × State) i => let (b, s) := drawBytes n (min 4096 (len - 4096 * i)) a.2; (a.1 ++ b, s)) a).2 = vital a.2 from h _
  induction l with
  | nil => intro a; rfl
  | cons x t ih => intro a; rw [List.foldl_cons, ih]; exact vital_drawBytes ..

/-! ### SignOps -/

theorem vital_runRsaSign (c : Ctx) (s : State) : vital (runRsaSign c s).2.2 = vital s := by
  grind [runRsaSign, vital, vital_drawBytes, vital_plain]

theorem vital_execRsaSign (cell : Fin 128) (s : State) : ∀ t, execRsaSign cell s = .next t → vital t = vital s := by
  unfold execRsaSign; rintro t ⟨rfl⟩; simp only [vital_mk, vital_foldl, apply_ite vital, ite_self, implies_true, vital_runFn, vital_runRsaSign]

theorem vital_runVerify (c : Ctx) (s : State) : vital (runVerify c s).2.2 = vital s := by
  unfold runVerify; simp only [vital_mk, vital_foldl, apply_ite vital, ite_self, implies_true, vital_useKeyDomain, vital_plain]

theorem vital_execEddsaVerify (cell : Fin 128) (s : State) : ∀ t, execEddsaVerify cell s = .next t → vital t = vital s := by
  unfold execEddsaVerify; rintro t ⟨rfl⟩; simp only [vital_mk, vital_foldl, apply_ite vital, ite_self, implies_true, vital_runFn, vital_runVerify]

theorem vital_drawnEcdsa (c : Ctx) (d : Domain) (x : Nat) (digest : Sys2Proof.Bytes) (a4 : Nat) (a5 : State) : vital (drawnEcdsa c d x digest a4 a5).2 = vital a5 := by
  fun_induction drawnEcdsa c d x digest a4 a5 <;> grind [vital, vital_drawScalar]

theorem vital_runEcdsaSign (c : Ctx) (s : State) : vital (runEcdsaSign c s).2.2 = vital s := by
  grind [runEcdsaSign, vital, vital_useKeyDomain, vital_plain, vital_drawnEcdsa]

theorem vital_execEcdsaSign (cell : Fin 128) (s : State) : ∀ t, execEcdsaSign cell s = .next t → vital t = vital s := by
  unfold execEcdsaSign; rintro t ⟨rfl⟩; simp only [vital_mk, vital_foldl, apply_ite vital, ite_self, implies_true, vital_runFn, vital_runEcdsaSign]

theorem vital_execRsaVerify (cell : Fin 128) (s : State) : ∀ t, execRsaVerify cell s = .next t → vital t = vital s := by
  unfold execRsaVerify; rintro t ⟨rfl⟩; simp only [vital_mk, vital_foldl, apply_ite vital, ite_self, implies_true, vital_runFn, vital_runVerify]

theorem vital_runEddsaSign (c : Ctx) (s : State) : vital (runEddsaSign c s).2.2 = vital s := by
  unfold runEddsaSign; simp only [vital_mk, vital_foldl, apply_ite vital, ite_self, implies_true, vital_plain]

theorem vital_execEddsaSign (cell : Fin 128) (s : State) : ∀ t, execEddsaSign cell s = .next t → vital t = vital s := by
  unfold execEddsaSign; rintro t ⟨rfl⟩; simp only [vital_mk, vital_foldl, apply_ite vital, ite_self, implies_true, vital_runFn, vital_runEddsaSign]

theorem vital_runMldsaSign (c : Ctx) (s : State) : vital (runMldsaSign c s).2.2 = vital s := by
  grind [runMldsaSign, vital, vital_drawBytes, vital_plain]

theorem vital_execMldsaSign (cell : Fin 128) (s : State) : ∀ t, execMldsaSign cell s = .next t → vital t = vital s := by
  unfold execMldsaSign; rintro t ⟨rfl⟩; simp only [vital_mk, vital_foldl, apply_ite vital, ite_self, implies_true, vital_runFn, vital_runMldsaSign]

theorem vital_execEcdsaVerify (cell : Fin 128) (s : State) : ∀ t, execEcdsaVerify cell s = .next t → vital t = vital s := by
  unfold execEcdsaVerify; rintro t ⟨rfl⟩; simp only [vital_mk, vital_foldl, apply_ite vital, ite_self, implies_true, vital_runFn, vital_runVerify]

theorem vital_execMldsaVerify (cell : Fin 128) (s : State) : ∀ t, execMldsaVerify cell s = .next t → vital t = vital s := by
  unfold execMldsaVerify; rintro t ⟨rfl⟩; simp only [vital_mk, vital_foldl, apply_ite vital, ite_self, implies_true, vital_runFn, vital_runVerify]

/-! ### AgreeOps -/

theorem vital_transportOf (c : Ctx) (s : State) : vital (transportOf c s).2 = vital s := by
  grind [transportOf, vital, vital_drawBytes, vital_drawScalar]

theorem vital_runCurveQuery (c : Ctx) (s : State) : vital (runCurveQuery c s).2.2 = vital s := by
  unfold runCurveQuery; simp only [vital_mk, vital_foldl, apply_ite vital, ite_self, implies_true, vital_plain]

theorem vital_execCurveQuery (cell : Fin 128) (s : State) : ∀ t, execCurveQuery cell s = .next t → vital t = vital s := by
  unfold execCurveQuery; rintro t ⟨rfl⟩; simp only [vital_mk, vital_foldl, apply_ite vital, ite_self, implies_true, vital_runFn, vital_runCurveQuery]

theorem vital_runRandom (c : Ctx) (s : State) : vital (runRandom c s).2.2 = vital s := by
  unfold runRandom; simp only [vital_mk, vital_foldl, apply_ite vital, ite_self, implies_true, vital_drawBytes, vital_plain]

theorem vital_execRandomBytes (cell : Fin 128) (s : State) : ∀ t, execRandomBytes cell s = .next t → vital t = vital s := by
  unfold execRandomBytes; rintro t ⟨rfl⟩; simp only [vital_mk, vital_foldl, apply_ite vital, ite_self, implies_true, vital_runFn, vital_runRandom]

theorem vital_runEcdh (c : Ctx) (s : State) : vital (runEcdh c s).2.2 = vital s := by
  grind [runEcdh, vital, vital_useKeyDomain, vital_plain]

theorem vital_runOaep (c : Ctx) (s : State) : vital (runOaep c s).2.2 = vital s := by
  grind [runOaep, vital, vital_plain]

theorem vital_execRsaOaepDecrypt (cell : Fin 128) (s : State) : ∀ t, execRsaOaepDecrypt cell s = .next t → vital t = vital s := by
  unfold execRsaOaepDecrypt; rintro t ⟨rfl⟩; simp only [vital_mk, vital_foldl, apply_ite vital, ite_self, implies_true, vital_runFn, vital_runOaep]

theorem vital_runEphemeral (c : Ctx) (s : State) : vital (runEphemeral c s).2.2 = vital s := by
  grind [runEphemeral, vital, vital_drawScalar, vital_useKeyDomain, vital_outputDrawn, vital_plain]

theorem vital_execEcdhEphemeral (cell : Fin 128) (s : State) : ∀ t, execEcdhEphemeral cell s = .next t → vital t = vital s := by
  unfold execEcdhEphemeral; rintro t ⟨rfl⟩; simp only [vital_mk, vital_foldl, apply_ite vital, ite_self, implies_true, vital_runFn, vital_runEphemeral]

theorem vital_runRkl (c : Ctx) (s : State) : vital (runRkl c s).2.2 = vital s := by
  grind [runRkl, vital, vital_useKeyDomain, vital_plain, vital_cacheInitial, vital_transportOf, vital_drawPad, vital_drawnEcdsa]

theorem vital_runDecaps (c : Ctx) (s : State) : vital (runDecaps c s).2.2 = vital s := by
  unfold runDecaps; simp only [vital_mk, vital_foldl, apply_ite vital, ite_self, implies_true, vital_plain]

theorem vital_execMlkemDecaps (cell : Fin 128) (s : State) : ∀ t, execMlkemDecaps cell s = .next t → vital t = vital s := by
  unfold execMlkemDecaps; rintro t ⟨rfl⟩; simp only [vital_mk, vital_foldl, apply_ite vital, ite_self, implies_true, vital_runFn, vital_runDecaps]

theorem vital_runEncaps (c : Ctx) (s : State) : vital (runEncaps c s).2.2 = vital s := by
  unfold runEncaps; simp only [vital_mk, vital_foldl, apply_ite vital, ite_self, implies_true, vital_drawBytes, vital_outputDrawn, vital_plain]

theorem vital_execMlkemEncaps (cell : Fin 128) (s : State) : ∀ t, execMlkemEncaps cell s = .next t → vital t = vital s := by
  unfold execMlkemEncaps; rintro t ⟨rfl⟩; simp only [vital_mk, vital_foldl, apply_ite vital, ite_self, implies_true, vital_runFn, vital_runEncaps]

theorem vital_execRklExport (cell : Fin 128) (s : State) : ∀ t, execRklExport cell s = .next t → vital t = vital s := by
  unfold execRklExport; rintro t ⟨rfl⟩; simp only [vital_mk, vital_foldl, apply_ite vital, ite_self, implies_true, vital_runFn, vital_runRkl]

theorem vital_execEcdh (cell : Fin 128) (s : State) : ∀ t, execEcdh cell s = .next t → vital t = vital s := by
  unfold execEcdh; rintro t ⟨rfl⟩; simp only [vital_mk, vital_foldl, apply_ite vital, ite_self, implies_true, vital_runFn, vital_runEcdh]

theorem vital_curveChecks (inst : Nat) (fieldBits : Nat) (h : Nat) (c : Curve) (s : State) : vital (curveChecks inst fieldBits h c s).2 = vital s := by
  grind [curveChecks, vital, vital_probablePrime]

theorem vital_runCurveLoad (c : Ctx) (s : State) : vital (runCurveLoad c s).2.2 = vital s := by
  grind [runCurveLoad, vital, vital_quotaRefused, vital_curveChecks, vital_putRecordAt, vital_useDomain]

theorem vital_execCurveLoad (cell : Fin 128) (s : State) : ∀ t, execCurveLoad cell s = .next t → vital t = vital s := by
  unfold execCurveLoad; rintro t ⟨rfl⟩; simp only [vital_mk, vital_foldl, apply_ite vital, ite_self, implies_true, vital_runFn, vital_runCurveLoad]

/-! ### KeyOps -/

theorem vital_runKeyQuery (c : Ctx) (s : State) : vital (runKeyQuery c s).2.2 = vital s := by
  unfold runKeyQuery
  generalize leAt c.f 32 3 = k
  generalize recordAt c.gal k = r
  cases r <;> rfl

theorem vital_setAccession (g : Nat) (n : Nat) (s : State) : vital (setAccession g n s).2 = vital s := by
  unfold setAccession; simp only [vital_mk, vital_foldl, apply_ite vital, ite_self, implies_true, vital_updGal]

theorem vital_writeAccession (g : Nat) (counter : Nat) (slot : Nat) (r : VRecord) (s : State) : vital (writeAccession g counter slot r s).2 = vital s := by
  grind [writeAccession, vital, vital_replaceRecord, vital_discardRecord, vital_setAccession, vital_placeFence]

theorem vital_drawPrime (inst : Nat) (len : Nat) (a2 : Nat) (a3 : State) : vital (drawPrime inst len a2 a3).2 = vital a3 := by
  fun_induction drawPrime inst len a2 a3 <;> grind [vital, vital_drawBytes, vital_probablePrime]

theorem vital_drawRsa (inst : Nat) (kt : Nat) (s : State) : vital (drawRsa inst kt s).2 = vital s := by
  grind [drawRsa, vital, vital_drawPrime]

theorem vital_drawPrivate (inst : Nat) (g : Gallery) (kt : Nat) (s : State) : vital (drawPrivate inst g kt s).2 = vital s := by
  grind [drawPrivate, vital, vital_drawScalar, vital_drawBytes, vital_drawRsa]

theorem vital_payloadMaterial (inst : Nat) (x : Gallery) (m : AccMsg) (s : State) : vital (payloadMaterial inst x m s).2 = vital s := by
  grind [payloadMaterial, vital, vital_drawPrivate, vital_drawBytes]

theorem vital_useMessageDomain (g : Nat) (m : AccMsg) (s : State) : vital (useMessageDomain g m s) = vital s := by
  unfold useMessageDomain; simp only [vital_mk, vital_foldl, apply_ite vital, ite_self, implies_true, vital_useKeyDomain]

theorem vital_stepParent (g : Nat) (m : AccMsg) (x : Gallery) (s : State) : vital (stepParent g m x s).2 = vital s := by
  unfold stepParent
  dsimp only
  split
  · split
    · rename_i h; exact vital_stepBudget _ _ _ _ h
    · rfl
  · rfl

theorem vital_acceptKey (c : Ctx) (m : AccMsg) (x : Gallery) (s : State) : vital (acceptKey c m x s).2.2 = vital s := by
  unfold acceptKey; try dsimp only
  repeat' split
  all_goals first | rfl | (simp only [vital_mk, vital_foldl, apply_ite vital, ite_self, implies_true, vital_plain, vital_quotaRefused, vital_writeAccession, vital_payloadMaterial, vital_useMessageDomain, vital_stepParent]; done) | grind [vital, vital_plain, vital_quotaRefused, vital_writeAccession, vital_payloadMaterial, vital_useMessageDomain, vital_stepParent] | (refine (vital_foldl _ (fun s x => ?_) _ _).trans ?_ <;> (first | rfl | exact vital_plain .. | exact vital_quotaRefused .. | exact vital_writeAccession .. | exact vital_payloadMaterial .. | exact vital_useMessageDomain .. | exact vital_stepParent .. | (simp only [vital_mk, vital_foldl, apply_ite vital, ite_self, implies_true, vital_plain, vital_quotaRefused, vital_writeAccession, vital_payloadMaterial, vital_useMessageDomain, vital_stepParent]; done) | grind [vital, vital_plain, vital_quotaRefused, vital_writeAccession, vital_payloadMaterial, vital_useMessageDomain, vital_stepParent])) | (rw [vital_plain]; refine (vital_foldl _ (fun s x => ?_) _ _).trans ?_ <;> (first | rfl | exact vital_plain .. | exact vital_quotaRefused .. | exact vital_writeAccession .. | exact vital_payloadMaterial .. | exact vital_useMessageDomain .. | exact vital_stepParent .. | (simp only [vital_mk, vital_foldl, apply_ite vital, ite_self, implies_true, vital_plain, vital_quotaRefused, vital_writeAccession, vital_payloadMaterial, vital_useMessageDomain, vital_stepParent]; done) | grind [vital, vital_plain, vital_quotaRefused, vital_writeAccession, vital_payloadMaterial, vital_useMessageDomain, vital_stepParent]))

theorem vital_runAccession (c : Ctx) (s : State) : vital (runAccession c s).2.2 = vital s := by
  grind [runAccession, vital, vital_plain, vital_acceptKey]

theorem vital_execAccession (cell : Fin 128) (s : State) : ∀ t, execAccession cell s = .next t → vital t = vital s := by
  unfold execAccession; rintro t ⟨rfl⟩; simp only [vital_mk, vital_foldl, apply_ite vital, ite_self, implies_true, vital_runFn, vital_runAccession]

theorem vital_endLoad (c : Ctx) (s : State) : vital (endLoad c s) = vital s := by
  unfold endLoad; simp only [vital_mk, vital_foldl, apply_ite vital, ite_self, implies_true, vital_dropLoad]

theorem vital_copyToCurator (s : State) : vital (copyToCurator s) = vital s := by
  rfl

theorem vital_acceptCustodians (m : AccMsg) (s : State) : vital (acceptCustodians m s).2.2 = vital s := by
  grind [acceptCustodians, vital, vital_plain, vital_setAccession, vital_touchVitrine, vital_placeFence, vital_copyToCurator]

theorem vital_acceptComponent (c : Ctx) (m : AccMsg) (x : Gallery) (k : Nat) (s : State) : vital (acceptComponent c m x k s).2.2 = vital s := by
  unfold acceptComponent; try dsimp only
  repeat' split
  all_goals first | rfl | (simp only [vital_mk, vital_foldl, apply_ite vital, ite_self, implies_true, vital_plain, vital_writeAccession]; done) | grind [vital, vital_plain, vital_writeAccession] | (refine (vital_foldl _ (fun s x => ?_) _ _).trans ?_ <;> (first | rfl | exact vital_plain .. | exact vital_writeAccession .. | (simp only [vital_mk, vital_foldl, apply_ite vital, ite_self, implies_true, vital_plain, vital_writeAccession]; done) | grind [vital, vital_plain, vital_writeAccession])) | (rw [vital_plain]; refine (vital_foldl _ (fun s x => ?_) _ _).trans ?_ <;> (first | rfl | exact vital_plain .. | exact vital_writeAccession .. | (simp only [vital_mk, vital_foldl, apply_ite vital, ite_self, implies_true, vital_plain, vital_writeAccession]; done) | grind [vital, vital_plain, vital_writeAccession]))

theorem vital_runCeremony (c : Ctx) (s : State) : vital (runCeremony c s).2.2 = vital s := by
  grind [runCeremony, vital, vital_plain, vital_endLoad, vital_acceptKey, vital_copyToCurator, vital_quotaRefused, vital_acceptComponent, vital_acceptCustodians]

theorem vital_dropDomain (g : Nat) (slot : Nat) (s : State) : vital (dropDomain g slot s) = vital s := by
  rfl

theorem vital_runDeaccession (c : Ctx) (s : State) : vital (runDeaccession c s).2.2 = vital s := by
  grind [runDeaccession, vital, vital_plain, vital_replaceRecord, vital_discardRecord, vital_dropDomain, vital_placeFence]

theorem vital_runAccessionInfo (c : Ctx) (s : State) : vital (runAccessionInfo c s).2.2 = vital s := by
  unfold runAccessionInfo; simp only [vital_mk, vital_foldl, apply_ite vital, ite_self, implies_true, vital_plain]

theorem vital_execAccessionInfo (cell : Fin 128) (s : State) : ∀ t, execAccessionInfo cell s = .next t → vital t = vital s := by
  unfold execAccessionInfo; rintro t ⟨rfl⟩; simp only [vital_mk, vital_foldl, apply_ite vital, ite_self, implies_true, vital_runFn, vital_runAccessionInfo]

theorem vital_execDeaccession (cell : Fin 128) (s : State) : ∀ t, execDeaccession cell s = .next t → vital t = vital s := by
  unfold execDeaccession; rintro t ⟨rfl⟩; simp only [vital_mk, vital_foldl, apply_ite vital, ite_self, implies_true, vital_runFn, vital_runDeaccession]

theorem vital_execKeyQuery (cell : Fin 128) (s : State) : ∀ t, execKeyQuery cell s = .next t → vital t = vital s := by
  unfold execKeyQuery; rintro t ⟨rfl⟩; simp only [vital_mk, vital_foldl, apply_ite vital, ite_self, implies_true, vital_runFn, vital_runKeyQuery]

theorem vital_execCeremonyAccession (cell : Fin 128) (s : State) : ∀ t, execCeremonyAccession cell s = .next t → vital t = vital s := by
  unfold execCeremonyAccession; rintro t ⟨rfl⟩; simp only [vital_mk, vital_foldl, apply_ite vital, ite_self, implies_true, vital_runFn, vital_runCeremony]

/-! ### GalleryOps -/

theorem vital_createGallery (c : Ctx) (s : State) : vital (createGallery c s).2.2 = vital s := by
  grind [createGallery, vital, vital_drawBytes, vital_touchVitrine]

theorem vital_execGalleryCreate (cell : Fin 128) (s : State) : ∀ t, execGalleryCreate cell s = .next t → vital t = vital s := by
  unfold execGalleryCreate; rintro t ⟨rfl⟩; simp only [vital_mk, vital_foldl, apply_ite vital, ite_self, implies_true, vital_runFn, vital_createGallery]

theorem vital_setGallery (c : Ctx) (s : State) : vital (setGallery c s).2.2 = vital s := by
  grind [setGallery, vital, vital_placeFence, vital_touchVitrine, vital_putDescriptor, vital_latchGallery]

theorem vital_execGallerySet (cell : Fin 128) (s : State) : ∀ t, execGallerySet cell s = .next t → vital t = vital s := by
  unfold execGallerySet; rintro t ⟨rfl⟩; simp only [vital_mk, vital_foldl, apply_ite vital, ite_self, implies_true, vital_runFn, vital_setGallery]

theorem vital_bindGallery (far : Option Descriptor) (c : Ctx) (s : State) : vital (bindGallery far c s).2.2 = vital s := by
  unfold bindGallery; simp only [vital_mk, vital_foldl, apply_ite vital, ite_self, implies_true, vital_bindFar]

theorem vital_beginUnbind (c : Ctx) (s : State) : vital (beginUnbind c s) = vital s := by
  unfold beginUnbind; simp only [vital_mk, vital_foldl, apply_ite vital, ite_self, implies_true, vital_refreshWindow, vital_nextOrder, vital_updWin]

theorem vital_execGalleryBind (call : BindCell) (s : State) : ∀ t, execGalleryBind call s = .next t → vital t = vital s := by
  unfold execGalleryBind; rintro t ⟨rfl⟩; simp only [vital_mk, vital_foldl, apply_ite vital, ite_self, implies_true, vital_runFn, vital_bindGallery]

theorem vital_removeGallery (c : Ctx) (s : State) : vital (removeGallery c s).2.2 = vital s := by
  unfold removeGallery; simp only [vital_mk, vital_foldl, apply_ite vital, ite_self, implies_true, vital_placeFence, vital_dropGallery, vital_finalMeter]

theorem vital_changeRights (c : Ctx) (s : State) : vital (changeRights c s).2.2 = vital s := by
  grind [changeRights, vital, vital_putRights, vital_placeFence, vital_touchVitrine]

theorem vital_queryGallery (c : Ctx) (s : State) : vital (queryGallery c s).2.2 = vital s := by
  unfold queryGallery; simp only [vital_mk, vital_foldl, apply_ite vital, ite_self, implies_true, vital_plain]

theorem vital_execGalleryQuery (cell : Fin 128) (s : State) : ∀ t, execGalleryQuery cell s = .next t → vital t = vital s := by
  unfold execGalleryQuery; rintro t ⟨rfl⟩; simp only [vital_mk, vital_foldl, apply_ite vital, ite_self, implies_true, vital_runFn, vital_queryGallery]

theorem vital_execGalleryUnbind (cell : Fin 128) (s : State) : ∀ t, execGalleryUnbind cell s = .next t → vital t = vital s := by
  unfold execGalleryUnbind; rintro t ⟨rfl⟩; simp only [vital_mk, vital_foldl, apply_ite vital, ite_self, implies_true, vital_runCmd, vital_beginUnbind]

theorem vital_execGalleryRemove (call : RemoveCell) (s : State) : ∀ t, execGalleryRemove call s = .next t → vital t = vital s := by
  unfold execGalleryRemove; rintro t ⟨rfl⟩; simp only [vital_mk, vital_foldl, apply_ite vital, ite_self, implies_true, vital_runFn, vital_removeGallery]

theorem vital_execGalleryRights (cell : Fin 128) (s : State) : ∀ t, execGalleryRights cell s = .next t → vital t = vital s := by
  unfold execGalleryRights; rintro t ⟨rfl⟩; simp only [vital_mk, vital_foldl, apply_ite vital, ite_self, implies_true, vital_runFn, vital_changeRights]

theorem vital_readMeter (c : Ctx) (s : State) : vital (readMeter c s).2.2 = vital s := by
  unfold readMeter; simp only [vital_mk, vital_foldl, apply_ite vital, ite_self, implies_true, vital_plain]

theorem vital_execMeterRead (cell : Fin 128) (s : State) : ∀ t, execMeterRead cell s = .next t → vital t = vital s := by
  unfold execMeterRead; rintro t ⟨rfl⟩; simp only [vital_mk, vital_foldl, apply_ite vital, ite_self, implies_true, vital_runFn, vital_readMeter]

theorem vital_ackMeter (c : Ctx) (s : State) : vital (ackMeter c s).2.2 = vital s := by
  unfold ackMeter; simp only [vital_mk, vital_foldl, apply_ite vital, ite_self, implies_true, vital_ackRecords]

theorem vital_execMeterAck (cell : Fin 128) (s : State) : ∀ t, execMeterAck cell s = .next t → vital t = vital s := by
  unfold execMeterAck; rintro t ⟨rfl⟩; simp only [vital_mk, vital_foldl, apply_ite vital, ite_self, implies_true, vital_runFn, vital_ackMeter]

end Sys2Proof.Machine
end

