-- ==== Sys2Proof/Laws/VitalModule.lean ====
section
/-! SUPPORT. For each operation of error handling, links, tamper response, life cycle and START: it leaves the vital fields of the state as they are (`vital_f`), or it keeps the invariants
on them (`ok_f`). -/

open Sys2Proof

set_option linter.unusedSimpArgs false

namespace Sys2Proof.Machine

/-! ### ImageOps -/

theorem vital_applySettings (x : Settings) (s : State) : vital (applySettings x s) = vital s := by
  rfl

theorem vital_loadDefaults (s : State) : vital (loadDefaults s) = vital s := by
  unfold loadDefaults; simp only [vital_mk, vital_foldl, apply_ite vital, ite_self, implies_true, vital_applySettings]

theorem vital_loadCandidate (n : Nat) (i : UlondImage) (x : Settings) (s : State) : vital (loadCandidate n i x s) = vital s := by
  unfold loadCandidate; simp only [vital_mk, vital_foldl, apply_ite vital, ite_self, implies_true, vital_applySettings]

theorem vital_selectImage (s : State) : vital (selectImage s).2 = vital s := by
  grind [selectImage, vital, vital_loadDefaults, vital_logRecord, vital_loadCandidate]

/-! ### Roles -/

theorem vital_discardUnreleased (s : State) : vital (discardUnreleased s) = vital s := by
  unfold discardUnreleased; simp only [vital_mk, vital_foldl, apply_ite vital, ite_self, implies_true, vital_freeCopies, vital_dropHolds]

theorem vital_dropUnpublished (s : State) : vital (dropUnpublished s) = vital s := by
  unfold dropUnpublished; simp only [vital_mk, vital_foldl, apply_ite vital, ite_self, implies_true, vital_freeDesc]

theorem vital_withdrawAtOnce (s : State) : vital (withdrawAtOnce s) = vital s := by
  unfold withdrawAtOnce; simp only [vital_mk, vital_foldl, apply_ite vital, ite_self, implies_true, vital_sendPartner, vital_setRole]

theorem vital_eraseKeys (s : State) : vital (eraseKeys s) = vital s := by
  rfl

theorem vital_eraseLine (byFatal : Bool) (s : State) : vital (eraseLine byFatal s) = { vital s with root := none } := by
  have h := vital_eraseKeys s
  simp only [vital, Vital.mk.injEq] at h
  simp [vital, eraseLine, clearBbram, h]
theorem ok_eraseLine {b p f} (byFatal : Bool) (s : State) (h : OkV b p f (vital s)) : OkV b p f (vital (eraseLine byFatal s)) := by
  rw [vital_eraseLine]
  exact ⟨h.pending, h.fuses, fun hb hr => ⟨rfl, (h.latch hb hr).2⟩, h.mems⟩

theorem vital_stopStaging (s : State) : vital (stopStaging s) = vital s := by
  rfl

theorem vital_destroyLoad (s : State) : vital (destroyLoad s) = vital s := by
  unfold destroyLoad; simp only [vital_mk, vital_foldl, apply_ite vital, ite_self, implies_true, vital_dropLoad]

theorem vital_closeCeremony (s : State) : vital (closeCeremony s) = vital s := by
  unfold closeCeremony
  split
  · rfl
  · dsimp only
    rw [vital_latchEvent, vital_destroyLoad]
    exact vital_withMode _ _ (fun _ => ⟨rfl, rfl, rfl⟩)

theorem vital_beginWithdraw (s : State) : vital (beginWithdraw s) = vital s := by
  unfold beginWithdraw; simp only [vital_mk, vital_foldl, apply_ite vital, ite_self, implies_true]

theorem vital_endWithdraw (s : State) : vital (endWithdraw s) = vital s := by
  unfold endWithdraw; simp only [vital_mk, vital_foldl, apply_ite vital, ite_self, implies_true, vital_sendPartner, vital_dropUnpublished, vital_discardUnreleased, vital_setRole]

/-! ### Handlers -/

theorem vital_endAllOps (s : State) : vital (endAllOps s) = vital s := by
  rfl

theorem vital_logModule (scope : Nat) (codes : List Nat) (affected : List (StreamId × Nat)) (steps : List (StreamId × Nat × Nat)) (s : State) : vital (logModule scope codes affected steps s) = vital s := by
  unfold logModule; simp only [vital_mk, vital_foldl, apply_ite vital, ite_self, implies_true, vital_logData]

theorem ok_startOff {b p f} (s : State) (h : OkV b p f (vital s)) : OkV b p f (vital { s with pow := { s.pow with starting := false } }) :=
  ⟨h.pending, h.fuses, fun hb hr => ⟨(h.latch hb hr).1, nofun⟩, h.mems⟩
theorem ok_fatalError {b p f} (code : Nat) (s : State) (h : OkV b p f (vital s)) : OkV b p f (vital (fatalError code s)) := by
  unfold fatalError
  split
  · exact h
  · extract_lets sec codes affected steps s1 s2 s3 e1 s4 p1 s5 s6 s7
    have h1 : OkV b p f (vital s1) := by
      show OkV b p f (vital (if paired s then dropUnpublished (withdrawAtOnce s) else s))
      split
      · rw [vital_dropUnpublished, vital_withdrawAtOnce]; exact h
      · exact h
    clear_value s1
    have h2 : OkV b p f (vital s2) := by
      show OkV b p f (vital (if sec then eraseLine true s1 else s1))
      split
      · exact ok_eraseLine _ _ h1
      · exact h1
    clear_value s2
    have h3 : OkV b p f (vital s3) := by
      show OkV b p f (vital (endAllOps (stopStaging (closeCeremony s2))))
      rw [vital_endAllOps, vital_stopStaging, vital_closeCeremony]; exact h2
    clear_value s3
    have h6 : OkV b p f (vital s6) := by
      show OkV b p f (vital (setMode .halt s5))
      rw [vital_setMode]; exact ok_startOff s4 h3
    clear_value s6
    rw [vital_logModule, vital_latchEvent]
    show OkV b p f (vital (if paired s6 then (unreleased s6).foldl (fun s p => freeDesc p.1 (freeCopies p.1 p.2 s)) s6 else publishAll (replaceAll false Status.halted s6)))
    split
    · rw [vital_foldl _ (fun s p => by rw [vital_freeDesc, vital_freeCopies])]; exact h6
    · rw [vital_publishAll, vital_replaceAll]; exact h6
theorem fatalError_stops (code : Nat) (s : State) : vital (fatalError code s) = vital s ∨ (fatalError code s).pow.starting = false := by
  unfold fatalError
  split
  · exact .inl rfl
  · extract_lets sec codes affected steps s1 s2 s3 e1 s4 p1 s5 s6 s7
    right
    have h6 : (vital s6).starting = false := by
      show (vital (setMode .halt s5)).starting = false
      rw [vital_setMode]; rfl
    clear_value s6
    refine (congrArg Vital.starting (vital_logModule ..)).trans ((congrArg Vital.starting (vital_latchEvent ..)).trans ?_)
    show (vital (if paired s6 then (unreleased s6).foldl (fun s p => freeDesc p.1 (freeCopies p.1 p.2 s)) s6 else publishAll (replaceAll false Status.halted s6))).starting = false
    split
    · rw [vital_foldl _ (fun s p => by rw [vital_freeDesc, vital_freeCopies])]; exact h6
    · rw [vital_publishAll, vital_replaceAll]; exact h6

theorem vital_setDuty (s : State) : vital (setDuty s) = vital s := by
  rfl

theorem vital_updWingErr (w : Nat) (f : WingErr → WingErr) (s : State) : vital (updWingErr w f s) = vital s := by
  rfl

theorem vital_retireWing (w : Nat) (s : State) : vital (retireWing w s) = vital s := by
  unfold retireWing; simp only [vital_mk, vital_foldl, apply_ite vital, ite_self, implies_true, vital_setDuty, vital_updWingErr, vital_updWing, vital_settleWingCells]

theorem vital_moduleError (code : Nat) (s : State) : vital (moduleError code s) = vital s := by
  unfold moduleError; simp only [vital_mk, vital_foldl, apply_ite vital, ite_self, implies_true, vital_latchEvent, vital_raiseHolds, vital_lowerHolds, vital_logModule, vital_beginWithdraw]

theorem vital_denyAssurance (s : State) : vital (denyAssurance s) = vital s := by
  grind [denyAssurance, vital, vital_answerFn]

theorem vital_dirtyPku (w : Nat) (s : State) : vital (dirtyPku w s) = vital s := by
  unfold dirtyPku; simp only [vital_mk, vital_foldl, apply_ite vital, ite_self, implies_true, vital_updPku, vital_freePku]

theorem vital_clearHeld (h : Bool) (w : Nat) (s : State) : vital (clearHeld h w s) = vital s := by
  unfold clearHeld; simp only [vital_mk, vital_foldl, apply_ite vital, ite_self, implies_true, vital_updEngine, vital_clearEngine]

theorem vital_takeBack (w t : Nat) (s : State) : vital (takeBack w t s) = vital s := by
  unfold takeBack
  split
  · rfl
  · dsimp only
    split
    · rw [vital_updDesc, vital_freeCopies]
    · rw [vital_reoffer, vital_freeCopies]

theorem vital_logHandler (code : Nat) (scope : Nat) (unit : Nat) (affected : List (StreamId × Nat)) (s : State) : vital (logHandler code scope unit affected s) = vital s := by
  unfold logHandler; simp only [vital_mk, vital_foldl, apply_ite vital, ite_self, implies_true, vital_logData]

theorem vital_quarantineWing (code : Nat) (w : Nat) (s : State) : vital (quarantineWing code w s) = vital s := by
  unfold quarantineWing
  extract_lets e times ts held s1 s2 d1 p1 s3 s4 affected s5 s6
  have h2 : vital s2 = vital s := by
    show vital (updWing w _ (dirtyPku w (clearHeld true w (clearHeld false w (raiseHolds held (settleWingCells w s)))))) = vital s
    rw [vital_updWing, vital_dirtyPku, vital_clearHeld, vital_clearHeld, vital_raiseHolds, vital_settleWingCells]
  clear_value s2
  have h3 : vital s3 = vital s := h2
  clear_value s3
  have h6 : vital s6 = vital s := by
    show vital (logHandler code 2 w affected (latchEvent (4 + w) (lowerHolds held (ts.foldl (fun s t => takeBack w t s) s4)))) = vital s
    exact (vital_logHandler ..).trans ((vital_latchEvent ..).trans ((vital_lowerHolds ..).trans
      ((vital_foldl (fun s t => takeBack w t s) (fun s t => vital_takeBack w t s) _ _).trans ((vital_updWingErr ..).trans h3))))
  clear_value s6
  rw [vital_offerWork]
  split
  · rw [vital_retireWing]; exact h6
  · rw [vital_setDuty]; exact h6

theorem vital_wingError (code : Nat) (w : Nat) (s : State) : vital (wingError code w s) = vital s := by
  unfold wingError; simp only [vital_mk, vital_foldl, apply_ite vital, ite_self, implies_true, vital_retireWing, vital_moduleError, vital_denyAssurance, vital_updWingErr, vital_quarantineWing]

theorem vital_faultAtOnce (t : Nat) (s : State) : vital (faultAtOnce t s) = vital s := by
  unfold faultAtOnce; try dsimp only
  repeat' split
  all_goals first | rfl | (simp only [vital_mk, vital_foldl, apply_ite vital, ite_self, implies_true, vital_endCommand]; done) | grind [vital, vital_endCommand]

theorem vital_journalFault (t : Nat) (s : State) : vital (journalFault t s) = vital s := by
  grind [journalFault, vital, vital_faultAtOnce, vital_updGal, vital_updDesc]

theorem vital_rebuildResponse (t : Nat) (s : State) : vital (rebuildResponse t s) = vital s := by
  grind [rebuildResponse, vital, vital_updDesc]

theorem vital_recoverCommand (code : Nat) (t : Nat) (u : Nat) (s : State) : vital (recoverCommand code t u s) = vital s := by
  grind [recoverCommand, vital, vital_journalFault, vital_rebuildResponse, vital_faultAtOnce, vital_updDesc, vital_discardWhere, vital_failCommand]

theorem vital_handleCommand (code : Nat) (t : Nat) (u : Nat) (s : State) : vital (handleCommand code t u s) = vital s := by
  unfold handleCommand; simp only [vital_mk, vital_foldl, apply_ite vital, ite_self, implies_true, vital_offerWork, vital_lowerHolds, vital_recoverCommand, vital_raiseHolds, vital_logHandler]

theorem vital_commandError (code : Nat) (t : Nat) (u : Nat) (s : State) : vital (commandError code t u s) = vital s := by
  unfold commandError; simp only [vital_mk, vital_foldl, apply_ite vital, ite_self, implies_true, vital_moduleError, vital_updWingErr, vital_countEvent, vital_retireWing, vital_wingError, vital_raiseHolds, vital_handleCommand]

theorem vital_handleQueued (q : List QueuedError) (s : State) : vital (handleQueued q s) = vital s := by
  unfold handleQueued; simp only [vital_mk, vital_foldl, apply_ite vital, ite_self, implies_true, vital_wingError, vital_handleCommand]

theorem vital_execWithdrawSend (s : State) : ∀ t, execWithdrawSend s = .next t → vital t = vital s := by
  unfold execWithdrawSend
  intro t ht
  split at ht
  · cases ht; rfl
  · rename_i t0 _
    extract_lets u a c q at ht
    have hv : vital u = vital s := by
      show vital (if _ then s else advanceTo (t0 + 20000) s) = vital s
      split
      · rfl
      · exact vital_advanceTo ..
    clear_value u
    split at ht
    · rw [← Host.Outcome.next.inj ht, vital_handleQueued, vital_logModule, vital_endWithdraw]; exact hv
    · rw [← Host.Outcome.next.inj ht, vital_endWithdraw]; exact hv

theorem vital_completeCommand (t : Nat) (s : State) : vital (completeCommand t s) = vital s := by
  grind [completeCommand, vital, vital_finish, vital_commandError]

theorem vital_execEccCorrected (wing : Fin 16) (s : State) : ∀ t, execEccCorrected wing s = .next t → vital t = vital s := by
  unfold execEccCorrected; rintro t ⟨rfl⟩; simp only [vital_mk, vital_foldl, apply_ite vital, ite_self, implies_true, vital_countEvent]

theorem vital_execDocDoneRetry (cell : Fin 128) (ticket : Fin 65536) (s : State) : ∀ t, execDocDoneRetry cell ticket s = .next t → vital t = vital s := by
  grind [execDocDoneRetry, vital, vital_ignoredDone, vital_commandError]

theorem vital_execDocDoneComplete (cell : Fin 128) (ticket : Fin 65536) (s : State) : ∀ t, execDocDoneComplete cell ticket s = .next t → vital t = vital s := by
  grind [execDocDoneComplete, vital, vital_ignoredDone, vital_freeCell, vital_stagedResponse, vital_countFunction, vital_updDesc, vital_offerWork, vital_completeCommand]

theorem ok_containedHalt {b p f} (s : State) (h : OkV b p f (vital s)) : OkV b p f (vital (containedHalt s)) := by
  unfold containedHalt
  extract_lets steps affected codes queued s1 e1 p1 s2 s3 s4
  rw [vital_handleQueued, vital_logModule]
  show OkV b p f (vital (publishAll (replaceAll true Status.halted s3)))
  rw [vital_publishAll, vital_replaceAll]
  show OkV b p f (vital (setMode .halt s2))
  rw [vital_setMode]
  have h1 : OkV b p f (vital s1) := by
    show OkV b p f (vital (endAllOps (stopStaging (closeCeremony s))))
    rw [vital_endAllOps, vital_stopStaging, vital_closeCeremony]; exact h
  exact ok_startOff { s1 with err := { s1.err with halting := none, active := 0, queued := [], codes := [] } } h1

theorem vital_execDocentCopyRepair (s : State) : ∀ t, execDocentCopyRepair s = .next t → vital t = vital s := by
  unfold execDocentCopyRepair; rintro t ⟨rfl⟩; simp only [vital_mk, vital_foldl, apply_ite vital, ite_self, implies_true]

theorem vital_execCellWatchdog (cell : Fin 128) (s : State) : ∀ t, execCellWatchdog cell s = .next t → vital t = vital s := by
  grind [execCellWatchdog, vital, vital_wingError, vital_advanceTo]

theorem vital_execWingRestorationDone (wing : Fin 16) (pass : Bool) (s : State) : ∀ t, execWingRestorationDone wing pass s = .next t → vital t = vital s := by
  grind [execWingRestorationDone, vital, vital_retireWing, vital_updWingErr, vital_settleWingCells, vital_offerWork, vital_setDuty, vital_updWing]

theorem ok_execVitrineLineFail {b p f} (line : Nat) (gallery : Nat) (slot : Nat) (s : State) (h_ok : OkV b p f (vital s)) : ∀ t, execVitrineLineFail line gallery slot s = .next t → OkV b p f (vital t) := by
  unfold execVitrineLineFail; try dsimp only
  repeat' split
  all_goals (intro t ht; simp only [Host.Outcome.next.injEq, reduceCtorEq] at ht; try rw [← ht])
  all_goals first | exact h_ok | (simp only [vital_mk, vital_foldl, ok_foldl, apply_ite vital, apply_ite (OkV b p f), ite_self, implies_true, h_ok, vital_moduleError, vital_updGal, vital_latchEvent, vital_logRecord, ok_fatalError]; done) | grind [vital_mk, vital_moduleError, vital_updGal, vital_latchEvent, vital_logRecord, ok_fatalError]

theorem ok_execContainedHaltTimeout {b p f} (s : State) (h_ok : OkV b p f (vital s)) : ∀ t, execContainedHaltTimeout s = .next t → OkV b p f (vital t) := by
  unfold execContainedHaltTimeout; try dsimp only
  repeat' split
  all_goals (intro t ht; simp only [Host.Outcome.next.injEq, reduceCtorEq] at ht; try rw [← ht])
  all_goals first | exact h_ok | (simp only [vital_mk, vital_foldl, ok_foldl, apply_ite vital, apply_ite (OkV b p f), ite_self, implies_true, h_ok, vital_advanceTo, ok_containedHalt]; done) | grind [vital_mk, vital_advanceTo, ok_containedHalt]

theorem vital_execCommandError (code : Nat) (ticket : Fin 65536) (unit : Nat) (s : State) : ∀ t, execCommandError code ticket unit s = .next t → vital t = vital s := by
  unfold execCommandError; rintro t ⟨rfl⟩; simp only [vital_mk, vital_foldl, apply_ite vital, ite_self, implies_true, vital_commandError]

theorem vital_execWingError (code : Nat) (wing : Fin 16) (s : State) : ∀ t, execWingError code wing s = .next t → vital t = vital s := by
  unfold execWingError; rintro t ⟨rfl⟩; simp only [vital_mk, vital_foldl, apply_ite vital, ite_self, implies_true, vital_wingError]

theorem vital_execModuleError (code : Nat) (s : State) : ∀ t, execModuleError code s = .next t → vital t = vital s := by
  unfold execModuleError; rintro t ⟨rfl⟩; simp only [vital_mk, vital_foldl, apply_ite vital, ite_self, implies_true, vital_moduleError]

theorem ok_execFatalError {b p f} (code : Nat) (s : State) (h_ok : OkV b p f (vital s)) : ∀ t, execFatalError code s = .next t → OkV b p f (vital t) := by
  unfold execFatalError; rintro t ⟨rfl⟩; simp only [vital_mk, vital_foldl, ok_foldl, apply_ite vital, apply_ite (OkV b p f), ite_self, implies_true, h_ok, ok_fatalError]

/-! ### LinkOps -/

theorem vital_newHello (s : State) : vital (newHello s).2.2 = vital s := by
  unfold newHello; simp only [vital_mk, vital_foldl, apply_ite vital, ite_self, implies_true, vital_drawFree]

theorem vital_updFar (m : Nat) (f : FarKey → FarKey) (s : State) : vital (updFar m f s) = vital s := by
  rfl

theorem vital_startFar (m : Nat) (s : State) : vital (startFar m s) = vital s := by
  unfold startFar; simp only [vital_mk, vital_foldl, apply_ite vital, ite_self, implies_true, vital_newHello, vital_sendTo, vital_updFar]

theorem vital_splitRoles (cause : Nat) (s : State) : vital (splitRoles cause s) = vital s := by
  unfold splitRoles; simp only [vital_mk, vital_foldl, apply_ite vital, ite_self, implies_true, vital_setRole]

theorem vital_heartbeatVerdict (live : Bool) (s : State) : vital (heartbeatVerdict live s) = vital s := by
  unfold heartbeatVerdict; simp only [vital_mk, vital_foldl, apply_ite vital, ite_self, implies_true, vital_offerWork, vital_splitRoles, vital_latchEvent]

theorem vital_finishFar (m : Nat) (s : State) : vital (finishFar m s) = vital s := by
  unfold finishFar; try dsimp only
  repeat' split
  all_goals first | rfl | (simp only [vital_mk, vital_foldl, apply_ite vital, ite_self, implies_true, vital_updFar, vital_sendTo]; done) | grind [vital, vital_updFar, vital_sendTo]

theorem vital_bringState (h : LinkHdr) (act : State → State) (s : State) (h_act : ∀ x0, vital (act x0) = vital x0) : vital (bringState h act s) = vital s := by
  grind [bringState, vital]

theorem vital_endSwap (s : State) : vital (endSwap s) = vital s := by
  grind [endSwap, vital, vital_updDesc]

theorem vital_execHeartbeatToggle (s : State) : ∀ t, execHeartbeatToggle s = .next t → vital t = vital s := by
  unfold execHeartbeatToggle; rintro t ⟨rfl⟩; simp only [vital_mk, vital_foldl, apply_ite vital, ite_self, implies_true]

theorem vital_startHandshake (port : Nat) (s : State) : vital (startHandshake port s) = vital s := by
  unfold startHandshake; simp only [vital_mk, vital_foldl, apply_ite vital, ite_self, implies_true, vital_newHello, vital_sendOn, vital_updPort]

theorem vital_endResync (s : State) : vital (endResync s) = vital s := by
  unfold endResync; simp only [vital_mk, vital_foldl, apply_ite vital, ite_self, implies_true, vital_setRole]

theorem vital_linkLost (s : State) : vital (linkLost s) = vital s := by
  unfold linkLost; simp only [vital_mk, vital_foldl, apply_ite vital, ite_self, implies_true, vital_endResync, vital_endSwap, vital_latchEvent, vital_offerWork, vital_takeVerdicts]

theorem vital_portDown (port : Nat) (phys : Bool) (s : State) : vital (portDown port phys s) = vital s := by
  unfold portDown; simp only [vital_mk, vital_foldl, apply_ite vital, ite_self, implies_true, vital_updPort, vital_latchEvent, vital_linkLost]

theorem vital_authFail (port : Nat) (s : State) : vital (authFail port s) = vital s := by
  unfold authFail; simp only [vital_mk, vital_foldl, apply_ite vital, ite_self, implies_true, vital_updPort]

theorem vital_tagFailure (port : Nat) (s : State) : vital (tagFailure port s) = vital s := by
  unfold tagFailure; simp only [vital_mk, vital_foldl, apply_ite vital, ite_self, implies_true, vital_updPort, vital_startHandshake, vital_portDown, vital_authFail]

theorem vital_acceptFrame (handshake : Bool) (h : LinkHdr) (act : State → State) (s : State) (h_act : ∀ x0, vital (act x0) = vital x0) : vital (acceptFrame handshake h act s) = vital s := by
  grind [acceptFrame, vital, vital_tagFailure, vital_updPort]

theorem vital_execIdle (hdr : LinkHdr) (s : State) : ∀ t, execIdle hdr s = .next t → vital t = vital s := by
  grind [execIdle, vital, vital_acceptFrame]

theorem vital_farHelloArrives (m : Nat) (h : Hello) (s : State) : vital (farHelloArrives m h s) = vital s := by
  grind [farHelloArrives, vital, vital_startFar, vital_updFar, vital_finishFar, vital_sendTo]

theorem vital_pairFrame (h : LinkHdr) (act : State → State) (s : State) (h_act : ∀ x0, vital (act x0) = vital x0) : vital (pairFrame h act s) = vital s := by
  grind [pairFrame, vital, vital_acceptFrame]

theorem vital_whenWritable (h : LinkHdr) (b : FrameBody) (act : State → State) (s : State) (h_act : ∀ x0, vital (act x0) = vital x0) : vital (whenWritable h b act s) = vital s := by
  grind [whenWritable, vital]

theorem vital_openFars (s : State) : vital (openFars s) = vital s := by
  unfold openFars; simp only [vital_mk, vital_foldl, apply_ite vital, ite_self, implies_true, vital_startFar]

theorem vital_tellSeals (s : State) : vital (tellSeals s) = vital s := by
  unfold tellSeals; simp only [vital_mk, vital_foldl, apply_ite vital, ite_self, implies_true, vital_noteSeal]

theorem vital_pairLinkUp (h : Hello) (s : State) : vital (pairLinkUp h s) = vital s := by
  unfold pairLinkUp; simp only [vital_mk, vital_foldl, apply_ite vital, ite_self, implies_true, vital_latchEvent, vital_tellSeals, vital_sendPartner]

theorem vital_finishHandshake (port : Nat) (s : State) : vital (finishHandshake port s) = vital s := by
  grind [finishHandshake, vital, vital_authFail, vital_updPort, vital_openFars, vital_sendOn, vital_pairLinkUp]

theorem vital_helloArrives (port : Nat) (h : Hello) (s : State) : vital (helloArrives port h s) = vital s := by
  grind [helloArrives, vital, vital_authFail, vital_startHandshake, vital_updPort, vital_finishHandshake, vital_sendOn]

theorem vital_receiveFrame (h : LinkHdr) (cls : Nat) (body : FrameBody) (act : State → State) (s : State) (h_act : ∀ x0, vital (act x0) = vital x0) : vital (receiveFrame h cls body act s) = vital s := by
  grind [receiveFrame, vital, vital_acceptFrame, vital_relayFrame]

theorem vital_execHello (hdr : LinkHdr) (body : Hello) (s : State) : ∀ t, execHello hdr body s = .next t → vital t = vital s := by
  unfold execHello; rintro t ⟨rfl⟩; simp only [vital_mk, vital_foldl, apply_ite vital, ite_self, implies_true, vital_acceptFrame, vital_helloArrives, vital_receiveFrame, vital_farHelloArrives]

theorem vital_execHopMeasurementDue (port : Fin 4) (s : State) : ∀ t, execHopMeasurementDue port s = .next t → vital t = vital s := by
  unfold execHopMeasurementDue; rintro t ⟨rfl⟩; simp only [vital_mk, vital_foldl, apply_ite vital, ite_self, implies_true, vital_updPort, vital_sendOn, vital_openFars]

theorem vital_readState (h : LinkHdr) (act : State → State) (s : State) (h_act : ∀ x0, vital (act x0) = vital x0) : vital (readState h act s) = vital s := by
  grind [readState, vital, vital_bringState]

theorem vital_execPairLinkSilence (s : State) : ∀ t, execPairLinkSilence s = .next t → vital t = vital s := by
  unfold execPairLinkSilence; rintro t ⟨rfl⟩; simp only [vital_mk, vital_foldl, apply_ite vital, ite_self, implies_true, vital_linkLost, vital_advanceTo]

theorem vital_execProbe (hdr : LinkHdr) (s : State) : ∀ t, execProbe hdr s = .next t → vital t = vital s := by
  unfold execProbe; rintro t ⟨rfl⟩; simp only [vital_mk, vital_foldl, apply_ite vital, ite_self, implies_true, vital_acceptFrame, vital_sendOn]

theorem vital_execWithdraw (hdr : LinkHdr) (s : State) : ∀ t, execWithdraw hdr s = .next t → vital t = vital s := by
  unfold execWithdraw; rintro t ⟨rfl⟩; simp only [vital_mk, vital_foldl, apply_ite vital, ite_self, implies_true, vital_pairFrame, vital_endResync, vital_takeVerdicts, vital_endSwap, vital_setRole, vital_latchEvent, vital_offerWork]

theorem vital_execSpanLinkUp (port : Fin 4) (lanes : Nat) (s : State) : ∀ t, execSpanLinkUp port lanes s = .next t → vital t = vital s := by
  grind [execSpanLinkUp, vital, vital_updPort, vital_startHandshake, vital_latchEvent]

theorem vital_startSplit (s : State) : vital (startSplit s) = vital s := by
  unfold startSplit; simp only [vital_mk, vital_foldl, apply_ite vital, ite_self, implies_true, vital_offerWork, vital_splitRoles]

theorem vital_execHeartbeatSilent (s : State) : ∀ t, execHeartbeatSilent s = .next t → vital t = vital s := by
  grind [execHeartbeatSilent, vital, vital_advanceTo, vital_startSplit, vital_heartbeatVerdict]

theorem vital_execSpanLinkDown (port : Fin 4) (s : State) : ∀ t, execSpanLinkDown port s = .next t → vital t = vital s := by
  unfold execSpanLinkDown; rintro t ⟨rfl⟩; simp only [vital_mk, vital_foldl, apply_ite vital, ite_self, implies_true, vital_portDown]

theorem vital_confirmArrives (port : Nat) (sig : Sys2Proof.Bytes) (s : State) : vital (confirmArrives port sig s) = vital s := by
  grind [confirmArrives, vital, vital_finishHandshake, vital_updPort, vital_authFail]

theorem vital_farConfirmArrives (m : Nat) (sig : Sys2Proof.Bytes) (s : State) : vital (farConfirmArrives m sig s) = vital s := by
  grind [farConfirmArrives, vital, vital_finishFar, vital_updFar]

theorem vital_execKeyconfirm (hdr : LinkHdr) (signature : Sys2Proof.Bytes) (s : State) : ∀ t, execKeyconfirm hdr signature s = .next t → vital t = vital s := by
  unfold execKeyconfirm; rintro t ⟨rfl⟩; simp only [vital_mk, vital_foldl, apply_ite vital, ite_self, implies_true, vital_acceptFrame, vital_confirmArrives, vital_receiveFrame, vital_farConfirmArrives]

theorem vital_execIdleDue (s : State) : ∀ t, execIdleDue s = .next t → vital t = vital s := by
  unfold execIdleDue; rintro t ⟨rfl⟩; simp only [vital_mk, vital_foldl, apply_ite vital, ite_self, implies_true, vital_sendPartner]

theorem vital_execEcho (hdr : LinkHdr) (roundTripNs : Nat) (turnAroundNs : Nat) (s : State) : ∀ t, execEcho hdr roundTripNs turnAroundNs s = .next t → vital t = vital s := by
  unfold execEcho; rintro t ⟨rfl⟩; simp only [vital_mk, vital_foldl, apply_ite vital, ite_self, implies_true, vital_acceptFrame, vital_updPort]

theorem vital_execRehandshakeDue (port : Fin 4) (s : State) : ∀ t, execRehandshakeDue port s = .next t → vital t = vital s := by
  grind [execRehandshakeDue, vital, vital_startHandshake, vital_advanceTo]

theorem vital_execHeartbeatEdge (s : State) : ∀ t, execHeartbeatEdge s = .next t → vital t = vital s := by
  grind [execHeartbeatEdge, vital, vital_heartbeatVerdict]

theorem vital_execDualActWindowClose (s : State) : ∀ t, execDualActWindowClose s = .next t → vital t = vital s := by
  grind [execDualActWindowClose, vital, vital_advanceTo, vital_offerWork]

theorem vital_execPairStartTimeout (s : State) : ∀ t, execPairStartTimeout s = .next t → vital t = vital s := by
  grind [execPairStartTimeout, vital, vital_startSplit, vital_advanceTo]

/-! ### LogOps -/

theorem vital_writeCheckpoint (s : State) : vital (writeCheckpoint s) = vital s := by
  unfold writeCheckpoint; simp only [vital_mk, vital_foldl, apply_ite vital, ite_self, implies_true, vital_putRecord, vital_latchEvent]

theorem vital_checkpoint (s : State) : vital (checkpoint s) = vital s := by
  unfold checkpoint; simp only [vital_mk, vital_foldl, apply_ite vital, ite_self, implies_true, vital_writeCheckpoint]

theorem vital_execLogCheckpoint (s : State) : ∀ t, execLogCheckpoint s = .next t → vital t = vital s := by
  unfold execLogCheckpoint; rintro t ⟨rfl⟩; simp only [vital_mk, vital_foldl, apply_ite vital, ite_self, implies_true, vital_checkpoint]

/-! ### TamperOps -/

theorem vital_logTamper (s : State) : vital (logTamper s) = vital s := by
  unfold logTamper; simp only [vital_mk, vital_foldl, apply_ite vital, ite_self, implies_true, vital_logData]

theorem vital_switchChanged (i : Nat) (on : Bool) (s : State) : vital (switchChanged i on s) = vital s := by
  unfold switchChanged; simp only [vital_mk, vital_foldl, apply_ite vital, ite_self, implies_true, vital_latchEvent, vital_destroyLoad]

theorem vital_inputChanged (i : Nat) (on : Bool) (s : State) : vital (inputChanged i on s) = vital s := by
  unfold inputChanged; simp only [vital_mk, vital_foldl, apply_ite vital, ite_self, implies_true, vital_switchChanged, vital_heartbeatVerdict]

theorem vital_execInputSample (levels : BitVec 4) (s : State) : ∀ t, execInputSample levels s = .next t → vital t = vital s := by
  unfold execInputSample; try dsimp only
  repeat' split
  all_goals first | (rintro t ⟨rfl⟩; first | rfl | (simp only [vital_mk, vital_foldl, apply_ite vital, ite_self, implies_true, vital_inputChanged]; done) | grind [vital, vital_inputChanged]) | grind [vital, vital_inputChanged]

theorem vital_noteInBurn (s : State) : vital (noteInBurn s) = vital s := by
  rfl

theorem vital_loseGddr (s : State) : vital (loseGddr s) = vital s := by
  unfold loseGddr; simp only [vital_mk, vital_foldl, apply_ite vital, ite_self, implies_true]

theorem ok_tamperResponse {b p f} (c : Nat) (s : State) (h : OkV b p f (vital s)) : OkV b p f (vital (tamperResponse c s)) := by
  unfold tamperResponse
  dsimp only
  have h2 : OkV b p f (vital (if s.pow.main then withdrawAtOnce s else s)) := by
    split
    · rw [vital_withdrawAtOnce]; exact h
    · exact h
  generalize (if s.pow.main then withdrawAtOnce s else s) = t at h2
  have hv : vital (loseGddr (eraseLine false t)) = { vital t with root := none } := by rw [vital_loseGddr, vital_eraseLine]
  generalize loseGddr (eraseLine false t) = u at hv
  have hr : u.bb.root = none := congrArg Vital.root hv
  have h3 : OkV b p f (vital u) := by
    rw [hv]; exact ⟨h2.pending, h2.fuses, fun hb hc => ⟨rfl, (h2.latch hb hc).2⟩, h2.mems⟩
  have h4 : ∀ ao : AlwaysOn, OkV b p f (vital { u with ao := ao, pow := { u.pow with starting := false } }) := fun ao =>
    ⟨h3.pending, h3.fuses, fun _ _ => ⟨hr, nofun⟩, h3.mems⟩
  generalize recordAtDecision s = r0
  split
  · exact h4 _
  · rw [vital_publishAll, vital_replaceAll, vital_latchEvent, vital_setMode]
    have h5 : OkV b p f (vital (closeCeremony { u with
        ao := { u.ao with responded := true, latched := 2 ^ c, collecting := some (u.now, c), collected := 2 ^ c, tamperOut := true, record := r0 }
        pow := { u.pow with starting := false } })) := by
      rw [vital_closeCeremony]; exact h4 _
    generalize closeCeremony { u with
        ao := { u.ao with responded := true, latched := 2 ^ c, collecting := some (u.now, c), collected := 2 ^ c, tamperOut := true, record := r0 }
        pow := { u.pow with starting := false } } = v at h5
    exact h5

theorem tamperResponse_stops (c : Nat) (s : State) : (vital (tamperResponse c s)).starting = false := by
  unfold tamperResponse
  extract_lets r0 s1 s2 a1 s3 p1 s4 s5 e1 p2 s6 s7
  have h4 : (vital s4).starting = false := rfl
  clear_value s4
  split
  · exact h4
  · rw [vital_publishAll, vital_replaceAll, vital_latchEvent]
    show (vital (setMode .tampered s6)).starting = false
    rw [vital_setMode]
    show (vital (stopStaging (closeCeremony s4))).starting = false
    rw [vital_stopStaging, vital_closeCeremony]; exact h4

theorem vital_countLater (s : State) : vital (countLater s) = vital s := by
  rfl

theorem ok_decide_ {b p f} (c : Nat) (s : State) (h_ok : OkV b p f (vital s)) : OkV b p f (vital (decide_ c s)) := by
  unfold decide_; try dsimp only
  repeat' split
  all_goals first | exact h_ok | (simp only [vital_mk, vital_foldl, ok_foldl, apply_ite vital, apply_ite (OkV b p f), ite_self, implies_true, h_ok, vital_noteInBurn, vital_countLater, ok_tamperResponse]; done) | grind [vital_mk, vital_noteInBurn, vital_countLater, ok_tamperResponse]

theorem decide__stops (c : Nat) (s : State) : vital (decide_ c s) = vital s ∨ (decide_ c s).pow.starting = false := by
  unfold decide_
  split
  · exact .inl rfl
  · dsimp only
    have hn : vital (noteInBurn s) = vital s := vital_noteInBurn s
    generalize noteInBurn s = t at hn
    split
    · exact .inr (tamperResponse_stops ..)
    · split
      · exact .inl hn
      · exact .inl ((vital_countLater ..).trans hn)

theorem ok_armNow {b p f} (before : Nat) (s : State) (h : OkV b p f (vital s)) : OkV b p f (vital (armNow before s)) :=
  ok_foldl (fun s c => if bit s.ao.live c && bit (armed s) c && !bit before c then decide_ c s else s) (fun s c h => ok_ite (ok_decide_ c s h) h) _ s h
theorem armNow_stops (before : Nat) (s : State) : vital (armNow before s) = vital s ∨ (armNow before s).pow.starting = false :=
  stops_foldl (fun s c => if bit s.ao.live c && bit (armed s) c && !bit before c then decide_ c s else s)
    (fun s c => by split; exacts [decide__stops c s, .inl rfl]) _ s

theorem vital_execTamperCollectionEnd (s : State) : ∀ t, execTamperCollectionEnd s = .next t → vital t = vital s := by
  grind [execTamperCollectionEnd, vital, vital_advanceTo, vital_logTamper]

theorem vital_setLive (c : Nat) (on : Bool) (s : State) : vital (setLive c on s) = vital s := by
  rfl

theorem ok_raiseCause {b p f} (c : Nat) (s : State) (h_ok : OkV b p f (vital s)) : OkV b p f (vital (raiseCause c s)) := by
  unfold raiseCause; simp only [vital_mk, vital_foldl, ok_foldl, apply_ite vital, apply_ite (OkV b p f), ite_self, implies_true, h_ok, vital_setLive, ok_decide_]

theorem ok_observe {b p f} (c : Nat) (present : Bool) (s : State) (h_ok : OkV b p f (vital s)) : OkV b p f (vital (observe c present s)) := by
  unfold observe; simp only [vital_mk, vital_foldl, ok_foldl, apply_ite vital, apply_ite (OkV b p f), ite_self, implies_true, h_ok, vital_setLive, ok_raiseCause]

theorem vital_logXtal (s : State) : vital (logXtal s) = vital s := by
  unfold logXtal; simp only [vital_mk, vital_foldl, apply_ite vital, ite_self, implies_true, vital_logRecord]

theorem ok_execXtalFault {b p f} (present : Bool) (s : State) (h_ok : OkV b p f (vital s)) : ∀ t, execXtalFault present s = .next t → OkV b p f (vital t) := by
  unfold execXtalFault; rintro t ⟨rfl⟩; simp only [vital_mk, vital_foldl, ok_foldl, apply_ite vital, apply_ite (OkV b p f), ite_self, implies_true, h_ok, vital_logXtal, ok_observe]

theorem vital_updLoop (i : Nat) (f : Loop → Loop) (s : State) : vital (updLoop i f s) = vital s := by
  rfl

theorem vital_compareLoop (i : Nat) (echo : Bool) (s : State) : vital (compareLoop i echo s) = vital s := by
  unfold compareLoop; simp only [vital_mk, vital_foldl, apply_ite vital, ite_self, implies_true, vital_updLoop]

theorem ok_execRailGlitch {b p f} (present : Bool) (s : State) (h_ok : OkV b p f (vital s)) : ∀ t, execRailGlitch present s = .next t → OkV b p f (vital t) := by
  unfold execRailGlitch; rintro t ⟨rfl⟩; simp only [vital_mk, vital_foldl, ok_foldl, apply_ite vital, apply_ite (OkV b p f), ite_self, implies_true, h_ok, ok_observe]

theorem vital_execLockoutEnd (s : State) : ∀ t, execLockoutEnd s = .next t → vital t = vital s := by
  grind [execLockoutEnd, vital, vital_latchEvent, vital_advanceTo]

theorem vital_execKeySwitchTimeout (b : Bool) (s : State) : ∀ t, execKeySwitchTimeout b s = .next t → vital t = vital s := by
  grind [execKeySwitchTimeout, vital, vital_advanceTo, vital_latchEvent, vital_destroyLoad]

theorem vital_execLoopDriveStep (s : State) : ∀ t, execLoopDriveStep s = .next t → vital t = vital s := by
  grind [execLoopDriveStep, vital]

theorem ok_execLoopCompare {b p f} (echo : BitVec 6) (s : State) (h : OkV b p f (vital s)) : ∀ t, execLoopCompare echo s = .next t → OkV b p f (vital t) := by
  intro t ht
  unfold execLoopCompare at ht
  split at ht
  · simp only [Host.Outcome.next.injEq] at ht
    rw [← ht]; exact h
  · simp only [Host.Outcome.next.injEq] at ht
    rw [← ht]
    refine ok_foldl _ (fun s x h => ok_observe _ _ _ h) _ _ ?_
    rw [← vital_foldl (fun s i => compareLoop i (echo.getLsbD i) s) (fun s x => vital_compareLoop _ _ _) (List.range 6) s] at h
    generalize List.foldl (fun s i => compareLoop i (echo.getLsbD i) s) s (List.range 6) = u at h
    exact h

theorem ok_execLoopEdgeMismatch {b p f} (loop : Fin 6) (s : State) (h : OkV b p f (vital s)) : ∀ t, execLoopEdgeMismatch loop s = .next t → OkV b p f (vital t) := by
  intro t ht
  unfold execLoopEdgeMismatch at ht
  split at ht
  · simp only [Host.Outcome.next.injEq] at ht
    rw [← ht]; exact h
  · simp only [Host.Outcome.next.injEq] at ht
    rw [← ht]
    refine ok_observe _ _ _ ?_
    rw [vital_updLoop]; exact h

theorem ok_execTempSample {b p f} (value : ℤ) (s : State) (h_ok : OkV b p f (vital s)) : ∀ t, execTempSample value s = .next t → OkV b p f (vital t) := by
  unfold execTempSample; try dsimp only
  repeat' split
  all_goals (intro t ht; simp only [Host.Outcome.next.injEq, reduceCtorEq] at ht; try rw [← ht])
  all_goals first | exact h_ok | (simp only [vital_mk, vital_foldl, ok_foldl, apply_ite vital, apply_ite (OkV b p f), ite_self, implies_true, h_ok, ok_observe]; done) | grind [vital_mk, ok_observe]

theorem ok_execSupplyComparator {b p f} (high : Bool) (present : Bool) (s : State) (h_ok : OkV b p f (vital s)) : ∀ t, execSupplyComparator high present s = .next t → OkV b p f (vital t) := by
  unfold execSupplyComparator; rintro t ⟨rfl⟩; simp only [vital_mk, vital_foldl, ok_foldl, apply_ite vital, apply_ite (OkV b p f), ite_self, implies_true, h_ok, ok_observe]

theorem ok_execClockGlitch {b p f} (present : Bool) (s : State) (h_ok : OkV b p f (vital s)) : ∀ t, execClockGlitch present s = .next t → OkV b p f (vital t) := by
  unfold execClockGlitch; rintro t ⟨rfl⟩; simp only [vital_mk, vital_foldl, ok_foldl, apply_ite vital, apply_ite (OkV b p f), ite_self, implies_true, h_ok, ok_observe]

/-! ### CuratorBase -/

theorem ok_sendReply {b p f} (bus : Nat) (r : MgmtReply) (s : State) (h : OkV b p f (vital s)) : OkV b p f (vital (sendReply bus r s)) := by
  unfold sendReply
  dsimp only
  split
  · exact ⟨h.pending, h.fuses, h.latch, fun hb => ⟨(h.mems hb).1, (h.mems hb).2.1, (h.mems hb).2.2.1, memWf_memWriteBytes _ _ (h.mems hb).2.2.2.1, (h.mems hb).2.2.2.2⟩⟩
  · rw [vital_sendMctp]; exact h

theorem ok_serve {b p f} (bus : Nat) (act : State → MgmtReply × State) (s : State)
    (h_act : ∀ s, OkV b p f (vital s) → OkV b p f (vital (act s).2)) (h : OkV b p f (vital s)) : OkV b p f (vital (serve bus act s)) := by
  unfold serve
  split
  · exact h
  · dsimp only
    refine ok_sendReply _ _ _ (h_act _ ?_)
    split <;> exact h

theorem ok_serveFull {b p f} (bus : Nat) (act : State → MgmtReply × State) (s : State)
    (h_act : ∀ s, OkV b p f (vital s) → OkV b p f (vital (act s).2)) (h : OkV b p f (vital s)) : OkV b p f (vital (serveFull bus act s)) := by
  unfold serveFull
  split
  · exact h
  · exact ok_serve _ _ _ h_act h

theorem vital_serveLater (bus : Nat) (act : State → State) (s : State) (h_act : ∀ x0, vital (act x0) = vital x0) : vital (serveLater bus act s) = vital s := by
  grind [serveLater, vital]

theorem ok_serveLater {b p f} (bus : Nat) (act : State → State) (s : State) (h_act : ∀ s, OkV b p f (vital s) → OkV b p f (vital (act s))) (h : OkV b p f (vital s)) :
    OkV b p f (vital (serveLater bus act s)) := by
  unfold serveLater
  split
  · exact h
  · refine h_act _ ?_
    split <;> exact h

/-! ### LifeOps -/

theorem ok_execDebugChallenge {b p f} (bus : Nat) (s : State) (h_ok : OkV b p f (vital s)) : ∀ t, execDebugChallenge bus s = .next t → OkV b p f (vital t) := by
  unfold execDebugChallenge; rintro t ⟨rfl⟩
  refine ok_serveFull _ _ _ (fun s h_ok => ?_) h_ok
  try dsimp only
  repeat' split
  all_goals first | exact h_ok | (simp only [vital_mk, vital_foldl, ok_foldl, apply_ite vital, apply_ite (OkV b p f), ite_self, implies_true, h_ok, vital_drawBytes, ok_serveFull]; done) | grind [vital_mk, vital_drawBytes, ok_serveFull]

theorem ok_execDebugResponse {b p f} (bus : Nat) (key : Sys2Proof.Bytes) (signature : Sys2Proof.Bytes) (s : State) (h_ok : OkV b p f (vital s)) : ∀ t, execDebugResponse bus key signature s = .next t → OkV b p f (vital t) := by
  unfold execDebugResponse; rintro t ⟨rfl⟩
  refine ok_serveFull _ _ _ (fun s h_ok => ?_) h_ok
  try dsimp only
  repeat' split
  all_goals first | exact h_ok | (simp only [vital_mk, vital_foldl, ok_foldl, apply_ite vital, apply_ite (OkV b p f), ite_self, implies_true, h_ok, ok_serveFull]; done) | grind [vital_mk, ok_serveFull]

theorem ok_clearLatch {b p f} (x : Burn) (s : State) (h : OkV b p f (vital s)) : OkV b p f (vital (clearLatch x s)) := by
  unfold clearLatch
  split
  · exact ⟨h.pending, h.fuses, fun _ => nofun, h.mems⟩
  · exact h

theorem vital_logTransition (target : Nat) (reason : Nat) (s : State) : vital (logTransition target reason s) = vital s := by
  unfold logTransition; simp only [vital_mk, vital_foldl, apply_ite vital, ite_self, implies_true, vital_logRecord]

theorem ok_finishBurn {b p f} (s : State) (h : OkV b p f (vital s)) : OkV b p f (vital (finishBurn s)) := by
  unfold finishBurn
  split
  · exact h
  · rename_i d hd
    rw [← vital_advanceTo (d.at_ + burnNs d) s] at h
    extract_lets s1 s2 f1 r1 s3 s4
    have h2 : OkV b p f (vital s2) := ok_clearLatch d s1 h
    clear_value s2
    have h4 : OkV b p f (vital s4) := by
      show OkV b p f (vital (logTransition d.target 0 s3))
      rw [vital_logTransition]
      exact ⟨h2.pending, fun hb => ⟨fusesGrow_record (h2.fuses hb).1, (h2.fuses hb).2⟩, h2.latch, h2.mems⟩
    clear_value s4
    split
    · split
      · rw [vital_answerFn]; exact h4
      · exact h4
    · exact ok_sendReply _ _ _ h4

theorem ok_execTransitionBurnDone {b p f} (s : State) (h_ok : OkV b p f (vital s)) : ∀ t, execTransitionBurnDone s = .next t → OkV b p f (vital t) := by
  unfold execTransitionBurnDone; rintro t ⟨rfl⟩; simp only [vital_mk, vital_foldl, ok_foldl, apply_ite vital, apply_ite (OkV b p f), ite_self, implies_true, h_ok, ok_finishBurn]

theorem ok_execConservatorRun {b p f} (bus : Nat) (s : State) (h_ok : OkV b p f (vital s)) : ∀ t, execConservatorRun bus s = .next t → OkV b p f (vital t) := by
  unfold execConservatorRun; rintro t ⟨rfl⟩
  refine ok_serveFull _ _ _ (fun s h_ok => ?_) h_ok
  try dsimp only
  repeat' split
  all_goals first | exact h_ok | (simp only [vital_mk, vital_foldl, ok_foldl, apply_ite vital, apply_ite (OkV b p f), ite_self, implies_true, h_ok, ok_serveFull]; done) | grind [vital_mk, ok_serveFull]

theorem ok_execRawSamples {b p f} (bus : Nat) (source : Nat) (offset : Nat) (samples : Sys2Proof.Bytes) (s : State) (h_ok : OkV b p f (vital s)) : ∀ t, execRawSamples bus source offset samples s = .next t → OkV b p f (vital t) := by
  unfold execRawSamples
  try dsimp only
  intro t ht
  repeat' split at ht
  all_goals simp only [Host.Outcome.next.injEq, reduceCtorEq] at ht
  all_goals rw [← ht]
  all_goals (repeat' split)
  all_goals first | exact h_ok | (simp only [vital_mk, vital_foldl, ok_foldl, apply_ite vital, apply_ite (OkV b p f), ite_self, implies_true, h_ok, ok_serveFull]; done) | grind [vital_mk, ok_serveFull]

theorem ok_beginTransition {b p f} (target index : Nat) (ticket : Option Nat) (bus : Nat) (s : State) (h : OkV b p f (vital s)) :
    OkV b p f (vital (beginTransition target index ticket bus s)) := by
  unfold beginTransition
  generalize (tokenClass s.reg.state target index s.fuses.codeE).getD 0 = c
  dsimp only
  have h2 : OkV b p f (vital (if c = 4 ∨ c = 5 then eraseLine false s else s)) := by
    split
    · exact ok_eraseLine _ _ h
    · exact h
  exact h2

theorem ok_transitionAct {b p f} (c : Ctx) (s : State) (h_ok : OkV b p f (vital s)) : OkV b p f (vital (transitionAct c s)) := by
  unfold transitionAct; simp only [vital_mk, vital_foldl, ok_foldl, apply_ite vital, apply_ite (OkV b p f), ite_self, implies_true, h_ok, vital_logTransition, ok_beginTransition]

theorem vital_logRefusal (cell : Nat) (s : State) : vital (logRefusal cell s) = vital s := by
  grind [logRefusal, vital, vital_logTransition]

theorem ok_execLcsTransition {b p f} (cell : Fin 128) (s : State) (h : OkV b p f (vital s)) : ∀ t, execLcsTransition cell s = .next t → OkV b p f (vital t) := by
  intro t ht
  unfold execLcsTransition at ht
  simp only [Host.Outcome.next.injEq] at ht
  rw [← ht]
  refine ok_runCmd _ _ _ _ _ (fun c s h => ok_transitionAct _ _ h) (fun d h => by unfold drawsNow; rw [h]; rfl) ?_
  rw [vital_logRefusal]; exact h

theorem ok_execLcsTransitionMessage {b p f} (bus : Nat) (target index : Byte) (token : Bytes) (s : State) (h : OkV b p f (vital s)) :
    ∀ t, execLcsTransitionMessage bus target index token s = .next t → OkV b p f (vital t) := by
  intro t ht
  unfold execLcsTransitionMessage at ht
  split at ht
  · simp only [Host.Outcome.next.injEq] at ht
    rw [← ht]; exact h
  · split at ht
    · simp only [Host.Outcome.next.injEq] at ht
      rw [← ht]
      refine ok_serve _ _ _ (fun s h => ?_) h
      rw [vital_logTransition]; exact h
    · simp only [Host.Outcome.next.injEq] at ht
      rw [← ht]
      refine ok_serveLater _ _ _ (fun s h => ?_) h
      refine ok_beginTransition _ _ _ _ _ ?_
      rw [vital_logTransition]; exact h

theorem vital_execConservatorRunDone (pass : BitVec 8) (ms100 : Nat) (s : State) : ∀ t, execConservatorRunDone pass ms100 s = .next t → vital t = vital s := by
  grind [execConservatorRunDone, vital]

/-! ### EngineOps -/

theorem vital_readGrant (h : Bool) (cell : Nat) (s : State) : vital (readGrant h cell s) = vital s := by
  unfold readGrant; simp only [vital_mk, vital_foldl, apply_ite vital, ite_self, implies_true, vital_updEngine]

theorem vital_execCenGrantRead (cell : Fin 128) (s : State) : ∀ t, execCenGrantRead cell s = .next t → vital t = vital s := by
  unfold execCenGrantRead; rintro t ⟨rfl⟩; simp only [vital_mk, vital_foldl, apply_ite vital, ite_self, implies_true, vital_readGrant]

theorem vital_raiseStatus (h : Bool) (w : Nat) (b : Nat) (s : State) : vital (raiseStatus h w b s) = vital s := by
  unfold raiseStatus; simp only [vital_mk, vital_foldl, apply_ite vital, ite_self, implies_true, vital_updEngine]

theorem vital_loadStep (cell : Nat) (e : CacheEntry) (s : State) : ∀ t, loadStep cell e s = some t → vital t = vital s := by
  intro t h
  unfold loadStep at h
  split at h
  · split at h
    · cases h; rfl
    · split at h
      · cases h
      · rename_i hb
        cases h
        rw [vital_updDesc]
        exact vital_stepBudget _ _ _ _ hb
  · cases h; rfl

theorem vital_loadKey (h : Bool) (cell : Nat) (entry : Nat) (reg : Nat) (count : Nat) (step : Bool) (s : State) : vital (loadKey h cell entry reg count step s) = vital s := by
  grind [loadKey, vital, vital_raiseStatus, vital_updEngine, vital_loadStep]

theorem vital_settleLoad (h : Bool) (w : Nat) (s : State) : vital (settleLoad h w s) = vital s := by
  grind [settleLoad, vital, vital_loadKey, vital_updEngine]

theorem vital_completeOp (h : Bool) (w : Nat) (s : State) : vital (completeOp h w s) = vital s := by
  grind [completeOp, vital, vital_settleLoad, vital_advanceTo, vital_updEngine, vital_updWing]

theorem vital_readStatus (h : Bool) (cell : Nat) (s : State) : vital (readStatus h cell s) = vital s := by
  unfold readStatus; simp only [vital_mk, vital_foldl, apply_ite vital, ite_self, implies_true, vital_completeOp, vital_updEngine]

theorem vital_engineAlarm (h : Bool) (w : Nat) (mask : Bool) (s : State) : vital (engineAlarm h w mask s) = vital s := by
  grind [engineAlarm, vital, vital_settleEngine, vital_stampRelease, vital_updEngine, vital_commandError, vital_wingError]

theorem vital_cellStores (w : Nat) (stores : List (Nat × Sys2Proof.Bytes)) (s : State) : vital (cellStores w stores s) = vital s := by
  unfold cellStores; simp only [vital_mk, vital_foldl, apply_ite vital, ite_self, implies_true, vital_updWing]

theorem vital_execCenOpDone (wing : Fin 16) (s : State) : ∀ t, execCenOpDone wing s = .next t → vital t = vital s := by
  unfold execCenOpDone; rintro t ⟨rfl⟩; simp only [vital_mk, vital_foldl, apply_ite vital, ite_self, implies_true, vital_completeOp]

theorem vital_grantNext (h : Bool) (w : Nat) (s : State) : vital (grantNext h w s) = vital s := by
  grind [grantNext, vital, vital_settleEngine, vital_updEngine, vital_stampGrant, vital_countEvent]

theorem vital_execSeedRefillDone (wing : Fin 16) (s : State) : ∀ t, execSeedRefillDone wing s = .next t → vital t = vital s := by
  grind [execSeedRefillDone, vital, vital_queueDraw, vital_drawBytes, vital_grantNext, vital_updEngine]

theorem vital_takeOver (h : Bool) (w : Nat) (c : Nat) (o : Nat) (g : Nat) (s : State) : vital (takeOver h w c o g s) = vital s := by
  unfold takeOver; simp only [vital_mk, vital_foldl, apply_ite vital, ite_self, implies_true, vital_updEngine]

theorem vital_queueClaim_enqueue (h : Bool) (cell : Nat) (s : State) : vital (queueClaim.enqueue h cell s) = vital s := by
  unfold queueClaim.enqueue; simp only [vital_mk, vital_foldl, apply_ite vital, ite_self, implies_true, vital_grantNext, vital_updEngine]

theorem vital_queueClaim (h : Bool) (cell : Nat) (g : Nat) (s : State) : vital (queueClaim h cell g s) = vital s := by
  grind [queueClaim, vital, vital_takeOver, vital_queueClaim_enqueue, vital_grantNext, vital_updEngine]

theorem vital_claimEngine (h : Bool) (cell : Nat) (s : State) : vital (claimEngine h cell s) = vital s := by
  grind [claimEngine, vital, vital_updEngine, vital_offerWork, vital_avoidEngine, vital_queueClaim]

theorem vital_execCenClaim (cell : Fin 128) (s : State) : ∀ t, execCenClaim cell s = .next t → vital t = vital s := by
  unfold execCenClaim; rintro t ⟨rfl⟩; simp only [vital_mk, vital_foldl, apply_ite vital, ite_self, implies_true, vital_claimEngine]

theorem vital_denyAccess (cell : Nat) (s : State) : vital (denyAccess cell s) = vital s := by
  grind [denyAccess, vital, vital_answerFn]

theorem vital_releaseEngine (h : Bool) (cell : Nat) (s : State) : vital (releaseEngine h cell s) = vital s := by
  unfold releaseEngine; simp only [vital_mk, vital_foldl, apply_ite vital, ite_self, implies_true, vital_clearEngine]

theorem vital_execHsuRelease (cell : Fin 128) (s : State) : ∀ t, execHsuRelease cell s = .next t → vital t = vital s := by
  unfold execHsuRelease; rintro t ⟨rfl⟩; simp only [vital_mk, vital_foldl, apply_ite vital, ite_self, implies_true, vital_releaseEngine]

theorem vital_execCenRelease (cell : Fin 128) (s : State) : ∀ t, execCenRelease cell s = .next t → vital t = vital s := by
  unfold execCenRelease; rintro t ⟨rfl⟩; simp only [vital_mk, vital_foldl, apply_ite vital, ite_self, implies_true, vital_releaseEngine]

theorem vital_execCenKeyload (cell : Fin 128) (entry : Fin 131072) (keyreg : Fin 4) (s : State) : ∀ t, execCenKeyload cell entry keyreg s = .next t → vital t = vital s := by
  unfold execCenKeyload; rintro t ⟨rfl⟩; simp only [vital_mk, vital_foldl, apply_ite vital, ite_self, implies_true, vital_loadKey]

theorem vital_cellWrites (cell : Nat) (stores : List (Nat × Sys2Proof.Bytes)) (s : State) : vital (cellWrites cell stores s) = vital s := by
  unfold cellWrites; simp only [vital_mk, vital_foldl, apply_ite vital, ite_self, implies_true, vital_cellStores, vital_denyAccess]

theorem vital_putNonce (w : Nat) (c : Nat) (n : Nat) (iv : Option Sys2Proof.Bytes) (s : State) : vital (putNonce w c n iv s) = vital s := by
  unfold putNonce; simp only [vital_mk, vital_foldl, apply_ite vital, ite_self, implies_true, vital_updEngine]

theorem vital_execCenNonceRead (cell : Fin 128) (s : State) : ∀ t, execCenNonceRead cell s = .next t → vital t = vital s := by
  grind [execCenNonceRead, vital, vital_putNonce, vital_raiseStatus, vital_updDesc, vital_nextNonce]

theorem vital_execHsuGrantRead (cell : Fin 128) (s : State) : ∀ t, execHsuGrantRead cell s = .next t → vital t = vital s := by
  unfold execHsuGrantRead; rintro t ⟨rfl⟩; simp only [vital_mk, vital_foldl, apply_ite vital, ite_self, implies_true, vital_readGrant]

theorem vital_startCen (w : Nat) (word : Nat) (s : State) : vital (startCen w word s) = vital s := by
  unfold startCen; simp only [vital_mk, vital_foldl, apply_ite vital, ite_self, implies_true, vital_countEvent, vital_updEngine, vital_countBlocks]

theorem vital_execMaskSeedChange (wing : Fin 16) (s : State) : ∀ t, execMaskSeedChange wing s = .next t → vital t = vital s := by
  unfold execMaskSeedChange; rintro t ⟨rfl⟩; simp only [vital_mk, vital_foldl, apply_ite vital, ite_self, implies_true, vital_changeSeed]

theorem vital_execHsuClaim (cell : Fin 128) (s : State) : ∀ t, execHsuClaim cell s = .next t → vital t = vital s := by
  unfold execHsuClaim; rintro t ⟨rfl⟩; simp only [vital_mk, vital_foldl, apply_ite vital, ite_self, implies_true, vital_claimEngine]

theorem vital_execEngineFaultAlarm (wing : Fin 16) (hashUnit : Bool) (mask : Bool) (s : State) : ∀ t, execEngineFaultAlarm wing hashUnit mask s = .next t → vital t = vital s := by
  unfold execEngineFaultAlarm; rintro t ⟨rfl⟩; simp only [vital_mk, vital_foldl, apply_ite vital, ite_self, implies_true, vital_offerWork, vital_engineAlarm]

theorem vital_execHsuStatusRead (cell : Fin 128) (s : State) : ∀ t, execHsuStatusRead cell s = .next t → vital t = vital s := by
  unfold execHsuStatusRead; rintro t ⟨rfl⟩; simp only [vital_mk, vital_foldl, apply_ite vital, ite_self, implies_true, vital_readStatus]

theorem vital_execCenKeyloadStep (cell : Fin 128) (entry : Fin 131072) (keyreg : Fin 4) (s : State) : ∀ t, execCenKeyloadStep cell entry keyreg s = .next t → vital t = vital s := by
  unfold execCenKeyloadStep; rintro t ⟨rfl⟩; simp only [vital_mk, vital_foldl, apply_ite vital, ite_self, implies_true, vital_loadKey]

theorem vital_writeCtx (h : Bool) (cell : Nat) (ctx : Option (List W64)) (s : State) : vital (writeCtx h cell ctx s) = vital s := by
  unfold writeCtx
  split
  · split
    · exact vital_updEngine ..
    · rfl
  · rfl

theorem vital_execCenOp (cell : Fin 128) (word : Sys2Proof.W64) (ctx : Option (List Sys2Proof.W64)) (stores : List (Nat × Sys2Proof.Bytes)) (s : State) : ∀ t, execCenOp cell word ctx stores s = .next t → vital t = vital s := by
  grind [execCenOp, vital, vital_writeCtx, vital_cellWrites, vital_denyAccess, vital_raiseStatus, vital_startCen]

theorem vital_execCenStatusRead (cell : Fin 128) (s : State) : ∀ t, execCenStatusRead cell s = .next t → vital t = vital s := by
  unfold execCenStatusRead; rintro t ⟨rfl⟩; simp only [vital_mk, vital_foldl, apply_ite vital, ite_self, implies_true, vital_readStatus]

theorem vital_execHsuKeyload (cell : Fin 128) (entry : Fin 131072) (two : Bool) (step : Bool) (s : State) : ∀ t, execHsuKeyload cell entry two step s = .next t → vital t = vital s := by
  unfold execHsuKeyload; rintro t ⟨rfl⟩; simp only [vital_mk, vital_foldl, apply_ite vital, ite_self, implies_true, vital_loadKey]

theorem vital_startHsu (w : Nat) (word : Nat) (s : State) : vital (startHsu w word s) = vital s := by
  unfold startHsu; simp only [vital_mk, vital_foldl, apply_ite vital, ite_self, implies_true, vital_updEngine]

theorem vital_execHsuOp (cell : Fin 128) (word : Sys2Proof.W64) (ctx : Option (List Sys2Proof.W64)) (stores : List (Nat × Sys2Proof.Bytes)) (s : State) : ∀ t, execHsuOp cell word ctx stores s = .next t → vital t = vital s := by
  grind [execHsuOp, vital, vital_writeCtx, vital_cellWrites, vital_denyAccess, vital_raiseStatus, vital_startHsu]

theorem vital_execEngineClearDone (wing : Fin 16) (hashUnit : Bool) (ok : Bool) (s : State) : ∀ t, execEngineClearDone wing hashUnit ok s = .next t → vital t = vital s := by
  grind [execEngineClearDone, vital, vital_advanceTo, vital_updEngine, vital_grantNext, vital_offerWork, vital_engineAlarm]

theorem vital_execEngineHoldOverrun (wing : Fin 16) (hashUnit : Bool) (s : State) : ∀ t, execEngineHoldOverrun wing hashUnit s = .next t → vital t = vital s := by
  grind [execEngineHoldOverrun, vital, vital_advanceTo, vital_countEvent, vital_raiseStatus, vital_clearEngine, vital_offerWork, vital_commandError]

theorem vital_execEngineSelfCheckDone (wing : Fin 16) (hashUnit : Bool) (pass : Bool) (s : State) : ∀ t, execEngineSelfCheckDone wing hashUnit pass s = .next t → vital t = vital s := by
  grind [execEngineSelfCheckDone, vital, vital_grantNext, vital_updEngine, vital_offerWork, vital_wingError]

/-! ### RngOps -/

theorem vital_updSource (n : Nat) (f : Source → Source) (s : State) : vital (updSource n f s) = vital s := by
  rfl

theorem ok_rngFatalAlarm {b p f} (cause src : Nat) (s : State) (h : OkV b p f (vital s)) : OkV b p f (vital (rngFatalAlarm cause src s)) := by
  unfold rngFatalAlarm
  extract_lets a st c d e k m
  have hk : vital m = vital s := by
    rw [show vital m = vital (offerWork k) from vital_foldl _ (fun s x => vital_shedClaims _ _) _ _, vital_offerWork,
      show vital k = vital e from vital_foldl _ (fun s x => vital_endCommand _ _ _) _ _, show vital e = vital d from vital_logRecord ..]
    exact vital_latchEvent 24 s
  clear_value m
  rw [← hk] at h
  split
  · exact ok_fatalError _ _ h
  · exact h

theorem rngFatalAlarm_stops (cause src : Nat) (s : State) : vital (rngFatalAlarm cause src s) = vital s ∨ (rngFatalAlarm cause src s).pow.starting = false := by
  unfold rngFatalAlarm
  extract_lets a st c d e k m
  have hk : vital m = vital s := by
    rw [show vital m = vital (offerWork k) from vital_foldl _ (fun s x => vital_shedClaims _ _) _ _, vital_offerWork,
      show vital k = vital e from vital_foldl _ (fun s x => vital_endCommand _ _ _) _ _, show vital e = vital d from vital_logRecord ..]
    exact vital_latchEvent 24 s
  clear_value m
  split
  · exact (fatalError_stops 0x43 m).imp (·.trans hk) id
  · exact .inl hk

theorem ok_sourceFails {b p f} (n : Nat) (apt : Bool) (s : State) (h_ok : OkV b p f (vital s)) : OkV b p f (vital (sourceFails n apt s)) := by
  unfold sourceFails; simp only [vital_mk, vital_foldl, ok_foldl, apply_ite vital, apply_ite (OkV b p f), ite_self, implies_true, h_ok, vital_updSource, vital_logRecord, vital_latchEvent, ok_rngFatalAlarm]

theorem sourceFails_stops (n : Nat) (apt : Bool) (s : State) : vital (sourceFails n apt s) = vital s ∨ (sourceFails n apt s).pow.starting = false := by
  unfold sourceFails
  split
  · exact .inl rfl
  · extract_lets u v
    have hv : vital v = vital s := by
      rw [show vital v = vital (latchEvent 23 u) from vital_logRecord .., vital_latchEvent]; exact vital_updSource _ _ _
    clear_value v
    split
    · exact (rngFatalAlarm_stops _ _ v).imp (·.trans hv) id
    · split
      · exact (rngFatalAlarm_stops _ _ v).imp (·.trans hv) id
      · exact .inl hv

theorem ok_samplesFail {b p f} (n : Nat) (samples : List Bool) (s : State) (h_ok : OkV b p f (vital s)) : OkV b p f (vital (samplesFail n samples s)) := by
  unfold samplesFail; try dsimp only
  repeat' split
  all_goals first | exact h_ok | (simp only [vital_mk, vital_foldl, ok_foldl, apply_ite vital, apply_ite (OkV b p f), ite_self, implies_true, h_ok, ok_sourceFails]; done) | grind [vital_mk, ok_sourceFails]

theorem samplesFail_stops (n : Nat) (samples : List Bool) (s : State) : vital (samplesFail n samples s) = vital s ∨ (samplesFail n samples s).pow.starting = false := by
  unfold samplesFail
  split
  · exact .inl rfl
  · exact sourceFails_stops ..

theorem vital_passedBlock (n : Nat) (samples : List Bool) (tested : Option Bool × Nat) (s : State) : vital (passedBlock n samples tested s) = vital s := by
  unfold passedBlock; simp only [vital_mk, vital_foldl, apply_ite vital, ite_self, implies_true, vital_updSource]

theorem ok_blockArrives {b p f} (n : Nat) (block : BitVec 1024) (s : State) (h_ok : OkV b p f (vital s)) : OkV b p f (vital (blockArrives n block s)) := by
  unfold blockArrives; try dsimp only
  repeat' split
  all_goals first | exact h_ok | (simp only [vital_mk, vital_foldl, ok_foldl, apply_ite vital, apply_ite (OkV b p f), ite_self, implies_true, h_ok, vital_passedBlock, ok_sourceFails]; done) | grind [vital_mk, vital_passedBlock, ok_sourceFails]

theorem blockArrives_stops (n : Nat) (block : BitVec 1024) (s : State) : vital (blockArrives n block s) = vital s ∨ (blockArrives n block s).pow.starting = false := by
  unfold blockArrives
  split
  · exact .inl (vital_passedBlock ..)
  · exact sourceFails_stops ..

theorem vital_completeDraw (n : Nat) (reseed : Bool) (s : State) : vital (completeDraw n reseed s) = vital s := by
  grind [completeDraw, vital, vital_unqueueDraw, vital_offerWork, vital_signalPark, vital_reseedInst, vital_instantiate]

theorem vital_execSourceStartUpDone (source_ : Fin 8) (s : State) : ∀ t, execSourceStartUpDone source_ s = .next t → vital t = vital s := by
  unfold execSourceStartUpDone; rintro t ⟨rfl⟩; simp only [vital_mk, vital_foldl, apply_ite vital, ite_self, implies_true, vital_updSource]

theorem ok_execHealthTestFail {b p f} (source_ : Fin 8) (samples : List Bool) (s : State) (h_ok : OkV b p f (vital s)) : ∀ t, execHealthTestFail source_ samples s = .next t → OkV b p f (vital t) := by
  unfold execHealthTestFail; rintro t ⟨rfl⟩; simp only [vital_mk, vital_foldl, ok_foldl, apply_ite vital, apply_ite (OkV b p f), ite_self, implies_true, h_ok, ok_samplesFail]

theorem vital_execDrbgInstantiateDone (inst : Fin 4129) (s : State) : ∀ t, execDrbgInstantiateDone inst s = .next t → vital t = vital s := by
  unfold execDrbgInstantiateDone; rintro t ⟨rfl⟩; simp only [vital_mk, vital_foldl, apply_ite vital, ite_self, implies_true, vital_completeDraw]

theorem ok_execEntropyBlock {b p f} (source_ : Fin 8) (block : BitVec 1024) (s : State) (h : OkV b p f (vital s)) :
    ∀ t, execEntropyBlock source_ block s = .next t → OkV b p f (vital t) := by
  unfold execEntropyBlock
  intro t ht
  rw [← Host.Outcome.next.inj ht]
  exact ok_ite (ok_blockArrives _ _ _ h) h

theorem vital_execDrbgReseedDone (inst : Fin 4129) (s : State) : ∀ t, execDrbgReseedDone inst s = .next t → vital t = vital s := by
  unfold execDrbgReseedDone; rintro t ⟨rfl⟩; simp only [vital_mk, vital_foldl, apply_ite vital, ite_self, implies_true, vital_completeDraw]

/-! ### StartOps -/

theorem vital_logStep (n : Nat) (outcome : Nat) (s : State) : vital (logStep n outcome s) = vital s := by
  unfold logStep; simp only [vital_mk, vital_foldl, apply_ite vital, ite_self, implies_true, vital_freeBytes, vital_logRecord]

theorem ok_startHalt {b p f} (n : Nat) (s : State) (h : OkV b p f (vital s)) : OkV b p f (vital (startHalt n s)) := by
  have key : ∀ u : State, OkV b p f (vital u) → OkV b p f (vital (setMode .halt { logStep n 1 u with pow := { u.pow with starting := false } })) := by
    intro u hu
    rw [vital_setMode]
    refine ok_powOff (logStep n 1 u) _ ?_ rfl (space_of (vital_logStep n 1 u))
    rw [vital_logStep]; exact hu
  unfold startHalt
  extract_lets bad
  clear_value bad
  cases bad
  · exact key s h
  · exact key { s with cur := { s.cur with fwBad := some s.cur.slot } } h

theorem ok_startSources {b p f} (env : StartEnv) (s : State) (h : OkV b p f (vital s)) : OkV b p f (vital (startSources env s)) := by
  unfold startSources
  refine ok_foldl _ (fun s x h => ok_samplesFail _ _ _ h) _ _ ?_
  rw [vital_foldl _ (fun s x => vital_updSource _ _ _)]; exact h
theorem startSources_stops (env : StartEnv) (s : State) : vital (startSources env s) = vital s ∨ (startSources env s).pow.starting = false := by
  unfold startSources
  exact (stops_foldl _ (fun s x => samplesFail_stops _ _ s) _ _).imp (·.trans (vital_foldl _ (fun s x => vital_updSource _ _ _) _ _)) id

theorem ok_takeBlock {b p f} (i : Nat) (x : BitVec 1024) (s : State) (h : OkV b p f (vital s)) : OkV b p f (vital (takeBlock i x s)) := by
  unfold takeBlock
  split
  · exact h
  · rename_i n _
    have h1 := ok_blockArrives n x s h
    dsimp only
    generalize blockArrives n x s = t at h1
    split
    · split
      · rw [vital_instantiate]; exact h1
      · exact h1
    · exact h1

theorem takeBlock_stops (i : Nat) (x : BitVec 1024) (s : State) : vital (takeBlock i x s) = vital s ∨ (takeBlock i x s).pow.starting = false := by
  unfold takeBlock
  split
  · exact .inl rfl
  · rename_i n _
    refine stops_trans (blockArrives_stops n x s) (.inl ?_)
    dsimp only
    generalize blockArrives n x s = t
    split
    · split
      · exact vital_instantiate ..
      · rfl
    · rfl

theorem ok_deliverBlocks {b p f} (env : StartEnv) (s : State) (h : OkV b p f (vital s)) : OkV b p f (vital (deliverBlocks env s)) := by
  unfold deliverBlocks
  refine ok_foldl _ (fun s x h => ok_takeBlock _ _ _ h) _ _ ?_
  rw [vital_foldl _ (fun s x => vital_updSource _ _ _)]; exact h
theorem deliverBlocks_stops (env : StartEnv) (s : State) : vital (deliverBlocks env s) = vital s ∨ (deliverBlocks env s).pow.starting = false := by
  unfold deliverBlocks
  exact (stops_foldl _ (fun s x => takeBlock_stops _ _ s) _ _).imp (·.trans (vital_foldl _ (fun s x => vital_updSource _ _ _) _ _)) id

theorem vital_seedEngines (s : State) : vital (seedEngines s) = vital s := by
  unfold seedEngines; simp only [vital_mk, vital_foldl, apply_ite vital, ite_self, implies_true, vital_drawBytes, vital_updWing]

theorem vital_startedUp (s : State) : vital (startedUp s) = vital s := by
  rfl

theorem ok_startStep10 {b p f} (env : StartEnv) (s : State) (h : OkV b p f (vital s)) :
    OkV b p f (vital (startStep10 env s).2) ∧
      ((startStep10 env s).1 = true → (startStep10 env s).2.pow.starting = true → (startStep10 env s).2.pow.startStep = s.pow.startStep) := by
  unfold startStep10
  split
  · dsimp only
    have h1 := ok_startHalt 10 s h
    generalize startHalt 10 s = t at h1
    exact ⟨h1, nofun⟩
  · dsimp only
    have ht := ok_startSources env s h
    have hv := startSources_stops env s
    generalize startSources env s = t at ht hv
    split
    · refine ⟨?_, nofun⟩
      rw [vital_logStep]; exact ht
    · have hu := ok_deliverBlocks env t ht
      have hw := stops_trans hv (deliverBlocks_stops env t)
      generalize deliverBlocks env t = u at hu hw
      split
      · exact ⟨hu, nofun⟩
      · have hx : vital (seedEngines (startedUp u)) = vital u := by rw [vital_seedEngines, vital_startedUp]
        generalize seedEngines (startedUp u) = w at hx
        refine ⟨by rw [hx]; exact hu, fun _ hs => ?_⟩
        rcases hw with hw | hw
        · exact (congrArg Vital.startStep hx).trans (congrArg Vital.startStep hw)
        · exact absurd ((hw.symm.trans (congrArg Vital.starting hx).symm).trans hs) nofun

theorem ok_openStart {b p f} (s : State) (h : OkV b p f (vital s)) : OkV b p f (vital (openStart s)) :=
  ⟨h.pending, h.fuses, fun hb hr => ⟨(h.latch hb hr).1, fun _ => Nat.zero_le 1⟩, h.mems⟩

theorem ok_stopMain {b p f} (s : State) (h : OkV b p f (vital s)) : OkV b p f (vital (stopMain s)) := by
  unfold stopMain
  rw [← vital_settleCells s] at h
  generalize settleCells s = t at h
  exact ⟨h.pending, h.fuses, fun hb hr => ⟨(h.latch hb hr).1, nofun⟩, fun hb => ⟨(h.mems hb).1, (h.mems hb).2.1, (h.mems hb).2.2.1, (h.mems hb).2.2.2.1, rfl, (h.mems hb).2.2.2.2.2⟩⟩

theorem vital_takeGrant (s : State) : vital (takeGrant s) = vital s := by
  rfl

theorem vital_clearShadows (s : State) : vital (clearShadows s) = vital s := by
  rfl

theorem vital_withGalleryZero (epoch : Nat) (inst : Nat) (s : State) : vital (withGalleryZero epoch inst s) = vital s := by
  rfl

theorem vital_keepZero (s : State) : vital (keepZero s) = vital s := by
  unfold keepZero; simp only [vital_mk, vital_foldl, apply_ite vital, ite_self, implies_true, vital_withGalleryZero]

theorem vital_startWindows (s : State) : vital (startWindows s) = vital s := by
  unfold startWindows; simp only [vital_mk, vital_foldl, apply_ite vital, ite_self, implies_true, vital_keepZero, vital_refreshWindow]

theorem ok_beginStart {b p f} (s : State) (h : OkV b p f (vital s)) : OkV b p f (vital (beginStart s)) := by
  unfold beginStart
  rw [vital_logTamper, vital_takeGrant]
  refine ok_openStart _ ?_
  rw [vital_clearShadows, vital_startWindows]
  refine ok_stopMain _ ?_
  rw [vital_setMode]
  exact ok_finishBurn _ h

theorem ok_loadState {b p f} (s : State) (h : OkV b p f (vital s)) : OkV b p f (vital (loadState s)) := by
  unfold loadState
  exact ok_armNow _ _ h
theorem loadState_stops (s : State) : vital (loadState s) = vital s ∨ (loadState s).pow.starting = false := by
  unfold loadState
  exact armNow_stops _ _

theorem ok_endStart {b p f} (n : Nat) (s : State) (h : OkV b p f (vital s)) : OkV b p f (vital (endStart n s)) := ok_powOff s _ h rfl rfl

theorem ok_wipeUserRegions {b p f} (blank : Bool) (s : State) (h : OkV b p f (vital s)) : OkV b p f (vital (wipeUserRegions blank s)) :=
  ⟨h.pending, h.fuses, h.latch, fun hb => ⟨rfl, rfl, (h.mems hb).2.2⟩⟩

theorem ok_supplyLost {b p f} (s : State) (hs : s.pow.starting = true → s.pow.startStep ≤ 1) (h : OkV b p f (vital s)) : OkV b p f (vital (supplyLost s)) := by
  unfold supplyLost
  dsimp only
  rw [vital_latchEvent]
  have h2 := ok_eraseLine false s h
  have h3 := vital_eraseLine false s
  generalize eraseLine false s = t at h2 h3
  simp only [vital, Vital.mk.injEq] at h3
  refine ⟨h2.pending, h2.fuses, fun hb _ => ⟨h3.2.2.1, ?_⟩, h2.mems⟩
  simpa [vital, h3] using hs

theorem vital_showSupplyLost (s : State) : vital (showSupplyLost s) = vital s := by
  rfl

theorem vital_markValid (s : State) : vital (markValid s) = vital s := by
  unfold markValid; simp only [vital_mk, vital_foldl, apply_ite vital, ite_self, implies_true]

theorem ok_burnEpoch {b p f} (s : State) (h : OkV b p f (vital s)) : OkV b p f (vital (burnEpoch s)) := by
  unfold burnEpoch
  split
  · exact h
  · dsimp only
    refine ⟨h.pending, fun hb => ?_, h.latch, h.mems⟩
    obtain ⟨⟨h1, h2, h3, h4, h5⟩, h6, h7⟩ := h.fuses hb
    simp only [vital] at *
    split
    · exact ⟨⟨h1, by simp; omega, h3, h4, h5⟩, by simp only [Safety.FuseBudget]; omega⟩
    · exact ⟨⟨h1, h2, h3, fun _ => rfl, h5⟩, h6, h7⟩

theorem ok_startStep1 {b p f} (env : StartEnv) (s : State) (hs : s.pow.startStep = 0) (h : OkV b p f (vital s)) : OkV b p f (vital (startStep1 env s).2) := by
  have h1 : OkV b p f (vital (loadState s)) := ok_loadState _ h
  have hs1 : (loadState s).pow.starting = true → (loadState s).pow.startStep = 0 := fun hc =>
    (loadState_stops s).elim (fun e => (congrArg Vital.startStep e).trans hs) (fun e => absurd (e.symm.trans hc) nofun)
  unfold startStep1
  dsimp only
  generalize loadState s = t at h1 hs1
  split
  · exact h1
  · rename_i hst
    have hs2 : t.pow.startStep = 0 := hs1 (by simpa using hst)
    split
    · exact ok_endStart _ _ h1
    · have h2 : OkV b p f (vital (if t.reg.state = 6 ∧ t.reg.wiped = false then wipeUserRegions env.wipeBlank t else t)) := by
        split
        · exact ok_wipeUserRegions _ _ h1
        · exact h1
      have hs3 : (if t.reg.state = 6 ∧ t.reg.wiped = false then wipeUserRegions env.wipeBlank t else t).pow.startStep = 0 := by
        split
        · exact hs2
        · exact hs2
      generalize (if t.reg.state = 6 ∧ t.reg.wiped = false then wipeUserRegions env.wipeBlank t else t) = v at h2 hs3
      split
      · exact h2
      · split
        · refine ok_fatalError _ _ ?_; rw [vital_logStep]; exact h2
        · have h4 : OkV b p f (vital (if (!v.ao.responded && bit (armed v) 13 && !v.bb.valid) = true then supplyLost v else v)) := by
            split
            · exact ok_supplyLost _ (fun _ => by omega) h2
            · exact h2
          generalize (if (!v.ao.responded && bit (armed v) 13 && !v.bb.valid) = true then supplyLost v else v) = w at h4
          have h5 : OkV b p f (vital (showSupplyLost (markValid (burnEpoch w)))) := by
            rw [vital_showSupplyLost, vital_markValid]; exact ok_burnEpoch _ h4
          generalize showSupplyLost (markValid (burnEpoch w)) = x at h5
          split
          · exact h5
          · split
            · refine ok_endStart _ _ ?_; rw [vital_logStep]; exact h5
            · exact h5

theorem vital_closeDraws (s : State) : vital (closeDraws s) = vital s := by
  unfold closeDraws; simp only [vital_mk, vital_foldl, apply_ite vital, ite_self, implies_true, vital_drawBytes]

theorem ok_startStep2 {b p f} (env : StartEnv) (s : State) (h : OkV b p f (vital s)) :
    OkV b p f (vital (startStep2 env s).2) ∧ ((startStep2 env s).1 = true → (startStep2 env s).2.ao.responded = false) := by
  have h1 : OkV b p f (vital (startHalt 2 s)) := ok_startHalt _ _ h
  have h2 : OkV b p f (vital (setMode .tampered (endStart 2 (logStep 2 0 s)))) := by
    rw [vital_setMode]
    refine ok_endStart _ _ ?_
    rw [vital_logStep]; exact h
  unfold startStep2
  generalize startHalt 2 s = u at h1
  generalize setMode .tampered (endStart 2 (logStep 2 0 s)) = v at h2
  split
  · exact ⟨h1, nofun⟩
  · split
    · exact ⟨h2, nofun⟩
    · rename_i hr
      exact ⟨h, fun _ => by simpa using hr⟩

theorem ok_mustHold {b p f} (n : Nat) (ok : Bool) (s : State) (h_ok : OkV b p f (vital s)) : OkV b p f (vital (mustHold n ok s).2) := by
  grind [mustHold, vital_mk, ok_startHalt]

theorem ok_startStep5 {b p f} (env : StartEnv) (s : State) (h_ok : OkV b p f (vital s)) : OkV b p f (vital (startStep5 env s).2) := by
  unfold startStep5; simp only [vital_mk, vital_foldl, ok_foldl, apply_ite vital, apply_ite (OkV b p f), ite_self, implies_true, h_ok, vital_retireWing, ok_mustHold]

theorem vital_startStep6 (env : StartEnv) (s : State) : vital (startStep6 env s).2 = vital s := by
  unfold startStep6
  split
  · rfl
  · exact vital_foldl _ (fun s x => (vital_logRecord ..).trans (vital_updGal ..)) _ _

theorem vital_dropVitrine (s : State) : vital (dropVitrine s) = vital s := by
  rfl

theorem vital_logLost (s : State) : vital (logLost s) = vital s := by
  unfold logLost; simp only [vital_mk, vital_foldl, apply_ite vital, ite_self, implies_true, vital_logRecord]

theorem vital_startStep7 (env : StartEnv) (s : State) : vital (startStep7 env s).2 = vital s := by
  grind [startStep7, vital, vital_keepZero, vital_dropVitrine, vital_logLost]

theorem ok_eraseBadFirmware {b p f} (s : State) (h : OkV b p f (vital s)) : OkV b p f (vital (eraseBadFirmware s)) := by
  unfold eraseBadFirmware
  split
  · exact h
  · refine ⟨h.pending, h.fuses, h.latch, fun hb => ?_⟩
    have hm := h.mems hb
    simp only [vital] at hm ⊢
    split
    · exact ⟨hm.1, hm.2.1, hm.2.2.1, hm.2.2.2.1, hm.2.2.2.2.1, rfl, hm.2.2.2.2.2.2⟩
    · exact ⟨hm.1, hm.2.1, hm.2.2.1, hm.2.2.2.1, hm.2.2.2.2.1, hm.2.2.2.2.2.1, rfl⟩
theorem eraseBadFirmware_responded (s : State) : (eraseBadFirmware s).ao.responded = s.ao.responded := by
  unfold eraseBadFirmware
  split <;> rfl

theorem vital_loadFirmware (n : Nat) (f : FwImage) (s : State) : vital (loadFirmware n f s) = vital s := by
  rfl

theorem ok_startStep8 {b p f} (s : State) (h_ok : OkV b p f (vital s)) : OkV b p f (vital (startStep8 s).2) := by
  grind [startStep8, vital_mk, vital_selectImage, vital_loadFirmware, ok_eraseBadFirmware, ok_startHalt, ok_mustHold]

theorem ok_startStep9 {b p f} (env : StartEnv) (s : State) (h_ok : OkV b p f (vital s)) : OkV b p f (vital (startStep9 env s).2) := by
  unfold startStep9; simp only [vital_mk, vital_foldl, ok_foldl, apply_ite vital, apply_ite (OkV b p f), ite_self, implies_true, h_ok, ok_mustHold]

theorem ok_readyRegisters {b p f} (ms : Nat) (s : State) (h : OkV b p f (vital s)) : OkV b p f (vital (readyRegisters ms s)) :=
  ⟨h.pending, h.fuses, fun hb hr => ⟨(h.latch hb hr).1, nofun⟩, h.mems⟩

theorem vital_proveFirmware (s : State) : vital (proveFirmware s) = vital s := by
  rfl

theorem vital_applyService (s : State) : vital (applyService s) = vital s := by
  unfold applyService; simp only [vital_mk, vital_foldl, apply_ite vital, ite_self, implies_true]

theorem ok_raiseReady {b p f} (ms : Nat) (s : State) (h : OkV b p f (vital s)) : OkV b p f (vital (raiseReady ms s)) := by
  have h2 : OkV b p f (vital (settleCells (readyRegisters ms (logStep 11 0 (advanceTo (s.pow.startAt + 1000000 * ms) s))))) := by
    rw [vital_settleCells]
    refine ok_readyRegisters _ _ ?_
    rw [vital_logStep, vital_advanceTo]; exact h
  unfold raiseReady
  dsimp only
  generalize settleCells (readyRegisters ms (logStep 11 0 (advanceTo (s.pow.startAt + 1000000 * ms) s))) = t at h2
  have h3 : OkV b p f (vital (if t.reg.state = 2 ∨ t.reg.state = 6 then setMode .diagnostic t else proveFirmware (applyService (setMode .service t)))) := by
    split
    · rw [vital_setMode]; exact h2
    · rw [vital_proveFirmware, vital_applyService, vital_setMode]; exact h2
  generalize (if t.reg.state = 2 ∨ t.reg.state = 6 then setMode .diagnostic t else proveFirmware (applyService (setMode .service t))) = u at h3
  split
  · rw [vital_writeCheckpoint]; exact h3
  · exact h3

theorem vital_checkRegister (s : State) : vital (checkRegister s) = vital s := by
  grind [checkRegister, vital, vital_touchVitrine]

theorem vital_drawRoot_or (s : State) : vital (drawRoot s) = vital s ∨ ∃ r, vital (drawRoot s) = { vital s with root := some r } := by
  unfold drawRoot
  split
  · exact .inl rfl
  · split
    · exact .inl rfl
    · have h := vital_drawBytes 4112 32 s
      generalize drawBytes 4112 32 s = q at h
      obtain ⟨r, u⟩ := q
      refine .inr ⟨r, ?_⟩
      simp only [vital, Vital.mk.injEq] at h ⊢
      simp only [h, and_self]

theorem vital_initVitrine (s : State) : vital (initVitrine s) = vital s := by
  unfold initVitrine
  dsimp only
  rw [vital_touchVitrine, vital_withGalleryZero]
  refine Eq.trans (b := vital (drawBytes 4128 16 _).2) rfl ?_
  rw [vital_drawBytes]; rfl

theorem vital_pinAuthority (s : State) : vital (pinAuthority s) = vital s := by
  unfold pinAuthority; simp only [vital_mk, vital_foldl, apply_ite vital, ite_self, implies_true]

theorem vital_pinCeiling (s : State) : vital (pinCeiling s) = vital s := by
  unfold pinCeiling; simp only [vital_mk, vital_foldl, apply_ite vital, ite_self, implies_true, vital_touchVitrine]

theorem vital_pinFloor (s : State) : vital (pinFloor s) = vital s := by
  unfold pinFloor; simp only [vital_mk, vital_foldl, apply_ite vital, ite_self, implies_true]

theorem vital_readHeaders (s : State) : vital (readHeaders s) = vital s := by
  rfl

theorem vital_resumeNonces (s : State) : vital (resumeNonces s) = vital s := by
  rfl

theorem vital_settleZero (s : State) : vital (settleZero s) = vital s := by
  unfold settleZero; simp only [vital_mk, vital_foldl, apply_ite vital, ite_self, implies_true, vital_updGal]

theorem ok_closeStages {b p f} (s : State) (h : OkV b p f (vital s)) (hr : b.latch → s.ao.responded = false) :
    ∀ e ∈ closeStages s, OkV b p f (vital (e.2 s)) ∧ (e.2 s).ao.responded = s.ao.responded := by
  have same : ∀ t, vital t = vital s → OkV b p f (vital t) ∧ t.ao.responded = s.ao.responded := fun t ht =>
    ⟨by rw [ht]; exact h, congrArg Vital.responded ht⟩
  intro e he
  simp only [closeStages, List.mem_cons, List.not_mem_nil, or_false] at he
  rcases he with rfl | rfl | rfl | rfl | rfl | rfl | rfl | rfl
  · dsimp only
    rcases vital_drawRoot_or s with hv | ⟨r, hv⟩
    · exact same _ hv
    · rw [hv]
      exact ⟨⟨h.pending, h.fuses, fun hb hc => absurd ((hr hb).symm.trans hc) nofun, h.mems⟩, congrArg Vital.responded hv⟩
  · exact same _ (by dsimp only; split; exacts [vital_initVitrine _, rfl])
  · exact same _ (by dsimp only; rw [vital_settleZero, vital_closeDraws])
  · exact same _ (by dsimp only; split; exacts [vital_checkRegister _, rfl])
  · exact same _ (by dsimp only; split; exacts [vital_pinFloor _, rfl])
  · exact same _ (by dsimp only; split; exacts [vital_pinAuthority _, rfl])
  · exact same _ (by dsimp only; split; exacts [vital_pinCeiling _, rfl])
  · exact same _ (by dsimp only; rw [vital_readHeaders, vital_resumeNonces, vital_copyToCurator])
theorem ok_startClose {b p f} (env : StartEnv) (s : State) (h : OkV b p f (vital s)) (hr : b.latch → s.ao.responded = false) :
    OkV b p f (vital (startClose env s).2) ∧ ((startClose env s).1 = true → (startClose env s).2.ao.responded = s.ao.responded) := by
  have hc := ok_closeStages s h hr
  have h1 := ok_raiseReady env.ms s h
  unfold startClose
  generalize raiseReady env.ms s = u at h1
  split
  · exact ⟨h1, nofun⟩
  · rename_i hg
    have := hc _ (List.mem_of_getElem? hg)
    split
    · exact ⟨h, nofun⟩
    · exact ⟨this.1, fun _ => this.2⟩

theorem ok_startStepOf {b p f} (n : Nat) (env : StartEnv) (s : State) (hn : s.pow.startStep + 1 = n ∨ (10 ≤ s.pow.startStep ∧ 11 ≤ n)) (hs : s.pow.starting = true)
    (h : OkV b p f (vital s)) :
    OkV b p f (vital (startStepOf n env s).2) ∧
      ((startStepOf n env s).1 = true → b.latch → (startStepOf n env s).2.ao.responded = true → (startStepOf n env s).2.pow.starting = true → n ≤ 1) := by
  have hr : b.latch → 2 ≤ s.pow.startStep → s.ao.responded = false := by
    intro hb h2
    cases hc : s.ao.responded
    · rfl
    · have := (h.latch hb hc).2 hs
      simp only [vital] at this
      omega
  have same : ∀ t : State, t.ao.responded = s.ao.responded → 2 ≤ s.pow.startStep → b.latch → t.ao.responded = true → t.pow.starting = true → n ≤ 1 := by
    intro t h3 h2 hb hc
    rw [h3, hr hb h2] at hc
    exact absurd hc nofun
  have step : ∀ t : State, OkV b p f (vital t) → t.pow.startStep = s.pow.startStep → 2 ≤ s.pow.startStep → b.latch → t.ao.responded = true → t.pow.starting = true → n ≤ 1 := by
    intro t ht hv h2 hb hc h4
    have := (ht.latch hb hc).2 h4
    simp only [vital] at this
    omega
  have keep : ∀ (m : Nat) (e : StepEnd), vital e.2 = vital s → 2 ≤ s.pow.startStep →
      OkV b p f (vital e.2) ∧ (e.1 = true → b.latch → e.2.ao.responded = true → e.2.pow.starting = true → n ≤ 1) :=
    fun _ e hv h2 => ⟨by rw [hv]; exact h, fun _ => same e.2 (congrArg Vital.responded hv) h2⟩
  have must : ∀ (m : Nat) (ok : Bool) (t : State), OkV b p f (vital t) → t.ao.responded = s.ao.responded → 2 ≤ s.pow.startStep →
      OkV b p f (vital (mustHold m ok t).2) ∧ ((mustHold m ok t).1 = true → b.latch → (mustHold m ok t).2.ao.responded = true → (mustHold m ok t).2.pow.starting = true → n ≤ 1) := by
    intro m ok t ht hv h2
    unfold mustHold
    have h1 : OkV b p f (vital (startHalt m t)) := ok_startHalt _ _ ht
    generalize startHalt m t = w at h1
    cases ok
    · exact ⟨h1, nofun⟩
    · exact ⟨ht, fun _ => same t hv h2⟩
  unfold startStepOf
  split
  · exact ⟨ok_startStep1 _ _ (by omega) h, fun _ _ _ _ => by omega⟩
  · have := ok_startStep2 env s h
    exact ⟨this.1, fun hg _ hc => absurd ((this.2 hg).symm.trans hc) nofun⟩
  · exact ⟨h, fun _ => same s rfl (by omega)⟩
  · exact must _ _ _ h rfl (by omega)
  · unfold startStep5
    have hv := vital_foldl (fun s w => retireWing w s) (fun s x => vital_retireWing ..) (env.badWings.filter (· < 16)) s
    exact must _ _ _ (by rw [hv]; exact h) (congrArg Vital.responded hv) (by omega)
  · exact keep 6 _ (vital_startStep6 ..) (by omega)
  · exact keep 7 _ (vital_startStep7 ..) (by omega)
  · unfold startStep8
    dsimp only
    have h0 : OkV b p f (vital (eraseBadFirmware s)) := ok_eraseBadFirmware s h
    have hq := eraseBadFirmware_responded s
    generalize eraseBadFirmware s = t at h0 hq
    have h1 : OkV b p f (vital (startHalt 8 t)) := ok_startHalt _ _ h0
    generalize startHalt 8 t = w at h1
    split
    · exact ⟨h1, nofun⟩
    · rename_i n f _
      have hv : vital (selectImage (loadFirmware n f t)).2 = vital t := by rw [vital_selectImage, vital_loadFirmware]
      exact must _ _ _ (by rw [hv]; exact h0) ((congrArg Vital.responded hv).trans hq) (by omega)
  · unfold startStep9
    exact must _ _ _ h rfl (by omega)
  · have := ok_startStep10 env s h
    exact ⟨this.1, fun hg hb hc h4 => step _ this.1 (this.2 hg h4) (by omega) hb hc h4⟩
  · rename_i hne
    have h11 : 2 ≤ s.pow.startStep := by
      by_cases h2 : 2 ≤ s.pow.startStep
      · exact h2
      · exfalso
        have : n = 1 ∨ n = 2 := by omega
        rcases this with rfl | rfl
        · simp_all
        · simp_all
    have h3 := ok_startClose env s h (fun hb => hr hb h11)
    exact ⟨h3.1, fun hg hb hc _ => absurd (((h3.2 hg).trans (hr hb h11)).symm.trans hc) nofun⟩

theorem ok_stepDone {b p f} (n : Nat) (env : StartEnv) (s : State) (h : OkV b p f (vital s))
    (hn : b.latch → s.ao.responded = true → s.pow.starting = true → n ≤ 1) : OkV b p f (vital (stepDone n env s)) := by
  unfold stepDone
  split
  · have hv := vital_logStep n (stepOutcome n env) s
    generalize logStep n (stepOutcome n env) s = t at hv
    have h2 : OkV b p f (vital t) := by rw [hv]; exact h
    refine ⟨h2.pending, h2.fuses, fun hb hc => ⟨(h2.latch hb hc).1, fun hd => ?_⟩, fun hb => ?_⟩
    · refine hn hb ((congrArg Vital.responded hv).symm.trans hc) hd
    · have h3 := h.mems hb
      rw [← hv] at h3
      simp only [vital] at h3 ⊢
      have := congrArg Vital.space hv
      simp only [vital] at this
      rw [← this]; exact h3
  · exact h

theorem ok_startSteps {b p f} (upTo : Nat) (env : StartEnv) (fuel : Nat) (s : State) (h : OkV b p f (vital s)) : OkV b p f (vital (startSteps upTo env fuel s)) := by
  induction fuel generalizing s with
  | zero => exact h
  | succ k ih =>
    unfold startSteps
    dsimp only
    split
    · exact h
    · rename_i hc
      have hs : s.pow.starting = true := by
        cases hx : s.pow.starting
        · simp [hx] at hc
        · rfl
      have hn : s.pow.startStep + 1 = nextStep s ∨ (10 ≤ s.pow.startStep ∧ 11 ≤ nextStep s) := by unfold nextStep; split <;> omega
      have h2 := ok_startStepOf (nextStep s) env s hn hs h
      generalize startStepOf (nextStep s) env s = e at h2
      obtain ⟨go, t⟩ := e
      dsimp only at h2 ⊢
      split
      · rename_i hg
        exact ih _ (ok_stepDone _ _ _ h2.1 (h2.2 hg))
      · exact h2.1

theorem ok_resetRegisters {b p f} (s : State) (h : OkV b p f (vital s)) : OkV b p f (vital (resetRegisters s)) :=
  ⟨h.pending, h.fuses, fun hb hr => ⟨(h.latch hb hr).1, fun _ => Nat.zero_le 1⟩, h.mems⟩

theorem ok_execStart {b p f} (upTo : Fin 20) (env : StartEnv) (s : State) (h_ok : OkV b p f (vital s)) : ∀ t, execStart upTo env s = .next t → OkV b p f (vital t) := by
  unfold execStart; rintro t ⟨rfl⟩; simp only [vital_mk, vital_foldl, ok_foldl, apply_ite vital, apply_ite (OkV b p f), ite_self, implies_true, h_ok, ok_startSteps]

end Sys2Proof.Machine
end

