-- ==== Sys2Proof/Laws/VitalUnits.lean ====
section
/-! SUPPORT. For each operation of the units, power, the Curator, counters, BAR and pair: it leaves the vital fields of the state as they are (`vital_f`), or it keeps the invariants
on them (`ok_f`). -/

open Sys2Proof

set_option linter.unusedSimpArgs false

namespace Sys2Proof.Machine

/-! ### PkuOps -/

theorem vital_pkuOp (cell : Nat) (op : Nat) (word : Sys2Proof.W64) (run : Nat → Nat → State → State) (s : State) (h_run : ∀ x0 x1 x2, vital (run x0 x1 x2) = vital x2) : vital (pkuOp cell op word run s) = vital s := by
  grind [pkuOp, vital, vital_raisePku]

theorem vital_pkuAlarm (w : Nat) (b : Nat) (code : Nat) (s : State) : vital (pkuAlarm w b code s) = vital s := by
  unfold pkuAlarm; simp only [vital_mk, vital_foldl, apply_ite vital, ite_self, implies_true, vital_countEvent, vital_raisePku, vital_freePku, vital_updPku, vital_wingError, vital_commandError]

theorem vital_pkuMac (w : Nat) (shift : Bool) (word : Nat) (s : State) : vital (pkuMac w shift word s) = vital s := by
  unfold pkuMac; simp only [vital_mk, vital_foldl, apply_ite vital, ite_self, implies_true, vital_pkuAlarm, vital_updPku]

theorem vital_execMacShift (cell : Fin 128) (word : Sys2Proof.W64) (s : State) : ∀ t, execMacShift cell word s = .next t → vital t = vital s := by
  unfold execMacShift; rintro t ⟨rfl⟩; simp only [vital_mk, vital_foldl, apply_ite vital, ite_self, implies_true, vital_offerWork, vital_pkuOp, vital_pkuMac]

theorem vital_pkuLoad (w : Nat) (word : Nat) (s : State) : vital (pkuLoad w word s) = vital s := by
  unfold pkuLoad; simp only [vital_mk, vital_foldl, apply_ite vital, ite_self, implies_true, vital_pkuAlarm, vital_updPku]

theorem vital_execPkuCfgWrite (cell : Fin 128) (value : Sys2Proof.W64) (qinv : Option Sys2Proof.W64) (s : State) : ∀ t, execPkuCfgWrite cell value qinv s = .next t → vital t = vital s := by
  unfold execPkuCfgWrite; try dsimp only
  repeat' split
  all_goals first | (rintro t ⟨rfl⟩; first | rfl | (simp only [vital_mk, vital_foldl, apply_ite vital, ite_self, implies_true, vital_updPku, vital_raisePku]; done) | grind [vital, vital_updPku, vital_raisePku]) | grind [vital, vital_updPku, vital_raisePku]

theorem vital_grantPku (w : Nat) (wiped : Bool) (s : State) : vital (grantPku w wiped s) = vital s := by
  grind [grantPku, vital, vital_updPku, vital_stampGrant, vital_countEvent]

theorem vital_serveClaims (w : Nat) (s : State) : vital (serveClaims w s) = vital s := by
  grind [serveClaims, vital, vital_updPku, vital_grantPku]

theorem vital_execPkuHoldOverrun (wing : Fin 16) (s : State) : ∀ t, execPkuHoldOverrun wing s = .next t → vital t = vital s := by
  grind [execPkuHoldOverrun, vital, vital_advanceTo, vital_countEvent, vital_serveClaims, vital_raisePku, vital_freePku, vital_offerWork, vital_commandError]

theorem vital_execPkuFaultAlarm (wing : Fin 16) (s : State) : ∀ t, execPkuFaultAlarm wing s = .next t → vital t = vital s := by
  unfold execPkuFaultAlarm; rintro t ⟨rfl⟩; simp only [vital_mk, vital_foldl, apply_ite vital, ite_self, implies_true, vital_offerWork, vital_pkuAlarm]

theorem ok_dmaOut {b p f} (w word : Nat) (data : Bytes) (s : State) (h : OkV b p f (vital s)) : OkV b p f (vital (dmaOut w word data s)) := by
  unfold dmaOut
  dsimp only
  split
  · rw [← vital_countEvent w 19 (bits word 16 11 + 1) (some (wing s w).pku.gallery) s] at h
    generalize countEvent w 19 (bits word 16 11 + 1) (some (wing s w).pku.gallery) s = t at h
    exact ⟨h.pending, h.fuses, h.latch, fun hb => ⟨(h.mems hb).1, (h.mems hb).2.1, (h.mems hb).2.2.1, (h.mems hb).2.2.2.1, memWf_memWriteBytes _ _ (h.mems hb).2.2.2.2.1, (h.mems hb).2.2.2.2.2⟩⟩
  · rw [vital_updWing, vital_countEvent]; exact h

theorem vital_dmaIn (w : Nat) (word : Nat) (s : State) : vital (dmaIn w word s) = vital s := by
  unfold dmaIn; simp only [vital_mk, vital_foldl, apply_ite vital, ite_self, implies_true, vital_pkuAlarm, vital_countEvent, vital_updPku]

theorem ok_completeDma {b p f} (w : Nat) (s : State) (h_ok : OkV b p f (vital s)) : OkV b p f (vital (completeDma w s)) := by
  unfold completeDma; try dsimp only
  repeat' split
  all_goals first | exact h_ok | (simp only [vital_mk, vital_foldl, ok_foldl, apply_ite vital, apply_ite (OkV b p f), ite_self, implies_true, h_ok, vital_updPku, vital_dmaIn, ok_dmaOut]; done) | grind [vital_mk, vital_updPku, vital_dmaIn, ok_dmaOut]

theorem ok_startDma {b p f} (cell : Nat) (out : Bool) (word : Sys2Proof.W64) (s : State) (h_ok : OkV b p f (vital s)) : OkV b p f (vital (startDma cell out word s)) := by
  unfold startDma; simp only [vital_mk, vital_foldl, ok_foldl, apply_ite vital, apply_ite (OkV b p f), ite_self, implies_true, h_ok, vital_offerWork, vital_commandError, vital_raisePku, vital_denyAccess, vital_updPku, ok_completeDma]

theorem vital_allocatePages (cell : Nat) (pages : List Nat) (s : State) : vital (allocatePages cell pages s) = vital s := by
  grind [allocatePages, vital]

theorem ok_execPkuDmaOut {b p f} (cell : Fin 128) (word : Sys2Proof.W64) (pages : List Nat) (s : State) (h_ok : OkV b p f (vital s)) : ∀ t, execPkuDmaOut cell word pages s = .next t → OkV b p f (vital t) := by
  unfold execPkuDmaOut; rintro t ⟨rfl⟩; simp only [vital_mk, vital_foldl, ok_foldl, apply_ite vital, apply_ite (OkV b p f), ite_self, implies_true, h_ok, vital_allocatePages, ok_startDma]

theorem vital_pkuStore (w : Nat) (word : Nat) (s : State) : vital (pkuStore w word s) = vital s := by
  unfold pkuStore; simp only [vital_mk, vital_foldl, apply_ite vital, ite_self, implies_true, vital_updPku]

theorem vital_execStoreAcc (cell : Fin 128) (word : Sys2Proof.W64) (s : State) : ∀ t, execStoreAcc cell word s = .next t → vital t = vital s := by
  unfold execStoreAcc; rintro t ⟨rfl⟩; simp only [vital_mk, vital_foldl, apply_ite vital, ite_self, implies_true, vital_pkuOp, vital_pkuStore]

theorem vital_execPkuAbandon (cell : Fin 128) (s : State) : ∀ t, execPkuAbandon cell s = .next t → vital t = vital s := by
  grind [execPkuAbandon, vital, vital_serveClaims, vital_freePku]

theorem vital_execPkuSelfCheckDone (wing : Fin 16) (pass : Bool) (s : State) : ∀ t, execPkuSelfCheckDone wing pass s = .next t → vital t = vital s := by
  grind [execPkuSelfCheckDone, vital, vital_serveClaims, vital_updPku, vital_offerWork, vital_wingError]

theorem ok_execPkuDmaIn {b p f} (cell : Fin 128) (word : Sys2Proof.W64) (stores : List (Nat × Sys2Proof.Bytes)) (pages : List Nat) (s : State) (h_ok : OkV b p f (vital s)) : ∀ t, execPkuDmaIn cell word stores pages s = .next t → OkV b p f (vital t) := by
  unfold execPkuDmaIn; rintro t ⟨rfl⟩; simp only [vital_mk, vital_foldl, ok_foldl, apply_ite vital, apply_ite (OkV b p f), ite_self, implies_true, h_ok, vital_allocatePages, vital_cellWrites, ok_startDma]

theorem vital_readPkuGrant (cell : Nat) (s : State) : vital (readPkuGrant cell s) = vital s := by
  unfold readPkuGrant; simp only [vital_mk, vital_foldl, apply_ite vital, ite_self, implies_true, vital_updPku]

theorem vital_execLoadAcc (cell : Fin 128) (word : Sys2Proof.W64) (s : State) : ∀ t, execLoadAcc cell word s = .next t → vital t = vital s := by
  unfold execLoadAcc; rintro t ⟨rfl⟩; simp only [vital_mk, vital_foldl, apply_ite vital, ite_self, implies_true, vital_offerWork, vital_pkuOp, vital_pkuLoad]

theorem vital_execPkuWipeDone (wing : Fin 16) (ok : Bool) (s : State) : ∀ t, execPkuWipeDone wing ok s = .next t → vital t = vital s := by
  grind [execPkuWipeDone, vital, vital_advanceTo, vital_countEvent, vital_offerWork, vital_pkuAlarm, vital_updPku, vital_grantPku]

theorem vital_claimPku (cell : Nat) (s : State) : vital (claimPku cell s) = vital s := by
  grind [claimPku, vital, vital_updPku, vital_updWing, vital_serveClaims]

theorem vital_execPkuClaim (cell : Fin 128) (s : State) : ∀ t, execPkuClaim cell s = .next t → vital t = vital s := by
  unfold execPkuClaim; rintro t ⟨rfl⟩; simp only [vital_mk, vital_foldl, apply_ite vital, ite_self, implies_true, vital_claimPku]

theorem vital_execPkuGrantRead (cell : Fin 128) (s : State) : ∀ t, execPkuGrantRead cell s = .next t → vital t = vital s := by
  unfold execPkuGrantRead; rintro t ⟨rfl⟩; simp only [vital_mk, vital_foldl, apply_ite vital, ite_self, implies_true, vital_readPkuGrant]

theorem ok_execPkuRelease {b p f} (cell : Fin 128) (s : State) (h_ok : OkV b p f (vital s)) : ∀ t, execPkuRelease cell s = .next t → OkV b p f (vital t) := by
  unfold execPkuRelease; try dsimp only
  repeat' split
  all_goals (intro t ht; simp only [Host.Outcome.next.injEq, reduceCtorEq] at ht; try rw [← ht])
  all_goals first | exact h_ok | (simp only [vital_mk, vital_foldl, ok_foldl, apply_ite vital, apply_ite (OkV b p f), ite_self, implies_true, h_ok, vital_offerWork, vital_serveClaims, vital_freePku, ok_completeDma]; done) | grind [vital_mk, vital_offerWork, vital_serveClaims, vital_freePku, ok_completeDma]

theorem vital_execMac (cell : Fin 128) (word : Sys2Proof.W64) (s : State) : ∀ t, execMac cell word s = .next t → vital t = vital s := by
  unfold execMac; rintro t ⟨rfl⟩; simp only [vital_mk, vital_foldl, apply_ite vital, ite_self, implies_true, vital_offerWork, vital_pkuOp, vital_pkuMac]

theorem ok_execPkuDmaDone {b p f} (wing : Fin 16) (s : State) (h_ok : OkV b p f (vital s)) : ∀ t, execPkuDmaDone wing s = .next t → OkV b p f (vital t) := by
  unfold execPkuDmaDone; rintro t ⟨rfl⟩; simp only [vital_mk, vital_foldl, ok_foldl, apply_ite vital, apply_ite (OkV b p f), ite_self, implies_true, h_ok, vital_offerWork, ok_completeDma]

theorem ok_execPkuStatusRead {b p f} (cell : Fin 128) (s : State) (h_ok : OkV b p f (vital s)) : ∀ t, execPkuStatusRead cell s = .next t → OkV b p f (vital t) := by
  unfold execPkuStatusRead; rintro t ⟨rfl⟩; simp only [vital_mk, vital_foldl, ok_foldl, apply_ite vital, apply_ite (OkV b p f), ite_self, implies_true, h_ok, vital_offerWork, vital_updPku, ok_completeDma]

/-! ### PowerOps -/

theorem vital_askSetpoint (mv : Nat) (s : State) : vital (askSetpoint mv s) = vital s := by
  unfold askSetpoint; simp only [vital_mk, vital_foldl, apply_ite vital, ite_self, implies_true]

theorem vital_changeClock (f : State → State) (s : State) (h : ∀ x, vital (f x) = vital x) : vital (changeClock f s) = vital s := by
  unfold changeClock
  dsimp only
  refine (vital_foldl _ (fun s x => ?_) _ _).trans ?_
  · split
    · rfl
    · exact vital_updWing ..
  · rw [h, vital_settleCells]
    exact vital_foldl _ (fun s x => by rw [vital_settlePku, vital_settleEngine, vital_settleEngine]) _ _

theorem vital_endStep (n : Nat) (s : State) : vital (endStep n s) = vital s := by
  unfold endStep; simp only [vital_mk, vital_foldl, apply_ite vital, ite_self, implies_true, vital_latchEvent, vital_changeClock]

theorem vital_execThermalReturn (s : State) : ∀ t, execThermalReturn s = .next t → vital t = vital s := by
  grind [execThermalReturn, vital, vital_advanceTo, vital_askSetpoint, vital_endStep]

theorem vital_stepDown (n : Nat) (s : State) : vital (stepDown n s) = vital s := by
  unfold stepDown; simp only [vital_mk, vital_foldl, apply_ite vital, ite_self, implies_true, vital_changeClock, vital_latchEvent, vital_askSetpoint]

theorem ok_loseAlwaysOn {b p f} (s : State) (h : OkV b p f (vital s)) : OkV b p f (vital (loseAlwaysOn s)) :=
  ⟨h.pending, h.fuses, fun _ => nofun, h.mems⟩

theorem ok_loseVaux {b p f} (s : State) (h : OkV b p f (vital s)) : OkV b p f (vital (loseVaux s)) := by
  unfold loseVaux
  have h2 : OkV b p f (vital { s with
    ao := { s.ao with vaux := false }
    vit := { s.vit with retained := s.vit.retained && s.pow.main }
    cur := { s.cur with logSram := [], buffered := [], inBuf := [], outBuf := [], inLen := 0, submit := false, outLen := 0, outValid := false, update := none }
    img := { s.img with sramDigests := (none, none), sramSet := none, sramCeiling := none, sramPin := (none, 0) } }) :=
    ⟨h.pending, h.fuses, h.latch, fun hb => ⟨(h.mems hb).1, (h.mems hb).2.1, rfl, rfl, (h.mems hb).2.2.2.2⟩⟩
  dsimp only
  split
  · exact h2
  · exact ok_loseAlwaysOn _ h2

theorem ok_execVauxLoss {b p f} (s : State) (h_ok : OkV b p f (vital s)) : ∀ t, execVauxLoss s = .next t → OkV b p f (vital t) := by
  unfold execVauxLoss; rintro t ⟨rfl⟩; simp only [vital_mk, vital_foldl, ok_foldl, apply_ite vital, apply_ite (OkV b p f), ite_self, implies_true, h_ok, ok_loseVaux]

theorem ok_alwaysOnUp {b p f} (vaux vbat : Bool) (s : State) (h : OkV b p f (vital s)) : OkV b p f (vital (alwaysOnUp vaux vbat s)) :=
  ⟨h.pending, h.fuses, fun _ => nofun, h.mems⟩

theorem ok_execAlwaysOnPowerUp {b p f} (vaux : Bool) (vbat : Bool) (s : State) (h_ok : OkV b p f (vital s)) : ∀ t, execAlwaysOnPowerUp vaux vbat s = .next t → OkV b p f (vital t) := by
  unfold execAlwaysOnPowerUp; rintro t ⟨rfl⟩; simp only [vital_mk, vital_foldl, ok_foldl, apply_ite vital, apply_ite (OkV b p f), ite_self, implies_true, h_ok, ok_alwaysOnUp]

theorem ok_execVauxRestore {b p f} (s : State) (h_ok : OkV b p f (vital s)) : ∀ t, execVauxRestore s = .next t → OkV b p f (vital t) := by
  unfold execVauxRestore; try dsimp only
  repeat' split
  all_goals (intro t ht; simp only [Host.Outcome.next.injEq, reduceCtorEq] at ht; try rw [← ht])
  all_goals first | exact h_ok | (simp only [vital_mk, vital_foldl, ok_foldl, apply_ite vital, apply_ite (OkV b p f), ite_self, implies_true, h_ok, vital_logTamper, ok_alwaysOnUp]; done) | grind [vital_mk, vital_logTamper, ok_alwaysOnUp]

theorem vital_modeDone (t : Nat) (s : State) : vital (modeDone t s) = vital s := by
  unfold modeDone; simp only [vital_mk, vital_foldl, apply_ite vital, ite_self, implies_true, vital_answerFn, vital_latchEvent]

theorem ok_breakBurn {b p f} (s : State) (h : OkV b p f (vital s)) : OkV b p f (vital (breakBurn s)) :=
  ⟨h.pending, fun hb => ⟨fusesGrow_record (h.fuses hb).1, (h.fuses hb).2⟩, h.latch, h.mems⟩

theorem ok_enterVault {b p f} (g6Kept : Bool) (s : State) (h_ok : OkV b p f (vital s)) : OkV b p f (vital (enterVault g6Kept s)) := by
  unfold enterVault; simp only [vital_mk, vital_foldl, ok_foldl, apply_ite vital, apply_ite (OkV b p f), ite_self, implies_true, h_ok, vital_setMode, ok_stopMain, ok_breakBurn]

theorem ok_execMainPowerFail {b p f} (g6Kept : Bool) (s : State) (h_ok : OkV b p f (vital s)) : ∀ t, execMainPowerFail g6Kept s = .next t → OkV b p f (vital t) := by
  unfold execMainPowerFail; rintro t ⟨rfl⟩; simp only [vital_mk, vital_foldl, ok_foldl, apply_ite vital, apply_ite (OkV b p f), ite_self, implies_true, h_ok, ok_enterVault]

theorem ok_startIfReleased {b p f} (s : State) (h_ok : OkV b p f (vital s)) : OkV b p f (vital (startIfReleased s)) := by
  unfold startIfReleased; simp only [vital_mk, vital_foldl, ok_foldl, apply_ite vital, apply_ite (OkV b p f), ite_self, implies_true, h_ok, ok_beginStart]

theorem vital_pulseSeen (lowNs : Nat) (s : State) : vital (pulseSeen lowNs s).2 = vital s := by
  grind [pulseSeen, vital, vital_freeNumber]

theorem ok_endMode {b p f} (s : State) (h_ok : OkV b p f (vital s)) : OkV b p f (vital (endMode s)) := by
  unfold endMode; simp only [vital_mk, vital_foldl, ok_foldl, apply_ite vital, apply_ite (OkV b p f), ite_self, implies_true, h_ok, vital_setMode, ok_stopMain, ok_finishBurn]

theorem ok_execPerstAssert {b p f} (lowNs : Nat) (s : State) (h_ok : OkV b p f (vital s)) : ∀ t, execPerstAssert lowNs s = .next t → OkV b p f (vital t) := by
  unfold execPerstAssert; try dsimp only
  repeat' split
  all_goals (intro t ht; simp only [Host.Outcome.next.injEq, reduceCtorEq] at ht; try rw [← ht])
  all_goals first | exact h_ok | (simp only [vital_mk, vital_foldl, ok_foldl, apply_ite vital, apply_ite (OkV b p f), ite_self, implies_true, h_ok, vital_pulseSeen, ok_endMode]; done) | grind [vital_mk, vital_pulseSeen, ok_endMode]

theorem ok_updUlond {b p f} (n : Nat) (g : Mem → Mem) (hg : ∀ m, memWf 0xFF m = true → memWf 0xFF (g m) = true) (s : State) (h : OkV b p f (vital s)) : OkV b p f (vital (updUlond n g s)) := by
  unfold updUlond
  refine ⟨h.pending, h.fuses, h.latch, fun hb => ?_⟩
  simp only [vital]
  split
  · exact ⟨hg _ (h.mems hb).1, (h.mems hb).2⟩
  · exact ⟨(h.mems hb).1, hg _ (h.mems hb).2.1, (h.mems hb).2.2⟩

theorem ok_eraseUlondHeader {b p f} (s : State) (h : OkV b p f (vital s)) : OkV b p f (vital (eraseUlondHeader s)) := by
  unfold eraseUlondHeader
  exact ok_updUlond _ _ (fun m hm => memWf_filter _ hm) s h

theorem ok_setFwData {b p f} (n : Nat) (m : Mem) (s : State) (hm : b.mems → memWf 0xFF m = true) (h : OkV b p f (vital s)) : OkV b p f (vital (setFwData n m s)) := by
  unfold setFwData
  refine ⟨h.pending, h.fuses, h.latch, fun hb => ?_⟩
  have hs := h.mems hb
  simp only [vital] at hs ⊢
  split
  · exact ⟨hs.1, hs.2.1, hs.2.2.1, hs.2.2.2.1, hs.2.2.2.2.1, hm hb, hs.2.2.2.2.2.2⟩
  · exact ⟨hs.1, hs.2.1, hs.2.2.1, hs.2.2.2.1, hs.2.2.2.2.1, hs.2.2.2.2.2.1, hm hb⟩
theorem fwData_wf {b p f} (n : Nat) {s : State} (h : OkV b p f (vital s)) (hb : b.mems) : memWf 0xFF (fwData n s) = true := by
  have hs := h.mems hb
  simp only [vital] at hs
  unfold fwData
  split
  · exact hs.2.2.2.2.2.1
  · exact hs.2.2.2.2.2.2

theorem vital_setFirmware (n : Nat) (f : Option FwImage) (s : State) : vital (setFirmware n f s) = vital s := by
  grind [setFirmware, vital]

theorem ok_eraseFirmware {b p f} (n : Nat) (s : State) (h : OkV b p f (vital s)) : OkV b p f (vital (eraseFirmware n s)) :=
  ok_setFwData n [] _ (fun _ => rfl) (by rw [vital_setFirmware]; exact h)

theorem ok_eraseStaged {b p f} (u : Update) (s : State) (h_ok : OkV b p f (vital s)) : OkV b p f (vital (eraseStaged u s)) := by
  unfold eraseStaged; simp only [vital_mk, vital_foldl, ok_foldl, apply_ite vital, apply_ite (OkV b p f), ite_self, implies_true, h_ok, ok_eraseUlondHeader, ok_eraseFirmware]

theorem ok_abandonUpdate {b p f} (s : State) (h_ok : OkV b p f (vital s)) : OkV b p f (vital (abandonUpdate s)) := by
  grind [abandonUpdate, vital_mk, vital_setMode, ok_eraseStaged]

theorem vital_wakeWing (w : Nat) (s : State) : vital (wakeWing w s) = vital s := by
  unfold wakeWing; simp only [vital_mk, vital_foldl, apply_ite vital, ite_self, implies_true, vital_updWing]

theorem vital_wakeAll (s : State) : vital (wakeAll s) = vital s := by
  unfold wakeAll; simp only [vital_mk, vital_foldl, apply_ite vital, ite_self, implies_true, vital_wakeWing]

theorem vital_finishSwitch (s : State) : vital (finishSwitch s) = vital s := by
  unfold finishSwitch
  split
  · rfl
  · dsimp only
    have hm : ∀ (s : State) m, vital (withMode (fun p => { p with service := m, clockMode := m, switchTo := none, switchTicket := none, switching := [], pending := false }) s) = vital s :=
      fun s m => vital_withMode _ _ (fun _ => ⟨rfl, rfl, rfl⟩)
    split <;> simp only [apply_ite vital, vital_answerFn, vital_latchEvent, vital_wakeAll, vital_askSetpoint, hm, vital_settleCells, ite_self]

theorem vital_placeWing (p : WingPower) (w : Nat) (s : State) : vital (placeWing p w s) = vital s := by
  unfold placeWing; simp only [vital_mk, vital_foldl, apply_ite vital, ite_self, implies_true, vital_wakeWing, vital_updWing, vital_settleWingCells]

theorem vital_placeWings (t : Nat) (s : State) : vital (placeWings t s) = vital s := by
  unfold placeWings; simp only [vital_mk, vital_foldl, apply_ite vital, ite_self, implies_true, vital_placeWing, vital_setDuty]

theorem vital_enterQuiesce (ticket : Option Nat) (drainNs : Nat) (forUpdate : Bool) (s : State) : vital (enterQuiesce ticket drainNs forUpdate s) = vital s := by
  unfold enterQuiesce; simp only [vital_mk, vital_foldl, apply_ite vital, ite_self, implies_true, vital_beginWithdraw, vital_closeCeremony, vital_setMode]

theorem vital_execWingWakeRequest (s : State) : ∀ t, execWingWakeRequest s = .next t → vital t = vital s := by
  unfold execWingWakeRequest; try dsimp only
  repeat' split
  all_goals first | (rintro t ⟨rfl⟩; first | rfl | (simp only [vital_mk, vital_foldl, apply_ite vital, ite_self, implies_true, vital_wakeWing]; done) | grind [vital, vital_wakeWing]) | grind [vital, vital_wakeWing]

theorem vital_execAvsbusTimeout (s : State) : ∀ t, execAvsbusTimeout s = .next t → vital t = vital s := by
  grind [execAvsbusTimeout, vital, vital_logRecord]

theorem vital_askService (t : Nat) (m : Nat) (s : State) : vital (askService t m s) = vital s := by
  unfold askService; simp only [vital_mk, vital_foldl, apply_ite vital, ite_self, implies_true, vital_closeCeremony, vital_setMode, vital_modeDone]

theorem vital_execWingWakeDone (wing : Fin 16) (s : State) : ∀ t, execWingWakeDone wing s = .next t → vital t = vital s := by
  grind [execWingWakeDone, vital, vital_setDuty, vital_updWing, vital_settleWingCells, vital_offerWork, vital_serveClaims, vital_grantNext]

theorem vital_execThermalEstimate (hottest : ℤ) (power : Nat) (s : State) : ∀ t, execThermalEstimate hottest power s = .next t → vital t = vital s := by
  grind [execThermalEstimate, vital, vital_stepDown]

theorem ok_execPwronResetAssert {b p f} (lowNs : Nat) (s : State) (h_ok : OkV b p f (vital s)) : ∀ t, execPwronResetAssert lowNs s = .next t → OkV b p f (vital t) := by
  unfold execPwronResetAssert; try dsimp only
  repeat' split
  all_goals (intro t ht; simp only [Host.Outcome.next.injEq, reduceCtorEq] at ht; try rw [← ht])
  all_goals first | exact h_ok | (simp only [vital_mk, vital_foldl, ok_foldl, apply_ite vital, apply_ite (OkV b p f), ite_self, implies_true, h_ok, vital_pulseSeen, ok_endMode]; done) | grind [vital_mk, vital_pulseSeen, ok_endMode]

theorem vital_execAvsbusAck (s : State) : ∀ t, execAvsbusAck s = .next t → vital t = vital s := by
  grind [execAvsbusAck, vital, vital_endStep]

theorem vital_execWingClockSwitch (wing : Fin 16) (s : State) : ∀ t, execWingClockSwitch wing s = .next t → vital t = vital s := by
  grind [execWingClockSwitch, vital, vital_changeClock, vital_offerWork, vital_finishSwitch]

theorem vital_answerHeld (a : Answer) (s : State) : vital (answerHeld a s) = vital s := by
  rfl

theorem vital_execHotReset (s : State) : ∀ t, execHotReset s = .next t → vital t = vital s := by
  unfold execHotReset; rintro t ⟨rfl⟩; simp only [vital_mk, vital_foldl, apply_ite vital, ite_self, implies_true]

theorem ok_modeAct {b p f} (c : Ctx) (s : State) (h : OkV b p f (vital s)) : OkV b p f (vital (modeAct c s)) := by
  have hc : ∀ s : State, vital (withMode (fun p => { p with ceremony := true }) s) = vital s := fun s => vital_withMode _ _ (fun _ => ⟨rfl, rfl, rfl⟩)
  have hu : ∀ s : State, vital (setMode .update { s with pow := { s.pow with quiesce := none } }) = vital s := fun s => (vital_setMode ..).trans rfl
  unfold modeAct
  extract_lets t
  clear_value t
  split
  · exact h
  · split
    · rw [vital_askService]; exact h
    · split
      · split
        · rw [vital_modeDone]; exact ok_abandonUpdate _ h
        · rw [vital_enterQuiesce]; exact h
      · split
        · rw [vital_modeDone, hu]; exact h
        · rw [vital_modeDone, vital_latchEvent, hc]
          split
          · rw [vital_dropLoad]; exact h
          · exact h

theorem ok_execPerstDeassert {b p f} (s : State) (h_ok : OkV b p f (vital s)) : ∀ t, execPerstDeassert s = .next t → OkV b p f (vital t) := by
  unfold execPerstDeassert; try dsimp only
  repeat' split
  all_goals (intro t ht; simp only [Host.Outcome.next.injEq, reduceCtorEq] at ht; try rw [← ht])
  all_goals first | exact h_ok | (simp only [vital_mk, vital_foldl, ok_foldl, apply_ite vital, apply_ite (OkV b p f), ite_self, implies_true, h_ok, ok_startIfReleased]; done) | grind [vital_mk, ok_startIfReleased]

theorem vital_execQuiesceComplete (s : State) : ∀ t, execQuiesceComplete s = .next t → vital t = vital s := by
  grind [execQuiesceComplete, vital, vital_modeDone, vital_latchEvent, vital_setMode]

theorem ok_execPwronResetDeassert {b p f} (s : State) (h : OkV b p f (vital s)) : ∀ t, execPwronResetDeassert s = .next t → OkV b p f (vital t) := by
  unfold execPwronResetDeassert
  split
  · rintro t ⟨rfl⟩; exact h
  · rintro t ⟨rfl⟩
    refine ok_startIfReleased _ (ok_armNow _ _ (ok_resetRegisters _ ?_))
    split
    · rw [vital_setMode]; exact h
    · exact h

theorem ok_execGddr6RailLoss {b p f} (s : State) (h_ok : OkV b p f (vital s)) : ∀ t, execGddr6RailLoss s = .next t → OkV b p f (vital t) := by
  unfold execGddr6RailLoss; rintro t ⟨rfl⟩; simp only [vital_mk, vital_foldl, ok_foldl, apply_ite vital, apply_ite (OkV b p f), ite_self, implies_true, h_ok, ok_enterVault]

theorem vital_execPcieLinkDown (s : State) : ∀ t, execPcieLinkDown s = .next t → vital t = vital s := by
  unfold execPcieLinkDown; rintro t ⟨rfl⟩; simp only [vital_mk, vital_foldl, apply_ite vital, ite_self, implies_true]

theorem ok_modeRun {b p f} (c : Ctx) (s : State) (h_ok : OkV b p f (vital s)) : OkV b p f (vital (modeRun c s)) := by
  unfold modeRun; simp only [vital_mk, vital_foldl, ok_foldl, apply_ite vital, apply_ite (OkV b p f), ite_self, implies_true, h_ok, ok_modeAct]

theorem ok_execModeSet {b p f} (cell : Fin 128) (s : State) (h : OkV b p f (vital s)) : ∀ t, execModeSet cell s = .next t → OkV b p f (vital t) := by
  intro t ht
  unfold execModeSet at ht
  simp only [Host.Outcome.next.injEq] at ht
  rw [← ht]
  exact ok_runCmd _ _ _ _ _ (fun c s h => ok_modeRun _ _ h) (fun d h => by unfold drawsNow; rw [h]; rfl) h

theorem vital_execPowerFailWarning (s : State) : ∀ t, execPowerFailWarning s = .next t → vital t = vital s := by
  unfold execPowerFailWarning; rintro t ⟨rfl⟩; simp only [vital_mk, vital_foldl, apply_ite vital, ite_self, implies_true]

theorem vital_execQuiesceDrainTimeout (s : State) : ∀ t, execQuiesceDrainTimeout s = .next t → vital t = vital s := by
  unfold execQuiesceDrainTimeout; try dsimp only
  repeat' split
  all_goals first | (rintro t ⟨rfl⟩; first | rfl | (simp only [vital_mk, vital_foldl, apply_ite vital, ite_self, implies_true, vital_advanceTo, vital_offerWork, vital_answerHeld, vital_docentAnswer]; done) | grind [vital, vital_advanceTo, vital_offerWork, vital_answerHeld, vital_docentAnswer]) | grind [vital, vital_advanceTo, vital_offerWork, vital_answerHeld, vital_docentAnswer]

theorem vital_execWingPlacement (s : State) : ∀ t, execWingPlacement s = .next t → vital t = vital s := by
  grind [execWingPlacement, vital, vital_placeWings, vital_wakeAll]

theorem vital_execPcieLinkUp (s : State) : ∀ t, execPcieLinkUp s = .next t → vital t = vital s := by
  unfold execPcieLinkUp; rintro t ⟨rfl⟩; simp only [vital_mk, vital_foldl, apply_ite vital, ite_self, implies_true]

theorem ok_execVbatLoss {b p f} (s : State) (h_ok : OkV b p f (vital s)) : ∀ t, execVbatLoss s = .next t → OkV b p f (vital t) := by
  unfold execVbatLoss; try dsimp only
  repeat' split
  all_goals (intro t ht; simp only [Host.Outcome.next.injEq, reduceCtorEq] at ht; try rw [← ht])
  all_goals first | exact h_ok | (simp only [vital_mk, vital_foldl, ok_foldl, apply_ite vital, apply_ite (OkV b p f), ite_self, implies_true, h_ok, ok_loseAlwaysOn]; done) | grind [vital_mk, ok_loseAlwaysOn]

/-! ### CuratorOps -/

theorem vital_noteSupply (i : Nat) (v : ℤ) (s : State) : vital (noteSupply i v s) = vital s := by
  unfold noteSupply; simp only [vital_mk, vital_foldl, apply_ite vital, ite_self, implies_true]

theorem vital_updateRequest (f : Update → Update) (s : State) : vital (updateRequest f s) = vital s := by
  rfl

theorem ok_execGetPldmCommands {b p f} (bus : Nat) (type : Sys2Proof.Byte) (s : State) (h_ok : OkV b p f (vital s)) : ∀ t, execGetPldmCommands bus type s = .next t → OkV b p f (vital t) := by
  unfold execGetPldmCommands
  try dsimp only
  intro t ht
  repeat' split at ht
  all_goals simp only [Host.Outcome.next.injEq, reduceCtorEq] at ht
  all_goals rw [← ht]
  all_goals (repeat' split)
  all_goals first | exact h_ok | (simp only [vital_mk, vital_foldl, ok_foldl, apply_ite vital, apply_ite (OkV b p f), ite_self, implies_true, h_ok, ok_serveFull]; done) | grind [vital_mk, ok_serveFull]

theorem ok_execGetPdrRepositoryInfo {b p f} (bus : Nat) (s : State) (h_ok : OkV b p f (vital s)) : ∀ t, execGetPdrRepositoryInfo bus s = .next t → OkV b p f (vital t) := by
  unfold execGetPdrRepositoryInfo; rintro t ⟨rfl⟩
  refine ok_serveFull _ _ _ (fun s h_ok => ?_) h_ok
  try dsimp only
  repeat' split
  all_goals first | exact h_ok | (simp only [vital_mk, vital_foldl, ok_foldl, apply_ite vital, apply_ite (OkV b p f), ite_self, implies_true, h_ok, ok_serveFull]; done) | grind [vital_mk, ok_serveFull]

theorem ok_spdmServe {b p f} (bus : Nat) (act : State → MgmtReply × State) (s : State)
    (h_act : ∀ s, OkV b p f (vital s) → OkV b p f (vital (act s).2)) (h : OkV b p f (vital s)) : OkV b p f (vital (spdmServe bus act s)) := by
  unfold spdmServe
  refine ok_serve _ _ _ (fun s h => ?_) h
  split
  · exact h_act _ h
  · exact h

theorem vital_responseNonce (s : State) : vital (responseNonce s).2 = vital s := by
  grind [responseNonce, vital, vital_drawFree]

theorem ok_execChallenge {b p f} (bus : Nat) (slot : Nat) (nonce : BitVec 256) (s : State) (h_ok : OkV b p f (vital s)) : ∀ t, execChallenge bus slot nonce s = .next t → OkV b p f (vital t) := by
  unfold execChallenge; rintro t ⟨rfl⟩
  refine ok_spdmServe _ _ _ (fun s h_ok => ?_) h_ok
  try dsimp only
  repeat' split
  all_goals first | exact h_ok | (simp only [vital_mk, vital_foldl, ok_foldl, apply_ite vital, apply_ite (OkV b p f), ite_self, implies_true, h_ok, vital_responseNonce, ok_spdmServe]; done) | grind [vital_mk, vital_responseNonce, ok_spdmServe]

theorem vital_logUpdate (step : Nat) (component : Nat) (outcome : Nat) (s : State) : vital (logUpdate step component outcome s) = vital s := by
  unfold logUpdate; simp only [vital_mk, vital_foldl, apply_ite vital, ite_self, implies_true, vital_logRecord]

theorem ok_execPassComponentTable {b p f} (bus : Nat) (component : Nat) (s : State) (h_ok : OkV b p f (vital s)) : ∀ t, execPassComponentTable bus component s = .next t → OkV b p f (vital t) := by
  unfold execPassComponentTable
  try dsimp only
  intro t ht
  repeat' split at ht
  all_goals simp only [Host.Outcome.next.injEq, reduceCtorEq] at ht
  all_goals rw [← ht]
  all_goals (repeat' split)
  all_goals first | exact h_ok | (simp only [vital_mk, vital_foldl, ok_foldl, apply_ite vital, apply_ite (OkV b p f), ite_self, implies_true, h_ok, vital_updateRequest, vital_logUpdate, ok_serveFull]; done) | grind [vital_mk, vital_updateRequest, vital_logUpdate, ok_serveFull]

theorem vital_takeReading (i : Nat) (r : SensorReading) (s : State) : vital (takeReading i r s) = vital s := by
  unfold takeReading; simp only [vital_mk, vital_foldl, apply_ite vital, ite_self, implies_true, vital_noteSupply, vital_logRecord, vital_sendMctp]

theorem vital_execSensorSample (readings : List (Nat × SensorReading)) (s : State) : ∀ t, execSensorSample readings s = .next t → vital t = vital s := by
  unfold execSensorSample; rintro t ⟨rfl⟩; simp only [vital_mk, vital_foldl, apply_ite vital, ite_self, implies_true, vital_takeReading]

theorem vital_spdmAnswer (request : Sys2Proof.Bytes) (answer : Sys2Proof.Bytes) (s : State) : vital (spdmAnswer request answer s).2 = vital s := by
  rfl

theorem ok_execGetDigests {b p f} (bus : Nat) (s : State) (h_ok : OkV b p f (vital s)) : ∀ t, execGetDigests bus s = .next t → OkV b p f (vital t) := by
  unfold execGetDigests
  try dsimp only
  intro t ht
  repeat' split at ht
  all_goals simp only [Host.Outcome.next.injEq, reduceCtorEq] at ht
  all_goals rw [← ht]
  all_goals (repeat' split)
  all_goals first | exact h_ok | (simp only [vital_mk, vital_foldl, ok_foldl, apply_ite vital, apply_ite (OkV b p f), ite_self, implies_true, h_ok, vital_spdmAnswer, ok_spdmServe]; done) | grind [vital_mk, vital_spdmAnswer, ok_spdmServe]

theorem ok_execGetPldmTypes {b p f} (bus : Nat) (s : State) (h_ok : OkV b p f (vital s)) : ∀ t, execGetPldmTypes bus s = .next t → OkV b p f (vital t) := by
  unfold execGetPldmTypes; rintro t ⟨rfl⟩
  refine ok_serveFull _ _ _ (fun s h_ok => ?_) h_ok
  try dsimp only
  repeat' split
  all_goals first | exact h_ok | (simp only [vital_mk, vital_foldl, ok_foldl, apply_ite vital, apply_ite (OkV b p f), ite_self, implies_true, h_ok, ok_serveFull]; done) | grind [vital_mk, ok_serveFull]

theorem ok_execLogRead {b p f} (bus : Nat) (first : Nat) (count : Nat) (s : State) (h_ok : OkV b p f (vital s)) : ∀ t, execLogRead bus first count s = .next t → OkV b p f (vital t) := by
  unfold execLogRead; rintro t ⟨rfl⟩
  refine ok_serveFull _ _ _ (fun s h_ok => ?_) h_ok
  try dsimp only
  repeat' split
  all_goals first | exact h_ok | (simp only [vital_mk, vital_foldl, ok_foldl, apply_ite vital, apply_ite (OkV b p f), ite_self, implies_true, h_ok, ok_serveFull]; done) | grind [vital_mk, ok_serveFull]

theorem vital_spdmStage (n : Nat) (s : State) : vital (spdmStage n s) = vital s := by
  rfl

theorem ok_execGetCapabilities {b p f} (bus : Nat) (s : State) (h_ok : OkV b p f (vital s)) : ∀ t, execGetCapabilities bus s = .next t → OkV b p f (vital t) := by
  unfold execGetCapabilities; rintro t ⟨rfl⟩
  refine ok_serve _ _ _ (fun s h_ok => ?_) h_ok
  try dsimp only
  repeat' split
  all_goals first | exact h_ok | (simp only [vital_mk, vital_foldl, ok_foldl, apply_ite vital, apply_ite (OkV b p f), ite_self, implies_true, h_ok, vital_freeBytes, vital_spdmAnswer, vital_spdmStage, ok_serve]; done) | grind [vital_mk, vital_freeBytes, vital_spdmAnswer, vital_spdmStage, ok_serve]

theorem vital_curUpdate (s : State) (u) : vital { s with cur := { s.cur with update := u } } = vital s := rfl
theorem vital_openUpdate (s : State) : vital (openUpdate s) = vital s := by
  unfold openUpdate
  dsimp only
  generalize 100000000 = n
  cases s.pow.mode
  case quiesce =>
    dsimp only
    split
    · rw [vital_curUpdate, vital_setMode]; rfl
    · rfl
  case update => rfl
  all_goals exact (vital_enterQuiesce ..).trans rfl

theorem ok_verifyStaged {b p f} (c : Nat) (image : Option FwImage) (s : State) (h_ok : OkV b p f (vital s)) : OkV b p f (vital (verifyStaged c image s).2) := by
  unfold verifyStaged; try dsimp only
  repeat' split
  all_goals first | exact h_ok | (simp only [vital_mk, vital_foldl, ok_foldl, apply_ite vital, apply_ite (OkV b p f), ite_self, implies_true, h_ok, vital_setFirmware, ok_eraseFirmware, ok_eraseUlondHeader]; done) | grind [vital_mk, vital_setFirmware, ok_eraseFirmware, ok_eraseUlondHeader]

theorem ok_execTransferComplete {b p f} (bus : Nat) (image : Option FwImage) (s : State) (h_ok : OkV b p f (vital s)) : ∀ t, execTransferComplete bus image s = .next t → OkV b p f (vital t) := by
  unfold execTransferComplete; rintro t ⟨rfl⟩
  refine ok_serveFull _ _ _ (fun s h_ok => ?_) h_ok
  try dsimp only
  repeat' split
  all_goals first | exact h_ok | (simp only [vital_mk, vital_foldl, ok_foldl, apply_ite vital, apply_ite (OkV b p f), ite_self, implies_true, h_ok, vital_latchEvent, vital_logUpdate, ok_serveFull, ok_verifyStaged]; done) | grind [vital_mk, vital_latchEvent, vital_logUpdate, ok_serveFull, ok_verifyStaged]

theorem ok_execGetMessageTypeSupport {b p f} (bus : Nat) (s : State) (h_ok : OkV b p f (vital s)) : ∀ t, execGetMessageTypeSupport bus s = .next t → OkV b p f (vital t) := by
  unfold execGetMessageTypeSupport; rintro t ⟨rfl⟩
  refine ok_serveFull _ _ _ (fun s h_ok => ?_) h_ok
  try dsimp only
  repeat' split
  all_goals first | exact h_ok | (simp only [vital_mk, vital_foldl, ok_foldl, apply_ite vital, apply_ite (OkV b p f), ite_self, implies_true, h_ok, ok_serveFull]; done) | grind [vital_mk, ok_serveFull]

theorem ok_execInventory {b p f} (bus : Nat) (s : State) (h_ok : OkV b p f (vital s)) : ∀ t, execInventory bus s = .next t → OkV b p f (vital t) := by
  unfold execInventory; rintro t ⟨rfl⟩
  refine ok_serve _ _ _ (fun s h_ok => ?_) h_ok
  try dsimp only
  repeat' split
  all_goals first | exact h_ok | (simp only [vital_mk, vital_foldl, ok_foldl, apply_ite vital, apply_ite (OkV b p f), ite_self, implies_true, h_ok, ok_serve]; done) | grind [vital_mk, ok_serve]

theorem ok_execTamperRecord {b p f} (bus : Nat) (s : State) (h_ok : OkV b p f (vital s)) : ∀ t, execTamperRecord bus s = .next t → OkV b p f (vital t) := by
  unfold execTamperRecord; rintro t ⟨rfl⟩
  refine ok_serveFull _ _ _ (fun s h_ok => ?_) h_ok
  try dsimp only
  repeat' split
  all_goals first | exact h_ok | (simp only [vital_mk, vital_foldl, ok_foldl, apply_ite vital, apply_ite (OkV b p f), ite_self, implies_true, h_ok, ok_serveFull]; done) | grind [vital_mk, ok_serveFull]

theorem vital_ackMailbox (s : State) : vital (ackMailbox s) = vital s := by
  unfold ackMailbox; simp only [vital_mk, vital_foldl, apply_ite vital, ite_self, implies_true, vital_configWrite]

theorem vital_submitMailbox (inLen : Fin 8192) (s : State) : vital (submitMailbox inLen s) = vital s := by
  unfold submitMailbox; simp only [vital_mk, vital_foldl, apply_ite vital, ite_self, implies_true, vital_configWrite, vital_setFault]

theorem ok_execUpdateAgentTimeout {b p f} (s : State) (h_ok : OkV b p f (vital s)) : ∀ t, execUpdateAgentTimeout s = .next t → OkV b p f (vital t) := by
  unfold execUpdateAgentTimeout
  try dsimp only
  intro t ht
  repeat' split at ht
  all_goals simp only [Host.Outcome.next.injEq, reduceCtorEq] at ht
  all_goals rw [← ht]
  all_goals (repeat' split)
  all_goals first | exact h_ok | (simp only [vital_mk, vital_foldl, ok_foldl, apply_ite vital, apply_ite (OkV b p f), ite_self, implies_true, h_ok, vital_logUpdate, vital_advanceTo, ok_abandonUpdate]; done) | grind [vital_mk, vital_logUpdate, vital_advanceTo, ok_abandonUpdate]

theorem ok_beginStaging {b p f} (component : Nat) (s : State) (h : OkV b p f (vital s)) : OkV b p f (vital (beginStaging component s)) := by
  unfold beginStaging
  dsimp only
  rw [vital_updateRequest]
  split
  · exact ok_eraseFirmware _ _ h
  · have h2 := ok_updUlond (inactiveUlond s) (fun _ => []) (fun _ _ => rfl) s h
    generalize updUlond (inactiveUlond s) (fun _ => []) s = t at h2
    exact h2

theorem ok_curatorFault {b p f} (s : State) (h_ok : OkV b p f (vital s)) : OkV b p f (vital (curatorFault s)) := by
  unfold curatorFault; simp only [vital_mk, vital_foldl, ok_foldl, apply_ite vital, apply_ite (OkV b p f), ite_self, implies_true, h_ok, ok_abandonUpdate]

theorem ok_execGetEndpointId {b p f} (bus : Nat) (s : State) (h_ok : OkV b p f (vital s)) : ∀ t, execGetEndpointId bus s = .next t → OkV b p f (vital t) := by
  unfold execGetEndpointId; rintro t ⟨rfl⟩
  refine ok_serveFull _ _ _ (fun s h_ok => ?_) h_ok
  try dsimp only
  repeat' split
  all_goals first | exact h_ok | (simp only [vital_mk, vital_foldl, ok_foldl, apply_ite vital, apply_ite (OkV b p f), ite_self, implies_true, h_ok, ok_serveFull]; done) | grind [vital_mk, ok_serveFull]

theorem ok_execActivateFirmware {b p f} (bus : Nat) (s : State) (h_ok : OkV b p f (vital s)) : ∀ t, execActivateFirmware bus s = .next t → OkV b p f (vital t) := by
  unfold execActivateFirmware
  try dsimp only
  intro t ht
  repeat' split at ht
  all_goals simp only [Host.Outcome.next.injEq, reduceCtorEq] at ht
  all_goals rw [← ht]
  all_goals (repeat' split)
  all_goals first | exact h_ok | (simp only [vital_mk, vital_foldl, ok_foldl, apply_ite vital, apply_ite (OkV b p f), ite_self, implies_true, h_ok, vital_updateRequest, vital_latchEvent, vital_logUpdate, ok_serveFull, ok_beginStart]; done) | grind [vital_mk, vital_updateRequest, vital_latchEvent, vital_logUpdate, ok_serveFull, ok_beginStart]

theorem ok_execGetCertificate {b p f} (bus : Nat) (slot : Nat) (offset : Nat) (length : Nat) (s : State) (h_ok : OkV b p f (vital s)) : ∀ t, execGetCertificate bus slot offset length s = .next t → OkV b p f (vital t) := by
  unfold execGetCertificate; rintro t ⟨rfl⟩
  refine ok_spdmServe _ _ _ (fun s h_ok => ?_) h_ok
  try dsimp only
  repeat' split
  all_goals first | exact h_ok | (simp only [vital_mk, vital_foldl, ok_foldl, apply_ite vital, apply_ite (OkV b p f), ite_self, implies_true, h_ok, vital_spdmAnswer, ok_spdmServe]; done) | grind [vital_mk, vital_spdmAnswer, ok_spdmServe]

theorem ok_execRequestUpdate {b p f} (bus : Nat) (s : State) (h_ok : OkV b p f (vital s)) : ∀ t, execRequestUpdate bus s = .next t → OkV b p f (vital t) := by
  unfold execRequestUpdate
  try dsimp only
  intro t ht
  repeat' split at ht
  all_goals simp only [Host.Outcome.next.injEq, reduceCtorEq] at ht
  all_goals rw [← ht]
  all_goals (repeat' split)
  all_goals first | exact h_ok | (simp only [vital_mk, vital_foldl, ok_foldl, apply_ite vital, apply_ite (OkV b p f), ite_self, implies_true, h_ok, vital_openUpdate, vital_logUpdate, ok_serveFull]; done) | grind [vital_mk, vital_openUpdate, vital_logUpdate, ok_serveFull]

theorem ok_execGetSensorReading {b p f} (bus : Nat) (sensor : Nat) (s : State) (h_ok : OkV b p f (vital s)) : ∀ t, execGetSensorReading bus sensor s = .next t → OkV b p f (vital t) := by
  unfold execGetSensorReading; rintro t ⟨rfl⟩
  refine ok_serveFull _ _ _ (fun s h_ok => ?_) h_ok
  try dsimp only
  repeat' split
  all_goals first | exact h_ok | (simp only [vital_mk, vital_foldl, ok_foldl, apply_ite vital, apply_ite (OkV b p f), ite_self, implies_true, h_ok, vital_freeBytes, ok_serveFull]; done) | grind [vital_mk, vital_freeBytes, ok_serveFull]

theorem vital_execMailboxSubmit (inLen : Fin 8192) (s : State) : ∀ t, execMailboxSubmit inLen s = .next t → vital t = vital s := by
  unfold execMailboxSubmit; rintro t ⟨rfl⟩; simp only [vital_mk, vital_foldl, apply_ite vital, ite_self, implies_true, vital_submitMailbox]

theorem ok_execGetPdr {b p f} (bus : Nat) (record : Nat) (s : State) (h_ok : OkV b p f (vital s)) : ∀ t, execGetPdr bus record s = .next t → OkV b p f (vital t) := by
  unfold execGetPdr
  try dsimp only
  intro t ht
  repeat' split at ht
  all_goals simp only [Host.Outcome.next.injEq, reduceCtorEq] at ht
  all_goals rw [← ht]
  all_goals (repeat' split)
  all_goals first | exact h_ok | (simp only [vital_mk, vital_foldl, ok_foldl, apply_ite vital, apply_ite (OkV b p f), ite_self, implies_true, h_ok, ok_serveFull]; done) | grind [vital_mk, ok_serveFull]

theorem ok_execGetVendorDefinedMessageSupport {b p f} (bus : Nat) (selector : Sys2Proof.Byte) (s : State) (h_ok : OkV b p f (vital s)) : ∀ t, execGetVendorDefinedMessageSupport bus selector s = .next t → OkV b p f (vital t) := by
  unfold execGetVendorDefinedMessageSupport
  try dsimp only
  intro t ht
  repeat' split at ht
  all_goals simp only [Host.Outcome.next.injEq, reduceCtorEq] at ht
  all_goals rw [← ht]
  all_goals (repeat' split)
  all_goals first | exact h_ok | (simp only [vital_mk, vital_foldl, ok_foldl, apply_ite vital, apply_ite (OkV b p f), ite_self, implies_true, h_ok, ok_serveFull]; done) | grind [vital_mk, ok_serveFull]

theorem ok_execSetEventReceiver {b p f} (bus : Nat) (enable : Sys2Proof.Byte) (address : Sys2Proof.Byte) (s : State) (h_ok : OkV b p f (vital s)) : ∀ t, execSetEventReceiver bus enable address s = .next t → OkV b p f (vital t) := by
  unfold execSetEventReceiver; rintro t ⟨rfl⟩
  refine ok_serveFull _ _ _ (fun s h_ok => ?_) h_ok
  try dsimp only
  repeat' split
  all_goals first | exact h_ok | (simp only [vital_mk, vital_foldl, ok_foldl, apply_ite vital, apply_ite (OkV b p f), ite_self, implies_true, h_ok, ok_serveFull]; done) | grind [vital_mk, ok_serveFull]

theorem ok_execGetStateSensorReadings {b p f} (bus : Nat) (sensor : Nat) (s : State) (h_ok : OkV b p f (vital s)) : ∀ t, execGetStateSensorReadings bus sensor s = .next t → OkV b p f (vital t) := by
  unfold execGetStateSensorReadings; rintro t ⟨rfl⟩
  refine ok_serveFull _ _ _ (fun s h_ok => ?_) h_ok
  try dsimp only
  repeat' split
  all_goals first | exact h_ok | (simp only [vital_mk, vital_foldl, ok_foldl, apply_ite vital, apply_ite (OkV b p f), ite_self, implies_true, h_ok, vital_freeBytes, ok_serveFull]; done) | grind [vital_mk, vital_freeBytes, ok_serveFull]

theorem ok_execSetEndpointId {b p f} (bus : Nat) (eid : Sys2Proof.Byte) (s : State) (h_ok : OkV b p f (vital s)) : ∀ t, execSetEndpointId bus eid s = .next t → OkV b p f (vital t) := by
  unfold execSetEndpointId; rintro t ⟨rfl⟩
  refine ok_serveFull _ _ _ (fun s h_ok => ?_) h_ok
  try dsimp only
  repeat' split
  all_goals first | exact h_ok | (simp only [vital_mk, vital_foldl, ok_foldl, apply_ite vital, apply_ite (OkV b p f), ite_self, implies_true, h_ok, ok_serveFull]; done) | grind [vital_mk, ok_serveFull]

theorem ok_execAntiRollbackBurn {b p f} (s : State) (h : OkV b p f (vital s)) : ∀ t, execAntiRollbackBurn s = .next t → OkV b p f (vital t) := by
  intro t ht
  unfold execAntiRollbackBurn at ht
  split at ht
  · simp only [Host.Outcome.next.injEq] at ht
    rw [← ht]; exact h
  · simp only [Host.Outcome.next.injEq] at ht
    rw [← ht]
    refine ⟨h.pending, fun hb => ?_, h.latch, h.mems⟩
    obtain ⟨⟨h1, h2, h3, h4, h5⟩, h6, h7⟩ := h.fuses hb
    exact ⟨⟨h1, h2, Nat.le_min.2 ⟨Nat.le_trans h3 h7, Nat.le_succ_of_le h3⟩, h4, h5⟩, h6, Nat.min_le_left ..⟩

theorem vital_curatorBack (s : State) : vital (curatorBack s) = vital s := by
  unfold curatorBack; simp only [vital_mk, vital_foldl, apply_ite vital, ite_self, implies_true, vital_logRecord]

theorem ok_execCuratorRestart {b p f} (back : Bool) (s : State) (h_ok : OkV b p f (vital s)) : ∀ t, execCuratorRestart back s = .next t → OkV b p f (vital t) := by
  unfold execCuratorRestart
  try dsimp only
  intro t ht
  repeat' split at ht
  all_goals simp only [Host.Outcome.next.injEq, reduceCtorEq] at ht
  all_goals rw [← ht]
  all_goals (repeat' split)
  all_goals first | exact h_ok | (simp only [vital_mk, vital_foldl, ok_foldl, apply_ite vital, apply_ite (OkV b p f), ite_self, implies_true, h_ok, vital_curatorBack, ok_curatorFault]; done) | grind [vital_mk, vital_curatorBack, ok_curatorFault]

theorem vital_execMailboxAck (s : State) : ∀ t, execMailboxAck s = .next t → vital t = vital s := by
  unfold execMailboxAck; rintro t ⟨rfl⟩; simp only [vital_mk, vital_foldl, apply_ite vital, ite_self, implies_true, vital_ackMailbox]

theorem ok_execGetMctpVersionSupport {b p f} (bus : Nat) (type : Sys2Proof.Byte) (s : State) (h_ok : OkV b p f (vital s)) : ∀ t, execGetMctpVersionSupport bus type s = .next t → OkV b p f (vital t) := by
  unfold execGetMctpVersionSupport
  try dsimp only
  intro t ht
  repeat' split at ht
  all_goals simp only [Host.Outcome.next.injEq, reduceCtorEq] at ht
  all_goals rw [← ht]
  all_goals (repeat' split)
  all_goals first | exact h_ok | (simp only [vital_mk, vital_foldl, ok_foldl, apply_ite vital, apply_ite (OkV b p f), ite_self, implies_true, h_ok, ok_serveFull]; done) | grind [vital_mk, ok_serveFull]

theorem ok_execGetTid {b p f} (bus : Nat) (s : State) (h_ok : OkV b p f (vital s)) : ∀ t, execGetTid bus s = .next t → OkV b p f (vital t) := by
  unfold execGetTid; rintro t ⟨rfl⟩
  refine ok_serveFull _ _ _ (fun s h_ok => ?_) h_ok
  try dsimp only
  repeat' split
  all_goals first | exact h_ok | (simp only [vital_mk, vital_foldl, ok_foldl, apply_ite vital, apply_ite (OkV b p f), ite_self, implies_true, h_ok, ok_serveFull]; done) | grind [vital_mk, ok_serveFull]

theorem ok_execGetPldmVersion {b p f} (bus : Nat) (type : Sys2Proof.Byte) (s : State) (h_ok : OkV b p f (vital s)) : ∀ t, execGetPldmVersion bus type s = .next t → OkV b p f (vital t) := by
  unfold execGetPldmVersion; rintro t ⟨rfl⟩
  refine ok_serveFull _ _ _ (fun s h_ok => ?_) h_ok
  try dsimp only
  repeat' split
  all_goals first | exact h_ok | (simp only [vital_mk, vital_foldl, ok_foldl, apply_ite vital, apply_ite (OkV b p f), ite_self, implies_true, h_ok, ok_serveFull]; done) | grind [vital_mk, ok_serveFull]

theorem ok_execUpdateComponent {b p f} (bus : Nat) (component : Nat) (s : State) (h_ok : OkV b p f (vital s)) : ∀ t, execUpdateComponent bus component s = .next t → OkV b p f (vital t) := by
  unfold execUpdateComponent
  try dsimp only
  intro t ht
  repeat' split at ht
  all_goals simp only [Host.Outcome.next.injEq, reduceCtorEq] at ht
  all_goals rw [← ht]
  all_goals (repeat' split)
  all_goals first | exact h_ok | (simp only [vital_mk, vital_foldl, ok_foldl, apply_ite vital, apply_ite (OkV b p f), ite_self, implies_true, h_ok, vital_updateRequest, vital_logUpdate, ok_serveFull, ok_beginStaging]; done) | grind [vital_mk, vital_updateRequest, vital_logUpdate, ok_serveFull, ok_beginStaging]

theorem ok_execRequestFirmwareData {b p f} (bus : Nat) (offset : Nat) (data : Bytes) (s : State) (h : OkV b p f (vital s)) :
    ∀ t, execRequestFirmwareData bus offset data s = .next t → OkV b p f (vital t) := by
  rintro t ⟨rfl⟩
  refine ok_serveFull _ _ _ (fun s h => ?_) h
  split
  · exact h
  · rename_i c hc
    dsimp only
    generalize decide (offset + data.length ≤ if c = 2 then 2 ^ 20 else 2 ^ 23) = fits
    cases fits
    · exact h
    · by_cases h2 : c = 2
      · simp only [h2, Bool.not_true, if_true, if_neg Bool.false_ne_true]
        exact ok_updUlond _ _ (fun m hm => memWf_memWriteBytes _ _ hm) s h
      · simp only [h2, Bool.not_true, if_true, if_neg Bool.false_ne_true, if_false]
        exact ok_setFwData _ _ s (fun hb => memWf_memWriteBytes _ _ (fwData_wf _ h hb)) h

theorem ok_execCancelUpdate {b p f} (bus : Nat) (s : State) (h_ok : OkV b p f (vital s)) : ∀ t, execCancelUpdate bus s = .next t → OkV b p f (vital t) := by
  unfold execCancelUpdate
  try dsimp only
  intro t ht
  repeat' split at ht
  all_goals simp only [Host.Outcome.next.injEq, reduceCtorEq] at ht
  all_goals rw [← ht]
  all_goals (repeat' split)
  all_goals first | exact h_ok | (simp only [vital_mk, vital_foldl, ok_foldl, apply_ite vital, apply_ite (OkV b p f), ite_self, implies_true, h_ok, vital_logUpdate, ok_serveFull, ok_abandonUpdate]; done) | grind [vital_mk, vital_logUpdate, ok_serveFull, ok_abandonUpdate]

theorem ok_execGetVersion {b p f} (bus : Nat) (s : State) (h_ok : OkV b p f (vital s)) : ∀ t, execGetVersion bus s = .next t → OkV b p f (vital t) := by
  unfold execGetVersion; rintro t ⟨rfl⟩
  refine ok_serve _ _ _ (fun s h_ok => ?_) h_ok
  try dsimp only
  repeat' split
  all_goals first | exact h_ok | (simp only [vital_mk, vital_foldl, ok_foldl, apply_ite vital, apply_ite (OkV b p f), ite_self, implies_true, h_ok, vital_spdmAnswer, vital_spdmStage, ok_serve]; done) | grind [vital_mk, vital_spdmAnswer, vital_spdmStage, ok_serve]

theorem ok_execNegotiateAlgorithms {b p f} (bus : Nat) (hasSha384 : Bool) (hasP384 : Bool) (s : State) (h_ok : OkV b p f (vital s)) : ∀ t, execNegotiateAlgorithms bus hasSha384 hasP384 s = .next t → OkV b p f (vital t) := by
  unfold execNegotiateAlgorithms
  try dsimp only
  intro t ht
  repeat' split at ht
  all_goals simp only [Host.Outcome.next.injEq, reduceCtorEq] at ht
  all_goals rw [← ht]
  all_goals (repeat' split)
  all_goals first | exact h_ok | (simp only [vital_mk, vital_foldl, ok_foldl, apply_ite vital, apply_ite (OkV b p f), ite_self, implies_true, h_ok, vital_spdmAnswer, vital_spdmStage, ok_serve]; done) | grind [vital_mk, vital_spdmAnswer, vital_spdmStage, ok_serve]

theorem ok_execGetMeasurements {b p f} (bus : Nat) (index : Nat) (sign : Bool) (nonce : BitVec 256) (s : State) (h_ok : OkV b p f (vital s)) : ∀ t, execGetMeasurements bus index sign nonce s = .next t → OkV b p f (vital t) := by
  unfold execGetMeasurements; rintro t ⟨rfl⟩
  refine ok_spdmServe _ _ _ (fun s h_ok => ?_) h_ok
  try dsimp only
  repeat' split
  all_goals first | exact h_ok | (simp only [vital_mk, vital_foldl, ok_foldl, apply_ite vital, apply_ite (OkV b p f), ite_self, implies_true, h_ok, vital_responseNonce, vital_spdmAnswer, ok_spdmServe]; done) | grind [vital_mk, vital_responseNonce, vital_spdmAnswer, ok_spdmServe]

theorem vital_execMctpTransportTimeout (s : State) : ∀ t, execMctpTransportTimeout s = .next t → vital t = vital s := by
  unfold execMctpTransportTimeout; rintro t ⟨rfl⟩; simp only [vital_mk, vital_foldl, apply_ite vital, ite_self, implies_true]

/-! ### CounterOps -/

theorem vital_writeSampCtl (v : Sys2Proof.W64) (s : State) : vital (writeSampCtl v s) = vital s := by
  unfold writeSampCtl; simp only [vital_mk, vital_foldl, apply_ite vital, ite_self, implies_true]

theorem vital_execSamplingEnable (value : Sys2Proof.W64) (s : State) : ∀ t, execSamplingEnable value s = .next t → vital t = vital s := by
  unfold execSamplingEnable; rintro t ⟨rfl⟩; simp only [vital_mk, vital_foldl, apply_ite vital, ite_self, implies_true, vital_configWrite, vital_writeSampCtl]

theorem vital_settleCounters (s : State) : vital (settleCounters s) = vital s := by
  unfold settleCounters; simp only [vital_mk, vital_foldl, apply_ite vital, ite_self, implies_true, vital_settleCells, vital_settlePku, vital_settleEngine]

theorem vital_snapCounters (s : State) : vital (snapCounters s) = vital s := by
  rfl

theorem vital_clearCounters (s : State) : vital (clearCounters s) = vital s := by
  rfl

theorem vital_writeCntCtl (snap : Bool) (freeze : Bool) (clear : Bool) (s : State) : vital (writeCntCtl snap freeze clear s) = vital s := by
  unfold writeCntCtl; simp only [vital_mk, vital_foldl, apply_ite vital, ite_self, implies_true, vital_settleCounters, vital_snapCounters, vital_clearCounters]

theorem vital_execCounterSnap (freeze : Bool) (clear : Bool) (s : State) : ∀ t, execCounterSnap freeze clear s = .next t → vital t = vital s := by
  unfold execCounterSnap; rintro t ⟨rfl⟩; simp only [vital_mk, vital_foldl, apply_ite vital, ite_self, implies_true, vital_configWrite, vital_writeCntCtl]

theorem vital_writeTraceCtl (v : Sys2Proof.W64) (s : State) : vital (writeTraceCtl v s) = vital s := by
  unfold writeTraceCtl; simp only [vital_mk, vital_foldl, apply_ite vital, ite_self, implies_true]

theorem vital_archiveOne (r : MeterRecord) (s : State) : vital (archiveOne r s) = vital s := by
  grind [archiveOne, vital]

theorem vital_markOne (m : Nat) (g : Nat) (s : State) : vital (markOne m g s) = vital s := by
  grind [markOne, vital, vital_markGallery, vital_mirrorChanges]

theorem vital_execMeterMark (s : State) : ∀ t, execMeterMark s = .next t → vital t = vital s := by
  unfold execMeterMark; try dsimp only
  repeat' split
  all_goals first | (rintro t ⟨rfl⟩; first | rfl | (simp only [vital_mk, vital_foldl, apply_ite vital, ite_self, implies_true, vital_advanceTo, vital_markOne]; done) | grind [vital, vital_advanceTo, vital_markOne]) | grind [vital, vital_advanceTo, vital_markOne]

theorem vital_execTraceEnable (value : Sys2Proof.W64) (s : State) : ∀ t, execTraceEnable value s = .next t → vital t = vital s := by
  unfold execTraceEnable; rintro t ⟨rfl⟩; simp only [vital_mk, vital_foldl, apply_ite vital, ite_self, implies_true, vital_configWrite, vital_writeTraceCtl]

theorem vital_execUtcOffsetSet (offset : BitVec 64) (s : State) : ∀ t, execUtcOffsetSet offset s = .next t → vital t = vital s := by
  unfold execUtcOffsetSet; rintro t ⟨rfl⟩; simp only [vital_mk, vital_foldl, apply_ite vital, ite_self, implies_true]

theorem vital_execMeterArchiveCopy (s : State) : ∀ t, execMeterArchiveCopy s = .next t → vital t = vital s := by
  unfold execMeterArchiveCopy; try dsimp only
  repeat' split
  all_goals first | (rintro t ⟨rfl⟩; first | rfl | (simp only [vital_mk, vital_foldl, apply_ite vital, ite_self, implies_true, vital_settleWaiting, vital_archiveOne]; done) | grind [vital, vital_settleWaiting, vital_archiveOne]) | grind [vital, vital_settleWaiting, vital_archiveOne]

theorem vital_putSample (r : Sys2Proof.Bytes) (s : State) : vital (putSample r s) = vital s := by
  unfold putSample; simp only [vital_mk, vital_foldl, apply_ite vital, ite_self, implies_true]

theorem vital_runCountersRead (c : Ctx) (s : State) : vital (runCountersRead c s).2.2 = vital s := by
  unfold runCountersRead; simp only [vital_mk, vital_foldl, apply_ite vital, ite_self, implies_true, vital_plain]

theorem vital_execCountersRead (cell : Fin 128) (s : State) : ∀ t, execCountersRead cell s = .next t → vital t = vital s := by
  unfold execCountersRead; rintro t ⟨rfl⟩; simp only [vital_mk, vital_foldl, apply_ite vital, ite_self, implies_true, vital_runFn, vital_runCountersRead]

theorem vital_execCounterClear (freeze : Bool) (s : State) : ∀ t, execCounterClear freeze s = .next t → vital t = vital s := by
  unfold execCounterClear; rintro t ⟨rfl⟩; simp only [vital_mk, vital_foldl, apply_ite vital, ite_self, implies_true, vital_configWrite, vital_writeCntCtl]

theorem vital_nextJitter (cell : Nat) (s : State) : vital (nextJitter cell s) = vital s := by
  unfold nextJitter; simp only [vital_mk, vital_foldl, apply_ite vital, ite_self, implies_true]

theorem vital_execInstructionSample (cell : Fin 128) (offset : Nat) (slot : Nat) (other : Nat) (s : State) : ∀ t, execInstructionSample cell offset slot other s = .next t → vital t = vital s := by
  grind [execInstructionSample, vital, vital_nextJitter, vital_putSample]

/-! ### BarOps -/

theorem vital_writeDocRegion (o : Nat) (v : Sys2Proof.W64) (s : State) : ∀ t, writeDocRegion o v s = some t → vital t = vital s := by
  grind [writeDocRegion, vital, vital_writeTick, vital_clearHist]

theorem ite_cases {α : Type} {c : Prop} [Decidable c] {x y z : α} (h : (if c then x else y) = z) : x = z ∨ y = z := by
  by_cases hc : c
  · rw [if_pos hc] at h; exact .inl h
  · rw [if_neg hc] at h; exact .inr h
theorem vital_writeWingCounter (w r : Nat) (v : W64) (s : State) : ∀ t, writeWingCounter w r v s = some t → vital t = vital s := by
  have hf : ∀ (g : State → Nat → State), (∀ s x, vital (g s x) = vital s) → vital ((List.range 8).foldl g s) = vital s := fun g h => vital_foldl g h _ _
  unfold writeWingCounter
  intro t ht
  rcases ite_cases ht with h | h
  · have hs := vital_settleCounters s
    dsimp only at h
    generalize settleCounters s = u at hs h
    rw [← Option.some.inj h]
    exact hs
  · rcases ite_cases h with h | h
    · cases h; rfl
    · rcases ite_cases h with h | h
      · rw [← Option.some.inj h]
        exact hf _ fun s x => by dsimp only; split <;> rfl
      · cases h

theorem vital_writeCounters (o : Nat) (v : Sys2Proof.W64) (s : State) : ∀ t, writeCounters o v s = some t → vital t = vital s := by
  grind [writeCounters, vital, vital_writeWingCounter, vital_writeCntCtl, vital_writeSampCtl, vital_writeTraceCtl]

theorem vital_writePolicy (v : Sys2Proof.W64) (s : State) : vital (writePolicy v s) = vital s := by
  rfl

theorem vital_regionWrite (r : State → Option State) (s : State) (h : ∀ t, r s = some t → vital t = vital s) : vital (regionWrite r s) = vital s := by
  unfold regionWrite
  split
  · exact vital_setFault ..
  · rename_i t ht
    unfold configWrite
    split
    · exact h _ ht
    · rfl
theorem ok_regionWrite {b p f} (r : State → Option State) (s : State) (h : ∀ t, r s = some t → OkV b p f (vital t)) (h0 : OkV b p f (vital s)) :
    OkV b p f (vital (regionWrite r s)) := by
  unfold regionWrite
  split
  · rw [vital_setFault]; exact h0
  · rename_i t ht
    unfold configWrite
    split
    · exact h _ ht
    · exact h0

theorem vital_writeMbox (v : Sys2Proof.W64) (s : State) : vital (writeMbox v s) = vital s := by
  unfold writeMbox; simp only [vital_mk, vital_foldl, apply_ite vital, ite_self, implies_true, vital_ackMailbox, vital_submitMailbox, vital_setFault]

theorem ok_writeCurator {b p f} (o : Nat) (v : W64) (s : State) (h : OkV b p f (vital s)) : ∀ t, writeCurator o v s = some t → OkV b p f (vital t) := by
  unfold writeCurator
  intro t ht
  split at ht
  · cases ht; rw [vital_writeMbox]; exact h
  · split at ht
    · cases ht; exact h
    · split at ht
      · cases ht
        split
        · rw [vital_setFault]; exact h
        · exact ⟨h.pending, h.fuses, h.latch, fun hb => ⟨(h.mems hb).1, (h.mems hb).2.1, memWf_memWriteBytes _ _ (h.mems hb).2.2.1, (h.mems hb).2.2.2⟩⟩
      · split at ht
        · cases ht; exact h
        · cases ht

theorem ok_writeModule {b p f} (o : Nat) (v : W64) (s : State) (h : OkV b p f (vital s)) : OkV b p f (vital (writeModule o v s)) := by
  have hc : ∀ g : State → State, (∀ s, vital (g s) = vital s) → OkV b p f (vital (configWrite g s)) := fun g hg => by rw [vital_configWrite g s hg]; exact h
  unfold writeModule
  refine ok_ite ?_ (ok_ite ?_ (ok_ite ?_ (ok_ite ?_ (ok_ite ?_ (ok_ite ?_ (ok_ite ?_ (ok_ite ?_ (ok_ite ?_ (ok_ite ?_ (ok_ite ?_ (ok_ite ?_ (ok_ite ?_ ?_))))))))))))
  all_goals first
    | (rw [vital_writeMevMask]; exact h)
    | (rw [vital_writeMsix]; exact h)
    | (rw [vital_setFault]; exact h)
    | (rw [vital_configWrite _ _ (fun s => vital_writePolicy ..)]; exact h)
    | (rw [vital_regionWrite _ _ (vital_writeDocRegion _ _ _)]; exact h)
    | (rw [vital_regionWrite _ _ (vital_writeCounters _ _ _)]; exact h)
    | (refine ok_regionWrite _ _ (ok_writeCurator _ _ _ h) h)
    | (refine ok_configWrite _ _ ?_ h; exact fun s h => h)
    | exact h

theorem vital_whileIdle (fn : Nat) (i : Nat) (f : Stream → Stream) (s : State) : vital (whileIdle fn i f s) = vital s := by
  unfold whileIdle; simp only [vital_mk, vital_foldl, apply_ite vital, ite_self, implies_true, vital_updStrm]

theorem vital_writeStream (fn : Fin 1025) (i : Nat) (r : Nat) (v : Sys2Proof.W64) (s : State) : vital (writeStream fn i r v s) = vital s := by
  unfold writeStream; simp only [vital_mk, vital_foldl, apply_ite vital, ite_self, implies_true, vital_enableStream, vital_disableStream, vital_whileIdle, vital_updStrm, vital_commitLarge, vital_commitSlot, vital_ackResponse, vital_setFault]

theorem vital_writeWindow (fn : Fin 1025) (o : Nat) (v : Sys2Proof.W64) (s : State) : vital (writeWindow fn o v s) = vital s := by
  unfold writeWindow; simp only [vital_mk, vital_foldl, apply_ite vital, ite_self, implies_true, vital_updWin, vital_writeStream, vital_writeEventMask, vital_writeMsix, vital_setFault]

theorem ok_writeWord {b p f} (fn : Fin 1025) (o : Nat) (v : Sys2Proof.W64) (s : State) (h_ok : OkV b p f (vital s)) : OkV b p f (vital (writeWord fn o v s)) := by
  unfold writeWord; simp only [vital_mk, vital_foldl, ok_foldl, apply_ite vital, apply_ite (OkV b p f), ite_self, implies_true, h_ok, vital_writeWindow, vital_setFault, ok_writeModule]

theorem ok_barWrite {b p f} (fn : Fin 1025) (off : Nat) (data : Bytes) (s : State) (h : OkV b p f (vital s)) : OkV b p f (vital (barWrite fn off data s)) := by
  unfold barWrite
  split
  · rw [vital_writeSlot]; exact h
  · split
    · rw [vital_writePort]; exact h
    · exact ok_foldl _ (fun s x h => ok_writeWord _ _ _ _ h) _ _ h

theorem ok_execBarWrite {b p f} (fn : Fin 1025) (off : Nat) (data : Sys2Proof.Bytes) (poisoned : Bool) (s : State) (h_ok : OkV b p f (vital s)) : ∀ t, execBarWrite fn off data poisoned s = .next t → OkV b p f (vital t) := by
  unfold execBarWrite
  try dsimp only
  intro t ht
  repeat' split at ht
  all_goals simp only [Host.Outcome.next.injEq, reduceCtorEq] at ht
  all_goals rw [← ht]
  all_goals (repeat' split)
  all_goals first | exact h_ok | (simp only [vital_mk, vital_foldl, ok_foldl, apply_ite vital, apply_ite (OkV b p f), ite_self, implies_true, h_ok, vital_partialWrite, ok_barWrite]; done) | grind [vital_mk, vital_partialWrite, ok_barWrite]

/-! ### PairOps -/

theorem vital_putHeader (d : Descriptor) (inst : Nat) (acc : Nat) (rootKey : Sys2Proof.Bytes) (rights : List Nat) (seals : Map Nat) (keyGen : Nat) (loanSeq : Nat) (clear : Bool) (s : State) : vital (putHeader d inst acc rootKey rights seals keyGen loanSeq clear s) = vital s := by
  grind [putHeader, vital, vital_updGal]

theorem vital_settleJournals (s : State) : vital (settleJournals s) = vital s := by
  unfold settleJournals; simp only [vital_mk, vital_foldl, apply_ite vital, ite_self, implies_true, vital_sendPartner]

theorem vital_beginActive (term : Nat) (d : Nat) (lost : Bool) (s : State) : vital (beginActive term d lost s) = vital s := by
  rfl

theorem vital_restoreRecord (u : Nat × Nat × Nat × Option VRecord) (s : State) : vital (restoreRecord u s) = vital s := by
  grind [restoreRecord, vital, vital_discardRecord, vital_touchVitrine, vital_updGal]

theorem vital_sendResync (l : List CopyItem) (s : State) : vital (sendResync l s) = vital s := by
  unfold sendResync; simp only [vital_mk, vital_foldl, apply_ite vital, ite_self, implies_true, vital_sendPartner]

theorem vital_beginRepaired (term : Nat) (n : Nat) (s : State) : vital (beginRepaired term n s) = vital s := by
  unfold beginRepaired; simp only [vital_mk, vital_foldl, apply_ite vital, ite_self, implies_true, vital_restoreRecord, vital_setRole, vital_sendResync, vital_sendPartner]

theorem vital_resyncBegins (term : Nat) (d : Nat) (lost : Bool) (s : State) : vital (resyncBegins term d lost s) = vital s := by
  unfold resyncBegins; simp only [vital_mk, vital_foldl, apply_ite vital, ite_self, implies_true, vital_beginActive, vital_beginRepaired]

theorem vital_copyJournal (g : Nat) (e : JournalEntry) (s : State) : vital (copyJournal g e s) = vital s := by
  unfold copyJournal; simp only [vital_mk, vital_foldl, apply_ite vital, ite_self, implies_true, vital_updGal]

theorem vital_putItem (c : CopyItem) (s : State) : vital (putItem c s) = vital s := by
  unfold putItem; try dsimp only
  repeat' split
  all_goals first | rfl | (simp only [vital_mk, vital_foldl, apply_ite vital, ite_self, implies_true, vital_discardRecord, vital_replaceRecord, vital_copyJournal, vital_updGal]; done) | grind [vital, vital_discardRecord, vital_replaceRecord, vital_copyJournal, vital_updGal]

theorem vital_repairItem (r : Resync) (c : CopyItem) (s : State) : vital (repairItem r c s) = vital s := by
  unfold repairItem; try dsimp only
  repeat' split
  all_goals first | rfl | (simp only [vital_mk, vital_foldl, apply_ite vital, ite_self, implies_true, vital_touchVitrine, vital_putHeader, vital_updGal, vital_applyChange, vital_putItem]; done) | grind [vital, vital_touchVitrine, vital_putHeader, vital_updGal, vital_applyChange, vital_putItem]

theorem vital_resyncItem (hdr : LinkHdr) (item : CopyItem) (s : State) : vital (resyncItem hdr item s) = vital s := by
  unfold resyncItem; try dsimp only
  repeat' split
  all_goals first | rfl | (simp only [vital_mk, vital_foldl, apply_ite vital, ite_self, implies_true, vital_resyncBegins, vital_putItem, vital_bringState, vital_repairItem]; done) | grind [vital, vital_resyncBegins, vital_putItem, vital_bringState, vital_repairItem]

theorem vital_countSuperseded (s : State) : vital (countSuperseded s) = vital s := by
  unfold countSuperseded; simp only [vital_mk, vital_foldl, apply_ite vital, ite_self, implies_true, vital_latchEvent]

theorem vital_compareResult (s : State) (e : JournalEntry) : vital (compareResult s e) = vital s := by
  grind [compareResult, vital, vital_countSuperseded, vital_updGal]

theorem vital_sendCopy (r : Resync) (s : State) : vital (sendCopy r s) = vital s := by
  unfold sendCopy; simp only [vital_mk, vital_foldl, apply_ite vital, ite_self, implies_true, vital_compareResult, vital_sendResync, vital_sendPartner]

theorem vital_compareOwn (s : State) (e : JournalEntry) : vital (compareOwn s e) = vital s := by
  grind [compareOwn, vital, vital_countSuperseded]

theorem vital_endCopy (r : Resync) (s : State) : vital (endCopy r s) = vital s := by
  unfold endCopy; simp only [vital_mk, vital_foldl, apply_ite vital, ite_self, implies_true, vital_dropGallery, vital_compareOwn, vital_drainDeltas]

theorem vital_resyncEnds (s : State) : vital (resyncEnds s) = vital s := by
  grind [resyncEnds, vital, vital_sendCopy, vital_endCopy]

theorem vital_becomeStandby (s : State) : vital (becomeStandby s) = vital s := by
  unfold becomeStandby; simp only [vital_mk, vital_foldl, apply_ite vital, ite_self, implies_true, vital_setRole, vital_offerWork]

theorem vital_execResyncData (hdr : LinkHdr) (item : CopyItem) (s : State) : ∀ t, execResyncData hdr item s = .next t → vital t = vital s := by
  grind [execResyncData, vital, vital_pairFrame, vital_whenWritable, vital_resyncItem]

theorem vital_answerSwap (s : State) : vital (answerSwap s) = vital s := by
  grind [answerSwap, vital, vital_answerFn]

theorem vital_beginSwap (c : Ctx) (s : State) : vital (beginSwap c s) = vital s := by
  unfold beginSwap; simp only [vital_mk, vital_foldl, apply_ite vital, ite_self, implies_true, vital_answerSwap]

theorem vital_execResyncEnd (hdr : LinkHdr) (s : State) : ∀ t, execResyncEnd hdr s = .next t → vital t = vital s := by
  grind [execResyncEnd, vital, vital_pairFrame, vital_whenWritable, vital_resyncEnds]

theorem vital_crossfeedArrives (sid : StreamId) (frame : Sys2Proof.Bytes) (s : State) : vital (crossfeedArrives sid frame s) = vital s := by
  grind [crossfeedArrives, vital, vital_offerWork, vital_deliverFrame, vital_placeFrame]

theorem vital_rejoin (s : State) : vital (rejoin s) = vital s := by
  unfold rejoin; simp only [vital_mk, vital_foldl, apply_ite vital, ite_self, implies_true, vital_dropUnpublished, vital_discardUnreleased, vital_updFlow]

theorem vital_execResyncComplete (s : State) : ∀ t, execResyncComplete s = .next t → vital t = vital s := by
  unfold execResyncComplete; try dsimp only
  repeat' split
  all_goals first | (rintro t ⟨rfl⟩; first | rfl | (simp only [vital_mk, vital_foldl, apply_ite vital, ite_self, implies_true, vital_settleJournals, vital_sendResync, vital_offerWork, vital_latchEvent, vital_setRole, vital_rejoin]; done) | grind [vital, vital_settleJournals, vital_sendResync, vital_offerWork, vital_latchEvent, vital_setRole, vital_rejoin]) | grind [vital, vital_settleJournals, vital_sendResync, vital_offerWork, vital_latchEvent, vital_setRole, vital_rejoin]

theorem vital_sealsArrive (sid : StreamId) (epoch : Nat) (live : Bool) (s : State) : vital (sealsArrive sid epoch live s) = vital s := by
  unfold sealsArrive; simp only [vital_mk, vital_foldl, apply_ite vital, ite_self, implies_true, vital_updGal]

theorem vital_execPairSwap (cell : Fin 128) (s : State) : ∀ t, execPairSwap cell s = .next t → vital t = vital s := by
  unfold execPairSwap; rintro t ⟨rfl⟩; simp only [vital_mk, vital_foldl, apply_ite vital, ite_self, implies_true, vital_runCmd, vital_beginSwap]

theorem vital_noticeArrives (sid : StreamId) (q : Nat) (digest : Nat) (s : State) : vital (noticeArrives sid q digest s) = vital s := by
  grind [noticeArrives, vital, vital_sendPartner, vital_updFlow]

theorem vital_ackArrives (sid : StreamId) (q : Nat) (s : State) : vital (ackArrives sid q s) = vital s := by
  grind [ackArrives, vital, vital_updDesc]

theorem vital_loansDoneArrives (sid : StreamId) (q : Nat) (s : State) : vital (loansDoneArrives sid q s) = vital s := by
  grind [loansDoneArrives, vital, vital_updDesc]

theorem vital_execPosition (hdr : LinkHdr) (body : Position) (s : State) : ∀ t, execPosition hdr body s = .next t → vital t = vital s := by
  grind [execPosition, vital, vital_pairFrame, vital_noticeArrives, vital_ackArrives, vital_offerWork, vital_applyVerdict, vital_markEntry, vital_sealsArrive, vital_loansDoneArrives]

theorem vital_execCrossfeedTimeout (ticket : Fin 65536) (s : State) : ∀ t, execCrossfeedTimeout ticket s = .next t → vital t = vital s := by
  grind [execCrossfeedTimeout, vital, vital_advanceTo, vital_updDesc, vital_sendPartner]

theorem vital_finishSwap (s : State) : vital (finishSwap s) = vital s := by
  grind [finishSwap, vital, vital_becomeStandby, vital_answerSwap]

theorem vital_takeover (a0 : Ctx) (s : State) : vital (takeover a0 s).2.2 = vital s := by
  unfold takeover; simp only [vital_mk, vital_foldl, apply_ite vital, ite_self, implies_true, vital_setRole]

theorem vital_execPairTakeover (cell : Fin 128) (s : State) : ∀ t, execPairTakeover cell s = .next t → vital t = vital s := by
  unfold execPairTakeover; rintro t ⟨rfl⟩; simp only [vital_mk, vital_foldl, apply_ite vital, ite_self, implies_true, vital_runFn, vital_takeover]

theorem vital_execCrossfeed (hdr : LinkHdr) (sid : StreamId) (frame : Sys2Proof.Bytes) (s : State) : ∀ t, execCrossfeed hdr sid frame s = .next t → vital t = vital s := by
  unfold execCrossfeed; rintro t ⟨rfl⟩; simp only [vital_mk, vital_foldl, apply_ite vital, ite_self, implies_true, vital_pairFrame, vital_crossfeedArrives]

theorem vital_execDelta (hdr : LinkHdr) (body : Delta) (s : State) : ∀ t, execDelta hdr body s = .next t → vital t = vital s := by
  grind [execDelta, vital, vital_pairFrame, vital_bringState, vital_sendPartner, vital_offerReady, vital_drainDeltas]

theorem vital_execDeltaAck (hdr : LinkHdr) (number : Nat) (s : State) : ∀ t, execDeltaAck hdr number s = .next t → vital t = vital s := by
  unfold execDeltaAck; rintro t ⟨rfl⟩; simp only [vital_mk, vital_foldl, apply_ite vital, ite_self, implies_true, vital_pairFrame, vital_finishSwap]

/-! ### LoanOps -/

theorem vital_arriveHeader (d : Descriptor) (inst : Nat) (acc : Nat) (k : Sys2Proof.Bytes) (rights : List Nat) (seals : Map Nat) (kg : Nat) (ls : Nat) (old : Option (Nat × Nat)) (s : State) : vital (arriveHeader d inst acc k rights seals kg ls old s) = vital s := by
  unfold arriveHeader; try dsimp only
  repeat' split
  all_goals first | rfl | (simp only [vital_mk, vital_foldl, apply_ite vital, ite_self, implies_true, vital_putHeader, vital_touchVitrine, vital_updGal]; done) | grind [vital, vital_putHeader, vital_touchVitrine, vital_updGal]

theorem vital_toProxies (g : Nat) (s : State) : vital (toProxies g s) = vital s := by
  unfold toProxies; simp only [vital_mk, vital_foldl, apply_ite vital, ite_self, implies_true, vital_updStrm]

theorem vital_sendHome (h : Descriptor) (s : State) : vital (sendHome h s) = vital s := by
  unfold sendHome; try dsimp only
  repeat' split
  all_goals first | rfl | (simp only [vital_mk, vital_foldl, apply_ite vital, ite_self, implies_true, vital_forwardHome, vital_updDesc]; done) | grind [vital, vital_forwardHome, vital_updDesc] | (refine (vital_foldl _ (fun s x => ?_) _ _).trans ?_ <;> (first | rfl | exact vital_forwardHome .. | exact vital_updDesc .. | (simp only [vital_mk, vital_foldl, apply_ite vital, ite_self, implies_true, vital_forwardHome, vital_updDesc]; done) | grind [vital, vital_forwardHome, vital_updDesc])) | (rw [vital_forwardHome]; refine (vital_foldl _ (fun s x => ?_) _ _).trans ?_ <;> (first | rfl | exact vital_forwardHome .. | exact vital_updDesc .. | (simp only [vital_mk, vital_foldl, apply_ite vital, ite_self, implies_true, vital_forwardHome, vital_updDesc]; done) | grind [vital, vital_forwardHome, vital_updDesc]))

theorem vital_dropCopy (g : Nat) (s : State) : vital (dropCopy g s) = vital s := by
  grind [dropCopy, vital, vital_toProxies, vital_dropGallery, vital_sendHome]

theorem vital_followChange (s : State) (c : Change) : vital (followChange s c) = vital s := by
  unfold followChange
  split <;> first | rfl | exact vital_dropCopy .. | exact vital_applyGallery .. | exact vital_applyChange .. | (split <;> first | rfl | exact vital_applyChange ..)

theorem vital_arriveItem (c : CopyItem) (s : State) : vital (arriveItem c s) = vital s := by
  unfold arriveItem
  split
  · exact vital_arriveHeader ..
  · exact vital_updGal ..
  · exact vital_foldl _ vital_followChange _ _
  · exact vital_putItem ..

theorem vital_passOn (hdr : LinkHdr) (cls : Nat) (body : FrameBody) (s : State) : vital (passOn hdr cls body s) = vital s := by
  unfold passOn; simp only [vital_mk, vital_foldl, apply_ite vital, ite_self, implies_true, vital_sendPartner]

theorem vital_stateEnds (g : Nat) (s : State) : vital (stateEnds g s) = vital s := by
  grind [stateEnds, vital, vital_sendTo, vital_updGal]

theorem vital_loanDeltaArrives (src : Nat) (g : Nat) (b : Delta) (s : State) : vital (loanDeltaArrives src g b s) = vital s := by
  unfold loanDeltaArrives; try dsimp only
  repeat' split
  all_goals first | rfl | (simp only [vital_mk, vital_foldl, apply_ite vital, ite_self, implies_true, vital_sendTo, vital_applyChange, vital_updGal]; done) | grind [vital, vital_sendTo, vital_applyChange, vital_updGal]

theorem vital_frameEffect (h : LinkHdr) (b : FrameBody) (s : State) : vital (frameEffect h b s) = vital s := by
  unfold frameEffect; try dsimp only
  repeat' split
  all_goals first | rfl | (simp only [vital_mk, vital_foldl, apply_ite vital, ite_self, implies_true, vital_resyncItem, vital_resyncEnds, vital_arriveItem, vital_passOn, vital_stateEnds, vital_loanDeltaArrives]; done) | grind [vital, vital_resyncItem, vital_resyncEnds, vital_arriveItem, vital_passOn, vital_stateEnds, vital_loanDeltaArrives]

theorem vital_resumeWrites (s : State) : vital (resumeWrites s) = vital s := by
  unfold resumeWrites; simp only [vital_mk, vital_foldl, apply_ite vital, ite_self, implies_true, vital_writeAnchor, vital_resumeEnables, vital_offerWork, vital_frameEffect]

theorem vital_execForwardRetry (ticket : Fin 65536) (s : State) : ∀ t, execForwardRetry ticket s = .next t → vital t = vital s := by
  grind [execForwardRetry, vital, vital_advanceTo, vital_forwardHome, vital_releaseAll, vital_updDesc]

theorem vital_sendState (dst : Nat) (l : List CopyItem) (s : State) : vital (sendState dst l s) = vital s := by
  unfold sendState; simp only [vital_mk, vital_foldl, apply_ite vital, ite_self, implies_true, vital_sendTo]

theorem vital_endMigration (c : Ctx) (s : State) : vital (endMigration c s).2.2 = vital s := by
  unfold endMigration; try dsimp only
  repeat' split
  all_goals first | rfl | (simp only [vital_mk, vital_foldl, apply_ite vital, ite_self, implies_true, vital_sendTo, vital_sendState, vital_dropGallery, vital_finalMeter]; done) | grind [vital, vital_sendTo, vital_sendState, vital_dropGallery, vital_finalMeter]

theorem vital_execMigrateEnd (cell : Fin 128) (s : State) : ∀ t, execMigrateEnd cell s = .next t → vital t = vital s := by
  unfold execMigrateEnd; rintro t ⟨rfl⟩; simp only [vital_mk, vital_foldl, apply_ite vital, ite_self, implies_true, vital_runFn, vital_endMigration]

theorem vital_dropWaits (which : Desc → Bool) (ms : List Nat) (s : State) : vital (dropWaits which ms s) = vital s := by
  unfold dropWaits; try dsimp only
  repeat' split
  all_goals first | rfl | (simp only [vital_mk, vital_foldl, apply_ite vital, ite_self, implies_true, vital_updDesc, vital_sendPartner]; done) | grind [vital, vital_updDesc, vital_sendPartner] | (refine (vital_foldl _ (fun s x => ?_) _ _).trans ?_ <;> (first | rfl | exact vital_updDesc .. | exact vital_sendPartner .. | (simp only [vital_mk, vital_foldl, apply_ite vital, ite_self, implies_true, vital_updDesc, vital_sendPartner]; done) | grind [vital, vital_updDesc, vital_sendPartner])) | (rw [vital_updDesc]; refine (vital_foldl _ (fun s x => ?_) _ _).trans ?_ <;> (first | rfl | exact vital_updDesc .. | exact vital_sendPartner .. | (simp only [vital_mk, vital_foldl, apply_ite vital, ite_self, implies_true, vital_updDesc, vital_sendPartner]; done) | grind [vital, vital_updDesc, vital_sendPartner]))

theorem vital_openRemote (sid : StreamId) (base : Nat) (sealKey : Option Nat) (src : Nat) (s : State) : vital (openRemote sid base sealKey src s) = vital s := by
  unfold openRemote; try dsimp only
  repeat' split
  all_goals first | rfl | (simp only [vital_mk, vital_foldl, apply_ite vital, ite_self, implies_true, vital_noteCut]; done) | grind [vital, vital_noteCut] | (refine (vital_foldl _ (fun s x => ?_) _ _).trans ?_ <;> (first | rfl | exact vital_noteCut .. | (simp only [vital_mk, vital_foldl, apply_ite vital, ite_self, implies_true, vital_noteCut]; done) | grind [vital, vital_noteCut])) | (rw [vital_noteCut]; refine (vital_foldl _ (fun s x => ?_) _ _).trans ?_ <;> (first | rfl | exact vital_noteCut .. | (simp only [vital_mk, vital_foldl, apply_ite vital, ite_self, implies_true, vital_noteCut]; done) | grind [vital, vital_noteCut]))

theorem vital_commandArrives (src : Nat) (sid : StreamId) (frame : Sys2Proof.Bytes) (answer : Option Answer) (s : State) : vital (commandArrives src sid frame answer s) = vital s := by
  grind [commandArrives, vital, vital_openRemote, vital_updFlow, vital_offerWork, vital_placeFrame]

theorem vital_execStateData (hdr : LinkHdr) (item : CopyItem) (s : State) : ∀ t, execStateData hdr item s = .next t → vital t = vital s := by
  grind [execStateData, vital, vital_receiveFrame, vital_readState, vital_whenWritable, vital_offerWork, vital_arriveItem, vital_passOn]

theorem vital_endLoan (c : Ctx) (s : State) : vital (endLoan c s).2.2 = vital s := by
  unfold endLoan; simp only [vital_mk, vital_foldl, apply_ite vital, ite_self, implies_true, vital_dropWaits, vital_sendState, vital_updGal]

theorem vital_execLoanEnd (cell : Fin 128) (s : State) : ∀ t, execLoanEnd cell s = .next t → vital t = vital s := by
  unfold execLoanEnd; rintro t ⟨rfl⟩; simp only [vital_mk, vital_foldl, apply_ite vital, ite_self, implies_true, vital_runFn, vital_endLoan]

theorem vital_beginLoan (c : Ctx) (s : State) : vital (beginLoan c s) = vital s := by
  grind [beginLoan, vital, vital_updGal, vital_sendTo, vital_sendState]

theorem vital_currencyArrives (g : Nat) (n : Nat) (s : State) : vital (currencyArrives g n s) = vital s := by
  grind [currencyArrives, vital, vital_updGal]

theorem vital_execCurrency (hdr : LinkHdr) (number : Nat) (s : State) : ∀ t, execCurrency hdr number s = .next t → vital t = vital s := by
  unfold execCurrency; rintro t ⟨rfl⟩; simp only [vital_mk, vital_foldl, apply_ite vital, ite_self, implies_true, vital_receiveFrame, vital_currencyArrives, vital_passOn]

theorem vital_loanAckArrives (g : Nat) (m : Nat) (n : Nat) (s : State) : vital (loanAckArrives g m n s) = vital s := by
  grind [loanAckArrives, vital, vital_updGal, vital_answerFn, vital_dropWaits]

theorem vital_execLoanAck (hdr : LinkHdr) (number : Nat) (s : State) : ∀ t, execLoanAck hdr number s = .next t → vital t = vital s := by
  unfold execLoanAck; rintro t ⟨rfl⟩; simp only [vital_mk, vital_foldl, apply_ite vital, ite_self, implies_true, vital_receiveFrame, vital_readState, vital_offerWork, vital_loanAckArrives]

theorem vital_abortMigration (c : Ctx) (s : State) : vital (abortMigration c s).2.2 = vital s := by
  grind [abortMigration, vital, vital_sendState, vital_updGal]

theorem vital_replyOpen (dst : Nat) (sid : StreamId) (r : OpenReply) (s : State) : vital (replyOpen dst sid r s) = vital s := by
  unfold replyOpen; simp only [vital_mk, vital_foldl, apply_ite vital, ite_self, implies_true, vital_sendTo]

theorem vital_sealFar (sid : StreamId) (sealKey : Option Nat) (again : Bool) (s : State) : vital (sealFar sid sealKey again s).2 = vital s := by
  grind [sealFar, vital, vital_mirrorChanges, vital_updGal]

theorem vital_opensArrive (hdr : LinkHdr) (sid : StreamId) (base : Nat) (sealKey : Option Nat) (s : State) : vital (opensArrive hdr sid base sealKey s) = vital s := by
  grind [opensArrive, vital, vital_updFlow, vital_openRemote, vital_replyOpen, vital_sealFar, vital_passOn]

theorem vital_closesArrive (src : Nat) (sid : StreamId) (s : State) : vital (closesArrive src sid s) = vital s := by
  grind [closesArrive, vital, vital_updFlow, vital_closeFlows, vital_discardFlows]

theorem vital_forwardArrives (hdr : LinkHdr) (sid : StreamId) (body : Forwarded) (s : State) : vital (forwardArrives hdr sid body s) = vital s := by
  unfold forwardArrives; try dsimp only
  repeat' split
  all_goals first | rfl | (simp only [vital_mk, vital_foldl, apply_ite vital, ite_self, implies_true, vital_sendTo, vital_replyOpen, vital_opensArrive, vital_commandArrives, vital_closesArrive, vital_passOn]; done) | grind [vital, vital_sendTo, vital_replyOpen, vital_opensArrive, vital_commandArrives, vital_closesArrive, vital_passOn]

theorem vital_execPowerFailWarningClear (s : State) : ∀ t, execPowerFailWarningClear s = .next t → vital t = vital s := by
  unfold execPowerFailWarningClear; rintro t ⟨rfl⟩; simp only [vital_mk, vital_foldl, apply_ite vital, ite_self, implies_true, vital_resumeWrites]

theorem vital_forwardReturns (sid : StreamId) (q : Nat) (r : Resp) (far : FarFlags) (s : State) : vital (forwardReturns sid q r far s) = vital s := by
  grind [forwardReturns, vital, vital_updDesc, vital_countRefusal, vital_noteVerdict, vital_releaseAll, vital_leaveService]

theorem vital_execForwardRsp (hdr : LinkHdr) (sid : StreamId) (seq : Nat) (resp : Resp) (flags : FarFlags) (s : State) : ∀ t, execForwardRsp hdr sid seq resp flags s = .next t → vital t = vital s := by
  grind [execForwardRsp, vital, vital_receiveFrame, vital_openReplies, vital_offerWork, vital_forwardReturns]

theorem vital_execLoanDelta (hdr : LinkHdr) (body : Delta) (s : State) : ∀ t, execLoanDelta hdr body s = .next t → vital t = vital s := by
  grind [execLoanDelta, vital, vital_receiveFrame, vital_readState, vital_whenWritable, vital_offerWork, vital_loanDeltaArrives, vital_passOn]

theorem vital_execMigrateAbort (cell : Fin 128) (s : State) : ∀ t, execMigrateAbort cell s = .next t → vital t = vital s := by
  unfold execMigrateAbort; rintro t ⟨rfl⟩; simp only [vital_mk, vital_foldl, apply_ite vital, ite_self, implies_true, vital_runFn, vital_abortMigration]

theorem vital_beginMigration (c : Ctx) (s : State) : vital (beginMigration c s).2.2 = vital s := by
  grind [beginMigration, vital, vital_sendState, vital_updGal]

theorem vital_execMigrateBegin (cell : Fin 128) (destFull : Bool) (s : State) : ∀ t, execMigrateBegin cell destFull s = .next t → vital t = vital s := by
  unfold execMigrateBegin; rintro t ⟨rfl⟩; simp only [vital_mk, vital_foldl, apply_ite vital, ite_self, implies_true, vital_openFars, vital_runFn, vital_beginMigration]

theorem vital_cutMigration (c : Ctx) (s : State) : vital (cutMigration c s).2.2 = vital s := by
  unfold cutMigration; try dsimp only
  repeat' split
  all_goals first | rfl | (simp only [vital_mk, vital_foldl, apply_ite vital, ite_self, implies_true, vital_applyMigration, vital_sendState, vital_testCut, vital_migrateHeld, vital_updGal, vital_sendTo]; done) | grind [vital, vital_applyMigration, vital_sendState, vital_testCut, vital_migrateHeld, vital_updGal, vital_sendTo]

theorem vital_execMigrateCut (cell : Fin 128) (s : State) : ∀ t, execMigrateCut cell s = .next t → vital t = vital s := by
  unfold execMigrateCut; rintro t ⟨rfl⟩; simp only [vital_mk, vital_foldl, apply_ite vital, ite_self, implies_true, vital_runFn, vital_cutMigration]

theorem vital_execLoanCreate (cell : Fin 128) (destFull : Bool) (s : State) : ∀ t, execLoanCreate cell destFull s = .next t → vital t = vital s := by
  unfold execLoanCreate; rintro t ⟨rfl⟩; simp only [vital_mk, vital_foldl, apply_ite vital, ite_self, implies_true, vital_openFars, vital_runCmd, vital_beginLoan]

theorem vital_execCurrencyDue (s : State) : ∀ t, execCurrencyDue s = .next t → vital t = vital s := by
  unfold execCurrencyDue; rintro t ⟨rfl⟩; simp only [vital_mk, vital_foldl, apply_ite vital, ite_self, implies_true, vital_sendTo]

theorem vital_execLoanCurrencyTimeout (gallery : Nat) (s : State) : ∀ t, execLoanCurrencyTimeout gallery s = .next t → vital t = vital s := by
  grind [execLoanCurrencyTimeout, vital, vital_updGal, vital_advanceTo]

theorem vital_execLoanAckTimeout (ticket : Fin 65536) (s : State) : ∀ t, execLoanAckTimeout ticket s = .next t → vital t = vital s := by
  grind [execLoanAckTimeout, vital, vital_advanceTo, vital_updGal, vital_dropWaits]

theorem vital_execForward (hdr : LinkHdr) (sid : StreamId) (body : Forwarded) (s : State) : ∀ t, execForward hdr sid body s = .next t → vital t = vital s := by
  unfold execForward; rintro t ⟨rfl⟩; simp only [vital_mk, vital_foldl, apply_ite vital, ite_self, implies_true, vital_receiveFrame, vital_sendFrame, vital_forwardArrives]

theorem vital_execStateEnd (hdr : LinkHdr) (s : State) : ∀ t, execStateEnd hdr s = .next t → vital t = vital s := by
  unfold execStateEnd; rintro t ⟨rfl⟩; simp only [vital_mk, vital_foldl, apply_ite vital, ite_self, implies_true, vital_receiveFrame, vital_whenWritable, vital_offerWork, vital_stateEnds, vital_passOn]

/-! ### SpanOps -/

theorem vital_runOpenEscrowed (c : Ctx) (s : State) : vital (runOpenEscrowed c s).2.2 = vital s := by
  grind [runOpenEscrowed, vital, vital_drawBytes]

theorem vital_execAeadOpenEscrowed (cell : Fin 128) (s : State) : ∀ t, execAeadOpenEscrowed cell s = .next t → vital t = vital s := by
  unfold execAeadOpenEscrowed; rintro t ⟨rfl⟩; simp only [vital_mk, vital_foldl, apply_ite vital, ite_self, implies_true, vital_runFn, vital_runOpenEscrowed]

theorem vital_runSealChunked (c : Ctx) (s : State) : vital (runSealChunked c s).2.2 = vital s := by
  grind [runSealChunked, vital, vital_drawNonce]

theorem vital_execAeadSealChunked (cell : Fin 128) (s : State) : ∀ t, execAeadSealChunked cell s = .next t → vital t = vital s := by
  unfold execAeadSealChunked; rintro t ⟨rfl⟩; simp only [vital_mk, vital_foldl, apply_ite vital, ite_self, implies_true, vital_runFn, vital_runSealChunked]

theorem vital_runHashChunked (c : Ctx) (s : State) : vital (runHashChunked c s).2.2 = vital s := by
  rfl

theorem vital_execHashChunked (cell : Fin 128) (s : State) : ∀ t, execHashChunked cell s = .next t → vital t = vital s := by
  unfold execHashChunked; rintro t ⟨rfl⟩; simp only [vital_mk, vital_foldl, apply_ite vital, ite_self, implies_true, vital_runFn, vital_runHashChunked]

theorem vital_runHmacChunked (c : Ctx) (s : State) : vital (runHmacChunked c s).2.2 = vital s := by
  grind [runHmacChunked, vital]

theorem vital_execHmacChunked (cell : Fin 128) (s : State) : ∀ t, execHmacChunked cell s = .next t → vital t = vital s := by
  unfold execHmacChunked; rintro t ⟨rfl⟩; simp only [vital_mk, vital_foldl, apply_ite vital, ite_self, implies_true, vital_runFn, vital_runHmacChunked]

end Sys2Proof.Machine
end

