-- ==== Sys2Proof/Machine/Views.lean ====
section
/-!
DEFINITION. What each register of a BAR, and each engine register a cell reads, shows: the layouts of the register tables over the state. No command returns these words, for no read of a register has a side effect (R8); statements speak of them, and a bench would compare them.
-/

namespace Sys2Proof.Machine

/-- A word of 64 bits. -/
def word (n : Nat) : W64 := BitVec.ofNat 64 n

/-- Eight bytes of a byte memory as a word. -/
def memWord (m : Mem) (a : Nat) : W64 := word (ofLE (memReadBytes 0 m a 8))

/-- Eight bytes of a byte string as a word. -/
def byteWord (b : Bytes) (a : Nat) : W64 := word (leAt b a 8)

/-! Window registers. -/

/-- A gallery's commands at this module's windows go elsewhere: REMOTE (Table 3-6). -/
def remoteGallery (s : State) (g : Nat) : Bool :=
  match gal s g with
  | some x => x.loanCopy.isSome
  | none => true

/-- Bits 31:0 of WIN_ID, and an entry of WIN_VFMAP (Table 3-6). -/
def bindingWord (s : State) (fn : Nat) : Nat :=
  match (win s fn).gallery with
  | none => 0xFFFFF
  | some g => g + 2 ^ 30 * b2n (remoteGallery s g) + 2 ^ 31

/-- WIN_ID (Table 3-6). -/
def winIdWord (s : State) (fn : Nat) : W64 := word (bindingWord s fn + 2 ^ 32 * fn + 2 ^ 48 * s.img.set.moduleId)

/-- The flow of a stream, where it has one. -/
def streamFlow (s : State) (fn i : Nat) : Option Flow := (strm s fn i).flow.bind (fun k => mget s.doc.flows k)

/-- Release is held on a stream for recovery (R263, R265). -/
def streamHeld (s : State) (fn i : Nat) : Bool := ((streamFlow s fn i).map (fun f => decide (0 < f.holds))).getD false

/-- WIN_STATE (Table 3-7). -/
def winStateWord (s : State) (fn : Nat) : W64 :=
  word (winState s fn + 8 * b2n s.pow.ready + 16 * modeCode s.pow + 256 * memberCode s +
    1024 * b2n ((List.range 16).any (streamHeld s fn)) + 2 ^ 32 * termNow s)

/-- WIN_STREAM_STATUS (Table 3-10). -/
def streamStatusWord (s : State) (fn i : Nat) : W64 :=
  let st := strm s fn i
  let gap := ((streamFlow s fn i).map (fun f => decide (f.held ≠ []))).getD false
  word ((255 - maskOf st.busy) + 256 * maskOf (mkeys st.resp) + 2 ^ 16 * b2n st.active + 2 ^ 17 * b2n (streamHeld s fn i) + 2 ^ 18 * b2n gap +
    2 ^ 19 * b2n st.respStall + 2 ^ 20 * b2n st.lfsCopy.isSome + 2 ^ 21 * b2n (largeSelected st).isSome + 2 ^ 24 * b2n st.commitErr +
    2 ^ 25 * b2n st.ackErr + 2 ^ 26 * b2n st.enableRefused + 2 ^ 27 * b2n st.lfErr)

/-- WIN_STREAM_NEXT (R63, R89): the flow's, or the value left when the flow ended. -/
def streamNextWord (s : State) (fn i : Nat) : W64 := word (((streamFlow s fn i).map (·.next)).getD (strm s fn i).next)

/-- A register of a stream block, at byte `r` (Table 3-5). -/
def streamWord (s : State) (fn i r : Nat) : W64 :=
  let st := strm s fn i
  match r with
  | 0x00 => word (b2n st.enable + 2 * b2n st.sealed + 2 ^ 32 * st.sealEpoch)
  | 0x08 => word st.base
  | 0x10 => st.sealHandle
  | 0x28 => streamStatusWord s fn i
  | 0x30 => streamNextWord s fn i
  | 0x38 => word st.lfsPos
  | 0x40 => word (st.lfrSeq + 2 ^ 48 * st.lfrWord)
  | _ => 0

/-- The bound gallery of a window, as held here. -/
def boundGallery (s : State) (fn : Nat) : Option Gallery := (win s fn).gallery.bind (gal s)

/-- The quota registers and WIN_KEY_GEN, at byte `r` of 0x0_1000 (Table 3-11, R75); of a gallery homed elsewhere what its home alone knows, the buckets, records, loans and generation, reads 0 (log 195). -/
def quotaWord (s : State) (fn r : Nat) : W64 :=
  let x := boundGallery s fn
  let id := ((win s fn).gallery).getD 0xFFFFF
  match r with
  | 0x20 => word ((x.map (fun g => sat 0xFFFF g.cmdTokens.toNat + 2 ^ 16 * sat 0xFFFF g.pkTokens.toNat)).getD 0 + 2 ^ 32 * (win s fn).refusedTick)
  | 0x28 => word (sat 0x3FFF (stagingKib s id) + 2 ^ 16 * sat 0x1FF (galleryFlows s id).length + 2 ^ 32 * sat 0x3FFFF (cacheEntries s id))
  | 0x30 => word ((x.map (fun g => sat 0x1FFFFFF (recordsHeld g) + 2 ^ 32 * g.loans.length)).getD 0)
  | 0x38 => word ((x.map (·.keyGen)).getD 0)
  | _ => 0

/-- The counter-read privilege, which the PF's window always has (R427). -/
def countsPermitted (s : State) (fn : Nat) : Bool := fn == 0 || ((boundGallery s fn).map (fun g => bit g.desc.privileges 2)).getD false

/-- The window counter block, at byte `r` of 0x0_1100 (Table 18-10). -/
def windowCountWord (s : State) (fn r : Nat) : W64 :=
  let w := win s fn
  if !countsPermitted s fn then 0
  else if r = 0 then word (1 + 16 * w.traceNext + 2 ^ 32 * w.traced)
  else if 0x80 ≤ r ∧ r < 0x200 then
    let st := strm s fn ((r - 0x80) / 0x18)
    word (if (r - 0x80) % 0x18 = 0 then st.cntCommitted else if (r - 0x80) % 0x18 = 8 then st.cntReleased else st.cntRefused)
  else if 0x200 ≤ r ∧ r < 0x300 then word (((boundGallery s fn).map (fun g => mgetD g.latHolder ((r - 0x200) / 8) 0)).getD 0)
  else if 0x300 ≤ r ∧ r < 0x700 then byteWord (mgetD w.traces ((r - 0x300) / 0x40) []) ((r - 0x300) % 0x40)
  else 0

/-- Half of an MSI-X table entry (R57). -/
def msixWord (s : State) (fn v : Nat) (upper : Bool) : W64 :=
  let e := mgetD (pcie s fn).vectors v {}
  if upper then word (e.data + 2 ^ 32 * b2n e.masked) else e.addr

/-- 64 bits of a function's pending-bit array (R57). -/
def pbaWord (s : State) (fn k : Nat) : W64 :=
  word (maskOf ((List.range 64).filter (fun i => (mgetD (pcie s fn).vectors (64 * k + i) {}).pending)))

/-- A register of a window, at byte `o` below its submit area (Tables 3-4, 3-5, 3-11, 18-10). -/
def windowWord (s : State) (fn o : Nat) : W64 :=
  let w := win s fn
  if o = 0x0 then winIdWord s fn
  else if o = 0x8 then winStateWord s fn
  else if o = 0x10 then w.fault
  else if o = 0x18 then word (moduleTime s)
  else if 0x400 ≤ o ∧ o < 0xC00 then streamWord s fn ((o - 0x400) / 0x80) ((o - 0x400) % 0x80)
  else if o = 0x1000 then w.cause
  else if o = 0x1008 then w.mask
  else if o = 0x1010 then word (w.holdoff + 256 * w.count)
  else if 0x1020 ≤ o ∧ o < 0x1040 then quotaWord s fn (o - 0x1000)
  else if 0x1100 ≤ o ∧ o < 0x1800 then windowCountWord s fn (o - 0x1100)
  else if 0x1800 ≤ o ∧ o < 0x1840 ∧ fn ≠ 0 then msixWord s fn ((o - 0x1800) / 16) ((o - 0x1800) % 16 == 8)
  else if o = 0x1C00 ∧ fn ≠ 0 then pbaWord s fn 0
  else 0

/-! Configuration space (R56). -/

/-- Class code: encryption controller, other (Table 3-1). -/
abbrev classCode : Nat := 0x108000

/-- Device ID: 0x0960 for the PF, 0x0961 for a VF (Table 3-1). -/
def deviceId (fn : Nat) : Nat := if fn = 0 then 0x0960 else 0x0961

/-- SR-IOV: TotalVFs, First VF Offset, VF Stride (Table 3-1). -/
def sriov : Nat × Nat × Nat := (1024, 1, 1)

/-- Routing ID of a function below the PF's (Table 3-1). -/
def routingOffset (fn : Nat) : Nat := if fn = 0 then 0 else sriov.2.1 + (fn - 1) * sriov.2.2

/-- MSI-X vectors of a function: 256 on the PF, 4 on a VF (Table 3-1). -/
def msixVectors (fn : Nat) : Nat := if fn = 0 then 256 else 4

/-! The module-wide regions of PF BAR0. -/

/-- WIN_MEV_CAUSE and WIN_MEV_MASK (R76). -/
def mevWord (s : State) (r : Nat) : W64 :=
  if r < 0x20 then word (bits s.fab.mevCause (64 * (r / 8) + 63) (64 * (r / 8))) else word (bits s.fab.mevMask (64 * (r / 8 - 4) + 63) (64 * (r / 8 - 4)))

/-- Codes of a wing's state in PMC_WINGS (Table 15-7). -/
def powerCode : WingPower → Nat
  | .run => 0
  | .idle => 1
  | .nap => 2
  | .dark => 3

/-- The PMC_ registers (Tables 15-6 to 15-9). -/
def pmcWord (s : State) (r : Nat) : W64 :=
  let p := s.pow
  match r with
  | 0x00 => word (modeCode p + 16 * p.service + 2 ^ 8 * b2n p.ceremony + 2 ^ 9 * b2n p.isolated + 2 ^ 10 * b2n p.ready + 2 ^ 11 * b2n p.pending +
      2 ^ 12 * p.startStep + 2 ^ 16 * b2n p.firstStart + 2 ^ 32 * p.startMs)
  | 0x08 => word (((List.range 16).map (fun n => 4 ^ n * powerCode (wing s n).power)).sum + 2 ^ 32 * maskOf p.pllStopped +
      2 ^ 40 * (if p.service = 2 then p.wRun else wingsAvailable s) + 2 ^ 48 * p.tolerance)
  | 0x10 => word (signed 12 p.tcEst + 2 ^ 12 * p.step + 2 ^ 14 * b2n p.overRange + 2 ^ 16 * signed 12 p.hottest + 2 ^ 32 * p.vcoreMv + 2 ^ 48 * p.steps)
  | 0x18 => word (p.minRun + 2 ^ 8 * b2n p.noDark + 2 ^ 9 * b2n p.noPllStop)
  | _ => 0

/-- DOC_DEPTHp (Table 10-11). -/
def depthWord (s : State) (p : Nat) : W64 :=
  let ds := s.doc.descs.filter (fun x => x.2.prio == p)
  let ready := (ds.filter (fun x => isReady s x.1 x.2)).length
  let blocked := (ds.filter (fun x => (x.2.st == .queued || isParked x.2) && !isReady s x.1 x.2)).length
  word (ready + 2 ^ 24 * blocked + 2 ^ 48 * sat 0xFFFF ((heads s).filter (fun x => x.2.prio == p)).length)

/-- DOC_FLOW_VIEW of the flow selected (Table 10-12). -/
def flowViewWord (s : State) : W64 :=
  let fi := s.doc.flowSel
  match mget s.doc.flows fi with
  | none => 0
  | some fl =>
    let ds := mvals (s.doc.descs.filter (fun x => x.2.flow == fi))
    let count := fun (f : Desc → Bool) => (ds.filter f).length
    let atomicIn := ds.any (fun d => d.atomic && (d.st == .inService || isParked d || (d.st == .queued && ds.any (fun e => isEarlier e d && unfinished e))))
    word (1 + 2 * b2n atomicIn + 4 * b2n (decide (0 < fl.holds)) + 8 * b2n (ds.any (fun d => d.st == .queued && beyondBound fl d)) +
      16 * (((flowHead s fi).map (·.2.prio)).getD 0) + 2 ^ 16 * sat 0x1FF (count (fun d => d.st == .inService || isParked d)) +
      2 ^ 25 * sat 0x1FF (count (fun d => d.st == .done)) + 2 ^ 34 * sat 0x3FFFFFFF (count (fun d => d.st == .queued)))

/-- DOC_FLOW_ID of the flow selected (Table 10-13). -/
def flowIdWord (s : State) : W64 :=
  match mget s.doc.flows s.doc.flowSel with
  | none => 0xFFFFF
  | some fl => word (fl.sid.gallery + 2 ^ 20 * fl.sid.fn + 2 ^ 31 * fl.sid.stream + 2 ^ 35 * b2n fl.remote +
      2 ^ 36 * (if fl.remote then fl.sid.place else s.img.set.moduleId))

/-- The gallery of the command a cell holds. -/
def heldGallery (s : State) (c : Nat) : Option Nat := (servedBy s c).map (·.2.2)

/-- DOC_CELLc (Table 10-14). -/
def cellWord (s : State) (c : Nat) : W64 :=
  let r := cellRegs s c
  let w := wing s (c / 8)
  let offline := w.power == .nap || w.power == .dark || w.quarantined || w.retired
  let takes := ((recentLoad s.now r.history).filter (·.2)).length
  word (cellLoad s c + 2 ^ 10 * b2n (s.doc.waiting.any (fun x => x.cell == c)) + 2 ^ 11 * b2n offline + 2 ^ 12 * (heldGallery s c).getD 0xFFFFF +
    2 ^ 32 * sat 0xFFFF takes + 2 ^ 48 * b2n (r.held.isSome && r.secondary))

/-- The DOC_ registers (Table 10-7). -/
def docWord (s : State) (r : Nat) : W64 :=
  let d := s.doc
  if r = 0x0 then word (d.tickUs + 2 ^ 16 * d.takeTimeout + 2 ^ 32 * d.ticks)
  else if r = 0x8 then word (docentFlows s + 2 ^ 17 * b2n d.dual + 2 ^ 32 * d.descs.length)
  else if r = 0x10 then word (2 ^ 32 * d.histClearedAt)
  else if 0x40 ≤ r ∧ r < 0x80 then depthWord s ((r - 0x40) / 8)
  else if r = 0x100 then word d.flowSel
  else if r = 0x108 then flowViewWord s
  else if r = 0x110 then flowIdWord s
  else if 0x1000 ≤ r ∧ r < 0x1400 then word (mgetD d.hist ((r - 0x1000) / 4) 0 + 2 ^ 32 * mgetD d.hist ((r - 0x1000) / 4 + 1) 0)
  else if 0x2000 ≤ r ∧ r < 0x2400 then cellWord s ((r - 0x2000) / 8)
  else 0

/-- A wing's counter registers (Table 18-4). -/
def wingCountWord (s : State) (w r : Nat) : W64 :=
  let c := fun n => mgetD s.cnt.wing (8 * w + n) {}
  if r < 0x40 then
    let x := c (r / 8)
    word (x.event + 2 ^ 8 * b2n x.chain + 2 ^ 9 * b2n x.filter + 2 ^ 12 * x.gallery)
  else if r < 0x80 then word (c (r / 8 - 8)).shadow
  else if r = 0x80 then word (maskOf ((List.range 8).filter (fun n => (c n).ovf)))
  else 0

/-- The ID of the gallery homed at an index; 0xF_FFFF where there is none (R426). -/
def galleryAtIndex (s : State) (i : Nat) : Nat := (((mvals s.vit.galleries).find? (fun g => g.index == i)).map (·.desc.id)).getD 0xFFFFF

/-- The counters region (Tables 18-1 to 18-8, R426). -/
def countersWord (s : State) (r : Nat) : W64 :=
  let c := s.cnt
  if r < 0x1000 then wingCountWord s (r / 0x100) (r % 0x100)
  else if r = 0x1000 then word (2 * b2n c.freeze + 2 ^ 32 * c.snapUs)
  else if r = 0x1008 then word (b2n c.sampEnable + 2 * b2n c.sampRing + 4 * b2n c.sampJitter + 2 ^ 8 * c.sampPeriod + 2 ^ 32 * c.sampWings)
  else if r = 0x1010 then word (c.sampCount + 2 ^ 10 * c.sampNext + 2 ^ 19 * b2n c.sampFull + 2 ^ 32 * c.sampLost)
  else if r = 0x1018 then word (b2n c.traceEnable + 2 * b2n c.traceRing + 4 * c.traceRate + 2 ^ 6 * b2n c.traceHolder)
  else if r = 0x1020 then word (c.traceCount + 2 ^ 9 * c.traceNext + 2 ^ 17 * b2n c.traceFull + 2 ^ 32 * c.traceLost)
  else if r = 0x1028 then word (c.latSel + 2 ^ 12 * galleryAtIndex s c.latSel)
  else if 0x1100 ≤ r ∧ r < 0x1200 then word (mgetD c.latShadow (32 * c.latSel + (r - 0x1100) / 8) 0)
  else if 0x2000 ≤ r ∧ r < 0x4000 then word ((mgetD c.slots ((r - 0x2000) / 0x40) {}).shadow.getD ((r - 0x2000) % 0x40 / 8) 0)
  else if 0x8000 ≤ r ∧ r < 0xC000 then byteWord (mgetD c.samples ((r - 0x8000) / 0x20) []) ((r - 0x8000) % 0x20)
  else if 0xC000 ≤ r ∧ r < 0x10000 then byteWord (mgetD c.traces ((r - 0xC000) / 0x40) []) ((r - 0xC000) % 0x40)
  else 0

/-- PAI_STATE (Table 12-7). -/
def paiStateWord (s : State) : W64 :=
  let p := s.pair
  word (p.member + 4 * roleCode p.role + 32 * b2n p.tieWinner + 64 * b2n p.linkUp + 128 * b2n (heartbeatLive s) + 256 * b2n p.hbPending +
    512 * b2n p.dualAct + 2 ^ 10 * p.port + 2 ^ 12 * p.partner + 2 ^ 32 * p.term)

/-- SPN_PORTn and SPN_ERRn (Table 12-10). -/
def spanPortWord (s : State) (n : Nat) (err : Bool) : W64 :=
  let p := spanPort s n
  if err then word (p.uncorrected + 2 ^ 16 * p.authFail + 2 ^ 32 * p.downs)
  else word (b2n p.up + 2 * b2n p.auth + 4 * p.lanes + 2 ^ 16 * p.peer + 2 ^ 32 * sat 0xFFFF p.hopNs)

/-- SPN_ROUTE_VIEW (Table 12-11). -/
def routeWord (s : State) : W64 :=
  match routeTo s s.pair.routeSel with
  | some (p, h) => word (p + 4 + 2 ^ 16 * h + 2 ^ 32 * sat 0xFFFFFFFF (pathNs s s.pair.routeSel))
  | none => 0

/-- The PAI_ and SPN_ registers (Tables 12-7 to 12-11). -/
def pairWord (s : State) (r : Nat) : W64 :=
  let p := s.pair
  if r = 0x0 then paiStateWord s
  else if r = 0x8 then word (p.termBefore + 2 ^ 32 * p.cause + 2 ^ 35 * p.at_)
  else if r = 0x10 then
    word (b2n p.resync.isSome + 2 * b2n ((p.resync.map (·.full)).getD false) + 2 ^ 16 * p.superseded + 2 ^ 32 * sat 0xFFFFFFFF ((p.resync.map (·.left)).getD 0))
  else if 0x100 ≤ r ∧ r < 0x140 then spanPortWord s ((r - 0x100) / 0x10) ((r - 0x100) % 0x10 == 8)
  else if r = 0x200 then word p.routeSel
  else if r = 0x208 then routeWord s
  else 0

/-- CUR_ERR_STATE (Table 13-3). -/
def errStateWord (s : State) : W64 :=
  let e := s.err
  let ws := List.range 16
  word (e.active + 8 * b2n e.erased + 16 * sat 15 e.queued.length + 2 ^ 8 * maskOf (ws.filter (fun w => (wing s w).quarantined)) +
    2 ^ 24 * maskOf (ws.filter (fun w => (wing s w).retired)) + 2 ^ 40 * e.lastCause + 2 ^ 48 * sat 0xFFFF (recent 1000000000 s.now e.times).length)

/-- CUR_ERR_WINGn (Table 13-4). -/
def errWingWord (s : State) (n : Nat) : W64 :=
  let e := mgetD s.err.wings n {}
  word (e.command + 2 ^ 16 * e.quarantines + 2 ^ 24 * b2n (wing s n).retired + 2 ^ 25 * b2n e.restoring + 2 ^ 32 * e.lastCause)

/-- RNG_SRCn (Table 11-5). -/
def rngSourceWord (s : State) (n : Nat) : W64 :=
  let x := source s n
  word (x.failed + 2 ^ 16 * min 3 x.consec + 2 ^ 18 * b2n x.lastRct + 2 ^ 19 * b2n x.lastApt + 2 ^ 32 * x.blocks)

/-- RNG_STRETCH (Table 11-6). -/
def rngStretchWord (s : State) : W64 :=
  let n := fun (k : Nat) => ((mvals s.rng.drbgs).filter (fun d => decide (d.requests ≥ k))).length
  word (n s.rng.interval + 2 ^ 16 * n (2 ^ 32) + 2 ^ 32 * sat 0xFFFF (parkedOnRng s).length)

/-- CUR_STATE (Table 17-8). -/
def curStateWord (s : State) : W64 :=
  let c := s.cur
  word (b2n c.update.isSome + 2 * c.slot + 8 * sat 255 s.fuses.arc + 2 ^ 11 * b2n (decide (0 < c.arcToBurn)) + 2 ^ 12 * b2n c.deferred + 2 ^ 16 * c.restarts +
    2 ^ 32 * (if c.fwLoaded then c.fwVersion % 2 ^ 32 else 0))

/-- CUR_MBOX (Table 17-9): ACK reads as OUT_VALID. -/
def mboxWord (s : State) : W64 :=
  let c := s.cur
  word (c.inLen + 2 ^ 13 * b2n c.submit + 2 ^ 16 * c.outLen + 2 ^ 29 * b2n c.outValid + 2 ^ 30 * b2n c.outValid)

/-- CUR_SENSORi (Table 17-10). -/
def sensorWord (s : State) (i : Nat) : W64 :=
  match mget s.cur.sensors i with
  | none => 0
  | some x => word (signed 16 x.value + 2 ^ 16 * b2n x.valid + 2 ^ 17 * b2n x.warn + 2 ^ 18 * b2n x.crit + 2 ^ 32 * sat 0xFFFFFFFF ((s.now - x.at_) / 1000))

/-- CON_RESULT (Table 14-11). -/
def conWord (s : State) : W64 :=
  let r := s.reg
  word (r.fieldPass + 2 ^ 8 * r.fieldRun + 2 ^ 16 * r.fullPass + 2 ^ 24 * r.fullRun + 2 ^ 32 * r.fieldMs + 2 ^ 48 * r.full100ms)

/-- The CUR_ view (R416, R281, R333, R357, R400). -/
def curatorWord (s : State) (r : Nat) : W64 :=
  if r = 0x0 then curStateWord s
  else if r = 0x8 then mboxWord s
  else if r = 0x10 then word s.cur.logSel
  else if 0x40 ≤ r ∧ r < 0x80 then (if hasRight (windowRow s 0) 6 rightRD then byteWord ((heldRecord s s.cur.logSel).getD []) (r - 0x40) else 0)
  else if 0x1000 ≤ r ∧ r < 0x2000 then memWord s.cur.inBuf (r - 0x1000)
  else if 0x2000 ≤ r ∧ r < 0x3000 then memWord s.cur.outBuf (r - 0x2000)
  else if 0x4000 ≤ r ∧ r < 0x4190 then sensorWord s ((r - 0x4000) / 8)
  else if r = 0x8000 then word (rngState s)
  else if 0x8008 ≤ r ∧ r < 0x8048 then rngSourceWord s ((r - 0x8008) / 8)
  else if r = 0x8048 then rngStretchWord s
  else if r = 0x8050 then word (s.rng.lifeCount + 2 ^ 32 * s.rng.lifeLast)
  else if r = 0x8100 then errStateWord s
  else if 0x8108 ≤ r ∧ r < 0x8188 then errWingWord s ((r - 0x8108) / 8)
  else if r = 0x8200 then conWord s
  else if r = 0x8300 then word (curImage s.img)
  else if r = 0x8308 then word s.img.version
  else 0

/-- LCS_STATE (Table 14-8). -/
def lcsWord (s : State) : W64 :=
  word (lcsLow s + 2 ^ 8 * (fuseRecords s).length + 2 ^ 15 * unlocksUsed s + 2 ^ 18 * s.fuses.epochs + 2 ^ 24 * b2n (inputOf s 2).level + 2 ^ 25 * b2n s.reg.burn.isSome)

/-- TAM_STATUS (Table 14-9). -/
def tamWord (s : State) : W64 :=
  let a := s.ao
  word (a.latched + 2 ^ 16 * a.live + 2 ^ 32 * armed s + 2 ^ 48 * b2n a.responded + 2 ^ 49 * b2n a.recordValid + 2 ^ 50 * b2n (!a.vaux && a.vbat) + 2 ^ 51 * b2n a.tamperOut)

/-- TAM_LOOP (Table 14-10). -/
def loopWord (s : State) : W64 :=
  word ((List.range 4).map (fun n => let l := mgetD s.ao.loops n {}; 2 ^ (16 * n) * (l.mismatches + 2 ^ 8 * b2n l.echo + 2 ^ 9 * b2n l.expected))).sum

/-- MINUTES of LCS_CEREMONY: whole minutes since the earlier switch qualified active (Table 7-10). -/
def ceremonyMinutes (s : State) : Nat :=
  match (mgetD s.ao.switches 0 {}).since, (mgetD s.ao.switches 1 {}).since with
  | some a, some b => sat 31 ((s.now - min a b) / 60000000000)
  | some a, none => sat 31 ((s.now - a) / 60000000000)
  | none, some b => sat 31 ((s.now - b) / 60000000000)
  | none, none => 0

/-- LCS_CEREMONY (Table 7-10). -/
def ceremonyWord (s : State) : W64 :=
  let c := s.vit.custody
  word (b2n (inputOf s 0).level + 2 * b2n (inputOf s 1).level + 4 * b2n (ceremonyOpen s) + 8 * b2n s.ao.lockout +
    2 ^ 4 * ((s.img.set.custodians.map (·.k)).getD 0) + 2 ^ 9 * ((s.img.set.custodians.map (·.list.length)).getD 0) + 2 ^ 16 * c.components.length +
    2 ^ 24 * ceremonyMinutes s + 2 ^ 32 * b2n c.setPending + 2 ^ 33 * b2n c.mismatch)

/-- The LCS_ and TAM_ status view (R204, R357). -/
def statusViewWord (s : State) (r : Nat) : W64 :=
  if r = 0x0 then lcsWord s
  else if r = 0x8 then tamWord s
  else if r = 0x10 then loopWord s
  else if 0x40 ≤ r ∧ r < 0x80 then byteWord s.ao.record (r - 0x40)
  else if r = 0x100 then ceremonyWord s
  else 0

/-- A word of the regions of PF BAR0 that are configuration registers (Table 3-3, log 41). -/
def regionWord (s : State) (o : Nat) : W64 :=
  if 0x50000 ≤ o ∧ o < 0x60000 then pmcWord s (o - 0x50000)
  else if 0x60000 ≤ o ∧ o < 0x70000 then docWord s (o - 0x60000)
  else if 0x70000 ≤ o ∧ o < 0x80000 then countersWord s (o - 0x70000)
  else if 0x80000 ≤ o ∧ o < 0x90000 then pairWord s (o - 0x80000)
  else if 0x90000 ≤ o ∧ o < 0xA0000 then curatorWord s (o - 0x90000)
  else if 0xA0000 ≤ o ∧ o < 0xB0000 then statusViewWord s (o - 0xA0000)
  else 0

/-- A word of PF BAR0 above the window (Table 3-3). -/
def moduleWord (s : State) (o : Nat) : W64 :=
  if 0x40000 ≤ o ∧ o < 0x40040 then mevWord s (o - 0x40000)
  else if 0x41000 ≤ o ∧ o < 0x42000 then
    word (bindingWord s ((o - 0x41000) / 4 + 1) + 2 ^ 32 * bindingWord s ((o - 0x41000) / 4 + 2))
  else if 0x42000 ≤ o ∧ o < 0x43000 then msixWord s 0 ((o - 0x42000) / 16) ((o - 0x42000) % 16 == 8)
  else if 0x43000 ≤ o ∧ o < 0x43020 then pbaWord s 0 ((o - 0x43000) / 8)
  else configRead s (regionWord s o)

/-- A word of the submit area, as it stands (R58, R60). -/
def submitWord (s : State) (fn o : Nat) : W64 := memWord (strm s fn (o / 0x1000)).submit (o % 0x1000)

/-- The word a read of 8 bytes at byte `o` of a function's BAR finds, where no side effect is in it: everywhere but in the response area and the response ports, whose reads are the command RESPONSE_AREA_READ. Reserved offsets and the large-frame submit ports read 0 (R8, R58, R61, R67). -/
def barWord (s : State) (fn o : Nat) : W64 :=
  if o < 0x10000 then windowWord s fn o
  else if o < 0x20000 then submitWord s fn (o - 0x10000)
  else if 0x40000 ≤ o ∧ fn = 0 then moduleWord s o
  else 0

/-! The engine registers that a cell reads without effect. -/

/-- The common part of CEN_LOCK, HSU_LOCK and PKU_LOCK: HELD, OWNER, WAITERS. -/
def lockLow (owner : Option Nat) (queue : List Nat) : Nat :=
  (match owner with
   | some c => 1 + 2 * c
   | none => 0) + 16 * sat 7 queue.length

/-- CEN_LOCK and HSU_LOCK (Table 8-3); the hash unit's SEED_READY reads 1 (R225). -/
def engineLockWord (s : State) (h : Bool) (w : Nat) : W64 :=
  let e := engineOf s h w
  word (lockLow e.owner e.queue + 2 ^ 8 * b2n e.clearing + 2 ^ 9 * b2n e.faulted + 2 ^ 10 * b2n (h || e.seedReady) + 2 ^ 12 * e.gallery + 2 ^ 32 * engineCycles s h w)

/-- PKU_LOCK (Table 9-3). -/
def pkuLockWord (s : State) (w : Nat) : W64 :=
  let u := (wing s w).pku
  word (lockLow u.owner u.queue + 2 ^ 8 * b2n u.wiping + 2 ^ 9 * b2n u.faulted + 2 ^ 10 * b2n u.dirty + 2 ^ 12 * u.gallery + 2 ^ 32 * pkuCycles s w)

/-- CEN_MASK: FIXED and SEEDS_USED (R221). -/
def cenMaskWord (s : State) (w : Nat) : W64 := word ((wing s w).cen.seedsUsed + 2 ^ 32 * fixedField s)

/-- A cell holds its wing's PK unit. -/
def holdsPku (s : State) (cell : Nat) : Bool := (wing s (wingOf cell)).pku.owner == some (cell % 8)

/-- PKU_CFG as a cell reads it: the holder's LANES and QMOD; 0 for any other cell (R234, log 163). -/
def pkuCfgWord (s : State) (cell : Nat) : W64 :=
  let u := (wing s (wingOf cell)).pku
  if holdsPku s cell then word (u.lanes + 2 ^ 16 * u.qmod) else 0

/-- PKU_QINV as a cell reads it (R234, log 163). -/
def pkuQinvWord (s : State) (cell : Nat) : W64 := if holdsPku s cell then word (wing s (wingOf cell)).pku.qinv else 0

/-- PKU_ACC_LO: the low word of the accumulator, or of lane 0; 0 while DIRTY is 1 and for any cell but the holder (R234, R240). -/
def pkuAccLoWord (s : State) (cell : Nat) : W64 :=
  let u := (wing s (wingOf cell)).pku
  if u.dirty || !holdsPku s cell then 0 else word ((accLanes u).getD 0 0 % 2 ^ 64)

end Sys2Proof.Machine
end

