-- ==== Sys2Proof/Tests/Slice0.lean ====
section
/-! SUPPORT. Tests of single steps, the smoke test of well-formedness, and for each statement concrete states and operands that meet its hypotheses, clause by clause. -/

open Sys2Proof Sys2Proof.Machine Sys2Proof.Safety

namespace Sys2Proof.Tests

set_option Elab.async false

/-! ## Well-formedness: for each check an ill-formed command that it refuses. -/

/-- A link frame's header on port 0. -/
def hdr0 : LinkHdr := { port := 0, counter := 1, src := 1, dst := 0xFFFF, hops := 0, gallery := 0, ref := 0, tagOk := true }

/-- A stream of the house gallery. -/
def sid0 : StreamId := { gallery := 0, place := 0, fn := 0, stream := 0 }

/-- What a good START finds. -/
def env0 : StartEnv :=
  { fusesAgree := true, wipeBlank := true, pllLock := true, badLanes := [], gddrOk := true, badWings := [], badRecords := [], altered := [], fieldPass := 255, failLanes := []
    sites := 24, noiseAgain := false, fieldMs := 1, katOk := true, startFails := [], passed := [], blocks := [], ms := 1 }

/-- A HELLO of module 1. -/
def hello0 : Hello := { moduleId := 1, serial := 1, identity := zeros 97, certificate := [], ephemeral := zeros 97, pairDigest := zeros 48 }

theorem test_wf_write_empty : (Instr.barWrite 0 0 [] false).wellFormed = false := by decide
theorem test_wf_write_outside : (Instr.submitSlotWrite 0 0 0 505 (zeros 8) false).wellFormed = false := by decide
theorem test_wf_write_good : (Instr.submitSlotWrite 0 0 0 504 (zeros 8) false).wellFormed = true := by decide
theorem test_wf_bar_of_vf : (Instr.barWrite 1 (2 ^ 18) (zeros 8) false).wellFormed = false := by decide
theorem test_wf_bar_of_pf : (Instr.barWrite 0 (2 ^ 18) (zeros 8) false).wellFormed = true := by decide
theorem test_wf_read_outside : (Instr.responseAreaRead 0 0 true 2048 4).wellFormed = false := by decide
theorem test_wf_vector_of_vf : (Instr.msixTableWrite 1 4 false 0).wellFormed = false := by decide
theorem test_wf_context_short : (Instr.cenOp 0 0 (some [0]) []).wellFormed = false := by decide
theorem test_wf_stores_in_operand_memory : (Instr.cenOp 0 0 none [(1792 * 1024, [0])]).wellFormed = false := by decide
theorem test_wf_pages_outside : (Instr.pkuDmaOut 0 0 [8192]).wellFormed = false := by decide
theorem test_wf_hdr_port : (Instr.idle { hdr0 with port := 4 }).wellFormed = false := by decide
theorem test_wf_hdr_good : (Instr.idle hdr0).wellFormed = true := by decide
theorem test_wf_sid_stream : (Instr.crossfeed hdr0 { sid0 with stream := 16 } (zeros 32)).wellFormed = false := by decide
theorem test_wf_frame_short : (Instr.crossfeed hdr0 sid0 (zeros 31)).wellFormed = false := by decide
theorem test_wf_frame_good : (Instr.crossfeed hdr0 sid0 (zeros 32)).wellFormed = true := by decide
theorem test_wf_seq_wide : (Instr.forwardRsp hdr0 sid0 (2 ^ 48) { status := 0, fnFlags := 0, payload := [] } { flags := 0, cause := 0 }).wellFormed = false := by decide
theorem test_wf_resp_status : (Instr.forwardRsp hdr0 sid0 0 { status := 65536, fnFlags := 0, payload := [] } { flags := 0, cause := 0 }).wellFormed = false := by decide
theorem test_wf_hello_key : (Instr.hello hdr0 { hello0 with identity := [] }).wellFormed = false := by decide
theorem test_wf_hello_good : (Instr.hello hdr0 hello0).wellFormed = true := by decide
theorem test_wf_position_seq : (Instr.position hdr0 (.ack sid0 (2 ^ 48))).wellFormed = false := by decide
theorem test_wf_signature_length : (Instr.keyconfirm hdr0 []).wellFormed = false := by decide
theorem test_wf_bus : (Instr.getTid 4).wellFormed = false := by decide
theorem test_wf_unit : (Instr.commandError 1 0 176).wellFormed = false := by decide
theorem test_wf_code : (Instr.wingError 256 0).wellFormed = false := by decide
theorem test_wf_reading : (Instr.tempSample 32768).wellFormed = false := by decide
theorem test_wf_estimate : (Instr.thermalEstimate 2048 0).wellFormed = false := by decide
theorem test_wf_record : (Instr.vitrineLineFail 0 (2 ^ 20) 0).wellFormed = false := by decide
theorem test_wf_start_sites : (Instr.start 1 { env0 with sites := 25 }).wellFormed = false := by decide
theorem test_wf_start_good : (Instr.start 1 env0).wellFormed = true := by decide
theorem test_wf_lanes : (Instr.spanLinkUp 0 3).wellFormed = false := by decide
theorem test_wf_operation : (Instr.operationIdleTimeOut (2 ^ 20) 0).wellFormed = false := by decide
theorem test_wf_delta_number : (Instr.delta hdr0 { number := 2 ^ 64, changes := [] }).wellFormed = false := by decide
theorem test_wf_sensor : (Instr.sensorSample [(50, { value := 0, valid := true, warn := false, crit := false })]).wellFormed = false := by decide
theorem test_wf_token_length : (Instr.lcsTransitionMessage 0 0 0 []).wellFormed = false := by decide
theorem test_wf_debug_key : (Instr.debugResponse 0 [] (zeros 96)).wellFormed = false := by decide
theorem test_wf_sample_slot : (Instr.instructionSample 0 0 2 0).wellFormed = false := by decide

/-! ## The table's rows give no bits (opcode_table.json), so no word spells a command. -/

theorem test_no_row_has_bits : decodeTableWord 64 0 = none ∧ decodeTableWord 0 0 = none := by decide

/-! ## Worked examples of the spec. -/

/-- 00 R455: the CRC-32 of the nine characters 123456789. -/
theorem test_crc_of_nine_digits : crc32 [0x31, 0x32, 0x33, 0x34, 0x35, 0x36, 0x37, 0x38, 0x39] = 0xCBF43926 := by decide +kernel

/-- 05 R120's example: natural digits 3510 out of 3F1A, PIN 4827, offset 1317. -/
theorem test_offset_example :
    (nibbles [0x3F, 0x1A]).map (byteAt [0, 1, 2, 3, 4, 5, 6, 7, 8, 9, 0, 1, 2, 3, 4, 5]) = [3, 5, 1, 0] ∧ pinOffset [3, 5, 1, 0] [4, 8, 2, 7] = [1, 3, 1, 7] := by decide

/-- 05 R122's example: the scan of 8B4C 0F2A 61D3 97E5 takes 8402. -/
theorem test_scan_example : scanDigits 4 [0x8B, 0x4C, 0x0F, 0x2A, 0x61, 0xD3, 0x97, 0xE5] = [8, 4, 0, 2] := by decide

/-- 05 R121: the table of the example is accepted, one of a single digit is not, nor one with a digit above 9. -/
theorem test_table_example : decTableOk [0, 1, 2, 3, 4, 5, 6, 7, 8, 9, 0, 1, 2, 3, 4, 5] = true ∧ decTableOk (zeros 16) = false ∧
    decTableOk [0, 1, 2, 3, 4, 5, 6, 7, 8, 9, 10, 1, 2, 3, 4, 5] = false := by decide

/-- 15 R375's example: L of 19.2 gives w_run 4. -/
theorem test_w_run_example : wRunOf 16 0 19660 = 4 := by decide

/-- 08 R208's example: 32 chained TDES blocks at 52 cycles are 1,664 cycles. -/
theorem test_retail_mac_cycles : cenCycles 5 false 32 52 = 1664 := by decide

/-- 10 R259's example: with a tick of 10 us an expiry at 28 us fires at the boundary at 30 us. -/
theorem test_deadline_boundary : boundaryFor State.reset 28000 = 30000 := by decide

/-- 19's example: 215 W and TC 85 C belong to a hottest site of 110.8 C. -/
theorem test_tc_example : tcMilli 222 215 = 1000 * 222 - 24 * 215 := by decide

/-! ## States that meet the hypotheses of the statements. -/

/-- A gallery 7. -/
def gal7 : Gallery := { desc := { defaultTemplate with id := 7 }, index := 1, inst := 1, rootKey := zeros 32, rights := defaultRow }

/-- The flow of stream 0 of the house gallery. -/
def flow0 : Flow := { sid := sid0, next := 2, rel := 1 }

/-- A command of that flow. -/
def desc0 : Desc := { flow := 0, seq := 1, function := 0x0F01, frame := zeros 32, digest := 0 }

def withStrm (fn i : Nat) (st : Stream) (s : State) : State := updStrm fn i (fun _ => st) s
def withWin (fn : Nat) (w : Window) (s : State) : State := updWin fn (fun _ => w) s
def withGal (id : Nat) (g : Gallery) (s : State) : State := { s with vit := { s.vit with galleries := mset s.vit.galleries id g } }
def withFlow (i : Nat) (f : Flow) (s : State) : State := { s with doc := { s.doc with flows := mset s.doc.flows i f } }
def withDesc (t : Nat) (d : Desc) (s : State) : State := { s with doc := { s.doc with descs := mset s.doc.descs t d } }
def withCell (c : Nat) (r : CellRegs) (s : State) : State := { s with doc := { s.doc with cells := mset s.doc.cells c r } }
def withWing (w : Nat) (x : Wing) (s : State) : State := updWing w (fun _ => x) s
def withPort (p : Nat) (x : SpanPort) (s : State) : State := updPort p (fun _ => x) s
def withPair (p : Pair) (s : State) : State := { s with pair := p }
def withMode (m : Mode) (s : State) : State := { s with pow := { s.pow with mode := m, perstAsserted := false, ready := m == .service } }

/-- The module in service with gallery 7, bound to VF 1. -/
def serving : State := withGal 7 gal7 (withWin 1 { gallery := some 7 } (withMode .service (withPair { State.reset.pair with role := .unpaired } State.reset)))

/-- A stream that takes commits. -/
def live0 : Stream := { active := true, enable := true, flow := some 0 }

/-! ### The machine as a whole. -/

theorem wit_StepRunsTheFrontCommand : ({ State.reset with pending := [.histClear] } : State).pending = .histClear :: [] ∧ State.reset.pending = [] := by decide
theorem wit_FusesOnlyBurn : FuseBudget State.reset.fuses ∧ step State.reset = .next { State.reset with now := 1 } := ⟨by unfold FuseBudget; decide, rfl⟩
theorem wit_LatchKeepsTheRootErased :
    LatchSafe { State.reset with ao := { State.reset.ao with responded := true } } ∧ LatchSafe State.reset := ⟨fun _ => ⟨rfl, fun _ => by decide⟩, fun h => nomatch h⟩
theorem wit_MemoriesStayCanonical : MemoriesWf { State.reset with img := { State.reset.img with slot0 := [(0, 1), (1048575, 2)] } } := by
  unfold MemoriesWf; decide

/-! ### Endpoint and windows. -/

theorem wit_SubmitAreaWrites_a : acceptedWrite 504 (zeros 8).length = true ∧ 504 + (zeros 8).length ≤ 512 ∧ (strm State.reset 1024 15).busy.contains 7 = false := by decide
theorem wit_SubmitAreaWrites_b : acceptedWrite 0 (zeros 64).length = true ∧ (strm (withStrm 1 0 { busy := [7] } State.reset) 1 0).busy.contains 7 = true := by decide
theorem wit_SubmitAreaWrites_c : acceptedWrite 1984 (zeros 64).length = true ∧ 1984 + (zeros 64).length ≤ 2048 ∧
    (strm (withStrm 1 0 { lfsPos := 7940 } State.reset) 1 0).lfsCopy = none ∧ 8 * (strm (withStrm 1 0 { lfsPos := 7940 } State.reset) 1 0).lfsPos + 1984 + (zeros 64).length ≤ 65568 := by decide
theorem wit_SubmitAreaWrites_d : acceptedWrite 0 (zeros 8).length = true ∧ (strm (withStrm 1 0 { lfsCopy := some (0, 1) } State.reset) 1 0).lfsCopy.isSome = true := by decide
theorem wit_ResponseAreaReads_a : 4092 % 4 = 0 ∧ 4092 + 4 ≤ 4096 ∧ windowHas serving 1 rightRD = true := by decide
theorem wit_ResponseAreaReads_b : windowHas (withWin 1 { gallery := some 9 } (withGal 9 { gal7 with rights := [] } serving)) 1 rightRD = false ∧ 1536 + 512 ≤ 2048 := by decide
theorem wit_BarWrites_a : (false || !acceptedWrite 4 (zeros 8).length) = true ∧ (true || !acceptedWrite 0 (zeros 8).length) = true ∧ 4 + (zeros 8).length ≤ barSize 1024 := by decide
theorem wit_BarWrites_b : acceptedWrite 448 (zeros 64).length = true ∧ 448 + (zeros 64).length ≤ 512 ∧ 1984 + (zeros 64).length ≤ 2048 := by decide
theorem wit_BarWrites_c : 0x3F8 + (zeros 8).length ≤ barSize 1024 ∧ acceptedWrite 0x3F8 (zeros 8).length = true ∧ (zeros 8).length = 8 * 1 ∧ 0xFFFF8 + (zeros 8).length ≤ barSize 0 ∧
    acceptedWrite 0xFFFF8 (zeros 8).length = true := by decide
theorem wit_BarWrites_d : barSize 1 < 0x3FFF9 + (zeros 8).length ∧ barSize 0 < 0xFFFF9 + (zeros 8).length := by decide
theorem wit_RegisterRowsAreBarWrites : flag (1 : W64) 0 = true ∧ flag (4 : W64) 0 = false ∧ flag (4 : W64) 2 = true ∧ flag (0x2000 : W64) 30 = false ∧ flag (0x2000 : W64) 13 = true := by decide
theorem wit_DocentRegisters_a : hasRight (windowRow State.reset 0) 8 rightWR = true ∧ 1 ≤ field (100 : W64) 6 0 ∧ field (100 : W64) 6 0 ≤ 100 ∧ 100 < field (101 : W64) 6 0 := by decide
theorem wit_DocentRegisters_b :
    hasRight (windowRow { State.reset with img := { State.reset.img with set := { State.reset.img.set with fixedRows := [] } } } 0) 8 rightWR = false := by decide
theorem wit_CommitsOfSlots_a : takesCommit (withStrm 1 0 live0 serving) (strm (withStrm 1 0 live0 serving) 1 0) 7 = true ∧ (strm (withStrm 1 0 live0 serving) 1 0).lfsCopy = none := by decide
theorem wit_CommitsOfSlots_b : takesCommit State.reset (strm State.reset 1024 15) 0 = false := by decide
theorem wit_CommitsOfSlots_c : (strm (withStrm 1 0 { live0 with busy := [7], lfsCopy := some (6, 1) } serving) 1 0).lfsCopy.map (·.1) ≠ some 7 := by decide
theorem wit_CommitsOfSlots_d : (strm (withStrm 1 0 { live0 with busy := [6], lfsCopy := some (6, 1) } serving) 1 0).lfsCopy = some (6, 1) := by decide
theorem wit_StreamCommands_a : (strm serving 1 15).active = false ∧ enableRefused (updStrm 1 15 (fun st => { st with sealed := false }) serving) 1 15 false = false ∧
    (win serving 1).gallery = some 7 ∧ (gal serving 7).isSome = true ∧ lowestFree serving.doc.flows 65536 = some 0 := by decide +kernel
/-- Gallery 7 with a key of class DERIVE in slot 3, which the handle 1·2⁶² + 3 names. -/
def sealing : State :=
  withStrm 1 0 { sealHandle := 0x4000000000000003 } (withGal 7 { gal7 with records := [(3, {
    kind := 1, useClass := 4, usage := 0, mode := 88, alg := 65, exportable := 78, dukpt := false, finite := false, keyType := 0, generation := 1, gallery := 7, slot := 3, accession := 1
    budget := 0, uses := 0, parentDigest := [], parentGen := 0, parentSlot := noParent, kcv := [], counter := 0, depth := 0, material := zeros 32, keyId := [] })] } serving)
theorem wit_StreamCommands_sealed : enableRefused (updStrm 1 0 (fun st => { st with sealed := true }) sealing) 1 0 true = false ∧ (strm sealing 1 0).active = false ∧
    (win sealing 1).gallery = some 7 ∧ (gal sealing 7).isSome = true ∧ lowestFree sealing.doc.flows 65536 = some 0 ∧ (sealRecord sealing 7 (strm sealing 1 0).sealHandle).isSome = true := by decide +kernel
theorem wit_StreamCommands_b : (strm State.reset 1 0).active = false ∧ enableRefused (updStrm 1 0 (fun st => { st with sealed := false }) State.reset) 1 0 false = true := by decide
theorem wit_StreamCommands_c : (strm (withStrm 1 0 { live0 with enable := false } serving) 1 0).flow = some 0 ∧ (strm (withStrm 1 0 { live0 with enable := false } serving) 1 0).active = true ∧
    flowEmpty (withFlow 0 flow0 (withStrm 1 0 { live0 with enable := false } serving)) 0 = true := by decide
theorem wit_StreamCommands_d : (strm (withStrm 1 0 { live0 with resp := [(0, { seq := 281474976710655, ticket := 3, frame := [] })] } serving) 1 0).resp.find?
    (fun p => p.2.seq == field (281474976710655 : W64) 47 0) = some (0, { seq := 281474976710655, ticket := 3, frame := [] }) := by decide
theorem wit_StreamCommands_e : (strm State.reset 1 0).resp.find? (fun p => p.2.seq == field (1 : W64) 47 0) = none := by decide
theorem wit_AdmissionAfterDisable_a : (strm (withStrm 1 0 { live0 with enable := false } serving) 1 0).flow = some 0 ∧
    flowEmpty (withDesc 5 desc0 (withStrm 1 0 { live0 with enable := false } serving)) 0 = false := by decide
theorem wit_AdmissionAfterDisable_b :
    let s := withFlow 0 flow0 (withStrm 1 0 { live0 with enable := false } serving)
    (strm s 1 0).flow = some 0 ∧ (strm s 1 0).active = true ∧ (strm s 1 0).enable = false ∧ (strm s 1 0).lfsCopy = none ∧ flowEmpty s 0 = true ∧ (s.doc.flows.map (·.1)).Nodup := by decide
def msixOn : State := { State.reset with fab := { State.reset.fab with fns := [(1, { busMaster := true, msixEnable := true, vectors := [(0, { masked := false })] })] } }
theorem wit_EventRegisters_a : vectorFree (pcie msixOn 1) 0 = true ∧ vectorFree (pcie State.reset 1) 0 = false := by decide
theorem wit_EventRegisters_b : ((1 : Fin 1025).val = 0 ∨ (3 : Fin 256).val < 4) ∧ ((0 : Fin 1025).val = 0 ∨ (255 : Fin 256).val < 4) ∧ (1 : Fin 1025).val ≠ 0 ∧ 4 ≤ (4 : Fin 256).val := by decide
theorem wit_EventRegisters_c : (win (withWin 1 { firstUnsignalled := some 5, holdoff := 1 } msixOn) 1).firstUnsignalled = some 5 ∧
    (win (withWin 1 { firstUnsignalled := some 5, holdoff := 1 } msixOn) 1).holdoff ≠ 0 ∧ vectorFree (pcie (withWin 1 { firstUnsignalled := some 5, holdoff := 1 } msixOn) 1) 0 = true := by decide
theorem wit_FunctionLevelResets : (win (withWin 1 { flr := some [4] } State.reset) 1).flr = some [4] ∧
    ([4] : List Nat).any (fun t => ((desc (withWin 1 { flr := some [4] } State.reset) t).map (·.discard)).getD false) = false := by decide
theorem wit_FunctionLevelResets_done : ∀ t ∈ ([4] : List Nat), ∀ d, desc (withWin 1 { flr := some [4] } State.reset) t = some d → d.discard = false := by
  intro t ht d h
  rw [List.mem_singleton.1 ht] at h
  exact nomatch h
theorem wit_ResetPins_a : 10000 ≤ 10000 ∧ State.reset.pow.mode ≠ .vault ∧ (withMode .vault State.reset).pow.mode = .vault := by decide
theorem wit_ResetPins_b : State.reset.pow.perstAsserted = true ∧ State.reset.pow.pwronAsserted = false ∧ State.reset.pow.main = true := by decide
def pwronHeld : State := { State.reset with pow := { State.reset.pow with pwronAsserted := true } }
theorem wit_ResetPins_c : pwronHeld.pow.pwronAsserted = true ∧ pwronHeld.pow.perstAsserted = true := by decide
theorem wit_ResetPins_d : ({ pwronHeld with pow := { pwronHeld.pow with perstAsserted := false } } : State).pow.pwronAsserted = true ∧ serving.pow.perstAsserted = false ∧ serving.pow.main = true := by decide
def starting (n : Nat) : State := { State.reset with pow := { State.reset.pow with perstAsserted := false, starting := true, startStep := n } }
theorem wit_StartSteps_a : (starting 2).pow.starting = true ∧ (starting 2).pow.startStep = 2 ∧ (starting 3).pow.startStep = 3 ∧ env0.gddrOk = true ∧ ({ env0 with gddrOk := false } : StartEnv).gddrOk = false := by decide
theorem wit_StartSteps_b : 2 ≤ (2 : Fin 12).val ∧ (starting 1).pow.starting = true ∧ (starting 1).pow.startStep = 1 ∧ env0.pllLock = true ∧
    ({ starting 1 with ao := { State.reset.ao with responded := true } } : State).ao.responded = true := by decide
theorem wit_StartSteps_c : (starting 10).pow.starting = true ∧ (starting 10).pow.startStep = 10 ∧ State.reset.pow.starting = false := by decide
def supplied (vaux vbat : Bool) : State := { State.reset with ao := { State.reset.ao with vaux := vaux, vbat := vbat } }
theorem wit_Supplies_a : State.reset.pow.main = true ∧ State.reset.reg.burn = none ∧ ({ State.reset with pow := { State.reset.pow with main := false } } : State).pow.main = false := by decide
theorem wit_Supplies_b : (supplied true true).ao.vaux = true ∧ (supplied true true).ao.vbat = true ∧ (supplied true false).ao.vbat = false ∧ (supplied false true).ao.vaux = false ∧
    (supplied false true).ao.vbat = true ∧ (supplied false false).ao.vaux = false ∧ (supplied false false).ao.vbat = false ∧ (true || false) = true := by decide
theorem wit_Supplies_c : ({ State.reset with pow := { State.reset.pow with avs := some { millivolts := 700, tries := 1 } } } : State).pow.avs = some { millivolts := 700, tries := 1 } ∧
    State.reset.pow.returning = none := by decide
theorem wit_SupplySwitch : (supplied true true).ao.vaux = true ∧ (supplied true true).ao.vbat = true ∧ (supplied false true).ao.vaux = false ∧ (supplied false true).ao.vbat = true := by decide

/-! ### The Docent. -/

theorem wit_TakesAndTheirTimeOut_a : (cellRegs State.reset 127).held = none ∧ State.reset.doc.waiting.any (fun c => c.cell == 127) = false := by decide
def cellWaits : State := { State.reset with doc := { State.reset.doc with waiting := [{ cell := 127, since := 5 }] } }
theorem wit_TakesAndTheirTimeOut_b : ((cellRegs cellWaits 127).held.isSome || cellWaits.doc.waiting.any (fun c => c.cell == 127)) = true ∧
    cellWaits.doc.waiting.find? (fun c => c.cell == 127) = some { cell := 127, since := 5 } := by decide
/-- Cell 0 holds ticket 65535. -/
def holding (d : Desc) : State := withCell 0 { held := some 65535 } (withDesc 65535 d (withFlow 0 flow0 serving))
def answered : Desc := { desc0 with resp := some (statusOnly 0), st := .inService, copies := [{ cell := 0, secondary := false, complete := false, takenAt := 0 }] }
theorem wit_DoneParkAndRetry_a : (cellRegs (holding answered) 0).held = some 65535 ∧ desc (holding answered) 65535 = some answered ∧ answered.resp.isSome = true ∧
    answered.originating = false ∧ answered.discard = false ∧ (completeCopy 0 answered).2 = true ∧ mget (holding answered).doc.flows answered.flow = some flow0 := by decide
theorem wit_DoneParkAndRetry_b : desc (holding desc0) 65535 = some desc0 ∧ desc0.fails + 1 < 3 ∧ desc0.discard = false ∧ 3 ≤ ({ desc0 with fails := 2 } : Desc).fails + 1 ∧
    ((1 : Fin 8) = 1 ∨ (1 : Fin 8) = 2) ∧ (cellRegs (holding desc0) 1).held ≠ some 65535 := by decide
theorem wit_DoneParkAndRetry_c : desc (holding { desc0 with st := .parked 1 0 }) 65535 = some { desc0 with st := .parked 1 0 } ∧ desc0.st ≠ .parked 1 0 := by decide
def due0 : Desc := { desc0 with st := .done, resp := some (statusOnly 0) }
def dueState : State := withDesc 3 due0 (withFlow 0 flow0 (withStrm 0 0 live0 serving))
theorem wit_ReleaseAndPublication_a : mget dueState.doc.flows 0 = some flow0 ∧ dueAt dueState 0 flow0 = some (3, due0) ∧ due0.resp = some (statusOnly 0) ∧
    releasable dueState flow0 due0 = true ∧ due0.discard = false ∧ localStream flow0 = some (0, 0) ∧ dueState.doc.descs.filter (fun p => p.1 == 3) = [(3, due0)] := by decide
def releasedState : State := withStrm 0 0 { live0 with waiting := [{ ticket := 3, seq := 1, releasedAt := 0 }] } dueState
theorem wit_ReleaseAndPublication_b : (strm releasedState 0 0).waiting = { ticket := 3, seq := 1, releasedAt := 0 } :: [] ∧ lowestFree (strm releasedState 0 0).resp 8 = some 0 ∧
    desc releasedState 3 = some due0 ∧ due0.resp = some (statusOnly 0) ∧ mget releasedState.doc.flows due0.flow = some flow0 := by decide
theorem wit_ReleaseAndPublication_c :
    let st : Stream := { live0 with waiting := [{ ticket := 3, seq := 1, releasedAt := 0 }], resp := (List.range 8).map (fun k => (k, { seq := k, ticket := k, frame := [] })) }
    (strm (withStrm 0 0 st serving) 0 0).waiting ≠ [] ∧ lowestFree (strm (withStrm 0 0 st serving) 0 0).resp 8 = none := by decide
theorem wit_TickAndTimers_a : State.reset.doc.refilled = false ∧ ({ State.reset with doc := { State.reset.doc with refilled := true } } : State).doc.refilled = true := by decide
def gap0 : Flow := { flow0 with gapAt := some 5, held := [{ seq := 4, frame := zeros 32, digest := 0, large := false, commitAt := 0, admitAt := 0, answer := none, crossFed := false, askers := [] }] }
theorem wit_TickAndTimers_b : mget (withFlow 65535 gap0 serving).doc.flows 65535 = some gap0 ∧ gap0.gapAt = some 5 ∧ gap0.held ≠ [] ∧ ownVerdicts (withFlow 65535 gap0 serving) = true := by decide
theorem wit_TickAndTimers_c : desc (withDesc 65535 { desc0 with deadline := some 5 } serving) 65535 = some { desc0 with deadline := some 5 } ∧ desc0.st = .queued ∧
    ownVerdicts (withDesc 65535 { desc0 with deadline := some 5 } serving) = true := by decide
theorem wit_TickAndTimers_d : desc (withDesc 9 { desc0 with deadline := some 5, st := .parked 1 0 } serving) 9 = some { desc0 with deadline := some 5, st := .parked 1 0 } ∧ desc0.signalled = false ∧ hasBegun desc0 = false ∧ desc0.discard = false := by decide
def op0 : SpanOp := { opId := 1, function := 0x0905, sid := sid0, nextIndex := 1, param := 0, macLen := 0, verify := false, key := none, nonce := [], releaseKey := [], aad := [], data := [], dataLen := 0, idleAt := some 5 }
theorem wit_TickAndTimers_e : gal (withGal 7 { gal7 with ops := [(1, op0)] } serving) 7 = some { gal7 with ops := [(1, op0)] } ∧ mget ([(1, op0)] : Map SpanOp) 1 = some op0 ∧ op0.idleAt = some 5 ∧
    frameWaits (withGal 7 { gal7 with ops := [(1, op0)] } serving) 7 op0 = false := by decide
theorem wit_TickAndTimers_f : (win (withWin 1024 { gallery := some 7, unbind := some { ticket := 3, expiry := 9 } } serving) 1024).unbind = some { ticket := 3, expiry := 9 } ∧
    windowDrained (withWin 1024 { gallery := some 7, unbind := some { ticket := 3, expiry := 9 } } serving) 1024 = true := by decide

/-! ### The functions: for each a held command that nothing keeps from running, whose frame passes the function's checks. -/

/-- Cell `cell` holds a command of the code that nothing keeps from running, its checks pass and its budgets step. -/
def runs (cell : Fin 128) (code : Nat) (check : Ctx → State → Option Resp) (s : State) : Bool :=
  match heldCommand cell code s with
  | none => false
  | some c => !mustWait s c && !turnedAway s c && !(cellRegs s cell).secondary && !lacksSeed s c &&
    (!drawsNow c.d || (!s.rng.fatal && instServes s (drawInstance c))) && (check c s).isNone && (stepSlots c.g (owedSteps c) s).isSome

/-- Such a state meets the hypotheses of `Answers`. -/
theorem runs_spec {cell : Fin 128} {code : Nat} {check : Ctx → State → Option Resp} {s : State} (h : runs cell code check s = true) :
    ∃ c v, Serves cell code s c ∧ check c s = none ∧ Charged c s v := by
  unfold runs at h
  split at h
  · cases h
  · rename_i c hc
    simp only [Bool.and_eq_true, Bool.not_eq_true', Option.isNone_iff_eq_none, Bool.or_eq_true] at h
    obtain ⟨⟨⟨⟨⟨⟨h1, h2⟩, h3⟩, h4⟩, h5⟩, h6⟩, h7⟩ := h
    obtain ⟨⟨steps, u⟩, hu⟩ := Option.isSome_iff_exists.1 h7
    exact ⟨c, _, ⟨hc, h1, h2, h3, h4, fun hd => (h5.resolve_left (by simp [hd]))⟩, h6, steps, u, hu, rfl⟩

/-- Puts bytes at an offset of a frame. -/
def put (f : Bytes) (p : Nat × Bytes) : Bytes := f.take p.1 ++ p.2 ++ f.drop (p.1 + p.2.length)
/-- A frame of `n` bytes of a function with FN_FLAGS and fields. -/
def fr (code flags n : Nat) (l : List (Nat × Bytes)) : Bytes := ((0, leBytes 2 code) :: (3, leBytes 1 flags) :: l).foldl put (zeros n)
/-- A key. -/
def keyOf (alg usage keyType : Nat) (m : Bytes) : Option HeldKey := some { noHeldKey with alg := alg, usage := usage, keyType := keyType, material := m, exportable := 69 }
def aesKey : Option HeldKey := keyOf 65 0 0 (zeros 16)
def tdesKey : Option HeldKey := keyOf 84 0 0 (zeros 16)
def hmacKey0 : Option HeldKey := keyOf 72 0 0 (zeros 32)
/-- The PAN 4111111111111111. -/
def pan0 : Bytes := [16, 0x41, 0x11, 0x11, 0x11, 0x11, 0x11, 0x11, 0x11, 0xFF, 0xFF, 0, 0, 0, 0, 0]
def table0 : Bytes := [0, 1, 2, 3, 4, 5, 6, 7, 8, 9, 0, 1, 2, 3, 4, 5]
/-- A Vitrine record of a kind. -/
def rec0 (kind slot : Nat) (m : Bytes) : VRecord :=
  { kind := kind, useClass := 4, usage := chars 'B' '1', mode := 88, alg := 65, exportable := 78, dukpt := true, finite := false, keyType := 0, generation := 1, gallery := 0, slot := slot
    accession := 1, budget := 0, uses := 0, parentDigest := [], parentGen := 0, parentSlot := noParent, kcv := [], counter := 0, depth := 0, material := m, keyId := leBytes 2 256 }
/-- The house gallery. -/
def gal0 : Gallery := { gal7 with desc := { defaultTemplate with id := 0 }, index := 0, inst := 0, records := [(3, rec0 1 3 (zeros 16)), (5, rec0 5 5 (List.replicate 32 0x30)), (6, rec0 6 6 [])] }
/-- The module in service with its instances and the house's window. -/
def house : State :=
  { updWing 0 (fun w => { w with cen := { w.cen with seedReady := true } }) (withGal 0 gal0 (withWin 0 { gallery := some 0 } serving)) with
    rng := { State.reset.rng with startupDone := true, drbgs := [(0, { key := zeros 32, v := zeros 16 }), (1, { key := zeros 32, v := zeros 16 }), (4112, { key := zeros 32, v := zeros 16 })] } }
/-- Cell 0 holds a command of the house gallery. -/
def cmd (code : Nat) (f : Bytes) (keys : List (Option HeldKey)) (s : State) : State :=
  withCell 0 { held := some 65535 } (withFlow 0 flow0 (withDesc 65535
    { desc0 with function := code, frame := f, st := .inService, copies := [{ cell := 0, secondary := false, complete := false, takenAt := 0 }], keys := keys, rights := defaultRow, seen := gal0.records } s))

theorem wit_PinFunctionsAnswer :
    runs 0 0x0101 checkPinTranslate (cmd 0x0101 (fr 0x0101 0 128 [(56, pan0)]) [tdesKey, tdesKey] house) = true ∧
    runs 0 0x0102 checkPinCalc (cmd 0x0102 (fr 0x0102 0 112 [(48, [1, 0, 4, 0]), (56, pan0), (88, table0)]) [tdesKey, tdesKey] house) = true ∧
    runs 0 0x0103 checkPinVerify (cmd 0x0103 (fr 0x0103 0 136 [(48, [2, 0, 4, 9]), (56, pan0)]) [tdesKey, tdesKey] house) = true ∧
    runs 0 0x0103 checkPinVerify (cmd 0x0103 (fr 0x0103 1 136 [(48, [1, 0, 12, 0]), (56, pan0), (88, table0), (128, [5, 0, 0, 0, 31])]) [tdesKey, tdesKey] house) = true ∧
    runs 0 0x0104 checkPinGenerate (cmd 0x0104 (fr 0x0104 0 96 [(48, [1, 0, 12, 4]), (56, pan0), (72, table0)]) [tdesKey, tdesKey] house) = true ∧
    runs 0 0x0105 checkPinTrySet (cmd 0x0105 (fr 0x0105 0 72 [(32, [5]), (36, [1, 0, 0, 0x80]), (40, [0x30]), (71, [0x33])]) [] house) = true ∧
    runs 0 0x0201 checkCvv (cmd 0x0201 (fr 0x0201 0 72 [(40, [3]), (48, pan0)]) [tdesKey] house) = true ∧
    runs 0 0x0202 checkCvv (cmd 0x0202 (fr 0x0202 0 80 [(40, [5]), (48, pan0)]) [tdesKey] house) = true := by decide +kernel

theorem wit_DecimalisationTables : runs 0 0x0102 (fun _ _ => none) (cmd 0x0102 (fr 0x0102 0 112 [(48, [1, 0, 4, 0]), (56, pan0)]) [tdesKey, tdesKey] house) = true ∧
    runs 0 0x0103 (fun _ _ => none) (cmd 0x0103 (fr 0x0103 0 136 [(48, [1, 0, 4, 0]), (56, pan0)]) [tdesKey, tdesKey] house) = true ∧
    runs 0 0x0104 (fun _ _ => none) (cmd 0x0104 (fr 0x0104 0 96 [(48, [1, 0, 4, 4]), (56, pan0)]) [tdesKey, tdesKey] house) = true ∧
    decTableOk (slice (fr 0x0102 0 112 [(48, [1, 0, 4, 0]), (56, pan0)]) 88 16) = false := by decide +kernel

/-- The KSN of TDES DUKPT with counter 0, and of AES DUKPT. -/
def ksnT : Bytes := [1, 0, 0, 0] ++ zeros 12
def ksnA : Bytes := [2, 0, 0, 0] ++ zeros 12

theorem wit_PaymentFunctionsAnswer :
    runs 0 0x0301 checkArqc (cmd 0x0301 (fr 0x0301 1 352 [(40, [1, 2, 1, 99, 0, 0, 0, 1]), (48, pan0), (80, [8])]) [tdesKey] house) = true ∧
    runs 0 0x0302 checkScriptMac (cmd 0x0302 (fr 0x0302 0 88 [(40, [2, 8, 99, 0, 16]), (48, pan0)]) [tdesKey] house) = true ∧
    runs 0 0x0303 checkScriptEncrypt (cmd 0x0303 (fr 0x0303 0 120 [(60, [16]), (64, pan0)]) [tdesKey, none, none] house) = true ∧
    runs 0 0x0401 checkDukptPin (cmd 0x0401 (fr 0x0401 0 120 [(56, ksnT), (72, pan0)]) [tdesKey, tdesKey] house) = true ∧
    runs 0 0x0401 checkDukptPin (cmd 0x0401 (fr 0x0401 0 120 [(48, [4, 4]), (56, ksnA), (72, pan0)]) [aesKey, aesKey] house) = true ∧
    runs 0 0x0402 checkDukptDecrypt (cmd 0x0402 (fr 0x0402 0 104 [(52, [16]), (56, ksnA)]) [aesKey] house) = true ∧
    runs 0 0x0403 checkDukptMac (cmd 0x0403 (fr 0x0403 0 104 [(48, [3, 8, 2]), (52, [16]), (56, ksnT)]) [tdesKey] house) = true ∧
    runs 0 0x0404 checkInitialExport (cmd 0x0404 (fr 0x0404 0 72 [(48, ksnT)]) [tdesKey, tdesKey] house) = true ∧
    runs 0 0x0405 checkOriginate (cmd 0x0405 (fr 0x0405 0 88 [(32, [0, 0, 0, 0, 0, 0, 3]), (48, [1]), (52, [16])]) [some { noHeldKey with alg := 65, dukpt := true, vitrine := true, slot := 3, material := zeros 16 }] house) = true ∧
    runs 0 0x0501 checkMac (cmd 0x0501 (fr 0x0501 0 80 [(40, [6, 0, 16, 0, 16])]) [keyOf 65 (chars 'M' '6') 0 (zeros 16)] house) = true ∧
    runs 0 0x0502 checkMac (cmd 0x0502 (fr 0x0502 0 80 [(40, [3, 2, 4, 0, 16])]) [keyOf 84 (chars 'M' '3') 0 (zeros 16)] house) = true := by decide +kernel

theorem wit_KeyBlockAndDataFunctionsAnswer :
    runs 0 0x0602 checkExport (cmd 0x0602 (fr 0x0602 0 48 []) [aesKey, aesKey] house) = true ∧
    runs 0 0x0701 (checkData false) (cmd 0x0701 (fr 0x0701 1 80 [(40, [1, 2, 0, 0, 15])]) [aesKey] house) = true ∧
    runs 0 0x0702 (checkData true) (cmd 0x0702 (fr 0x0702 0 80 [(40, [1, 2, 0, 0, 16])]) [aesKey] house) = true ∧
    runs 0 0x0703 checkFf1 (cmd 0x0703 (fr 0x0703 0 128 [(40, [10, 0, 16])]) [aesKey] house) = true ∧
    runs 0 0x0704 checkFf1 (cmd 0x0704 (fr 0x0704 1 128 [(40, [10, 0, 16, 0, 4, 4])]) [aesKey] house) = true := by decide +kernel

/-- A template of Table 6-2: D0, AES, mode B, exportability E, 16 bytes. -/
def tmpl0 : Bytes := [0x44, 0x30, 65, 66, 0x30, 0x30, 69, 16]
/-- The base point of P-256, uncompressed. -/
def p256g : Bytes := [4] ++ beBytes 32 0x6B17D1F2E12C4247F8BCE6E563A440F277037D812DEB33A0F4A13945D898C296 ++ beBytes 32 0x4FE342E2FE1A7F9B8EE7EB4A7C0F9E162BCE33576B315ECECBB6406837BF51F5
/-- The base point of Ed25519, encoded. -/
def ed25519b : Bytes := 0x58 :: List.replicate 31 0x66
/-- An RSA-2048 public key's shape: an odd modulus of 2,048 bits and the exponent 65,537. -/
def rsaPub0 : Bytes := [0x80] ++ zeros 254 ++ [1] ++ [0, 1, 0, 1]
/-- A key pair of a type. -/
def pairOf (kt : Nat) (m : Bytes) : Option HeldKey := keyOf 80 0 kt m

theorem wit_CipherAndHashFunctionsAnswer :
    runs 0 0x0801 checkCipher (cmd 0x0801 (fr 0x0801 0 80 [(40, [0, 0, 0, 0, 16])]) [aesKey] house) = true ∧
    runs 0 0x0802 checkCipher (cmd 0x0802 (fr 0x0802 0 80 [(40, [2, 0, 0, 0, 15])]) [aesKey] house) = true ∧
    runs 0 0x0803 checkAead (cmd 0x0803 (fr 0x0803 1 96 [(40, [16, 0, 0, 0, 16])]) [aesKey] house) = true ∧
    runs 0 0x0803 checkAead (cmd 0x0803 (fr 0x0803 0 96 [(40, [12, 0, 0, 0, 16])]) [aesKey] house) = true ∧
    runs 0 0x0804 checkAead (cmd 0x0804 (fr 0x0804 0 96 [(40, [16, 0, 0, 0, 16])]) [aesKey] house) = true ∧
    runs 0 0x0805 checkSpan (cmd 0x0805 (fr 0x0805 1 272 [(40, [1]), (48, [1]), (52, [128]), (56, [16])]) [aesKey] house) = true ∧
    runs 0 0x0806 checkSpan (cmd 0x0806 (fr 0x0806 0 272 [(40, [1]), (48, [1]), (52, [128]), (56, [12])]) [aesKey] house) = true ∧
    runs 0 0x0901 checkHash (cmd 0x0901 (fr 0x0901 0 48 [(32, [5, 0, 0, 0, 8])]) [] house) = true ∧
    runs 0 0x0902 checkHmac (cmd 0x0902 (fr 0x0902 0 120 [(40, [1, 32, 0, 0, 8])]) [hmacKey0] house) = true ∧
    runs 0 0x0903 checkHmac (cmd 0x0903 (fr 0x0903 0 120 [(40, [3, 16, 0, 0, 8])]) [hmacKey0] house) = true ∧
    runs 0 0x0904 checkKdf (cmd 0x0904 (fr 0x0904 0 80 [(48, [1, 1]), (56, tmpl0)]) [aesKey, aesKey] house) = true ∧
    runs 0 0x0905 checkSpan (cmd 0x0905 (fr 0x0905 0 272 [(40, [1]), (48, [1]), (52, [128]), (56, [1])]) [none] house) = true ∧
    runs 0 0x0906 checkSpan (cmd 0x0906 (fr 0x0906 0 272 [(40, [1]), (48, [3]), (52, [128]), (56, [1, 32])]) [hmacKey0] house) = true := by decide +kernel

/-- A later frame of an operation that stream 0 has opened. -/
theorem wit_CipherAndHashFunctionsAnswer_later :
    runs 0 0x0905 checkSpan (withGal 0 { gal0 with ops := [(1, { op0 with param := 1 })] } (cmd 0x0905 (fr 0x0905 0 272 [(40, [1, 0, 0, 0, 1]), (52, [128]), (56, [1])]) [none] house)) = true := by decide +kernel

theorem wit_SignatureFunctionsAnswer :
    runs 0 0x0A01 checkSign (cmd 0x0A01 (fr 0x0A01 1 64 [(40, [1]), (48, [8])]) [pairOf 1 (zeros 32)] house) = true ∧
    runs 0 0x0A03 checkSign (cmd 0x0A03 (fr 0x0A03 0 64 [(48, [8])]) [pairOf 4 (zeros 32)] house) = true ∧
    runs 0 0x0A05 checkSign (cmd 0x0A05 (fr 0x0A05 0 64 [(40, [1, 0, 2, 32]), (48, [8])]) [pairOf 0x10 (zeros 256)] house) = true ∧
    runs 0 0x0A07 checkSign (cmd 0x0A07 (fr 0x0A07 1 64 [(48, [8])]) [pairOf 0x20 (zeros 32)] house) = true ∧
    runs 0 0x0A02 (checkVerify ecTypes) (cmd 0x0A02 (fr 0x0A02 0 208 [(40, [1]), (44, [1]), (50, [65, 0, 64, 0, 0, 0, 8]), (64, p256g)]) [none] house) = true ∧
    runs 0 0x0A06 (checkVerify rsaTypes) (cmd 0x0A06 (fr 0x0A06 0 600 [(40, [0x10]), (44, [1, 0, 1]), (50, [4, 1, 0, 1, 0, 0, 8]), (64, rsaPub0), (583, [1])]) [none] house) = true ∧
    runs 0 0x0A08 (checkVerify dsaTypes) (cmd 0x0A08 (fr 0x0A08 0 3816 [(40, [0x20]), (50, [0x20, 5, 0x74, 9, 0, 0, 8])]) [none] house) = true := by decide +kernel

theorem wit_AgreementFunctionsAnswer :
    runs 0 0x0B01 checkAgree (cmd 0x0B01 (fr 0x0B01 0 144 [(48, [1, 0, 65]), (56, tmpl0), (72, p256g)]) [pairOf 1 (zeros 32), aesKey] house) = true ∧
    runs 0 0x0B02 (checkEphemeral ecTypes) (cmd 0x0B02 (fr 0x0B02 0 144 [(40, [1]), (44, [1, 0, 65]), (56, tmpl0), (72, p256g)]) [aesKey] house) = true ∧
    runs 0 0x0B03 (checkEphemeral kemTypes) (cmd 0x0B03 (fr 0x0B03 0 872 [(40, [0x30]), (44, [1, 0, 0x20, 3]), (56, tmpl0)]) [aesKey] house) = true ∧
    runs 0 0x0B04 checkAgree (cmd 0x0B04 (fr 0x0B04 0 840 [(48, [3, 0, 0, 3]), (56, tmpl0)]) [pairOf 0x30 (zeros 64), aesKey] house) = true ∧
    runs 0 0x0B10 checkCurveLoad (cmd 0x0B10 (fr 0x0B10 0 248 [(32, [7]), (36, [192, 0, 1])]) [] house) = true ∧
    runs 0 0x0B11 checkCurveQuery (cmd 0x0B11 (fr 0x0B11 0 40 [(32, [6])]) [] house) = true ∧
    runs 0 0x0C01 checkRandom (cmd 0x0C01 (fr 0x0C01 0 40 [(32, [0, 16])]) [] house) = true := by decide +kernel

theorem wit_KeyFunctionsAnswer :
    runs 0 0x0D01 checkMessage (cmd 0x0D01 (fr 0x0D01 0 208 [(32, [168])]) [] house) = true ∧
    runs 0 0x0D02 checkDeaccession (cmd 0x0D02 (fr 0x0D02 0 40 [(32, [3])]) [] house) = true ∧
    runs 0 0x0D03 checkKeyQuery (cmd 0x0D03 (fr 0x0D03 0 40 [(32, [3])]) [] house) = true ∧
    runs 0 0x0D04 (fun _ _ => none) (cmd 0x0D04 (fr 0x0D04 0 32 []) [] house) = true ∧
    runs 0 0x0E21 checkMessage (cmd 0x0E21 (fr 0x0E21 0 208 [(32, [168])]) [] house) = true ∧
    (gal house 0).bind (fun g => recordAt g 3) = some (rec0 1 3 (zeros 16)) := by decide +kernel

theorem wit_GalleryFunctionsAnswer :
    runs 0 0x0E01 createCheck (cmd 0x0E01 (fr 0x0E01 0 40 [(12, [8]), (32, [8])]) [] house) = true ∧ (freeIndex house).isSome = true ∧
    runs 0 0x0E02 (bindRefusal none) (cmd 0x0E02 (fr 0x0E02 0 40 [(32, [7, 0, 0, 0, 0, 4])]) [] house) = true ∧
    runs 0 0x0E03 unbindRefusal (cmd 0x0E03 (fr 0x0E03 0 40 [(32, [1])]) [] house) = true ∧ (win house 1).unbind = none ∧
    runs 0 0x0E04 (removeRefusal false) (cmd 0x0E04 (fr 0x0E04 0 40 [(32, [7])]) [] (withWin 1 {} house)) = true ∧
    runs 0 0x0E05 setRefusal (cmd 0x0E05 (fr 0x0E05 0 104 [(32, [2]), (40, [7]), (48, [1])]) [] house) = true ∧ (gal house 7).isSome = true ∧
    runs 0 0x0E06 rightsRefusal (cmd 0x0E06 (fr 0x0E06 0 40 [(32, [7, 0, 0, 0, 10, 1])]) [] house) = true ∧
    runs 0 0x0E07 queryRefusal
      (cmd 0x0E07 (fr 0x0E07 0 40 [(32, [7])]) [] house) = true ∧
    runs 0 0x0E08 readRefusal
      (cmd 0x0E08 (fr 0x0E08 0 48 [(32, [7]), (40, [1])]) [] house) = true ∧
    runs 0 0x0E09 ackRefusal (cmd 0x0E09 (fr 0x0E09 0 48 [(32, [7])]) [] house) = true := by decide +kernel

/-- The command of cell 0, as the function sees it. -/
def held0 (code : Nat) (s : State) : Bool := (heldCommand 0 code s).isSome

theorem wit_ModeAndLifeCycleFunctions :
    runs 0 0x0E10 (fun c s => if modeUnderWay s c.t then some (statusOnly 0) else modeRefusal c s) (cmd 0x0E10 (fr 0x0E10 0 40 [(32, [4])]) [] house) = true ∧ house.pow.service ≠ 4 ∧
    runs 0 0x0E10 (fun c s => if modeUnderWay s c.t then some (statusOnly 0) else modeRefusal c s) (cmd 0x0E10 (fr 0x0E10 0 40 [(32, [6])]) [] house) = true ∧
    runs 0 0x0E10 (fun c s => if modeUnderWay s c.t then some (statusOnly 0) else modeRefusal c s) (cmd 0x0E10 (fr 0x0E10 0 40 [(32, [7])]) [] (withMode .quiesce house)) = true ∧
    runs 0 0x0E10 (fun c s => if modeUnderWay s c.t then some (statusOnly 0) else modeRefusal c s) (cmd 0x0E10 (fr 0x0E10 0 40 [(32, [8])]) [] house) = true ∧
    house.pow.pending = false ∧ house.pow.ceremony = false ∧ house.pow.mode = .service ∧ house.reg.burn = none ∧
    runs 0 0x0E40 (fun c s => if (transitionCheck c s).isSome then none else some (statusOnly 0)) (cmd 0x0E40 (fr 0x0E40 0 72 [(32, [9])]) [] house) = true ∧
    runs 0 0x0F01 (fun _ _ => none) (cmd 0x0F01 (fr 0x0F01 0 32 []) [] house) = true := by decide +kernel

theorem wit_SignatureFunctionsAnswer_eddsa :
    runs 0 0x0A04 (checkVerify edTypes) (cmd 0x0A04 (fr 0x0A04 0 176 [(40, [4]), (50, [32, 0, 64, 0, 0, 0, 8]), (64, ed25519b)]) [none] house) = true := by decide +kernel

theorem wit_AgreementFunctionsAnswer_oaep :
    runs 0 0x0B05 checkOaep (cmd 0x0B05 (fr 0x0B05 0 328 [(48, [1, 0, 0, 1]), (56, tmpl0), (327, [1])]) [pairOf 0x10 (zeros 640 ++ rsaPub0), aesKey] house) = true := by decide +kernel

theorem wit_KeyBlockAndDataFunctionsAnswer_rkl :
    runs 0 0x0603 checkRkl (cmd 0x0603 (fr 0x0603 0 224 [(56, ksnT), (72, [3, 0, 65, 0, 64]), (80, p256g)]) [tdesKey, pairOf 1 (zeros 32), pairOf 2 (zeros 48)] house) = true := by decide +kernel

/-! The pair's functions, on a member whose partner is module 5. -/

def pairOfState (p : Pair) : State := withPair p house
theorem wit_PairFunctionsAnswer_swap : runs 0 0x0E30 swapRefusal (cmd 0x0E30 (fr 0x0E30 0 32 []) [] (pairOfState { house.pair with role := .originator, linkUp := true, member := 1 })) = true := by decide +kernel
theorem wit_PairFunctionsAnswer_takeover :
    runs 0 0x0E31 takeoverRefusal (cmd 0x0E31 (fr 0x0E31 0 48 [(32, [5])]) [] (pairOfState { house.pair with role := .refusing, member := 1, partnerSerial := 5 })) = true := by decide +kernel
/-- A map of modules 0 and 5, joined at their ports 0, and the link up. -/
def joined (s : State) : State :=
  withPort 0 { up := true, auth := true, peer := 5 } { s with img := { s.img with set := { s.img.set with span := some { rootAlg := 1, root := [], modules := [(0, 1), (5, 2)], links := [({ module := 0, port := 0 }, { module := 5, port := 0 })] } } } }
theorem wit_PairFunctionsAnswer_migration :
    runs 0 0x0E32 (beginRefusal false) (cmd 0x0E32 (fr 0x0E32 0 40 [(32, [7, 0, 0, 0, 5, 0, 0xFF, 0xFF])]) [] (joined house)) = true ∧ (gal house 7).isSome = true ∧
    runs 0 0x0E33 cutRefusal (cmd 0x0E33 (fr 0x0E33 0 40 [(32, [7])]) [] (withGal 7 { gal7 with migration := some { home := 5, partner := 0xFFFF } } house)) = true ∧
    runs 0 0x0E34 endRefusal (cmd 0x0E34 (fr 0x0E34 0 36 [(32, [7])]) [] (withWin 1 {} (withGal 7 { gal7 with migration := some { home := 5, partner := 0xFFFF, cutDeclared := true } } house))) = true ∧
    runs 0 0x0E35 abortRefusal (cmd 0x0E35 (fr 0x0E35 0 36 [(32, [7])]) [] (withGal 7 { gal7 with migration := some { home := 5, partner := 0xFFFF } } house)) = true := by decide +kernel
theorem wit_PairFunctionsAnswer_loan :
    runs 0 0x0E36 (loanRefusal false) (cmd 0x0E36 (fr 0x0E36 0 40 [(32, [7, 0, 0, 0, 5, 0, 0xFF, 0xFF])]) [] (joined (withGal 7 { gal7 with desc := { gal7.desc with loans := 4 } } house))) = true ∧
    mhas gal7.loans 5 = false ∧
    runs 0 0x0E37 endLoanRefusal (cmd 0x0E37 (fr 0x0E37 0 38 [(32, [7, 0, 0, 0, 5])]) [] (withGal 7 { gal7 with loans := [(5, { partner := 0xFFFF })] } house)) = true := by decide +kernel

/-- LCS_TRANSITION's token digests are fused (Config): a token that passes is one whose digest they are. With it, PERSONALISE passes in QUIESCE. -/
def personalise (token : Bytes) : State :=
  cmd 0x0E40 (fr 0x0E40 0 40 [(32, [4])] ++ token) [] { withMode .quiesce house with ao := { house.ao with inputs := [(2, { level := true })] } }
theorem wit_ModeAndLifeCycleFunctions_transition (token : Bytes) (hl : token.length = 32) (h : sha256 token = beBytes 32 (Config.tokenDigest 3).toNat) :
    ∃ c, Serves 0 0x0E40 (personalise token) c ∧ transitionCheck c (personalise token) = none := by
  have hs : slice (fr 0x0E40 0 40 [(32, [4])] ++ token) 40 32 = token := by
    have h40 : (fr 0x0E40 0 40 [(32, [4])]).length = 40 := by decide
    generalize fr 0x0E40 0 40 [(32, [4])] = b at h40
    have hd : (b ++ token).drop 40 = token := by rw [← h40]; exact List.drop_left
    simp [slice, hd, hl, zeros, List.take_of_length_le (Nat.le_of_eq hl)]
  have e1 : byteAt (fr 0x0E40 0 40 [(32, [4])] ++ token) 32 = 4 := rfl
  have e2 : byteAt (fr 0x0E40 0 40 [(32, [4])] ++ token) 33 = 0 := rfl
  have hf : hdrFunction (fr 0x0E40 0 40 [(32, [4])] ++ token) = 0x0E40 := rfl
  have ht : turnedAway (personalise token) { cell := 0, t := 65535, d := { desc0 with function := 0x0E40, frame := fr 0x0E40 0 40 [(32, [4])] ++ token, st := .inService, copies := [{ cell := 0, secondary := false, complete := false, takenAt := 0 }], rights := defaultRow, seen := gal0.records }, sid := sid0, g := 0, gal := { gal0 with records := gal0.records } } = false := by
    simp [turnedAway, deniedAccess, usesSpan, asksNonce, Ctx.f, hf, fnSpec, adminSpec, ownSpec, vitrineRight, desc0]
    exact fun _ _ => rfl
  refine ⟨_, ⟨rfl, by rfl, ht, by rfl, by simp [lacksSeed, usesEngine, fnSpec, adminSpec, ownSpec], fun hd => by simp [drawsNow, fnSpec, adminSpec, ownSpec] at hd⟩, ?_⟩
  have hr : transitionRefusal (personalise token) 4 0 token true = none := by
    have e3 : tokenClass (personalise token).reg.state 4 0 (personalise token).fuses.codeE = some 3 := rfl
    simp only [transitionRefusal, e3, h, ne_eq, not_true, if_false]
    rfl
  simp only [transitionCheck]
  rw [if_neg (by simp [show (personalise token).reg.burn = none from rfl])]
  show ((transitionRefusal _ (byteAt (fr 0x0E40 0 40 [(32, [4])] ++ token) 32) (byteAt (fr 0x0E40 0 40 [(32, [4])] ++ token) 33) (slice (fr 0x0E40 0 40 [(32, [4])] ++ token) 40 32) true).map _) = none
  rw [e1, e2, hs, hr]; rfl

/-! What keeps a function from its effect. -/

theorem wit_FunctionsTurnedAway_none : heldCommand 0 0x0C01 house = none := by decide
/-- RANDOM_BYTES held by cell 0. -/
def rnd (d : Desc → Desc) (s : State) : State := (updDesc 65535 d (cmd 0x0C01 (fr 0x0C01 0 40 [(32, [16])]) [] s))
/-- A command held by cell 0, and what is true of it. -/
def heldIs (code : Nat) (s : State) (p : Ctx → Bool) : Bool := ((heldCommand 0 code s).map p).getD false
theorem wit_FunctionsTurnedAway_warned : let s := { cmd 0x0D02 (fr 0x0D02 0 40 [(32, [3])]) [] house with pow := { house.pow with failWarning := true } }
    heldIs 0x0D02 s (fun c => mustWait s c) = true := by decide +kernel
theorem wit_FunctionsTurnedAway_denied : let s := updDesc 65535 (fun d => { d with rights := [] }) (cmd 0x0D03 (fr 0x0D03 0 40 [(32, [3])]) [] house)
    heldIs 0x0D03 s (fun c => !mustWait s c && turnedAway s c) = true := by decide +kernel
theorem wit_FunctionsTurnedAway_checked : let s := cmd 0x0C01 (fr 0x0C01 0 40 []) [] house
    heldIs 0x0C01 s (fun c => !mustWait s c && !turnedAway s c && !lacksSeed s c && (checkRandom c s).isSome) = true := by decide +kernel
theorem wit_FunctionsTurnedAway_secondary : let s := withCell 0 { held := some 65535, secondary := true } (rnd id house)
    heldIs 0x0C01 s (fun c => !mustWait s c && !turnedAway s c && !lacksSeed s c && (checkRandom c s).isNone && drawsNow c.d && (cellRegs s 0).secondary) = true := by decide +kernel
theorem wit_FunctionsTurnedAway_fatal : let s := rnd id { house with rng := { house.rng with fatal := true } }
    heldIs 0x0C01 s (fun c => !mustWait s c && !turnedAway s c && !lacksSeed s c && (checkRandom c s).isNone && drawsNow c.d && !(cellRegs s 0).secondary && s.rng.fatal) = true := by decide +kernel
theorem wit_FunctionsTurnedAway_short : let s := rnd id { house with rng := { house.rng with drbgs := [] } }
    heldIs 0x0C01 s (fun c => !mustWait s c && !turnedAway s c && !lacksSeed s c && (checkRandom c s).isNone && drawsNow c.d && !(cellRegs s 0).secondary && !s.rng.fatal && !instServes s (drawInstance c)) = true := by decide +kernel
theorem wit_FunctionsTurnedAway_budget :
    let s := cmd 0x0801 (fr 0x0801 0 80 [(40, [0, 0, 0, 0, 16])]) [some { noHeldKey with alg := 65, vitrine := true, finite := true, slot := 3, material := zeros 16 }]
      (withGal 0 { gal0 with records := [(3, { rec0 1 3 (zeros 16) with finite := true, budget := 0, uses := 5 })] } house)
    heldIs 0x0801 s (fun c => !mustWait s c && !turnedAway s c && (checkCipher c s).isNone && (stepSlots c.g (owedSteps c) s).isNone) = true := by decide +kernel
/-- CIPHER_ENCRYPT where the wing's cipher engine has no mask seed: one may still come, and none can. -/
theorem wit_FunctionsTurnedAway_seed : let s := updWing 0 (fun w => { w with cen := {} }) (cmd 0x0801 (fr 0x0801 0 80 [(40, [0, 0, 0, 0, 16])]) [aesKey] house)
    heldIs 0x0801 s (fun c => !mustWait s c && !turnedAway s c && (checkCipher c s).isNone && !(cellRegs s 0).secondary && lacksSeed s c) = true ∧ maskExhausted s 0 = false ∧
    maskExhausted { s with rng := { s.rng with fatal := true } } 0 = true := by decide +kernel

/-! ### Engines. -/

/-- Cell 0 serves a command with every right. -/
def servedCell : State := cmd 0x0801 (zeros 80) [] house
/-- The same with an engine as given, the cipher engine or the hash unit of wing 0. -/
def withEngine (h : Bool) (e : Engine) : State := updEngine h 0 (fun _ => e) servedCell
def readyEngine : Engine := { seedReady := true }
theorem wit_EngineClaims_a : ∀ h : Bool, let s := withEngine h readyEngine
    (wing s 0).power = .run ∧ (wing s 0).quarantined = false ∧ (wing s 0).retired = false ∧ (engineOf s h 0).owner ≠ some 0 ∧ (engineOf s h 0).queue.contains 0 = false ∧
    mhas (engineOf s h 0).grants 0 = false ∧ (engineOf s h 0).reading.contains 0 = false ∧ (servedBy s 0).isSome = true ∧ ((servedBy s 0).map (fun x => hasRight x.2.1.rights (if h then 3 else 2) rightUSE)) = some true ∧
    (engineOf s h 0).owner = none ∧ (engineOf s h 0).queue = [] ∧ (engineOf s h 0).clearing = false ∧ (engineOf s h 0).faulted = false ∧ (h || (engineOf s h 0).seedReady) = true := by decide +kernel
theorem wit_EngineClaims_b : ∀ h : Bool, let s := withEngine h { readyEngine with owner := some 7, gallery := 0 }
    (engineOf s h 0).owner = some 7 ∧ ((servedBy s 0).map (fun x => hasRight x.2.1.rights (if h then 3 else 2) rightUSE)) = some true ∧ (!h && maskExhausted s 0) = false := by decide +kernel
theorem wit_EngineClaims_c : servedBy house 0 = none ∧ (wing house 0).power = .run ∧ mhas (engineOf house false 0).grants 0 = false := by decide +kernel
theorem wit_EngineClaims_d : ∀ h : Bool, (engineOf (withEngine h { queue := [0] }) h 0).queue.contains 0 = true ∧ (engineOf (withEngine h {}) h 0).queue.contains 0 = false ∧
    (engineOf (withEngine h { owner := some 0 }) h 0).owner = some 0 ∧ (engineOf (withEngine h {}) h 0).owner ≠ some 0 := by decide +kernel
/-- A cached AES key of the house gallery. -/
def cached0 : CacheEntry := { gallery := 0, digest := [], count := 1, stamp := 0, lastUse := 0, holders := [], alg := 65, slot := none, root := (3, 1), material := zeros 16, live := true }
def withCache (e : CacheEntry) (s : State) : State := { s with vit := { s.vit with cache := [(131071, e)] } }
theorem wit_EngineOperations_keyload : ∀ h step : Bool, let s := withCache cached0 (withEngine h { readyEngine with owner := some 0 })
    (engineOf s h 0).owner = some 0 ∧ mget s.vit.cache 131071 = some cached0 ∧ (engineOf s h 0).busy = none ∧ cached0.gallery = (engineOf s h 0).gallery ∧ cached0.count = 1 ∧
    entrySuits h cached0 = true ∧ entryLive s cached0 = true ∧ (step && stepWaits s 0 cached0) = false ∧ ((if step then loadStep 0 cached0 s else some s) : Option State).isSome = true := by decide +kernel
/-- A load with STEP of the key in slot 3 while ticket 9 entered service earlier and has still to step it. -/
theorem wit_EngineOperations_waits :
    let k : CacheEntry := { cached0 with slot := some 3 }
    let d : Desc := { desc0 with function := 0x0801, frame := zeros 80, st := .inService, entry := some 1, keys := [some { noHeldKey with alg := 65, vitrine := true, finite := true, slot := 3 }] }
    let s := withCache k (withDesc 9 d (updDesc 65535 (fun d => { d with entry := some 2 }) (withEngine false { readyEngine with owner := some 0 })))
    mget s.vit.cache 131071 = some k ∧ (engineOf s false 0).owner = some 0 ∧ entrySuits false k = true ∧ entryLive s k = true ∧ (true && stepWaits s 0 k) = true := by decide +kernel
theorem wit_EngineOperations_two : let s := withCache { cached0 with count := 2 } (withEngine true { readyEngine with owner := some 0 })
    (engineOf s true 0).owner = some 0 ∧ mget s.vit.cache 131071 = some { cached0 with count := 2 } ∧ entrySuits true { cached0 with count := 2 } = true ∧ entryLive s { cached0 with count := 2 } = true := by decide +kernel
/-- A record whose budget has run out, cached. -/
def spent : VRecord := { rec0 1 3 (zeros 16) with finite := true, budget := 0 }
theorem wit_EngineOperations_spent :
    let k : CacheEntry := { cached0 with slot := some 3, digest := recordDigest 0 3 1 }
    let s := withCache k (withGal 0 { gal0 with records := [(3, spent)] } (withEngine false { readyEngine with owner := some 0 }))
    mget s.vit.cache 131071 = some k ∧ entrySuits false k = true ∧ entryLive s k = true ∧ stepWaits s 0 k = false ∧ loadStep 0 k s = none := by decide +kernel
theorem wit_EngineOperations_denied : (∀ h : Bool, (engineOf (withEngine h { owner := some 0 }) h 0).owner = some 0 ∧ mget (withEngine h { owner := some 0 }).vit.cache 0 = none) ∧
    (engineOf (withEngine false {}) false 0).owner ≠ some 0 := by decide +kernel
/-- AES-128 in ECB, one block, from and to byte 0. -/
theorem wit_EngineOperations_cen : let s := withEngine false { readyEngine with owner := some 0, keys := [(0, { noHeldKey with alg := 65, material := zeros 16 })] }
    (engineOf s false 0).owner = some 0 ∧ cenRefused (writeCtx false 0 none (cellStores 0 [] s)) 0 0x10000 = false ∧ (writeCtx false 0 none (cellStores 0 [] s)).rng.fatal = false ∧
    cenRefused (writeCtx false 0 none (cellStores 0 [] s)) 0 0 = true := by decide +kernel
theorem wit_EngineOperations_hsu : let s := withEngine true { owner := some 0 }
    (engineOf s true 0).owner = some 0 ∧ hsuRefused (writeCtx true 0 none (cellStores 0 [] s)) 0 0x10001 = false ∧ hsuRefused (writeCtx true 0 none (cellStores 0 [] s)) 0 0 = true := by decide +kernel
def engineOp0 : EngineOp := { load := none, dst := 32, out := [1], ctxAfter := List.replicate 8 0, scratch := none, blocks := 1, endsAt := 9 }
theorem wit_EngineOperations_done : (engineOf (withEngine false { busy := some engineOp0 }) false 0).busy = some engineOp0 ∧
    (engineOf (withEngine false { busy := some { engineOp0 with load := some (3, noHeldKey) } }) false 0).busy = some { engineOp0 with load := some (3, noHeldKey) } := by decide +kernel
theorem wit_EngineReads_a : ∀ h : Bool, (engineOf (withEngine h { owner := some 0 }) h 0).owner = some 0 ∧ (engineOf (withEngine h {}) h 0).owner ≠ some 0 := by decide +kernel
theorem wit_EngineReads_nonce : let s := updDesc 65535 (fun d => { d with privileges := 2 }) (withEngine false { readyEngine with owner := some 0 })
    (wing s 0).cen.owner = some 0 ∧ (servedBy s 0).map (fun x => bit x.2.1.privileges 1) = some true ∧ s.fuses.nonceWithdrawn = false ∧ (cellRegs s 0).secondary = false ∧
    (servedBy (withEngine false { readyEngine with owner := some 0 }) 0).map (fun x => bit x.2.1.privileges 1) = some false := by decide +kernel
/-- The secondary copy, of a command whose primary has drawn one nonce. -/
theorem wit_EngineReads_secondary : let s := withCell 0 { held := some 65535, secondary := true } (updDesc 65535 (fun d => { d with privileges := 2, nonces := [77] }) (withEngine false { readyEngine with owner := some 0 }))
    (wing s 0).cen.owner = some 0 ∧ (servedBy s 0).map (fun x => (bit x.2.1.privileges 1, x.2.1.nonces[x.2.1.nonceTaken]?)) = some (true, some 77) ∧ s.fuses.nonceWithdrawn = false ∧
    (cellRegs s 0).secondary = true := by decide +kernel
theorem wit_EngineReads_mark : ({ house with bb := { house.bb with nonceMark := 1 } } : State).rng.nonceCounter < ({ house with bb := { house.bb with nonceMark := 1 } } : State).bb.nonceMark := by decide
theorem wit_EngineEvents_a : ∀ h : Bool, (engineOf (withEngine h { clearing := true }) h 0).clearing = true ∧ (engineOf (withEngine h { clearing := true }) h 0).queue = [] ∧
    (engineOf (withEngine h {}) h 0).clearing = false ∧ (engineOf (withEngine h { owner := some 7 }) h 0).owner = some 7 ∧ (engineOf (withEngine h {}) h 0).owner = none ∧
    (engineOf (withEngine h {}) h 0).alarms = [] := by decide +kernel
theorem wit_EngineEvents_b : ∀ h : Bool, (engineOf (withEngine h { faulted := true }) h 0).faulted = true ∧ (engineOf (withEngine h { faulted := true }) h 0).escalated = false ∧
    (engineOf (withEngine h { faulted := true }) h 0).queue = [] ∧ (engineOf (withEngine h { escalated := true }) h 0).escalated = true ∧ (engineOf (withEngine h {}) h 0).faulted = false := by decide +kernel
theorem wit_EngineEvents_c : (engineOf (withEngine false readyEngine) false 0).seedReady = true ∧ (engineOf (withEngine false {}) false 0).seedReady = false ∧
    (engineOf (withEngine false { refilling := true }) false 0).refilling = true ∧
    instServes { withEngine false { refilling := true } with rng := { house.rng with drbgs := [(4096, { key := [], v := [] })] } } 4096 = true ∧
    instServes (withEngine false { refilling := true }) 4096 = false ∧ house.rng.fatal = false := by decide +kernel

/-! ### PK units. -/

def withPku (p : Pku) : State := updPku 0 (fun _ => p) servedCell
def cleanPku : Pku := { dirty := false, gallery := 0 }
theorem wit_PkuOwnership_a : let s := withPku cleanPku
    (wing s 0).power = .run ∧ (wing s 0).quarantined = false ∧ (wing s 0).retired = false ∧ (wing s 0).pku.owner ≠ some 0 ∧ (wing s 0).pku.queue.contains 0 = false ∧ mhas (wing s 0).pku.grants 0 = false ∧ (wing s 0).pku.reading.contains 0 = false ∧
    (servedBy s 0).map (fun x => (hasRight x.2.1.rights 4 rightUSE, x.2.2)) = some (true, 0) ∧ (wing s 0).pku.owner = none ∧ (wing s 0).pku.queue = [] ∧ (wing s 0).pku.wiping = false ∧
    (wing s 0).pku.faulted = false ∧ (wing s 0).pku.dirty = false ∧ (wing s 0).pku.gallery = 0 := by decide +kernel
theorem wit_PkuOwnership_b : (wing (withPku {}) 0).pku.dirty = true ∧ (wing (withPku {}) 0).pku.owner = none ∧ (wing (withPku { owner := some 7 }) 0).pku.owner = some 7 ∧
    (wing (withPku { cleanPku with gallery := 7 }) 0).pku.gallery ≠ 0 ∧ (servedBy (withPku {}) 0).isSome = true := by decide +kernel
theorem wit_PkuOwnership_c : servedBy house 0 = none ∧ (wing (withPku { queue := [0] }) 0).pku.queue.contains 0 = true ∧ (wing (withPku {}) 0).pku.queue.contains 0 = false := by decide +kernel
theorem wit_PkuOwnership_d : (wing (withPku { owner := some 0 }) 0).pku.owner = some 0 ∧ (wing (withPku { owner := some 0 }) 0).pku.dma = none ∧ (wing (withPku { owner := some 0 }) 0).pku.queue = [] ∧
    (wing (withPku {}) 0).pku.owner ≠ some 0 ∧ (wing (withPku { wiping := true }) 0).pku.wiping = true ∧ (wing (withPku { wiping := true }) 0).pku.queue = [] ∧ (wing (withPku {}) 0).pku.wiping = false := by decide +kernel
theorem wit_PkuArithmetic_a : let p := { cleanPku with owner := some 0 }
    (wing (withPku p) 0).pku.owner = some 0 ∧ pkuOpRefused p 0 0 = false ∧ pkuOpRefused p 1 0x20 = false ∧ pkuOpRefused p 2 0 = false ∧ pkuOpRefused p 3 0 = false ∧
    slotResidues p 511 = residuesOf (slotAt p 511) ∧ pkuOpRefused { p with dirty := true } 0 0 = true ∧
    residueHolds p.lanes false 0 0 0 0 = true ∧ (wing (withPku {}) 0).pku.owner ≠ some 0 := by decide +kernel
theorem wit_PkuArithmetic_b : slotResidues { cleanPku with residues := [(0, List.replicate 8 1)] } 0 ≠ residuesOf (slotAt { cleanPku with residues := [(0, List.replicate 8 1)] } 0) := by decide +kernel
/-- A product that the accumulator of the wide mode cannot hold: its lane wraps and the identity breaks. -/
theorem wit_PkuArithmetic_wraps : residueHolds 0 false (2 ^ 4224 - 1) 1 1 (laneMac 0 0 false (2 ^ 4224 - 1) 1 1) = false := by decide +kernel
theorem wit_PkuArithmetic_c : qmodOk (field (0 : W64) 1 0) (field (0 : W64) 46 16) = true ∧ ∃ v : W64, qmodOk (field v 1 0) (field v 46 16) = false := by
  refine ⟨by decide, 0x7FFFFFFF0003, by decide⟩
theorem wit_PkuTransfers_a : let s := withPku { cleanPku with owner := some 0 }
    (wing (allocatePages 0 [] s) 0).pku.dma = none ∧ (wing (allocatePages 0 [] s) 0).pku.owner = some 0 ∧ (∀ out : Bool, dmaRefused (wing (allocatePages 0 [] s) 0).pku out (b2n out) = false) ∧
    (foreignPage (allocatePages 0 [] s) 0 0 || (true && (wing (allocatePages 0 [] s) 0).pku.dirty)) = false ∧ dmaRefused (wing (allocatePages 0 [] s) 0).pku false (511 * 4 + 1 * 2048) = true := by decide +kernel
theorem wit_PkuTransfers_b : foreignPage (allocatePages 0 [] (withPku { cleanPku with owner := some 0 })) 0 2 = true ∧ dmaRefused { cleanPku with owner := some 0 } false 2 = false ∧
    (wing (withPku {}) 0).pku.owner ≠ some 0 ∧ (wing (withPku {}) 0).pku.dma = none := by decide +kernel
theorem wit_PkuTransfers_c : (wing (withPku { cleanPku with dma := some { cell := 0, word := 0, data := [] } }) 0).pku.dma = some { cell := 0, word := 0, data := [] } ∧ bit (0 : W64).toNat 0 = false ∧
    bit (0 : W64).toNat 1 = false ∧ bit (0 : W64).toNat 20 = false ∧ bits (0 : W64).toNat 19 17 = 0 := by decide +kernel
theorem wit_PkuEvents : (wing (withPku { owner := some 0 }) 0).pku.owner.isSome = true ∧ (wing (withPku { owner := some 0 }) 0).pku.queue = [] ∧ (wing (withPku {}) 0).pku.owner = none ∧
    (wing (withPku {}) 0).pku.alarms = [] ∧ (wing (withPku { faulted := true }) 0).pku.faulted = true ∧ (wing (withPku { faulted := true }) 0).pku.escalated = false ∧
    (wing (withPku { escalated := true }) 0).pku.escalated = true := by decide +kernel

/-! ### Random numbers. -/

def withSource (n : Nat) (x : Source) : State := { State.reset with rng := { State.reset.rng with sources := mset [] n x } }
theorem wit_RandomNumberBlock_a : (source (withSource 7 { phase := .live }) 7).phase = .live ∧ (source State.reset 7).phase ≠ .live ∧ (source (withSource 7 { phase := .starting }) 7).phase = .starting ∧
    (source State.reset 0).phase = .stopped ∧ (source (withSource 7 { phase := .live, consec := 2 }) 7).consec + 1 < 4 ∧ 4 ≤ (source (withSource 7 { phase := .live, consec := 3 }) 7).consec + 1 := by decide
theorem wit_RandomNumberBlock_b : ∀ k : Nat, (source (withSource 7 { phase := .live }) k).failedAt = none := by
  intro k; by_cases h : k = 7
  · subst h; rfl
  · simp [source, withSource, mset, mgetD, mget, Ne.symm h]
def drawing (n : Nat) (reseed : Bool) (blocks : Nat) : State :=
  { State.reset with rng := { State.reset.rng with queue := [{ inst := n, reseed := reseed }], pool := List.replicate blocks (zeros 32), drbgs := if reseed then [(n, { key := zeros 32, v := zeros 16 })] else [] } }
theorem wit_RandomNumberBlock_c : nextDraw (drawing 4128 true 2) = some { inst := 4128, reseed := true } ∧ 2 ≤ (drawing 4128 true 2).rng.pool.length ∧ (mget (drawing 4128 true 2).rng.drbgs 4128).isSome = true ∧
    nextDraw (drawing 0 false 4) = some { inst := 0, reseed := false } ∧ 4 ≤ (drawing 0 false 4).rng.pool.length := by decide

/-! ### The span and the pair. -/

/-- Port 0 is up, with keys, and has accepted no frame yet. -/
def port0 : SpanPort := { up := true, auth := true, peer := 5, lanes := 4 }
/-- A member of a pair: its partner is module 5, behind port 0. -/
def member (r : Role) : State := withPort 0 port0 (withPair { house.pair with member := 1, role := r, linkUp := true, partner := 5, term := 7 } house)
theorem accepts_member (r : Role) : FromPartner hdr0 (member r) ∧ ForHere hdr0 (member r) := by
  have h : Accepts false hdr0 (member r) := ⟨by decide, rfl, fun _ => rfl, fun _ => rfl, (Nat.one_pos : 0 < 1)⟩
  exact ⟨⟨h, rfl, rfl, rfl⟩, h, .inl rfl⟩
theorem accepts_handshake : Accepts true hdr0 (withPort 0 { port0 with auth := false } (member .originator)) := ⟨by decide, rfl, (nomatch ·), (nomatch ·), by decide⟩

theorem wit_LinkFrames_a : frameOf (.idle hdr0) = some (hdr0, false) ∧ frameOf (.hello { hdr0 with port := 4 } hello0) = some ({ hdr0 with port := 4 }, true) ∧ 4 ≤ ({ hdr0 with port := 4 } : LinkHdr).port ∧
    (spanPort State.reset 3).up = false := by decide
theorem wit_LinkFrames_b : let s := withPort 1 port0 (member .originator)
    (1 : Nat) < 4 ∧ (spanPort s 1).up = true ∧ (spanPort s 1).auth = true ∧ ({ hdr0 with port := 1, tagOk := false } : LinkHdr).tagOk = false ∧ (paired s && 1 == s.pair.port) = false ∧
    (recent 1000000000 s.now (spanPort s 1).tagFails).length < 2 := by decide
theorem wit_LinkFrames_c : ({ hdr0 with counter := 0 } : LinkHdr).counter ≤ (spanPort (member .originator) 0).rxCounter ∧ (spanPort (member .originator) 0).up = true := by decide
theorem wit_LinkFrames_d : relayOf (.currency { hdr0 with dst := 9, hops := 4093 } 0) = some (1, .currency 0 0) ∧ (9 : Nat) ≠ 0xFFFF ∧ 9 ≠ (member .originator).img.set.moduleId ∧ 4093 + 1 < 4095 ∧ 4095 ≤ 4094 + 1 := by decide
/-- Module 9 lies behind port 1, whose row lets it send. -/
def farther : State :=
  withPort 1 port0 (let s := member .originator
    { s with img := { s.img with set := { s.img.set with span := some { rootAlg := 1, root := [], modules := [(0, 1), (9, 2)], links := [({ module := 0, port := 1 }, { module := 9, port := 0 })] } } } })
theorem wit_LinkFrames_relayed : routeTo farther 9 = some (1, 1) ∧ Sends farther 1 ∧ hdr0.hops + 1 < 4095 ∧ Accepts false { hdr0 with dst := 9 } farther :=
  ⟨by decide, by unfold Sends; decide, by decide, by decide, rfl, fun _ => rfl, fun _ => rfl, by decide⟩
theorem wit_LinkFrames_e : ofPair (.withdraw hdr0) = true ∧ (withPair { (member .originator).pair with linkUp := false } (member .originator)).pair.linkUp = false := by decide
theorem wit_IdleAndProbe_sends : Sends (member .originator) 0 ∧ Sends (member .originator) 3 ∧ (member .originator).pair.port = 0 := by unfold Sends; decide
theorem wit_IdleAndProbe : (member .originator).pair.linkUp = true ∧ State.reset.pair.linkUp = false ∧ (spanPort (withPort 0 { port0 with probeAt := some 1 } (member .originator)) 0).probeAt.isSome = true ∧
    (spanPort (member .originator) 0).probeAt = none ∧ (spanPort (member .originator) 0).auth = true ∧ (spanPort (member .originator) 3).auth = false := by decide
theorem wit_PortsAndHandshakes_a : let s := withPort 0 {} (joined house)
    (spanPort s 0).up = false ∧ (mapPeer s 0).isSome = true ∧ s.pow.main = true ∧ mapPeer s 3 = none ∧ (spanPort (joined house) 0).up = true ∧ (paired (joined house) && 0 == (joined house).pair.port) = false := by decide
theorem wit_PortsAndHandshakes_lanes : widestLink (joined house) 0 = 4 ∧ widestLink (let s := joined house; { s with pair := { s.pair with badLanes := [3] } }) 0 = 2 ∧
    widestLink (let s := joined house; { s with pair := { s.pair with badLanes := [0, 1, 2] } }) 0 = 1 := by decide
theorem wit_PortsAndHandshakes_b : (spanPort (member .originator) 0).up = true ∧ (paired (member .originator) && 0 == (member .originator).pair.port) = true := by decide
theorem wit_PortsAndHandshakes_hello_bad : helloOk (member .originator) 0 { hello0 with identity := [] } = false := by decide +kernel
theorem wit_PortsAndHandshakes_hello_first : (spanPort (member .originator) 0).helloSent = none := by decide
theorem wit_PortsAndHandshakes_confirm_bad : ∀ a b, (spanPort (member .originator) 0).helloSent = some a → (spanPort (member .originator) 0).helloGot = some b →
    p384Verify b.identity (hellosDigest a b) [] = false := fun _ _ h => nomatch h
theorem wit_PortsAndHandshakes_rekey : (spanPort (member .originator) 0).auth = true ∧ (spanPort (member .originator) 0).helloSent = none ∧ (spanPort (member .originator) 3).auth = false := by decide

theorem wit_LossOfThePairLink_a : (member .originator).pair.linkUp = true ∧ (member .originator).pair.role = .originator ∧ (member .originator).pair.resync = none ∧ (member .originator).pair.swapping = none ∧
    (member .sole).pair.role = .sole ∧ State.reset.pair.linkUp = false := by decide
theorem wit_LossOfThePairLink_b : paired State.reset = false ∧ paired (member .originator) = true ∧ (member .originator).pair.hbPending = false ∧
    (withPair { (member .originator).pair with hbPending := true } (member .originator)).pair.hbPending = true ∧ State.reset.pair.startTimeout = 0 := by decide
theorem wit_LossOfThePairLink_c : ({ (member .originator).pair with dualAct := true } : Pair).dualAct = true ∧ State.reset.pair.dualAct = false := by decide
theorem wit_LossOfThePairLink_d : let s := withPair { (member .withdrawn).pair with startTimeout := 5, linkUp := false } (member .withdrawn)
    s.pair.startTimeout ≠ 0 ∧ paired s = true ∧ s.pair.role = .withdrawn ∧ s.pair.linkUp = false ∧ heartbeatLive { s with now := max s.now s.pair.startTimeout } = false := by decide
theorem wit_LossOfThePairLink_e : ({ (member .originator).pair with withdrawing := some 3 } : Pair).withdrawing = some 3 ∧ (member .originator).pair.unacked = [] ∧ (member .originator).pair.withdrawing = none := by decide

/-- The member with a flow and a command in it. -/
def placed : State := withFlow 0 flow0 (withDesc 9 { desc0 with admitAt := 4 } (withStrm 0 0 live0 (member .originator)))
theorem wit_PositionsAndCrossFeed_a : flowOf placed sid0 = some 0 ∧ mget placed.doc.flows 0 = some flow0 ∧ 1 < flow0.next ∧ flow0.next ≤ 2 ∧
    placedAt placed 0 1 = some (9, { desc0 with admitAt := 4 }) ∧ desc placed 9 = some { desc0 with admitAt := 4 } ∧ FromPartner hdr0 placed :=
  ⟨by decide, by decide, by decide, by decide, by decide, by decide, ⟨by decide, rfl, fun _ => rfl, fun _ => rfl, by decide⟩, rfl, rfl, rfl⟩
theorem wit_PositionsAndCrossFeed_b : mirroring placed = true ∧ desc0.positionAcked = false ∧ desc0.crossFedOut = false ∧ desc0.behind = none ∧ desc0.frame ≠ [] ∧ mirroring house = false := by decide
theorem wit_PositionsAndCrossFeed_c : let s := withStrm 0 0 live0 (member .originator)
    sid0.fn ≤ 1024 ∧ sid0.stream < 16 ∧ (strm s 0 0).active = true ∧ (strm s 0 0).enable = true ∧ (win s 0).gallery = some 0 ∧ 32 ≤ (zeros 32).length ∧ (zeros 31).length < 32 ∧
    (win s 0).gallery ≠ some 1 := by decide
/-- A stream of a window of module 9, for which this member holds the flow 1. -/
def distant : State := withFlow 1 { flow0 with sid := { sid0 with place := 9 }, remote := true, openers := [9] } (member .standby)
theorem wit_PositionsAndCrossFeed_distant : placement distant = 0 ∧ flowOf distant { sid0 with place := 9 } = some 1 ∧ flowOf (member .standby) { sid0 with place := 9 } = none ∧
    ({ sid0 with place := 9 } : StreamId).place ≠ placement distant ∧ sid0.place = placement distant := by decide

def delta0 (n : Nat) : Delta := { number := n, changes := [] }
theorem wit_Deltas_a : (member .sole).pair.role ≠ .standby ∧ (member .sole).pair.role ≠ .resync ∧ (member .standby).pair.role = .standby ∧ (delta0 0).number ≤ (member .standby).pair.lastDelta ∧
    (member .standby).pair.lastDelta < (delta0 1).number := by decide
theorem wit_Deltas_sends : Sends (member .standby) (member .standby).pair.port ∧ Sends placed placed.pair.port ∧ mirrors (member .standby) = false := by unfold Sends; decide
theorem wit_Deltas_swap : let s := withDesc 9 { desc0 with delta := some 4 } (withPair { (member .originator).pair with swapping := some 9, unacked := [delta0 4] } (member .originator))
    s.pair.swapping = some 9 ∧ desc s 9 = some { desc0 with delta := some 4 } ∧ 4 ∉ (s.pair.unacked.filter (fun x => decide (x.number > 4))).map (·.number) := by decide
theorem wit_Resync_a : (member .sole).pair.mismatch = false ∧ (member .sole).pair.resync = none ∧ isActiveMember (member .sole) 6 = true ∧ isActiveMember (member .sole) 8 = false := by decide
def resync0 (active reported ended : Bool) : Resync := { active := active, full := false, reported := reported, from_ := 0, results := [], left := 0, term := 7, seen := [], ended := ended }
theorem wit_Resync_b : ∀ a b c : Bool, (withPair { (member .sole).pair with resync := some (resync0 a b c) } (member .sole)).pair.resync = some (resync0 a b c) := by decide
theorem wit_Resync_c : (∀ a b c, CopyItem.meter 0 0 ≠ .begin a b c) ∧ (member .sole).pair.unacked = [] ∧ (member .resync).pair.waitingDeltas = [] ∧
    ∀ r, (member .sole).pair.resync = some r → r.ended = false := ⟨fun _ _ _ => nofun, by decide, by decide, fun _ h => nomatch h⟩

theorem wit_ForwardedCommands_a : homed (member .originator) 9 = none ∧ (homed (member .originator) 0).isSome = true ∧ fromLoan (member .originator) sid0 = false ∧
    flowOf placed sid0 = some 0 ∧ flowOf (member .originator) sid0 = none ∧ lowestFree (member .originator).doc.flows 65536 = some 0 := by decide +kernel
/-- The home's flow of a stream of module 5, which modules 5 and 9 have open; a command of it, and the flow without one. -/
def openedBy : State := let s := withFlow 0 { flow0 with sid := { sid0 with place := 5 }, remote := true, openers := [9, 0] } (withPort 0 port0 house)
  s
theorem wit_ForwardedCommands_open : let sid : StreamId := { sid0 with place := 5 }
    (homed openedBy 0).isSome = true ∧ fromLoan openedBy sid = false ∧ flowOf openedBy sid = some 0 ∧ mirrors openedBy = false ∧
    ((mget openedBy.doc.flows 0).map (fun fl => fl.openers.filter (· != 1))) = some (9 :: [0]) ∧ flowOf house sid = none ∧ docentFlows house < 65536 ∧
    lowestFree house.doc.flows 65536 = some 0 := by decide +kernel
def forwarded0 : Desc := { desc0 with forwardAt := some 4, forwarded := true }
def forwardedState : State := withFlow 0 flow0 (withDesc 9 forwarded0 (member .originator))
theorem wit_ForwardedCommands_b : forwardedAt forwardedState sid0 1 = some (9, forwarded0) ∧ desc forwardedState 9 = some forwarded0 ∧ forwardedAt placed sid0 1 = none ∧
    forwarded0.forwardAt = some 4 ∧ mget forwardedState.doc.flows forwarded0.flow = some flow0 ∧ forwardedState.pair.routeChangedAt < 4 ∧ (0 : Nat) ≠ Status.sequenceGap := by decide
theorem wit_ForwardedCommands_c : let s0 := joined house
    let s := withFlow 0 { flow0 with sid := { sid0 with gallery := 8 } } (withDesc 9 forwarded0 { s0 with pair := { s0.pair with routeChangedAt := 4 }, vit := { s0.vit with remote := [(8, { defaultTemplate with id := 8, home := 5, privileges := 16, reach := 65535 })] } })
    4 ≤ s.pair.routeChangedAt ∧ (homeOf s 8).map (outOfReach { s with now := max s.now (s.pair.routeChangedAt + 50000) }) = some false ∧ forwarded0.resp = none ∧
    (homeOf s 8).map (outOfReach { withPort 0 {} s with now := 50004 }) = some true := by decide +kernel
theorem wit_ForwardedCommands_d : ∀ d, desc placed 9 = some d → d.forwardAt = none := by
  intro d h
  have : some { desc0 with admitAt := 4 } = some d := h
  cases this; rfl

def copy0 : LoanCopy := { home := 5, applied := 3 }
def loaned : State := withPort 0 port0 (withGal 7 { gal7 with loanCopy := some copy0 } house)
def hdr7 : LinkHdr := { hdr0 with gallery := 7, src := 5 }
theorem forHere_loaned : ForHere hdr7 loaned := ⟨⟨by decide, rfl, fun _ => rfl, fun _ => rfl, by decide⟩, .inl rfl⟩
theorem wit_CopiesAndLoans_a : mirrors loaned = false ∧ gal loaned 7 = some { gal7 with loanCopy := some copy0 } ∧ (gal loaned 7).bind (·.loanCopy) = some copy0 ∧ (delta0 3).number ≤ copy0.applied ∧
    copy0.applied + 1 < (delta0 5).number ∧ (delta0 4).number = copy0.applied + 1 ∧ (delta0 4).changes = [] := by decide
theorem wit_CopiesAndLoans_b : gal house 7 = some gal7 ∧ gal7.loanCopy = none ∧ gal7.arriving = false ∧ sid0.fn ≠ 0xFFFF ∧ (some (rec0 1 3 []) : Option VRecord).isSome = true ∧
    (gal (withGal 7 { gal7 with arriving := true } house) 7).map (·.arriving) = some true := by decide
def lent : State := withPort 0 port0 (withGal 7 { gal7 with loans := [(5, { partner := 0xFFFF })] } house)
theorem wit_CopiesAndLoans_c : (gal lent 7).map (fun x => mhas x.loans 5) = some true ∧ creatingLoan lent 7 5 = none := by decide
theorem wit_CopiesAndLoans_d : let s := cmd 0x0E36 (fr 0x0E36 0 40 [(32, [7, 0, 0, 0, 5])]) [] lent
    creatingLoan s 7 5 = some 65535 ∧ (desc s 65535).isSome = true := by decide +kernel
theorem wit_CopiesAndLoans_e : desc placed 9 = some { desc0 with admitAt := 4 } ∧ desc0.loanWait = [] ∧ ({ desc0 with loanWait := [5] } : Desc).loanWait ≠ [] ∧ (gal house 7).bind (·.loanCopy) = none := by decide

/-- The base point of P-384, which is the public key of the private key 1; a signature under it with the nonce 1 is (x mod n, z + x mod n). -/
def p384g : Bytes := ecEncode p384 (p384.gx, p384.gy)
def signedByOne (msg : Bytes) : Bytes := beBytes 48 (p384.gx % p384.n) ++ beBytes 48 ((ofBE (sha384 msg) + p384.gx) % p384.n)
/-- The HELLO of module 5, certified by a span root whose private key is 1. -/
def helloGood : Hello :=
  { moduleId := 5, serial := 2, identity := p384g, certificate := signedByOne (certifiedBytes { moduleId := 5, serial := 2, identity := p384g, certificate := [], ephemeral := p384g, pairDigest := zeros 48 })
    ephemeral := p384g, pairDigest := zeros 48 }
def rooted : State :=
  withPort 0 { up := true } { house with img := { house.img with set := { house.img.set with span := some { rootAlg := 1, root := p384g, modules := [(0, 1), (5, 2)], links := [({ module := 0, port := 0 }, { module := 5, port := 0 })] } } } }
theorem wit_PortsAndHandshakes_hello_good : helloOk rooted 0 helloGood = true := by decide +kernel
theorem wit_PortsAndHandshakes_confirm_good :
    p384Verify helloGood.identity (hellosDigest hello0 helloGood) (signedByOne (hellosDigest hello0 helloGood)) = true := by decide +kernel
theorem wit_PortsAndHandshakes_confirm_state : let s := withPort 0 { up := true, helloSent := some hello0, helloGot := some hello0, confirmSent := true } house
    (spanPort s 0).helloSent = some hello0 ∧ (spanPort s 0).helloGot = some hello0 ∧ (spanPort s 0).confirmSent = true ∧ (paired s && 0 == s.pair.port) = false := by decide

/-! ### Errors, tamper, life cycle. -/

theorem wit_ErrorsByScope_a : isCommandCode 0x06 = false ∧ isCommandCode 0x01 = true ∧ (withMode .halt house).pow.mode = .halt ∧ house.pow.mode = .service ∧ (127 : Nat) < 128 ∧ (wing house (127 / 8)).quarantined = false ∧
    house.err.active < 2 ∧ house.err.byUnit = [] ∧ 2 ≤ ({ house with err := { house.err with active := 2 } } : State).err.active := by decide
theorem wit_ErrorsByScope_b : (wing house 15).retired = false ∧ (wing house 15).quarantined = false ∧ 8 < wingsAvailable house ∧
    wingsAvailable (([0, 1, 2, 3, 4, 5, 6, 7] : List Nat).foldl (fun s w => withWing w { quarantined := true } s) house) ≤ 8 ∧ (wing (withWing 15 { retired := true } house) 15).retired = true ∧
    (wing (withWing 15 { quarantined := true } house) 15).quarantined = true := by decide +kernel
theorem wit_ErrorsByScope_watchdog : (cellRegs (holding answered) 0).held = some 65535 ∧ desc (holding answered) 65535 = some answered ∧ withheld answered.function = false ∧
    answered.copies.find? (fun c => c.cell == 0) = some { cell := 0, secondary := false, complete := false, takenAt := 0 } ∧ (cellRegs house 0).held = none ∧ withheld 0x0E10 = true := by decide +kernel
theorem wit_ErrorsByScope_module : isModuleCode house 0x30 = true ∧ paired house = false ∧ house.err.active < 3 ∧ paired (member .originator) = true ∧ (member .originator).pair.role ≠ .withdrawn ∧
    (member .originator).pair.withdrawing = none ∧ isModuleCode house 0x20 = false ∧ (member .originator).pow.mode = .service := by decide
theorem wit_ErrorsByScope_halt : ({ house with err := { house.err with halting := some 9 } } : State).err.halting = some 9 ∧ house.err.halting = none ∧ isFatalCode 0x21 = true ∧ isSecurity 0x21 = true ∧
    isFatalCode 0x43 = true ∧ isSecurity 0x43 = false ∧ house.pow.mode ≠ .vault ∧ house.pow.mode ≠ .tampered ∧ isFatalCode 1 = false := by decide
theorem wit_ErrorsByScope_lines : house.err.lines = [] ∧ gal house 7 = some gal7 ∧ (member .originator).err.lines = [] := by decide
theorem wit_CommandErrorEscalates : let s := { house with err := { house.err with byUnit := [(175, 0)] } }
    isCommandCode 0x24 = true ∧ paired s = false ∧ s.pow.mode ≠ .vault ∧ s.pow.mode ≠ .tampered ∧ s.pow.mode ≠ .halt ∧ (175 : Nat) < 176 ∧ (wing s (unitWing 175)).quarantined = false ∧ s.err.active < 2 ∧
    (175, 0) ∈ s.err.byUnit ∧ s.now < 0 + 1000000000 := by decide
/-- In PRODUCTION, where every cause is armed. -/
def production : State := { house with reg := { house.reg with state := 4 } }
theorem wit_TamperCauses_a : aoPowered production = true ∧ bit production.ao.live 2 = false ∧ bit (armed production) 2 = true ∧ production.ao.responded = false ∧ production.pow.main = true ∧
    bit (armed house) 31 = false ∧ bit house.ao.live 31 = false := by decide
theorem wit_TamperCauses_b : let s := { production with ao := { production.ao with responded := true, collecting := some (3, 2) } }
    aoPowered s = true ∧ bit s.ao.live 3 = false ∧ bit (armed s) 3 = true ∧ s.ao.responded = true ∧ s.ao.collecting = some (3, 2) := by decide
theorem wit_TamperCauses_c : bit ({ house with ao := { house.ao with live := 4 } } : State).ao.live 2 = true ∧ mainWatched house = true ∧ mainWatched pwronHeld = false ∧ (-100 : Int) ≤ -100 ∧ (250 : Int) ≤ 250 ∧
    (250 : Int) < 251 ∧ house.now < house.ao.since + 3000000000 ∧ house.ao.since + 3000000000 ≤ ({ house with now := 3000000000 } : State).now ∧ bit (armed production) 10 = true ∧ (-101 : Int) < -100 ∧ 4 ≤ ({ house with ao := { house.ao with driveCount := 4 } } : State).ao.driveCount ∧ house.ao.driveCount < 4 := by decide
theorem wit_TamperCauses_d : ({ house with ao := { house.ao with collecting := some (3, 2) } } : State).ao.collecting = some (3, 2) ∧ house.ao.collecting = none ∧ aoPowered (supplied false false) = false := by decide
theorem wit_InputsAndLifeCycle_a : aoPowered (supplied false false) = false ∧ aoPowered house = true ∧ ∀ i : Fin 4, (0 : BitVec 4).getLsbD i.val ≠ (inputOf house i.val).level → (inputOf house i.val).run + 1 < 4 := by decide
theorem wit_InputsAndLifeCycle_b : let s := { house with ao := { house.ao with switches := [(0, { since := some 3 }), (1, { since := some 4 })] } }
    (∀ b : Bool, (mgetD s.ao.switches (b2n b) {}).since.isSome = true) ∧ s.ao.lockout = false ∧ (mgetD house.ao.switches 0 {}).since = none := by decide
theorem wit_InputsAndLifeCycle_c : let s := { house with ao := { house.ao with lockout := true, bothOff := some 3 } }
    s.ao.lockout = true ∧ s.ao.bothOff = some 3 ∧ house.ao.lockout = false := by decide
def burn0 : Burn := { target := 4, token := 0, ticket := some 65535, bus := 0, at_ := 3 }
theorem wit_InputsAndLifeCycle_d : ({ cmd 0x0E40 (zeros 72) [] house with reg := { house.reg with burn := some burn0 } } : State).reg.burn = some burn0 ∧ burn0.ticket = some 65535 ∧
    (desc (cmd 0x0E40 (zeros 72) [] house) 65535).isSome = true ∧ house.reg.burn = none := by decide
theorem wit_InputsAndLifeCycle_e : busReaches house 0 = true ∧ mainUp house = true ∧ transitionRefusal house 9 0 (zeros 32) false = some 2 ∧ mainUp (withMode .vault house) = false := by decide
/-- A token whose digest is the fused one passes. -/
theorem wit_InputsAndLifeCycle_token (token : Bytes) (h : sha256 token = beBytes 32 (Config.tokenDigest 3).toNat) :
    transitionRefusal { house with ao := { house.ao with inputs := [(2, { level := true })] } } 4 0 token false = none := by
  have e : tokenClass house.reg.state 4 0 house.fuses.codeE = some 3 := rfl
  simp only [transitionRefusal, e, h, ne_eq, not_true, if_false]
  rfl
theorem wit_InputsAndLifeCycle_f : let s := { house with reg := { house.reg with state := 2 }, rng := { house.rng with drbgs := [(4128, { key := [], v := [] })] } }
    busReaches s 0 = true ∧ debugState s = true ∧ instServes s 4128 = true ∧ mainUp s = true ∧ debugState house = false ∧ s.reg.challenge = none := by decide
theorem wit_InputsAndLifeCycle_g : (withMode .diagnostic house).pow.mode = .diagnostic ∧ house.reg.fullRunning = false ∧ house.pow.mode ≠ .diagnostic ∧
    ({ house.reg with fullRun := 255, fullRunning := true, challenge := some [] } : Registrar).fullRun ≠ 0 ∧ (7 : Nat) < 8 ∧ (16777215 : Nat) < 16777216 ∧ house.reg.fullRun = 0 := by decide

/-! ### Power, modes and the wings' states. -/

def switching0 (l : List Nat) : State := { house with pow := { house.pow with switchTo := some 4, switching := l } }
theorem wit_ModesAndSteps_a : house.pow.switchTo = none ∧ (switching0 [15, 0]).pow.switchTo = some 4 ∧ (switching0 [15, 0]).pow.avs = none ∧ (switching0 [15, 0]).pow.switching = [15, 0] ∧ (0 : Fin 16) ≠ 15 ∧
    wingTickets (switching0 [15, 0]) 15 = [] ∧ (switching0 [15]).pow.switchTicket = none ∧ house.pow.quiesce = none := by decide
def quiesce0 (t : Option Nat) (u : Bool) : Quiesce := { ticket := t, drainAt := 5, expired := false, complete := false, forUpdate := u }
def quiescing (t : Option Nat) (u : Bool) : State := { cmd 0x0E10 (zeros 40) [] house with pow := { (withMode .quiesce house).pow with quiesce := some (quiesce0 t u) } }
theorem wit_ModesAndSteps_b : (quiescing (some 65535) false).pow.quiesce = some (quiesce0 (some 65535) false) ∧ quiesceDrained (quiescing (some 65535) false) (quiesce0 (some 65535) false) = true ∧
    (desc (quiescing (some 65535) false) 65535).isSome = true ∧ quiesceDrained (quiescing none true) (quiesce0 none true) = false ∧
    quiesceDrained { house with pow := { house.pow with quiesce := some (quiesce0 none true) } } (quiesce0 none true) = true := by decide
theorem wit_ModesAndSteps_c : house.pow.main = true ∧ house.pow.step < stepFor (tcMilli 201 0) ∧ stepFor (tcMilli 170 0) ≤ house.pow.step ∧ house.pow.coolSince = none ∧ house.pow.avs = none := by decide
theorem wit_ModesAndSteps_d : let s := { house with pow := { house.pow with step := 1, coolSince := some 3 } }
    s.pow.coolSince = some 3 ∧ neededMv { s with now := max s.now (3 + 1000000000), pow := { s.pow with step := s.pow.step - 1 } } ≤ s.pow.vcoreMv ∧
    ({ s with pow := { s.pow with vcoreMv := 1 } } : State).pow.vcoreMv < neededMv { s with now := max s.now (3 + 1000000000), pow := { s.pow with step := s.pow.step - 1, vcoreMv := 1 } } := by decide
theorem wit_WingStates_a : State.reset.pow.mode ≠ .service ∧ house.pow.mode = .service ∧ house.pow.service ≠ 2 ∧ ({ house.pow with service := 2 } : Power).service = 2 ∧ readyCount house = 0 := by decide
/-- One command is ready; wings 1 to 15 are retired and wing 0 sleeps. -/
def asleep : State :=
  withWing 0 { power := .nap } ((List.range 15).foldl (fun s w => withWing (w + 1) { retired := true } s) (withDesc 9 desc0 (withFlow 0 flow0 house)))
theorem wit_WingStates_b : 0 < readyCount asleep ∧ readyCount asleep ≤ 64 ∧ asleep.doc.waiting.any (fun c => wingTakes asleep (c.cell / 8)) = false ∧ (∀ k : Fin 16, (wing asleep k).waking = none) ∧
    sleepers asleep = 0 :: [] := by decide +kernel
theorem wit_WingStates_c : (wing (withWing 15 { power := .nap, waking := some .nap } house) 15).waking.isSome = true ∧ (wing house 15).waking = none := by decide

/-! ### The Curator and the counters. -/

theorem wit_CuratorCore_a : house.ao.vaux = true ∧ house.cur.restarting = none ∧ ({ house.cur with restarting := some 5 } : Curator).restarting = some 5 ∧ house.cur.buffered = [] ∧ (pcie house 0).busMaster = false ∧
    (pcie { house with fab := { house.fab with fns := [(0, { busMaster := true })] } } 0).busMaster = true ∧
    curatorRuns (supplied false true) = false ∧ curatorRuns house = true ∧ sensorKnown 1 = true ∧ mainUp house = true ∧ mainUp (withMode .vault house) = false ∧ sensorInVault 1 = false := by decide
theorem wit_CuratorCore_b : house.cur.sinceCheckpoint < 4096 ∧ 4096 ≤ ({ house.cur with sinceCheckpoint := 4096 } : Curator).sinceCheckpoint ∧ house.pow.main = true ∧ hasRight (windowRow house 0) 8 rightWR = true ∧
    house.cur.submit = false ∧ 1 ≤ (4096 : Fin 8192).val ∧ (4096 : Fin 8192).val ≤ 4096 ∧ 4096 < (4097 : Fin 8192).val ∧ ({ house.cur with submit := true } : Curator).submit = true ∧
    (pcie msixOn 1).busMaster = true ∧ (pcie house 0).busMaster = false := by decide
theorem wit_ManagementMessages : busReaches house 0 = true ∧ busReaches house 3 = true ∧ readoutOnly house = false ∧ readoutOnly { house with reg := { house.reg with state := 7 } } = true ∧
    hasRight (fixedRow house curatorRow) 6 rightRD = true ∧ hasRight (fixedRow { house with img := { house.img with set := { house.img.set with fixedRows := [] } } } curatorRow) 6 rightRD = false ∧ busReaches house 2 = false := by decide
def update0 (p : UpdatePhase) : Update := { phase := p, lastRequest := 3, passed := [1], touched := [1], verified := [1] }
def updating (p : UpdatePhase) : State := { withMode .update house with cur := { house.cur with update := some (update0 p) } }
theorem wit_FirmwareUpdate_a : house.cur.update = none ∧ house.pow.mode = .service ∧ house.pow.pending = false ∧ house.pow.ceremony = false ∧ (updating .open_).cur.update.isSome = true ∧
    updateOpen (updating .open_) = some (update0 .open_) ∧ (update0 .open_).passed.contains 1 = true ∧ (update0 .open_).verified ≠ [] ∧ (update0 .open_).passed.all (fun c => (update0 .open_).verified.contains c) = true ∧
    pullingComponent (updating (.pulling 1)) = some 1 ∧ pullingComponent (updating (.pulling 2)) = some 2 ∧ 2 ^ 20 - 8 + (zeros 8).length ≤ 2 ^ 20 := by decide
theorem wit_FirmwareUpdate_b : (updating .open_).pow.mode = .update ∧ ({ update0 .open_ with verified := [] } : Update).verified = [] ∧ 0 < ({ house.cur with arcToBurn := 1 } : Curator).arcToBurn ∧ house.cur.arcToBurn = 0 ∧
    (withMode .diagnostic house).pow.mode = .diagnostic := by decide
theorem wit_Attestation : busReaches house 0 = true ∧ house.cur.spdm ≠ 1 ∧ (∀ n, ({ house.cur with spdm := n } : Curator).spdm = n) ∧ canSign house = true ∧ canSign { house with pow := { house.pow with main := false } } = false ∧
    measurementBlocks house 0 = some (0, []) ∧ measurementBlocks house 7 = none ∧ (1 : Nat) ≠ 0 := ⟨by decide, by decide, fun _ => rfl, by decide, by decide, rfl, rfl, by decide⟩
def sampling : State := { house with cnt := { house.cnt with sampEnable := true, sampPeriod := 1, sampWings := 0xFFFF } }
theorem wit_Counters_a : hasRight (windowRow house 0) 8 rightWR = true ∧ sampling.cnt.sampEnable = true ∧ sampling.cnt.sampPeriod ≠ 0 ∧ bit sampling.cnt.sampWings 15 = true ∧ cellClocked sampling 15 = true ∧
    sampling.cnt.sampCount < 512 ∧ 512 ≤ ({ sampling.cnt with sampCount := 512 } : Counters).sampCount ∧ sampling.cnt.sampRing = false ∧ house.cnt.sampEnable = false := by decide
theorem wit_Counters_b : marksMinutes house = true ∧ marksMinutes State.reset = false ∧
    ({ house with vit := { house.vit with meterToArchive := [{ gallery := 7, number := 1, bytes := [] }] } } : State).vit.meterToArchive = [{ gallery := 7, number := 1, bytes := [] }] ∧
    house.img.archive.length < house.img.archiveSize ∧ house.vit.meterWaiting = [] ∧ house.vit.meterToArchive = [] := by decide
theorem wit_Counters_c : (mget (settleCounters { house with cnt := { house.cnt with wing := [(0, { live := 5 })] } }).cnt.wing 0).isSome = true := by decide +kernel

/-! ### The functions' further conditions: a draw that is not refused, and the cases their answers distinguish. -/

/-- The function that cell 0 holds, run on the state with its budgets stepped: what is true of it there. -/
def facts (code : Nat) (run : Ctx → State → FnResult) (s : State) (p : Ctx → State → FnResult → Bool) : Bool :=
  match heldCommand 0 code s with
  | none => false
  | some c => match stepSlots c.g (owedSteps c) s with
    | none => false
    | some (steps, u) =>
      let v := updDesc c.t (fun d => { d with stepped := d.stepped ++ owedSteps c, changes := d.changes ++ steps }) u
      p c v (run c v)
/-- It draws, and no request of it is refused. -/
def unstarved (code : Nat) (run : Ctx → State → FnResult) (s : State) : Bool := facts code run s (fun c _ x => drawsNow c.d && x.2.2.rng.starved.isNone)

/-- The instance serves `k` more requests of a command: none is refused, none queues a reseed. -/
def fresh (n k : Nat) (s : State) : Bool :=
  s.rng.starved.isNone && s.rng.startupDone && s.rng.queue.isEmpty && (match mget s.rng.drbgs n with
    | some x => decide (x.requests + k < min s.rng.interval (2 ^ 32))
    | none => false)
theorem fresh_starved {n k : Nat} {s : State} (h : fresh n k s = true) : s.rng.starved = none := by
  simp only [fresh, Bool.and_eq_true, Option.isNone_iff_eq_none] at h; exact h.1.1.1
theorem fresh_le {n k m : Nat} {s : State} (hk : m ≤ k) (h : fresh n k s = true) : fresh n m s = true := by
  unfold fresh at h ⊢
  split at h <;> simp_all; omega
theorem drawBytes_fresh {n k len : Nat} {s : State} (h : fresh n (k + 1) s = true) : fresh n k (drawBytes n len s).2 = true := by
  unfold fresh at h
  split at h
  · rename_i x hx
    simp only [Bool.and_eq_true, Option.isNone_iff_eq_none, List.isEmpty_iff, decide_eq_true_eq] at h
    obtain ⟨⟨⟨h1, h2⟩, h3⟩, h4⟩ := h
    have hr : reseedFirst n s = s := by simp [reseedFirst, nextDraw, h3]
    have hl : ¬(2 ^ 32 ≤ x.requests) := by omega
    have hi : ¬(s.rng.interval ≤ x.requests + 1) := by omega
    simp only [drawBytes, hr, hx, ge_iff_le, hl, decide_false, h2, Bool.not_true, Bool.or_false, hi, if_false, Bool.false_eq_true]
    simp only [fresh, h1, h3, Option.isNone_none, List.isEmpty_nil, Bool.and_true, Bool.true_and, mget_mset_same]
    simp; omega
  · simp at h
theorem drawPin_fresh (n d : Nat) (avoid : Bool) (m : Nat) : ∀ (fuel : Nat) (s : State), fresh n (fuel + m) s = true → fresh n m (drawPin n d avoid fuel s).2 = true
  | 0, s, h => by simpa [drawPin] using h
  | fuel + 1, s, h => by
    have h' := drawBytes_fresh (len := 64) (by simpa [Nat.add_right_comm] using h : fresh n (fuel + m + 1) s = true)
    simp only [drawPin]
    split
    · exact drawPin_fresh n d avoid m fuel _ h'
    · exact fresh_le (Nat.le_add_left ..) h'
theorem pinGenerate_unstarved (c : Ctx) (s : State) (h : fresh (drawInstance c) 257 s = true) : (runPinGenerate c s).2.2.rng.starved = none := by
  have h' := drawPin_fresh (drawInstance c) (byteAt c.f 50) (fnBit0 c.f) 1 256 s h
  simp only [runPinGenerate, plain]
  split
  · exact fresh_starved h'
  · exact fresh_starved (drawBytes_fresh (k := 0) h')
theorem drawnEcdsa_fresh (c : Ctx) (d : Domain) (x : Nat) (digest : Bytes) (m : Nat) : ∀ (fuel : Nat) (s : State), fresh (drawInstance c) (fuel + m) s = true →
    fresh (drawInstance c) m (drawnEcdsa c d x digest fuel s).2 = true
  | 0, s, h => by simpa [drawnEcdsa] using h
  | fuel + 1, s, h => by
    have h' := drawBytes_fresh (len := ecScalarLen d.curve + 8) (by simpa [Nat.add_right_comm] using h : fresh (drawInstance c) (fuel + m + 1) s = true)
    simp only [drawnEcdsa, drawScalar]
    split
    · exact fresh_le (Nat.le_add_left ..) h'
    · exact drawnEcdsa_fresh c d x digest m fuel _ h'
theorem ecdsaSign_unstarved (c : Ctx) (s : State) (hk : (c.key 0).keyType % 256 ≠ 255) (h : fresh (drawInstance c) 64 s = true) : (runEcdsaSign c s).2.2.rng.starved = none := by
  simp only [runEcdsaSign, useKeyDomain, hk, if_false, plain]
  split
  · exact fresh_starved h
  · cases fnBit0 c.f <;> simp only [if_true, if_false, Bool.false_eq_true]
    · split <;> exact fresh_starved (drawnEcdsa_fresh c _ _ _ 0 64 s h)
    · split <;> exact fresh_starved h
theorem ephemeral_unstarved (c : Ctx) (s : State) (hk : leAt c.f 40 4 % 256 ≠ 255) (h : fresh (drawInstance c) 2 s = true) : (runEphemeral c s).2.2.rng.starved = none := by
  simp only [runEphemeral, useKeyDomain, hk, if_false, plain, drawScalar, outputDrawn, drawPad]
  have h' := drawBytes_fresh (len := ecScalarLen (domainAt c.gal (leAt c.f 40 4)).curve + 8) h
  split
  · split
    · exact fresh_starved h'
    · exact fresh_starved (drawBytes_fresh h')
  · exact fresh_starved h'

theorem wit_PinFunctionsAnswer_draws :
    facts 0x0104 runPinGenerate (cmd 0x0104 (fr 0x0104 0 96 [(48, [1, 0, 12, 4]), (56, pan0), (72, table0)]) [tdesKey, tdesKey] house) (fun c v _ => drawsNow c.d && fresh (drawInstance c) 257 v) = true := by decide +kernel
theorem wit_PinFunctionsAnswer_cases :
    facts 0x0103 runPinVerify (cmd 0x0103 (fr 0x0103 0 136 [(48, [2, 0, 4, 9]), (56, pan0)]) [tdesKey, tdesKey] house) (fun c _ _ => !fnBit0 c.f) = true ∧
    facts 0x0103 runPinVerify (cmd 0x0103 (fr 0x0103 1 136 [(48, [1, 0, 12, 0]), (56, pan0), (88, table0), (128, [5, 0, 0, 0, 31])]) [tdesKey, tdesKey] house) (fun c _ _ => fnBit0 c.f && (tryRecord c).isSome) = true := by decide +kernel
theorem wit_PaymentFunctionsAnswer_cases :
    facts 0x0405 runOriginate (cmd 0x0405 (fr 0x0405 0 88 [(32, [0, 0, 0, 0, 0, 0, 3]), (48, [1]), (52, [16])]) [some { noHeldKey with alg := 65, dukpt := true, vitrine := true, slot := 3, material := zeros 16 }] house)
      (fun c v _ => match (gal v c.g).bind (fun g => recordAt g (c.key 0).slot) with
        | some r => (nextCount ((c.key 0).alg == 65) r.counter).isSome
        | none => false) = true := by decide +kernel
theorem wit_KeyBlockAndDataFunctionsAnswer_draws :
    unstarved 0x0602 runExport (cmd 0x0602 (fr 0x0602 0 48 []) [aesKey, aesKey] house) = true ∧
    unstarved 0x0701 runDataEncrypt (cmd 0x0701 (fr 0x0701 1 80 [(40, [1, 2, 0, 0, 15])]) [aesKey] house) = true := by decide +kernel
theorem wit_CipherAndHashFunctionsAnswer_draws :
    unstarved 0x0806 runOpenEscrowed (cmd 0x0806 (fr 0x0806 0 272 [(40, [1]), (48, [1]), (52, [128]), (56, [12])]) [aesKey] house) = true := by decide +kernel
theorem wit_CipherAndHashFunctionsAnswer_cases :
    byteAt (fr 0x0801 0 80 [(40, [0, 0, 0, 0, 16])]) 40 = 0 ∧ asksNonce (fr 0x0803 1 96 [(40, [16, 0, 0, 0, 16])]) = true ∧ asksNonce (fr 0x0803 0 96 [(40, [12, 0, 0, 0, 16])]) = false ∧
    isFirst (fr 0x0806 0 272 [(48, [2])]) = false ∧ isLast (fr 0x0806 0 272 [(48, [1])]) = false ∧
    facts 0x0804 runAeadOpen (cmd 0x0804 (fr 0x0804 0 96 [(40, [16, 0, 0, 0, 16])]) [aesKey] house)
      (fun c _ _ => (gcmOpen (c.key 0).cipher (slice c.f 48 12) (aeadAad c.f) (aeadData c.f)).2.take (byteAt c.f 40) != slice c.f 64 (byteAt c.f 40)) = true := by decide +kernel

/-- A curve of 13 points over the field of 11 elements, y² = x³ + x + 6 with base point (2, 7): no curve that a module would load passes with so small a group, but its record in slot 8 says that it did. -/
def tiny : Curve := { p := 11, a := 1, b := 6, gx := 2, gy := 7, n := 13 }
def tinyRecord : VRecord :=
  { plainRecord 6 0 8 (([tiny.p, tiny.a, tiny.b, tiny.gx, tiny.gy, tiny.n] : List Nat).flatMap (fun x => beBytes 1 x)) with keyId := leBytes 2 4 ++ leBytes 2 1 ++ [0, 0] }
def tinyGal : Gallery := { gal0 with records := gal0.records ++ [(8, tinyRecord)] }
def tinyCmd (code : Nat) (f : Bytes) (keys : List (Option HeldKey)) : State := updDesc 65535 (fun d => { d with seen := tinyGal.records }) (cmd code f keys (withGal 0 tinyGal house))

theorem wit_SignatureFunctionsAnswer_private : let s := cmd 0x0A01 (fr 0x0A01 1 64 [(40, [1]), (48, [8])]) [pairOf 1 (zeros 32)] house
    facts 0x0A01 runEcdsaSign s (fun c _ _ => !scalarOk (domainAt c.gal (c.key 0).keyType) (ecPrivate (domainAt c.gal (c.key 0).keyType) (c.key 0).material)) = true := by decide +kernel
theorem wit_SignatureFunctionsAnswer_deterministic : let s := tinyCmd 0x0A01 (fr 0x0A01 1 64 [(40, [1]), (48, [8])]) [pairOf 0x8FF [5]]
    runs 0 0x0A01 checkSign s = true ∧ facts 0x0A01 runEcdsaSign s (fun c _ _ =>
      let d := domainAt c.gal (c.key 0).keyType
      let p := ecPrivate d (c.key 0).material
      let f := signFields c.f
      scalarOk d p && fnBit0 c.f && (ecdsaDeterministic d.curve p (sigDigest f) (hashAt f.hash).hmac (hashAt f.hash).len).isSome) = true := by decide +kernel
theorem wit_SignatureFunctionsAnswer_drawn : let s := cmd 0x0A01 (fr 0x0A01 0 64 [(40, [1]), (48, [8])]) [pairOf 1 (zeros 31 ++ [5])] house
    runs 0 0x0A01 checkSign s = true ∧ facts 0x0A01 runEcdsaSign s (fun c v _ =>
      scalarOk (domainAt c.gal (c.key 0).keyType) (ecPrivate (domainAt c.gal (c.key 0).keyType) (c.key 0).material) && !fnBit0 c.f && drawsNow c.d && (c.key 0).keyType % 256 != 255 && fresh (drawInstance c) 64 v) = true := by decide +kernel
theorem wit_SignatureFunctionsAnswer_rsa :
    (let s := cmd 0x0A05 (fr 0x0A05 0 64 [(40, [1, 0, 2, 32]), (48, [8])]) [pairOf 0x10 (zeros 256)] house
     unstarved 0x0A05 runRsaSign s = true ∧ facts 0x0A05 runRsaSign s (fun c _ _ => (signFields c.f).scheme == 2 && (signFields c.f).salt != 0) = true) ∧
    (let s := cmd 0x0A05 (fr 0x0A05 0 64 [(40, [1, 0, 2, 0]), (48, [8])]) [pairOf 0x10 (zeros 256)] house
     runs 0 0x0A05 checkSign s = true ∧ facts 0x0A05 runRsaSign s (fun c _ _ => (signFields c.f).scheme == 2 && (signFields c.f).salt == 0) = true) ∧
    (let s := cmd 0x0A05 (fr 0x0A05 0 64 [(40, [1, 0, 1, 0]), (48, [8])]) [pairOf 0x10 (zeros 256)] house
     runs 0 0x0A05 checkSign s = true ∧ facts 0x0A05 runRsaSign s (fun c _ _ => (signFields c.f).scheme == 1) = true) := by decide +kernel
theorem wit_SignatureFunctionsAnswer_mldsa : let s := cmd 0x0A07 (fr 0x0A07 0 64 [(48, [8])]) [pairOf 0x20 (zeros 32)] house
    runs 0 0x0A07 checkSign s = true ∧ unstarved 0x0A07 runMldsaSign s = true ∧ fnBit0 (fr 0x0A07 0 64 [(48, [8])]) = false ∧ fnBit0 (fr 0x0A07 1 64 [(48, [8])]) = true := by decide +kernel
theorem wit_AgreementFunctionsAnswer_draws :
    facts 0x0B02 runEphemeral (cmd 0x0B02 (fr 0x0B02 0 144 [(40, [1]), (44, [1, 0, 65]), (56, tmpl0), (72, p256g)]) [aesKey] house) (fun c v _ => drawsNow c.d && leAt c.f 40 4 % 256 != 255 && fresh (drawInstance c) 2 v) = true ∧
    unstarved 0x0B03 runEncaps (cmd 0x0B03 (fr 0x0B03 0 872 [(40, [0x30]), (44, [1, 0, 0x20, 3]), (56, tmpl0)]) [aesKey] house) = true ∧
    unstarved 0x0C01 runRandom (cmd 0x0C01 (fr 0x0C01 0 40 [(32, [0, 16])]) [] house) = true := by decide +kernel
theorem wit_KeyBlockAndDataFunctionsAnswer_rkl_cases : let s := cmd 0x0603 (fr 0x0603 0 224 [(56, ksnT), (72, [3, 0, 65, 0, 64]), (80, p256g)]) [tdesKey, pairOf 1 (zeros 32), pairOf 2 (zeros 48)] house
    facts 0x0603 runRkl s (fun c _ _ => !verifies c.gal (c.key 1).keyType (c.key 1).material (authoritySig c.gal (c.key 1).keyType (slice c.f 72 1 ++ deviceKey c.f)) (deviceSig c.f)) = true := by decide +kernel
theorem wit_AgreementFunctionsAnswer_ecdh :
    facts 0x0B01 runEcdh (cmd 0x0B01 (fr 0x0B01 0 144 [(48, [1, 0, 65]), (56, tmpl0), (72, p256g)]) [pairOf 1 (zeros 32), aesKey] house)
      (fun c _ _ => !scalarOk (domainAt c.gal (c.key 0).keyType) (ecPrivate (domainAt c.gal (c.key 0).keyType) (c.key 0).material)) = true ∧
    (let s := tinyCmd 0x0B01 (fr 0x0B01 0 80 [(48, [1, 0, 3]), (56, tmpl0), (72, [4, 2, 7])]) [pairOf 0x8FF [5], aesKey]
     runs 0 0x0B01 checkAgree s = true ∧ facts 0x0B01 runEcdh s (fun c _ _ =>
       let d := domainAt c.gal (c.key 0).keyType
       scalarOk d (ecPrivate d (c.key 0).material) && (sharedSecret d (ecPrivate d (c.key 0).material) (agreePub c.f 50)).isSome) = true) ∧
    sharedSecret { curve := tiny, cofactor := 13 } 5 [4, 2, 7] = none := by decide +kernel
theorem wit_AgreementFunctionsAnswer_curves :
    facts 0x0B10 runCurveLoad (cmd 0x0B10 (fr 0x0B10 0 248 [(32, [7]), (36, [192, 0, 1])]) [] house) (fun c v _ => match gal v c.g with
      | some g => slotQuotaOk g 7 (plainRecord 6 c.g 7 ((List.range 6).flatMap (loadedValue c.f)))
      | none => false) = true ∧
    facts 0x0B10 runCurveLoad (cmd 0x0B10 (fr 0x0B10 0 248 [(32, [7]), (36, [192, 0, 1])]) [] (withGal 0 { gal0 with desc := { gal0.desc with slots := 0 } } house)) (fun c v _ => match gal v c.g with
      | some g => !slotQuotaOk g 7 (plainRecord 6 c.g 7 ((List.range 6).flatMap (loadedValue c.f)))
      | none => false) = true ∧
    facts 0x0B11 runCurveQuery (cmd 0x0B11 (fr 0x0B11 0 40 [(32, [6])]) [] house) (fun c _ _ => (queriedCurve c).isSome) = true := by decide +kernel
theorem wit_KeyFunctionsAnswer_cases :
    facts 0x0D01 runAccession (cmd 0x0D01 (fr 0x0D01 0 208 [(32, [168])]) [] house) (fun c v _ => match gal v c.g with
      | some g => (headChecks [1, 2, 3, 4, 5, 6, 7] false v (accMsg c.f) c.g (messageView c (accMsg c.f) g)).isSome
      | none => false) = true ∧
    facts 0x0D02 runDeaccession (cmd 0x0D02 (fr 0x0D02 0 40 [(32, [3])]) [] house) (fun c v _ => ((gal v c.g).bind (fun g => recordAt g 3)).isSome) = true ∧
    facts 0x0D03 runKeyQuery (cmd 0x0D03 (fr 0x0D03 0 40 [(32, [3])]) [] house) (fun c _ _ => (recordAt c.gal 3).isSome) = true := by decide +kernel
/-- A change that selects nothing; a VF's row, where the ID that the spec leaves open names VF 3. -/
theorem wit_GalleryFunctionsAnswer_cases :
    runs 0 0x0E05 setRefusal (cmd 0x0E05 (fr 0x0E05 0 104 [(40, [7]), (48, [1])]) [] house) = true ∧ gal7.desc.id = (descriptorOf (slice (fr 0x0E05 0 104 [(40, [7]), (48, [1])]) 40 64)).id ∧
    runs 0 0x0E04 (removeRefusal true) (cmd 0x0E04 (fr 0x0E04 0 40 [(32, [7])]) [] (withWin 1 {} house)) = false ∧ vfOf 7 = none ∧
    facts 0x0E07 queryGallery (cmd 0x0E07 (fr 0x0E07 0 40 [(32, [7])]) [] house) (fun c v _ => (homed v (leAt c.f 32 4)).isSome) = true := by decide +kernel
theorem wit_GalleryFunctionsAnswer_vf (g : Nat) (hg : ¬ g < 2 ^ 20) (h : Config.vfNamedBy g = 3) : vfOf g = some 3 := by simp [vfOf, h]; omega
theorem wit_ModeAndLifeCycleFunctions_service : let s := cmd 0x0E10 (fr 0x0E10 0 40 [(32, [3])]) [] (withMode .quiesce house)
    runs 0 0x0E10 (fun c s => if modeUnderWay s c.t then some (statusOnly 0) else modeRefusal c s) s = true ∧ s.pow.mode = .quiesce ∧ s.pow.service = 3 := by decide +kernel
theorem wit_PairFunctionsAnswer_cases :
    (let s := cmd 0x0E30 (fr 0x0E30 0 32 []) [] (pairOfState { house.pair with role := .originator, linkUp := true, member := 1 })
     swapDrained 65535 { s with pair := { s.pair with swapping := some 65535 }, doc := { s.doc with blockOriginating := true } } = true) ∧
    swapDrained 65535 (pairOfState { house.pair with role := .originator, unacked := [{ number := 1, changes := [] }] }) = false ∧
    house.pow.failWarning = false ∧ (gal (joined house) 7).isSome = true ∧
    facts 0x0E33 cutMigration (cmd 0x0E33 (fr 0x0E33 0 40 [(32, [7])]) [] (withGal 7 { gal7 with migration := some { home := 5, partner := 0xFFFF } } house))
      (fun c v _ => ((gal v (leAt c.f 32 4)).bind (·.migration)).isSome) = true := by decide +kernel
theorem wit_FunctionsTurnedAway_unlinked : house.pair.farWaiting = [] ∧ (0x0C01 : Nat) ∉ [0x0E32, 0x0E36] := by decide
theorem wit_FunctionsTurnedAway_budget_served :
    let s := cmd 0x0801 (fr 0x0801 0 80 [(40, [0, 0, 0, 0, 16])]) [some { noHeldKey with alg := 65, vitrine := true, finite := true, slot := 3, material := zeros 16 }]
      (withGal 0 { gal0 with records := [(3, { rec0 1 3 (zeros 16) with finite := true, budget := 0, uses := 5 })] } house)
    heldIs 0x0801 s (fun c => !mustWait s c && !turnedAway s c && !(cellRegs s 0).secondary && !lacksSeed s c && !drawsNow c.d && (checkCipher c s).isNone && (stepSlots c.g (owedSteps c) s).isNone) = true ∧
    s.rng.starved = none ∧ (0x0801 : Nat) ∉ [0x0E03, 0x0E10, 0x0E30, 0x0E36] := by decide +kernel

/-! ### Endpoint, START and supplies: what the statements ask beside the states above. -/

/-- Gallery 9 is homed at module 5, to which a route leads; VF 1 is bound to it. -/
def distant9 : State :=
  let s := withWin 1 { gallery := some 9 } (joined house)
  { s with vit := { s.vit with remote := [(9, { defaultTemplate with id := 9, home := 5, partner := 0xFFFF })] } }
theorem wit_StreamCommands_asks : (strm serving 1 15).opening = false ∧ asksHome serving 7 = false ∧ asksHome sealing 7 = false ∧ (strm sealing 1 0).opening = false ∧ sealing.pow.failWarning = false ∧
    (strm distant9 1 15).active = false ∧ (strm distant9 1 15).opening = false ∧ enableRefused (updStrm 1 15 (fun st => { st with sealed := false }) distant9) 1 15 false = false ∧
    (win distant9 1).gallery = some 9 ∧ asksHome distant9 9 = true := by decide +kernel
theorem wit_ResetPins_live : pwronHeld.ao.live = 0 ∧ State.reset.ao.live = 0 ∧ ({ pwronHeld with pow := { pwronHeld.pow with perstAsserted := false } } : State).ao.live = 0 := by decide
/-- Step 1 next, in a life-cycle state of the fuses, with a valid BBRAM. -/
def fusedStart (l : List TransitionRecord) : State := { starting 0 with fuses := { State.reset.fuses with records := l }, bb := { State.reset.bb with valid := true } }
def lcs (n : Nat) : TransitionRecord := { target := n, token := 0, complete := true }
theorem wit_StartSteps_one : (fusedStart [lcs 4]).pow.starting = true ∧ (fusedStart [lcs 4]).pow.startStep = 0 ∧ fusedState (fusedStart [lcs 4]).fuses = 4 ∧ fusedState (fusedStart [lcs 4, lcs 5]).fuses = 5 ∧
    env0.fusesAgree = true ∧ (fusedStart [lcs 4]).bb.valid = true ∧ (fusedStart [lcs 4]).ao.responded = false ∧ (fusedStart [lcs 4]).ao.live = 0 ∧ (fusedStart [lcs 4]).bb.lost = false ∧
    ({ (fusedStart [lcs 4]).bb with lost := true } : Bbram).lost = true ∧ (fusedStart [lcs 4]).fuses.epochs < 63 ∧ (fusedStart [lcs 4]).pow.mode = .start ∧ ({ env0 with fusesAgree := false } : StartEnv).fusesAgree = false ∧
    fusedState (fusedStart [{ lcs 5 with complete := false }]).fuses = 15 ∧ fusedState (fusedStart []).fuses = 0 ∧ fusedState (fusedStart [lcs 1]).fuses = 1 ∧ fusedState (fusedStart [lcs 7]).fuses = 7 ∧ 1 ≤ (1 : Fin 20).val := by decide
theorem wit_StartSteps_two_to_six : (starting 1).pow.startStep = 1 ∧ env0.pllLock = true ∧ (starting 1).ao.responded = false ∧ ({ env0 with pllLock := false } : StartEnv).pllLock = false ∧
    8 ≤ wingsAvailable ((([0, 1, 2, 3, 4, 5, 6, 7] : List Nat).filter (· < 16)).foldl (fun s w => retireWing w s) (starting 4)) ∧ (starting 5).pow.startStep = 5 ∧ nextStep (starting 5) = (6 : Fin 20).val := by decide +kernel
/-- A Vitrine without galleries that step 7 accepts: its counter is BBRAM's, its root and MAC those of its own lines under KM. -/
def kept (s : State) : State :=
  let km := kmOf s (zeros 48)
  let s := { s with vit := { s.vit with galleries := [], present := true, retained := true, km := km, writtenUnder := km, anchorVersion := s.bb.version } }
  let s := { s with vit := { s.vit with anchorRoot := treeRoot s [] } }
  { s with vit := { s.vit with anchorMac := anchorMacOf s } }
theorem kept_accepted (s : State) : vitrineAccepted env0 { kept s with vit := { (kept s).vit with km := kmOf (kept s) (zeros 48) } } = true := by
  have hk : kmOf (kept s) (zeros 48) = kmOf s (zeros 48) := rfl
  have ht : ∀ a b c d e, treeRoot { s with vit := { s.vit with galleries := [], present := true, retained := true, km := a, writtenUnder := b, anchorVersion := c, anchorRoot := d, anchorMac := e } } [] =
      treeRoot { s with vit := { s.vit with galleries := [], present := true, retained := true, km := a, writtenUnder := b, anchorVersion := c } } [] := fun _ _ _ _ _ => rfl
  simp only [vitrineAccepted, hk, env0]
  simp [kept, ht, anchorMacOf, lineMacKey]
def keptStart : State := kept { starting 6 with reg := { State.reset.reg with state := 4 }, bb := { State.reset.bb with valid := true, root := some (zeros 48) } }
theorem wit_StartSteps_seven : keptStart.pow.starting = true ∧ keptStart.pow.startStep = 6 ∧ readsVitrine keptStart = true ∧ moduleRootOf keptStart = some (zeros 48) ∧
    vitrineAccepted env0 { keptStart with vit := { keptStart.vit with km := kmOf keptStart (zeros 48) } } = true := ⟨rfl, rfl, rfl, rfl, kept_accepted _⟩
def fw0 : FwImage := { version := 1, security := 63, digest := zeros 48, ecdsaOk := true, mldsaOk := true }
theorem wit_StartSteps_eight : let s := { starting 7 with img := { State.reset.img with fwA := some fw0 }, reg := { State.reset.reg with state := 2 } }
    s.pow.startStep = 7 ∧ chosenFirmware (eraseBadFirmware s) = some (0, fw0) ∧ (selectImage (loadFirmware 0 fw0 (eraseBadFirmware s))).1 = true ∧ chosenFirmware (eraseBadFirmware { s with img := { s.img with fwA := none, fwB := none } }) = none := by decide +kernel
theorem wit_StartSteps_nine : (starting 8).pow.startStep = 8 ∧ 16 ≤ env0.sites ∧ bit env0.fieldPass.toNat 2 = true ∧ bit env0.fieldPass.toNat 3 = true ∧ bit env0.fieldPass.toNat 4 = true ∧
    bit env0.fieldPass.toNat 6 = true ∧ bit (253 : Byte).toNat 1 = false ∧ bit (247 : Byte).toNat 3 = false ∧ bit (191 : Byte).toNat 6 = false ∧ ({ env0 with noiseAgain := true } : StartEnv).noiseAgain = true := by decide
def sourced : State := { starting 9 with rng := { State.reset.rng with
  sources := (List.range 8).map (fun n => (n, { phase := .live })), drbgs := startInstances.map (fun n => (n, { key := zeros 32, v := zeros 16 })) } }
theorem wit_StartSteps_ten : sourced.pow.startStep = 9 ∧ env0.katOk = true ∧ (startSources env0 sourced).rng.fatal = false ∧ 8 ≤ (contributing (deliverBlocks env0 (startSources env0 sourced))).length ∧
    missingInstances (deliverBlocks env0 (startSources env0 sourced)) = [] ∧ ({ env0 with katOk := false } : StartEnv).katOk = false := by decide +kernel
theorem wit_StartSteps_close : let s := { starting 10 with pow := { (starting 10).pow with closeStage := 7 } }
    s.pow.startStep = 10 ∧ s.pow.closeStage < 8 ∧ 11 + s.pow.closeStage = (18 : Fin 20).val ∧ s.pow.failWarning = false ∧ 11 + (starting 10).pow.closeStage = (11 : Fin 20).val ∧
    ({ s.pow with closeStage := 8 } : Power).closeStage = 8 := by decide
theorem wit_Supplies_d : ({ State.reset with pow := { State.reset.pow with failWarning := true } } : State).pow.failWarning = true ∧ State.reset.pow.failWarning = false ∧ (supplied false true).ao.recordToLog = false := by decide
/-! ### Docent, engines, PK units and random numbers: what the statements ask beside the states above. -/

theorem wit_DoneParkAndRetry_d : isSecondary answered 0 = false ∧ copiesAgree answered = true ∧ (holding answered).rng.fatal = false ∧ instServes (holding answered) 5 = false ∧
    (holding answered).pow.mode = .service ∧ (holding answered).err.active < 2 ∧ (holding answered).err.byUnit = [] ∧ (wing (holding answered) 0).quarantined = false ∧ answered.st = .inService ∧
    desc (holding { answered with fails := 2 }) 65535 = some { answered with fails := 2 } ∧ 3 ≤ ({ answered with fails := 2 } : Desc).fails + 1 ∧ ({ answered with fails := 2 } : Desc).discard = false := by decide
/-- The engine was granted to cell 7 at this moment. -/
def justGranted (h : Bool) : State :=
  withEngine h { readyEngine with owner := some 7, gallery := 0, grantedClaim := some 0, holdFrom := 0, grants := [(7, { granted := true, denied := false, wiped := false, holdId := 0 })] }
theorem wit_EngineClaims_e : ∀ h : Bool, grantedNow (engineOf (justGranted h) h 0) (justGranted h).now = some 7 ∧ 0 < 7 ∧
    ((servedBy (justGranted h) 0).map (fun x => hasRight x.2.1.rights (if h then 3 else 2) rightUSE)) = some true ∧ (!h && maskExhausted (justGranted h) 0) = false ∧
    (engineOf (justGranted h) h 0).queue.contains 0 = false ∧ mhas (engineOf (justGranted h) h 0).grants 0 = false ∧ (engineOf (justGranted h) h 0).reading.contains 0 = false := by decide +kernel
theorem wit_EngineClaims_f : ∀ h : Bool, let s := withEngine h { readyEngine with owner := some 7, gallery := 0 }
    grantedNow (engineOf s h 0) s.now = none ∧ (wing s 0).power = .run ∧ (engineOf s h 0).owner ≠ some 0 ∧ (engineOf s h 0).queue.contains 0 = false ∧ mhas (engineOf s h 0).grants 0 = false := by decide +kernel
theorem wit_EngineOperations_free : (engineOf (withCache cached0 (withEngine false { readyEngine with owner := some 0 })) false 0).pendingLoad = none ∧ (engineOf (withEngine false { busy := some engineOp0 }) false 0).pendingLoad = none ∧
    wingRight (withEngine false { owner := some 0 }) 0 rightRD = true ∧ wingRight (withEngine true { owner := some 0 }) 0 rightWR = true := by decide +kernel
/-- The command's row gives nothing in wing memory. -/
def barred (h : Bool) : State := updDesc 65535 (fun d => { d with rights := defaultRow.set 5 0 }) (withEngine h { readyEngine with owner := some 0 })
theorem wit_EngineOperations_barred : ∀ h : Bool, (engineOf (barred h) h 0).owner = some 0 ∧ wingRight (writeCtx h 0 none (cellWrites 0 [] (barred h))) 0 rightRD = false := by decide +kernel
/-- A load kept behind the key's lock: the engine is not busy with it. -/
theorem wit_EngineOperations_kept :
    let k : CacheEntry := { cached0 with slot := some 3 }
    let d : Desc := { desc0 with function := 0x0801, frame := zeros 80, st := .inService, entry := some 1, keys := [some { noHeldKey with alg := 65, vitrine := true, finite := true, slot := 3 }] }
    let s := withCache k (withDesc 9 d (updDesc 65535 (fun d => { d with entry := some 2 }) (withEngine false { readyEngine with owner := some 0, pendingLoad := some (0, 131071, 3, 1) })))
    (engineOf s false 0).busy = none ∧ (engineOf s false 0).pendingLoad = some (0, 131071, 3, 1) ∧ mget s.vit.cache 131071 = some k ∧ stepWaits s 0 k = true ∧
    (engineOf s false 0).owner = some 0 ∧ (engineOf (completeOp false 0 s) false 0).pendingLoad.isSome = true := by decide +kernel
theorem wit_EngineReads_b : ∀ h : Bool, (engineOf (completeOp h 0 (withEngine h { owner := some 0 })) h 0).pendingLoad = none := by decide +kernel
theorem wit_EngineEvents_queued : ∀ h : Bool, let s := withEngine h { readyEngine with clearing := true, queue := [5] }
    (engineOf s h 0).clearing = true ∧ (engineOf s h 0).queue = 5 :: [] ∧ (engineOf s h 0).owner = none ∧ (engineOf s h 0).faulted = false ∧ (h || (engineOf s h 0).seedReady) = true := by decide +kernel
theorem wit_PkuOwnership_e : let s := withPku { wiping := true, queue := [5] }
    (wing s 0).pku.wiping = true ∧ (wing s 0).pku.queue = 5 :: [] ∧ (wing s 0).pku.faulted = false := by decide +kernel
/-- Under the Q path: low bits that are zero, low bits that are not; an operand whose residues do not match. -/
theorem wit_PkuArithmetic_d : (bit 0 5 && ([1] : List Nat).any (fun x => x % 2 ^ 64 != 0)) = false ∧ (bit 32 5 && ([1] : List Nat).any (fun x => x % 2 ^ 64 != 0)) = true ∧
    (∀ op : Fin 3, pkuOpRefused { cleanPku with dirty := true } op 0 = true) ∧ pkuOpRefused { cleanPku with dirty := true } 3 0 = true := by decide +kernel
/-- A MAC_SHIFT in the mode of one lane with A 1 and Q 1: the sum 1 is not 0 below 2⁶⁴. -/
theorem wit_PkuArithmetic_q :
    let p : Pku := putSlot 0 1 { cleanPku with owner := some 0, qpath := [1] }
    let sh := laneShape p.lanes
    let a := slotAt p 0
    let sums := (List.range sh.1).map (fun i => laneMac p.lanes p.qmod false 0 (((List.range sh.1).map (laneOf a sh.2.1)).getD i 0) ((p.qpath ++ List.replicate (sh.1 - p.qpath.length) 0).getD i 0))
    pkuOpRefused p 1 0x20 = false ∧ slotResidues p 0 = residuesOf a ∧ (bit 0x20 5 && sums.any (fun x => x % 2 ^ 64 != 0)) = true := by decide +kernel
theorem wit_PkuTransfers_d : let s := updDesc 65535 (fun d => { d with rights := defaultRow.set 5 0 }) (withPku { cleanPku with owner := some 0 })
    wingRight s 0 rightRD = false ∧ wingRight s 0 rightWR = false ∧ bit 0 1 = false ∧ (wing (allocatePages 0 [] s) 0).pku.owner = some 0 ∧ dmaRefused (wing (allocatePages 0 [] s) 0).pku false 0 = false ∧
    wingRight (allocatePages 0 [] (withPku { cleanPku with owner := some 0 })) 0 rightRD = true := by decide +kernel
/-- An outbound transfer to the operand space. -/
theorem wit_PkuTransfers_e : let d : PkuDma := { cell := 0, word := 3, data := zeros 512 }
    (wing (withPku { cleanPku with dma := some d }) 0).pku.dma = some d ∧ bit d.word.toNat 0 = true ∧ bit d.word.toNat 1 = true := by decide +kernel
/-- A block of alternating samples passes both tests; one of zeros fails the repetition count test. -/
theorem wit_RandomNumberBlock_tests :
    (testSamples (source (withSource 7 { phase := .live }) 7) (samplesOf (BitVec.ofNat 1024 ((2 ^ 1024 - 1) / 3)))).isOk = true ∧
    (match testSamples (source (withSource 7 { phase := .live }) 7) (samplesOf 0) with | .error apt => apt | .ok _ => true) = false ∧
    (match testSamples (source (withSource 7 { phase := .starting }) 7) (List.replicate 41 false) with | .error apt => apt | .ok _ => true) = false ∧
    (testSamples (source (withSource 7 { phase := .starting }) 7) (List.replicate 40 false)).isOk = true := by decide +kernel
/-! ### The span and the pair: what the statements ask beside the states above. -/

theorem wit_LinkFrames_unlinked : house.pair.farWaiting = [] ∧ (member .originator).pair.farWaiting = [] := by decide
theorem wit_PortsAndHandshakes_wide : (4 : Nat) ≤ widestLink (joined house) 0 ∧ widestLink (let s := joined house; { s with pair := { s.pair with badLanes := [3] } }) 0 < 4 ∧ hdr0.dst = 0xFFFF := by decide
/-- Both ends have drawn the private key 1: their agreement is the base point; with an ephemeral key that is no point there is none. -/
theorem wit_PortsAndHandshakes_keys : (hopKeysOf "LX96-SPAN" (beBytes 48 1) helloGood helloGood).isSome = true ∧ hopKeysOf "LX96-SPAN" (beBytes 48 1) helloGood { helloGood with ephemeral := [] } = none ∧
    ((hopKeysOf "LX96-E2E" (beBytes 48 1) helloGood helloGood).map (fun k => k != [])) = some true := by decide +kernel
/-- Module 5 lies beyond a relay. -/
def beyond (k : FarKey) : State := { rooted with pair := { rooted.pair with farKeys := [(5, k)] } }
def hdrFar : LinkHdr := { hdr0 with src := 5, dst := 0 }
theorem wit_PortsAndHandshakes_far : hdrFar.dst ≠ 0xFFFF ∧ hdrFar.dst = (beyond {}).img.set.moduleId ∧ farHelloOk (beyond {}) 5 { helloGood with certificate := [] } = false ∧
    (farKey (beyond {}) 5).helloSent = none ∧ (farKey (beyond { helloSent := some hello0 }) 5).helloSent = some hello0 ∧ (farKey (beyond { helloSent := some hello0 }) 5).confirmGot = false ∧
    (farKey (beyond { helloSent := some hello0, helloGot := some helloGood, confirmSent := true }) 5).helloGot = some helloGood ∧
    (farKey (beyond { helloSent := some hello0, helloGot := some helloGood, confirmSent := true }) 5).confirmSent = true := by decide +kernel
theorem wit_PortsAndHandshakes_far_good : farHelloOk (beyond {}) 5 helloGood = true := by decide +kernel
theorem wit_PortsAndHandshakes_far_accepts : Accepts false hdrFar (withPort 0 { up := true, auth := true } (beyond {})) := ⟨by decide, rfl, fun _ => rfl, fun _ => rfl, by decide⟩
theorem wit_LossOfThePairLink_f : (member .withdrawn).pair.mismatch = false ∧ ({ (member .originator).err with active := 3 } : Err).active = 3 ∧ (member .originator).err.active ≠ 3 := by decide
theorem wit_PositionsAndCrossFeed_d : judgedAt placed 0 1 = some (9, { desc0 with admitAt := 4 }) ∧ desc0.windowRefusal = false ∧ desc0.st ≠ .released ∧ gal placed sid0.gallery = some gal0 := by decide +kernel
theorem wit_Deltas_brings : Brings (member .standby) hdr0.port ∧ (member .standby).pow.failWarning = false ∧ (member .sole).pow.failWarning = false ∧
    ¬ Brings ({ member .standby with img := { (member .standby).img with set := { (member .standby).img.set with fixedRows := [] } } } : State) 0 := by unfold Brings; decide
theorem wit_Deltas_warned : ({ member .resync with pow := { (member .resync).pow with failWarning := true } } : State).pow.failWarning = true ∧ (member .resync).pair.outUntilStart = false ∧
    ({ (member .resync).pair with mismatch := true } : Pair).mismatch = true := by decide
/-- The STANDBY, asked by module 9, which is not its partner. -/
theorem wit_ForwardedCommands_misdirected : isMisdirected (member .standby) { hdr0 with src := 9 } = true ∧ isMisdirected (member .standby) { hdr0 with src := 5 } = false ∧
    isMisdirected (member .originator) hdr0 = false ∧ isMisdirected openedBy hdr0 = false ∧ openedBy.pair.role ≠ .standby := by decide
theorem wit_ForwardedCommands_opens : let sid : StreamId := { sid0 with place := 5, stream := 1 }
    flowOf openedBy sid = none ∧ (homed openedBy 0).isSome = true ∧ galleryRefuses openedBy 0 0 1 0 none = false ∧ mirrors openedBy = false ∧ (gal openedBy 0).bind (·.migration) = none ∧
    lowestFree openedBy.doc.flows 65536 = some 1 ∧ galleryRefuses openedBy 0 0 1 0 (some 9) = true ∧ asksHome openedBy 0 = false := by decide +kernel
/-- A sealed enable that the home accepts. -/
theorem wit_ForwardedCommands_sealed : let s := withWin 1 {} (withStrm 1 0 {} sealing)
    flowOf s { gallery := 7, place := 5, fn := 1, stream := 0 } = none ∧ galleryRefuses s 7 1 0 0 (some 0x4000000000000003) = false ∧ (sealRecord s 7 (BitVec.ofNat 64 0x4000000000000003)).isSome = true ∧
    (gal s 7).isSome = true := by decide +kernel
theorem wit_ForwardedCommands_standby : (member .standby).pair.role = .standby ∧ (homed (member .standby) 0).isSome = true ∧ flowOf (member .standby) { sid0 with place := 9 } = none ∧
    docentFlows (member .standby) < 65536 ∧ (gal (member .standby) 0).bind (·.migration) = none ∧ lowestFree (member .standby).doc.flows 65536 = some 0 := by decide +kernel
theorem wit_CopiesAndLoans_reads : let s := { loaned with img := (joined house).img }
    readsState s hdr7 = true ∧ s.pow.failWarning = false ∧ mirrors s = false ∧ readsState s { hdr7 with src := 6 } = false := by decide
theorem wit_CopiesAndLoans_brings : Brings loaned hdr7.port := by unfold Brings; decide
theorem wit_CopiesAndLoans_f : let s := { loaned with vit := { loaned.vit with galleries := [(7, { gal7 with loans := [(5, { partner := 0xFFFF, copied := true })] })] } }
    speaksHome s = true ∧ speaksHome (member .standby) = false ∧ s.vit.galleries = [(7, { gal7 with loans := [(5, { partner := 0xFFFF, copied := true })] })] ∧
    mget ([(5, { partner := 0xFFFF })] : Map Loan) 5 = some { partner := 0xFFFF } ∧ (gal (withGal 7 { gal7 with arriving := true } house) 7).map (·.loanCopy) = some none := by decide
/-! ### Errors, tamper, modes, the Curator: what the statements ask beside the states above. -/

theorem wit_ErrorsByScope_c : let s := { house with err := { house.err with active := 2 } }
    2 ≤ s.err.active ∧ s.err.byUnit = [] ∧ ({ house with err := { house.err with active := 3 } } : State).err.active = 3 ∧ s.err.active < 3 ∧ isCommandCode 0x24 = true ∧ paired (member .originator) = true ∧
    (member .originator).pow.mode = .service ∧ paired house = false ∧ (member .withdrawn).pair.role = .withdrawn ∧ (member .withdrawn).pair.withdrawing = none ∧ isCommandCode 0x06 = false ∧ isModuleCode (member .originator) 0x30 = true := by decide
theorem wit_TamperCauses_e : mainWatched production = true ∧ production.pow.main = true ∧ pwronHeld.pow.main = true ∧ ({ house with pow := { house.pow with main := false } } : State).pow.main = false := by decide
theorem wit_InputsAndLifeCycle_h : tokenClass 3 4 0 false ≠ some 4 ∧ tokenClass 4 3 0 false = some 4 ∧ tokenClass 5 5 0 true = some 4 ∧ ({ burn0 with decided := true } : Burn).decided = true ∧ burn0.decided = false ∧
    readoutOnly house = false ∧ readoutOnly { house with reg := { house.reg with state := 7 } } = true ∧ answered.st = .inService ∧ desc0.st ≠ .inService := by decide
theorem wit_InputsAndLifeCycle_i : componentInService house none = false ∧ house.ao.lockout = false := by decide
theorem wit_ModesAndSteps_e : returnSince house.pow = none ∧ returnSince { house.pow with step := 1, coolSince := some 3 } = some 3 ∧ returnSince { house.pow with step := 2, mildSince := some 3 } = some 3 ∧
    house.pow.main = true ∧ ({ house.pow with avs := some { millivolts := 700, tries := 1 }, returning := some 0 } : Power).returning = some 0 ∧
    ((switching0 [15]).pow.switchTo = none ∨ ({ (switching0 [15]).pow with avs := some { millivolts := 700, tries := 1 } } : Power).avs.isSome = true) ∧ (quiesce0 none true).expired = false ∧ (quiesce0 none true).complete = false ∧
    ({ quiesce0 none true with expired := true } : Quiesce).expired = true := by decide
theorem wit_FirmwareUpdate_c : pullingComponent (updating (.pulling 2)) = some 2 ∧ 2 ^ 20 < 2 ^ 20 - 7 + (zeros 8).length ∧ 2 ^ 23 < 2 ^ 23 - 7 + (zeros 8).length ∧ 2 ^ 23 - 8 + (zeros 8).length ≤ 2 ^ 23 ∧ readoutOnly house = false := by decide
theorem wit_Attestation_readout : readoutOnly { house with reg := { house.reg with state := 15 } } = true ∧ readoutOnly { house with cur := { house.cur with spdm := 3 } } = false := by decide
theorem wit_Counters_archive : hasRight (fixedRow house curatorRow) 7 rightRD = true ∧
    hasRight (fixedRow { house with img := { house.img with set := { house.img.set with fixedRows := [] } } } curatorRow) 7 rightRD = false := by decide
/-! ## Single steps. -/

/-- A commit to a stream that is not enabled is discarded with COMMIT_ERR (03 R66). -/
theorem test_commit_discarded : (match exec (.commit 1 0 0) State.reset with
    | .next t => (strm t 1 0).commitErr
    | _ => false) = true := by decide
/-- A 4-byte store is never accepted: PARTIAL_WRITE (03 R58). -/
theorem test_short_store : (match exec (.barWrite 1 0x1008 (zeros 4) false) State.reset with
    | .next t => (win t 1).fault
    | _ => 0) = 1 := by decide
/-- The PF's BAR is 1 MiB, so a write beyond it is no write to a register (03 Table 3-1, log 141). -/
theorem test_outside_bar : exec (.barWrite 0 0x100000 (zeros 8) false) State.reset = .next State.reset := rfl
/-- An idle step only lets the model's clock advance (log 1). -/
theorem test_idle : step State.reset = .next { State.reset with now := 1 } := rfl
/-- The release of a cipher engine erases its key registers and begins the clear (08 R210, R211). -/
theorem test_release_erases : (match exec (.cenRelease 0) (withEngine false { owner := some 0, keys := [(0, noHeldKey)] }) with
    | .next t => (wing t 0).cen.owner.isNone && (wing t 0).cen.clearing && (wing t 0).cen.keys.isEmpty
    | _ => false) = true := by decide +kernel
/-- LOAD_ACC and STORE_ACC move an operand through the accumulator (09 Table 9-4). -/
theorem test_store_acc : (match exec (.storeAcc 0 (0x000000FF00000000 : W64)) (withPku { cleanPku with owner := some 0, acc := 5 }) with
    | .next t => slotAt (wing t 0).pku 255
    | _ => 0) = 5 := by decide +kernel
/-- A block of version D that opens. -/
def block0 : Bytes := ascii "D0112D0AB00E00003A3792CB7CDD4E15AA4E97E7CA23490B57BE501B2E55CA02EF619D384D079DA9068EDCF9C5BBF6A062E21E713B57972E"
theorem wit_KeyBlockAndDataFunctionsAnswer_import :
    runs 0 0x0601 checkImport (cmd 0x0601 (fr 0x0601 0 168 [(48, [112]), (56, block0)]) [aesKey, aesKey] house) = true := by decide +kernel

end Sys2Proof.Tests
end

/-!
PROOFS, 01 architecture: the supply of the tamper block and BBRAM (01 R16). A frame for each row that changes the supply while the other supply is there; the statement reads off the frames.
-/

namespace Sys2Proof.Machine

theorem aoPowered_iff (s : State) : aoPowered s = true ↔ s.ao.vaux = true ∨ s.ao.vbat = true := Bool.or_eq_true_iff ..

/-- The copy of a tamper record into the log changes the Curator and the mark that the record waits (14 R345). -/
theorem logTamper_only (s : State) :
    logTamper s = { s with ao := { s.ao with recordToLog := (logTamper s).ao.recordToLog }, cur := (logTamper s).cur } := by
  unfold logTamper
  split
  · rw [logData_cur]
  · rfl

/-- VAUX falls with VBAT there: beside the supply only the Curator, the image's SRAM and the retention of GDDR6 change. -/
theorem exec_vauxLoss_of_vbat (s : State) (hvaux : s.ao.vaux = true) (hvbat : s.ao.vbat = true) :
    ∃ t, exec .vauxLoss s = .next t ∧
      t = { s with ao := { s.ao with vaux := false }, vit := { s.vit with retained := s.vit.retained && s.pow.main }, cur := t.cur, img := t.img } := by
  have hexec : exec .vauxLoss s = .next (loseVaux s) := by
    show execVauxLoss s = _
    rw [execVauxLoss, if_pos hvaux]
  refine ⟨_, hexec, ?_⟩
  unfold loseVaux
  dsimp only
  rw [if_pos hvbat]

/-- VAUX returns with VBAT there: beside the supply only the Curator and its mark on a tamper record change. -/
theorem exec_vauxRestore_of_vbat (s : State) (hvaux : s.ao.vaux = false) (hvbat : s.ao.vbat = true) :
    ∃ t, exec .vauxRestore s = .next t ∧ t = { s with ao := { s.ao with vaux := true, recordToLog := t.ao.recordToLog }, cur := t.cur } := by
  have hexec : exec .vauxRestore s = .next (logTamper { s with
      ao := { s.ao with vaux := true }
      cur := { s.cur with logSram := [], logSeq := ((s.cur.logMirror.head?).map (·.1)).getD 0, restarting := none } }) := by
    show execVauxRestore s = _
    simp only [execVauxRestore, hvaux, hvbat, Bool.false_eq_true, if_false, if_true]
  exact ⟨_, hexec, logTamper_only _⟩

/-- VBAT falls with VAUX there: beside the supply only a sensor of the Curator changes (18 R444). -/
theorem exec_vbatLoss_of_vaux (s : State) (hvaux : s.ao.vaux = true) (hvbat : s.ao.vbat = true) :
    ∃ t, exec .vbatLoss s = .next t ∧ t = { s with ao := { s.ao with vbat := false }, cur := t.cur } := by
  have hexec : exec .vbatLoss s = .next { s with
      ao := { s.ao with vbat := false }
      cur := { s.cur with sensors := mupd s.cur.sensors 41 {} (fun x => { x with valid := false }) } } := by
    show execVbatLoss s = _
    simp only [execVbatLoss, hvaux, hvbat, Bool.not_true, Bool.false_eq_true, if_false, if_true]
  exact ⟨_, hexec, rfl⟩

/-- Settles O18: each change of supply has a frame without BBRAM, the latches and the alarm, and the supply that stays gives the power. -/
theorem supplySwitch : Obligations.SupplySwitch := by
  refine ⟨aoPowered_iff, fun s hvaux hvbat => ?_, fun s hvaux hvbat => ?_, fun s hvaux hvbat => ?_⟩
  · obtain ⟨t, hexec, ht⟩ := exec_vauxLoss_of_vbat s hvaux hvbat
    have hpow : aoPowered t = true := (aoPowered_iff t).2 (.inr (by rw [ht]; exact hvbat))
    exact ⟨t, hexec, hpow, by rw [ht], by rw [ht], by rw [ht], by rw [ht], by rw [ht]⟩
  · obtain ⟨t, hexec, ht⟩ := exec_vauxRestore_of_vbat s hvaux hvbat
    have hpow : aoPowered t = true := (aoPowered_iff t).2 (.inl (by rw [ht]))
    exact ⟨t, hexec, hpow, by rw [ht], congrArg State.ao ht, by rw [ht], by rw [ht], by rw [ht]⟩
  · obtain ⟨t, hexec, ht⟩ := exec_vbatLoss_of_vaux s hvaux hvbat
    have hpow : aoPowered t = true := (aoPowered_iff t).2 (.inl (by rw [ht]; exact hvaux))
    exact ⟨t, hexec, hpow, by rw [ht], by rw [ht], by rw [ht], by rw [ht], by rw [ht]⟩

end Sys2Proof.Machine

/-!
PROOFS, 03 host windows: a stream after a write of 0 to ENABLE (03 R64). A commit to a stream that is not enabled is the discard, whichever kind it is; the end of a drained stream drops the stream's flow, and only that, from the docent's table.
-/

namespace Sys2Proof.Machine

/-! The table of flows: what is left once a key is dropped. -/

theorem mget_eq_none {α : Type} {m : Map α} {k : Nat} (h : ∀ p ∈ m, p.1 ≠ k) : mget m k = none := by
  induction m with
  | nil => rfl
  | cons p m ih =>
    obtain ⟨a, v⟩ := p
    rw [mget, if_neg (h _ List.mem_cons_self)]
    exact ih fun q hq => h q (List.mem_cons_of_mem _ hq)

/-- Where no key is listed twice, dropping a key leaves the entries of the other keys. -/
theorem mdel_eq_filter {α : Type} {m : Map α} (k : Nat) (h : (m.map (·.1)).Nodup) : mdel m k = m.filter (fun p => p.1 != k) := by
  induction m with
  | nil => rfl
  | cons p m ih =>
    obtain ⟨a, v⟩ := p
    obtain ⟨ha, hm⟩ := List.nodup_cons.1 h
    by_cases hk : a = k
    · subst hk
      have hother : m.filter (fun p => p.1 != a) = m :=
        List.filter_eq_self.2 fun q hq => bne_iff_ne.2 fun he => ha (List.mem_map.2 ⟨q, hq, he⟩)
      rw [mdel, if_pos rfl, List.filter_cons_of_neg (by simp), hother]
    · rw [mdel, if_neg hk, List.filter_cons_of_pos (by simpa using hk), ih hm]

theorem mget_mdel_of_nodup {α : Type} {m : Map α} (k : Nat) (h : (m.map (·.1)).Nodup) : mget (mdel m k) k = none := by
  rw [mdel_eq_filter k h]
  exact mget_eq_none fun p hp => bne_iff_ne.1 (List.mem_filter.1 hp).2

/-- A gallery's flows are counted over the table, so a flow that is dropped is counted no longer. -/
theorem galleryFlows_of_mdel {s t : State} {k : Nat} (g : Nat) (hflows : t.doc.flows = mdel s.doc.flows k) (h : (s.doc.flows.map (·.1)).Nodup) :
    galleryFlows t g = (galleryFlows s g).filter (fun p => p.1 != k) := by
  unfold galleryFlows
  rw [hflows, mdel_eq_filter k h, List.filter_comm]

/-! What leaves on the span changes the pair and the links only. -/

theorem sendFrame_pair (port cls dst : Nat) (relayed : Option (Nat × Nat)) (endToEnd : Bool) (body : FrameBody) (s : State) :
    sendFrame port cls dst relayed endToEnd body s = { s with pair := (sendFrame port cls dst relayed endToEnd body s).pair } := by
  unfold sendFrame
  split <;> rfl

theorem sendTo_pair (cls dst : Nat) (body : FrameBody) (s : State) : sendTo cls dst body s = { s with pair := (sendTo cls dst body s).pair } := by
  unfold sendTo
  split
  · split
    · exact sendFrame_pair ..
    · split
      · rfl
      · exact sendFrame_pair ..
  · rfl

theorem sendPartner_pair (cls : Nat) (body : FrameBody) (s : State) : sendPartner cls body s = { s with pair := (sendPartner cls body s).pair } := by
  unfold sendPartner
  split
  · exact sendFrame_pair ..
  · rfl

theorem tellStream_pair (sid : StreamId) (body : Forwarded) (s : State) : tellStream sid body s = { s with pair := (tellStream sid body s).pair } := by
  unfold tellStream
  split
  · exact sendTo_pair ..
  · rfl

theorem noteSeal_pair (sid : StreamId) (live : Bool) (s : State) : noteSeal sid live s = { s with pair := (noteSeal sid live s).pair } := by
  unfold noteSeal
  split
  · exact sendPartner_pair ..
  · rfl

@[simp] theorem tellStream_doc (sid : StreamId) (body : Forwarded) (s : State) : (tellStream sid body s).doc = s.doc := by
  rw [tellStream_pair]

@[simp] theorem noteSeal_doc (sid : StreamId) (live : Bool) (s : State) : (noteSeal sid live s).doc = s.doc := by
  rw [noteSeal_pair]

/-! Commits: COMMIT_ERR and nothing else of the stream; the discard is the endpoint's alone. -/

theorem commitError_fab (fn i : Nat) (s : State) : commitError fn i s = { s with fab := (commitError fn i s).fab } := by
  unfold commitError
  rw [latchStreamErr_fab]
  rfl

theorem strm_commitError (fn i : Nat) (s : State) : strm (commitError fn i s) fn i = { strm s fn i with commitErr := true } := by
  unfold commitError
  simp

theorem takesCommit_of_disabled (s : State) {st : Stream} (k : Nat) (h : st.enable = false) : takesCommit s st k = false := by
  simp [takesCommit, h]

/-- A commit to a stream that is not enabled is discarded (R64). -/
theorem exec_commit_of_disabled (fn : Fin 1025) (stream : Fin 16) (slot : Fin 8) (s : State) (h : (strm s fn stream).enable = false) :
    exec (.commit fn stream slot) s = .next (commitError fn stream s) := by
  show execCommit fn stream slot s = _
  simp [execCommit, commitSlot, takesCommit_of_disabled s slot h]

/-- So is a large commit, whether a copy runs or not (R64). -/
theorem exec_largeCommit_of_disabled (fn : Fin 1025) (stream : Fin 16) (slot : Fin 8) (s : State) (h : (strm s fn stream).enable = false) :
    exec (.largeCommit fn stream slot) s = .next (commitError fn stream s) := by
  show execLargeCommit fn stream slot s = _
  simp [execLargeCommit, commitLarge, takesCommit_of_disabled s slot h]

/-! The disable and the end of a stream. -/

theorem strm_disableStream (fn : Fin 1025) (stream : Fin 16) (sealed : Bool) (s : State) :
    strm (disableStream fn stream sealed s) fn stream =
      { strm s fn stream with enable := false, opening := false, sealed := if (strm s fn stream).active then (strm s fn stream).sealed else sealed } := by
  unfold disableStream
  rw [strm_updStrm, if_pos ⟨rfl, rfl⟩]

/-- A stream that still has a command of its flow to be released or acknowledged goes on (R64). -/
theorem exec_streamDrained_of_not_empty (fn : Fin 1025) (stream : Fin 16) {fi : Nat} (s : State) (hflow : (strm s fn stream).flow = some fi)
    (hempty : flowEmpty s fi = false) : exec (.streamDrained fn stream) s = .next s := by
  show execStreamDrained fn stream s = _
  simp [execStreamDrained, hflow, hempty]

/-- A disabled stream with no copy under way and nothing of its flow left comes to its end (R64). -/
theorem exec_streamDrained_of_empty (fn : Fin 1025) (stream : Fin 16) {fi : Nat} (s : State) (hflow : (strm s fn stream).flow = some fi)
    (hactive : (strm s fn stream).active = true) (henable : (strm s fn stream).enable = false) (hcopy : (strm s fn stream).lfsCopy = none)
    (hempty : flowEmpty s fi = true) : exec (.streamDrained fn stream) s = .next (endStream fn stream s) := by
  show execStreamDrained fn stream s = _
  simp [execStreamDrained, hflow, hactive, henable, hcopy, hempty]

theorem active_endStream (fn i : Nat) (s : State) : (strm (endStream fn i s) fn i).active = false := by
  unfold endStream
  rw [strm_updStrm, if_pos ⟨rfl, rfl⟩]

/-- The end of a stream drops its flow from the docent's table; what it tells the home and the partner leaves the docent alone. -/
theorem endStream_doc (fn i : Nat) {fi : Nat} (s : State) (hflow : (strm s fn i).flow = some fi) :
    (endStream fn i s).doc = { s.doc with flows := mdel s.doc.flows fi } := by
  unfold endStream
  cases hfl : mget s.doc.flows fi <;> simp only [hflow, hfl, updStrm_doc, Option.bind_some]
  all_goals
    split
    · split <;> simp
    · simp

/-- Settles O12: a disabled stream takes no commit of either kind, and its end, which waits for the flow to be empty, drops the flow from the table that the quota counts. -/
theorem admissionAfterDisable : Obligations.AdmissionAfterDisable := by
  refine ⟨fun fn stream sealed s => ?_, fun fn stream fi s hflow hempty => ?_, fun fn stream fi g s hflow hactive henable hcopy hempty hkeys => ?_⟩
  · have hstrm := strm_disableStream fn stream sealed s
    have hoff : (strm (disableStream fn stream sealed s) fn stream).enable = false := by rw [hstrm]
    exact ⟨_, rfl, hoff, by rw [hstrm], fun slot => ⟨_, exec_commit_of_disabled fn stream slot _ hoff,
      exec_largeCommit_of_disabled fn stream slot _ hoff, commitError_fab .., strm_commitError ..⟩⟩
  · exact exec_streamDrained_of_not_empty fn stream s hflow hempty
  · have hflows : (endStream fn stream s).doc.flows = mdel s.doc.flows fi := by rw [endStream_doc fn stream s hflow]
    exact ⟨_, exec_streamDrained_of_empty fn stream s hflow hactive henable hcopy hempty, active_endStream ..,
      by rw [hflows]; exact mget_mdel_of_nodup fi hkeys, galleryFlows_of_mdel g hflows hkeys⟩

end Sys2Proof.Machine

/-!
PROOFS, 05 payment functions: decimalisation tables (05 R121). The table test says what R121 says, and on the primary copy of a command a refused table is answered PARAM_REJECTED with nothing else changed. O25 says the same of every copy; a secondary copy's answer is `resp2`, which the window compares with the primary's (10 R261), so there it fails.
-/

namespace Sys2Proof.Machine

/-! What a cell does with the copy it holds. -/

theorem runFn_of_secondary {cell code : Nat} {s : State} {c : Ctx} (check : Ctx → State → Option Resp) (run : Ctx → State → FnResult)
    (hheld : heldCommand cell code s = some c) (hsec : (cellRegs s cell).secondary = true) :
    runFn cell code check run s = runSecondary c check (fun c s => applyFn c run s) s := by
  simp [runFn, runCmd, hheld, hsec]

/-- On the primary copy, a command that neither waits nor is turned away is answered with the first refusal of its function's checks. -/
theorem runFn_of_refused {cell code : Nat} {s : State} {c : Ctx} {check : Ctx → State → Option Resp} {r : Resp} (run : Ctx → State → FnResult)
    (hheld : heldCommand cell code s = some c) (hsec : (cellRegs s cell).secondary = false) (hwait : mustWait s c = false)
    (haway : turnedAway s c = false) (hcheck : check c s = some r) : runFn cell code check run s = answerFn c.t r [] s := by
  simp [runFn, runCmd, runPrimary, hheld, hsec, hwait, haway, hcheck]

theorem resp_updDesc (t k : Nat) {f : Desc → Desc} (s : State) (hf : ∀ d, (f d).resp = d.resp) :
    (desc (updDesc t f s) k).map (·.resp) = (desc s k).map (·.resp) := by
  by_cases hk : k = t
  · simp [hk, Option.map_map, Function.comp_def, hf]
  · simp [hk]

/-- A cell that works on the secondary copy leaves the response of the primary as it stands (10 R261). -/
theorem resp_runSecondary (c : Ctx) (check : Ctx → State → Option Resp) (act : Ctx → State → State) (s : State) (t : Nat) :
    (desc (runSecondary c check act s) t).map (·.resp) = (desc s t).map (·.resp) := by
  unfold runSecondary
  split
  · exact resp_updDesc _ _ _ fun _ => rfl
  · exact resp_updDesc _ _ _ fun _ => rfl

theorem resp_answerFn (t : Nat) (r : Resp) (ch : List Change) (s : State) :
    (desc (answerFn t r ch s) t).map (·.resp) = (desc s t).map (fun _ => some r) := by
  simp [answerFn, Option.map_map, Function.comp_def]

/-- Work on the secondary copy of a command whose primary has not answered is no answer of the command. -/
theorem runSecondary_ne_answerFn {c : Ctx} {d : Desc} {s : State} (check : Ctx → State → Option Resp) (act : Ctx → State → State) (r : Resp)
    (ch : List Change) (hdesc : desc s c.t = some d) (hresp : d.resp = none) : runSecondary c check act s ≠ answerFn c.t r ch s := by
  intro heq
  have h := resp_runSecondary c check act s c.t
  rw [heq, resp_answerFn, hdesc] at h
  simp [hresp] at h

/-! The table test and the functions that make it. -/

theorem decTableOk_iff (t : Bytes) : decTableOk t = true ↔ t.length = 16 ∧ (∀ b ∈ t, b.toNat ≤ 9) ∧
    ∀ v < 10, 1 ≤ (t.filter (fun b => b.toNat == v)).length ∧ (t.filter (fun b => b.toNat == v)).length ≤ 2 := by
  have honeTwo : ∀ n : Nat, (n = 1 ∨ n = 2) ↔ 1 ≤ n ∧ n ≤ 2 := by omega
  simp only [decTableOk, Bool.and_eq_true, beq_iff_eq, List.all_eq_true, decide_eq_true_eq, List.mem_range, Bool.or_eq_true, honeTwo, and_assoc]

theorem methodOk_one_of_refused_table (digits pvki : Nat) {table : Bytes} (htable : decTableOk table = false) :
    methodOk 1 digits pvki table = false := by
  simp [methodOk, htable]

theorem calcParams_of_refused_table {c : Ctx} (hmethod : byteAt c.f 48 = 1) (htable : decTableOk (slice c.f 88 16) = false) : calcParams c = false := by
  simp [calcParams, hmethod, methodOk_one_of_refused_table _ _ htable]

theorem checkPinCalc_of_refused_table {c : Ctx} (s : State) (hmethod : byteAt c.f 48 = 1) (htable : decTableOk (slice c.f 88 16) = false) :
    checkPinCalc c s = some (statusOnly Status.paramRejected) := by
  simp [checkPinCalc, refuse, calcParams_of_refused_table hmethod htable]

theorem checkPinVerify_of_refused_table {c : Ctx} (s : State) (hmethod : byteAt c.f 48 = 1) (htable : decTableOk (slice c.f 88 16) = false) :
    checkPinVerify c s = some (statusOnly Status.paramRejected) := by
  simp [checkPinVerify, calcParams_of_refused_table hmethod htable]

theorem checkPinGenerate_of_refused_table {c : Ctx} (s : State) (hmethod : byteAt c.f 48 = 1) (htable : decTableOk (slice c.f 72 16) = false) :
    checkPinGenerate c s = some (statusOnly Status.paramRejected) := by
  simp [checkPinGenerate, refuse, hmethod, methodOk_one_of_refused_table _ _ htable]

/-- What R121 asks, on the primary copy: PIN_CALC, PIN_VERIFY and PIN_GENERATE that name METHOD 1 with a refused table answer PARAM_REJECTED and change nothing. -/
theorem exec_pin_of_refused_table (cell : Fin 128) (s : State) (c : Ctx) (code : Nat) (row : Fin 128 → Instr) (method table : Nat)
    (hrow : (code, row, method, table) ∈ [(0x0102, (.pinCalc : Fin 128 → Instr), 48, 88), (0x0103, .pinVerify, 48, 88), (0x0104, .pinGenerate, 48, 72)])
    (hheld : heldCommand cell code s = some c) (hsec : (cellRegs s cell).secondary = false) (hwait : mustWait s c = false)
    (haway : turnedAway s c = false) (hmethod : byteAt c.f method = 1) (htable : decTableOk (slice c.f table 16) = false) :
    exec (row cell) s = .next (answerFn c.t (statusOnly Status.paramRejected) [] s) := by
  simp only [List.mem_cons, Prod.mk.injEq, List.not_mem_nil, or_false] at hrow
  obtain ⟨rfl, rfl, rfl, rfl⟩ | ⟨rfl, rfl, rfl, rfl⟩ | ⟨rfl, rfl, rfl, rfl⟩ := hrow
  · exact congrArg Host.Outcome.next (runFn_of_refused runPinCalc hheld hsec hwait haway (checkPinCalc_of_refused_table s hmethod htable))
  · exact congrArg Host.Outcome.next (runFn_of_refused runPinVerify hheld hsec hwait haway (checkPinVerify_of_refused_table s hmethod htable))
  · exact congrArg Host.Outcome.next (runFn_of_refused runPinGenerate hheld hsec hwait haway (checkPinGenerate_of_refused_table s hmethod htable))

/-! The counterexample: a PIN_CALC taken twice, its primary copy by cell 0 and its secondary copy by cell 8 of the next wing (10 R261). -/

/-- A stream of the house gallery. -/
def dualSid : StreamId := { gallery := 0, place := 0, fn := 0, stream := 0 }

/-- PIN_CALC with METHOD 1, DIGITS 4 and the PAN 4111111111111111, and the table of sixteen zeros, which R121 refuses. -/
def zeroTableFrame : Bytes :=
  leBytes 2 0x0102 ++ zeros 46 ++ [1, 0, 4, 0] ++ zeros 4 ++ [16, 0x41, 0x11, 0x11, 0x11, 0x11, 0x11, 0x11, 0x11] ++ zeros 47

/-- The command, taken by both cells and answered by neither. -/
def dualPinCalc : Desc :=
  { flow := 0, seq := 1, function := 0x0102, frame := zeroTableFrame, digest := 0, st := .inService, dual := true, rights := defaultRow
    keys := List.replicate 2 (some { noHeldKey with alg := 84, material := zeros 16, exportable := 69 })
    copies := [{ cell := 0, secondary := false, complete := false, takenAt := 0 }, { cell := 8, secondary := true, complete := false, takenAt := 0 }] }

/-- The house gallery. -/
def dualGallery : Gallery := { desc := defaultTemplate, index := 0, inst := 0, rootKey := zeros 32, rights := defaultRow }

/-- The module with that command in its two cells. -/
def dualState : State :=
  { State.reset with
    doc := { State.reset.doc with
      cells := [(0, { held := some 65535 }), (8, { held := some 65535, secondary := true })]
      descs := [(65535, dualPinCalc)]
      flows := [(0, { sid := dualSid, next := 2, rel := 1 })] }
    vit := { State.reset.vit with galleries := [(0, dualGallery)] } }

/-- What cell 8 holds. -/
def secondaryCtx : Ctx := { cell := 8, t := 65535, d := dualPinCalc, sid := dualSid, g := 0, gal := asTaken dualPinCalc dualGallery }

theorem heldCommand_dualState : heldCommand 8 0x0102 dualState = some secondaryCtx := rfl

/-- Refutes O25: the table test is R121's, but cell 8, which holds the secondary copy of a PIN_CALC with a refused table, leaves the command's response to the primary (10 R261); on the primary copy `exec_pin_of_refused_table` shows what the statement says. -/
theorem not_decimalisationTables : ¬ Obligations.DecimalisationTables := by
  unfold Obligations.DecimalisationTables
  rintro ⟨-, hall⟩
  have hwait : mustWait dualState secondaryCtx = false := by decide
  have haway : turnedAway dualState secondaryCtx = false := by decide
  have htable : decTableOk (slice secondaryCtx.f 88 16) = false := by decide
  have hanswer : exec (.pinCalc 8) dualState = .next (answerFn 65535 (statusOnly Status.paramRejected) [] dualState) :=
    hall 8 dualState secondaryCtx 0x0102 .pinCalc 48 88 (.head _) heldCommand_dualState hwait haway rfl htable
  have hrun : exec (.pinCalc 8) dualState = .next (runSecondary secondaryCtx checkPinCalc (fun c s => applyFn c runPinCalc s) dualState) :=
    congrArg Host.Outcome.next (runFn_of_secondary checkPinCalc runPinCalc heldCommand_dualState rfl)
  rw [hrun, Host.Outcome.next.injEq] at hanswer
  exact runSecondary_ne_answerFn (c := secondaryCtx) _ _ _ _ rfl rfl hanswer

end Sys2Proof.Machine

/-!
PROOFS, 13 errors and recovery: escalation (13 R322). What a COMMAND error writes of itself is named `recordCommandError`; it changes the errors and the counters only, so it cannot quarantine the unit's wing, and a second error of the unit within 1 s goes from it to the WING handler.
-/

namespace Sys2Proof.Machine

/-! The wing's counters of events lie in the counters alone. -/

theorem bumpCounter_cnt (w fuel n k : Nat) (s : State) : bumpCounter w fuel n k s = { s with cnt := (bumpCounter w fuel n k s).cnt } := by
  induction fuel generalizing n k s with
  | zero => rfl
  | succ fuel ih =>
    rw [bumpCounter]
    dsimp only
    split
    · rw [ih]
    · rfl

theorem foldl_cnt {β : Type} (g : State → β → State) (h : ∀ s x, g s x = { s with cnt := (g s x).cnt }) (l : List β) (s : State) :
    l.foldl g s = { s with cnt := (l.foldl g s).cnt } := by
  induction l generalizing s with
  | nil => rfl
  | cons x l ih => rw [List.foldl_cons, ih, h]

theorem countEvent_cnt (w e k : Nat) (g : Option Nat) (s : State) : countEvent w e k g s = { s with cnt := (countEvent w e k g s).cnt } := by
  unfold countEvent
  split
  · rfl
  · refine foldl_cnt _ (fun s n => ?_) _ s
    dsimp only
    split
    · exact bumpCounter_cnt ..
    · rfl

/-! A COMMAND error of a unit. -/

theorem unitWing_lt {unit : Nat} (h : unit < 176) : unitWing unit < 16 := by
  unfold unitWing
  rw [if_pos h]
  split <;> omega

theorem wingErr_updWingErr_same (w : Nat) (f : WingErr → WingErr) (s : State) : wingErr (updWingErr w f s) w = f (wingErr s w) := by
  unfold wingErr updWingErr
  rw [mgetD_mupd, if_pos rfl]

/-- The times that a COMMAND error of a unit leaves: its own among all of them, and under its unit beside those of the last second (R322). -/
def stampUnit (unit : Nat) (s : State) : State :=
  { s with err := { s.err with
      times := s.now :: recent 1000000000 s.now s.err.times
      byUnit := (unit, s.now) :: s.err.byUnit.filter (fun p => decide (s.now < p.2 + 1000000000)) } }

/-- What a COMMAND error writes of itself before it is handled: its time, the wing's count and last cause, and the wing's event 14 (R322, R333). -/
def recordCommandError (code t unit : Nat) (s : State) : State :=
  countEvent (unitWing unit) 14 1 ((commandAt s t).head?.map (·.1.gallery))
    (updWingErr (unitWing unit) (fun e => { e with command := sat 0xFFFF (e.command + 1), lastCause := code }) (stampUnit unit s))

theorem recordCommandError_err (code t unit : Nat) (s : State) : (recordCommandError code t unit s).err =
    (updWingErr (unitWing unit) (fun e => { e with command := sat 0xFFFF (e.command + 1), lastCause := code }) (stampUnit unit s)).err := by
  rw [recordCommandError, countEvent_cnt]

theorem recordCommandError_only (code t unit : Nat) (s : State) : recordCommandError code t unit s =
    { s with err := (recordCommandError code t unit s).err, cnt := (recordCommandError code t unit s).cnt } := by
  rw [recordCommandError, countEvent_cnt]
  rfl

theorem wing_recordCommandError (code t unit w : Nat) (s : State) : wing (recordCommandError code t unit s) w = wing s w := by
  rw [recordCommandError_only]
  rfl

theorem wingErr_recordCommandError (code t unit : Nat) (s : State) : wingErr (recordCommandError code t unit s) (unitWing unit) =
    { wingErr s (unitWing unit) with command := sat 0xFFFF ((wingErr s (unitWing unit)).command + 1), lastCause := code } := by
  rw [wingErr, recordCommandError_err]
  exact wingErr_updWingErr_same _ _ (stampUnit unit s)

theorem mem_byUnit_recordCommandError (code t unit : Nat) (s : State) : (unit, s.now) ∈ (recordCommandError code t unit s).err.byUnit := by
  rw [recordCommandError_err]
  exact List.mem_cons_self

/-- The errors of the units show one of this unit less than 1 s ago. -/
theorem any_byUnit_of_mem {unit first : Nat} {s : State} (hmem : (unit, first) ∈ s.err.byUnit) (hnow : s.now < first + 1000000000) :
    s.err.byUnit.any (fun p => p.1 == unit && decide (s.now < p.2 + 1000000000)) = true :=
  List.any_eq_true.2 ⟨_, hmem, by simpa using hnow⟩

/-- A second COMMAND error of a unit within 1 s: its record, then the WING handler for the unit's wing (R322). -/
theorem commandError_of_again {code unit first : Nat} {s : State} (t : Nat)
    (hmode : (s.pow.mode == .vault || s.pow.mode == .tampered || s.pow.mode == .halt) = false) (hjournal : code = 0x24 → paired s = false)
    (hunit : unit < 176) (hwing : (wing s (unitWing unit)).quarantined = false) (hmem : (unit, first) ∈ s.err.byUnit)
    (hnow : s.now < first + 1000000000) :
    commandError code t unit s = wingError code (unitWing unit) (recordCommandError code t unit s) := by
  have hlt := unitWing_lt hunit
  have hmodule : ¬(code = 0x24 && paired s) = true := by
    simp only [Bool.and_eq_true, decide_eq_true_eq, not_and, Bool.not_eq_true]
    exact hjournal
  have hagain := any_byUnit_of_mem hmem hnow
  have hquar : ¬(wing (recordCommandError code t unit s) (unitWing unit)).quarantined = true := by
    rw [wing_recordCommandError, hwing]
    exact Bool.false_ne_true
  unfold commandError
  rw [hmode, if_neg Bool.false_ne_true, if_neg hmodule]
  dsimp only
  rw [if_pos hlt, if_pos hlt, hagain]
  change (if (decide (unitWing unit < 16) && (wing (recordCommandError code t unit s) (unitWing unit)).quarantined) = true then _ else _) = _
  rw [if_neg (by simp [hquar]), if_pos (by simp [hlt])]
  rfl

/-- Settles O51: the error's record touches the errors and the counters only, so the wing is still not quarantined and the WING handler is called. -/
theorem commandErrorEscalates : Obligations.CommandErrorEscalates := by
  intro code unit ticket first s hcode hjournal hvault htampered hhalt hunit hwing hmem hnow
  have hexec : exec (.commandError code ticket unit) s = .next (commandError code ticket unit s) := by
    show execCommandError code ticket unit s = _
    rw [execCommandError, if_pos hcode]
  have hmode : (s.pow.mode == .vault || s.pow.mode == .tampered || s.pow.mode == .halt) = false := by simp [hvault, htampered, hhalt]
  refine ⟨recordCommandError code ticket unit s, ?_, recordCommandError_only .., wingErr_recordCommandError .., mem_byUnit_recordCommandError ..⟩
  rw [hexec, commandError_of_again ticket hmode hjournal hunit hwing hmem hnow]

end Sys2Proof.Machine

/-!
PROOFS, the machine as a whole: every command completes (`exec_completes`), and every command and every step keep the invariants that the laws `vital_f` and `ok_f` of its meaning speak of (`ok_exec`, `ok_step`).
-/

namespace Sys2Proof.Machine

set_option Elab.async false

open Safety

/-- Every command completes: where its meaning branches, each branch ends in a next state. -/
theorem exec_completes (c : Instr) (s : State) : ∃ t, exec c s = .next t := by
  cases c
  case
      barWrite | submitSlotWrite | largeFramePortWrite | responseAreaRead | slotCopyDone | largeFrameCopyDone | streamDrained | holdoffExpiry | functionLevelResetDone |
      perstAssert | perstDeassert | pwronResetAssert | pwronResetDeassert | docTake | takeTimeout | docDoneComplete | docDonePark | docDoneRetry | tokenRefill | gapTimeOut |
      deadline | operationIdleTimeOut | unbindDrainTimeOut | unbindComplete | cenOp | cenNonceRead | hsuOp | engineClearDone | engineHoldOverrun | engineSelfCheckDone |
      seedRefillDone | pkuRelease | pkuAbandon | pkuCfgWrite | pkuWipeDone | pkuHoldOverrun | pkuSelfCheckDone | meterMark | spanLinkUp | withdrawSend | crossfeedTimeout |
      loanCurrencyTimeout | loanAckTimeout | forwardRetry | resyncComplete | rehandshakeDue | heartbeatEdge | dualActWindowClose | pairStartTimeout | wingRestorationDone |
      cellWatchdog | containedHaltTimeout | vitrineLineFail | curatorRestart | loopDriveStep | loopCompare | loopEdgeMismatch | tamperCollectionEnd | tempSample | inputSample |
      keySwitchTimeout | lockoutEnd | vauxRestore | avsbusAck | avsbusTimeout | wingClockSwitch | quiesceDrainTimeout | quiesceComplete | thermalEstimate | thermalReturn |
      wingPlacement | wingWakeRequest | wingWakeDone | updateAgentTimeout | antiRollbackBurn | lcsTransitionMessage | conservatorRunDone | instructionSample | vbatLoss |
      meterArchiveCopy =>
    simp only [exec,
      execBarWrite, execSubmitSlotWrite, execLargeFramePortWrite, execResponseAreaRead, execSlotCopyDone, execLargeFrameCopyDone, execStreamDrained, execHoldoffExpiry,
      execFunctionLevelResetDone, execPerstAssert, execPerstDeassert, execPwronResetAssert, execPwronResetDeassert, execDocTake, execTakeTimeout, execDocDoneComplete,
      execDocDonePark, execDocDoneRetry, execTokenRefill, execGapTimeOut, execDeadline, execOperationIdleTimeOut, execUnbindDrainTimeOut, execUnbindComplete, execCenOp,
      execCenNonceRead, execHsuOp, execEngineClearDone, execEngineHoldOverrun, execEngineSelfCheckDone, execSeedRefillDone, execPkuRelease, execPkuAbandon, execPkuCfgWrite,
      execPkuWipeDone, execPkuHoldOverrun, execPkuSelfCheckDone, execMeterMark, execSpanLinkUp, execWithdrawSend, execCrossfeedTimeout, execLoanCurrencyTimeout,
      execLoanAckTimeout, execForwardRetry, execResyncComplete, execRehandshakeDue, execHeartbeatEdge, execDualActWindowClose, execPairStartTimeout, execWingRestorationDone,
      execCellWatchdog, execContainedHaltTimeout, execVitrineLineFail, execCuratorRestart, execLoopDriveStep, execLoopCompare, execLoopEdgeMismatch, execTamperCollectionEnd,
      execTempSample, execInputSample, execKeySwitchTimeout, execLockoutEnd, execVauxRestore, execAvsbusAck, execAvsbusTimeout, execWingClockSwitch, execQuiesceDrainTimeout,
      execQuiesceComplete, execThermalEstimate, execThermalReturn, execWingPlacement, execWingWakeRequest, execWingWakeDone, execUpdateAgentTimeout, execAntiRollbackBurn,
      execLcsTransitionMessage, execConservatorRunDone, execInstructionSample, execVbatLoss, execMeterArchiveCopy]
    repeat' split
    all_goals exact ⟨_, rfl⟩
  all_goals exact ⟨_, rfl⟩

theorem OkV.of_vital {b : Under} {p : List Instr} {f : Fuses} {s t : State} (h : OkV b p f (vital s)) (ht : vital t = vital s) : OkV b p f (vital t) := by
  rwa [ht]

/-- A command keeps the queue and the invariants: one law of its meaning for each row. -/
theorem ok_exec {b : Under} {p : List Instr} {f : Fuses} (c : Instr) {s t : State} (h : OkV b p f (vital s)) (ht : exec c s = .next t) : OkV b p f (vital t) := by
  cases c with
  | barWrite => exact ok_execBarWrite _ _ _ _ s h t ht
  | submitSlotWrite => exact h.of_vital (vital_execSubmitSlotWrite _ _ _ _ _ _ s t ht)
  | largeFramePortWrite => exact h.of_vital (vital_execLargeFramePortWrite _ _ _ _ _ s t ht)
  | responseAreaRead => exact h.of_vital (vital_execResponseAreaRead _ _ _ _ _ s t ht)
  | commit => exact h.of_vital (vital_execCommit _ _ _ s t ht)
  | largeCommit => exact h.of_vital (vital_execLargeCommit _ _ _ s t ht)
  | slotCopyDone => exact h.of_vital (vital_execSlotCopyDone _ _ _ s t ht)
  | largeFrameCopyDone => exact h.of_vital (vital_execLargeFrameCopyDone _ _ s t ht)
  | streamEnable => exact h.of_vital (vital_execStreamEnable _ _ _ s t ht)
  | streamDisable => exact h.of_vital (vital_execStreamDisable _ _ _ s t ht)
  | streamDrained => exact h.of_vital (vital_execStreamDrained _ _ s t ht)
  | winRespAck => exact h.of_vital (vital_execWinRespAck _ _ _ s t ht)
  | winEventMaskWrite => exact h.of_vital (vital_execWinEventMaskWrite _ _ s t ht)
  | winMevMaskWrite => exact h.of_vital (vital_execWinMevMaskWrite _ _ s t ht)
  | msixTableWrite => exact h.of_vital (vital_execMsixTableWrite _ _ _ _ s t ht)
  | pcieConfigWrite => exact h.of_vital (vital_execPcieConfigWrite _ _ _ _ s t ht)
  | holdoffExpiry => exact h.of_vital (vital_execHoldoffExpiry _ s t ht)
  | functionLevelReset => exact h.of_vital (vital_execFunctionLevelReset _ s t ht)
  | functionLevelResetDone => exact h.of_vital (vital_execFunctionLevelResetDone _ s t ht)
  | perstAssert => exact ok_execPerstAssert _ s h t ht
  | perstDeassert => exact ok_execPerstDeassert s h t ht
  | pwronResetAssert => exact ok_execPwronResetAssert _ s h t ht
  | pwronResetDeassert => exact ok_execPwronResetDeassert s h t ht
  | pcieLinkDown => exact h.of_vital (vital_execPcieLinkDown s t ht)
  | start => exact ok_execStart _ _ s h t ht
  | docTake => exact h.of_vital (vital_execDocTake _ s t ht)
  | takeTimeout => exact h.of_vital (vital_execTakeTimeout _ s t ht)
  | docDoneComplete => exact h.of_vital (vital_execDocDoneComplete _ _ s t ht)
  | docDonePark => exact h.of_vital (vital_execDocDonePark _ _ _ _ s t ht)
  | docDoneRetry => exact h.of_vital (vital_execDocDoneRetry _ _ s t ht)
  | parkSignal => exact h.of_vital (vital_execParkSignal _ _ s t ht)
  | responseRelease => exact h.of_vital (vital_execResponseRelease _ s t ht)
  | responsePublish => exact h.of_vital (vital_execResponsePublish _ _ s t ht)
  | tickBoundary => exact h.of_vital (vital_execTickBoundary s t ht)
  | modeAndQuotaChanges => exact h.of_vital (vital_execModeAndQuotaChanges s t ht)
  | tokenRefill => exact h.of_vital (vital_execTokenRefill s t ht)
  | gapTimeOut => exact h.of_vital (vital_execGapTimeOut _ s t ht)
  | deadline => exact h.of_vital (vital_execDeadline _ s t ht)
  | operationIdleTimeOut => exact h.of_vital (vital_execOperationIdleTimeOut _ _ s t ht)
  | unbindDrainTimeOut => exact h.of_vital (vital_execUnbindDrainTimeOut _ s t ht)
  | unbindComplete => exact h.of_vital (vital_execUnbindComplete _ s t ht)
  | tickUsWrite => exact h.of_vital (vital_execTickUsWrite _ s t ht)
  | histClear => exact h.of_vital (vital_execHistClear s t ht)
  | pinTranslate => exact h.of_vital (vital_execPinTranslate _ s t ht)
  | pinCalc => exact h.of_vital (vital_execPinCalc _ s t ht)
  | pinVerify => exact h.of_vital (vital_execPinVerify _ s t ht)
  | pinGenerate => exact h.of_vital (vital_execPinGenerate _ s t ht)
  | pinTrySet => exact h.of_vital (vital_execPinTrySet _ s t ht)
  | cvvGenerate => exact h.of_vital (vital_execCvvGenerate _ s t ht)
  | cvvVerify => exact h.of_vital (vital_execCvvVerify _ s t ht)
  | arqcVerify => exact h.of_vital (vital_execArqcVerify _ s t ht)
  | scriptMac => exact h.of_vital (vital_execScriptMac _ s t ht)
  | scriptEncrypt => exact h.of_vital (vital_execScriptEncrypt _ s t ht)
  | dukptPinTranslate => exact h.of_vital (vital_execDukptPinTranslate _ s t ht)
  | dukptDecrypt => exact h.of_vital (vital_execDukptDecrypt _ s t ht)
  | dukptMacVerify => exact h.of_vital (vital_execDukptMacVerify _ s t ht)
  | dukptInitialKeyExport => exact h.of_vital (vital_execDukptInitialKeyExport _ s t ht)
  | dukptOriginate => exact h.of_vital (vital_execDukptOriginate _ s t ht)
  | macGenerate => exact h.of_vital (vital_execMacGenerate _ s t ht)
  | macVerify => exact h.of_vital (vital_execMacVerify _ s t ht)
  | keyblockImport => exact h.of_vital (vital_execKeyblockImport _ s t ht)
  | keyblockExport => exact h.of_vital (vital_execKeyblockExport _ s t ht)
  | rklExport => exact h.of_vital (vital_execRklExport _ s t ht)
  | dataEncrypt => exact h.of_vital (vital_execDataEncrypt _ s t ht)
  | dataDecrypt => exact h.of_vital (vital_execDataDecrypt _ s t ht)
  | ff1Encrypt => exact h.of_vital (vital_execFf1Encrypt _ s t ht)
  | ff1Decrypt => exact h.of_vital (vital_execFf1Decrypt _ s t ht)
  | cipherEncrypt => exact h.of_vital (vital_execCipherEncrypt _ s t ht)
  | cipherDecrypt => exact h.of_vital (vital_execCipherDecrypt _ s t ht)
  | aeadSeal => exact h.of_vital (vital_execAeadSeal _ s t ht)
  | aeadOpen => exact h.of_vital (vital_execAeadOpen _ s t ht)
  | aeadSealChunked => exact h.of_vital (vital_execAeadSealChunked _ s t ht)
  | aeadOpenEscrowed => exact h.of_vital (vital_execAeadOpenEscrowed _ s t ht)
  | hash => exact h.of_vital (vital_execHash _ s t ht)
  | hmacGenerate => exact h.of_vital (vital_execHmacGenerate _ s t ht)
  | hmacVerify => exact h.of_vital (vital_execHmacVerify _ s t ht)
  | kdf => exact h.of_vital (vital_execKdf _ s t ht)
  | hashChunked => exact h.of_vital (vital_execHashChunked _ s t ht)
  | hmacChunked => exact h.of_vital (vital_execHmacChunked _ s t ht)
  | ecdsaSign => exact h.of_vital (vital_execEcdsaSign _ s t ht)
  | ecdsaVerify => exact h.of_vital (vital_execEcdsaVerify _ s t ht)
  | eddsaSign => exact h.of_vital (vital_execEddsaSign _ s t ht)
  | eddsaVerify => exact h.of_vital (vital_execEddsaVerify _ s t ht)
  | rsaSign => exact h.of_vital (vital_execRsaSign _ s t ht)
  | rsaVerify => exact h.of_vital (vital_execRsaVerify _ s t ht)
  | mldsaSign => exact h.of_vital (vital_execMldsaSign _ s t ht)
  | mldsaVerify => exact h.of_vital (vital_execMldsaVerify _ s t ht)
  | ecdh => exact h.of_vital (vital_execEcdh _ s t ht)
  | ecdhEphemeral => exact h.of_vital (vital_execEcdhEphemeral _ s t ht)
  | mlkemEncaps => exact h.of_vital (vital_execMlkemEncaps _ s t ht)
  | mlkemDecaps => exact h.of_vital (vital_execMlkemDecaps _ s t ht)
  | rsaOaepDecrypt => exact h.of_vital (vital_execRsaOaepDecrypt _ s t ht)
  | curveLoad => exact h.of_vital (vital_execCurveLoad _ s t ht)
  | curveQuery => exact h.of_vital (vital_execCurveQuery _ s t ht)
  | randomBytes => exact h.of_vital (vital_execRandomBytes _ s t ht)
  | accession => exact h.of_vital (vital_execAccession _ s t ht)
  | deaccession => exact h.of_vital (vital_execDeaccession _ s t ht)
  | keyQuery => exact h.of_vital (vital_execKeyQuery _ s t ht)
  | accessionInfo => exact h.of_vital (vital_execAccessionInfo _ s t ht)
  | galleryCreate => exact h.of_vital (vital_execGalleryCreate _ s t ht)
  | galleryBind => exact h.of_vital (vital_execGalleryBind _ s t ht)
  | galleryUnbind => exact h.of_vital (vital_execGalleryUnbind _ s t ht)
  | galleryRemove => exact h.of_vital (vital_execGalleryRemove _ s t ht)
  | gallerySet => exact h.of_vital (vital_execGallerySet _ s t ht)
  | galleryRights => exact h.of_vital (vital_execGalleryRights _ s t ht)
  | galleryQuery => exact h.of_vital (vital_execGalleryQuery _ s t ht)
  | meterRead => exact h.of_vital (vital_execMeterRead _ s t ht)
  | meterAck => exact h.of_vital (vital_execMeterAck _ s t ht)
  | modeSet => exact ok_execModeSet _ s h t ht
  | ceremonyAccession => exact h.of_vital (vital_execCeremonyAccession _ s t ht)
  | pairSwap => exact h.of_vital (vital_execPairSwap _ s t ht)
  | pairTakeover => exact h.of_vital (vital_execPairTakeover _ s t ht)
  | migrateBegin => exact h.of_vital (vital_execMigrateBegin _ _ s t ht)
  | migrateCut => exact h.of_vital (vital_execMigrateCut _ s t ht)
  | migrateEnd => exact h.of_vital (vital_execMigrateEnd _ s t ht)
  | migrateAbort => exact h.of_vital (vital_execMigrateAbort _ s t ht)
  | loanCreate => exact h.of_vital (vital_execLoanCreate _ _ s t ht)
  | loanEnd => exact h.of_vital (vital_execLoanEnd _ s t ht)
  | lcsTransition => exact ok_execLcsTransition _ s h t ht
  | countersRead => exact h.of_vital (vital_execCountersRead _ s t ht)
  | cenClaim => exact h.of_vital (vital_execCenClaim _ s t ht)
  | cenGrantRead => exact h.of_vital (vital_execCenGrantRead _ s t ht)
  | cenRelease => exact h.of_vital (vital_execCenRelease _ s t ht)
  | cenKeyload => exact h.of_vital (vital_execCenKeyload _ _ _ s t ht)
  | cenKeyloadStep => exact h.of_vital (vital_execCenKeyloadStep _ _ _ s t ht)
  | cenOp => exact h.of_vital (vital_execCenOp _ _ _ _ s t ht)
  | cenOpDone => exact h.of_vital (vital_execCenOpDone _ s t ht)
  | cenStatusRead => exact h.of_vital (vital_execCenStatusRead _ s t ht)
  | cenNonceRead => exact h.of_vital (vital_execCenNonceRead _ s t ht)
  | hsuClaim => exact h.of_vital (vital_execHsuClaim _ s t ht)
  | hsuGrantRead => exact h.of_vital (vital_execHsuGrantRead _ s t ht)
  | hsuRelease => exact h.of_vital (vital_execHsuRelease _ s t ht)
  | hsuKeyload => exact h.of_vital (vital_execHsuKeyload _ _ _ _ s t ht)
  | hsuOp => exact h.of_vital (vital_execHsuOp _ _ _ _ s t ht)
  | hsuStatusRead => exact h.of_vital (vital_execHsuStatusRead _ s t ht)
  | engineClearDone => exact h.of_vital (vital_execEngineClearDone _ _ _ s t ht)
  | engineHoldOverrun => exact h.of_vital (vital_execEngineHoldOverrun _ _ s t ht)
  | engineFaultAlarm => exact h.of_vital (vital_execEngineFaultAlarm _ _ _ s t ht)
  | engineSelfCheckDone => exact h.of_vital (vital_execEngineSelfCheckDone _ _ _ s t ht)
  | maskSeedChange => exact h.of_vital (vital_execMaskSeedChange _ s t ht)
  | seedRefillDone => exact h.of_vital (vital_execSeedRefillDone _ s t ht)
  | pkuClaim => exact h.of_vital (vital_execPkuClaim _ s t ht)
  | pkuGrantRead => exact h.of_vital (vital_execPkuGrantRead _ s t ht)
  | pkuRelease => exact ok_execPkuRelease _ s h t ht
  | pkuAbandon => exact h.of_vital (vital_execPkuAbandon _ s t ht)
  | pkuCfgWrite => exact h.of_vital (vital_execPkuCfgWrite _ _ _ s t ht)
  | mac => exact h.of_vital (vital_execMac _ _ s t ht)
  | macShift => exact h.of_vital (vital_execMacShift _ _ s t ht)
  | loadAcc => exact h.of_vital (vital_execLoadAcc _ _ s t ht)
  | storeAcc => exact h.of_vital (vital_execStoreAcc _ _ s t ht)
  | pkuDmaIn => exact ok_execPkuDmaIn _ _ _ _ s h t ht
  | pkuDmaOut => exact ok_execPkuDmaOut _ _ _ s h t ht
  | pkuDmaDone => exact ok_execPkuDmaDone _ s h t ht
  | pkuStatusRead => exact ok_execPkuStatusRead _ s h t ht
  | pkuWipeDone => exact h.of_vital (vital_execPkuWipeDone _ _ s t ht)
  | pkuHoldOverrun => exact h.of_vital (vital_execPkuHoldOverrun _ s t ht)
  | pkuFaultAlarm => exact h.of_vital (vital_execPkuFaultAlarm _ s t ht)
  | pkuSelfCheckDone => exact h.of_vital (vital_execPkuSelfCheckDone _ _ s t ht)
  | entropyBlock => exact ok_execEntropyBlock _ _ s h t ht
  | healthTestFail => exact ok_execHealthTestFail _ _ s h t ht
  | sourceStartUpDone => exact h.of_vital (vital_execSourceStartUpDone _ s t ht)
  | drbgReseedDone => exact h.of_vital (vital_execDrbgReseedDone _ s t ht)
  | drbgInstantiateDone => exact h.of_vital (vital_execDrbgInstantiateDone _ s t ht)
  | meterMark => exact h.of_vital (vital_execMeterMark s t ht)
  | spanLinkUp => exact h.of_vital (vital_execSpanLinkUp _ _ s t ht)
  | spanLinkDown => exact h.of_vital (vital_execSpanLinkDown _ s t ht)
  | hello => exact h.of_vital (vital_execHello _ _ s t ht)
  | keyconfirm => exact h.of_vital (vital_execKeyconfirm _ _ s t ht)
  | idle => exact h.of_vital (vital_execIdle _ s t ht)
  | idleDue => exact h.of_vital (vital_execIdleDue s t ht)
  | probe => exact h.of_vital (vital_execProbe _ s t ht)
  | echo => exact h.of_vital (vital_execEcho _ _ _ s t ht)
  | hopMeasurementDue => exact h.of_vital (vital_execHopMeasurementDue _ s t ht)
  | withdraw => exact h.of_vital (vital_execWithdraw _ s t ht)
  | withdrawSend => exact h.of_vital (vital_execWithdrawSend s t ht)
  | position => exact h.of_vital (vital_execPosition _ _ s t ht)
  | crossfeedTimeout => exact h.of_vital (vital_execCrossfeedTimeout _ s t ht)
  | crossfeed => exact h.of_vital (vital_execCrossfeed _ _ _ s t ht)
  | delta => exact h.of_vital (vital_execDelta _ _ s t ht)
  | deltaAck => exact h.of_vital (vital_execDeltaAck _ _ s t ht)
  | loanDelta => exact h.of_vital (vital_execLoanDelta _ _ s t ht)
  | loanAck => exact h.of_vital (vital_execLoanAck _ _ s t ht)
  | currency => exact h.of_vital (vital_execCurrency _ _ s t ht)
  | currencyDue => exact h.of_vital (vital_execCurrencyDue s t ht)
  | loanCurrencyTimeout => exact h.of_vital (vital_execLoanCurrencyTimeout _ s t ht)
  | loanAckTimeout => exact h.of_vital (vital_execLoanAckTimeout _ s t ht)
  | forward => exact h.of_vital (vital_execForward _ _ _ s t ht)
  | forwardRsp => exact h.of_vital (vital_execForwardRsp _ _ _ _ _ s t ht)
  | forwardRetry => exact h.of_vital (vital_execForwardRetry _ s t ht)
  | resyncData => exact h.of_vital (vital_execResyncData _ _ s t ht)
  | resyncEnd => exact h.of_vital (vital_execResyncEnd _ s t ht)
  | resyncComplete => exact h.of_vital (vital_execResyncComplete s t ht)
  | stateData => exact h.of_vital (vital_execStateData _ _ s t ht)
  | stateEnd => exact h.of_vital (vital_execStateEnd _ s t ht)
  | rehandshakeDue => exact h.of_vital (vital_execRehandshakeDue _ s t ht)
  | pairLinkSilence => exact h.of_vital (vital_execPairLinkSilence s t ht)
  | heartbeatToggle => exact h.of_vital (vital_execHeartbeatToggle s t ht)
  | heartbeatEdge => exact h.of_vital (vital_execHeartbeatEdge s t ht)
  | heartbeatSilent => exact h.of_vital (vital_execHeartbeatSilent s t ht)
  | dualActWindowClose => exact h.of_vital (vital_execDualActWindowClose s t ht)
  | pairStartTimeout => exact h.of_vital (vital_execPairStartTimeout s t ht)
  | commandError => exact h.of_vital (vital_execCommandError _ _ _ s t ht)
  | wingError => exact h.of_vital (vital_execWingError _ _ s t ht)
  | wingRestorationDone => exact h.of_vital (vital_execWingRestorationDone _ _ s t ht)
  | cellWatchdog => exact h.of_vital (vital_execCellWatchdog _ s t ht)
  | moduleError => exact h.of_vital (vital_execModuleError _ s t ht)
  | containedHaltTimeout => exact ok_execContainedHaltTimeout s h t ht
  | fatalError => exact ok_execFatalError _ s h t ht
  | vitrineLineFail => exact ok_execVitrineLineFail _ _ _ s h t ht
  | eccCorrected => exact h.of_vital (vital_execEccCorrected _ s t ht)
  | curatorRestart => exact ok_execCuratorRestart _ s h t ht
  | loopDriveStep => exact h.of_vital (vital_execLoopDriveStep s t ht)
  | loopCompare => exact ok_execLoopCompare _ s h t ht
  | loopEdgeMismatch => exact ok_execLoopEdgeMismatch _ s h t ht
  | tamperCollectionEnd => exact h.of_vital (vital_execTamperCollectionEnd s t ht)
  | tempSample => exact ok_execTempSample _ s h t ht
  | supplyComparator => exact ok_execSupplyComparator _ _ s h t ht
  | xtalFault => exact ok_execXtalFault _ s h t ht
  | railGlitch => exact ok_execRailGlitch _ s h t ht
  | clockGlitch => exact ok_execClockGlitch _ s h t ht
  | inputSample => exact h.of_vital (vital_execInputSample _ s t ht)
  | keySwitchTimeout => exact h.of_vital (vital_execKeySwitchTimeout _ s t ht)
  | lockoutEnd => exact h.of_vital (vital_execLockoutEnd s t ht)
  | transitionBurnDone => exact ok_execTransitionBurnDone s h t ht
  | mainPowerFail => exact ok_execMainPowerFail _ s h t ht
  | powerFailWarning => exact h.of_vital (vital_execPowerFailWarning s t ht)
  | vauxLoss => exact ok_execVauxLoss s h t ht
  | vauxRestore => exact ok_execVauxRestore s h t ht
  | alwaysOnPowerUp => exact ok_execAlwaysOnPowerUp _ _ s h t ht
  | avsbusAck => exact h.of_vital (vital_execAvsbusAck s t ht)
  | avsbusTimeout => exact h.of_vital (vital_execAvsbusTimeout s t ht)
  | wingClockSwitch => exact h.of_vital (vital_execWingClockSwitch _ s t ht)
  | quiesceDrainTimeout => exact h.of_vital (vital_execQuiesceDrainTimeout s t ht)
  | quiesceComplete => exact h.of_vital (vital_execQuiesceComplete s t ht)
  | thermalEstimate => exact h.of_vital (vital_execThermalEstimate _ _ s t ht)
  | thermalReturn => exact h.of_vital (vital_execThermalReturn s t ht)
  | wingPlacement => exact h.of_vital (vital_execWingPlacement s t ht)
  | wingWakeRequest => exact h.of_vital (vital_execWingWakeRequest s t ht)
  | wingWakeDone => exact h.of_vital (vital_execWingWakeDone _ s t ht)
  | sensorSample => exact h.of_vital (vital_execSensorSample _ s t ht)
  | logCheckpoint => exact h.of_vital (vital_execLogCheckpoint s t ht)
  | mailboxSubmit => exact h.of_vital (vital_execMailboxSubmit _ s t ht)
  | mailboxAck => exact h.of_vital (vital_execMailboxAck s t ht)
  | setEndpointId => exact ok_execSetEndpointId _ _ s h t ht
  | getEndpointId => exact ok_execGetEndpointId _ s h t ht
  | getMctpVersionSupport => exact ok_execGetMctpVersionSupport _ _ s h t ht
  | getMessageTypeSupport => exact ok_execGetMessageTypeSupport _ s h t ht
  | getVendorDefinedMessageSupport => exact ok_execGetVendorDefinedMessageSupport _ _ s h t ht
  | getTid => exact ok_execGetTid _ s h t ht
  | getPldmTypes => exact ok_execGetPldmTypes _ s h t ht
  | getPldmCommands => exact ok_execGetPldmCommands _ _ s h t ht
  | getPldmVersion => exact ok_execGetPldmVersion _ _ s h t ht
  | getSensorReading => exact ok_execGetSensorReading _ _ s h t ht
  | getStateSensorReadings => exact ok_execGetStateSensorReadings _ _ s h t ht
  | getPdr => exact ok_execGetPdr _ _ s h t ht
  | getPdrRepositoryInfo => exact ok_execGetPdrRepositoryInfo _ s h t ht
  | setEventReceiver => exact ok_execSetEventReceiver _ _ _ s h t ht
  | requestUpdate => exact ok_execRequestUpdate _ s h t ht
  | passComponentTable => exact ok_execPassComponentTable _ _ s h t ht
  | updateComponent => exact ok_execUpdateComponent _ _ s h t ht
  | requestFirmwareData => exact ok_execRequestFirmwareData _ _ _ s h t ht
  | transferComplete => exact ok_execTransferComplete _ _ s h t ht
  | activateFirmware => exact ok_execActivateFirmware _ s h t ht
  | cancelUpdate => exact ok_execCancelUpdate _ s h t ht
  | updateAgentTimeout => exact ok_execUpdateAgentTimeout s h t ht
  | antiRollbackBurn => exact ok_execAntiRollbackBurn s h t ht
  | getVersion => exact ok_execGetVersion _ s h t ht
  | getCapabilities => exact ok_execGetCapabilities _ s h t ht
  | negotiateAlgorithms => exact ok_execNegotiateAlgorithms _ _ _ s h t ht
  | getDigests => exact ok_execGetDigests _ s h t ht
  | getCertificate => exact ok_execGetCertificate _ _ _ _ s h t ht
  | challenge => exact ok_execChallenge _ _ _ s h t ht
  | getMeasurements => exact ok_execGetMeasurements _ _ _ _ s h t ht
  | inventory => exact ok_execInventory _ s h t ht
  | logRead => exact ok_execLogRead _ _ _ s h t ht
  | tamperRecord => exact ok_execTamperRecord _ s h t ht
  | lcsTransitionMessage => exact ok_execLcsTransitionMessage _ _ _ _ s h t ht
  | debugChallenge => exact ok_execDebugChallenge _ s h t ht
  | debugResponse => exact ok_execDebugResponse _ _ _ s h t ht
  | conservatorRun => exact ok_execConservatorRun _ s h t ht
  | conservatorRunDone => exact h.of_vital (vital_execConservatorRunDone _ _ s t ht)
  | rawSamples => exact ok_execRawSamples _ _ _ _ s h t ht
  | counterSnap => exact h.of_vital (vital_execCounterSnap _ _ s t ht)
  | counterClear => exact h.of_vital (vital_execCounterClear _ s t ht)
  | samplingEnable => exact h.of_vital (vital_execSamplingEnable _ s t ht)
  | instructionSample => exact h.of_vital (vital_execInstructionSample _ _ _ _ s t ht)
  | traceEnable => exact h.of_vital (vital_execTraceEnable _ s t ht)
  | hotReset => exact h.of_vital (vital_execHotReset s t ht)
  | pcieLinkUp => exact h.of_vital (vital_execPcieLinkUp s t ht)
  | gddr6RailLoss => exact ok_execGddr6RailLoss s h t ht
  | vbatLoss => exact ok_execVbatLoss s h t ht
  | powerFailWarningClear => exact h.of_vital (vital_execPowerFailWarningClear s t ht)
  | mctpTransportTimeout => exact h.of_vital (vital_execMctpTransportTimeout s t ht)
  | meterArchiveCopy => exact h.of_vital (vital_execMeterArchiveCopy s t ht)
  | utcOffsetSet => exact h.of_vital (vital_execUtcOffsetSet _ s t ht)
  | docentCopyRepair => exact h.of_vital (vital_execDocentCopyRepair s t ht)

theorem step_of_nil {s : State} (hs : s.pending = []) : step s = .next (idleStep s) := by
  unfold step
  rw [hs]

theorem step_of_cons {c : Instr} {rest : List Instr} {s : State} (hs : s.pending = c :: rest) : step s = exec c { s with pending := rest } := by
  unfold step
  rw [hs]

theorem step_completes (s : State) : ∃ t, step s = .next t := by
  rcases hs : s.pending with _ | ⟨c, rest⟩
  · exact ⟨_, step_of_nil hs⟩
  · exact step_of_cons hs ▸ exec_completes ..

/-- A step takes the front command and keeps the invariants; the idle step changes nothing they speak of. -/
theorem ok_step {b : Under} {f : Fuses} {s t : State} (h : OkV b s.pending f (vital s)) (ht : step s = .next t) : OkV b s.pending.tail f (vital t) := by
  rcases hs : s.pending with _ | ⟨c, rest⟩
  · rw [step_of_nil hs] at ht
    obtain rfl := Host.Outcome.next.inj ht
    rwa [hs] at h
  · rw [step_of_cons hs] at ht
    have hrest : OkV b rest f (vital { s with pending := rest }) := ⟨rfl, h.fuses, h.latch, h.mems⟩
    exact ok_exec c hrest ht

/-! The invariants, read off the law of a step. -/

theorem okV_refl (s : State) : OkV ⟨False, False, False⟩ s.pending s.fuses (vital s) := ⟨rfl, nofun, nofun, nofun⟩

theorem fusesGrow_refl (f : Fuses) : FusesGrow f f := ⟨List.prefix_rfl, le_rfl, le_rfl, id, rfl⟩

/-- Settles O2: every command completes, and the queue is among what the laws of the rows keep. -/
theorem stepTakesOneCommand : Obligations.StepTakesOneCommand := by
  refine ⟨fun c s => ?_, fun s => ?_⟩
  · obtain ⟨t, ht⟩ := exec_completes c s
    exact ⟨t, ht, (ok_exec c (okV_refl s) ht).pending⟩
  · obtain ⟨t, ht⟩ := step_completes s
    exact ⟨t, ht, (ok_step (okV_refl s) ht).pending⟩

/-- Settles O3: growth from the fuses of before, within the budget, is an invariant of a step. -/
theorem fusesOnlyBurn : Obligations.FusesOnlyBurn := by
  intro s t hbudget ht
  have h : OkV ⟨True, False, False⟩ s.pending s.fuses (vital s) := ⟨rfl, fun _ => ⟨fusesGrow_refl _, hbudget⟩, nofun, nofun⟩
  exact (ok_step h ht).fuses trivial

/-- Settles O4: that a set latch leaves no root and no START past step 1 is an invariant of a step. -/
theorem latchKeepsTheRootErased : Obligations.LatchKeepsTheRootErased := by
  intro s t hlatch ht
  have h : OkV ⟨False, True, False⟩ s.pending s.fuses (vital s) := ⟨rfl, nofun, fun _ => hlatch, nofun⟩
  exact (ok_step h ht).latch trivial

/-- Settles O5: the canonical form of the memories is an invariant of a step. -/
theorem memoriesStayCanonical : Obligations.MemoriesStayCanonical := by
  intro s t hmems ht
  have h : OkV ⟨False, False, True⟩ s.pending s.fuses (vital s) := ⟨rfl, nofun, nofun, fun _ => hmems⟩
  exact (ok_step h ht).mems trivial

/-- Settles O1: the two branches of a step. -/
theorem stepRunsTheFrontCommand : Obligations.StepRunsTheFrontCommand :=
  ⟨fun _ _ _ hs => step_of_cons hs, fun _ hs => step_of_nil hs⟩

/-- Settles O6: the invariants and the reset values, read off the state after reset. -/
theorem resetIsSafe : Obligations.ResetIsSafe := by
  have hfuses : FuseBudget State.reset.fuses := ⟨by decide, by decide⟩
  have hmems : MemoriesWf State.reset := ⟨rfl, rfl, rfl, rfl, rfl, rfl, rfl⟩
  exact ⟨hfuses, nofun, hmems, rfl, rfl, rfl, rfl, fun _ _ => ⟨rfl, rfl⟩, fun _ => ⟨rfl, rfl⟩⟩

end Sys2Proof.Machine

/-!
PROOFS, 03 host windows: writes into the submit area, reads of the response area, commits and the ends of their copies (03 R58, R62, R65 to R68, R70). A change of one stream is a change of the endpoint that the other streams do not see.
-/

namespace Sys2Proof.Machine

set_option Elab.async false

/-! Streams after a change of another one. -/

theorem updStrm_fab (fn i : Nat) (f : Stream → Stream) (s : State) : updStrm fn i f s = { s with fab := (updStrm fn i f s).fab } := rfl

theorem strm_updStrm_same (fn i : Nat) (f : Stream → Stream) (s : State) : strm (updStrm fn i f s) fn i = f (strm s fn i) := by
  rw [strm_updStrm, if_pos ⟨rfl, rfl⟩]

theorem strm_updStrm_ne {fn i k j : Nat} (f : Stream → Stream) (s : State) (h : ¬(k = fn ∧ j = i)) : strm (updStrm fn i f s) k j = strm s k j := by
  rw [strm_updStrm, if_neg h]

theorem win_updStrm_ne {fn i k : Nat} (f : Stream → Stream) (s : State) (h : k ≠ fn) : win (updStrm fn i f s) k = win s k := by
  rw [win_updStrm, if_neg h]

/-- A fault bit of a window, and with it the endpoint alone, changes; no stream does. -/
theorem fault_setFault (fn b : Nat) (s : State) : (win (setFault fn b s) fn).fault = (win s fn).fault ||| BitVec.ofNat 64 (2 ^ b) := by
  rw [win_setFault, if_pos rfl]

theorem win_setFault_ne {fn b k : Nat} (s : State) (h : k ≠ fn) : win (setFault fn b s) k = win s k := by
  rw [win_setFault, if_neg h]

/-- An error of a stream: its window's STREAM_ERR bit latches, and what else of it changes is what the update says. -/
theorem latchStreamErr_updStrm (fn : Nat) (i : Fin 16) (f : Stream → Stream) (s : State) :
    let t := latchStreamErr fn i (updStrm fn i f s)
    t = { s with fab := t.fab } ∧ strm t fn i = f (strm s fn i) ∧ flag (win t fn).cause (32 + i.val) = true ∧
      ∀ k j, ¬(k = fn ∧ j = i.val) → strm t k j = strm s k j := by
  refine ⟨?_, ?_, latchStreamErr_cause _ _ _ i.isLt, fun k j h => ?_⟩
  · rw [latchStreamErr_fab]
    rfl
  · rw [strm_latchStreamErr, strm_updStrm_same]
  · rw [strm_latchStreamErr, strm_updStrm_ne _ _ h]

/-! The rows of the submit area. -/

theorem exec_submitSlotWrite_of_accepted (fn : Fin 1025) (stream : Fin 16) (slot : Fin 8) {off : Nat} {data : Bytes} (s : State)
    (hacc : acceptedWrite off data.length = true) (hin : off + data.length ≤ 512) :
    exec (.submitSlotWrite fn stream slot off data false) s = .next (writeSlot fn stream slot off data s) := by
  show execSubmitSlotWrite fn stream slot off data false s = _
  rw [execSubmitSlotWrite, hacc, if_neg (by simp), if_neg (by omega)]

theorem exec_largeFramePortWrite_of_accepted (fn : Fin 1025) (stream : Fin 16) {off : Nat} {data : Bytes} (s : State)
    (hacc : acceptedWrite off data.length = true) (hin : off + data.length ≤ 2048) :
    exec (.largeFramePortWrite fn stream off data false) s = .next (writePort fn stream off data s) := by
  show execLargeFramePortWrite fn stream off data false s = _
  rw [execLargeFramePortWrite, hacc, if_neg (by simp), if_neg (by omega)]

theorem writeSlot_of_free {fn i k : Nat} (off : Nat) (data : Bytes) {s : State} (h : (strm s fn i).busy.contains k = false) :
    writeSlot fn i k off data s = updStrm fn i (fun st => { st with submit := memWriteBytes 0 st.submit (512 * k + off) data }) s := by
  rw [writeSlot, h, if_neg Bool.false_ne_true]

theorem writeSlot_of_busy {fn i k : Nat} (off : Nat) (data : Bytes) {s : State} (h : (strm s fn i).busy.contains k = true) :
    writeSlot fn i k off data s = setFault fn 1 s := by
  rw [writeSlot, if_pos h]

/-- A port write within the frame's bound stores all its bytes (R67). -/
theorem writePort_of_free {fn i off : Nat} {data : Bytes} {s : State} (h : (strm s fn i).lfsCopy = none) (hin : 8 * (strm s fn i).lfsPos + off + data.length ≤ 65568) :
    writePort fn i off data s = updStrm fn i (fun st => { st with large := memWriteBytes 0 st.large (8 * (strm s fn i).lfsPos + off) data }) s := by
  have htake : data.take (65568 - (8 * (strm s fn i).lfsPos + off)) = data := List.take_of_length_le (by omega)
  simp only [writePort, h, Option.isSome_none, Bool.false_eq_true, if_false, htake]

theorem writePort_of_copying {fn i : Nat} (off : Nat) (data : Bytes) {s : State} (h : (strm s fn i).lfsCopy.isSome = true) :
    writePort fn i off data s = latchStreamErr fn i (updStrm fn i (fun st => { st with lfErr := true }) s) := by
  simp only [writePort, h, if_true]

theorem exec_responseAreaRead (fn : Fin 1025) (stream : Fin 16) (port : Bool) {off len : Nat} (s : State)
    (halign : off % 4 = 0) (hmin : 4 ≤ len) (hmax : len ≤ 512) (hin : off + len ≤ (if port then 2048 else 4096)) :
    exec (.responseAreaRead fn stream port off len) s =
      if windowHas s fn rightRD then .next { s with fab := { s.fab with lastRead := responseBytes (strm s fn stream) port off len } }
      else .next (setFault fn 3 { s with fab := { s.fab with lastRead := zeros len } }) := by
  show execResponseAreaRead fn stream port off len s = _
  rw [execResponseAreaRead, if_neg]
  rintro (h | h | h | h) <;> omega

/-- Settles O7: each write is one change of its stream, or the fault that it leaves; a masked read leaves the fault. -/
theorem submitAreaWrites : Obligations.SubmitAreaWrites := by
  refine ⟨⟨fun fn stream slot off data s hacc hin hfree => ?_, fun fn stream slot off data s hacc hin hbusy => ?_,
    fun fn stream off data s hacc hin hfree hframe => ?_, fun fn stream off data s hacc hin hcopy => ?_⟩,
    fun fn stream port off len s halign hmin hmax hin => ⟨fun hright => ?_, fun hright => ?_⟩⟩
  · refine ⟨_, exec_submitSlotWrite_of_accepted fn stream slot s hacc hin, ?_⟩
    rw [writeSlot_of_free off data hfree]
    have hstrm := strm_updStrm_same fn stream (fun st => { st with submit := memWriteBytes 0 st.submit (512 * slot.val + off) data }) s
    refine ⟨rfl, hstrm, fun a ha => ?_, fun k j h => strm_updStrm_ne _ _ h⟩
    rw [hstrm]
    exact memRead_memWriteBytes_out _ _ ha
  · refine ⟨_, exec_submitSlotWrite_of_accepted fn stream slot s hacc hin, ?_⟩
    rw [writeSlot_of_busy off data hbusy]
    exact ⟨setFault_fab .., fault_setFault .., fun k j => strm_setFault ..⟩
  · refine ⟨_, exec_largeFramePortWrite_of_accepted fn stream s hacc hin, ?_⟩
    rw [writePort_of_free hfree hframe]
    exact ⟨rfl, strm_updStrm_same .., fun k j h => strm_updStrm_ne _ _ h⟩
  · refine ⟨_, exec_largeFramePortWrite_of_accepted fn stream s hacc hin, ?_⟩
    rw [writePort_of_copying off data hcopy]
    exact latchStreamErr_updStrm fn stream _ s
  · rw [exec_responseAreaRead fn stream port s halign hmin hmax hin, if_pos hright]
  · rw [exec_responseAreaRead fn stream port s halign hmin hmax hin, if_neg (by simp [hright])]
    exact ⟨_, rfl, rfl, rfl, fault_setFault .., fun k j => strm_setFault ..⟩

/-! Commits. -/

theorem commitError_effect (fn : Fin 1025) (stream : Fin 16) (s : State) :
    strm (commitError fn stream s) fn stream = { strm s fn stream with commitErr := true } ∧ flag (win (commitError fn stream s) fn).cause (32 + stream.val) = true :=
  ⟨strm_commitError .., latchStreamErr_cause _ _ _ stream.isLt⟩

/-- Settles O10: each commit is one change of its stream and the placing of its frame, or the discard; the ends of the copies change their stream. -/
theorem commitsOfSlots : Obligations.CommitsOfSlots := by
  refine ⟨fun fn stream slot s htakes => ?_, fun fn stream slot s htakes hcopy => ?_, fun fn stream slot s htakes => ?_,
    fun fn stream slot s hcopy => ?_, fun fn stream k q s hcopy => ?_⟩
  · show execCommit fn stream slot s = _
    simp only [execCommit, commitSlot, htakes, Bool.not_true, Bool.false_eq_true, if_false]
    rfl
  · show execLargeCommit fn stream slot s = _
    simp only [execLargeCommit, commitLarge, htakes, hcopy, Bool.not_true, Option.isSome_none, Bool.or_false, Bool.false_eq_true, if_false]
    rfl
  · have hcommit : exec (.commit fn stream slot) s = .next (commitError fn stream s) := by
      show execCommit fn stream slot s = _
      simp [execCommit, commitSlot, htakes]
    have hlarge : exec (.largeCommit fn stream slot) s = .next (commitError fn stream s) := by
      show execLargeCommit fn stream slot s = _
      simp [execLargeCommit, commitLarge, htakes]
    exact ⟨_, hcommit, hlarge, commitError_fab .., commitError_effect ..⟩
  · have hexec : exec (.slotCopyDone fn stream slot) s = .next (updStrm fn stream (fun st => { st with busy := st.busy.filter (· != slot.val) }) s) := by
      show execSlotCopyDone fn stream slot s = _
      rw [execSlotCopyDone, if_neg hcopy]
    refine ⟨_, hexec, rfl, ?_, fun k j h => strm_updStrm_ne _ _ h⟩
    rw [strm_updStrm_same]
    simp
  · refine ⟨updStrm fn stream (fun st => { st with lfsCopy := none, lfsPos := 0, busy := st.busy.filter (· != k) }) s, ?_, rfl, strm_updStrm_same .., fun k j h => strm_updStrm_ne _ _ h⟩
    show execLargeFrameCopyDone fn stream s = _
    simp only [execLargeFrameCopyDone, hcopy]

end Sys2Proof.Machine

/-!
PROOFS, 03 host windows: memory writes to a BAR (03 R58, R59, R61). A multiple of 64 moves no write across a block, so the write of a slot or a port is the BAR's write there; above them a write is its words, and a row that names one register is that register's word.
-/

namespace Sys2Proof.Machine

set_option Elab.async false

/-! Writes that the BAR does not accept, or that lie outside it. -/

/-- A write discarded as a whole sets PARTIAL_WRITE, and an AER error when it was poisoned (R58). -/
theorem partialWrite_effect (fn : Nat) (poisoned : Bool) (s : State) :
    let t := partialWrite fn poisoned s
    t = { s with fab := t.fab } ∧ (win t fn).fault = (win s fn).fault ||| 1#64 ∧ (∀ k j, strm t k j = strm s k j) ∧
      (∀ k, k ≠ fn → win t k = win s k) ∧ t.fab.aerNonFatal = s.fab.aerNonFatal + (if poisoned then 1 else 0) := by
  cases poisoned <;> exact ⟨rfl, fault_setFault .., fun k j => strm_setFault .., fun k h => win_setFault_ne s h, rfl⟩

theorem exec_submitSlotWrite_of_refused (fn : Fin 1025) (stream : Fin 16) (slot : Fin 8) {off : Nat} {data : Bytes} {poisoned : Bool} (s : State)
    (h : (poisoned || !acceptedWrite off data.length) = true) :
    exec (.submitSlotWrite fn stream slot off data poisoned) s = .next (partialWrite fn poisoned s) := by
  show execSubmitSlotWrite fn stream slot off data poisoned s = _
  rw [execSubmitSlotWrite, if_pos h]

theorem exec_largeFramePortWrite_of_refused (fn : Fin 1025) (stream : Fin 16) {off : Nat} {data : Bytes} {poisoned : Bool} (s : State)
    (h : (poisoned || !acceptedWrite off data.length) = true) :
    exec (.largeFramePortWrite fn stream off data poisoned) s = .next (partialWrite fn poisoned s) := by
  show execLargeFramePortWrite fn stream off data poisoned s = _
  rw [execLargeFramePortWrite, if_pos h]

theorem exec_barWrite_of_refused (fn : Fin 1025) {off : Nat} {data : Bytes} {poisoned : Bool} (s : State)
    (h : (poisoned || !acceptedWrite off data.length) = true) (hin : off + data.length ≤ barSize fn) :
    exec (.barWrite fn off data poisoned) s = .next (partialWrite fn poisoned s) := by
  show execBarWrite fn off data poisoned s = _
  rw [execBarWrite, if_neg (by omega), if_pos h]

theorem exec_barWrite_of_outside (fn : Fin 1025) {off : Nat} {data : Bytes} (poisoned : Bool) (s : State) (h : barSize fn < off + data.length) :
    exec (.barWrite fn off data poisoned) s = .next s := by
  show execBarWrite fn off data poisoned s = _
  rw [execBarWrite, if_pos h]

theorem exec_barWrite_of_accepted (fn : Fin 1025) {off : Nat} {data : Bytes} (s : State) (hacc : acceptedWrite off data.length = true)
    (hin : off + data.length ≤ barSize fn) : exec (.barWrite fn off data false) s = .next (barWrite fn off data s) := by
  show execBarWrite fn off data false s = _
  rw [execBarWrite, if_neg (by omega), hacc, if_neg (by simp)]

/-- Every BAR holds the slots and the ports (Table 3-1). -/
theorem le_barSize {fn n : Nat} (h : n ≤ 0x40000) : n ≤ barSize fn := by
  unfold barSize
  split <;> omega

/-! Accepted writes. -/

theorem acceptedWrite_iff (off len : Nat) :
    acceptedWrite off len = true ↔ off % 8 = 0 ∧ len % 8 = 0 ∧ 8 ≤ len ∧ len ≤ 64 ∧ off / 64 = (off + len - 1) / 64 := by
  simp [acceptedWrite, and_assoc]

/-- A multiple of 64 bytes moves no write across the end of a block. -/
theorem acceptedWrite_add {base off len : Nat} (hbase : base % 64 = 0) (h : acceptedWrite off len = true) : acceptedWrite (base + off) len = true := by
  rw [acceptedWrite_iff] at h ⊢
  omega

theorem pos_of_acceptedWrite {off len : Nat} (h : acceptedWrite off len = true) : 8 ≤ len := by
  rw [acceptedWrite_iff] at h
  omega

theorem exec_barWrite_slot (fn : Fin 1025) (stream : Fin 16) (slot : Fin 8) {off : Nat} {data : Bytes} (s : State)
    (hacc : acceptedWrite off data.length = true) (hin : off + data.length ≤ 512) :
    exec (.barWrite fn (0x10000 + 0x1000 * stream.val + 0x200 * slot.val + off) data false) s = .next (writeSlot fn stream slot off data s) := by
  have hlen := pos_of_acceptedWrite hacc
  have hstream := stream.isLt
  have hslot := slot.isLt
  rw [exec_barWrite_of_accepted fn s (acceptedWrite_add (by omega) hacc) (le_barSize (by omega)), barWrite, if_pos (by omega),
    show (0x10000 + 0x1000 * stream.val + 0x200 * slot.val + off - 0x10000) / 0x1000 = stream by omega,
    show (0x10000 + 0x1000 * stream.val + 0x200 * slot.val + off) % 0x1000 / 0x200 = slot by omega,
    show (0x10000 + 0x1000 * stream.val + 0x200 * slot.val + off) % 0x200 = off by omega]

theorem exec_barWrite_port (fn : Fin 1025) (stream : Fin 16) {off : Nat} {data : Bytes} (s : State)
    (hacc : acceptedWrite off data.length = true) (hin : off + data.length ≤ 2048) :
    exec (.barWrite fn (0x30000 + 0x1000 * stream.val + off) data false) s = .next (writePort fn stream off data s) := by
  have hlen := pos_of_acceptedWrite hacc
  have hstream := stream.isLt
  rw [exec_barWrite_of_accepted fn s (acceptedWrite_add (by omega) hacc) (le_barSize (by omega)), barWrite, if_neg (by omega), if_pos (by omega),
    show (0x30000 + 0x1000 * stream.val + off - 0x30000) / 0x1000 = stream by omega,
    show (0x30000 + 0x1000 * stream.val + off) % 0x800 = off by omega]

/-- The pieces of a list, numbered from `i` on, by their places in it. -/
theorem zipIdx_chunks {α : Type} (w n i : Nat) (l : List α) :
    (chunks w n l).zipIdx i = (List.range n).map (fun k => ((l.drop (w * k)).take w, i + k)) := by
  induction n generalizing i l with
  | zero => rfl
  | succ n ih =>
    rw [chunks, List.zipIdx_cons, ih, List.range_succ_eq_map, List.map_cons, List.map_map]
    refine congrArg₂ List.cons rfl (List.map_congr_left fun k _ => ?_)
    simp only [Function.comp_apply, List.drop_drop, Nat.succ_eq_add_one, Prod.mk.injEq]
    exact ⟨by rw [Nat.mul_add, Nat.mul_one, Nat.add_comm], by omega⟩

theorem exec_barWrite_words (fn : Fin 1025) {off n : Nat} {data : Bytes} (s : State) (hin : off + data.length ≤ barSize fn)
    (hacc : acceptedWrite off data.length = true) (hlen : data.length = 8 * n) (hoff : off < 0x10000 ∨ 0x40000 ≤ off) :
    exec (.barWrite fn off data false) s =
      .next ((List.range n).foldl (fun s k => writeWord fn (off + 8 * k) (BitVec.ofNat 64 (ofLE ((data.drop (8 * k)).take 8))) s) s) := by
  rw [exec_barWrite_of_accepted fn s hacc hin, barWrite, if_neg (by omega), if_neg (by omega), zipIdx_chunks, List.foldl_map,
    show data.length / 8 = n by omega]
  simp only [Nat.zero_add]

/-- Settles O8: the discard is one change whichever row carries the write; an accepted write is carried out by the offset's place. -/
theorem barWrites : Obligations.BarWrites := by
  refine ⟨fun fn stream slot off data poisoned s hrefused => ?_, fun fn stream slot off data s hacc hin => ?_,
    fun fn stream off data s hacc hin => ?_, fun fn off n data s hin hacc hlen hoff => ?_, fun fn off data poisoned s hout => ?_⟩
  · exact ⟨_, exec_submitSlotWrite_of_refused fn stream slot s hrefused, exec_largeFramePortWrite_of_refused fn stream s hrefused,
      exec_barWrite_of_refused fn s hrefused, partialWrite_effect ..⟩
  · rw [exec_barWrite_slot fn stream slot s hacc hin, exec_submitSlotWrite_of_accepted fn stream slot s hacc hin]
  · rw [exec_barWrite_port fn stream s hacc hin, exec_largeFramePortWrite_of_accepted fn stream s hacc hin]
  · exact exec_barWrite_words fn s hin hacc hlen hoff
  · exact exec_barWrite_of_outside fn poisoned s hout

/-! One register. -/

theorem length_leBytes (k n : Nat) : (leBytes k n).length = k := by
  induction k generalizing n with
  | zero => rfl
  | succ k ih => simp [leBytes, ih]

theorem ofLE_leBytes (k n : Nat) : ofLE (leBytes k n) = n % 256 ^ k := by
  induction k generalizing n with
  | zero => simp [leBytes, ofLE, Nat.mod_one]
  | succ k ih =>
    rw [leBytes, ofLE, ih, Nat.pow_succ', Nat.mod_mul, BitVec.toNat_ofNat]

/-- The 8-byte write of a register is the write of its word. -/
theorem exec_barWrite_word (fn : Fin 1025) {off : Nat} (v : W64) (s : State) (halign : off % 8 = 0) (hin : off + 8 ≤ barSize fn)
    (hoff : off < 0x10000 ∨ 0x40000 ≤ off) : exec (.barWrite fn off (leBytes 8 v.toNat) false) s = .next (writeWord fn off v s) := by
  have hlen := length_leBytes 8 v.toNat
  have hacc : acceptedWrite off (leBytes 8 v.toNat).length = true := by
    rw [hlen, acceptedWrite_iff]
    omega
  have hword : BitVec.ofNat 64 (ofLE ((leBytes 8 v.toNat).take 8)) = v := by
    rw [List.take_of_length_le (by omega), ofLE_leBytes, Nat.mod_eq_of_lt (by exact v.isLt), BitVec.ofNat_toNat, BitVec.setWidth_eq]
  rw [exec_barWrite_words fn (n := 1) s (by omega) hacc (by omega) hoff]
  simp only [List.range_one, List.foldl_cons, List.foldl_nil, Nat.mul_zero, Nat.add_zero, List.drop_zero, hword]

/-- A register of the window or of one of its streams, of any function (Tables 3-4, 3-5). -/
theorem exec_barWrite_window (fn : Fin 1025) {off : Nat} (v : W64) (s : State) (halign : off % 8 = 0) (hoff : off < 0x10000) :
    exec (.barWrite fn off (leBytes 8 v.toNat) false) s = .next (writeWindow fn off v s) := by
  rw [exec_barWrite_word fn v s halign (le_barSize (by omega)) (.inl hoff), writeWord, if_pos hoff]

/-- A register of a stream's block, at byte `r` of it. -/
theorem exec_barWrite_stream (fn : Fin 1025) (stream : Fin 16) {r : Nat} (v : W64) (s : State) (halign : r % 8 = 0) (hr : r < 0x80) :
    exec (.barWrite fn (0x400 + r + 0x80 * stream.val) (leBytes 8 v.toNat) false) s = .next (writeStream fn stream r v s) := by
  have hstream := stream.isLt
  rw [exec_barWrite_window fn v s (by omega) (by omega), writeWindow, if_neg (by omega), if_neg (by omega), if_pos (by omega),
    show (0x400 + r + 0x80 * stream.val - 0x400) / 0x80 = stream by omega, show (0x400 + r + 0x80 * stream.val - 0x400) % 0x80 = r by omega]

/-- A register above the window, in the PF's BAR (Table 3-3). -/
theorem exec_barWrite_module {off : Nat} (v : W64) (s : State) (halign : off % 8 = 0) (hlow : 0x40000 ≤ off) (hin : off + 8 ≤ 0x100000) :
    exec (.barWrite 0 off (leBytes 8 v.toNat) false) s = .next (writeModule off v s) := by
  rw [exec_barWrite_word 0 v s halign hin (.inr hlow), writeWord, if_neg (by omega), if_pos hlow]

theorem streamNo_val (i : Fin 16) : streamNo i = i := Fin.ext (Nat.mod_eq_of_lt i.isLt)

/-- A register that needs WR on target 8 needs it once. -/
theorem configWrite_const (f : State → State) (s : State) : configWrite (fun _ => configWrite f s) s = configWrite f s := by
  unfold configWrite
  split <;> rfl

theorem configWrite_apply (f : State → State) (s : State) : configWrite (fun _ => f s) s = configWrite f s := by
  unfold configWrite
  rfl

theorem configWrite_of_right {s : State} (f : State → State) (h : hasRight (windowRow s 0) 8 rightWR = true) : configWrite f s = f s := if_pos h

theorem configWrite_of_none {s : State} (f : State → State) (h : hasRight (windowRow s 0) 8 rightWR = false) : configWrite f s = s :=
  if_neg (by simp [h])

theorem or_one_of_flag {v : W64} (h : flag v 0 = true) : v ||| 1 = v := or_pow_of_flag v 0 h

theorem writeModule_mevMask (k : Fin 4) (v : W64) (s : State) : writeModule (0x40020 + 8 * k.val) v s = writeMevMask k v s := by
  have hk := k.isLt
  rw [writeModule, if_neg (by omega), if_pos (by omega), show (0x40020 + 8 * k.val - 0x40020) / 8 = k by omega]
  exact congrArg (writeMevMask · v s) (Fin.ext (Nat.mod_eq_of_lt hk))

/-- The rows of the window's and of its streams' registers (Tables 3-4, 3-5). -/
theorem windowRows_are_barWrites (fn : Fin 1025) (stream : Fin 16) (v : W64) (s : State) :
    let w := fun (o : Nat) => exec (.barWrite fn o (leBytes 8 v.toNat) false) s
    w (0x400 + 0x80 * stream.val) = (if flag v 0 then exec (.streamEnable fn stream (flag v 1)) s else exec (.streamDisable fn stream (flag v 1)) s) ∧
    w (0x418 + 0x80 * stream.val) = (if flag v 8 then exec (.largeCommit fn stream (slotNo (field v 2 0))) s else exec (.commit fn stream (slotNo (field v 2 0))) s) ∧
    w (0x420 + 0x80 * stream.val) = exec (.winRespAck fn stream v) s ∧
    w 0x1008 = exec (.winEventMaskWrite fn v) s := by
  refine ⟨?_, ?_, ?_, ?_⟩
  · refine (exec_barWrite_stream fn stream (r := 0) v s rfl (by omega)).trans ?_
    rw [writeStream, if_pos rfl, streamNo_val]
    split <;> rfl
  · refine (exec_barWrite_stream fn stream (r := 0x18) v s rfl (by omega)).trans ?_
    rw [writeStream, if_neg (by omega), if_neg (by omega), if_neg (by omega), if_pos rfl, streamNo_val]
    split <;> rfl
  · refine (exec_barWrite_stream fn stream (r := 0x20) v s rfl (by omega)).trans ?_
    rw [writeStream, if_neg (by omega), if_neg (by omega), if_neg (by omega), if_neg (by omega), if_pos rfl, streamNo_val]
    rfl
  · exact exec_barWrite_window fn v s rfl (by omega)

/-- The rows of the module-wide registers (Table 3-3). -/
theorem moduleRows_are_barWrites (v : W64) (s : State) :
    let pf := fun (o : Nat) => exec (.barWrite 0 o (leBytes 8 v.toNat) false) s
    (∀ k : Fin 4, pf (0x40020 + 8 * k.val) = exec (.winMevMaskWrite k v) s) ∧
    pf 0x60000 = exec (.tickUsWrite v) s ∧
    (flag v 0 = true → pf 0x60010 = exec .histClear s ∧ pf 0x71000 = exec (.counterSnap (flag v 1) (flag v 2)) s ∧
      pf 0x71008 = exec (.samplingEnable v) s ∧ pf 0x71018 = exec (.traceEnable v) s) ∧
    (flag v 0 = false → flag v 2 = true → pf 0x71000 = exec (.counterClear (flag v 1)) s) ∧
    (flag v 30 = false → flag v 13 = true → pf 0x90008 = exec (.mailboxSubmit (indexOf 8192 (by decide) (field v 12 0))) s) := by
  have hpf : ∀ {o : Nat}, o % 8 = 0 → 0x40000 ≤ o → o + 8 ≤ 0x100000 → exec (.barWrite 0 o (leBytes 8 v.toNat) false) s = .next (writeModule o v s) :=
    exec_barWrite_module v s
  have htick : writeModule 0x60000 v s = writeTick v s := by
    show configWrite (fun _ => writeTick v s) s = _
    simp only [writeTick, configWrite_const]
  have hclear : flag v 0 = true → writeModule 0x60010 v s = clearHist s := fun h => by
    show configWrite (fun _ => if flag v 0 then clearHist s else s) s = _
    rw [if_pos h]
    exact configWrite_const ..
  have hcnt : writeModule 0x71000 v s = configWrite (writeCntCtl (flag v 0) (flag v 1) (flag v 2)) s := configWrite_apply ..
  have hsamp : writeModule 0x71008 v s = configWrite (writeSampCtl v) s := configWrite_apply ..
  have htrace : writeModule 0x71018 v s = configWrite (writeTraceCtl v) s := configWrite_apply ..
  have hmbox : writeModule 0x90008 v s = configWrite (fun _ => writeMbox v s) s := rfl
  refine ⟨fun k => ?_, ?_, fun h => ⟨?_, ?_, ?_, ?_⟩, fun h hclr => ?_, fun hack hsub => ?_⟩
  · have hk := k.isLt
    exact (hpf (by omega) (by omega) (by omega)).trans (congrArg Host.Outcome.next (writeModule_mevMask ..))
  · exact (hpf rfl (by omega) (by omega)).trans (congrArg Host.Outcome.next htick)
  · exact (hpf rfl (by omega) (by omega)).trans (congrArg Host.Outcome.next (hclear h))
  · refine (hpf rfl (by omega) (by omega)).trans ?_
    rw [hcnt, h]
    rfl
  · refine (hpf rfl (by omega) (by omega)).trans ?_
    rw [hsamp]
    show _ = execSamplingEnable v s
    rw [execSamplingEnable, or_one_of_flag h]
  · refine (hpf rfl (by omega) (by omega)).trans ?_
    rw [htrace]
    show _ = execTraceEnable v s
    rw [execTraceEnable, or_one_of_flag h]
  · refine (hpf rfl (by omega) (by omega)).trans ?_
    rw [hcnt, h, hclr]
    rfl
  · have hwrite : writeMbox v s = submitMailbox (indexOf 8192 (by decide) (field v 12 0)) s := by
      simp only [writeMbox, hack, hsub, Bool.false_eq_true, if_false, if_true]
    refine (hpf rfl (by omega) (by omega)).trans ?_
    rw [hmbox, hwrite]
    exact congrArg Host.Outcome.next (configWrite_const ..)

theorem writeTick_of_valid {value : W64} (s : State) (hlow : 1 ≤ field value 6 0) (hhigh : field value 6 0 ≤ 100) :
    writeTick value s = configWrite (fun s => { s with doc := { s.doc with tickPending := some (field value 6 0) } }) s := by
  have hvalid : ¬(field value 6 0 = 0 ∨ 100 < field value 6 0) := by omega
  simp only [writeTick, gt_iff_lt, if_neg hvalid]

/-- A TICK_US outside 1 to 100 is ignored, whatever the right (Table 10-8). -/
theorem writeTick_of_invalid {value : W64} (s : State) (h : field value 6 0 = 0 ∨ 100 < field value 6 0) : writeTick value s = s := by
  simp only [writeTick, gt_iff_lt, if_pos h, configWrite, ite_self]

/-- Settles O9: a register's row is its word's write; what TICK_US and the clear do is read off under WR on target 8. -/
theorem registerRowsAreBarWrites : Obligations.RegisterRowsAreBarWrites := by
  refine ⟨fun fn stream v s => ?_, fun value s => ⟨fun hright hlow hhigh => ?_, fun hrange => ?_, fun hright => ?_, fun hnone => ⟨?_, ?_⟩⟩⟩
  · obtain ⟨hctl, hcommit, hack, hmask⟩ := windowRows_are_barWrites fn stream v s
    exact ⟨hctl, hcommit, hack, hmask, moduleRows_are_barWrites v s⟩
  · show execTickUsWrite value s = _
    rw [execTickUsWrite, writeTick_of_valid s hlow hhigh, configWrite_of_right _ hright]
  · show execTickUsWrite value s = _
    rw [execTickUsWrite, writeTick_of_invalid s hrange]
  · exact congrArg Host.Outcome.next (configWrite_of_right _ hright)
  · show execTickUsWrite value s = _
    rw [execTickUsWrite, writeTick, configWrite_of_none _ hnone]
  · exact congrArg Host.Outcome.next (configWrite_of_none _ hnone)

end Sys2Proof.Machine

/-!
PROOFS, 03 host windows: enable, disable, end and acknowledgement of a stream (03 R63, R64, R71, R72). What an accepted enable does beside its stream, the flow's cut and the frames to home and partner, leaves the windows, the places of the flows and the keys of the galleries alone (`KeepsStreams`).
-/

namespace Sys2Proof.Machine

set_option Elab.async false

/-! Frames of a span change the pair only. -/

theorem mirrorChanges_pair (cs : List Change) (s : State) : mirrorChanges cs s = { s with pair := (mirrorChanges cs s).pair } := by
  unfold mirrorChanges
  split
  · rfl
  · dsimp only
    split
    · rfl
    · rw [sendPartner_pair]

theorem strm_of_fab {s t : State} (h : t.fab = s.fab) (fn i : Nat) : strm t fn i = strm s fn i := by
  unfold strm win
  rw [h]

@[simp] theorem mirrorChanges_fab (cs : List Change) (s : State) : (mirrorChanges cs s).fab = s.fab := by rw [mirrorChanges_pair]

@[simp] theorem noteSeal_fab (sid : StreamId) (live : Bool) (s : State) : (noteSeal sid live s).fab = s.fab := by rw [noteSeal_pair]

/-! What the keys of a gallery are read from. -/

/-- The records of a gallery and the slots found damaged: all that the state of its keys is read from. -/
def keyStore (x : Gallery) : Map VRecord × List Nat := (x.records, x.damaged)

theorem chainFault_congr {x y : Gallery} (h : keyStore y = keyStore x) (fuel : Nat) (r : VRecord) : chainFault y fuel r = chainFault x fuel r := by
  obtain ⟨hrec, hdam⟩ := Prod.mk.inj h
  induction fuel generalizing r with
  | zero => rfl
  | succ fuel ih =>
    simp only [chainFault, recordAt, hrec, hdam, ih]

theorem sealEnds_congr {s t : State} {g : Nat} (h : (gal t g).map keyStore = (gal s g).map keyStore) (handle : W64) (gen : Nat) :
    sealEnds t g handle gen = sealEnds s g handle gen := by
  unfold sealEnds
  cases hs : gal s g with
  | none =>
    rw [hs, Option.map_none, Option.map_eq_none_iff] at h
    rw [h]
  | some x =>
    rw [hs, Option.map_some, Option.map_eq_some_iff] at h
    obtain ⟨y, hy, hkeys⟩ := h
    obtain ⟨hrec, hdam⟩ := Prod.mk.inj hkeys
    rw [hy]
    simp only [recordAt, hrec, hdam, chainFault_congr hkeys]

theorem sealRecord_congr {s t : State} {g : Nat} (h : (gal t g).map keyStore = (gal s g).map keyStore) (handle : W64) :
    sealRecord t g handle = sealRecord s g handle := by
  have hrec : (gal t g).bind (fun x => mget x.records (handleSlot handle.toNat)) = (gal s g).bind (fun x => mget x.records (handleSlot handle.toNat)) := by
    have := congrArg (fun o => o.bind (fun p => mget p.1 (handleSlot handle.toNat))) h
    simpa only [Option.bind_map, Function.comp_def, keyStore] using this
  unfold sealRecord
  rw [hrec]
  simp only [sealEnds_congr h]

/-! What an enable's cut and its frames leave alone. -/

/-- The stream of a flow, and how far its commands have been placed and released. -/
def flowPlace (f : Flow) : StreamId × Nat × Nat := (f.sid, f.next, f.rel)

/-- The windows, the places of the flows and the keys of the galleries are as they were. -/
structure KeepsStreams (s t : State) : Prop where
  windows : ∀ k, win t k = win s k
  flows : ∀ k, (mget t.doc.flows k).map flowPlace = (mget s.doc.flows k).map flowPlace
  keys : ∀ g, (gal t g).map keyStore = (gal s g).map keyStore

theorem KeepsStreams.refl (s : State) : KeepsStreams s s := ⟨fun _ => rfl, fun _ => rfl, fun _ => rfl⟩

theorem KeepsStreams.trans {s t u : State} (h : KeepsStreams s t) (h' : KeepsStreams t u) : KeepsStreams s u :=
  ⟨fun k => (h'.windows k).trans (h.windows k), fun k => (h'.flows k).trans (h.flows k), fun g => (h'.keys g).trans (h.keys g)⟩

theorem keepsStreams_of_pair {s t : State} (h : t = { s with pair := t.pair }) : KeepsStreams s t := by
  rw [h]
  exact ⟨fun _ => rfl, fun _ => rfl, fun _ => rfl⟩

theorem keepsStreams_latchEvent (n : Nat) (s : State) : KeepsStreams s (latchEvent n s) := by
  have hfab := latchEvent_fab s n
  refine ⟨fun k => win_latchEvent .., fun k => ?_, fun g => ?_⟩ <;> rw [hfab]
  rfl

theorem keepsStreams_updFlow (fi : Nat) (f : Flow → Flow) (s : State) (hf : ∀ x, flowPlace (f x) = flowPlace x := by intro; rfl) : KeepsStreams s (updFlow fi f s) := by
  refine ⟨fun k => rfl, fun k => ?_, fun g => rfl⟩
  rw [updFlow, mget_malter]
  split
  · rename_i h
    rw [h, Option.map_map]
    exact congrArg (fun g => (mget s.doc.flows fi).map g) (funext hf)
  · rfl

theorem keepsStreams_updGal (g : Nat) (f : Gallery → Gallery) (s : State) (hf : ∀ x, keyStore (f x) = keyStore x := by intro; rfl) : KeepsStreams s (updGal g f s) := by
  refine ⟨fun k => rfl, fun k => rfl, fun k => ?_⟩
  rw [gal_updGal]
  split
  · rename_i h
    rw [h, Option.map_map]
    exact congrArg (fun f => (gal s g).map f) (funext hf)
  · rfl

theorem keepsStreams_testCut (fi : Nat) (s : State) : KeepsStreams s (testCut fi s) := by
  unfold testCut
  split
  · exact .refl s
  · split
    · exact .refl s
    · split
      · exact .refl s
      · have hlatch := (keepsStreams_updFlow fi (fun f => { f with cutReached := true }) s).trans (keepsStreams_latchEvent 40 _)
        dsimp only
        split
        · exact hlatch
        · split
          · exact hlatch.trans ((keepsStreams_of_pair (sendTo_pair ..)).trans (keepsStreams_updGal ..))
          · exact hlatch

theorem keepsStreams_noteCut (fi : Nat) (s : State) : KeepsStreams s (noteCut fi s) := by
  unfold noteCut
  split
  · exact .refl s
  · split
    · exact (keepsStreams_of_pair (sendTo_pair ..)).trans (keepsStreams_testCut ..)
    · exact .refl s

/-! An accepted enable. -/

/-- An accepted enable leaves the stream ACTIVE with a flow at its base, and the keys of the galleries alone (R63, R248). -/
theorem openStream_effect {fn i g fi : Nat} (sealed : Bool) {s : State} (hflow : flowIndex s g fn i = some fi) :
    strm (openStream fn i g sealed s) fn i = { strm s fn i with enable := true, active := true, opening := false, flow := some fi, next := (strm s fn i).base } ∧
      (mget (openStream fn i g sealed s).doc.flows fi).map flowPlace = some (sidOf s g fn i, (strm s fn i).base, (strm s fn i).base) ∧
      ∀ k, (gal (openStream fn i g sealed s) k).map keyStore = (gal s k).map keyStore := by
  unfold openStream
  simp only [hflow]
  generalize hfl : ({ sid := sidOf s g fn i, next := (strm s fn i).base, rel := (strm s fn i).base, proxy := (gal s g).isNone, sealed := sealed, cut := _ } : Flow) = fl
  have hplace : flowPlace fl = (sidOf s g fn i, (strm s fn i).base, (strm s fn i).base) := by rw [← hfl]; rfl
  generalize hu : (if ((gal s g).map (fun x => x.oldHome.isSome)).getD false = true then
    updGal g (fun x => { x with cuts := if mhas x.cuts (65536 * fn + i) = true then x.cuts else mset x.cuts (65536 * fn + i) (strm s fn i).base })
      { s with doc := { s.doc with flows := mset s.doc.flows fi fl } }
    else { s with doc := { s.doc with flows := mset s.doc.flows fi fl } }) = u
  have hkeep : KeepsStreams { s with doc := { s.doc with flows := mset s.doc.flows fi fl } } u := by
    rw [← hu]
    split
    · exact keepsStreams_updGal ..
    · exact .refl _
  have hcut := keepsStreams_noteCut fi (updStrm fn i (fun st => { st with enable := true, active := true, opening := false, flow := some fi, next := st.base }) u)
  refine ⟨?_, ?_, fun k => ?_⟩
  · rw [strm, hcut.windows]
    refine (strm_updStrm_same ..).trans ?_
    rw [strm, hkeep.windows]
    rfl
  · rw [hcut.flows]
    refine (hkeep.flows fi).trans ?_
    rw [mget_mset_same, Option.map_some, hplace]
  · rw [hcut.keys]
    exact hkeep.keys k

/-- The sealed part of an enable: the stream's epoch, keys and generation (R72). -/
theorem strm_sealHere (fn i g : Nat) (x : Gallery) (r : VRecord) (s : State) :
    ∃ e, strm (sealHere fn i g x r s) fn i =
      { strm s fn i with sealed := true, sealEpoch := e, sealKeys := some (sealKeysOf r.material g i e), sealGen := r.generation, sealFor := (strm s fn i).sealHandle } := by
  refine ⟨mgetD x.sealEpochs i 0 + b2n (advancesEpoch s x fn i), ?_⟩
  unfold sealHere
  rw [strm_of_fab (noteSeal_fab ..)]
  split
  · rw [strm_of_fab (mirrorChanges_fab ..), strm_updStrm_same]
    rfl
  · rw [strm_updStrm_same]
    rfl

theorem sealStream_of_record {fn i g : Nat} {x : Gallery} {r : VRecord} {s : State} (hgal : gal s g = some x)
    (hrec : sealRecord s g (strm s fn i).sealHandle = some r) : sealStream fn i g s = sealHere fn i g x r s := by
  simp only [sealStream, hgal, hrec]

/-! The enable's branches. -/

/-- The state in which an enable is judged: SEALED as it was asked for. -/
def asked (fn i : Nat) (sealed : Bool) (s : State) : State := updStrm fn i (fun st => { st with sealed := sealed }) s

theorem strm_asked (fn i : Nat) (sealed : Bool) (s : State) : strm (asked fn i sealed s) fn i = { strm s fn i with sealed := sealed } := strm_updStrm_same ..

theorem asksHome_asked (fn i : Nat) (sealed : Bool) (s : State) (g : Nat) : asksHome (asked fn i sealed s) g = asksHome s g := rfl

theorem gallery_updStrm (fn i k : Nat) (f : Stream → Stream) (s : State) : (win (updStrm fn i f s) k).gallery = (win s k).gallery := by
  rw [win_updStrm]
  split
  · rename_i h
    rw [h]
  · rfl

variable {fn : Fin 1025} {stream : Fin 16} {sealed : Bool} {s : State}

theorem exec_streamEnable_of_refused (hactive : (strm s fn stream).active = false) (hopening : (strm s fn stream).opening = false)
    (hrefused : enableRefused (asked fn stream sealed s) fn stream sealed = true) :
    exec (.streamEnable fn stream sealed) s = .next (refuseStream fn stream (asked fn stream sealed s)) := by
  show execStreamEnable fn stream sealed s = _
  unfold asked at hrefused
  simp only [execStreamEnable, enableStream, hactive, hopening, Bool.or_false, Bool.and_false, Bool.false_eq_true, if_false, hrefused, if_true]
  rfl

theorem exec_streamEnable_of_accepted {g : Nat} (hactive : (strm s fn stream).active = false) (hopening : (strm s fn stream).opening = false)
    (haccepted : enableRefused (asked fn stream sealed s) fn stream sealed = false) (hgallery : (win s fn).gallery = some g) :
    exec (.streamEnable fn stream sealed) s = .next (
      if asksHome s g then
        tellStream (sidOf s g fn stream) (.opens (strm s fn stream).base (sealOf (asked fn stream sealed s) fn stream sealed))
          (updStrm fn stream (fun st => { st with enable := true, opening := true }) (asked fn stream sealed s))
      else if sealed && s.pow.failWarning then updStrm fn stream (fun st => { st with enable := true, opening := true }) (asked fn stream sealed s)
      else if sealed then sealStream fn stream g (openStream fn stream g sealed (asked fn stream sealed s))
      else openStream fn stream g sealed (asked fn stream sealed s)) := by
  show execStreamEnable fn stream sealed s = _
  unfold asked at haccepted
  have hgallery' : (win (updStrm fn stream (fun st => { st with sealed := sealed }) s) fn).gallery = some g := (gallery_updStrm ..).trans hgallery
  simp only [execStreamEnable, enableStream, hactive, hopening, Bool.or_false, Bool.and_false, Bool.false_eq_true, if_false, haccepted, hgallery']
  rfl

theorem exec_streamEnable_open {g fi : Nat} (hactive : (strm s fn stream).active = false) (hopening : (strm s fn stream).opening = false)
    (haccepted : enableRefused (asked fn stream false s) fn stream false = false) (hgallery : (win s fn).gallery = some g)
    (hgal : (gal s g).isSome = true) (hhome : asksHome s g = false) (hflow : lowestFree s.doc.flows 65536 = some fi) :
    ∃ t, exec (.streamEnable fn stream false) s = .next t ∧ (strm t fn stream).active = true ∧ (strm t fn stream).enable = true ∧
      (strm t fn stream).flow = some fi ∧ (strm t fn stream).next = (strm s fn stream).base ∧ (strm t fn stream).sealed = false ∧
      (mget t.doc.flows fi).map flowPlace = some (sidOf s g fn stream, (strm s fn stream).base, (strm s fn stream).base) := by
  have hindex : flowIndex (asked fn stream false s) g fn stream = some fi := by
    show (if (gal s g).isSome then lowestFree s.doc.flows 65536 else _) = _
    rw [hgal, if_pos rfl, hflow]
  obtain ⟨hstrm, hflows, -⟩ := openStream_effect false hindex
  rw [strm_asked] at hstrm hflows
  refine ⟨openStream fn stream g false (asked fn stream false s), ?_, ?_⟩
  · rw [exec_streamEnable_of_accepted hactive hopening haccepted hgallery, hhome]
    rfl
  · rw [hstrm]
    exact ⟨rfl, rfl, rfl, rfl, rfl, hflows⟩

theorem exec_streamEnable_sealed {g fi : Nat} {r : VRecord} (hactive : (strm s fn stream).active = false) (hopening : (strm s fn stream).opening = false)
    (hwarning : s.pow.failWarning = false) (haccepted : enableRefused (asked fn stream true s) fn stream true = false)
    (hgallery : (win s fn).gallery = some g) (hgal : (gal s g).isSome = true) (hhome : asksHome s g = false)
    (hflow : lowestFree s.doc.flows 65536 = some fi) (hrec : sealRecord s g (strm s fn stream).sealHandle = some r) :
    ∃ t, exec (.streamEnable fn stream true) s = .next t ∧ (strm t fn stream).active = true ∧ (strm t fn stream).enable = true ∧
      (strm t fn stream).flow = some fi ∧ (strm t fn stream).sealed = true ∧ (strm t fn stream).sealGen = r.generation ∧
      (strm t fn stream).sealKeys = some (sealKeysOf r.material g stream (strm t fn stream).sealEpoch) := by
  have hindex : flowIndex (asked fn stream true s) g fn stream = some fi := by
    show (if (gal s g).isSome then lowestFree s.doc.flows 65536 else _) = _
    rw [hgal, if_pos rfl, hflow]
  obtain ⟨hstrm, -, hkeys⟩ := openStream_effect true hindex
  generalize hu : openStream fn stream g true (asked fn stream true s) = u at hstrm hkeys
  rw [strm_asked] at hstrm
  have hkeys' : (gal u g).map keyStore = (gal s g).map keyStore := hkeys g
  obtain ⟨x, hx⟩ : ∃ x, gal u g = some x := by
    have := congrArg Option.isSome hkeys'
    rw [Option.isSome_map, Option.isSome_map, hgal] at this
    exact Option.isSome_iff_exists.1 this
  have hrec' : sealRecord u g (strm u fn stream).sealHandle = some r := by
    rw [hstrm]
    exact (sealRecord_congr hkeys' _).trans hrec
  obtain ⟨e, he⟩ := strm_sealHere fn stream g x r u
  refine ⟨sealHere fn stream g x r u, ?_, ?_⟩
  · rw [exec_streamEnable_of_accepted hactive hopening haccepted hgallery, hhome, hwarning, hu, sealStream_of_record hx hrec']
    rfl
  · rw [he, hstrm]
    exact ⟨rfl, rfl, rfl, rfl, rfl, rfl⟩

/-! The acknowledgement of a response. -/

theorem trimCache_vit (g : Nat) (s : State) : trimCache g s = { s with vit := (trimCache g s).vit } := by
  have hevict : ∀ (share n fuel : Nat) (s : State), evictShare g share n fuel s = { s with vit := (evictShare g share n fuel s).vit } := by
    intro share n fuel
    induction fuel with
    | zero => exact fun s => rfl
    | succ fuel ih =>
      intro s
      unfold evictShare
      split
      · rfl
      · split
        · rw [ih]
          rfl
        · rfl
  unfold trimCache
  split
  · exact hevict ..
  · rfl

theorem foldl_vit {β : Type} (g : State → β → State) (h : ∀ s x, g s x = { s with vit := (g s x).vit }) (l : List β) (s : State) :
    l.foldl g s = { s with vit := (l.foldl g s).vit } := by
  induction l generalizing s with
  | nil => rfl
  | cons x l ih => rw [List.foldl_cons, ih, h]

/-- A command lets go of its keys: the vault alone changes. -/
theorem dropHolds_vit (t : Nat) (s : State) : dropHolds t s = { s with vit := (dropHolds t s).vit } := by
  unfold dropHolds
  dsimp only
  split
  · rfl
  · rw [foldl_vit _ (fun s g => trimCache_vit g s)]

/-- A descriptor that is freed leaves the others, and the endpoint, alone. -/
theorem freeDesc_only (t : Nat) (s : State) : freeDesc t s = { s with doc := { s.doc with descs := mdel s.doc.descs t }, vit := (freeDesc t s).vit } := by
  unfold freeDesc
  rw [dropHolds_vit]

@[simp] theorem freeDesc_fab (t : Nat) (s : State) : (freeDesc t s).fab = s.fab := by rw [freeDesc_only]

@[simp] theorem freeDesc_doc (t : Nat) (s : State) : (freeDesc t s).doc = { s.doc with descs := mdel s.doc.descs t } := by rw [freeDesc_only]

theorem ackJournal_only (sid : StreamId) (q : Nat) (s : State) : ackJournal sid q s = { s with vit := (ackJournal sid q s).vit, pair := (ackJournal sid q s).pair } := by
  unfold ackJournal
  dsimp only
  split
  · rw [sendPartner_pair]
    rfl
  · rfl

@[simp] theorem ackJournal_fab (sid : StreamId) (q : Nat) (s : State) : (ackJournal sid q s).fab = s.fab := by rw [ackJournal_only]

@[simp] theorem ackJournal_doc (sid : StreamId) (q : Nat) (s : State) : (ackJournal sid q s).doc = s.doc := by rw [ackJournal_only]

/-- An acknowledgement frees the slot and the descriptor of the response it names (R71, R249). -/
theorem exec_winRespAck_of_found {value : W64} {k : Nat} {p : Published} (fn : Fin 1025) (stream : Fin 16) (s : State)
    (hfind : (strm s fn stream).resp.find? (fun p => p.2.seq == field value 47 0) = some (k, p)) :
    ∃ u, exec (.winRespAck fn stream value) s = .next (offerWork (signalPages u)) ∧ (strm u fn stream).resp = mdel (strm s fn stream).resp k ∧
      (strm u fn stream).respStall = false ∧ u.doc.descs = mdel s.doc.descs p.ticket := by
  have key : ∀ v : State, v.fab = s.fab → v.doc = s.doc →
      let u := freeDesc p.ticket (updStrm fn stream (fun st => { st with resp := mdel st.resp k, respStall := false }) v)
      (strm u fn stream).resp = mdel (strm s fn stream).resp k ∧ (strm u fn stream).respStall = false ∧ u.doc.descs = mdel s.doc.descs p.ticket := by
    intro v hfab hdoc
    dsimp only
    rw [strm_of_fab (freeDesc_fab ..), strm_updStrm_same, strm_of_fab hfab, freeDesc_doc, updStrm_doc, hdoc]
    exact ⟨rfl, rfl, rfl⟩
  cases hfl : (desc s p.ticket).bind (fun d => mget s.doc.flows d.flow) with
  | none =>
    refine ⟨_, ?_, key s rfl rfl⟩
    show execWinRespAck fn stream value s = _
    simp only [execWinRespAck, ackResponse, hfind, hfl]
  | some fl =>
    refine ⟨_, ?_, key _ (ackJournal_fab fl.sid (field value 47 0) s) (ackJournal_doc ..)⟩
    show execWinRespAck fn stream value s = _
    simp only [execWinRespAck, ackResponse, hfind, hfl]

theorem exec_winRespAck_of_unknown {value : W64} (fn : Fin 1025) (stream : Fin 16) (s : State)
    (hfind : (strm s fn stream).resp.find? (fun p => p.2.seq == field value 47 0) = none) :
    exec (.winRespAck fn stream value) s = .next (latchStreamErr fn stream (updStrm fn stream (fun st => { st with ackErr := true }) s)) := by
  show execWinRespAck fn stream value s = _
  simp only [execWinRespAck, ackResponse, hfind]

/-- Settles O11: an enable by its branches, the others by the one change that each makes. -/
theorem streamCommands : Obligations.StreamCommands := by
  refine ⟨fun fn stream g fi s hactive hopening haccepted hgallery hgal hhome hflow => ?_,
    fun fn stream g fi r s hactive hopening hwarning haccepted hgallery hgal hhome hflow hrec => ?_,
    fun fn stream sealed s hactive hopening hrefused => ?_, fun fn stream g sealed s hactive hopening haccepted hgallery hhome => ?_,
    fun fn stream sealed s => ?_, fun fn stream fi s hflow hactive henable hcopy hempty => ?_, fun fn stream value k p s hfind => ?_,
    fun fn stream value s hfind => ?_⟩
  · exact exec_streamEnable_open hactive hopening haccepted hgallery hgal hhome hflow
  · exact exec_streamEnable_sealed hactive hopening hwarning haccepted hgallery hgal hhome hflow hrec
  · obtain ⟨honly, hstrm, hcause, -⟩ := latchStreamErr_updStrm fn stream (fun st => { st with enable := false, opening := false, enableRefused := true }) (asked fn stream sealed s)
    rw [strm_asked] at hstrm
    refine ⟨_, exec_streamEnable_of_refused hactive hopening hrefused, honly, ?_⟩
    unfold refuseStream
    rw [hstrm]
    exact ⟨rfl, hactive, rfl, hcause⟩
  · refine ⟨updStrm fn stream (fun st => { st with enable := true, opening := true }) (asked fn stream sealed s), ?_, rfl, ?_⟩
    · rw [exec_streamEnable_of_accepted hactive hopening haccepted hgallery, hhome]
      simp only [sealOf, strm_asked, if_true]
    · rw [strm_updStrm_same, strm_asked]
  · exact ⟨_, rfl, rfl, strm_disableStream .., fun k j h => strm_updStrm_ne _ _ h⟩
  · refine ⟨_, exec_streamDrained_of_empty fn stream s hflow hactive henable hcopy hempty, active_endStream .., ?_, ?_, endStream_doc fn stream s hflow⟩
    all_goals
      unfold endStream
      rw [strm_updStrm_same]
  · obtain ⟨u, hexec, hresp, hstall, hdescs⟩ := exec_winRespAck_of_found fn stream s hfind
    refine ⟨u, hexec, hresp, hstall, hdescs, fun n hn => ?_⟩
    rw [desc, hdescs, mget_mdel_ne _ hn]
    rfl
  · exact ⟨_, exec_winRespAck_of_unknown fn stream s hfind, (latchStreamErr_updStrm fn stream _ s).1, (latchStreamErr_updStrm fn stream _ s).2.1,
      (latchStreamErr_updStrm fn stream _ s).2.2.1⟩

end Sys2Proof.Machine

/-!
PROOFS, 03 host windows: MSI-X vectors, event masks, configuration writes and the moderation's hold-off (03 R57, R75, R76). A vector sent or set pending is a change of its entry and of what was sent; what a write of a mask or of the configuration stores is therefore what it named.
-/

namespace Sys2Proof.Machine

set_option Elab.async false

/-! A vector and its entry. -/

/-- A vector's request changes its own entry's pending bit, to whether it could not be sent. -/
theorem pcie_sendVector (fn v k : Nat) (s : State) :
    pcie (sendVector fn v s) k =
      if k = fn then { pcie s fn with vectors := mset (pcie s fn).vectors v { (mgetD (pcie s fn).vectors v {}) with pending := !vectorFree (pcie s fn) v } } else pcie s k := by
  cases h : vectorFree (pcie s fn) v <;> simp only [sendVector, h, if_true, Bool.false_eq_true, if_false]
  · exact pcie_updPcie s fn k _
  · exact (pcie_updPcie s fn k (fun p => { p with vectors := mset p.vectors v { (mgetD (pcie s fn).vectors v {}) with pending := false } }))

/-- The entry of a vector keeps its address, its data and its mask when a vector is requested. -/
theorem entry_sendVector (fn v k : Nat) (s : State) :
    let e := mgetD (pcie s fn).vectors k {}
    let e' := mgetD (pcie (sendVector fn v s) fn).vectors k {}
    e'.addr = e.addr ∧ e'.data = e.data ∧ e'.masked = e.masked := by
  rw [pcie_sendVector, if_pos rfl]
  dsimp only
  by_cases hk : k = v
  · subst hk
    simp
  · rw [mgetD_mset_ne _ _ _ hk]
    exact ⟨rfl, rfl, rfl⟩

/-- What a flush of the pending vectors keeps of its function: the enables, the masks, and every entry's address and data. -/
structure KeepsTable (p q : PcieFn) : Prop where
  busMaster : q.busMaster = p.busMaster
  msixEnable : q.msixEnable = p.msixEnable
  fnMask : q.fnMask = p.fnMask
  d3hot : q.d3hot = p.d3hot
  entry : ∀ k, (mgetD q.vectors k {}).addr = (mgetD p.vectors k {}).addr ∧ (mgetD q.vectors k {}).data = (mgetD p.vectors k {}).data ∧
    (mgetD q.vectors k {}).masked = (mgetD p.vectors k {}).masked

theorem KeepsTable.refl (p : PcieFn) : KeepsTable p p := ⟨rfl, rfl, rfl, rfl, fun _ => ⟨rfl, rfl, rfl⟩⟩

theorem KeepsTable.trans {p q r : PcieFn} (h : KeepsTable p q) (g : KeepsTable q r) : KeepsTable p r where
  busMaster := g.busMaster.trans h.busMaster
  msixEnable := g.msixEnable.trans h.msixEnable
  fnMask := g.fnMask.trans h.fnMask
  d3hot := g.d3hot.trans h.d3hot
  entry k := by
    obtain ⟨ha, hd, hm⟩ := h.entry k
    obtain ⟨ga, gd, gm⟩ := g.entry k
    exact ⟨ga.trans ha, gd.trans hd, gm.trans hm⟩

theorem keepsTable_sendVector (fn v : Nat) (s : State) : KeepsTable (pcie s fn) (pcie (sendVector fn v s) fn) := by
  have he := fun k => entry_sendVector fn v k s
  rw [pcie_sendVector, if_pos rfl] at *
  exact ⟨rfl, rfl, rfl, rfl, he⟩

theorem keepsTable_flushVectors (fn : Nat) (s : State) : KeepsTable (pcie s fn) (pcie (flushVectors fn s) fn) := by
  unfold flushVectors
  generalize (pcie s fn).vectors = l
  induction l generalizing s with
  | nil => exact .refl _
  | cons a l ih =>
    rw [List.foldl_cons]
    split
    · exact (keepsTable_sendVector fn a.1 s).trans (ih _)
    · exact ih s

/-! What a signal leaves of the windows. -/

/-- A signal to the host: the endpoint alone changes, and of the windows at most the moderation's counts of the one that is signalled. -/
structure SignalOnly (fn : Nat) (s t : State) : Prop where
  only : t = { s with fab := t.fab }
  mask : (win t fn).mask = (win s fn).mask
  cause : (win t fn).cause = (win s fn).cause
  streams : (win t fn).streams = (win s fn).streams
  others : ∀ k, k ≠ fn → win t k = win s k
  mev : t.fab.mevMask = s.fab.mevMask ∧ t.fab.mevCause = s.fab.mevCause

theorem SignalOnly.refl (fn : Nat) (s : State) : SignalOnly fn s s := ⟨rfl, rfl, rfl, rfl, fun _ _ => rfl, rfl, rfl⟩

theorem SignalOnly.trans {fn : Nat} {s t u : State} (h : SignalOnly fn s t) (g : SignalOnly fn t u) : SignalOnly fn s u where
  only := by rw [g.only, h.only]
  mask := g.mask.trans h.mask
  cause := g.cause.trans h.cause
  streams := g.streams.trans h.streams
  others k hk := (g.others k hk).trans (h.others k hk)
  mev := ⟨g.mev.1.trans h.mev.1, g.mev.2.trans h.mev.2⟩

theorem signalOnly_sendVector (fn f v : Nat) (s : State) : SignalOnly fn s (sendVector f v s) where
  only := sendVector_fab ..
  mask := by rw [win_sendVector]
  cause := by rw [win_sendVector]
  streams := by rw [win_sendVector]
  others k _ := win_sendVector ..
  mev := ⟨sendVector_mevMask .., sendVector_mevCause ..⟩

theorem signalOnly_countPublication (fn : Nat) (s : State) : SignalOnly fn s (countPublication fn s) := by
  have hwin : ∀ (f : Window → Window), (f (win s fn)).mask = (win s fn).mask → (f (win s fn)).cause = (win s fn).cause →
      (f (win s fn)).streams = (win s fn).streams → SignalOnly fn s (updWin fn f s) := fun f hm hc hs => by
    refine ⟨rfl, ?_, ?_, ?_, fun k hk => ?_, rfl, rfl⟩
    · rw [win_updWin, if_pos rfl, hm]
    · rw [win_updWin, if_pos rfl, hc]
    · rw [win_updWin, if_pos rfl, hs]
    · rw [win_updWin, if_neg hk]
  unfold countPublication
  dsimp only
  split
  · exact (hwin _ rfl rfl rfl).trans (signalOnly_sendVector ..)
  · exact hwin _ rfl rfl rfl

theorem SignalOnly.foldl {fn : Nat} {β : Type} (g : State → β → State) (h : ∀ s x, SignalOnly fn s (g s x)) (l : List β) (s : State) :
    SignalOnly fn s (l.foldl g s) := by
  induction l generalizing s with
  | nil => exact .refl ..
  | cons a l ih => exact (h s a).trans (ih _)

theorem SignalOnly.ite {fn : Nat} {s t : State} {c : Prop} [Decidable c] (h : SignalOnly fn s t) : SignalOnly fn s (if c then t else s) := by
  split
  · exact h
  · exact .refl ..

theorem SignalOnly.strm_eq {fn : Nat} {s t : State} (h : SignalOnly fn s t) (k j : Nat) : strm t k j = strm s k j := by
  unfold strm
  by_cases hk : k = fn
  · rw [hk, h.streams]
  · rw [h.others k hk]

/-! The rows of the events. -/

/-- A write of an event mask stores it, and signals the causes that it makes count. -/
theorem signalOnly_writeEventMask (fn : Fin 1025) (value : W64) (s : State) :
    SignalOnly fn (updWin fn (fun w => { w with mask := value &&& eventBits }) s) (writeEventMask fn value s) := by
  unfold writeEventMask
  dsimp only
  refine ((SignalOnly.foldl _ (fun s i => .ite (signalOnly_countPublication ..)) _ _).trans (.trans (.ite (signalOnly_sendVector ..))
    (.trans (.ite (signalOnly_sendVector ..)) (.ite (signalOnly_sendVector ..)))))

theorem exec_winEventMaskWrite_effect (fn : Fin 1025) (value : W64) (s : State) :
    let t := writeEventMask fn value s
    t = { s with fab := t.fab } ∧ (win t fn).mask = value &&& eventBits ∧ (win t fn).cause = (win s fn).cause ∧
      (∀ k j, strm t k j = strm s k j) ∧ ∀ k, k ≠ fn.val → win t k = win s k := by
  have h := signalOnly_writeEventMask fn value s
  refine ⟨h.only, ?_, ?_, fun k j => ?_, fun k hk => ?_⟩
  · rw [h.mask, win_updWin, if_pos rfl]
  · rw [h.cause, win_updWin, if_pos rfl]
  · rw [h.strm_eq]
    unfold strm
    rw [win_updWin]
    split
    · next hk => rw [hk]
    · rfl
  · rw [h.others k hk, win_updWin, if_neg hk]

/-- A write of the module event mask stores its word's sources; a signal of it is one of function 0. -/
theorem writeMevMask_effect (k : Fin 4) (value : W64) (s : State) :
    let t := writeMevMask k value s
    t = { s with fab := t.fab } ∧
      t.fab.mevMask = s.fab.mevMask - bits s.fab.mevMask (64 * k.val + 63) (64 * k.val) * 2 ^ (64 * k.val) + (value.toNat * 2 ^ (64 * k.val) &&& mevBits) ∧
      t.fab.mevCause = s.fab.mevCause ∧ ∀ n, win t n = win s n := by
  have h : ∀ n, SignalOnly n { s with fab := { s.fab with mevMask := s.fab.mevMask - bits s.fab.mevMask (64 * k.val + 63) (64 * k.val) * 2 ^ (64 * k.val) +
      (value.toNat * 2 ^ (64 * k.val) &&& mevBits) } } (writeMevMask k value s) := fun n =>
    SignalOnly.foldl _ (fun t i => .ite (signalOnly_sendVector ..)) _ _
  exact ⟨(h 0).only, (h 0).mev.1, (h 0).mev.2, fun n => (h (n + 1)).others n (by omega)⟩

/-- A write of an entry of the MSI-X table that the function has is stored; what was pending may then be sent. -/
theorem writeMsix_effect (fn : Fin 1025) (vector : Fin 256) (upper : Bool) (value : W64) (s : State) (h : fn.val = 0 ∨ vector.val < 4) :
    let t := writeMsix fn vector upper value s
    let e := mgetD (pcie t fn).vectors vector.val {}
    t = { s with fab := t.fab } ∧ (upper = false → e.addr = value &&& ~~~ 3#64) ∧ (upper = true → e.data = field value 31 0 ∧ e.masked = flag value 32) ∧
      ∀ n, win t n = win s n := by
  have hin : ¬(fn.val ≠ 0 ∧ vector.val ≥ 4) := by omega
  rw [writeMsix, if_neg hin]
  obtain ⟨ha, hd, hm⟩ := (keepsTable_flushVectors fn (updPcie fn (fun p =>
    { p with vectors := mset p.vectors vector.val (let e := mgetD p.vectors vector.val {}
      if upper then { e with data := field value 31 0, masked := flag value 32 } else { e with addr := value &&& ~~~ 3#64 }) }) s)).entry vector.val
  rw [pcie_updPcie, if_pos rfl] at ha hd hm
  refine ⟨(flushVectors_fab _ _).1, fun hu => ?_, fun hu => ⟨?_, ?_⟩, fun n => by rw [win_flushVectors, win_updPcie]⟩
  · exact ha.trans (by simp [hu])
  · exact hd.trans (by simp [hu])
  · exact hm.trans (by simp [hu])

/-- The messages that waited go out behind those already sent. -/
theorem foldl_emitMctp (l : List MctpMsg) (s : State) :
    let t := l.foldl (fun s m => emitMctp m s) s
    t = { s with cur := t.cur } ∧ t.cur.mctpWaiting = s.cur.mctpWaiting ∧ s.cur.replies <+: t.cur.replies ∧ s.cur.events <+: t.cur.events := by
  induction l generalizing s with
  | nil => exact ⟨rfl, rfl, List.prefix_rfl, List.prefix_rfl⟩
  | cons m l ih =>
    obtain ⟨hcur, hwait, hr, he⟩ := ih (emitMctp m s)
    have hm : (emitMctp m s).cur.mctpWaiting = s.cur.mctpWaiting ∧ s.cur.replies <+: (emitMctp m s).cur.replies ∧ s.cur.events <+: (emitMctp m s).cur.events := by
      cases m with
      | reply a => exact ⟨rfl, List.prefix_append .., List.prefix_rfl⟩
      | event i v => exact ⟨rfl, List.prefix_rfl, List.prefix_append ..⟩
    refine ⟨?_, hwait.trans hm.1, hm.2.1.trans hr, hm.2.2.trans he⟩
    rw [List.foldl_cons, hcur]
    rfl

theorem flushMctp_effect (s : State) :
    let t := flushMctp s
    t = { s with cur := t.cur } ∧ ((pcie s 0).busMaster = true → t.cur.mctpWaiting = [] ∧ s.cur.replies <+: t.cur.replies ∧ s.cur.events <+: t.cur.events) := by
  unfold flushMctp
  cases hb : (pcie s 0).busMaster with
  | false => exact ⟨rfl, fun h => absurd h (by simp)⟩
  | true =>
    simp only [if_true]
    obtain ⟨hcur, hwait, hr, he⟩ := foldl_emitMctp s.cur.mctpWaiting { s with cur := { s.cur with mctpWaiting := [] } }
    refine ⟨?_, fun _ => ⟨hwait, hr, he⟩⟩
    rw [hcur]

theorem configured_effect (fn : Fin 1025) (command : PcieCommand) (msixEnable fnMask : Bool) (s : State) :
    ∃ t, exec (.pcieConfigWrite fn command msixEnable fnMask) s = .next t ∧ t = { s with fab := t.fab, cur := t.cur } ∧
      (pcie t fn).busMaster = command.busMaster ∧ (pcie t fn).msixEnable = msixEnable ∧ (pcie t fn).fnMask = fnMask ∧ (pcie t fn).d3hot = command.d3hot ∧
      (∀ n, win t n = win s n) ∧ ((pcie t 0).busMaster = true → t.cur.mctpWaiting = [] ∧ s.cur.replies <+: t.cur.replies ∧ s.cur.events <+: t.cur.events) := by
  let a := updPcie fn (fun p => { p with busMaster := command.busMaster, msixEnable := msixEnable, fnMask := fnMask, d3hot := command.d3hot }) s
  obtain ⟨honly, hmctp⟩ := flushMctp_effect (flushVectors fn a)
  have hflush := (flushVectors_fab a fn).1
  have hfab : (flushMctp (flushVectors fn a)).fab = (flushVectors fn a).fab := by rw [honly]
  have hpcie : ∀ k, pcie (flushMctp (flushVectors fn a)) k = pcie (flushVectors fn a) k := fun k => by simp only [pcie, hfab]
  have hcur : (flushVectors fn a).cur = s.cur := by rw [hflush]; rfl
  have hkeep := keepsTable_flushVectors fn a
  have ha : pcie a fn = { pcie s fn with busMaster := command.busMaster, msixEnable := msixEnable, fnMask := fnMask, d3hot := command.d3hot } := by
    rw [pcie_updPcie, if_pos rfl]
  rw [ha] at hkeep
  refine ⟨flushMctp (flushVectors fn a), rfl, ?_, ?_, ?_, ?_, ?_, fun n => ?_, fun h => ?_⟩
  · rw [honly, hflush]
    rfl
  · rw [hpcie, hkeep.busMaster]
  · rw [hpcie, hkeep.msixEnable]
  · rw [hpcie, hkeep.fnMask]
  · rw [hpcie, hkeep.d3hot]
  · rw [show win (flushMctp (flushVectors fn a)) n = win (flushVectors fn a) n by simp only [win, hfab], win_flushVectors, win_updPcie]
  · rw [hpcie] at h
    obtain ⟨hw, hr, he⟩ := hmctp h
    rw [hcur] at hr he
    exact ⟨hw, hr, he⟩

/-- The hold-off's end empties the count and signals a READY cause that stands, if its vector is free. -/
theorem holdoffExpiry_effect (fn : Fin 1025) (due : Nat) (s : State) (hdue : (win s fn).firstUnsignalled = some due) (hoff : (win s fn).holdoff ≠ 0) :
    ∃ t, exec (.holdoffExpiry fn) s = .next t ∧ t = { s with fab := t.fab, now := max s.now (due + 1000 * (win s fn).holdoff) } ∧
      (win t fn).unsignalled = 0 ∧ (win t fn).firstUnsignalled = none ∧
      (readyCause (win s fn) = true → vectorFree (pcie s fn) 0 = true → t.fab.sent.length = s.fab.sent.length + 1) := by
  let a := updWin fn (fun w => { w with unsignalled := 0, firstUnsignalled := none }) (advanceTo (due + 1000 * (win s fn).holdoff) s)
  have hexec : exec (.holdoffExpiry fn) s = .next (if readyCause (win s fn) then sendVector fn 0 a else a) := by
    show execHoldoffExpiry fn s = _
    simp only [execHoldoffExpiry, hdue, if_neg hoff]
    rfl
  have ha : win a fn = { win s fn with unsignalled := 0, firstUnsignalled := none } := by
    show win (updWin _ _ _) _ = _
    rw [win_updWin, if_pos rfl]
    rfl
  have hwin : win (if readyCause (win s fn) then sendVector fn 0 a else a) fn = { win s fn with unsignalled := 0, firstUnsignalled := none } := by
    split
    · rw [win_sendVector, ha]
    · exact ha
  refine ⟨_, hexec, ?_, ?_, ?_, fun hr hv => ?_⟩
  · split
    · rw [sendVector_fab]
      rfl
    · rfl
  · rw [hwin]
  · rw [hwin]
  · have hva : vectorFree (pcie a fn) 0 = true := hv
    rw [if_pos hr, sendVector_sent _ _ _ hva, List.length_append]
    rfl

/-- Settles O13: a vector changes its entry and what was sent; what each write stores is what it names. -/
theorem eventRegisters : Obligations.EventRegisters := by
  unfold Obligations.EventRegisters
  refine ⟨fun fn v s => ⟨fun h => ⟨sendVector_sent s fn v h, ?_⟩, fun h => sendVector_pending s fn v h, fun k hk => ?_, fun k => win_sendVector .., sendVector_fab ..⟩,
    fun fn value s => ⟨_, rfl, exec_winEventMaskWrite_effect fn value s⟩, fun k value s => ⟨_, rfl, writeMevMask_effect k value s⟩, fun fn vector value s h => ⟨?_, ?_⟩,
    fun fn vector upper value s hfn hv => ?_, configured_effect, holdoffExpiry_effect⟩
  · rw [pcie_sendVector, if_pos rfl]
    simp [h]
  · rw [pcie_sendVector, if_neg hk]
  · obtain ⟨honly, haddr, -, hwin⟩ := writeMsix_effect fn vector false value s h
    exact ⟨_, rfl, honly, haddr rfl, hwin⟩
  · obtain ⟨honly, -, hdata, hwin⟩ := writeMsix_effect fn vector true value s h
    exact ⟨_, rfl, honly, (hdata rfl).1, (hdata rfl).2, hwin⟩
  · refine ⟨setFault fn 2 s, ?_, rfl, fault_setFault .., rfl⟩
    show Host.Outcome.next (writeMsix fn vector upper value s) = _
    rw [writeMsix, if_pos ⟨hfn, hv⟩]

end Sys2Proof.Machine

/-!
SUPPORT. What an operation leaves as it is, said by component of the state: `Frame ps s t` says that `t` differs from `s` in the components `ps` at most. An operation made of others differs in what these differ in, so that its frame is read from its parts.
-/

namespace Sys2Proof.Machine

set_option Elab.async false

/-- The components of a state. -/
inductive Part
  | fab | doc | vit | rng | pair | err | bb | ao | fuses | reg | pow | img | cur | cnt | now | freeCount | pending

/-- Two states agree in a component. -/
def agree : Part → State → State → Prop
  | .fab, s, t => t.fab = s.fab
  | .doc, s, t => t.doc = s.doc
  | .vit, s, t => t.vit = s.vit
  | .rng, s, t => t.rng = s.rng
  | .pair, s, t => t.pair = s.pair
  | .err, s, t => t.err = s.err
  | .bb, s, t => t.bb = s.bb
  | .ao, s, t => t.ao = s.ao
  | .fuses, s, t => t.fuses = s.fuses
  | .reg, s, t => t.reg = s.reg
  | .pow, s, t => t.pow = s.pow
  | .img, s, t => t.img = s.img
  | .cur, s, t => t.cur = s.cur
  | .cnt, s, t => t.cnt = s.cnt
  | .now, s, t => t.now = s.now
  | .freeCount, s, t => t.freeCount = s.freeCount
  | .pending, s, t => t.pending = s.pending

/-- Only the components `ps` may differ. -/
structure Frame (ps : List Part) (s t : State) : Prop where
  same : ∀ p, p ∉ ps → agree p s t

namespace Frame

variable {ps qs : List Part} {s t u : State}

theorem refl (ps : List Part) (s : State) : Frame ps s s := ⟨fun p _ => by cases p <;> exact rfl⟩

theorem trans (h : Frame ps s t) (g : Frame ps t u) : Frame ps s u := ⟨fun p hp => by
  have hp1 := h.same p hp
  have hp2 := g.same p hp
  cases p <;> exact Eq.trans hp2 hp1⟩

theorem mono (h : Frame ps s t) (hsub : ps ⊆ qs := by simp) : Frame qs s t := ⟨fun p hp => h.same p (fun hm => hp (hsub hm))⟩

/-- One part of an operation after another: what both leave as it is. -/
theorem andThen (h : Frame ps s t) (g : Frame qs t u) (hsub : qs ⊆ ps := by simp) : Frame ps s u := h.trans (g.mono hsub)

theorem ite {c : Prop} [Decidable c] (h : c → Frame ps s t) (g : ¬c → Frame ps s u) : Frame ps s (if c then t else u) := by
  split
  · exact h ‹_›
  · exact g ‹_›

theorem foldl {β : Type} {g : State → β → State} (h : ∀ s x, Frame ps s (g s x)) (l : List β) (s : State) : Frame ps s (l.foldl g s) := by
  induction l generalizing s with
  | nil => exact refl ..
  | cons a l ih => exact (h s a).trans (ih _)

theorem fab (h : Frame ps s t) (hp : .fab ∉ ps := by simp) : t.fab = s.fab := h.same .fab hp
theorem doc (h : Frame ps s t) (hp : .doc ∉ ps := by simp) : t.doc = s.doc := h.same .doc hp
theorem vit (h : Frame ps s t) (hp : .vit ∉ ps := by simp) : t.vit = s.vit := h.same .vit hp
theorem rng (h : Frame ps s t) (hp : .rng ∉ ps := by simp) : t.rng = s.rng := h.same .rng hp
theorem pair (h : Frame ps s t) (hp : .pair ∉ ps := by simp) : t.pair = s.pair := h.same .pair hp
theorem err (h : Frame ps s t) (hp : .err ∉ ps := by simp) : t.err = s.err := h.same .err hp
theorem bb (h : Frame ps s t) (hp : .bb ∉ ps := by simp) : t.bb = s.bb := h.same .bb hp
theorem ao (h : Frame ps s t) (hp : .ao ∉ ps := by simp) : t.ao = s.ao := h.same .ao hp
theorem fuses (h : Frame ps s t) (hp : .fuses ∉ ps := by simp) : t.fuses = s.fuses := h.same .fuses hp
theorem reg (h : Frame ps s t) (hp : .reg ∉ ps := by simp) : t.reg = s.reg := h.same .reg hp
theorem pow (h : Frame ps s t) (hp : .pow ∉ ps := by simp) : t.pow = s.pow := h.same .pow hp
theorem img (h : Frame ps s t) (hp : .img ∉ ps := by simp) : t.img = s.img := h.same .img hp
theorem cur (h : Frame ps s t) (hp : .cur ∉ ps := by simp) : t.cur = s.cur := h.same .cur hp
theorem cnt (h : Frame ps s t) (hp : .cnt ∉ ps := by simp) : t.cnt = s.cnt := h.same .cnt hp
theorem now (h : Frame ps s t) (hp : .now ∉ ps := by simp) : t.now = s.now := h.same .now hp
theorem freeCount (h : Frame ps s t) (hp : .freeCount ∉ ps := by simp) : t.freeCount = s.freeCount := h.same .freeCount hp
theorem pending (h : Frame ps s t) (hp : .pending ∉ ps := by simp) : t.pending = s.pending := h.same .pending hp

open Classical in
/-- The state, with each component from where the frame says. -/
theorem record (h : Frame ps s t) : t = {
    fab := if .fab ∈ ps then t.fab else s.fab, doc := if .doc ∈ ps then t.doc else s.doc, vit := if .vit ∈ ps then t.vit else s.vit
    rng := if .rng ∈ ps then t.rng else s.rng, pair := if .pair ∈ ps then t.pair else s.pair, err := if .err ∈ ps then t.err else s.err
    bb := if .bb ∈ ps then t.bb else s.bb, ao := if .ao ∈ ps then t.ao else s.ao, fuses := if .fuses ∈ ps then t.fuses else s.fuses
    reg := if .reg ∈ ps then t.reg else s.reg, pow := if .pow ∈ ps then t.pow else s.pow, img := if .img ∈ ps then t.img else s.img
    cur := if .cur ∈ ps then t.cur else s.cur, cnt := if .cnt ∈ ps then t.cnt else s.cnt, now := if .now ∈ ps then t.now else s.now
    freeCount := if .freeCount ∈ ps then t.freeCount else s.freeCount, pending := if .pending ∈ ps then t.pending else s.pending } := by
  have hpart : ∀ {α : Type} (p : Part) (f : State → α), (p ∉ ps → f t = f s) → (if p ∈ ps then f t else f s) = f t := fun p f hf => by
    split
    · rfl
    · exact (hf ‹_›).symm
  rw [hpart .fab State.fab (h.same .fab), hpart .doc State.doc (h.same .doc), hpart .vit State.vit (h.same .vit), hpart .rng State.rng (h.same .rng),
    hpart .pair State.pair (h.same .pair), hpart .err State.err (h.same .err), hpart .bb State.bb (h.same .bb), hpart .ao State.ao (h.same .ao),
    hpart .fuses State.fuses (h.same .fuses), hpart .reg State.reg (h.same .reg), hpart .pow State.pow (h.same .pow), hpart .img State.img (h.same .img),
    hpart .cur State.cur (h.same .cur), hpart .cnt State.cnt (h.same .cnt), hpart .now State.now (h.same .now), hpart .freeCount State.freeCount (h.same .freeCount),
    hpart .pending State.pending (h.same .pending)]

/-! What is read from components that stay. -/

theorem desc (h : Frame ps s t) (k : Nat) (hp : .doc ∉ ps := by simp) : Machine.desc t k = Machine.desc s k := by rw [Machine.desc, h.doc hp]; rfl
theorem cellRegs (h : Frame ps s t) (k : Nat) (hp : .doc ∉ ps := by simp) : Machine.cellRegs t k = Machine.cellRegs s k := by rw [Machine.cellRegs, h.doc hp]; rfl
theorem gal (h : Frame ps s t) (k : Nat) (hp : .vit ∉ ps := by simp) : Machine.gal t k = Machine.gal s k := by rw [Machine.gal, h.vit hp]; rfl
theorem win (h : Frame ps s t) (k : Nat) (hp : .fab ∉ ps := by simp) : Machine.win t k = Machine.win s k := by rw [Machine.win, h.fab hp]; rfl
theorem strm (h : Frame ps s t) (k i : Nat) (hp : .fab ∉ ps := by simp) : Machine.strm t k i = Machine.strm s k i := by rw [Machine.strm, h.win k hp]; rfl
theorem wing (h : Frame ps s t) (k : Nat) (hp : .pow ∉ ps := by simp) : Machine.wing t k = Machine.wing s k := by rw [Machine.wing, h.pow hp]; rfl

end Frame

/-! A change written as a record, read as a frame. -/

section
variable {s t : State}

theorem frame_of_fab (h : t = { s with fab := t.fab }) : Frame [.fab] s t := by rw [h]; constructor; intro p hp; cases p <;> simp [agree] at hp ⊢
theorem frame_of_doc (h : t = { s with doc := t.doc }) : Frame [.doc] s t := by rw [h]; constructor; intro p hp; cases p <;> simp [agree] at hp ⊢
theorem frame_of_vit (h : t = { s with vit := t.vit }) : Frame [.vit] s t := by rw [h]; constructor; intro p hp; cases p <;> simp [agree] at hp ⊢
theorem frame_of_rng (h : t = { s with rng := t.rng }) : Frame [.rng] s t := by rw [h]; constructor; intro p hp; cases p <;> simp [agree] at hp ⊢
theorem frame_of_pair (h : t = { s with pair := t.pair }) : Frame [.pair] s t := by rw [h]; constructor; intro p hp; cases p <;> simp [agree] at hp ⊢
theorem frame_of_err (h : t = { s with err := t.err }) : Frame [.err] s t := by rw [h]; constructor; intro p hp; cases p <;> simp [agree] at hp ⊢
theorem frame_of_reg (h : t = { s with reg := t.reg }) : Frame [.reg] s t := by rw [h]; constructor; intro p hp; cases p <;> simp [agree] at hp ⊢
theorem frame_of_pow (h : t = { s with pow := t.pow }) : Frame [.pow] s t := by rw [h]; constructor; intro p hp; cases p <;> simp [agree] at hp ⊢
theorem frame_of_cur (h : t = { s with cur := t.cur }) : Frame [.cur] s t := by rw [h]; constructor; intro p hp; cases p <;> simp [agree] at hp ⊢
theorem frame_of_cnt (h : t = { s with cnt := t.cnt }) : Frame [.cnt] s t := by rw [h]; constructor; intro p hp; cases p <;> simp [agree] at hp ⊢

end

end Sys2Proof.Machine

/-!
PROOFS, 03 host windows: resets of a function (03 R79). What a reset does to the windows and the configuration it does in one place; the flows that it closes tell their home, close their minutes and may latch the meter's event, which changes no window and no configuration but that of function 0.
-/

namespace Sys2Proof.Machine

set_option Elab.async false

/-! Frames of the operations that a close is made of. -/

theorem frame_latchEvent (n : Nat) (s : State) : Frame [.fab] s (latchEvent n s) := frame_of_fab (latchEvent_fab ..)

theorem frame_tellStream (sid : StreamId) (body : Forwarded) (s : State) : Frame [.pair] s (tellStream sid body s) := frame_of_pair (tellStream_pair ..)

theorem frame_noteSeal (sid : StreamId) (live : Bool) (s : State) : Frame [.pair] s (noteSeal sid live s) := frame_of_pair (noteSeal_pair ..)

theorem frame_dropHolds (t : Nat) (s : State) : Frame [.vit] s (dropHolds t s) := frame_of_vit (dropHolds_vit ..)

theorem frame_updGal (g : Nat) (f : Gallery → Gallery) (s : State) : Frame [.vit] s (updGal g f s) := frame_of_vit rfl

theorem frame_updFlow (i : Nat) (f : Flow → Flow) (s : State) : Frame [.doc] s (updFlow i f s) := frame_of_doc rfl

theorem frame_updWin (fn : Nat) (f : Window → Window) (s : State) : Frame [.fab] s (updWin fn f s) := frame_of_fab rfl

theorem frame_storeMeter (r : MeterRecord) (s : State) : Frame [.vit] s (storeMeter r s) := by
  unfold storeMeter
  dsimp only
  split
  · exact frame_of_vit rfl
  · split
    · exact frame_of_vit rfl
    · exact .refl ..

theorem frame_makeRecord {ps : List Part} (id : Nat) (c : Closing) {keep : MeterRecord → State → State} (hkeep : ∀ r s, Frame ps s (keep r s)) (s : State)
    (hvit : .vit ∈ ps := by simp) (hfab : .fab ∈ ps := by simp) : Frame ps s (makeRecord id c keep s) := by
  have hv : [Part.vit] ⊆ ps := by simpa using hvit
  have hf : [Part.fab] ⊆ ps := by simpa using hfab
  unfold makeRecord
  split
  · exact .refl ..
  · dsimp only
    split
    · exact (((frame_updGal ..).mono hv).trans (hkeep _ _)).trans ((frame_latchEvent ..).mono hf)
    · exact (frame_updGal ..).mono hv

theorem frame_writeMeter (id : Nat) (c : Closing) (s : State) : Frame [.fab, .vit] s (writeMeter id c s) :=
  (frame_updGal ..).mono.trans (.ite (fun _ => frame_makeRecord _ _ (fun r s => (frame_storeMeter r s).mono) _) (fun _ => .refl ..))

theorem frame_closeMinutes (id fuel : Nat) (s : State) : Frame [.fab, .vit] s (closeMinutes id fuel s) := by
  fun_induction closeMinutes id fuel s with
  | case1 s => exact .refl ..
  | case2 s fuel h => exact .refl ..
  | case3 s fuel c h hm ih => exact (frame_writeMeter ..).trans ih
  | case4 s fuel c h hm => exact .refl ..

theorem frame_closeMinute (id : Nat) (s : State) : Frame [.fab, .vit] s (closeMinute id s) := frame_closeMinutes ..

theorem frame_dropSeals (fn : Nat) (s : State) : Frame [.vit, .pair] s (dropSeals fn s) := by
  unfold dropSeals
  split
  · exact (frame_updGal ..).mono.trans (.foldl (fun s k => (frame_noteSeal ..).mono) _ _)
  · exact .refl ..

theorem frame_closeFlows (fis : List Nat) (s : State) : Frame [.fab, .doc, .vit, .pair] s (closeFlows fis s) :=
  ((Frame.foldl (fun s p => (frame_tellStream ..).mono) _ _).trans ((frame_of_doc rfl).mono)).trans (.foldl (fun s p => (frame_closeMinute ..).mono) _ _)

theorem frame_discardFlows (fis : List Nat) (s : State) : Frame [.doc, .vit] s (discardFlows fis s) :=
  (((frame_of_doc rfl).mono).trans (.foldl (fun s p => (frame_dropHolds ..).mono) _ _)).trans (.foldl (fun s p => (frame_updFlow ..).mono) _ _)

/-! What an event leaves of the endpoint: every window, and the configuration of every function but function 0. -/

/-- The windows are as they were, and so are the functions but function 0, which carries the module's events. -/
structure EventOnly (s t : State) : Prop where
  windows : ∀ k, win t k = win s k
  functions : ∀ k, k ≠ 0 → pcie t k = pcie s k

theorem EventOnly.refl (s : State) : EventOnly s s := ⟨fun _ => rfl, fun _ _ => rfl⟩

theorem EventOnly.trans {s t u : State} (h : EventOnly s t) (g : EventOnly t u) : EventOnly s u :=
  ⟨fun k => (g.windows k).trans (h.windows k), fun k hk => (g.functions k hk).trans (h.functions k hk)⟩

theorem EventOnly.of_frame {ps : List Part} {s t : State} (h : Frame ps s t) (hp : .fab ∉ ps := by simp) : EventOnly s t := by
  have hfab := h.fab hp
  exact ⟨fun k => by unfold win; rw [hfab], fun k _ => by unfold pcie; rw [hfab]⟩

theorem EventOnly.foldl {β : Type} {g : State → β → State} (h : ∀ s x, EventOnly s (g s x)) (l : List β) (s : State) : EventOnly s (l.foldl g s) := by
  induction l generalizing s with
  | nil => exact .refl ..
  | cons a l ih => exact (h s a).trans (ih _)

theorem eventOnly_latchEvent (n : Nat) (s : State) : EventOnly s (latchEvent n s) := by
  refine ⟨win_latchEvent s n, fun k hk => ?_⟩
  unfold latchEvent
  split
  · rfl
  · dsimp only
    split
    · rw [pcie_sendVector, if_neg hk]
      rfl
    · rfl

theorem eventOnly_writeMeter (id : Nat) (c : Closing) (s : State) : EventOnly s (writeMeter id c s) := by
  unfold writeMeter
  dsimp only
  split
  · unfold makeRecord
    split
    · exact .of_frame (frame_updGal ..)
    · dsimp only
      split
      · exact ((EventOnly.of_frame (frame_updGal ..)).trans ((EventOnly.of_frame (frame_updGal ..)).trans (.of_frame (frame_storeMeter ..)))).trans (eventOnly_latchEvent ..)
      · exact (EventOnly.of_frame (frame_updGal ..)).trans (.of_frame (frame_updGal ..))
  · exact .of_frame (frame_updGal ..)

theorem eventOnly_closeMinutes (id fuel : Nat) (s : State) : EventOnly s (closeMinutes id fuel s) := by
  fun_induction closeMinutes id fuel s with
  | case1 s => exact .refl ..
  | case2 s fuel h => exact .refl ..
  | case3 s fuel c h hm ih => exact (eventOnly_writeMeter ..).trans ih
  | case4 s fuel c h hm => exact .refl ..

theorem eventOnly_closeFlows (fis : List Nat) (s : State) : EventOnly s (closeFlows fis s) :=
  ((EventOnly.of_frame (Frame.foldl (fun s p => frame_tellStream ..) _ _)).trans (.of_frame (frame_of_doc rfl))).trans (.foldl (fun s p => eventOnly_closeMinutes ..) _ _)

/-! The flows and commands of a reset function. -/

theorem closeFlows_doc (fis : List Nat) (s : State) :
    (closeFlows fis s).doc = { s.doc with flows := s.doc.flows.filter (fun p =>
      !((s.doc.flows.filter (fun q => fis.contains q.1 && !(s.doc.descs.any (fun d => d.2.flow == q.1)))).any (fun q => q.1 == p.1))) } := by
  unfold closeFlows
  dsimp only
  rw [(Frame.foldl (fun s p => frame_closeMinute ..) _ _).doc]
  dsimp only
  rw [(Frame.foldl (fun s p => frame_tellStream ..) _ _).doc]

/-- A flow that a close leaves was there, and is none of those closed or still holds a command. -/
theorem mem_flows_closeFlows {fis : List Nat} {s : State} {p : Nat × Flow} (h : p ∈ (closeFlows fis s).doc.flows) :
    p ∈ s.doc.flows ∧ (fis.contains p.1 = true → ∃ d ∈ s.doc.descs, d.2.flow = p.1) := by
  rw [closeFlows_doc] at h
  obtain ⟨hmem, hkept⟩ := List.mem_filter.mp h
  refine ⟨hmem, fun hin => ?_⟩
  by_contra hno
  have hgone : p ∈ s.doc.flows.filter (fun q => fis.contains q.1 && !(s.doc.descs.any (fun d => d.2.flow == q.1))) := by
    refine List.mem_filter.mpr ⟨hmem, ?_⟩
    rw [hin]
    simpa using fun a b hd hf => hno ⟨(a, b), hd, hf⟩
  simp only [Bool.not_eq_true', List.any_eq_false] at hkept
  exact hkept p hgone (by simp)

/-- The commands that a discard leaves in its flows are those that run on, marked for their responses to be discarded. -/
theorem mem_descs_discardFlows {fis : List Nat} {s : State} {p : Nat × Desc} (h : p ∈ (discardFlows fis s).doc.descs) (hin : fis.contains p.2.flow = true) :
    runsOn p.2 = true ∧ p.2.discard = true := by
  have hflows : ∀ (l : List Nat) (u : State), (l.foldl (fun s fi => updFlow fi (fun f => { f with held := [], gapAt := none }) s) u).doc.descs = u.doc.descs := by
    intro l
    induction l with
    | nil => exact fun _ => rfl
    | cons a l ih => exact fun u => ih _
  unfold discardFlows at h
  dsimp only at h
  rw [hflows, (Frame.foldl (fun s p => frame_dropHolds ..) _ _).doc] at h
  obtain ⟨q, hq, rfl⟩ := List.mem_map.mp h
  have hkept := (List.mem_filter.mp hq).2
  by_cases hf : fis.contains q.2.flow = true
  · simp only [hf, if_true, Bool.true_and, Bool.not_not] at hkept ⊢
    exact ⟨hkept, trivial⟩
  · rw [if_neg hf] at hin
    exact absurd hin hf

theorem functionLevelReset_effect (fn : Fin 1025) (s : State) : ∃ t ts, exec (.functionLevelReset fn) s = .next t ∧
    win t fn = { gallery := (win s fn).gallery, unbind := (win s fn).unbind, lastState := (win s fn).lastState, flr := some ts } ∧
    pcie t fn = {} ∧ (∀ k, k ≠ fn.val → win t k = win s k) ∧ (∀ k, k ≠ fn.val → k ≠ 0 → pcie t k = pcie s k) ∧
    (∀ p ∈ t.doc.descs, (windowFlows s fn).contains p.2.flow = true → runsOn p.2 = true ∧ p.2.discard = true ∧ p.1 ∈ ts) ∧
    t.bb = s.bb ∧ t.fuses = s.fuses ∧ t.pow = s.pow ∧ t.now = s.now := by
  let fis := windowFlows s fn
  let a := discardFlows fis s
  let ts := (a.doc.descs.filter (fun p => fis.contains p.2.flow)).map (·.1)
  let b := closeFlows fis (dropSeals fn a)
  let t := updPcie fn (fun _ => {}) (updWin fn (fun w => { w with flr := some ts }) (resetWindow fn b))
  have hframe : Frame [.fab, .doc, .vit, .pair] s t :=
    (((frame_discardFlows fis s).mono.trans ((frame_dropSeals fn a).mono)).trans (frame_closeFlows ..)).trans ((frame_of_fab rfl).mono)
  have hevent : EventOnly s b :=
    ((EventOnly.of_frame (frame_discardFlows fis s)).trans (.of_frame (frame_dropSeals ..))).trans (eventOnly_closeFlows ..)
  have hwin : ∀ k, win t k = if k = fn.val then { gallery := (win s fn).gallery, unbind := (win s fn).unbind, lastState := (win s fn).lastState, flr := some ts } else win s k := by
    intro k
    show win (updPcie _ _ _) k = _
    rw [win_updPcie, win_updWin]
    unfold resetWindow
    rw [win_updWin, win_updWin, if_pos rfl, hevent.windows]
    split
    · rfl
    · exact hevent.windows k
  have hdescs : t.doc.descs = a.doc.descs := by
    show (closeFlows fis (dropSeals fn a)).doc.descs = _
    rw [closeFlows_doc, (frame_dropSeals fn a).doc]
  refine ⟨t, ts, rfl, by rw [hwin, if_pos rfl], ?_, fun k hk => by rw [hwin, if_neg hk], fun k hk h0 => ?_, fun p hp hin => ?_, hframe.bb, hframe.fuses, hframe.pow, hframe.now⟩
  · show pcie (updPcie _ _ _) _ = _
    rw [pcie_updPcie, if_pos rfl]
  · show pcie (updPcie _ _ _) _ = _
    rw [pcie_updPcie, if_neg hk]
    exact hevent.functions k h0
  · rw [hdescs] at hp
    obtain ⟨hruns, hdiscard⟩ := mem_descs_discardFlows hp hin
    exact ⟨hruns, hdiscard, List.mem_map.mpr ⟨p, List.mem_filter.mpr ⟨hp, hin⟩, rfl⟩⟩

theorem functionLevelResetDone_effect (fn : Fin 1025) (ts : List Nat) (s : State) (hflr : (win s fn).flr = some ts)
    (hdone : ∀ t ∈ ts, ∀ d, desc s t = some d → d.discard = false) :
    ∃ t, exec (.functionLevelResetDone fn) s = .next t ∧ win t fn = { win s fn with flr := none } ∧ (∀ k, k ≠ fn.val → win t k = win s k) ∧ t.doc.descs = s.doc.descs ∧
      (∀ p ∈ t.doc.flows, p ∈ s.doc.flows ∧ ((windowFlows s fn).contains p.1 = true → (∃ i ∈ (win s fn).streams, i.2.flow = some p.1) ∨ ∃ d ∈ s.doc.descs, d.2.flow = p.1)) ∧
      t.bb = s.bb ∧ t.fuses = s.fuses ∧ t.pow = s.pow ∧ t.now = s.now := by
  let live := (win s fn).streams.filterMap (·.2.flow)
  let fis := (windowFlows s fn).filter (fun fi => !live.contains fi)
  let b := closeFlows fis s
  have hnone : ts.any (fun t => ((desc s t).map (·.discard)).getD false) = false := by
    rw [List.any_eq_false]
    intro t ht
    cases hd : desc s t with
    | none => simp
    | some d => simp [hdone t ht d hd]
  have hexec : exec (.functionLevelResetDone fn) s = .next (updWin fn (fun w => { w with flr := none }) b) := by
    show execFunctionLevelResetDone fn s = _
    simp only [execFunctionLevelResetDone, hflr, hnone, Bool.false_eq_true, if_false]
    rfl
  have hevent : EventOnly s b := eventOnly_closeFlows ..
  have hframe : Frame [.fab, .doc, .vit, .pair] s (updWin fn (fun w => { w with flr := none }) b) := (frame_closeFlows fis s).andThen (frame_updWin ..)
  refine ⟨_, hexec, ?_, fun k hk => ?_, ?_, fun p hp => ?_, hframe.bb, hframe.fuses, hframe.pow, hframe.now⟩
  · rw [win_updWin, if_pos rfl, hevent.windows]
  · rw [win_updWin, if_neg hk, hevent.windows]
  · rw [updWin_doc]
    show (closeFlows fis s).doc.descs = _
    rw [closeFlows_doc]
  · obtain ⟨hmem, hheld⟩ := mem_flows_closeFlows (show p ∈ (closeFlows fis s).doc.flows from hp)
    refine ⟨hmem, fun hin => ?_⟩
    by_cases hlive : live.contains p.1 = true
    · obtain ⟨i, hi, hf⟩ := List.mem_filterMap.mp (List.contains_iff_mem.mp hlive)
      exact .inl ⟨i, hi, hf⟩
    · refine .inr (hheld (List.contains_iff_mem.mpr (List.mem_filter.mpr ⟨List.contains_iff_mem.mp hin, ?_⟩)))
      simpa using hlive

/-- Settles O14. -/
theorem functionLevelResets : Obligations.FunctionLevelResets := by
  unfold Obligations.FunctionLevelResets
  exact ⟨functionLevelReset_effect, functionLevelResetDone_effect, fun s => rfl⟩

end Sys2Proof.Machine

/-!
PROOFS, 03 host windows and 15 start: the reset pins and the link (03 R80, 15 R360, R366). A pulse that is seen ends the mode as one operation, START begins as one other; what both leave is read from the last operation that writes it.
-/

namespace Sys2Proof.Machine

set_option Elab.async false

/-! Frames of the operations of a reset. -/

theorem frame_logRecord (type source flags : Nat) (data : Bytes) (s : State) : Frame [.cur] s (logRecord type source flags data s) := frame_of_cur (logRecord_cur ..)

theorem frame_updDesc (t : Nat) (f : Desc → Desc) (s : State) : Frame [.doc] s (updDesc t f s) := frame_of_doc rfl

theorem frame_answerFn (t : Nat) (r : Resp) (ch : List Change) (s : State) : Frame [.doc] s (answerFn t r ch s) := frame_of_doc (answerFn_only ..).1

theorem frame_emitMctp (m : MctpMsg) (s : State) : Frame [.cur] s (emitMctp m s) := frame_of_cur rfl

theorem frame_sendMctp (bus : Nat) (m : MctpMsg) (s : State) : Frame [.cur] s (sendMctp bus m s) :=
  .ite (fun _ => frame_of_cur rfl) (fun _ => frame_emitMctp ..)

theorem frame_sendReply (bus : Nat) (r : MgmtReply) (s : State) : Frame [.cur] s (sendReply bus r s) :=
  .ite (fun _ => frame_of_cur rfl) (fun _ => frame_sendMctp ..)

theorem frame_refreshWindow (fn : Nat) (s : State) : Frame [.fab] s (refreshWindow fn s) := frame_of_fab (refreshWindow_fab ..)

theorem frame_setMode (m : Mode) (s : State) : Frame [.fab, .pow, .cur] s (setMode m s) := by
  rw [setMode_only]
  exact ⟨fun p hp => by cases p <;> simp [agree] at hp ⊢⟩

theorem frame_countEvent (w e k : Nat) (g : Option Nat) (s : State) : Frame [.cnt] s (countEvent w e k g s) := frame_of_cnt (countEvent_cnt ..)

theorem frame_settleCell (c : Nat) (s : State) : Frame [.cnt, .freeCount] s (settleCell c s) := by
  unfold settleCell
  dsimp only
  split
  · exact (frame_of_cnt rfl).mono
  · refine .andThen (.andThen ⟨fun p hp => ?_⟩ (frame_countEvent ..)) (frame_countEvent ..)
    cases p <;> simp [agree, freeBytes] at hp ⊢

theorem frame_settleCells (s : State) : Frame [.cnt, .freeCount] s (settleCells s) :=
  (Frame.foldl (fun s w => .foldl (fun s c => frame_settleCell ..) _ _) _ _).andThen (frame_of_cnt rfl)

theorem frame_clearLatch (b : Burn) (s : State) : Frame [.ao] s (clearLatch b s) :=
  .ite (fun _ => ⟨fun p hp => by cases p <;> simp [agree] at hp ⊢⟩) (fun _ => .refl ..)

/-- A burn completed and logged, its request not answered yet. -/
def burnCompleted (b : Burn) (s : State) : State :=
  let a := clearLatch b (advanceTo (b.at_ + burnNs b) s)
  logTransition b.target 0 { a with
    fuses := { a.fuses with records := a.fuses.records ++ [{ target := b.target, token := b.token, complete := true }] }
    reg := { a.reg with burn := none, transitioned := true } }

theorem frame_burnCompleted (b : Burn) (s : State) : Frame [.ao, .fuses, .reg, .cur, .now] s (burnCompleted b s) := by
  have hlatch : Frame [.ao, .now] s (clearLatch b (advanceTo (b.at_ + burnNs b) s)) :=
    .andThen ⟨fun p hp => by cases p <;> simp [agree, advanceTo] at hp ⊢⟩ (frame_clearLatch ..)
  unfold burnCompleted
  generalize clearLatch b (advanceTo (b.at_ + burnNs b) s) = a at hlatch
  exact (hlatch.mono.trans ⟨fun p hp => by cases p <;> simp [agree] at hp ⊢⟩).andThen (frame_logRecord ..)

theorem finishBurn_of_burn {b : Burn} {s : State} (h : s.reg.burn = some b) : finishBurn s =
    match b.ticket with
    | some t => if ((desc (burnCompleted b s) t).map (fun d => d.st == .inService)).getD false then answerFn t (okResp []) [] (burnCompleted b s) else burnCompleted b s
    | none => sendReply b.bus (replyOk []) (burnCompleted b s) := by
  rw [finishBurn, h]
  rfl

theorem frame_finishBurn (s : State) : Frame [.doc, .ao, .fuses, .reg, .cur, .now] s (finishBurn s) := by
  cases h : s.reg.burn with
  | none =>
    rw [finishBurn, h]
    exact .refl ..
  | some b =>
    rw [finishBurn_of_burn h]
    have hburnt := (frame_burnCompleted b s).mono (qs := [.doc, .ao, .fuses, .reg, .cur, .now])
    split
    · exact hburnt.trans (.ite (fun _ => (frame_answerFn ..).mono) (fun _ => .refl ..))
    · exact hburnt.andThen (frame_sendReply ..)

/-! The end of the mode. -/

theorem stopMain_pow (s : State) : (stopMain s).pow = { s.pow with
    ceremony := false, isolated := false, pending := false, starting := false, closeStage := 0, quiesce := none, switching := [], switchTo := none, switchTicket := none
    avs := none, pllStopped := [], wRun := 16, lastTake := [], woken := [], awaited := [], wings := [], operandSpace := {} } := by
  unfold stopMain
  dsimp only
  rw [(frame_settleCells s).pow]

/-- Main-domain state is gone: windows, commands, flows and the key cache. -/
theorem stopMain_empty (s : State) : (stopMain s).fab.windows = [] ∧ (stopMain s).doc.descs = [] ∧ (stopMain s).doc.flows = [] ∧ (stopMain s).vit.cache = [] :=
  ⟨rfl, rfl, rfl, rfl⟩

theorem endMode_of_mode {s : State} (h : s.pow.mode ≠ .vault) : endMode s = stopMain (setMode .start (finishBurn s)) := by
  rw [endMode, if_neg (by simpa using h)]

theorem endMode_of_vault {s : State} (h : s.pow.mode = .vault) : endMode s = s := by rw [endMode, h]; rfl

theorem endMode_pow {s : State} (h : s.pow.mode ≠ .vault) : (endMode s).pow.mode = .start ∧ (endMode s).pow.starting = false := by
  rw [endMode_of_mode h, stopMain_pow, setMode_pow]
  exact ⟨rfl, rfl⟩

theorem endMode_empty {s : State} (h : s.pow.mode ≠ .vault) :
    (endMode s).fab.windows = [] ∧ (endMode s).doc.descs = [] ∧ (endMode s).doc.flows = [] ∧ (endMode s).vit.cache = [] := by
  rw [endMode_of_mode h]
  exact stopMain_empty _

theorem pulseSeen_of_long {lowNs : Nat} (h : 10000 ≤ lowNs) (s : State) : pulseSeen lowNs s = (true, s) := by
  rw [pulseSeen, if_neg (by omega), if_pos h]

theorem pulseSeen_of_short {lowNs : Nat} (h : lowNs < 1000) (s : State) : pulseSeen lowNs s = (false, s) := by
  rw [pulseSeen, if_pos h]

theorem exec_perstAssert_of_long {lowNs : Nat} (h : 10000 ≤ lowNs) (s : State) :
    exec (.perstAssert lowNs) s = .next { endMode s with pow := { (endMode s).pow with perstAsserted := true }, fab := { (endMode s).fab with linkUp := false } } := by
  show execPerstAssert lowNs s = _
  rw [execPerstAssert, pulseSeen_of_long h]
  rfl

theorem exec_pwronResetAssert_of_long {lowNs : Nat} (h : 10000 ≤ lowNs) (s : State) :
    exec (.pwronResetAssert lowNs) s = .next { endMode s with
      pow := { (endMode s).pow with pwronAsserted := true }
      reg := { (endMode s).reg with debug := (endMode s).reg.debug && !(endMode s).reg.debugStarted, debugStarted := false } } := by
  show execPwronResetAssert lowNs s = _
  rw [execPwronResetAssert, pulseSeen_of_long h]
  rfl

/-! The beginning of START. -/

theorem frame_keepZero (s : State) : Frame [.vit] s (keepZero s) := .ite (fun _ => .refl ..) (fun _ => frame_of_vit rfl)

theorem frame_startWindows (s : State) : Frame [.fab, .vit] s (startWindows s) :=
  (frame_keepZero s).mono.trans (.ite (fun _ => (frame_of_fab rfl).mono) (fun _ => (frame_of_fab rfl).mono.andThen (frame_refreshWindow ..)))

theorem windows_refreshWindow_zero {w : Window} {s : State} (h : s.fab.windows = [(0, w)]) (k : Nat) (hk : k ≠ 0) :
    mget (refreshWindow 0 s).fab.windows k = none := by
  have hone : ∀ v, mget (mset s.fab.windows 0 v) k = none := fun v => by
    rw [mget_mset_ne _ _ hk, h]
    simp [mget, Ne.symm hk]
  have hlatch : ∀ u : State, mget u.fab.windows k = none → mget (latchCause 0 48 u).fab.windows k = none := fun u hu => by
    have hset : ∀ v, mget (mset u.fab.windows 0 v) k = none := fun v => by rw [mget_mset_ne _ _ hk, hu]
    unfold latchCause
    dsimp only
    split
    · exact hu
    · split
      · rw [sendVector_windows]
        exact hset _
      · exact hset _
  unfold refreshWindow
  dsimp only
  split
  · rw [h]
    simp [mget, Ne.symm hk]
  · exact hlatch _ (hone _)

/-- At START only the PF can have a window. -/
theorem windows_startWindows (s : State) (k : Nat) (hk : k ≠ 0) : mget (startWindows s).fab.windows k = none := by
  unfold startWindows
  dsimp only
  split
  · rfl
  · exact windows_refreshWindow_zero rfl k hk

/-- START as it stands before step 1: what follows the windows' change touches none of what follows. -/
theorem frame_startOpened (s : State) : Frame [.doc, .rng, .pow, .cnt, .ao, .reg, .cur] s (logTamper (takeGrant (openStart (clearShadows s)))) := by
  have htamper : ∀ u : State, Frame [.ao, .cur] u (logTamper u) := fun u => by
    rw [logTamper_only]
    exact ⟨fun p hp => by cases p <;> simp [agree] at hp ⊢⟩
  refine .andThen (s := s) (t := takeGrant (openStart (clearShadows s))) ⟨fun p hp => ?_⟩ (htamper _)
  cases p <;> simp [agree, takeGrant, openStart, clearShadows] at hp ⊢

theorem logTamper_pow (s : State) : (logTamper s).pow = s.pow := by rw [logTamper_only]

theorem logTamper_doc (s : State) : (logTamper s).doc = s.doc := by rw [logTamper_only]

theorem opened_pow (a : State) : (logTamper (takeGrant (openStart (clearShadows a)))).pow = { a.pow with
    starting := true, startStep := 0, closeStage := 0, startAt := a.now, countFrom := a.now, steps := 0, firstStart := false
    clockMode := 3, vcoreMv := wantedMv a.pow.step 3 } := by
  rw [logTamper_pow]
  rfl

theorem opened_commands (a : State) :
    (logTamper (takeGrant (openStart (clearShadows a)))).doc.descs = a.doc.descs ∧ (logTamper (takeGrant (openStart (clearShadows a)))).doc.flows = a.doc.flows := by
  rw [logTamper_doc]
  exact ⟨rfl, rfl⟩

theorem beginStart_pow (s : State) :
    let p := (beginStart s).pow
    p.mode = .start ∧ p.starting = true ∧ p.startStep = 0 ∧ p.perstAsserted = s.pow.perstAsserted ∧ p.pwronAsserted = s.pow.pwronAsserted ∧ p.main = s.pow.main := by
  unfold beginStart
  rw [opened_pow, (frame_startWindows _).pow, stopMain_pow, setMode_pow, (frame_finishBurn s).pow]
  exact ⟨rfl, rfl, rfl, rfl, rfl, rfl⟩

/-- A START that has begun has no command, and of the windows only the PF's may be there. -/
theorem beginStart_empty (s : State) :
    (∀ k, k ≠ 0 → mget (beginStart s).fab.windows k = none) ∧ (beginStart s).doc.descs = [] ∧ (beginStart s).doc.flows = [] := by
  unfold beginStart
  rw [(frame_startOpened _).fab, (opened_commands _).1, (opened_commands _).2, (frame_startWindows _).doc]
  obtain ⟨-, hdescs, hflows, -⟩ := stopMain_empty (setMode .start (finishBurn s))
  exact ⟨windows_startWindows _, hdescs, hflows⟩

/-! The release of the pins. -/

theorem exec_perstDeassert_of_asserted {s : State} (h : s.pow.perstAsserted = true) :
    exec .perstDeassert s = .next (startIfReleased { s with pow := { s.pow with perstAsserted := false }, fab := { s.fab with fns := [], windows := [] } }) := by
  show execPerstDeassert s = _
  rw [execPerstDeassert, h]
  rfl

/-- The module-wide registers at a release of PWRON_RESET_N: VAULT ends with it. -/
def registersReleased (s : State) : State :=
  let a : State := { s with pow := { s.pow with pwronAsserted := false, main := true } }
  resetRegisters (if a.pow.mode == .vault then setMode .start a else a)

theorem armNow_of_quiet {before : Nat} {s : State} (h : s.ao.live = 0) : armNow before s = s := by
  unfold armNow
  generalize List.range 13 = l
  induction l with
  | nil => rfl
  | cons a l ih =>
    rw [List.foldl_cons, if_neg (by simp [h, bit])]
    exact ih

theorem frame_modeAtRelease (a : State) : Frame [.fab, .pow, .cur] a (if a.pow.mode == .vault then setMode .start a else a) :=
  .ite (fun _ => frame_setMode ..) (fun _ => .refl ..)

theorem resetRegisters_ao (s : State) : (resetRegisters s).ao = s.ao := rfl

theorem registersReleased_ao (s : State) : (registersReleased s).ao = s.ao := by
  unfold registersReleased
  rw [resetRegisters_ao]
  exact (frame_modeAtRelease { s with pow := { s.pow with pwronAsserted := false, main := true } }).ao

theorem exec_pwronResetDeassert_of_asserted {s : State} (h : s.pow.pwronAsserted = true) (hlive : s.ao.live = 0) :
    exec .pwronResetDeassert s = .next (startIfReleased (registersReleased s)) := by
  have hquiet : ∀ before, armNow before (registersReleased s) = registersReleased s := fun before => armNow_of_quiet (by rw [registersReleased_ao, hlive])
  show execPwronResetDeassert s = _
  rw [← hquiet (armed { s with pow := { s.pow with pwronAsserted := false, main := true } }), execPwronResetDeassert, h]
  rfl

theorem registersReleased_pow (s : State) :
    let t := registersReleased s
    t.pow.pwronAsserted = false ∧ t.pow.main = true ∧ t.pow.perstAsserted = s.pow.perstAsserted ∧ (s.pow.mode = .vault → t.pow.mode = .start) := by
  unfold registersReleased resetRegisters
  dsimp only
  split
  · rw [setMode_pow]
    exact ⟨rfl, rfl, rfl, fun _ => rfl⟩
  · next h => exact ⟨rfl, rfl, rfl, fun hv => absurd (by rw [hv]; rfl) h⟩

/-- What a release of PWRON_RESET_N leaves of the state beside its registers. -/
theorem registersReleased_kept (s : State) :
    let t := registersReleased s
    t.fab.mevCause = 0 ∧ t.fab.mevMask = 0 ∧ t.pair.role = .withdrawn ∧ t.cnt = {} ∧ t.err = {} ∧ t.bb = s.bb ∧ t.ao = s.ao ∧ t.fuses = s.fuses ∧
      t.img.slot0 = s.img.slot0 ∧ t.img.slot1 = s.img.slot1 := by
  have h := frame_modeAtRelease { s with pow := { s.pow with pwronAsserted := false, main := true } }
  exact ⟨rfl, rfl, rfl, rfl, rfl, h.bb, h.ao, h.fuses, congrArg (·.slot0) h.img, congrArg (·.slot1) h.img⟩

theorem startIfReleased_of_held {s : State} (h : s.pow.perstAsserted = true ∨ s.pow.pwronAsserted = true) : startIfReleased s = s := by
  rw [startIfReleased, if_neg]
  rcases h with h | h <;> simp [resetReleased, h]

theorem startIfReleased_of_released {s : State} (hmain : s.pow.main = true) (hpwron : s.pow.pwronAsserted = false) (hperst : s.pow.perstAsserted = false) :
    startIfReleased s = beginStart s := by
  rw [startIfReleased, if_pos]
  simp [resetReleased, hmain, hpwron, hperst]

/-- Settles O15: a pulse that is seen is the end of the mode, the last release is the beginning of START. -/
theorem resetPins : Obligations.ResetPins := by
  unfold Obligations.ResetPins
  refine ⟨fun lowNs s hlow hmode => ⟨?_, ?_⟩, fun lowNs s hlow => ⟨?_, ?_⟩, fun lowNs s hlow hmode => ?_, fun s hperst hpwron hmain => ?_, fun s hperst hpwron => ?_,
    fun s hpwron hperst hlive => ?_, fun s hpwron hperst hlive => ?_, fun s => rfl, fun s hperst hmain => ?_⟩
  · obtain ⟨hwindows, hdescs, hflows, hcache⟩ := endMode_empty hmode
    exact ⟨_, exec_perstAssert_of_long hlow s, rfl, (endMode_pow hmode).1, (endMode_pow hmode).2, rfl, hwindows, hdescs, hflows, hcache⟩
  · obtain ⟨hwindows, hdescs, hflows, hcache⟩ := endMode_empty hmode
    exact ⟨_, exec_pwronResetAssert_of_long hlow s, rfl, (endMode_pow hmode).1, (endMode_pow hmode).2, hwindows, hdescs, hflows, hcache, rfl⟩
  · show execPerstAssert lowNs s = _
    rw [execPerstAssert, pulseSeen_of_short hlow]
    rfl
  · show execPwronResetAssert lowNs s = _
    rw [execPwronResetAssert, pulseSeen_of_short hlow]
    rfl
  · rw [exec_perstAssert_of_long hlow, endMode_of_vault hmode]
  · obtain ⟨hmode, hstarting, hstep, hheld, -, -⟩ :=
      beginStart_pow { s with pow := { s.pow with perstAsserted := false }, fab := { s.fab with fns := [], windows := [] } }
    obtain ⟨hwindows, hdescs, hflows⟩ := beginStart_empty { s with pow := { s.pow with perstAsserted := false }, fab := { s.fab with fns := [], windows := [] } }
    refine ⟨_, ?_, hheld, hmode, hstarting, hstep, hwindows, hdescs, hflows⟩
    exact (exec_perstDeassert_of_asserted hperst).trans (congrArg _ (startIfReleased_of_released hmain hpwron rfl))
  · exact (exec_perstDeassert_of_asserted hperst).trans (congrArg _ (startIfReleased_of_held (.inr hpwron)))
  · obtain ⟨hreleased, hmain, hheld, hvault⟩ := registersReleased_pow s
    refine ⟨_, ?_, hreleased, hmain, hheld.trans hperst, hvault, registersReleased_kept s⟩
    rw [exec_pwronResetDeassert_of_asserted hpwron hlive, startIfReleased_of_held (.inl (hheld.trans hperst))]
  · obtain ⟨hreleased, hmain, hheld, -⟩ := registersReleased_pow s
    obtain ⟨hmode, hstarting, hstep, -, hpwron', hmain'⟩ := beginStart_pow (registersReleased s)
    refine ⟨_, ?_, hpwron'.trans hreleased, hmain'.trans hmain, hstarting, hstep, hmode⟩
    rw [exec_pwronResetDeassert_of_asserted hpwron hlive, startIfReleased_of_released hmain hreleased (hheld.trans hperst)]
  · show execPcieLinkUp s = _
    rw [execPcieLinkUp, hperst, hmain]
    rfl

end Sys2Proof.Machine

/-!
SUPPORT. Frames of the release and publication of responses (10 R263, 03 R69, R70): a release changes the Docent, what it meters and what it sends across the span; a publication changes the endpoint and the counts of what it publishes.
-/

namespace Sys2Proof.Machine

set_option Elab.async false

/-! Release. -/

theorem frame_updStrm (fn i : Nat) (f : Stream → Stream) (s : State) : Frame [.fab] s (updStrm fn i f s) := frame_of_fab rfl

theorem frame_sendTo (cls dst : Nat) (body : FrameBody) (s : State) : Frame [.pair] s (sendTo cls dst body s) := frame_of_pair (sendTo_pair ..)

theorem frame_freeDesc (t : Nat) (s : State) : Frame [.doc, .vit] s (freeDesc t s) :=
  (Frame.mono (frame_of_doc rfl)).andThen (frame_dropHolds ..)

theorem frame_freeCell (c : Nat) (s : State) : Frame [.doc, .cnt, .freeCount] s (freeCell c s) :=
  (frame_settleCell c s).mono.andThen (frame_of_doc rfl)

theorem frame_freeCopies (t : Nat) (d : Desc) (s : State) : Frame [.doc, .cnt, .freeCount] s (freeCopies t d s) :=
  .foldl (fun _ _ => .ite (fun _ => frame_freeCell ..) (fun _ => .refl ..)) _ _

theorem frame_meterRelease (sid : StreamId) (d : Desc) (r : Resp) (s : State) : Frame [.vit] s (meterRelease sid d r s) := frame_updGal ..

theorem frame_returnFar (fl : Flow) (d : Desc) (r : Resp) (s : State) : Frame [.pair] s (returnFar fl d r s) := .foldl (fun _ _ => frame_sendTo ..) _ _

theorem frame_closeRemote (fi : Nat) (s : State) : Frame [.fab, .doc, .vit, .pair] s (closeRemote fi s) := by
  unfold closeRemote
  split
  · exact .ite (fun _ => frame_closeFlows ..) (fun _ => .refl ..)
  · exact .refl ..

theorem frame_releaseOne (fi : Nat) (fl : Flow) (t : Nat) (d : Desc) (r : Resp) (s : State) : Frame [.fab, .doc, .vit, .pair] s (releaseOne fi fl t d r s) := by
  have hmeter : Frame [.fab, .doc, .vit, .pair] s (if fl.proxy then s else meterRelease fl.sid d r s) :=
    .ite (fun _ => .refl ..) (fun _ => (frame_meterRelease ..).mono)
  unfold releaseOne
  dsimp only
  generalize (if fl.proxy then s else meterRelease fl.sid d r s) = a at hmeter ⊢
  have hmirror : Frame [.fab, .doc, .vit, .pair] s (if paired a && originatedHere fl d && (isUnmirrored s fl d || a.pair.role == .sole) then
      { a with pair := { a.pair with unmirrored := (a.pair.lastDelta, journalOf d fl.sid r) :: a.pair.unmirrored } } else a) :=
    hmeter.trans (.ite (fun _ => (frame_of_pair rfl).mono) (fun _ => .refl ..))
  generalize (if paired a && originatedHere fl d && (isUnmirrored s fl d || a.pair.role == .sole) then _ else a) = b at hmirror ⊢
  split
  · exact (hmirror.andThen (frame_updDesc ..)).trans (.andThen (frame_updStrm ..).mono (frame_returnFar ..))
  · exact (hmirror.andThen (frame_updDesc ..)).trans (.trans (.andThen (frame_returnFar ..).mono (frame_freeDesc ..)) (frame_closeRemote ..))

theorem frame_testCut (fi : Nat) (s : State) : Frame [.fab, .doc, .vit, .pair] s (testCut fi s) := by
  unfold testCut
  split
  · exact .refl ..
  · split
    · exact .refl ..
    · refine .ite (fun _ => .refl ..) (fun _ => ?_)
      dsimp only
      have hcut := (frame_updFlow fi (fun f => { f with cutReached := true }) s).mono (qs := [.fab, .doc, .vit, .pair]) |>.andThen (frame_latchEvent 40 _)
      split
      · exact hcut
      · exact hcut.trans (.ite (fun _ => .andThen (frame_sendTo ..).mono (frame_updGal ..)) (fun _ => .refl ..))

theorem frame_releaseFlow (fi fuel : Nat) (s : State) : Frame [.fab, .doc, .vit, .pair] s (releaseFlow fi fuel s) := by
  induction fuel generalizing s with
  | zero => exact .refl ..
  | succ fuel ih =>
    unfold releaseFlow
    split
    · exact .refl ..
    · split
      · exact .refl ..
      · split
        · exact .refl ..
        · exact .ite (fun _ => .refl ..) (fun _ =>
            ((frame_releaseOne ..).trans (.trans (.ite (fun _ => .refl ..) (fun _ => (frame_updFlow ..).mono)) (frame_testCut ..))).trans (ih _))

theorem frame_releaseAll (fi : Nat) (s : State) : Frame [.fab, .doc, .vit, .pair] s (releaseAll fi s) := by
  unfold releaseAll
  dsimp only
  split
  · exact (frame_releaseFlow ..).andThen (frame_closeMinute ..)
  · exact frame_releaseFlow ..

/-! Publication. -/

theorem frame_latchCause (fn b : Nat) (s : State) : Frame [.fab] s (latchCause fn b s) := frame_of_fab (latchCause_fab ..)

theorem frame_countPublication (fn : Nat) (s : State) : Frame [.fab] s (countPublication fn s) := frame_of_fab (signalOnly_countPublication ..).only

theorem frame_latchReady (fn i : Nat) (s : State) : Frame [.fab] s (latchReady fn i s) :=
  (frame_updWin ..).trans (.ite (fun _ => frame_countPublication ..) (fun _ => .refl ..))

theorem frame_countLatency (g ns : Nat) (s : State) : Frame [.vit] s (countLatency g ns s) := frame_updGal ..

theorem frame_putTrace (r : Bytes) (s : State) : Frame [.cnt] s (putTrace r s) :=
  .ite (fun _ => .refl ..) (fun _ => .ite (fun _ => frame_of_cnt rfl) (fun _ => frame_of_cnt rfl))

theorem frame_traceCommand (fn : Nat) (d : Desc) (sid : StreamId) (status : Nat) (s : State) : Frame [.fab, .cnt] s (traceCommand fn d sid status s) :=
  .trans (.ite (fun _ => (frame_putTrace ..).mono) (fun _ => .refl ..)) (.ite (fun _ => (frame_updWin ..).mono) (fun _ => .refl ..))

theorem frame_publishNext (fn i : Nat) (s : State) : Frame [.fab, .vit, .cnt] s (publishNext fn i s) := by
  unfold publishNext
  dsimp only
  split
  · exact .refl ..
  · split
    · exact (frame_updStrm ..).mono
    · exact (frame_updStrm ..).mono
    · split
      · exact .andThen (.andThen (.trans (.andThen (frame_updStrm ..).mono (frame_latchReady ..)) (.ite (fun _ => (frame_latchCause ..).mono) (fun _ => .refl ..)))
          (frame_countLatency ..)) (frame_traceCommand ..)
      · exact (frame_updStrm ..).mono

theorem frame_publishStream (fn i fuel : Nat) (s : State) : Frame [.fab, .vit, .cnt] s (publishStream fn i fuel s) := by
  induction fuel generalizing s with
  | zero => exact .refl ..
  | succ fuel ih => exact .ite (fun _ => .refl ..) (fun _ => (frame_publishNext ..).trans (ih _))

theorem frame_publishAll (s : State) : Frame [.fab, .vit, .cnt] s (publishAll s) :=
  .foldl (fun _ _ => .foldl (fun _ _ => frame_publishStream ..) _ _) _ _

/-! Replacement. -/

theorem frame_addDesc (d : Desc) (s : State) : Frame [.doc] s (addDesc d s) := by
  unfold addDesc
  split
  · exact .refl ..
  · exact frame_of_doc rfl

theorem frame_replaceFlow (keep : Bool) (st fi : Nat) (s : State) : Frame [.doc] s (replaceFlow keep st fi s) := by
  unfold replaceFlow
  split
  · exact .refl ..
  · exact .trans (.trans (frame_of_doc rfl) (.foldl (fun _ _ => frame_addDesc ..) _ _)) (frame_updFlow ..)

theorem frame_replaceAll (keep : Bool) (st : Nat) (s : State) : Frame [.fab, .doc, .vit, .pair] s (replaceAll keep st s) :=
  .foldl (fun _ _ => (frame_replaceFlow ..).mono.trans (frame_releaseAll ..)) _ _

end Sys2Proof.Machine

/-!
PROOFS, 15 start: the steps of START and where they end (15 R361, R364 to R366, 14 R342). The row that names the step at which START stands makes that step and no other: a step that can be gone on from is counted, so that the next one lies beyond it. What each step finds decides which of the two it is.
-/

namespace Sys2Proof.Machine

set_option Elab.async false

/-! One row, one step. -/

theorem startSteps_of_beyond {upTo : Nat} {env : StartEnv} {s : State} (h : upTo < nextStep s) (fuel : Nat) : startSteps upTo env fuel s = s := by
  cases fuel with
  | zero => rfl
  | succ fuel =>
    rw [startSteps]
    exact if_pos (by simp [h])

/-- A step that START cannot go on from is the last one made. -/
theorem startSteps_of_stop {upTo n : Nat} {env : StartEnv} {s : State} (hstart : s.pow.starting = true) (hn : nextStep s = n) (hle : n ≤ upTo)
    (hstop : (startStepOf n env s).1 = false) (fuel : Nat) : startSteps upTo env (fuel + 1) s = (startStepOf n env s).2 := by
  subst hn
  rw [startSteps]
  simp only [hstart, Bool.not_true, Bool.false_or, decide_eq_true_eq]
  rw [if_neg (by omega), hstop]
  rfl

/-- A step that START goes on from is counted, and the steps after it follow. -/
theorem startSteps_of_go {upTo n : Nat} {env : StartEnv} {s : State} (hstart : s.pow.starting = true) (hn : nextStep s = n) (hle : n ≤ upTo)
    (hgo : (startStepOf n env s).1 = true) (fuel : Nat) :
    startSteps upTo env (fuel + 1) s = startSteps upTo env fuel (stepDone n env (startStepOf n env s).2) := by
  subst hn
  rw [startSteps]
  simp only [hstart, Bool.not_true, Bool.false_or, decide_eq_true_eq]
  rw [if_neg (by omega), hgo]
  rfl

theorem exec_start_of_stop {upTo : Fin 20} {n : Nat} {env : StartEnv} {s t : State} (hstart : s.pow.starting = true) (hn : nextStep s = n) (hle : n ≤ upTo.val)
    (hstep : startStepOf n env s = (false, t)) : exec (.start upTo env) s = .next t := by
  show Host.Outcome.next (startSteps upTo env 19 s) = _
  rw [startSteps_of_stop hstart hn hle (by rw [hstep]), hstep]

/-! Frames of the steps. -/

theorem frame_logStep (n outcome : Nat) (s : State) : Frame [.cur, .freeCount] s (logStep n outcome s) :=
  .andThen (t := { s with freeCount := s.freeCount + 1 }) ⟨fun p hp => by cases p <;> simp [agree] at hp ⊢⟩ (frame_logRecord ..)

theorem stepDone_pow {n : Nat} (h : n ≤ 10) (env : StartEnv) (s : State) : (stepDone n env s).pow = { s.pow with startStep := n } := by
  rw [stepDone, if_pos h, ← (frame_logStep n (stepOutcome n env) s).pow]

theorem frame_stepDone {n : Nat} (h : n ≤ 10) (env : StartEnv) (s : State) : Frame [.cur, .freeCount, .pow] s (stepDone n env s) := by
  rw [stepDone, if_pos h]
  exact .trans (frame_logStep ..).mono (frame_of_pow rfl).mono

theorem stepDone_of_close {n : Nat} (h : 10 < n) (env : StartEnv) (s : State) :
    stepDone n env s = { s with pow := { s.pow with closeStage := s.pow.closeStage + 1 } } := by
  rw [stepDone, if_neg (by omega)]

theorem frame_touchVitrine (s : State) : Frame [.vit, .bb] s (touchVitrine s) := ⟨fun p hp => by cases p <;> simp [agree, touchVitrine] at hp ⊢⟩

theorem frame_queueDraw (n : Nat) (reseed : Bool) (s : State) : Frame [.rng] s (queueDraw n reseed s) :=
  .ite (fun _ => .refl ..) (fun _ => frame_of_rng rfl)

theorem frame_reseedInst (n : Nat) (s : State) : Frame [.rng] s (reseedInst n s) := by
  unfold reseedInst
  split
  · exact .refl ..
  · exact frame_of_rng rfl

theorem frame_reseedFirst (n : Nat) (s : State) : Frame [.rng] s (reseedFirst n s) := by
  unfold reseedFirst
  split
  · exact .ite (fun _ => .trans (frame_of_rng rfl) (frame_reseedInst ..)) (fun _ => .refl ..)
  · exact .refl ..

theorem frame_starve (n len : Nat) (s : State) : Frame [.rng] s (starve n len s).2 := (frame_queueDraw ..).trans (frame_of_rng rfl)

theorem frame_drawBytes (n len : Nat) (s : State) : Frame [.rng] s (drawBytes n len s).2 := by
  have hreseed := frame_reseedFirst n s
  unfold drawBytes
  dsimp only
  generalize reseedFirst n s = a at hreseed ⊢
  split
  · exact hreseed.trans (frame_starve ..)
  · split
    · exact hreseed.trans (frame_starve ..)
    · exact hreseed.trans (.ite (fun _ => .trans (frame_of_rng rfl) (frame_queueDraw ..)) (fun _ => frame_of_rng rfl))

/-! The close. -/

theorem frame_drawRoot (s : State) : Frame [.rng, .bb] s (drawRoot s) := by
  unfold drawRoot
  split
  · exact .refl ..
  · split
    · exact .refl ..
    · exact .trans (frame_drawBytes 4112 32 s).mono ⟨fun p hp => by cases p <;> simp [agree] at hp ⊢⟩

theorem frame_initVitrine (s : State) : Frame [.vit, .rng, .bb] s (initVitrine s) := by
  have hkm : Frame [.vit, .rng, .bb] s { s with vit := { s.vit with km := kmOf s ((moduleRootOf s).getD []) }, bb := { s.bb with version := 0 } } :=
    ⟨fun p hp => by cases p <;> simp [agree] at hp ⊢⟩
  unfold initVitrine
  dsimp only
  generalize ({ s with vit := { s.vit with km := kmOf s ((moduleRootOf s).getD []) }, bb := { s.bb with version := 0 } } : State) = a at hkm ⊢
  have hdraw := hkm.andThen (frame_drawBytes 4128 16 a)
  generalize drawBytes 4128 16 a = d at hdraw ⊢
  refine .andThen (.andThen (hdraw.trans (u := { d.2 with
    bb := { d.2.bb with creation := d.2.bb.creation + 1 }
    vit := { d.2.vit with present := true, retained := true, writtenUnder := d.2.vit.km, anchorVersion := 0 } }) ⟨fun p hp => ?_⟩) (frame_of_vit rfl)) (frame_touchVitrine _)
  cases p <;> simp [agree] at hp ⊢

theorem frame_closeDraws (s : State) : Frame [.vit, .rng, .ao] s (closeDraws s) :=
  .trans (.andThen (frame_drawBytes 4128 32 s).mono (frame_drawBytes 4128 4 _)) ⟨fun p hp => by cases p <;> simp [agree, closeDraws] at hp ⊢⟩

theorem frame_checkRegister (s : State) : Frame [.vit, .bb, .img] s (checkRegister s) := by
  unfold checkRegister
  split
  · exact .refl ..
  · refine .ite (fun _ => ⟨fun p hp => ?_⟩) (fun _ => .ite (fun _ => .andThen ⟨fun p hp => ?_⟩ (frame_touchVitrine _)) (fun _ => (frame_of_vit rfl).mono))
    · cases p <;> simp [agree] at hp ⊢
    · cases p <;> simp [agree] at hp ⊢

theorem frame_pinCeiling (s : State) : Frame [.vit, .bb, .img] s (pinCeiling s) :=
  .ite (fun _ => .refl ..) (fun _ => .andThen (t := { s with img := { s.img with ceiling := some (ceilingOf s.img.set) } }) ⟨fun p hp => by cases p <;> simp [agree] at hp ⊢⟩ (frame_touchVitrine _))

/-- A stage of the close touches the Vitrine, BBRAM, the random numbers, the generator and the image; START itself it does not. -/
theorem frame_closeStage {s : State} {k : Nat} {writes : Bool} {act : State → State} (h : (closeStages s)[k]? = some (writes, act)) :
    Frame [.vit, .rng, .bb, .ao, .img] s (act s) := by
  have hmem := List.mem_of_getElem? h
  simp only [closeStages, List.mem_cons, Prod.mk.injEq, List.not_mem_nil, or_false] at hmem
  rcases hmem with ⟨-, rfl⟩ | ⟨-, rfl⟩ | ⟨-, rfl⟩ | ⟨-, rfl⟩ | ⟨-, rfl⟩ | ⟨-, rfl⟩ | ⟨-, rfl⟩ | ⟨-, rfl⟩
  · exact (frame_drawRoot s).mono
  · exact .ite (fun _ => (frame_initVitrine s).mono) (fun _ => .refl ..)
  · exact (frame_closeDraws s).mono.andThen (frame_updGal ..)
  · exact .ite (fun _ => (frame_checkRegister s).mono) (fun _ => .refl ..)
  · exact .ite (fun _ => .ite (fun _ => .refl ..) (fun _ => ⟨fun p hp => by cases p <;> simp [agree] at hp ⊢⟩)) (fun _ => .refl ..)
  · exact .ite (fun _ => .ite (fun _ => .refl ..) (fun _ => ⟨fun p hp => by cases p <;> simp [agree] at hp ⊢⟩)) (fun _ => .refl ..)
  · exact .ite (fun _ => (frame_pinCeiling s).mono) (fun _ => .refl ..)
  · exact ⟨fun p hp => by cases p <;> simp [agree, readHeaders, resumeNonces, copyToCurator] at hp ⊢⟩

theorem startStepOf_of_close {n : Nat} (h : 10 < n) (env : StartEnv) (s : State) : startStepOf n env s = startClose env s := by
  obtain ⟨k, rfl⟩ : ∃ k, n = k + 11 := ⟨n - 11, by omega⟩
  rfl

theorem startClose_pow_of_go {env : StartEnv} {s : State} (h : (startClose env s).1 = true) : (startClose env s).2.pow = s.pow := by
  unfold startClose at h ⊢
  split at h
  · exact absurd h Bool.false_ne_true
  · next hstage =>
    split at h
    · exact absurd h Bool.false_ne_true
    · next hwarn =>
      rw [if_neg hwarn]
      exact (frame_closeStage hstage).pow

theorem closeStage_of_nextStep {n : Nat} {s : State} (h : nextStep s = n) (hn : 10 < n) : 10 ≤ s.pow.startStep ∧ s.pow.startStep + s.pow.closeStage + 1 = n := by
  unfold nextStep at h
  split at h <;> omega

theorem nextStep_of_step {s : State} (h : s.pow.startStep < 10) : nextStep s = s.pow.startStep + 1 := by rw [nextStep, if_pos h]

theorem nextStep_of_close {s : State} (h : s.pow.startStep = 10) : nextStep s = 11 + s.pow.closeStage := by rw [nextStep, if_neg (by omega), h]; omega

/-- The step counted, START stands beyond it. -/
theorem lt_nextStep_stepDone {n : Nat} {env : StartEnv} {s : State} (hn : nextStep s = n) (hgo : (startStepOf n env s).1 = true) :
    n < nextStep (stepDone n env (startStepOf n env s).2) := by
  by_cases hle : n ≤ 10
  · unfold nextStep
    rw [stepDone_pow hle]
    dsimp only
    split <;> omega
  · have hlt : 10 < n := by omega
    obtain ⟨hten, hsum⟩ := closeStage_of_nextStep hn hlt
    rw [startStepOf_of_close hlt] at hgo ⊢
    rw [stepDone_of_close hlt, nextStep]
    dsimp only
    rw [startClose_pow_of_go hgo, if_neg (by omega)]
    omega

/-- A row that names the step at which START stands makes this step. -/
theorem exec_start_of_go {n : Fin 20} {env : StartEnv} {s : State} (hstart : s.pow.starting = true) (hn : nextStep s = n.val) (hgo : (startStepOf n env s).1 = true) :
    exec (.start n env) s = .next (stepDone n env (startStepOf n env s).2) := by
  show Host.Outcome.next (startSteps n env 19 s) = _
  rw [startSteps_of_go hstart hn (Nat.le_refl _) hgo, startSteps_of_beyond (lt_nextStep_stepDone hn hgo)]

theorem exec_start_step (env : StartEnv) (n : Fin 20) (s : State) (hstart : s.pow.starting = true) (hn : nextStep s = n.val) :
    ∃ t, exec (.start n env) s = .next t ∧
      ((startStepOf n env s).1 = true → t = stepDone n env (startStepOf n env s).2) ∧ ((startStepOf n env s).1 = false → t = (startStepOf n env s).2) := by
  cases hgo : (startStepOf n env s).1 with
  | true => exact ⟨_, exec_start_of_go hstart hn hgo, fun _ => rfl, fun h => absurd h (by simp)⟩
  | false => exact ⟨_, exec_start_of_stop hstart hn (Nat.le_refl _) (Prod.ext hgo rfl), fun h => absurd h (by simp), fun _ => rfl⟩

end Sys2Proof.Machine

/-!
PROOFS, 15 start: what each step of START finds, and what follows from it (15 R361, R364, R365, 14 R342).
-/

namespace Sys2Proof.Machine

set_option Elab.async false

/-! Rows that make a step of START. -/

section
variable {n : Fin 20} {k : Nat} {env : StartEnv} {s u : State}

theorem exec_start_of_pass (hstart : s.pow.starting = true) (hat : s.pow.startStep = k) (hstep : startStepOf n env s = (true, u)) (hn : n.val = k + 1 := by rfl) (hk : k < 10 := by decide) :
    exec (.start n env) s = .next (stepDone n env u) := by
  rw [exec_start_of_go hstart (by rw [nextStep_of_step (by omega), hat, hn]) (by rw [hstep]), hstep]

theorem exec_start_of_end (hstart : s.pow.starting = true) (hat : s.pow.startStep = k) (hstep : startStepOf (k + 1) env s = (false, u)) (hn : k + 1 ≤ n.val := by decide)
    (hk : k < 10 := by decide) : exec (.start n env) s = .next u :=
  exec_start_of_stop hstart (by rw [nextStep_of_step (by omega), hat]) hn hstep

/-- A step passed that leaves START under way. -/
theorem exec_start_of_pass_pow (hstart : s.pow.starting = true) (hat : s.pow.startStep = k) (hstep : startStepOf n env s = (true, u)) (hu : u.pow.starting = true)
    (hn : n.val = k + 1 := by rfl) (hk : k < 10 := by decide) :
    ∃ t, exec (.start n env) s = .next t ∧ t.pow.startStep = k + 1 ∧ t.pow.starting = true ∧ Frame [.cur, .freeCount, .pow] u t := by
  have hle : n.val ≤ 10 := by omega
  refine ⟨_, exec_start_of_pass hstart hat hstep hn hk, ?_, ?_, frame_stepDone hle env u⟩
  · rw [stepDone_pow hle]
    exact hn
  · rw [stepDone_pow hle]
    exact hu

end

/-! Step 1. -/

theorem loadState_of_quiet {s : State} (h : s.ao.live = 0) :
    loadState s = { s with reg := { s.reg with state := fusedState s.fuses, transitioned := false, challenge := none } } := armNow_of_quiet h

theorem frame_burnEpoch (s : State) : Frame [.bb, .fuses] s (burnEpoch s) := .ite (fun _ => .refl ..) (fun _ => ⟨fun p hp => by cases p <;> simp [agree] at hp ⊢⟩)

theorem frame_markValid (s : State) : Frame [.bb] s (markValid s) := .ite (fun _ => ⟨fun p hp => by cases p <;> simp [agree] at hp ⊢⟩) (fun _ => .refl ..)

/-- BBRAM and the fuses as step 1 goes on from them. -/
def settledBbram (s : State) : State := showSupplyLost (markValid (burnEpoch s))

theorem settledBbram_kept (s : State) : (settledBbram s).pow = s.pow ∧ (settledBbram s).reg = s.reg ∧ (settledBbram s).ao.responded = s.ao.responded := by
  have h := (frame_burnEpoch s).andThen (frame_markValid _)
  exact ⟨h.pow, h.reg, congrArg (·.responded) h.ao⟩

theorem burnEpoch_fuses (s : State) :
    (burnEpoch s).bb.lost = false ∧ (s.bb.lost = true → s.fuses.epochs < 63 → (burnEpoch s).fuses.epochs = s.fuses.epochs + 1) ∧ (s.bb.lost = false → (burnEpoch s).fuses = s.fuses) ∧
      (burnEpoch s).bb.valid = s.bb.valid := by
  cases h : s.bb.lost with
  | false =>
    have hs : burnEpoch s = s := by rw [burnEpoch, h]; rfl
    rw [hs]
    exact ⟨h, fun hf => absurd hf (by simp), fun _ => rfl, rfl⟩
  | true =>
    have hb : burnEpoch s = { s with
        bb := { s.bb with lost := false }
        fuses := if s.fuses.epochs < 63 then { s.fuses with epochs := s.fuses.epochs + 1 } else { s.fuses with nonceWithdrawn := true } } := by
      rw [burnEpoch, h]
      rfl
    rw [hb]
    exact ⟨rfl, fun _ hlt => by dsimp only; rw [if_pos hlt], fun hf => absurd hf (by simp), rfl⟩

theorem settledBbram_bbram (s : State) (hvalid : s.bb.valid = true) :
    (settledBbram s).bb.valid = true ∧ (settledBbram s).bb.lost = false ∧
      (s.bb.lost = true → s.fuses.epochs < 63 → (settledBbram s).fuses.epochs = s.fuses.epochs + 1) ∧ (s.bb.lost = false → (settledBbram s).fuses = s.fuses) := by
  obtain ⟨hlost, hburn, hkeep, hmark⟩ := burnEpoch_fuses s
  have hbb : (markValid (burnEpoch s)).bb.valid = true ∧ (markValid (burnEpoch s)).bb.lost = false := by
    unfold markValid
    split
    · exact ⟨rfl, hlost⟩
    · exact ⟨hmark.trans hvalid, hlost⟩
  have hfuses : (settledBbram s).fuses = (burnEpoch s).fuses := (frame_markValid (burnEpoch s)).fuses
  rw [hfuses]
  exact ⟨hbb.1, hbb.2, hburn, hkeep⟩

section
variable {env : StartEnv} {s : State} (hstart : s.pow.starting = true) (hlive : s.ao.live = 0)
include hstart hlive

/-- Step 1 with agreeing fuses and a valid BBRAM, outside RETURNED and TERMINATED. -/
theorem startStep1_of_sound (h15 : fusedState s.fuses ≠ 15) (h6 : fusedState s.fuses ≠ 6) (hagree : env.fusesAgree = true) (hvalid : s.bb.valid = true) (hclear : s.ao.responded = false) :
    startStep1 env s = if noService (fusedState s.fuses) then (false, endStart 1 (logStep 1 0 (settledBbram (loadState s)))) else (true, settledBbram (loadState s)) := by
  have hload := loadState_of_quiet hlive
  obtain ⟨hpow, hreg, hao⟩ := settledBbram_kept (loadState s)
  have hstate : (loadState s).reg.state = fusedState s.fuses := by rw [hload]
  have hstart' : (loadState s).pow.starting = true := by rw [hload]; exact hstart
  have hvalid' : (loadState s).bb.valid = true := by rw [hload]; exact hvalid
  have hclear' : (settledBbram (loadState s)).ao.responded = false := by rw [hao, hload]; exact hclear
  have hstate' : (settledBbram (loadState s)).reg.state = fusedState s.fuses := by rw [hreg, hstate]
  unfold settledBbram at hclear' hstate'
  rw [startStep1]
  simp only [hstart', hstate, hvalid', Bool.not_true, Bool.false_eq_true, if_false, h15, h6, false_and, hagree, Bool.and_false, hclear', hstate']
  rfl

theorem startStep1_of_terminated (h15 : fusedState s.fuses = 15) : startStep1 env s = (false, endStart s.pow.startStep (loadState s)) := by
  have hload := loadState_of_quiet hlive
  rw [startStep1, hload]
  simp only [hstart, h15, Bool.not_true, Bool.false_eq_true, if_false, if_true]

theorem startStep1_of_disagreeing (h15 : fusedState s.fuses ≠ 15) (h6 : fusedState s.fuses ≠ 6) (hagree : env.fusesAgree = false) :
    startStep1 env s = (false, fatalError 0x41 (logStep 1 1 (loadState s))) := by
  have hload := loadState_of_quiet hlive
  have hstate : (loadState s).reg.state = fusedState s.fuses := by rw [hload]
  have hstart' : (loadState s).pow.starting = true := by rw [hload]; exact hstart
  rw [startStep1]
  simp only [hstart', hstate, Bool.not_true, Bool.false_eq_true, if_false, h15, h6, false_and, hagree, Bool.not_false, if_true]

end

/-! Halts. -/

/-- START as a step that fails leaves it, before HALT. -/
def stoppedStart (n : Nat) (s : State) : State :=
  let bad := decide (n ≥ 8) && !s.cur.fwProven && firmwareOk s (firmwareSlot s (1 - s.cur.slot))
  let s := if bad then { s with cur := { s.cur with fwBad := some s.cur.slot } } else s
  { logStep n 1 s with pow := { s.pow with starting := false } }

theorem startHalt_eq (n : Nat) (s : State) : startHalt n s = setMode .halt (stoppedStart n s) := by
  rw [startHalt, stoppedStart]

theorem stoppedStart_starting (n : Nat) (s : State) : (stoppedStart n s).pow.starting = false := rfl

/-- A START that fails ends in HALT, with READY low. -/
theorem startHalt_pow (n : Nat) (s : State) : (startHalt n s).pow.mode = .halt ∧ (startHalt n s).pow.starting = false ∧ (startHalt n s).pow.ready = false := by
  rw [startHalt_eq, setMode_pow]
  exact ⟨rfl, stoppedStart_starting n s, rfl⟩

theorem frame_startHalt (n : Nat) (s : State) : Frame [.fab, .pow, .cur, .freeCount] s (startHalt n s) :=
  .trans (.trans (.trans (.ite (fun _ => (frame_of_cur rfl).mono) (fun _ => .refl ..)) (frame_logStep n 1 _).mono) (frame_of_pow rfl).mono) (frame_setMode ..).mono

theorem frame_logModule (scope : Nat) (codes : List Nat) (affected : List (StreamId × Nat)) (steps : List (StreamId × Nat × Nat)) (s : State) :
    Frame [.cur] s (logModule scope codes affected steps s) := frame_of_cur (logData_cur ..)

/-- The state as a FATAL error leaves it before HALT: its pair withdrawn, erased where the cause asks for it, START ended. -/
def fatalStopped (code : Nat) (s : State) : State :=
  let a := if paired s then dropUnpublished (withdrawAtOnce s) else s
  let a := if isSecurity code then eraseLine true a else a
  let a := endAllOps (stopStaging (closeCeremony a))
  let a := { a with err := { a.err with active := 0, erased := a.err.erased || isSecurity code, queued := [], codes := [], lastCause := code, halting := none } }
  { a with pow := { a.pow with starting := false } }

/-- What follows HALT in the handler of a FATAL error changes neither the mode nor its cause. -/
theorem frame_fatalError (code : Nat) (s : State) (hmode : s.pow.mode ≠ .vault) (htamper : s.pow.mode ≠ .tampered) :
    Frame [.fab, .doc, .vit, .pair, .cnt, .freeCount, .cur] (setMode .halt (fatalStopped code s)) (fatalError code s) := by
  rw [fatalError, if_neg (by simp [hmode, htamper])]
  have hanswered : ∀ u : State, Frame [.fab, .doc, .vit, .pair, .cnt, .freeCount, .cur] u
      (if paired u then (unreleased u).foldl (fun s p => freeDesc p.1 (freeCopies p.1 p.2 s)) u else publishAll (replaceAll false Status.halted u)) := fun u =>
    .ite (fun _ => .foldl (fun _ _ => .trans (frame_freeCopies ..).mono (frame_freeDesc ..).mono) _ _) (fun _ => .trans (frame_replaceAll ..).mono (frame_publishAll _).mono)
  exact .trans (.trans (hanswered _) (frame_latchEvent 21 _).mono) (frame_logModule ..).mono

theorem fatalError_pow (code : Nat) (s : State) (hmode : s.pow.mode ≠ .vault) (htamper : s.pow.mode ≠ .tampered) :
    (fatalError code s).pow.mode = .halt ∧ (fatalError code s).pow.starting = false ∧ (fatalError code s).pow.ready = false ∧ (fatalError code s).err.lastCause = code := by
  have hframe := frame_fatalError code s hmode htamper
  rw [hframe.pow, hframe.err, (frame_setMode .halt _).err, setMode_pow]
  exact ⟨rfl, rfl, rfl, rfl⟩

end Sys2Proof.Machine

/-!
PROOFS, 15 start: START and where it ends (15 R361, R364 to R366, 14 R342). Each clause is one step of START with what it finds; the frames of the steps say what it leaves.
-/

namespace Sys2Proof.Machine

set_option Elab.async false

/-! Steps that START goes on from. -/

section
variable {env : StartEnv} {s : State} (hstart : s.pow.starting = true)
include hstart

theorem start_step1 (hat : s.pow.startStep = 0) (hstate : fusedState s.fuses = 4 ∨ fusedState s.fuses = 5) (hagree : env.fusesAgree = true) (hvalid : s.bb.valid = true)
    (hclear : s.ao.responded = false) (hlive : s.ao.live = 0) :
    ∃ t, exec (.start 1 env) s = .next t ∧ t.pow.startStep = 1 ∧ t.pow.starting = true ∧ t.reg.state = fusedState s.fuses ∧ t.bb.valid = true ∧ t.bb.lost = false ∧
      (s.bb.lost = true → s.fuses.epochs < 63 → t.fuses.epochs = s.fuses.epochs + 1) ∧ (s.bb.lost = false → t.fuses = s.fuses) := by
  have h15 : fusedState s.fuses ≠ 15 := by omega
  have h6 : fusedState s.fuses ≠ 6 := by omega
  have hserved : noService (fusedState s.fuses) = false := by rcases hstate with h | h <;> rw [h] <;> rfl
  have hstep := startStep1_of_sound hstart hlive h15 h6 hagree hvalid hclear
  rw [hserved, if_neg Bool.false_ne_true] at hstep
  have hload := loadState_of_quiet hlive
  obtain ⟨hpow, hreg, -⟩ := settledBbram_kept (loadState s)
  have hbb : (loadState s).bb = s.bb := by rw [hload]
  have hfuses : (loadState s).fuses = s.fuses := by rw [hload]
  obtain ⟨hval, hlost, hburn, hkeep⟩ := settledBbram_bbram (loadState s) (by rw [hbb, hvalid])
  rw [hbb, hfuses] at hburn hkeep
  obtain ⟨t, hexec, hstep1, hstart1, hframe⟩ := exec_start_of_pass_pow (n := 1) hstart hat hstep (by rw [hpow, hload]; exact hstart)
  refine ⟨t, hexec, hstep1, hstart1, ?_, ?_, ?_, ?_, ?_⟩
  · rw [hframe.reg, hreg, hload]
  · rw [hframe.bb, hval]
  · rw [hframe.bb, hlost]
  · rwa [hframe.fuses]
  · rwa [hframe.fuses]

theorem start_step2 (hat : s.pow.startStep = 1) (hpll : env.pllLock = true) (hclear : s.ao.responded = false) :
    ∃ t, exec (.start 2 env) s = .next t ∧ t.pow.startStep = 2 ∧ t.pow.starting = true := by
  have hstep : startStepOf 2 env s = (true, s) := by
    show startStep2 env s = _
    simp [startStep2, hpll, hclear]
  obtain ⟨t, hexec, h1, h2, -⟩ := exec_start_of_pass_pow (n := 2) hstart hat hstep hstart
  exact ⟨t, hexec, h1, h2⟩

theorem start_step3 (hat : s.pow.startStep = 2) :
    ∃ t, exec (.start 3 env) s = .next t ∧ t.pow.startStep = 3 ∧ t.pow.starting = true ∧ t.pair.badLanes = env.badLanes := by
  obtain ⟨t, hexec, h1, h2, hframe⟩ := exec_start_of_pass_pow (n := 3) (env := env) (u := { s with pair := { s.pair with badLanes := env.badLanes } }) hstart hat rfl hstart
  exact ⟨t, hexec, h1, h2, by rw [hframe.pair]⟩

theorem start_step4 (hat : s.pow.startStep = 3) (hgddr : env.gddrOk = true) :
    ∃ t, exec (.start 4 env) s = .next t ∧ t.pow.startStep = 4 ∧ t.pow.starting = true := by
  obtain ⟨t, hexec, h1, h2, -⟩ := exec_start_of_pass_pow (n := 4) (u := s) hstart hat (show mustHold 4 env.gddrOk s = _ by rw [mustHold, if_pos hgddr]) hstart
  exact ⟨t, hexec, h1, h2⟩

theorem start_step5 (hat : s.pow.startStep = 4) (hleft : 8 ≤ wingsAvailable ((env.badWings.filter (· < 16)).foldl (fun s w => retireWing w s) s)) :
    ∃ t, exec (.start 5 env) s = .next t ∧ t.pow.startStep = 5 ∧ t.pow.starting = true := by
  have hvital := vital_foldl (fun s w => retireWing w s) (fun s w => vital_retireWing w s) (env.badWings.filter (· < 16)) s
  have hstep : startStepOf 5 env s = (true, (env.badWings.filter (· < 16)).foldl (fun s w => retireWing w s) s) := by
    show mustHold 5 _ _ = _
    rw [mustHold, if_pos (by simpa using hleft)]
  obtain ⟨t, hexec, h1, h2, -⟩ := exec_start_of_pass_pow (n := 5) hstart hat hstep ((congrArg Vital.starting hvital).trans hstart)
  exact ⟨t, hexec, h1, h2⟩

omit hstart in
theorem startStep6_passes (env : StartEnv) (s : State) : ∃ u, startStep6 env s = (true, u) ∧ Frame [.vit, .cur] s u := by
  unfold startStep6
  split
  · exact ⟨s, rfl, .refl ..⟩
  · exact ⟨_, rfl, .foldl (fun s p => .andThen (frame_updGal ..).mono (frame_logRecord ..)) _ _⟩

theorem start_step6 (hat : s.pow.startStep = 5) : ∃ t, exec (.start 6 env) s = .next t ∧ t.pow.startStep = 6 ∧ t.pow.starting = true := by
  obtain ⟨u, hstep, hframe⟩ := startStep6_passes env s
  obtain ⟨t, hexec, h1, h2, -⟩ := exec_start_of_pass_pow (n := 6) hstart hat hstep (by rw [hframe.pow, hstart])
  exact ⟨t, hexec, h1, h2⟩

theorem start_step7 {root : Bytes} (hat : s.pow.startStep = 6) (hreads : readsVitrine s = true) (hroot : moduleRootOf s = some root)
    (haccepted : vitrineAccepted env { s with vit := { s.vit with km := kmOf s root } } = true) :
    ∃ t, exec (.start 7 env) s = .next t ∧ t.pow.startStep = 7 ∧ t.pow.starting = true ∧ t.vit.km = kmOf s root ∧ t.pair.term = s.vit.anchorTerm := by
  have hstep : startStepOf 7 env s = (true, { s with
      vit := { s.vit with km := kmOf s root }, pair := { s.pair with term := s.vit.anchorTerm, lastDelta := s.vit.anchorDelta } }) := by
    show startStep7 env s = _
    simp only [startStep7, hreads, Bool.not_true, Bool.false_eq_true, if_false, hroot, haccepted, if_true]
  obtain ⟨t, hexec, h1, h2, hframe⟩ := exec_start_of_pass_pow (n := 7) hstart hat hstep hstart
  exact ⟨t, hexec, h1, h2, by rw [hframe.vit], by rw [hframe.pair]⟩

theorem start_step8 {n : Nat} {f : FwImage} (hat : s.pow.startStep = 7) (hchosen : chosenFirmware (eraseBadFirmware s) = some (n, f))
    (himage : (selectImage (loadFirmware n f (eraseBadFirmware s))).1 = true) :
    ∃ t, exec (.start 8 env) s = .next t ∧ t.pow.startStep = 8 ∧ t.pow = { (selectImage (loadFirmware n f (eraseBadFirmware s))).2.pow with startStep := 8 } := by
  have hstep : startStepOf 8 env s = (true, (selectImage (loadFirmware n f (eraseBadFirmware s))).2) := by
    show startStep8 s = _
    simp only [startStep8, hchosen, himage]
    rfl
  refine ⟨_, exec_start_of_pass (n := 8) hstart hat hstep, ?_, ?_⟩
  · rw [stepDone_pow (by decide)]
    rfl
  · exact stepDone_pow (by decide) ..

/-- What step 9 records, whether START goes on or not. -/
def fieldTested (env : StartEnv) (s : State) : State :=
  { s with
    reg := { s.reg with fieldPass := env.fieldPass.toNat, fieldRun := 255, fieldMs := sat 0xFFFF env.fieldMs }
    pair := { s.pair with badLanes := if bit env.fieldPass.toNat 1 then s.pair.badLanes else (s.pair.badLanes ++ env.failLanes).eraseDups } }

omit hstart in
theorem startStep9_eq (env : StartEnv) (s : State) : startStep9 env s = mustHold 9
    (bit env.fieldPass.toNat 2 && bit env.fieldPass.toNat 3 && bit env.fieldPass.toNat 4 && decide (env.sites ≥ 16) && (bit env.fieldPass.toNat 6 || env.noiseAgain)) (fieldTested env s) := rfl

theorem start_step9 (hat : s.pow.startStep = 8) (hsites : 16 ≤ env.sites) (h2 : bit env.fieldPass.toNat 2 = true) (h3 : bit env.fieldPass.toNat 3 = true)
    (h4 : bit env.fieldPass.toNat 4 = true) (h6 : bit env.fieldPass.toNat 6 = true ∨ env.noiseAgain = true) :
    ∃ t, exec (.start 9 env) s = .next t ∧ t.pow.startStep = 9 ∧ t.pow.starting = true ∧ t.reg.fieldPass = env.fieldPass.toNat ∧
      (bit env.fieldPass.toNat 1 = false → ∀ l ∈ env.failLanes, l ∈ t.pair.badLanes) := by
  have hstep : startStepOf 9 env s = (true, fieldTested env s) := by
    show startStep9 env s = _
    rw [startStep9_eq, mustHold, if_pos (by simp [h2, h3, h4, h6, hsites])]
  obtain ⟨t, hexec, hs, hst, hframe⟩ := exec_start_of_pass_pow (n := 9) hstart hat hstep hstart
  refine ⟨t, hexec, hs, hst, by rw [hframe.reg]; rfl, fun h1 l hl => ?_⟩
  rw [hframe.pair]
  simp only [fieldTested, h1, Bool.false_eq_true, if_false]
  exact List.mem_eraseDups.mpr (List.mem_append_right _ hl)

end

/-- A draw leaves the start-up of the random number block done. -/
theorem startupDone_drawBytes (n len : Nat) (s : State) : (drawBytes n len s).2.rng.startupDone = s.rng.startupDone := by
  have hqueue : ∀ (m : Nat) (r : Bool) (u : State), (queueDraw m r u).rng.startupDone = u.rng.startupDone := fun m r u => by
    unfold queueDraw
    split <;> rfl
  have hinst : ∀ (m : Nat) (u : State), (reseedInst m u).rng.startupDone = u.rng.startupDone := fun m u => by
    unfold reseedInst
    split <;> rfl
  have hreseed : (reseedFirst n s).rng.startupDone = s.rng.startupDone := by
    unfold reseedFirst
    split
    · split
      · exact hinst ..
      · rfl
    · rfl
  have hstarve : ∀ u : State, (starve n len u).2.rng.startupDone = u.rng.startupDone := fun u => hqueue ..
  unfold drawBytes
  dsimp only
  generalize reseedFirst n s = a at hreseed ⊢
  split
  · exact (hstarve a).trans hreseed
  · split
    · exact (hstarve a).trans hreseed
    · split
      · exact (hqueue ..).trans hreseed
      · exact hreseed

theorem startupDone_seedEngines (s : State) : (seedEngines s).rng.startupDone = s.rng.startupDone := by
  unfold seedEngines
  generalize List.range 16 = l
  induction l generalizing s with
  | nil => rfl
  | cons w l ih =>
    rw [List.foldl_cons, ih]
    exact (startupDone_drawBytes (4096 + w) 32 _).trans (startupDone_drawBytes (4096 + w) 32 s)

theorem start_step10 {env : StartEnv} {s : State} (hstart : s.pow.starting = true) (hat : s.pow.startStep = 9) (hkat : env.katOk = true)
    (hfatal : (startSources env s).rng.fatal = false) (hsources : 8 ≤ (contributing (deliverBlocks env (startSources env s))).length)
    (hinst : missingInstances (deliverBlocks env (startSources env s)) = []) :
    ∃ t, exec (.start 10 env) s = .next t ∧ t.pow.startStep = 10 ∧ t.rng.startupDone = true := by
  have hstep : startStepOf 10 env s = (true, seedEngines (startedUp (deliverBlocks env (startSources env s)))) := by
    have hlt : ¬(contributing (deliverBlocks env (startSources env s))).length < 8 := by omega
    show startStep10 env s = _
    simp [startStep10, hkat, hfatal, hinst, hlt]
  refine ⟨_, exec_start_of_pass (n := 10) hstart hat hstep, ?_, ?_⟩
  · rw [stepDone_pow (by decide)]
    rfl
  · rw [(frame_stepDone (by decide) ..).rng, startupDone_seedEngines]
    rfl

/-! The close and READY. -/

theorem closeStages_length (s : State) : (closeStages s).length = 8 := rfl

theorem start_close {env : StartEnv} {n : Fin 20} {s : State} (hstart : s.pow.starting = true) (hat : s.pow.startStep = 10) (hstage : s.pow.closeStage < 8)
    (hn : 11 + s.pow.closeStage = n.val) (hwarn : s.pow.failWarning = false) :
    ∃ t, exec (.start n env) s = .next t ∧ t.pow.closeStage = s.pow.closeStage + 1 ∧ t.pow.startStep = 10 ∧ t.pow.starting = true := by
  have hlt : 10 < n.val := by omega
  have hget : (closeStages s)[s.pow.closeStage]? = some (closeStages s)[s.pow.closeStage] := List.getElem?_eq_getElem hstage
  have hclose : startClose env s = (true, (closeStages s)[s.pow.closeStage].2 s) := by
    rw [startClose, hget]
    simp [hwarn]
  have hgo : (startStepOf n env s).1 = true := by rw [startStepOf_of_close hlt, hclose]
  have hpow : (startStepOf n env s).2.pow = s.pow := by
    rw [startStepOf_of_close hlt] at hgo ⊢
    exact startClose_pow_of_go hgo
  refine ⟨_, exec_start_of_go hstart (by rw [nextStep_of_close hat, hn]) hgo, ?_⟩
  rw [stepDone_of_close hlt]
  dsimp only
  rw [hpow]
  exact ⟨rfl, hat, hstart⟩

theorem frame_writeCheckpoint (s : State) : Frame [.fab, .cur] s (writeCheckpoint s) := by
  have hput : ∀ l : List (Bytes × Nat), Frame [.cur] s (l.foldl (fun s p => putRecord 0x0001 0 (if p.2 = 0 then 0 else 1) p.1 s) s) := fun l =>
    .foldl (fun _ _ => frame_of_cur (putRecord_cur ..)) l s
  exact .trans (.andThen (hput _).mono (frame_of_cur rfl)) (frame_latchEvent 37 _).mono

/-- The state in which READY finds the module: its registers settled, its step logged. -/
def readyFound (ms : Nat) (s : State) : State := settleCells (readyRegisters ms (logStep 11 0 (advanceTo (s.pow.startAt + 1000000 * ms) s)))

theorem readyFound_pow (ms : Nat) (s : State) : (readyFound ms s).pow = { s.pow with starting := false, startStep := 11, closeStage := 0, startMs := sat 0xFFFFFFFF ms } ∧
    (readyFound ms s).reg = s.reg := by
  have hlog := frame_logStep 11 0 (advanceTo (s.pow.startAt + 1000000 * ms) s)
  unfold readyFound
  rw [(frame_settleCells _).pow, (frame_settleCells _).reg]
  refine ⟨?_, hlog.reg⟩
  show { (logStep 11 0 (advanceTo (s.pow.startAt + 1000000 * ms) s)).pow with starting := false, startStep := 11, closeStage := 0, startMs := sat 0xFFFFFFFF ms } = _
  rw [hlog.pow]
  rfl

/-- The mode that READY enters: DIAGNOSTIC in TEST_UNLOCKED and RETURNED, service elsewhere. -/
def readyEntered (u : State) : State :=
  if u.reg.state = 2 ∨ u.reg.state = 6 then setMode .diagnostic u else proveFirmware (applyService (setMode .service u))

theorem raiseReady_eq (ms : Nat) (s : State) :
    raiseReady ms s = if (readyEntered (readyFound ms s)).cur.deferred then writeCheckpoint (readyEntered (readyFound ms s)) else readyEntered (readyFound ms s) := by
  rw [raiseReady, readyEntered, readyFound]

theorem readyEntered_pow (u : State) :
    let t := readyEntered u
    t.pow.startStep = u.pow.startStep ∧ t.pow.starting = u.pow.starting ∧ t.pow.mode = (if u.reg.state = 2 ∨ u.reg.state = 6 then .diagnostic else .service) ∧ t.pow.ready = (t.pow.mode == .service) := by
  have hservice : ∀ v : State, (proveFirmware (applyService v)).pow = { v.pow with pending := (proveFirmware (applyService v)).pow.pending } := fun v => by
    unfold applyService
    split <;> rfl
  unfold readyEntered
  dsimp only
  split
  · rw [setMode_pow]
    exact ⟨rfl, rfl, rfl, rfl⟩
  · rw [hservice, setMode_pow]
    exact ⟨rfl, rfl, rfl, rfl⟩

/-- The mode that READY gives. -/
theorem raiseReady_pow (ms : Nat) (s : State) :
    let t := raiseReady ms s
    t.pow.startStep = 11 ∧ t.pow.starting = false ∧ t.pow.mode = (if s.reg.state = 2 ∨ s.reg.state = 6 then .diagnostic else .service) ∧ t.pow.ready = (t.pow.mode == .service) := by
  obtain ⟨hpow, hreg⟩ := readyFound_pow ms s
  have hentered := readyEntered_pow (readyFound ms s)
  have hcheck : (raiseReady ms s).pow = (readyEntered (readyFound ms s)).pow := by
    rw [raiseReady_eq]
    split
    · exact (frame_writeCheckpoint _).pow
    · rfl
  dsimp only at hentered ⊢
  rw [hpow, hreg] at hentered
  rw [hcheck]
  exact hentered

theorem start_ready {env : StartEnv} {s : State} (hstart : s.pow.starting = true) (hat : s.pow.startStep = 10) (hstage : s.pow.closeStage = 8) :
    ∃ t, exec (.start 19 env) s = .next t ∧ t.pow.startStep = 11 ∧ t.pow.starting = false ∧
      t.pow.mode = (if s.reg.state = 2 ∨ s.reg.state = 6 then .diagnostic else .service) ∧ t.pow.ready = (t.pow.mode == .service) := by
  have hnone : (closeStages s)[s.pow.closeStage]? = none := List.getElem?_eq_none (by rw [closeStages_length]; omega)
  have hclose : startClose env s = (false, raiseReady env.ms s) := by simp only [startClose, hnone]
  have hstep : startStepOf 19 env s = (false, raiseReady env.ms s) := (startStepOf_of_close (by decide) env s).trans hclose
  have hnext : nextStep s = 19 := by rw [nextStep_of_close hat, hstage]
  exact ⟨raiseReady env.ms s, exec_start_of_stop (upTo := 19) hstart hnext (Nat.le_refl 19) hstep, raiseReady_pow ..⟩

/-! Steps that START does not go on from. -/

section
variable {env : StartEnv} {upTo : Fin 20} {s : State} (hstart : s.pow.starting = true)
include hstart

theorem start_halts {n : Fin 20} {k : Nat} {u : State} (hat : s.pow.startStep = k) (hstep : startStepOf (k + 1) env s = (false, startHalt (k + 1) u)) (hn : k + 1 ≤ n.val := by decide)
    (hk : k < 10 := by decide) :
    ∃ t, exec (.start n env) s = .next t ∧ t.pow.mode = .halt ∧ t.pow.starting = false ∧ t.pow.ready = false ∧ Frame [.fab, .pow, .cur, .freeCount] u t := by
  obtain ⟨hmode, hstarting, hready⟩ := startHalt_pow (k + 1) u
  exact ⟨_, exec_start_of_end hstart hat hstep hn hk, hmode, hstarting, hready, frame_startHalt ..⟩

theorem start_fuses_disagree (hat : s.pow.startStep = 0) (hmode : s.pow.mode = .start) (hlive : s.ao.live = 0) (hstate : fusedState s.fuses = 4 ∨ fusedState s.fuses = 5)
    (hagree : env.fusesAgree = false) :
    ∃ t, exec (.start 1 env) s = .next t ∧ t.pow.mode = .halt ∧ t.pow.starting = false ∧ t.pow.ready = false ∧ t.err.lastCause = 0x41 := by
  have hload := loadState_of_quiet hlive
  have hpow : (logStep 1 1 (loadState s)).pow.mode = .start := by rw [(frame_logStep ..).pow, hload]; exact hmode
  have hstep := startStep1_of_disagreeing (env := env) hstart hlive (by omega) (by omega) hagree
  exact ⟨_, exec_start_of_end (n := 1) (k := 0) hstart hat hstep, fatalError_pow _ _ (by rw [hpow]; decide) (by rw [hpow]; decide)⟩

theorem start_tampered (hup : 2 ≤ upTo.val) (hat : s.pow.startStep = 1) (hpll : env.pllLock = true) (hlatched : s.ao.responded = true) :
    ∃ t, exec (.start upTo env) s = .next t ∧ t.pow.mode = .tampered ∧ t.pow.starting = false ∧ t.pow.ready = false ∧ t.ao = s.ao ∧ t.bb = s.bb := by
  have hstep : startStepOf 2 env s = (false, setMode .tampered (endStart 2 (logStep 2 0 s))) := by
    show startStep2 env s = _
    simp [startStep2, hpll, hlatched]
  have hframe : Frame [.fab, .pow, .cur, .freeCount] s (setMode .tampered (endStart 2 (logStep 2 0 s))) :=
    .andThen (.trans (frame_logStep 2 0 s).mono (frame_of_pow rfl).mono) (frame_setMode ..)
  refine ⟨_, exec_start_of_end hstart hat hstep hup, ?_, ?_, ?_, hframe.ao, hframe.bb⟩ <;> rw [setMode_pow] <;> rfl

theorem start_terminated (hup : 1 ≤ upTo.val) (hat : s.pow.startStep = 0) (hlive : s.ao.live = 0) (hstate : fusedState s.fuses = 15) :
    ∃ t, exec (.start upTo env) s = .next t ∧ t.pow.startStep = 0 ∧ t.pow.starting = false ∧ t.pow.mode = s.pow.mode := by
  refine ⟨_, exec_start_of_end hstart hat (startStep1_of_terminated hstart hlive hstate) hup, ?_⟩
  rw [loadState_of_quiet hlive]
  exact ⟨hat, rfl, rfl⟩

theorem start_without_service (hup : 1 ≤ upTo.val) (hat : s.pow.startStep = 0) (hlive : s.ao.live = 0) (hstate : fusedState s.fuses = 0 ∨ fusedState s.fuses = 1 ∨ fusedState s.fuses = 7)
    (hagree : env.fusesAgree = true) (hclear : s.ao.responded = false) (hvalid : s.bb.valid = true) :
    ∃ t, exec (.start upTo env) s = .next t ∧ t.pow.startStep = 1 ∧ t.pow.starting = false ∧ t.pow.mode = s.pow.mode := by
  have hnone : noService (fusedState s.fuses) = true := by rcases hstate with h | h | h <;> rw [h] <;> rfl
  have hstep := startStep1_of_sound hstart hlive (by omega) (by omega) hagree hvalid hclear
  rw [hnone, if_pos rfl] at hstep
  refine ⟨_, exec_start_of_end (k := 0) hstart hat hstep hup, rfl, rfl, ?_⟩
  show (logStep 1 0 (settledBbram (loadState s))).pow.mode = _
  rw [(frame_logStep ..).pow, (settledBbram_kept _).1, loadState_of_quiet hlive]

end

/-- Settles O16: the row makes the step at which START stands, and each step's lemma says where it leads. -/
theorem startSteps_settled : Obligations.StartSteps := by
  unfold Obligations.StartSteps
  refine ⟨exec_start_step, fun env s h0 hat hstate hagree hvalid hclear hlive => start_step1 h0 hat hstate hagree hvalid hclear hlive, fun env s h0 => ⟨?_, ?_, ?_, ?_, ?_, ?_, ?_, ?_, ?_⟩,
    fun env n s h0 hat hstage hn hwarn => start_close h0 hat hstage hn hwarn, fun env s h0 hat hstage => start_ready h0 hat hstage, fun env s h0 => ⟨?_, ?_, ?_, ?_, ?_, ?_⟩,
    fun env upTo s hup h0 hat hpll hlatched => start_tampered h0 hup hat hpll hlatched, fun env upTo s hup h0 hat hlive => ⟨?_, ?_⟩, fun env upTo s h0 => ?_⟩
  · exact fun hat hpll hclear => start_step2 h0 hat hpll hclear
  · exact fun hat => start_step3 h0 hat
  · exact fun hat hgddr => start_step4 h0 hat hgddr
  · exact fun hat hleft => start_step5 h0 hat hleft
  · exact fun hat => start_step6 h0 hat
  · exact fun root hat hreads hroot haccepted => start_step7 h0 hat hreads hroot haccepted
  · exact fun n f hat hchosen himage => start_step8 h0 hat hchosen himage
  · exact fun hat hsites h2 h3 h4 h6 => start_step9 h0 hat hsites h2 h3 h4 h6
  · exact fun hat hkat hfatal hsources hinst => start_step10 h0 hat hkat hfatal hsources hinst
  · intro hat hpll
    obtain ⟨t, hexec, h1, h2, h3, -⟩ := start_halts (n := 2) (u := s) h0 hat (show startStep2 env s = _ by rw [startStep2, hpll]; rfl)
    exact ⟨t, hexec, h1, h2, h3⟩
  · intro hat hgddr
    obtain ⟨t, hexec, h1, h2, h3, hframe⟩ := start_halts (n := 4) (u := s) h0 hat (show mustHold 4 env.gddrOk s = _ by rw [mustHold, hgddr]; rfl)
    exact ⟨t, hexec, h1, h2, h3, hframe.bb, hframe.vit⟩
  · intro hat hnone
    obtain ⟨t, hexec, h1, h2, h3, -⟩ := start_halts (n := 8) (env := env) h0 hat (show startStep8 s = _ by simp only [startStep8, hnone]; rfl)
    exact ⟨t, hexec, h1, h2, h3⟩
  · intro hat h3
    obtain ⟨t, hexec, h1, h2, hready, -⟩ := start_halts (n := 9) h0 hat (show startStep9 env s = _ by
      rw [startStep9_eq, mustHold, if_neg (by simp [h3])])
    exact ⟨t, hexec, h1, h2, hready⟩
  · intro hat hkat
    obtain ⟨t, hexec, h1, h2, h3, -⟩ := start_halts (n := 10) (u := s) h0 hat (show startStep10 env s = _ by rw [startStep10, hkat]; rfl)
    exact ⟨t, hexec, h1, h2, h3⟩
  · exact fun hat hmode hlive hstate hagree => start_fuses_disagree h0 hat hmode hlive hstate hagree
  · exact fun hstate => start_terminated h0 hup hat hlive hstate
  · exact fun hstate hagree hclear hvalid => start_without_service h0 hup hat hlive hstate hagree hclear hvalid
  · show Host.Outcome.next (startSteps upTo env 19 s) = _
    rw [startSteps, if_pos (by simp [h0])]

end Sys2Proof.Machine

/-!
PROOFS, 01 architecture, 15 VAULT and 17 the Curator's domain: loss and return of the supplies (01 R15, R16, 15 R372, R373, 17 R444). Each row is one operation on the domain whose supply changed; a record in the log changes the log alone.
-/

namespace Sys2Proof.Machine

set_option Elab.async false

/-! What a record leaves of the Curator. -/

/-- The states differ in the Curator's log at most. -/
def LogOnly (s t : State) : Prop :=
  t = { s with cur := { s.cur with
    logSeq := t.cur.logSeq, logSram := t.cur.logSram, logRing := t.cur.logRing, logMirror := t.cur.logMirror, sinceCheckpoint := t.cur.sinceCheckpoint, buffered := t.cur.buffered } }

theorem LogOnly.refl (s : State) : LogOnly s s := rfl

theorem LogOnly.trans {s t u : State} (h : LogOnly s t) (g : LogOnly t u) : LogOnly s u := by
  unfold LogOnly at *
  rw [h] at g
  exact g

theorem LogOnly.foldl {β : Type} {g : State → β → State} (h : ∀ s x, LogOnly s (g s x)) (l : List β) (s : State) : LogOnly s (l.foldl g s) := by
  induction l generalizing s with
  | nil => exact .refl s
  | cons a l ih => exact (h s a).trans (ih _)

theorem LogOnly.frame {s t : State} (h : LogOnly s t) : Frame [.cur] s t := by
  unfold LogOnly at h
  rw [h]
  exact frame_of_cur rfl

theorem logOnly_putRecord (type source flags : Nat) (data : Bytes) (s : State) : LogOnly s (putRecord type source flags data s) := by
  unfold putRecord
  dsimp only
  split
  · exact .refl s
  · rfl

theorem logOnly_logRecord (type source flags : Nat) (data : Bytes) (s : State) : LogOnly s (logRecord type source flags data s) := by
  unfold logRecord
  split
  · rfl
  · exact (logOnly_putRecord ..).trans rfl

theorem logOnly_logData (type source : Nat) (data : Bytes) (s : State) : LogOnly s (logData type source data s) := .foldl (fun _ _ => logOnly_logRecord ..) _ _

/-- A tamper record is copied into the log, and with it the mark that it waits goes. -/
theorem logTamper_log (s : State) : LogOnly { s with ao := { s.ao with recordToLog := (logTamper s).ao.recordToLog } } (logTamper s) := by
  unfold logTamper
  split
  · have hlog := logOnly_logData 0x0030 0 (s.ao.record ++ zeros 8 ++ identitySign s s.ao.record) { s with ao := { s.ao with recordToLog := false } }
    rw [hlog.frame.ao]
    exact hlog
  · exact .refl s

theorem logTamper_of_none {s : State} (h : s.ao.recordToLog = false) : logTamper s = s := by
  rw [logTamper, if_neg (by simp [h])]

/-! Main power. -/

theorem breakBurn_of_none {s : State} (h : s.reg.burn = none) : breakBurn s = s := by
  have hrecords : fuseRecords s = s.fuses.records := by
    rw [fuseRecords, h]
    exact List.append_nil _
  have hreg : ({ s.reg with burn := none } : Registrar) = s.reg := by rw [← h]
  rw [breakBurn, hrecords, hreg]

/-- The main domain, stopped, as it loses its power. -/
def unpowered (g6Kept : Bool) (s : State) : State :=
  { s with
    vit := { s.vit with retained := s.vit.retained && g6Kept && s.ao.vaux }
    fab := { s.fab with fns := [], linkUp := false }
    reg := { s.reg with debug := s.reg.debug && !s.reg.debugStarted, debugStarted := false }
    pow := { s.pow with main := false, pwronAsserted := true, perstAsserted := true, failWarning := false } }

theorem enterVault_of_main {s : State} (h : s.pow.main = true) (g6Kept : Bool) : enterVault g6Kept s = setMode .vault (unpowered g6Kept (stopMain (breakBurn s))) := by
  rw [enterVault, if_neg (by simp [h]), unpowered]

/-- The end of the main domain erases nothing: BBRAM, the always-on domain and the fuses stay, and what GDDR6 held is judged by what held it. -/
theorem stopMain_kept (s : State) : (stopMain s).bb = s.bb ∧ (stopMain s).ao = s.ao ∧ (stopMain s).fuses = s.fuses ∧ (stopMain s).vit.retained = s.vit.retained := by
  have h := frame_settleCells s
  unfold stopMain
  dsimp only
  exact ⟨h.bb, h.ao, h.fuses, by rw [h.vit]⟩

/-! The state of the PCIe link is nobody's but its own rows' and the resets'. -/

theorem linkUp_sendVector (fn v : Nat) (s : State) : (sendVector fn v s).fab.linkUp = s.fab.linkUp := by
  unfold sendVector
  dsimp only
  split <;> rfl

theorem linkUp_latchCause (fn b : Nat) (s : State) : (latchCause fn b s).fab.linkUp = s.fab.linkUp := by
  unfold latchCause
  dsimp only
  split
  · rfl
  · split
    · exact linkUp_sendVector ..
    · rfl

theorem linkUp_latchEvent (n : Nat) (s : State) : (latchEvent n s).fab.linkUp = s.fab.linkUp := by
  unfold latchEvent
  split
  · rfl
  · dsimp only
    split
    · exact linkUp_sendVector ..
    · rfl

theorem linkUp_refreshWindow (fn : Nat) (s : State) : (refreshWindow fn s).fab.linkUp = s.fab.linkUp := by
  unfold refreshWindow
  dsimp only
  split
  · rfl
  · exact linkUp_latchCause ..

theorem linkUp_refreshWindows (s : State) : (refreshWindows s).fab.linkUp = s.fab.linkUp := by
  unfold refreshWindows
  generalize List.range 1025 = l
  induction l generalizing s with
  | nil => rfl
  | cons a l ih => rw [List.foldl_cons, ih, linkUp_refreshWindow]

theorem linkUp_settleReady (s : State) : (settleReady s).fab.linkUp = s.fab.linkUp := by
  unfold settleReady
  dsimp only
  split
  · rw [linkUp_latchEvent]
  · rfl

theorem withMode_eq (f : Power → Power) (s : State) : withMode f s = refreshWindows (settleReady
    (if modeCode s.pow = modeCode (f s.pow) then { s with pow := f s.pow }
     else logRecord 0x0011 0 0 [BitVec.ofNat 8 (modeCode s.pow), BitVec.ofNat 8 (modeCode (f s.pow))] { s with pow := f s.pow })) := by
  rw [withMode]

theorem linkUp_withMode (f : Power → Power) (s : State) : (withMode f s).fab.linkUp = s.fab.linkUp := by
  rw [withMode_eq, linkUp_refreshWindows, linkUp_settleReady]
  split
  · rfl
  · rw [(frame_logRecord ..).fab]

theorem linkUp_setMode (m : Mode) (s : State) : (setMode m s).fab.linkUp = s.fab.linkUp := by
  rw [setMode, linkUp_withMode]

theorem enterVault_effect {s : State} (hmain : s.pow.main = true) (hburn : s.reg.burn = none) (g6Kept : Bool) :
    let t := enterVault g6Kept s
    t.pow.main = false ∧ t.pow.mode = .vault ∧ t.pow.ready = false ∧ t.pow.pwronAsserted = true ∧ t.pow.perstAsserted = true ∧ t.fab.linkUp = false ∧ t.doc.descs = [] ∧
      t.vit.retained = (s.vit.retained && g6Kept && s.ao.vaux) ∧ t.bb = s.bb ∧ t.ao = s.ao ∧ t.fuses = s.fuses := by
  obtain ⟨hbb, hao, hfuses, hretained⟩ := stopMain_kept s
  have hdescs := (stopMain_empty s).2.1
  dsimp only
  rw [enterVault_of_main hmain, breakBurn_of_none hburn]
  generalize stopMain s = a at hbb hao hfuses hretained hdescs
  have hframe := frame_setMode .vault (unpowered g6Kept a)
  have hlink := linkUp_setMode .vault (unpowered g6Kept a)
  have hkept : (unpowered g6Kept a).vit.retained = (s.vit.retained && g6Kept && s.ao.vaux) := by rw [← hretained, ← hao]; rfl
  rw [setMode_pow, hframe.doc, hframe.vit, hframe.bb, hframe.ao, hframe.fuses]
  exact ⟨rfl, rfl, rfl, rfl, rfl, hlink, hdescs, hkept, hbb, hao, hfuses⟩

/-! The always-on domain's supplies. -/

theorem vauxLoss_with_vbat (s : State) (hvaux : s.ao.vaux = true) (hvbat : s.ao.vbat = true) :
    ∃ t, exec .vauxLoss s = .next t ∧ t.ao = { s.ao with vaux := false } ∧ t.bb = s.bb ∧ t.cur.logSram = [] ∧ t.cur.inBuf = [] ∧ t.cur.outBuf = [] ∧ t.cur.transcript = [] ∧
      t.cur.mctpWaiting = [] ∧ t.cur.logMirror = s.cur.logMirror ∧ t.fuses = s.fuses ∧ t.pow = s.pow := by
  have hexec : exec .vauxLoss s = .next (loseVaux s) := by
    show execVauxLoss s = _
    rw [execVauxLoss, if_pos hvaux]
  refine ⟨_, hexec, ?_⟩
  unfold loseVaux
  dsimp only
  rw [if_pos hvbat]
  exact ⟨rfl, rfl, rfl, rfl, rfl, rfl, rfl, rfl, rfl, rfl⟩

theorem vauxLoss_without_vbat (s : State) (hvaux : s.ao.vaux = true) (hvbat : s.ao.vbat = false) :
    ∃ t, exec .vauxLoss s = .next t ∧ t.bb = { lost := true } ∧ t.ao.responded = false ∧ t.ao.latched = 0 ∧ t.ao.vaux = false ∧ t.fuses = s.fuses := by
  have hexec : exec .vauxLoss s = .next (loseVaux s) := by
    show execVauxLoss s = _
    rw [execVauxLoss, if_pos hvaux]
  refine ⟨_, hexec, ?_⟩
  unfold loseVaux
  dsimp only
  rw [if_neg (by simp [hvbat])]
  exact ⟨rfl, rfl, rfl, rfl, rfl⟩

/-- The Curator as it starts again from VAUX. -/
def curatorStarted (s : State) : State :=
  { s with
    ao := { s.ao with vaux := true }
    cur := { s.cur with logSram := [], logSeq := ((s.cur.logMirror.head?).map (·.1)).getD 0, restarting := none } }

theorem vauxRestore_with_vbat (s : State) (hvaux : s.ao.vaux = false) (hvbat : s.ao.vbat = true) :
    ∃ t, exec .vauxRestore s = .next t ∧ t = { s with ao := { s.ao with vaux := true, recordToLog := t.ao.recordToLog }, cur := t.cur } ∧ t.cur.restarting = none ∧
      (s.ao.recordToLog = false → t.ao.recordToLog = false ∧ t.cur.logSeq = ((s.cur.logMirror.head?).map (·.1)).getD 0) := by
  have hexec : exec .vauxRestore s = .next (logTamper (curatorStarted s)) := by
    show execVauxRestore s = _
    rw [execVauxRestore, if_neg (by simp [hvaux])]
    dsimp only
    rw [if_pos hvbat]
    rfl
  refine ⟨_, hexec, logTamper_only (curatorStarted s), ?_, fun hnone => ?_⟩
  · rw [logTamper_log (curatorStarted s)]
    rfl
  · rw [logTamper_of_none (show (curatorStarted s).ao.recordToLog = false from hnone)]
    exact ⟨hnone, rfl⟩

theorem alwaysOnPowerUp_effect (vaux vbat : Bool) (s : State) (hvaux : s.ao.vaux = false) (hvbat : s.ao.vbat = false) (hany : (vaux || vbat) = true) :
    ∃ t, exec (.alwaysOnPowerUp vaux vbat) s = .next t ∧ t = { s with ao := t.ao } ∧ t.ao.vaux = vaux ∧ t.ao.vbat = vbat ∧ t.ao.since = s.now ∧ t.ao.responded = false := by
  have hexec : exec (.alwaysOnPowerUp vaux vbat) s = .next (alwaysOnUp vaux vbat s) := by
    show execAlwaysOnPowerUp vaux vbat s = _
    rw [execAlwaysOnPowerUp, if_neg (by simp [aoPowered, hvaux, hvbat, hany])]
  exact ⟨_, hexec, rfl, rfl, rfl, rfl, rfl⟩

theorem vbatLoss_without_vaux (s : State) (hvbat : s.ao.vbat = true) (hvaux : s.ao.vaux = false) : ∃ t, exec .vbatLoss s = .next t ∧ t.bb = { lost := true } ∧ t.ao.vbat = false := by
  have hexec : exec .vbatLoss s = .next (loseAlwaysOn { s with
      ao := { s.ao with vbat := false }, cur := { s.cur with sensors := mupd s.cur.sensors 41 {} (fun x => { x with valid := false }) } }) := by
    show execVbatLoss s = _
    simp only [execVbatLoss, hvbat, hvaux, Bool.not_true, Bool.false_eq_true, if_false]
  exact ⟨_, hexec, rfl, rfl⟩

theorem vbatLoss_with_vaux (s : State) (hvbat : s.ao.vbat = true) (hvaux : s.ao.vaux = true) :
    ∃ t, exec .vbatLoss s = .next t ∧ t = { s with ao := { s.ao with vbat := false }, cur := t.cur } ∧ (mgetD t.cur.sensors 41 {}).valid = false := by
  have hexec : exec .vbatLoss s = .next { s with
      ao := { s.ao with vbat := false }, cur := { s.cur with sensors := mupd s.cur.sensors 41 {} (fun x => { x with valid := false }) } } := by
    show execVbatLoss s = _
    simp only [execVbatLoss, hvbat, hvaux, Bool.not_true, Bool.false_eq_true, if_false, if_true]
  refine ⟨_, hexec, rfl, ?_⟩
  dsimp only
  rw [mgetD_mupd, if_pos rfl]

/-- Settles O17. -/
theorem supplies : Obligations.Supplies := by
  unfold Obligations.Supplies
  refine ⟨fun g6Kept s hmain hburn => ⟨_, rfl, enterVault_effect hmain hburn g6Kept⟩, fun s hmain hburn => ?_, fun s hmain => ?_, fun s hmain => ?_, fun s => ⟨fun hwarn => ?_, fun hwarn => ?_⟩,
    vauxLoss_with_vbat, vauxLoss_without_vbat, vauxRestore_with_vbat, alwaysOnPowerUp_effect, vbatLoss_with_vaux, vbatLoss_without_vaux, fun r s havs hret => ?_, fun r s havs => ?_⟩
  · obtain ⟨-, hmode, -, -, -, -, -, hretained, hbb, -⟩ := enterVault_effect hmain hburn false
    refine ⟨enterVault false s, ?_, hmode, by simpa using hretained, hbb⟩
    show execGddr6RailLoss s = _
    rw [execGddr6RailLoss, if_pos hmain]
  · show execGddr6RailLoss s = _
    rw [execGddr6RailLoss, if_neg (by simp [hmain])]
  · show execPowerFailWarning s = _
    rw [execPowerFailWarning, if_pos hmain]
  · show execPowerFailWarningClear s = _
    rw [execPowerFailWarningClear, if_pos hwarn]
  · show execPowerFailWarningClear s = _
    rw [execPowerFailWarningClear, if_neg (by simp [hwarn])]
  · show execAvsbusAck s = _
    simp only [execAvsbusAck, havs, hret]
  · refine ⟨logRecord 0x00B0 32 0 (leBytes 2 32 ++ leBytes 2 r.millivolts) { s with pow := { s.pow with avs := some { r with tries := r.tries + 1 } } }, ?_, logRecord_cur ..⟩
    show execAvsbusTimeout s = _
    simp only [execAvsbusTimeout, havs]

end Sys2Proof.Machine

/-!
PROOFS, 10 the Docent: DOC_TAKE and DOC_DONE (10 R251, R255, R256, R258, R261, R323). A hand-back is followed through the descriptor that it is about: each operation on the way either changes this descriptor in a way its equation states, or changes none.
-/

namespace Sys2Proof.Machine

set_option Elab.async false

/-! Takes. -/

theorem frame_updCell (c : Nat) (f : CellRegs → CellRegs) (s : State) : Frame [.doc] s (updCell c f s) := frame_of_doc rfl

theorem exec_docTake_of_free (cell : Fin 128) (s : State) (hheld : (cellRegs s cell).held = none) (hwait : s.doc.waiting.any (fun c => c.cell == cell.val) = false) :
    ∃ u, exec (.docTake cell) s = .next (offerWork u) ∧
      u = { s with doc := { s.doc with waiting := s.doc.waiting ++ [{ cell := cell.val, since := s.now }] }, cnt := u.cnt, freeCount := u.freeCount } := by
  have hframe := frame_settleCell cell s
  refine ⟨{ settleCell cell s with doc := { (settleCell cell s).doc with waiting := (settleCell cell s).doc.waiting ++ [{ cell := cell.val, since := (settleCell cell s).now }] } }, ?_, ?_⟩
  · show execDocTake cell s = _
    rw [execDocTake, hheld, hwait]
    rfl
  · have hrecord : settleCell cell s = { s with cnt := (settleCell cell s).cnt, freeCount := (settleCell cell s).freeCount } := by simpa using hframe.record
    generalize settleCell cell s = a at hrecord ⊢
    rw [hrecord]

theorem exec_docTake_of_busy (cell : Fin 128) (s : State) (h : ((cellRegs s cell).held.isSome || s.doc.waiting.any (fun c => c.cell == cell.val)) = true) :
    exec (.docTake cell) s = .next s := by
  show execDocTake cell s = _
  rw [execDocTake, if_pos h]

theorem exec_takeTimeout_effect (cell : Fin 128) (c : WaitingCell) (s : State) (hwait : s.doc.waiting.find? (fun c => c.cell == cell.val) = some c) :
    ∃ t, exec (.takeTimeout cell) s = .next t ∧ t = { s with doc := t.doc, cnt := t.cnt, freeCount := t.freeCount, now := max s.now (c.since + 1000 * s.doc.takeTimeout) } ∧
      (cellRegs t cell).take = 0 ∧ t.doc.waiting = s.doc.waiting.filter (fun x => x.cell != cell.val) ∧ t.doc.descs = s.doc.descs ∧ t.doc.flows = s.doc.flows := by
  have hframe := frame_settleCell cell (advanceTo (c.since + 1000 * s.doc.takeTimeout) s)
  have hrecord : settleCell cell (advanceTo (c.since + 1000 * s.doc.takeTimeout) s) = { advanceTo (c.since + 1000 * s.doc.takeTimeout) s with
    cnt := (settleCell cell (advanceTo (c.since + 1000 * s.doc.takeTimeout) s)).cnt, freeCount := (settleCell cell (advanceTo (c.since + 1000 * s.doc.takeTimeout) s)).freeCount } := by
    simpa using hframe.record
  generalize ha : settleCell cell (advanceTo (c.since + 1000 * s.doc.takeTimeout) s) = a at hframe hrecord
  refine ⟨updCell cell (fun r => { r with take := 0 }) { a with doc := { a.doc with waiting := a.doc.waiting.filter (fun x => x.cell != cell.val) } }, ?_, ?_, ?_, ?_, ?_, ?_⟩
  · show execTakeTimeout cell s = _
    simp only [execTakeTimeout, hwait, ha]
  · rw [hrecord]
    rfl
  · rw [cellRegs_updCell, if_pos rfl]
  · rw [hrecord]
    rfl
  · rw [hrecord]
    rfl
  · rw [hrecord]
    rfl

/-- Settles O19. -/
theorem takesAndTheirTimeOut : Obligations.TakesAndTheirTimeOut := by
  unfold Obligations.TakesAndTheirTimeOut
  exact ⟨exec_docTake_of_free, fun cell s h => exec_docTake_of_busy cell s h, exec_takeTimeout_effect⟩

/-! What a hand-back leaves of the commands. -/

theorem desc_updDesc_same (t : Nat) (f : Desc → Desc) (s : State) : desc (updDesc t f s) t = (desc s t).map f := by rw [desc_updDesc, if_pos rfl]

theorem desc_updDesc_ne {t k : Nat} (h : k ≠ t) (f : Desc → Desc) (s : State) : desc (updDesc t f s) k = desc s k := by rw [desc_updDesc, if_neg h]

theorem desc_freeCell (c k : Nat) (s : State) : desc (freeCell c s) k = desc s k := by
  show desc (updCell _ _ _) k = _
  rw [desc_updCell, (frame_settleCell c s).desc]

theorem held_freeCell (c : Nat) (s : State) : (cellRegs (freeCell c s) c).held = none := by
  show (cellRegs (updCell _ _ _) c).held = none
  rw [cellRegs_updCell, if_pos rfl]

theorem desc_freeCopies (t : Nat) (d : Desc) (k : Nat) (s : State) : desc (freeCopies t d s) k = desc s k := by
  unfold freeCopies
  generalize d.copies = l
  induction l generalizing s with
  | nil => rfl
  | cons a l ih =>
    rw [List.foldl_cons, ih]
    split
    · exact desc_freeCell ..
    · rfl

theorem flows_freeCell (c : Nat) (s : State) : (freeCell c s).doc.flows = s.doc.flows := congrArg (·.flows) (frame_settleCell c s).doc

theorem flows_freeCopies (t : Nat) (d : Desc) (s : State) : (freeCopies t d s).doc.flows = s.doc.flows := by
  unfold freeCopies
  generalize d.copies = l
  induction l generalizing s with
  | nil => rfl
  | cons a l ih =>
    rw [List.foldl_cons, ih]
    split
    · exact flows_freeCell ..
    · rfl

/-- A command whose response is not to be discarded stays when it leaves service. -/
theorem leaveService_of_kept {t : Nat} {d : Desc} {s : State} (h : desc s t = some d) (hkept : d.discard = false) : leaveService t s = s := by
  rw [leaveService, h]
  simp [hkept]

/-! Complete. -/

theorem shedClaims_of_served {s : State} (w : Nat) (h : s.rng.fatal = false) : shedClaims w s = s := by
  rw [shedClaims, maskExhausted, h]
  rfl

theorem frame_updWing (w : Nat) (f : Wing → Wing) (s : State) : Frame [.pow] s (updWing w f s) := frame_of_pow rfl

theorem frame_updEngine (h : Bool) (w : Nat) (f : Engine → Engine) (s : State) : Frame [.pow] s (updEngine h w f s) := frame_updWing ..

theorem frame_changeSeed {s : State} (w : Nat) (h : s.rng.fatal = false) : Frame [.pow, .cnt] s (changeSeed w s) := by
  unfold changeSeed
  refine .ite (fun _ => .refl ..) (fun _ => ?_)
  have hseed := (frame_updEngine false w (fun e => { e with
      seedReady := false, refilling := true, seed := e.spare, spare := [], seedBlocks := e.seedBlocks - 65536, seedsUsed := sat 0xFFFFFFFF (e.seedsUsed + 1) }) s).mono (qs := [.pow, .cnt])
  have hcount := fun k => hseed.andThen (frame_countEvent w 17 1 k _)
  dsimp only
  rw [shedClaims_of_served w (by rw [(hcount _).rng, h])]
  exact hcount _

theorem frame_countFunction {s : State} (cell : Nat) (d : Desc) (h : s.rng.fatal = false) : Frame [.pow, .cnt] s (countFunction cell d s) := by
  unfold countFunction countBlocks
  exact .ite (fun _ => .trans (frame_updEngine ..).mono (.ite (fun _ => frame_changeSeed _ h) (fun _ => .refl ..))) (fun _ => .refl ..)

theorem stagedResponse_of_primary {d : Desc} (h : d.resp.isSome = true) (s : State) : stagedResponse false d s = (d, s) := by
  obtain ⟨r, hr⟩ := Option.isSome_iff_exists.mp h
  simp only [stagedResponse, Bool.false_eq_true, if_false, hr]

/-- A command that originates nothing is done with the response it has. -/
theorem completeCommand_of_quiet {t : Nat} {d : Desc} {fl : Flow} {r : Resp} {s : State} (hd : desc s t = some d) (hagree : copiesAgree d = true) (hflow : mget s.doc.flows d.flow = some fl)
    (hresp : d.resp = some r) (horig : d.originating = false) (hkept : d.discard = false) :
    completeCommand t s = updDesc t (fun d => { d with st := .done, doneAt := some (dropHolds t s).now }) (dropHolds t s) := by
  have hd' : desc (dropHolds t s) t = some d := by rw [(frame_dropHolds t s).desc, hd]
  rw [completeCommand, hd]
  simp only [hagree, if_true]
  rw [finish, hd]
  simp only [hflow, hresp, horig, Bool.false_and, Bool.false_eq_true, if_false]
  rw [leaveService_of_kept (d := { d with st := .done, doneAt := some (dropHolds t s).now }) (by rw [desc_updDesc_same, hd']; rfl) hkept]

theorem docDoneComplete_effect (cell : Fin 128) (ticket : Fin 65536) (d : Desc) (fl : Flow) (s : State) (hheld : (cellRegs s cell).held = some ticket.val) (hd : desc s ticket = some d)
    (hresp : d.resp.isSome = true) (hprimary : isSecondary d cell = false) (hagree : copiesAgree d = true) (hserved : s.rng.fatal = false) (horig : d.originating = false)
    (hkept : d.discard = false) (hall : (completeCopy cell d).2 = true) (hflow : mget s.doc.flows d.flow = some fl) :
    ∃ u, exec (.docDoneComplete cell ticket) s = .next (offerWork u) ∧ (cellRegs u cell).held = none ∧
      (desc u ticket).map (fun x => (x.st, x.resp)) = some (.done, d.resp) ∧ (∀ k, k ≠ ticket.val → desc u k = desc s k) ∧ u.fab = s.fab ∧ u.now = s.now := by
  obtain ⟨r, hr⟩ := Option.isSome_iff_exists.mp hresp
  let a := freeCell cell (updDesc ticket (fun _ => (completeCopy cell d).1) s)
  let b := countFunction cell d a
  have haframe : Frame [.doc, .cnt, .freeCount] s a := (frame_updDesc ticket (fun _ => (completeCopy cell d).1) s).mono.trans (frame_freeCell ..)
  have hbframe : Frame [.pow, .cnt] a b := frame_countFunction cell d (by rw [haframe.rng, hserved])
  have hb : desc b ticket = some (completeCopy cell d).1 := by
    rw [hbframe.desc, desc_freeCell, desc_updDesc_same, hd]
    rfl
  have hbflow : mget b.doc.flows (completeCopy cell d).1.flow = some fl := by
    rw [hbframe.doc, flows_freeCell]
    exact hflow
  have hbframe' : Frame [.doc, .cnt, .freeCount, .pow, .vit] s (dropHolds ticket b) := (haframe.mono.andThen hbframe).andThen (frame_dropHolds ..)
  refine ⟨completeCommand ticket b, ?_, ?_, ?_, fun k hk => ?_, ?_, ?_⟩
  · show execDocDoneComplete cell ticket s = _
    rw [execDocDoneComplete, if_neg (by simp [hheld]), hd]
    dsimp only
    rw [hprimary, stagedResponse_of_primary hresp]
    dsimp only
    rw [hall]
    rfl
  all_goals rw [completeCommand_of_quiet hb hagree hbflow hr horig hkept]
  · rw [cellRegs_updDesc, (frame_dropHolds ..).cellRegs, hbframe.cellRegs]
    exact held_freeCell ..
  · rw [desc_updDesc_same, (frame_dropHolds ..).desc, hb]
    rfl
  · rw [desc_updDesc_ne hk, (frame_dropHolds ..).desc, hbframe.desc, desc_freeCell, desc_updDesc_ne hk]
  · exact hbframe'.fab
  · exact hbframe'.now

/-! Park. -/

theorem settlePark_of_waiting {t wait object : Nat} {s : State} (h : wait = 2 ∨ (wait = 1 ∧ s.rng.fatal = false ∧ instServes s object = false)) : settlePark t wait object s = s := by
  rcases h with h | ⟨h, hfatal, hserves⟩
  · rw [settlePark, if_pos (by omega)]
  · rw [settlePark, if_neg (by omega), hfatal, hserves]
    rfl

theorem docDonePark_effect (cell : Fin 128) (ticket : Fin 65536) (wait : Fin 8) (object : Fin 65536) (d : Desc) (s : State) (hheld : (cellRegs s cell).held = some ticket.val)
    (hd : desc s ticket = some d) (hwait : wait = 2 ∨ (wait = 1 ∧ s.rng.fatal = false ∧ instServes s object = false)) :
    ∃ u, exec (.docDonePark cell ticket wait object) s = .next (offerWork u) ∧
      (desc u ticket).map (fun x => (x.st, x.copies, x.seq)) = some (.parked wait.val object.val, d.copies.filter (fun k => k.cell != cell.val), d.seq) ∧
      (∀ k, k ≠ ticket.val → desc u k = desc s k) ∧ u.doc.parkCount = s.doc.parkCount + 1 ∧ u.fab = s.fab := by
  have hframe : Frame [.doc, .cnt, .freeCount] s (parkDesc cell ticket wait object s) := (frame_freeCell cell s).andThen (frame_of_doc rfl)
  have hwait' : wait.val = 2 ∨ (wait.val = 1 ∧ (parkDesc cell ticket wait object s).rng.fatal = false ∧ instServes (parkDesc cell ticket wait object s) object = false) := by
    rcases hwait with rfl | ⟨rfl, hfatal, hserves⟩
    · exact .inl rfl
    · refine .inr ⟨rfl, by rw [hframe.rng, hfatal], ?_⟩
      rw [← hserves, instServes, hframe.rng]
      rfl
  have hok : (wait == 1 || wait == 2) = true := by
    rcases hwait with rfl | ⟨rfl, -⟩ <;> rfl
  have hdesc : ∀ k, desc (nextOrder (freeCell cell s)) k = desc s k := fun k => desc_freeCell ..
  refine ⟨parkDesc cell ticket wait object s, ?_, ?_, fun k hk => ?_, ?_, hframe.fab⟩
  · show execDocDonePark cell ticket wait object s = _
    rw [execDocDonePark, if_neg (by simp [hheld, hok]), settlePark_of_waiting hwait']
  · rw [parkDesc, desc_updDesc_same, hdesc, hd]
    rfl
  · rw [parkDesc, desc_updDesc_ne hk, hdesc]
  · exact congrArg (·.parkCount + 1) (frame_settleCell cell s).doc

end Sys2Proof.Machine

/-!
PROOFS, 10 the Docent: DOC_DONE's retry, and the write for a command that is not held (10 R256, R258, 13 R322, R323). A retry is a COMMAND error of its cell: the first of its unit records itself and goes to the COMMAND handler, which re-offers the command or, at the third failure, ends it.
-/

namespace Sys2Proof.Machine

set_option Elab.async false

/-! The COMMAND handler's work on a command in service. -/

/-- The first COMMAND error of a unit within 1 s goes to the COMMAND handler (R322). -/
theorem commandError_of_first {code unit : Nat} {s : State} (t : Nat) (hmode : s.pow.mode = .service) (hcode : code ≠ 0x24) (hunit : unit < 176)
    (hwing : (wing s (unitWing unit)).quarantined = false) (hunits : s.err.byUnit = []) (hactive : s.err.active < 2) :
    commandError code t unit s = handleCommand code t unit (recordCommandError code t unit s) := by
  have hlt := unitWing_lt hunit
  have hquar : (wing (recordCommandError code t unit s) (unitWing unit)).quarantined = false := by rw [wing_recordCommandError, hwing]
  have hact : ¬(recordCommandError code t unit s).err.active ≥ 2 := by
    rw [recordCommandError_err]
    exact Nat.not_le_of_lt hactive
  have hagain : s.err.byUnit.any (fun p => p.1 == unit && decide (s.now < p.2 + 1000000000)) = false := by
    rw [hunits]
    rfl
  unfold commandError
  rw [hmode, if_neg (by decide), if_neg (by simp [hcode])]
  dsimp only
  rw [if_pos hlt, if_pos hlt, hagain]
  change (if (decide (unitWing unit < 16) && (wing (recordCommandError code t unit s) (unitWing unit)).quarantined) = true then _ else _) = _
  rw [if_neg (by simp [hquar]), if_neg (by simp)]
  exact if_neg hact

theorem desc_raiseHolds (fis : List Nat) (k : Nat) (s : State) : desc (raiseHolds fis s) k = desc s k := by
  unfold raiseHolds
  induction fis generalizing s with
  | nil => rfl
  | cons a l ih => rw [List.foldl_cons, ih, desc_updFlow]

theorem desc_lowerHolds (fis : List Nat) (k : Nat) (s : State) : desc (lowerHolds fis s) k = desc s k := by
  unfold lowerHolds
  induction fis generalizing s with
  | nil => rfl
  | cons a l ih => rw [List.foldl_cons, ih, desc_updFlow]

theorem frame_raiseHolds (fis : List Nat) (s : State) : Frame [.doc] s (raiseHolds fis s) := .foldl (fun _ _ => frame_updFlow ..) _ _

theorem frame_lowerHolds (fis : List Nat) (s : State) : Frame [.doc] s (lowerHolds fis s) := .foldl (fun _ _ => frame_updFlow ..) _ _

theorem frame_logHandler (code scope unit : Nat) (affected : List (StreamId × Nat)) (s : State) : Frame [.cur] s (logHandler code scope unit affected s) :=
  frame_of_cur (logData_cur ..)

theorem recoverCommand_of_inService {t unit : Nat} {d : Desc} {s : State} (h : desc s t = some d) (hst : d.st = .inService) :
    recoverCommand 0x01 t unit s = failCommand t [unitWing unit] s := by
  rw [recoverCommand, h]
  simp [hst, failingWings, h]

/-- A command that fails, its failure counted, as it is then re-offered or ended. -/
def failureCounted (t : Nat) (d : Desc) (s : State) : State := updDesc t (fun d => { d with fails := d.fails + 1 }) (freeCopies t d s)

theorem frame_failureCounted (t : Nat) (d : Desc) (s : State) : Frame [.doc, .cnt, .freeCount] s (failureCounted t d s) := (frame_freeCopies ..).andThen (frame_updDesc ..)

theorem desc_failureCounted {t : Nat} {d : Desc} {s : State} (h : desc s t = some d) (k : Nat) :
    desc (failureCounted t d s) k = if k = t then some { d with fails := d.fails + 1 } else desc s k := by
  rw [failureCounted, desc_updDesc, desc_freeCopies, desc_freeCopies]
  split
  · rw [h]
    rfl
  · rfl

theorem failCommand_of_reoffer {t : Nat} {d : Desc} {s : State} (wings : List Nat) (h : desc s t = some d) (hfails : d.fails + 1 < 3) :
    failCommand t wings s = reoffer t wings (failureCounted t d s) := by
  rw [failCommand, h]
  exact if_neg (by omega)

theorem failCommand_of_third {t : Nat} {d : Desc} {s : State} (wings : List Nat) (h : desc s t = some d) (hfails : 3 ≤ d.fails + 1) :
    failCommand t wings s = endCommand t Status.engineFault (failureCounted t d s) := by
  rw [failCommand, h]
  exact if_pos hfails

/-! The end of a command by the Docent. -/

theorem frame_setIdle (sid : StreamId) (d : Desc) (at_ : Option Nat) (s : State) : Frame [.doc, .vit] s (setIdle sid d at_ s) := by
  unfold setIdle
  split
  · exact .trans (frame_updGal ..).mono (frame_of_doc rfl).mono
  · exact .refl ..

theorem descs_setIdle (sid : StreamId) (d : Desc) (at_ : Option Nat) (s : State) : (setIdle sid d at_ s).doc.descs = s.doc.descs := by
  unfold setIdle
  split <;> rfl

theorem desc_setIdle (sid : StreamId) (d : Desc) (at_ : Option Nat) (k : Nat) (s : State) : desc (setIdle sid d at_ s) k = desc s k := by
  unfold desc
  rw [descs_setIdle]

theorem frame_applyOps (cs : List Change) (s : State) : Frame [.vit] s (applyOps cs s) := by
  refine .foldl (fun s c => ?_) _ _
  split
  · exact frame_updGal ..
  · exact frame_updGal ..
  · exact .refl ..

theorem frame_sendPartner (cls : Nat) (body : FrameBody) (s : State) : Frame [.pair] s (sendPartner cls body s) := frame_of_pair (sendPartner_pair ..)

theorem frame_sendVerdict (sid : StreamId) (q : Nat) (v : Verdict) (s : State) : Frame [.pair] s (sendVerdict sid q v s) :=
  .ite (fun _ => frame_sendPartner ..) (fun _ => .refl ..)

/-- The Docent's own answer to a command that is kept: it is done with this status; no other command changes. -/
theorem docentAnswer_effect {t st : Nat} {d : Desc} {s : State} (h : desc s t = some d) (hkept : d.discard = false) :
    Frame [.doc, .vit] s (docentAnswer t st s) ∧ (desc (docentAnswer t st s) t).map (fun x => (x.st, x.resp)) = some (.done, some (statusOnly st)) ∧
      ∀ k, k ≠ t → desc (docentAnswer t st s) k = desc s k := by
  have hidle : ∃ a, Frame [.doc, .vit] s a ∧ (∀ k, desc a k = desc s k) ∧
      docentAnswer t st s = leaveService t (updDesc t (fun d => { d with st := .done, resp := some (statusOnly st), doneAt := some a.now, copies := [] }) a) := by
    unfold docentAnswer
    rw [h]
    dsimp only
    split
    · exact ⟨_, frame_setIdle .., fun k => desc_setIdle .., rfl⟩
    · exact ⟨s, .refl .., fun k => rfl, rfl⟩
  obtain ⟨a, hframe, hdesc, heq⟩ := hidle
  have ha := hdesc t
  rw [h] at ha
  rw [heq, leaveService_of_kept (d := { d with st := .done, resp := some (statusOnly st), doneAt := some a.now, copies := [] }) (by rw [desc_updDesc_same, ha]; rfl) hkept]
  refine ⟨hframe.andThen (frame_updDesc ..), ?_, fun k hk => ?_⟩
  · rw [desc_updDesc_same, ha]
    rfl
  · rw [desc_updDesc_ne hk, hdesc]

/-- A command as its end by the Docent leaves it, before its answer. -/
def endedWith (st : Nat) (cs : List Change) (d : Desc) : Desc := { d with changes := cs, copies := [], resp := some (statusOnly st), resp2 := none }

/-- The end by the Docent of a command that originates nothing. -/
theorem endCommand_of_flow {t st : Nat} {d : Desc} {fl : Flow} {s : State} (h : desc s t = some d) (hflow : mget s.doc.flows d.flow = some fl) (horig : d.originating = false) :
    endCommand t st s =
      let a := dropHolds t (freeCopies t d s)
      let cs := endedOps fl.sid.gallery d.changes ++ endsOp a d
      docentAnswer t st (sendVerdict fl.sid d.seq (.answer st) (applyOps cs (updDesc t (fun _ => endedWith st cs d) a))) := by
  rw [endCommand, h]
  dsimp only
  rw [hflow]
  exact if_neg (by simp [horig])

/-- A command that originates nothing, ended with a status: it is done with it, and no other command and nothing of the endpoint changes. -/
theorem endCommand_of_quiet {t st : Nat} {d : Desc} {s : State} (h : desc s t = some d) (horig : d.originating = false) (hkept : d.discard = false) :
    Frame [.doc, .vit, .pair, .cnt, .freeCount] s (endCommand t st s) ∧ (desc (endCommand t st s) t).map (fun x => (x.st, x.resp)) = some (.done, some (statusOnly st)) ∧
      ∀ k, k ≠ t → desc (endCommand t st s) k = desc s k := by
  cases hflow : mget s.doc.flows d.flow with
  | none =>
    obtain ⟨hframe, hst, hother⟩ := docentAnswer_effect (st := st) h hkept
    have hend : endCommand t st s = docentAnswer t st s := by
      rw [endCommand, h]
      dsimp only
      rw [hflow]
    rw [hend]
    exact ⟨hframe.mono, hst, hother⟩
  | some fl =>
    rw [endCommand_of_flow h hflow horig]
    dsimp only
    have hfreed : ∀ k, desc (dropHolds t (freeCopies t d s)) k = desc s k := fun k => by rw [(frame_dropHolds ..).desc, desc_freeCopies]
    have hfreedFrame : Frame [.doc, .vit, .pair, .cnt, .freeCount] s (dropHolds t (freeCopies t d s)) := (frame_freeCopies t d s).mono.andThen (frame_dropHolds ..)
    generalize dropHolds t (freeCopies t d s) = a at hfreed hfreedFrame ⊢
    generalize endedOps fl.sid.gallery d.changes ++ endsOp a d = cs
    have ha : desc a t = some d := by rw [hfreed, h]
    have hkeep : Frame [.vit, .pair] (updDesc t (fun _ => endedWith st cs d) a) (sendVerdict fl.sid d.seq (.answer st) (applyOps cs (updDesc t (fun _ => endedWith st cs d) a))) :=
      (frame_applyOps ..).mono.andThen (frame_sendVerdict ..)
    have he : desc (sendVerdict fl.sid d.seq (.answer st) (applyOps cs (updDesc t (fun _ => endedWith st cs d) a))) t = some (endedWith st cs d) := by
      rw [hkeep.desc, desc_updDesc_same, ha]
      rfl
    obtain ⟨hframe, hst, hother⟩ := docentAnswer_effect (st := st) he hkept
    refine ⟨((hfreedFrame.andThen (frame_updDesc t _ a)).andThen hkeep).andThen hframe, hst, fun k hk => ?_⟩
    rw [hother k hk, hkeep.desc, desc_updDesc_ne hk, hfreed]

/-! Retry. -/

section
variable {cell : Fin 128} {ticket : Fin 65536} {d : Desc} {s : State} (hheld : (cellRegs s cell).held = some ticket.val) (hd : desc s ticket = some d)
  (hmode : s.pow.mode = .service) (hactive : s.err.active < 2) (hunits : s.err.byUnit = []) (hwing : (wing s (cell.val / 8)).quarantined = false) (hst : d.st = .inService)
include hheld hd hmode hactive hunits hwing hst

/-- A cell's retry reaches the command through the COMMAND handler. -/
theorem docDoneRetry_effect : ∃ a held, exec (.docDoneRetry cell ticket) s = .next (offerWork (lowerHolds held (failCommand ticket [cell.val / 8] a))) ∧
    (∀ k, desc a k = desc s k) ∧ Frame [.doc, .err, .cnt, .cur] s a := by
  have hunit : unitWing cell.val = cell.val / 8 := if_pos cell.isLt
  let r := recordCommandError 0x01 ticket cell s
  have hrframe : Frame [.err, .cnt] s r := by
    show Frame _ s (recordCommandError 0x01 ticket cell s)
    rw [recordCommandError_only]
    exact ⟨fun p hp => by cases p <;> simp [agree] at hp ⊢⟩
  let l := logHandler 0x01 1 cell (commandAt r ticket) r
  have hlframe : Frame [.err, .cnt, .cur] s l := hrframe.mono.andThen (frame_logHandler ..)
  let a := raiseHolds (flowsOf r [ticket.val]) l
  have hdesc : ∀ k, desc a k = desc s k := fun k => by rw [desc_raiseHolds, hlframe.desc]
  refine ⟨a, flowsOf r [ticket.val], ?_, hdesc, hlframe.mono.andThen (frame_raiseHolds ..)⟩
  show execDocDoneRetry cell ticket s = _
  rw [execDocDoneRetry, if_neg (by simp [hheld]), commandError_of_first ticket hmode (by decide) (by omega) (by rw [hunit, hwing]) hunits hactive, handleCommand]
  have hrec : recoverCommand 0x01 ticket cell a = failCommand ticket [cell.val / 8] a := by
    rw [recoverCommand_of_inService (by rw [hdesc, hd]) hst, hunit]
  rw [← hrec]

/-- The first failures re-offer the command. -/
theorem docDoneRetry_reoffers (hfails : d.fails + 1 < 3) :
    ∃ u, exec (.docDoneRetry cell ticket) s = .next (offerWork u) ∧
      (desc u ticket).map (fun x => (x.st, x.retry, x.fails, x.copies)) = some (.queued, min 7 (d.retry + 1), d.fails + 1, []) ∧
      (∀ k, k ≠ ticket.val → desc u k = desc s k) ∧ u.fab = s.fab := by
  obtain ⟨a, held, hexec, hdesc, hframe⟩ := docDoneRetry_effect hheld hd hmode hactive hunits hwing hst
  have ha : desc a ticket = some d := by rw [hdesc, hd]
  refine ⟨_, hexec, ?_, fun k hk => ?_, ?_⟩
  all_goals rw [failCommand_of_reoffer _ ha hfails]
  · rw [desc_lowerHolds, reoffer, desc_updDesc_same, desc_failureCounted ha, if_pos rfl]
    rfl
  · rw [desc_lowerHolds, reoffer, desc_updDesc_ne hk, desc_failureCounted ha, if_neg hk, hdesc]
  · rw [(frame_lowerHolds ..).fab]
    exact (hframe.mono.andThen (frame_failureCounted ticket d a) : Frame [.doc, .err, .cnt, .cur, .freeCount] s _).fab

/-- The third failure of a command that originates nothing is answered ENGINE_FAULT. -/
theorem docDoneRetry_ends (horig : d.originating = false) (hkept : d.discard = false) (hfails : 3 ≤ d.fails + 1) :
    ∃ u, exec (.docDoneRetry cell ticket) s = .next (offerWork u) ∧
      (desc u ticket).map (fun x => (x.st, x.resp)) = some (.done, some (statusOnly Status.engineFault)) ∧ (∀ k, k ≠ ticket.val → desc u k = desc s k) ∧ u.fab = s.fab := by
  obtain ⟨a, held, hexec, hdesc, hframe⟩ := docDoneRetry_effect hheld hd hmode hactive hunits hwing hst
  have ha : desc a ticket = some d := by rw [hdesc, hd]
  have hcounted : desc (failureCounted ticket d a) ticket = some { d with fails := d.fails + 1 } := by rw [desc_failureCounted ha, if_pos rfl]
  obtain ⟨hend, hanswer, hother⟩ := endCommand_of_quiet (st := Status.engineFault) hcounted horig hkept
  refine ⟨_, hexec, ?_, fun k hk => ?_, ?_⟩
  all_goals rw [failCommand_of_third _ ha hfails]
  · rw [desc_lowerHolds, hanswer]
  · rw [desc_lowerHolds, hother k hk, desc_failureCounted ha, if_neg hk, hdesc]
  · rw [(frame_lowerHolds ..).fab, hend.fab, (frame_failureCounted ..).fab, hframe.fab]

end

/-! The write for a command that is not held, and the signal. -/

theorem docDone_of_unheld (cell : Fin 128) (ticket : Fin 65536) (wait : Fin 8) (object : Fin 65536) (s : State) (h : (cellRegs s cell).held ≠ some ticket.val) :
    ∃ t, exec (.docDoneComplete cell ticket) s = .next t ∧ exec (.docDonePark cell ticket wait object) s = .next t ∧ exec (.docDoneRetry cell ticket) s = .next t ∧
      t = { s with cur := t.cur } := by
  refine ⟨ignoredDone cell ticket s, ?_, ?_, ?_, logRecord_cur ..⟩
  · show execDocDoneComplete cell ticket s = _
    rw [execDocDoneComplete, if_pos h]
  · show execDocDonePark cell ticket wait object s = _
    rw [execDocDonePark, if_pos (by simp [h])]
  · show execDocDoneRetry cell ticket s = _
    rw [execDocDoneRetry, if_pos h]

/-- A command as the signal of an object leaves it. -/
def signalledBy (wait object : Nat) (d : Desc) : Desc :=
  match d.st with
  | .parked w o => if w = wait && o == object then { d with signalled := true } else d
  | _ => d

theorem signalPark_descs (wait object : Nat) (s : State) : (signalPark wait object s).doc.descs = s.doc.descs.map (fun p => (p.1, signalledBy wait object p.2)) := by
  unfold signalPark signalParks signalledBy
  refine List.map_congr_left (fun p _ => ?_)
  obtain ⟨k, d⟩ := p
  dsimp only
  cases d.st with
  | parked w o =>
    dsimp only
    split <;> rfl
  | queued => rfl
  | inService => rfl
  | done => rfl
  | released => rfl

theorem mget_map {α β : Type} (m : Map α) (f : α → β) (k : Nat) : mget (m.map (fun p => (p.1, f p.2))) k = (mget m k).map f := by
  induction m with
  | nil => rfl
  | cons p m ih =>
    obtain ⟨a, v⟩ := p
    simp only [List.map_cons, mget]
    split
    · rfl
    · exact ih

theorem desc_signalPark (wait object k : Nat) (s : State) : desc (signalPark wait object s) k = (desc s k).map (signalledBy wait object) := by
  rw [desc, signalPark_descs, mget_map]
  rfl

theorem parkSignal_effect (wait : Fin 8) (object : Fin 65536) (s : State) : ∃ u, exec (.parkSignal wait object) s = .next (offerWork u) ∧ u = { s with doc := { s.doc with descs := u.doc.descs } } ∧
    (∀ t d, desc s t = some d → d.st = .parked wait.val object.val → desc u t = some { d with signalled := true }) ∧
    (∀ t d, desc s t = some d → d.st ≠ .parked wait.val object.val → desc u t = some d) := by
  refine ⟨signalPark wait object s, rfl, rfl, fun t d hd hst => ?_, fun t d hd hst => ?_⟩
  · rw [desc_signalPark, hd]
    simp [signalledBy, hst]
  · rw [desc_signalPark, hd]
    unfold signalledBy
    rw [Option.map_some]
    split
    · next w o hparked =>
      rw [if_neg]
      intro h
      simp only [Bool.and_eq_true, decide_eq_true_eq, beq_iff_eq] at h
      exact hst (by rw [hparked, h.1, h.2])
    · rfl

/-- Settles O20. -/
theorem doneParkAndRetry : Obligations.DoneParkAndRetry := by
  unfold Obligations.DoneParkAndRetry
  refine ⟨fun cell ticket d fl s hheld hd hresp hprimary hagree hserved horig hkept hall hflow => docDoneComplete_effect cell ticket d fl s hheld hd hresp hprimary hagree hserved horig hkept hall hflow,
    fun cell ticket wait object d s hheld hd hwait => docDonePark_effect cell ticket wait object d s hheld hd hwait, ?_, ?_, docDone_of_unheld, parkSignal_effect⟩
  · intro cell ticket d s hheld hd hmode hactive hunits hwing hst hfails
    exact docDoneRetry_reoffers hheld hd hmode hactive hunits hwing hst hfails
  · intro cell ticket d s hheld hd hmode hactive hunits hwing hst horig hkept hfails
    exact docDoneRetry_ends hheld hd hmode hactive hunits hwing hst horig hkept hfails

end Sys2Proof.Machine

/-!
PROOFS, 10 the Docent and 03 responses: release and publication (10 R252, R263, 03 R69, R70, R74). A release point that moves on releases command after command of one flow; a command once released stays so, and what waits for publication only grows.
-/

namespace Sys2Proof.Machine

set_option Elab.async false

/-! Release of one command. -/

theorem exists_mget_of_mem {α : Type} {m : Map α} {k : Nat} {v : α} (h : (k, v) ∈ m) : ∃ w, mget m k = some w := by
  induction m with
  | nil => exact absurd h (List.not_mem_nil)
  | cons p m ih =>
    obtain ⟨a, w⟩ := p
    by_cases ha : a = k
    · exact ⟨w, by rw [mget, if_pos ha]⟩
    · rw [mget, if_neg ha]
      rcases List.mem_cons.mp h with hp | hp
      · exact absurd (Prod.mk.inj hp).1.symm ha
      · exact ih hp

/-- The command that is due is one of the Docent's. -/
theorem mem_of_dueAt {s : State} {fi : Nat} {fl : Flow} {p : Nat × Desc} (h : dueAt s fi fl = some p) : p ∈ s.doc.descs := by
  have hfold : ∀ (l : List (Nat × Desc)) (b : Option (Nat × Desc)), l.foldl (fun best p => match best with
      | none => some p
      | some b => if isEarlier p.2 b.2 then some p else some b) b = some p → p ∈ l ∨ b = some p := by
    intro l
    induction l with
    | nil => exact fun b hb => .inr hb
    | cons a l ih =>
      intro b hb
      rw [List.foldl_cons] at hb
      rcases ih _ hb with hin | hbest
      · exact .inl (List.mem_cons_of_mem _ hin)
      · cases b with
        | none => exact .inl (by rw [Option.some.inj hbest]; exact List.mem_cons_self)
        | some c =>
          dsimp only at hbest
          split at hbest
          · exact .inl (by rw [Option.some.inj hbest]; exact List.mem_cons_self)
          · exact .inr hbest
  rcases hfold _ _ h with hin | hnone
  · exact (List.mem_filter.mp hin).1
  · exact absurd hnone (by simp)

/-- The release of a command of a local stream, as the changes it makes: what is metered and noted for the partner, the descriptor, the stream, and the answers sent on. -/
theorem releaseOne_of_localStream {fi : Nat} {fl : Flow} {t fn i : Nat} {d : Desc} {r : Resp} {s : State} (hlocal : localStream fl = some (fn, i)) :
    ∃ (b : State) (e : Desc) (f : Stream → Stream), Frame [.vit, .pair] s b ∧ e.st = .released ∧
      (∀ st, (f st).waiting = st.waiting ++ [{ ticket := t, seq := d.seq, releasedAt := b.now }]) ∧
      releaseOne fi fl t d r s = returnFar fl e r (updStrm fn i f (updDesc t (fun _ => e) b)) := by
  have hmeter : Frame [.vit] s (if fl.proxy then s else meterRelease fl.sid d r s) := .ite (fun _ => .refl ..) (fun _ => frame_meterRelease ..)
  unfold releaseOne
  dsimp only
  rw [hlocal]
  generalize (if fl.proxy then s else meterRelease fl.sid d r s) = a at hmeter ⊢
  exact ⟨_, _, _, hmeter.mono.trans (.ite (fun _ => (frame_of_pair rfl).mono) (fun _ => .refl ..)), rfl, fun _ => rfl, rfl⟩

/-- The release of a command of a local stream: its descriptor is released, and it waits for its publication behind those released before. -/
theorem releaseOne_of_local {fi : Nat} {fl : Flow} {t fn i : Nat} {d : Desc} {r : Resp} {s : State} (hlocal : localStream fl = some (fn, i)) :
    (∀ k, (desc (releaseOne fi fl t d r s) k).map (·.st) = if k = t then (desc s t).map (fun _ => .released) else (desc s k).map (·.st)) ∧
      (releaseOne fi fl t d r s).doc.flows = s.doc.flows ∧
      (strm (releaseOne fi fl t d r s) fn i).waiting = (strm s fn i).waiting ++ [{ ticket := t, seq := d.seq, releasedAt := s.now }] := by
  obtain ⟨b, e, f, hframe, hst, hwaiting, heq⟩ := releaseOne_of_localStream (fi := fi) (t := t) (d := d) (r := r) (s := s) hlocal
  have hfar := frame_returnFar fl e r (updStrm fn i f (updDesc t (fun _ => e) b))
  rw [heq]
  refine ⟨fun k => ?_, ?_, ?_⟩
  · rw [hfar.desc, show desc (updStrm fn i f (updDesc t (fun _ => e) b)) k = desc (updDesc t (fun _ => e) b) k from rfl, desc_updDesc, hframe.desc, hframe.desc]
    split
    · rw [Option.map_map]
      exact Option.map_congr (fun _ _ => hst)
    · rfl
  · rw [hfar.doc]
    exact congrArg (·.flows) hframe.doc
  · rw [hfar.strm, strm_updStrm_same, hwaiting, hframe.now]
    exact congrArg (· ++ _) (congrArg (·.waiting) (hframe.strm fn i))

/-! What the release test leaves. -/

/-- What a release test of a local stream's flow leaves: released commands, the flow's stream, and what waits to be published. -/
structure ReleaseKeeps (fi fn i t : Nat) (s u : State) : Prop where
  flow : (∀ fl, mget s.doc.flows fi = some fl → localStream fl = some (fn, i)) → ∀ fl, mget u.doc.flows fi = some fl → localStream fl = some (fn, i)
  released : (desc s t).map (·.st) = some .released → (desc u t).map (·.st) = some .released
  waiting : (strm s fn i).waiting <+: (strm u fn i).waiting

namespace ReleaseKeeps

variable {fi fn i t : Nat} {s u v : State}

theorem refl (fi fn i t : Nat) (s : State) : ReleaseKeeps fi fn i t s s := ⟨fun h => h, fun h => h, List.prefix_rfl⟩

theorem trans (h : ReleaseKeeps fi fn i t s u) (g : ReleaseKeeps fi fn i t u v) : ReleaseKeeps fi fn i t s v :=
  ⟨fun hf => g.flow (h.flow hf), fun hr => g.released (h.released hr), h.waiting.trans g.waiting⟩

theorem of_frame {ps : List Part} (h : Frame ps s u) (hdoc : .doc ∉ ps := by simp) (hfab : .fab ∉ ps := by simp) : ReleaseKeeps fi fn i t s u :=
  ⟨fun hf => by rwa [h.doc hdoc], fun hr => by rwa [h.desc t hdoc], by rw [h.strm fn i hfab]⟩

/-- A change of flows that leaves each its identity. -/
theorem updFlow (k : Nat) (f : Flow → Flow) (s : State) (hf : ∀ x, localStream (f x) = localStream x := by intro; rfl) : ReleaseKeeps fi fn i t s (Machine.updFlow k f s) := by
  refine ⟨fun h fl hfl => ?_, fun h => h, List.prefix_rfl⟩
  rw [show (Machine.updFlow k f s).doc.flows = malter s.doc.flows k f from rfl, mget_malter] at hfl
  split at hfl
  · next hk =>
    obtain ⟨x, hx, rfl⟩ := Option.map_eq_some_iff.mp hfl
    rw [hf]
    exact h x (by rw [hk]; exact hx)
  · exact h fl hfl

theorem eventOnly {s u : State} (h : EventOnly s u) (hdoc : u.doc = s.doc) : ReleaseKeeps fi fn i t s u :=
  ⟨fun hf => by rwa [hdoc], fun hr => by rw [desc, hdoc]; exact hr, by unfold strm; rw [h.windows]⟩

end ReleaseKeeps

theorem releaseKeeps_testCut (fi fn i t k : Nat) (s : State) : ReleaseKeeps fi fn i t s (testCut k s) := by
  unfold testCut
  split
  · exact .refl ..
  · split
    · exact .refl ..
    · split
      · exact .refl ..
      · dsimp only
        have hcut := (ReleaseKeeps.updFlow (fi := fi) (fn := fn) (i := i) (t := t) k (fun f => { f with cutReached := true }) s).trans
          (.eventOnly (eventOnly_latchEvent 40 _) (frame_latchEvent 40 _).doc)
        split
        · exact hcut
        · split
          · exact hcut.trans ((ReleaseKeeps.of_frame (frame_sendTo ..)).trans (.of_frame (frame_updGal ..)))
          · exact hcut

/-- The rest of a step of the release test: the release point moves on, a cut may be reached. -/
theorem releaseKeeps_moveOn (fi fn i t : Nat) (d : Desc) (s : State) :
    ReleaseKeeps fi fn i t s (testCut fi (if d.behind.isSome then s else updFlow fi (fun f => { f with rel := d.seq + 1 }) s)) := by
  refine .trans ?_ (releaseKeeps_testCut ..)
  split
  · exact .refl ..
  · exact .updFlow ..

theorem releaseKeeps_releaseOne {fi fn i t k : Nat} {fl : Flow} {d : Desc} {r : Resp} {s : State} (hlocal : localStream fl = some (fn, i)) :
    ReleaseKeeps fi fn i t s (releaseOne fi fl k d r s) := by
  obtain ⟨hst, hflows, hwaiting⟩ := releaseOne_of_local (fi := fi) (t := k) (d := d) (r := r) (s := s) hlocal
  refine ⟨fun h => by rwa [hflows], fun h => ?_, by rw [hwaiting]; exact List.prefix_append ..⟩
  rw [hst t]
  split
  · next hk =>
    rw [← hk]
    obtain ⟨x, hx, -⟩ := Option.map_eq_some_iff.mp h
    rw [hx]
    rfl
  · exact h

theorem releaseKeeps_releaseFlow {fi fn i : Nat} (t fuel : Nat) {s : State} (hflow : ∀ fl, mget s.doc.flows fi = some fl → localStream fl = some (fn, i)) :
    ReleaseKeeps fi fn i t s (releaseFlow fi fuel s) := by
  induction fuel generalizing s with
  | zero => exact .refl ..
  | succ fuel ih =>
    unfold releaseFlow
    split
    · exact .refl ..
    · next fl hfl =>
      split
      · exact .refl ..
      · next k d _ =>
        split
        · exact .refl ..
        · next r _ =>
          split
          · exact .refl ..
          · have hone := (releaseKeeps_releaseOne (fi := fi) (t := t) (k := k) (d := d) (r := r) (s := s) (hflow fl hfl)).trans (releaseKeeps_moveOn fi fn i t d _)
            exact hone.trans (ih (hone.flow hflow))

/-- The minute closed behind a release test changes no command and no window. -/
theorem releaseKeeps_releaseAll {fi fn i : Nat} (t : Nat) {s u : State} {fuel : Nat} (hu : u = releaseFlow fi fuel s) (hfuel : fuel = s.doc.descs.length + 1) :
    ReleaseKeeps fi fn i t u (releaseAll fi s) := by
  have hclose : ∀ id, ReleaseKeeps fi fn i t u (closeMinute id u) := fun id => .eventOnly (eventOnly_closeMinutes ..) (frame_closeMinute id u).doc
  unfold releaseAll
  rw [← hfuel, ← hu]
  dsimp only
  split
  · exact hclose _
  · exact .refl ..

theorem responseRelease_effect (flow : Fin 65536) (fl : Flow) (t fn i : Nat) (d : Desc) (r : Resp) (s : State) (hflow : mget s.doc.flows flow = some fl)
    (hdue : dueAt s flow fl = some (t, d)) (hresp : d.resp = some r) (hrel : releasable s fl d = true) (hlocal : localStream fl = some (fn, i)) :
    ∃ u, exec (.responseRelease flow) s = .next (offerWork u) ∧ (desc u t).map (·.st) = some .released ∧
      { ticket := t, seq := d.seq, releasedAt := s.now } ∈ (strm u fn i).waiting ∧ (strm s fn i).waiting <+: (strm u fn i).waiting := by
  obtain ⟨hst, hflows, hwaiting⟩ := releaseOne_of_local (fi := flow) (t := t) (d := d) (r := r) (s := s) hlocal
  let a := releaseOne flow fl t d r s
  let b := testCut flow (if d.behind.isSome then a else updFlow flow (fun f => { f with rel := d.seq + 1 }) a)
  have hstep : releaseFlow flow (s.doc.descs.length + 1) s = releaseFlow flow s.doc.descs.length b := by
    rw [releaseFlow, hflow]
    dsimp only
    rw [hdue]
    dsimp only
    rw [hresp]
    dsimp only
    rw [hrel]
    rfl
  have hlocals : ∀ f, mget a.doc.flows flow = some f → localStream f = some (fn, i) := fun f hf => by
    rw [show a.doc.flows = s.doc.flows from hflows, hflow] at hf
    rw [← Option.some.inj hf, hlocal]
  have hab : ReleaseKeeps flow fn i t a b := releaseKeeps_moveOn ..
  have hrest : ReleaseKeeps flow fn i t a (releaseAll flow s) :=
    (hab.trans (releaseKeeps_releaseFlow t s.doc.descs.length (hab.flow hlocals))).trans (releaseKeeps_releaseAll t hstep.symm rfl)
  have hreleased : (desc a t).map (·.st) = some .released := by
    obtain ⟨w, hw⟩ := exists_mget_of_mem (mem_of_dueAt hdue)
    rw [hst t, if_pos rfl, desc, hw]
    rfl
  have hprefix := hrest.waiting
  rw [show (strm a fn i).waiting = _ from hwaiting] at hprefix
  exact ⟨releaseAll flow s, rfl, hrest.released hreleased, hprefix.subset (List.mem_append_right _ List.mem_cons_self), (List.prefix_append ..).trans hprefix⟩

/-! Publication. -/

/-- What follows a publication in its window: no stream and no command changes, no other window, and a cause that stands goes on standing. -/
structure CauseKeeps (fn j : Nat) (s t : State) : Prop where
  doc : t.doc = s.doc
  streams : ∀ k i, strm t k i = strm s k i
  others : ∀ n, n ≠ fn → win t n = win s n
  cause : flag (win s fn).cause j = true → flag (win t fn).cause j = true

namespace CauseKeeps

variable {fn j : Nat} {s t u : State}

theorem refl (fn j : Nat) (s : State) : CauseKeeps fn j s s := ⟨rfl, fun _ _ => rfl, fun _ _ => rfl, fun h => h⟩

theorem trans (h : CauseKeeps fn j s t) (g : CauseKeeps fn j t u) : CauseKeeps fn j s u :=
  ⟨g.doc.trans h.doc, fun k i => (g.streams k i).trans (h.streams k i), fun n hn => (g.others n hn).trans (h.others n hn), fun hc => g.cause (h.cause hc)⟩

theorem of_frame {ps : List Part} (h : Frame ps s t) (hdoc : .doc ∉ ps := by simp) (hfab : .fab ∉ ps := by simp) : CauseKeeps fn j s t :=
  ⟨h.doc hdoc, fun k i => h.strm k i hfab, fun n _ => h.win n hfab, fun hc => by rwa [h.win fn hfab]⟩

theorem of_signal (h : SignalOnly fn s t) : CauseKeeps fn j s t :=
  ⟨(frame_of_fab h.only).doc, h.strm_eq, h.others, fun hc => by rwa [h.cause]⟩

end CauseKeeps

theorem causeKeeps_latchStreamErr {fn j : Nat} (i : Nat) (hj : j < 64) (s : State) : CauseKeeps fn j s (latchStreamErr fn i s) := by
  refine ⟨(frame_latchCause fn (32 + i) s).doc, fun k m => strm_latchStreamErr .., fun n hn => ?_, fun hc => ?_⟩
  · rw [latchStreamErr, win_latchCause, if_neg hn]
  · rw [latchStreamErr, win_latchCause, if_pos rfl, flag_or_pow _ _ _ hj, hc]
    rfl

theorem causeKeeps_traceCommand (fn j : Nat) (d : Desc) (sid : StreamId) (status : Nat) (s : State) : CauseKeeps fn j s (traceCommand fn d sid status s) := by
  have htrace : CauseKeeps fn j s (if d.traceFlag || d.traceRandom then putTrace (traceRecord s d sid status) s else s) :=
    .of_frame (.ite (fun _ => frame_putTrace ..) (fun _ => .refl ..))
  unfold traceCommand
  dsimp only
  generalize (if d.traceFlag || d.traceRandom then putTrace (traceRecord s d sid status) s else s) = a at htrace ⊢
  split
  · refine htrace.trans ⟨rfl, fun k i => ?_, fun n hn => ?_, fun hc => ?_⟩
    · unfold strm
      rw [win_updWin]
      split
      · next hk => rw [hk]
      · rfl
    · rw [win_updWin, if_neg hn]
    · rwa [win_updWin, if_pos rfl]
  · exact htrace

/-- A response ready latches its stream's RESP_READY. -/
theorem latchReady_effect (fn : Nat) {i : Nat} (hi : i < 16) (s : State) :
    (latchReady fn i s).doc = s.doc ∧ (∀ k j, strm (latchReady fn i s) k j = strm s k j) ∧ (∀ n, n ≠ fn → win (latchReady fn i s) n = win s n) ∧
      flag (win (latchReady fn i s) fn).cause i = true := by
  have hset : flag (win (updWin fn (fun w => { w with cause := w.cause ||| BitVec.ofNat 64 (2 ^ i) }) s) fn).cause i = true := by
    rw [win_updWin, if_pos rfl]
    dsimp only
    rw [flag_or_pow _ _ _ (by omega)]
    simp
  have hsignal : CauseKeeps fn i (updWin fn (fun w => { w with cause := w.cause ||| BitVec.ofNat 64 (2 ^ i) }) s) (latchReady fn i s) := by
    unfold latchReady
    dsimp only
    split
    · exact .of_signal (signalOnly_countPublication ..)
    · exact .refl ..
  refine ⟨hsignal.doc, fun k j => ?_, fun n hn => ?_, hsignal.cause hset⟩
  · rw [hsignal.streams]
    unfold strm
    rw [win_updWin]
    split
    · next hk => rw [hk]
    · rfl
  · rw [hsignal.others n hn, win_updWin, if_neg hn]

/-- The stream with its oldest response published into a slot. -/
def publishedInto (k : Nat) (rest : List Released) (ticket : Nat) (d : Desc) (f : Bytes) (st : Stream) : Stream :=
  { st with
    waiting := rest
    resp := mset st.resp k { seq := d.seq, ticket := ticket, frame := f }
    slots := mset st.slots k (slice f 0 512)
    respStall := rest ≠ [] && decide (st.resp.length ≥ 7) }

theorem responsePublish_effect (fn : Fin 1025) (stream : Fin 16) (r : Released) (rest : List Released) (k : Nat) (d : Desc) (rsp : Resp) (fl : Flow) (s : State)
    (hwaiting : (strm s fn stream).waiting = r :: rest) (hfree : lowestFree (strm s fn stream).resp 8 = some k) (hd : desc s r.ticket = some d) (hresp : d.resp = some rsp)
    (hflow : mget s.doc.flows d.flow = some fl) :
    ∃ t, exec (.responsePublish fn stream) s = .next t ∧ (strm t fn stream).waiting = rest ∧ (mget (strm t fn stream).resp k).map (fun p => (p.seq, p.ticket)) = some (d.seq, r.ticket) ∧
      (strm t fn stream).slots = mset (strm s fn stream).slots k (slice (sealResponse (strm s fn stream) d (responseFrame s stream d rsp)) 0 512) ∧
      flag (win t fn).cause stream.val = true ∧ t.doc = s.doc ∧ (∀ n, n ≠ fn.val → win t n = win s n) := by
  let a := updStrm fn stream (publishedInto k rest r.ticket d (sealResponse (strm s fn stream) d (responseFrame s stream d rsp))) s
  let b := latchReady fn stream a
  let c := if isStreamError rsp.status then latchStreamErr fn stream b else b
  obtain ⟨hdoc, hstreams, hothers, hcause⟩ := latchReady_effect fn stream.isLt a
  have hc : CauseKeeps fn stream b c := by
    show CauseKeeps fn stream b (if isStreamError rsp.status then latchStreamErr fn stream b else b)
    split
    · exact causeKeeps_latchStreamErr _ (by omega) _
    · exact .refl ..
  have hrest := (hc.trans (.of_frame (frame_countLatency fl.sid.gallery (c.now - d.commitAt) c))).trans (causeKeeps_traceCommand fn stream d fl.sid rsp.status _)
  have hstrm : strm (traceCommand fn d fl.sid rsp.status (countLatency fl.sid.gallery (c.now - d.commitAt) c)) fn stream =
      publishedInto k rest r.ticket d (sealResponse (strm s fn stream) d (responseFrame s stream d rsp)) (strm s fn stream) := by
    rw [hrest.streams, hstreams]
    exact strm_updStrm_same ..
  refine ⟨traceCommand fn d fl.sid rsp.status (countLatency fl.sid.gallery (c.now - d.commitAt) c), ?_, ?_, ?_, ?_, hrest.cause hcause, hrest.doc.trans hdoc, fun n hn => ?_⟩
  · show Host.Outcome.next (publishNext fn stream s) = _
    simp only [publishNext, hwaiting, hfree, hd, hresp, hflow]
    rfl
  · rw [hstrm]
    rfl
  · rw [hstrm]
    exact congrArg (Option.map _) (mget_mset_same ..)
  · rw [hstrm]
    rfl
  · rw [hrest.others n hn, hothers n hn]
    exact win_updStrm_ne _ _ hn

/-- Settles O21. -/
theorem releaseAndPublication : Obligations.ReleaseAndPublication := by
  unfold Obligations.ReleaseAndPublication
  refine ⟨fun flow fl t fn i d r s hflow hdue hresp hrel _ hlocal _ => responseRelease_effect flow fl t fn i d r s hflow hdue hresp hrel hlocal, responsePublish_effect,
    fun fn stream s hwaiting hfull => ?_⟩
  obtain ⟨r, rest, hcons⟩ := List.exists_cons_of_ne_nil hwaiting
  refine ⟨updStrm fn stream (fun st => { st with respStall := true }) s, ?_, rfl, strm_updStrm_same ..⟩
  show Host.Outcome.next (publishNext fn stream s) = _
  simp only [publishNext, hcons, hfull]

end Sys2Proof.Machine

/-!
SUPPORT. The Docent's clock: the tick's registers and the model's time are changed by the boundary alone; what a placement, an end of a command or a timer does leaves them, and takes no flow away but those that a window gives up.
-/

namespace Sys2Proof.Machine

set_option Elab.async false

/-! Frames of placements. -/

theorem frame_latchReadyCause (fn : Nat) (b : Nat) (f : Window → Window) (s : State) : Frame [.fab] s (latchCause fn b (updWin fn f s)) := (frame_updWin ..).trans (frame_latchCause ..)

theorem frame_countRefusal (fl : Flow) (b : Nat) (s : State) : Frame [.fab] s (countRefusal fl b s) := .ite (fun _ => .refl ..) (fun _ => frame_latchReadyCause ..)

theorem frame_tellHome (fl : Flow) (d : Desc) (s : State) : Frame [.pair] s (tellHome fl d s) := by
  unfold tellHome
  split
  · exact frame_sendTo ..
  · exact .refl ..

theorem frame_countAdmit (g : Nat) (s : State) : Frame [.vit] s (countAdmit g s) := (frame_updGal ..).trans (frame_of_vit rfl)

/-! The clock. -/

/-- The registers of the tick. -/
def tickRegisters (d : Docent) : Nat × Nat × Option Nat × Nat × List QuotaChange := (d.ticks, d.tickUs, d.tickPending, d.nextTick, d.quotaChanges)

/-- The clock stands still, and every flow that was there still is. -/
structure ClockKeeps (s t : State) : Prop where
  now : t.now = s.now
  tick : tickRegisters t.doc = tickRegisters s.doc

namespace ClockKeeps

variable {s t u : State}

theorem refl (s : State) : ClockKeeps s s := ⟨rfl, rfl⟩

theorem trans (h : ClockKeeps s t) (g : ClockKeeps t u) : ClockKeeps s u := ⟨g.now.trans h.now, g.tick.trans h.tick⟩

theorem of_frame {ps : List Part} (h : Frame ps s t) (hdoc : .doc ∉ ps := by simp) (hnow : .now ∉ ps := by simp) : ClockKeeps s t :=
  ⟨h.now hnow, by rw [h.doc hdoc]⟩

theorem ite {c : Prop} [Decidable c] (h : c → ClockKeeps s t) (g : ¬c → ClockKeeps s u) : ClockKeeps s (if c then t else u) := by
  split
  · exact h ‹_›
  · exact g ‹_›

theorem foldl {β : Type} {g : State → β → State} (h : ∀ s x, ClockKeeps s (g s x)) (l : List β) (s : State) : ClockKeeps s (l.foldl g s) := by
  induction l generalizing s with
  | nil => exact refl ..
  | cons a l ih => exact (h s a).trans (ih _)

end ClockKeeps

theorem clock_updFlow (i : Nat) (f : Flow → Flow) (s : State) : ClockKeeps s (updFlow i f s) := ⟨rfl, rfl⟩

theorem clock_updDesc (t : Nat) (f : Desc → Desc) (s : State) : ClockKeeps s (updDesc t f s) := ⟨rfl, rfl⟩

theorem clock_setIdle (sid : StreamId) (d : Desc) (at_ : Option Nat) (s : State) : ClockKeeps s (setIdle sid d at_ s) := by
  unfold setIdle
  split <;> exact ⟨rfl, rfl⟩

theorem clock_addDesc (d : Desc) (s : State) : ClockKeeps s (addDesc d s) := by
  unfold addDesc
  split <;> exact ⟨rfl, rfl⟩

theorem clock_freeCell (c : Nat) (s : State) : ClockKeeps s (freeCell c s) := (ClockKeeps.of_frame (frame_settleCell c s)).trans ⟨rfl, rfl⟩

theorem clock_freeCopies (t : Nat) (d : Desc) (s : State) : ClockKeeps s (freeCopies t d s) := .foldl (fun _ _ => .ite (fun _ => clock_freeCell ..) (fun _ => .refl ..)) _ _

theorem clock_closeFlows (fis : List Nat) (s : State) : ClockKeeps s (closeFlows fis s) := ⟨(frame_closeFlows fis s).now, by rw [closeFlows_doc]; rfl⟩

theorem clock_discardFlows (fis : List Nat) (s : State) : ClockKeeps s (discardFlows fis s) :=
  .trans (t := { s with doc := { s.doc with descs := (s.doc.descs.filter (fun p => !(fis.contains p.2.flow && !runsOn p.2))).map (fun p => if fis.contains p.2.flow then (p.1, { p.2 with discard := true }) else p) } })
    ⟨rfl, rfl⟩ ((ClockKeeps.of_frame (.foldl (fun _ _ => frame_dropHolds ..) _ _)).trans (.foldl (fun _ _ => clock_updFlow ..) _ _))

theorem clock_leaveService (t : Nat) (s : State) : ClockKeeps s (leaveService t s) := by
  unfold leaveService
  split
  · next d _ =>
    refine .ite (fun _ => ?_) (fun _ => .refl ..)
    have hfreed : ClockKeeps s (dropHolds t { s with doc := { s.doc with descs := mdel s.doc.descs t } }) :=
      .trans (t := { s with doc := { s.doc with descs := mdel s.doc.descs t } }) ⟨rfl, rfl⟩ (.of_frame (frame_dropHolds ..))
    dsimp only
    split
    · exact hfreed.trans (.ite (fun _ => clock_closeFlows ..) (fun _ => .refl ..))
    · exact hfreed
  · exact .refl ..

theorem clock_docentAnswer (t st : Nat) (s : State) : ClockKeeps s (docentAnswer t st s) := by
  have hidle : ClockKeeps s (match desc s t with
      | some d => match mget s.doc.flows d.flow with
        | some fl => setIdle fl.sid d (some (idleEnd s)) s
        | none => s
      | none => s) := by
    split
    · split
      · exact clock_setIdle ..
      · exact .refl ..
    · exact .refl ..
  exact hidle.trans ((clock_updDesc ..).trans (clock_leaveService ..))

/-! A command's result spreads. -/

theorem frame_mirrorChanges (cs : List Change) (s : State) : Frame [.pair] s (mirrorChanges cs s) := frame_of_pair (mirrorChanges_pair ..)

/-- Copies of a result change the command's own descriptor, as to what it waits for, and no other. -/
structure OnlyWaits (t : Nat) (s u : State) : Prop where
  own : (desc u t).map (fun x => (x.st, x.resp, x.discard)) = (desc s t).map (fun x => (x.st, x.resp, x.discard))
  others : ∀ k, k ≠ t → desc u k = desc s k
  clock : ClockKeeps s u

namespace OnlyWaits

variable {t : Nat} {s u v : State}

theorem refl (t : Nat) (s : State) : OnlyWaits t s s := ⟨rfl, fun _ _ => rfl, .refl s⟩

theorem trans (h : OnlyWaits t s u) (g : OnlyWaits t u v) : OnlyWaits t s v :=
  ⟨g.own.trans h.own, fun k hk => (g.others k hk).trans (h.others k hk), h.clock.trans g.clock⟩

theorem of_frame {ps : List Part} (h : Frame ps s u) (hdoc : .doc ∉ ps := by simp) (hnow : .now ∉ ps := by simp) : OnlyWaits t s u :=
  ⟨by rw [h.desc t hdoc], fun k _ => h.desc k hdoc, .of_frame h hdoc hnow⟩

theorem updDesc (t : Nat) (f : Desc → Desc) (s : State) (hf : ∀ x, ((f x).st, (f x).resp, (f x).discard) = (x.st, x.resp, x.discard) := by intro; rfl) : OnlyWaits t s (Machine.updDesc t f s) := by
  refine ⟨?_, fun k hk => desc_updDesc_ne hk .., clock_updDesc ..⟩
  rw [desc_updDesc_same, Option.map_map]
  exact Option.map_congr (fun x _ => hf x)

end OnlyWaits

theorem onlyWaits_sendDelta (t : Nat) (sid : StreamId) (d : Desc) (r : Resp) (entry : Bool) (s : State) : OnlyWaits t s (sendDelta t sid d r entry s) := by
  unfold sendDelta
  split
  · exact (OnlyWaits.of_frame (frame_mirrorChanges ..)).trans (.updDesc ..)
  · exact .refl ..

theorem onlyWaits_sendStateDelta (t : Nat) (sid : StreamId) (d : Desc) (r : Resp) (s : State) : OnlyWaits t s (sendStateDelta sid d r s) := by
  unfold sendStateDelta
  split
  · exact .refl ..
  · exact .of_frame (frame_sendTo ..)

theorem onlyWaits_sendLoanDeltas (t : Nat) (d : Desc) (s : State) : OnlyWaits t s (sendLoanDeltas t d s) := by
  unfold sendLoanDeltas
  split
  · exact .refl ..
  · split
    · exact .refl ..
    · dsimp only
      split
      · exact .refl ..
      · exact ((OnlyWaits.of_frame (frame_updGal ..)).trans (.of_frame (.foldl (fun _ _ => frame_sendTo ..) _ _))).trans (.updDesc ..)

/-- The result of an originating command is out: the command is done with it, and no other command changes. -/
theorem spread_effect {t : Nat} {fl : Flow} {d e : Desc} {r : Resp} (entry : Bool) {s : State} (h : desc s t = some e) :
    (desc (spread t fl d r entry s) t).map (fun x => (x.st, x.resp, x.discard)) = some (.done, some r, e.discard) ∧ (∀ k, k ≠ t → desc (spread t fl d r entry s) k = desc s k) ∧
      ClockKeeps s (spread t fl d r entry s) := by
  have hframe := frame_applyOps d.changes (setIdle fl.sid d (some (idleEnd s)) s)
  have hdesc : ∀ k, desc (applyOps d.changes (setIdle fl.sid d (some (idleEnd s)) s)) k = desc s k := fun k => by rw [hframe.desc, desc_setIdle]
  have hclock : ClockKeeps s (applyOps d.changes (setIdle fl.sid d (some (idleEnd s)) s)) := (clock_setIdle ..).trans (.of_frame hframe)
  unfold spread
  dsimp only
  generalize applyOps d.changes (setIdle fl.sid d (some (idleEnd s)) s) = a at hdesc hclock ⊢
  have hwaits := ((onlyWaits_sendDelta t fl.sid d r entry
    (updDesc t (fun d => { d with st := .done, resp := some r, doneAt := some a.now, unmirrored := inDualAct a d r }) a)).trans (onlyWaits_sendLoanDeltas t d _)).trans (onlyWaits_sendStateDelta t fl.sid d r _)
  refine ⟨?_, fun k hk => ?_, (hclock.trans (clock_updDesc ..)).trans hwaits.clock⟩
  · rw [hwaits.own, desc_updDesc_same, hdesc, h]
    rfl
  · rw [hwaits.others k hk, desc_updDesc_ne hk, hdesc]

/-! The end of a command. -/

theorem frame_putJournal {id : Nat} {e : JournalEntry} {s t : State} (h : putJournal id e s = some t) : Frame [.vit] s t := by
  have hroom : ∀ (fuel n : Nat) (a b : State), makeRoom id n fuel a = some b → Frame [.vit] a b := by
    intro fuel
    induction fuel with
    | zero =>
      intro n a b h
      unfold makeRoom at h
      split at h
      · rw [← Option.some.inj h]
        exact .refl ..
      · exact absurd h (by simp)
    | succ fuel ih =>
      intro n a b h
      unfold makeRoom at h
      split at h
      · rw [← Option.some.inj h]
        exact .refl ..
      · split at h
        · exact absurd h (by simp)
        · exact (frame_updGal ..).trans (ih n _ b h)
  obtain ⟨a, ha, rfl⟩ := Option.map_eq_some_iff.mp h
  exact (hroom _ _ _ _ ha).trans (frame_updGal ..)

theorem clock_waitPage (t : Nat) (fl : Flow) (s : State) : ClockKeeps s (waitPage t fl s) := ⟨rfl, rfl⟩

theorem clock_spread (t : Nat) (fl : Flow) (d : Desc) (r : Resp) (entry : Bool) (s : State) : ClockKeeps s (spread t fl d r entry s) := by
  have happlied : ClockKeeps s (applyOps d.changes (setIdle fl.sid d (some (idleEnd s)) s)) := (clock_setIdle ..).trans (.of_frame (frame_applyOps ..))
  exact (((happlied.trans (clock_updDesc ..)).trans (onlyWaits_sendDelta t ..).clock).trans (onlyWaits_sendLoanDeltas ..).clock).trans (onlyWaits_sendStateDelta t ..).clock

/-- An end by the Docent as the descriptor's change and what follows it. -/
theorem endCommand_of_desc {t st : Nat} {d : Desc} {fl : Flow} {s : State} (h : desc s t = some d) (hflow : mget s.doc.flows d.flow = some fl) :
    let a := dropHolds t (freeCopies t d s)
    let e := endedWith st (endedOps fl.sid.gallery d.changes ++ endsOp a d) d
    let b := updDesc t (fun _ => e) a
    endCommand t st s = if d.originating then
        match putJournal fl.sid.gallery (journalOf e fl.sid (statusOnly st)) b with
        | some c => leaveService t (spread t fl e (statusOnly st) true c)
        | none => if d.executed || d.stepped != [] then waitPage t fl b else leaveService t (spread t fl e (statusOnly st) false b)
      else docentAnswer t st (sendVerdict fl.sid d.seq (.answer st) (applyOps e.changes b)) := by
  rw [endCommand, h]
  dsimp only
  rw [hflow]
  rfl

theorem clock_endCommand (t st : Nat) (s : State) : ClockKeeps s (endCommand t st s) := by
  cases h : desc s t with
  | none =>
    rw [endCommand, h]
    exact .refl ..
  | some d =>
    cases hflow : mget s.doc.flows d.flow with
    | none =>
      have hend : endCommand t st s = docentAnswer t st s := by
        rw [endCommand, h]
        dsimp only
        rw [hflow]
      rw [hend]
      exact clock_docentAnswer ..
    | some fl =>
      rw [endCommand_of_desc h hflow]
      have hfreed : ClockKeeps s (dropHolds t (freeCopies t d s)) := (clock_freeCopies ..).trans (.of_frame (frame_dropHolds ..))
      generalize dropHolds t (freeCopies t d s) = a at hfreed ⊢
      refine (hfreed.trans (clock_updDesc t (fun _ => endedWith st (endedOps fl.sid.gallery d.changes ++ endsOp a d) d) a)).trans ?_
      split
      · split
        · next hput => exact ((ClockKeeps.of_frame (frame_putJournal hput)).trans (clock_spread ..)).trans (clock_leaveService ..)
        · exact .ite (fun _ => clock_waitPage ..) (fun _ => (clock_spread ..).trans (clock_leaveService ..))
      · exact ((ClockKeeps.of_frame (frame_applyOps ..)).trans (.of_frame (frame_sendVerdict ..))).trans (clock_docentAnswer ..)

/-- A command that has changed nothing yet, ended with a status: it is done with it, and no other command changes. -/
theorem endCommand_of_unbegun {t st : Nat} {d : Desc} {s : State} (h : desc s t = some d) (hkept : d.discard = false) (hexecuted : d.executed = false) (hstepped : d.stepped = []) :
    (desc (endCommand t st s) t).map (fun x => (x.st, x.resp)) = some (.done, some (statusOnly st)) ∧ ∀ k, k ≠ t → desc (endCommand t st s) k = desc s k := by
  cases horig : d.originating with
  | false =>
    obtain ⟨-, hst, hother⟩ := endCommand_of_quiet (st := st) h horig hkept
    exact ⟨hst, hother⟩
  | true =>
    cases hflow : mget s.doc.flows d.flow with
    | none =>
      have hend : endCommand t st s = docentAnswer t st s := by
        rw [endCommand, h]
        dsimp only
        rw [hflow]
      rw [hend]
      exact (docentAnswer_effect h hkept).2
    | some fl =>
      rw [endCommand_of_desc h hflow]
      rw [if_pos horig]
      have hfreed : ∀ k, desc (dropHolds t (freeCopies t d s)) k = desc s k := fun k => by rw [(frame_dropHolds ..).desc, desc_freeCopies]
      generalize dropHolds t (freeCopies t d s) = a at hfreed ⊢
      generalize hcs : endedOps fl.sid.gallery d.changes ++ endsOp a d = cs
      let b := updDesc t (fun _ => endedWith st cs d) a
      have hb : desc b t = some (endedWith st cs d) := by
        rw [desc_updDesc_same, hfreed, h]
        rfl
      have hbother : ∀ k, k ≠ t → desc b k = desc s k := fun k hk => by rw [desc_updDesc_ne hk, hfreed]
      have hspread : ∀ (c : State) (entry : Bool), Frame [.vit] b c →
          (desc (leaveService t (spread t fl (endedWith st cs d) (statusOnly st) entry c)) t).map (fun x => (x.st, x.resp)) = some (.done, some (statusOnly st)) ∧
            ∀ k, k ≠ t → desc (leaveService t (spread t fl (endedWith st cs d) (statusOnly st) entry c)) k = desc s k := by
        intro c entry hframe
        obtain ⟨hown, hothers, -⟩ := spread_effect (fl := fl) (d := endedWith st cs d) (r := statusOnly st) entry (s := c) (t := t) (by rw [hframe.desc, hb])
        obtain ⟨x, hx, hfields⟩ := Option.map_eq_some_iff.mp hown
        simp only [Prod.mk.injEq] at hfields
        obtain ⟨hst, hresp, hdiscard⟩ := hfields
        rw [leaveService_of_kept hx (hdiscard.trans hkept)]
        refine ⟨by rw [hx, Option.map_some, hst, hresp], fun k hk => ?_⟩
        rw [hothers k hk, hframe.desc, hbother k hk]
      split
      · next c hput => exact hspread c true (frame_putJournal hput)
      · rw [if_neg (by simp [hexecuted, hstepped])]
        exact hspread b false (.refl ..)

end Sys2Proof.Machine

/-!
PROOFS, part 13: the tick boundary and the timers it fires (O22).
-/

namespace Sys2Proof.Machine

set_option Elab.async false

/-! Placing a command: the clock stands and no flow goes away. -/

/-- The clock stands still and the flow, where there is one, stays. -/
structure Places (fi : Nat) (s t : State) : Prop where
  clock : ClockKeeps s t
  flow : (mget t.doc.flows fi).isSome = (mget s.doc.flows fi).isSome

namespace Places

variable {fi : Nat} {s t u : State}

theorem refl (fi : Nat) (s : State) : Places fi s s := ⟨.refl s, rfl⟩

theorem trans (h : Places fi s t) (g : Places fi t u) : Places fi s u := ⟨h.clock.trans g.clock, g.flow.trans h.flow⟩

theorem of_frame {ps : List Part} (h : Frame ps s t) (hdoc : .doc ∉ ps := by simp) (hnow : .now ∉ ps := by simp) : Places fi s t :=
  ⟨.of_frame h hdoc hnow, by rw [h.doc hdoc]⟩

theorem updFlow (k : Nat) (f : Flow → Flow) (s : State) : Places fi s (Machine.updFlow k f s) := by
  refine ⟨clock_updFlow .., ?_⟩
  show (mget (malter s.doc.flows k f) fi).isSome = _
  rw [mget_malter]
  split
  · next h => rw [Option.isSome_map, h]
  · rfl

theorem ite {c : Prop} [Decidable c] (h : c → Places fi s t) (g : ¬c → Places fi s u) : Places fi s (if c then t else u) := by
  split
  · exact h ‹_›
  · exact g ‹_›

theorem foldl {β : Type} {g : State → β → State} (h : ∀ s x, Places fi s (g s x)) (l : List β) (s : State) : Places fi s (l.foldl g s) := by
  induction l generalizing s with
  | nil => exact refl ..
  | cons a l ih => exact (h s a).trans (ih _)

end Places

theorem places_setIdle (fi : Nat) (sid : StreamId) (d : Desc) (at_ : Option Nat) (s : State) : Places fi s (setIdle sid d at_ s) := by
  refine ⟨clock_setIdle .., ?_⟩
  unfold setIdle
  split <;> rfl

theorem places_addDesc (fi : Nat) (d : Desc) (s : State) : Places fi s (addDesc d s) := by
  refine ⟨clock_addDesc .., ?_⟩
  unfold addDesc
  split <;> rfl

theorem places_noteVerdict (k fi : Nat) (fl : Flow) (q : Nat) (v : Verdict) (s : State) : Places k s (noteVerdict fi fl q v s) := by
  cases v with
  | accept _ => exact .refl ..
  | answer st => exact .ite (fun _ => .updFlow ..) (fun _ => .refl ..)
  | quota b => exact .of_frame (frame_countRefusal ..)

theorem places_noticePosition (k fi : Nat) (d : Desc) (s : State) : Places k s (noticePosition fi d s) := by
  refine .ite (fun _ => .refl ..) (fun _ => ?_)
  split
  · exact .refl ..
  · exact (Places.of_frame (frame_sendPartner ..)).trans (.ite (fun _ => (Places.updFlow ..).trans (.of_frame (frame_sendPartner ..))) (fun _ => .refl ..))

theorem places_withVerdict (k fi : Nat) (fl : Flow) (d : Desc) (s : State) : Places k s (withVerdict fi fl d s).2 := by
  unfold withVerdict
  dsimp only
  split
  · exact (Places.updFlow ..).trans (places_noteVerdict ..)
  · exact .updFlow ..

theorem places_placeDesc (k fi : Nat) (fl : Flow) (d : Desc) (s : State) : Places k s (placeDesc fi fl d s) := by
  unfold placeDesc
  generalize hv : withVerdict fi fl d s = w
  obtain ⟨e, a⟩ := w
  have ha : Places k s a := by
    have h := places_withVerdict k fi fl d s
    rwa [hv] at h
  dsimp only
  have hplaced : ∀ (x : Desc) (at_ : Option Nat), Places k s (noticePosition fi x (addDesc x (setIdle fl.sid x at_ a))) := fun x at_ =>
    ha.trans (((places_setIdle ..).trans (places_addDesc ..)).trans (places_noticePosition ..))
  split
  · exact (hplaced _ _).trans (.of_frame (frame_sendVerdict ..))
  · exact (hplaced _ _).trans (.of_frame (frame_countAdmit ..))

theorem places_placeGap (k fi : Nat) (fl : Flow) (q : Nat) (s : State) : Places k s (placeGap fi fl q s) := by
  unfold placeGap
  exact ((Places.of_frame (frame_tellHome ..)).trans (places_placeDesc ..)).trans (places_noteVerdict ..)

theorem frame_forwardHome (home : Descriptor) (sid : StreamId) (d : Desc) (s : State) : Frame [.pair] s (forwardHome home sid d s).2 := by
  unfold forwardHome
  split
  · exact .refl ..
  · exact frame_sendTo ..

theorem frame_routed (fl : Flow) (d : Desc) (s : State) : Frame [.pair] s (routed fl d s).2 := by
  unfold routed
  split
  · split
    · exact .refl ..
    · split
      · exact frame_forwardHome ..
      · exact .refl ..
  · split
    · exact .refl ..
    · split
      · exact .refl ..
      · exact frame_forwardHome ..

theorem frame_admitted (fl : Flow) (d : Desc) (s : State) : Frame [.pair, .cnt] s (admitted fl d s).2 := by
  have htags : ∀ f p, Frame [.cnt] s (traceTags s f p).2.2 := fun f p => by
    unfold traceTags
    dsimp only
    split
    · exact .refl ..
    · exact frame_of_cnt rfl
  exact (htags _ _).mono.trans (frame_routed ..).mono

theorem frame_enterHeld (fi : Nat) (fl : Flow) (h : Held) (s : State) : Frame [.pair, .cnt] s (enterHeld fi fl h s).2 := by
  unfold enterHeld entered
  dsimp only
  split
  · exact (frame_tellHome ..).mono
  · exact (frame_admitted ..).trans (frame_tellHome ..).mono

theorem fireGap_open {fi : Nat} {fl : Flow} {s : State} (h : mget s.doc.flows fi = some fl) (hheld : fl.held ≠ []) (hown : ownVerdicts s = true) :
    ∃ a, fireGap fi s = updFlow fi (fun f => { f with held := [], gapAt := none, next := fl.held.foldl (fun a h => max a h.seq) 0 + 1 }) a ∧ Places fi s a := by
  unfold fireGap
  rw [h]
  dsimp only
  rw [if_neg (by simp [hheld, hown])]
  refine ⟨_, rfl, .foldl (fun a q => ?_) _ _⟩
  split
  · exact (Places.of_frame (frame_enterHeld ..)).trans (places_placeDesc ..)
  · exact places_placeGap ..

theorem clock_fireGap (fi : Nat) (s : State) : ClockKeeps s (fireGap fi s) := by
  cases h : mget s.doc.flows fi with
  | none =>
    unfold fireGap
    rw [h]
    exact .refl ..
  | some fl =>
    by_cases hopen : fl.held ≠ [] ∧ ownVerdicts s = true
    · obtain ⟨a, heq, ha⟩ := fireGap_open h hopen.1 hopen.2
      rw [heq]
      exact ha.clock.trans (clock_updFlow ..)
    · unfold fireGap
      rw [h]
      dsimp only
      rw [if_pos (by grind)]
      exact .refl ..

/-! Deadlines. -/

theorem clock_fireDeadline (t : Nat) (s : State) : ClockKeeps s (fireDeadline t s) := by
  unfold fireDeadline
  split
  · exact .refl ..
  · refine .ite (fun _ => .refl ..) (fun _ => ?_)
    dsimp only
    split
    · exact (clock_updDesc ..).trans (clock_endCommand ..)
    · exact clock_updDesc ..

theorem fireDeadline_queued {t : Nat} {d : Desc} {s : State} (h : desc s t = some d) (hown : ownVerdicts s = true) (hst : d.st = .queued) :
    fireDeadline t s = updDesc t (fun d => { d with expired := true }) s := by
  unfold fireDeadline
  rw [h]
  dsimp only
  rw [if_neg (by simp [hown, isParked, hst])]
  have hnone : waitStatus (updDesc t (fun d => { d with expired := true }) s) d = none := by
    simp [waitStatus, hst, waitsForSeed]
  rw [hnone]

theorem fireDeadline_parked {t w o : Nat} {d : Desc} {s : State} (h : desc s t = some d) (hown : ownVerdicts s = true) (hst : d.st = .parked w o)
    (hsig : d.signalled = false) (hbegun : hasBegun d = false) :
    fireDeadline t s = endCommand t (if w = 1 then Status.entropyUnavailable else Status.timeout) (updDesc t (fun d => { d with expired := true }) s) := by
  unfold fireDeadline
  rw [h]
  dsimp only
  rw [if_neg (by simp [hown, hsig])]
  simp only [hasBegun, Bool.or_eq_false_iff] at hbegun
  obtain ⟨⟨⟨-, hexecuted⟩, hstepped⟩, hresp⟩ := hbegun
  have hsome : waitStatus (updDesc t (fun d => { d with expired := true }) s) d = some (if w = 1 then Status.entropyUnavailable else Status.timeout) := by
    simp [waitStatus, hst, hexecuted, hresp, hsig, waitsForSeed]
    simpa using hstepped
  rw [hsome]

/-! Unbinding. -/

theorem clock_dropWindow (fn : Nat) (s : State) : ClockKeeps s (dropWindow fn s) :=
  (((clock_discardFlows ..).trans (clock_closeFlows ..)).trans (.of_frame (frame_dropSeals ..))).trans (.of_frame ((frame_updWin ..).trans (frame_refreshWindow ..)))

theorem clock_completeUnbind (fn : Nat) (s : State) : ClockKeeps s (completeUnbind fn s) := by
  unfold completeUnbind
  split
  · exact .refl ..
  · exact .ite (fun _ => (clock_dropWindow ..).trans (clock_updDesc ..)) (fun _ => (clock_dropWindow ..).trans (.of_frame (frame_mirrorChanges ..)))

theorem win_refreshWindow (fn : Nat) (s : State) : (∀ k, k ≠ fn → win (refreshWindow fn s) k = win s k) ∧
    ((win (refreshWindow fn s) fn).unbind, (win (refreshWindow fn s) fn).gallery, (win (refreshWindow fn s) fn).streams) = ((win s fn).unbind, (win s fn).gallery, (win s fn).streams) := by
  unfold refreshWindow
  dsimp only
  split
  · exact ⟨fun _ _ => rfl, rfl⟩
  · refine ⟨fun k hk => ?_, ?_⟩
    · rw [win_latchCause, if_neg hk, win_updWin, if_neg hk]
    · rw [win_latchCause, if_pos rfl, win_updWin, if_pos rfl]

theorem win_dropWindow (fn : Nat) (s : State) : (∀ k, k ≠ fn → win (dropWindow fn s) k = win s k) ∧
    ((win (dropWindow fn s) fn).unbind, (win (dropWindow fn s) fn).gallery, (win (dropWindow fn s) fn).streams) = (none, none, []) := by
  unfold dropWindow
  have hevent : EventOnly s (dropSeals fn (closeFlows (windowFlows s fn) (discardFlows (windowFlows s fn) s))) :=
    ((EventOnly.of_frame (frame_discardFlows ..)).trans (eventOnly_closeFlows ..)).trans (.of_frame (frame_dropSeals ..))
  dsimp only
  generalize dropSeals fn (closeFlows (windowFlows s fn) (discardFlows (windowFlows s fn) s)) = a at hevent ⊢
  obtain ⟨hother, hown⟩ := win_refreshWindow fn (updWin fn (fun w => { lastState := w.lastState }) a)
  refine ⟨fun k hk => ?_, ?_⟩
  · rw [hother k hk, win_updWin, if_neg hk, hevent.windows]
  · rw [hown, win_updWin, if_pos rfl]

/-- An unbind whose time has come: its window is reset, and the GALLERY_UNBIND that waits for it is answered OK. -/
theorem completeUnbind_effect {fn : Nat} {b : Unbind} {s : State} (h : (win s fn).unbind = some b) :
    (win (completeUnbind fn s) fn).unbind = none ∧ (win (completeUnbind fn s) fn).gallery = none ∧ (win (completeUnbind fn s) fn).streams = [] ∧
    (unbindWaits s b.ticket = true → ∀ d, desc (completeUnbind fn s) b.ticket = some d → d.resp = some (okResp [])) ∧
    (∀ k, k ≠ fn → win (completeUnbind fn s) k = win s k) := by
  obtain ⟨hother, hown⟩ := win_dropWindow fn s
  obtain ⟨hunbind, hgallery, hstreams⟩ : (win (dropWindow fn s) fn).unbind = none ∧ (win (dropWindow fn s) fn).gallery = none ∧ (win (dropWindow fn s) fn).streams = [] := by
    simpa using hown
  unfold completeUnbind
  rw [h]
  dsimp only
  split
  · simp only [win_updDesc]
    refine ⟨hunbind, hgallery, hstreams, fun _ d hd => ?_, hother⟩
    rw [desc_updDesc_same] at hd
    obtain ⟨e, -, rfl⟩ := Option.map_eq_some_iff.mp hd
    rfl
  · next hno =>
    rw [show ∀ k, win (mirrorChanges [.bind fn none none] (dropWindow fn s)) k = win (dropWindow fn s) k from fun k => (frame_mirrorChanges ..).win k]
    exact ⟨hunbind, hgallery, hstreams, fun hw => absurd hw hno, fun k hk => ((frame_mirrorChanges ..).win k).trans (hother k hk)⟩

/-! The changes at a boundary. -/

/-- A quota change touches the galleries alone, and so do several. -/
theorem frame_applyQuotas (qs : List QuotaChange) (s : State) : Frame [.vit] s (qs.foldl (fun s q => applyQuota q s) s) := .foldl (fun _ _ => frame_updGal ..) _ _

theorem tickChanges_effect (s : State) :
    tickChanges s = { s with doc := (tickChanges s).doc, vit := (tickChanges s).vit, pow := (tickChanges s).pow } ∧
    (tickChanges s).doc.quotaChanges = [] ∧ (tickChanges s).doc.modeChange = none ∧ (tickChanges s).doc.descs = s.doc.descs ∧
    ((tickChanges s).doc.ticks, (tickChanges s).doc.tickUs, (tickChanges s).doc.tickPending, (tickChanges s).doc.nextTick) = (s.doc.ticks, s.doc.tickUs, s.doc.tickPending, s.doc.nextTick) := by
  have hquota := frame_applyQuotas s.doc.quotaChanges s
  unfold tickChanges
  dsimp only
  generalize s.doc.quotaChanges.foldl (fun s q => applyQuota q s) s = a at hquota ⊢
  have ha : a = { s with vit := a.vit } := by simpa using hquota.record
  rw [ha]
  dsimp only
  split
  · exact ⟨rfl, rfl, rfl, rfl, rfl⟩
  · next hnone => exact ⟨rfl, rfl, hnone, rfl, rfl⟩

theorem tickBoundary_effect (s : State) : ∃ u, exec .tickBoundary s = .next (offerWork u) ∧ u.doc.ticks = (s.doc.ticks + 1) % 2 ^ 32 ∧ u.doc.refilled = false ∧ u.doc.tickPending = none ∧
    u.doc.tickUs = s.doc.tickPending.getD s.doc.tickUs ∧ u.doc.nextTick = s.doc.nextTick + 1000 * u.doc.tickUs ∧ u.doc.quotaChanges = [] ∧ u.now = max s.now s.doc.nextTick := by
  let a := advanceTo s.doc.nextTick s
  let b := tickChanges a
  let c := if b.doc.refilled then b else tickRefill b
  let d := (dueGaps c).foldl (fun s fi => fireGap fi s) c
  let e := (dueDeadlines d).foldl (fun s t => fireDeadline t s) d
  let f := (dueOps e).foldl (fun s o => abandonOp o.1 o.2 s) e
  let g := (dueUnbinds f).foldl (fun s fn => completeUnbind fn s) f
  refine ⟨tickClose (tickNs a) g, rfl, ?_⟩
  have hbc : ClockKeeps b c := .ite (fun _ => .refl ..) (fun _ => ⟨rfl, rfl⟩)
  have hcd : ClockKeeps c d := .foldl (fun _ _ => clock_fireGap ..) _ _
  have hde : ClockKeeps d e := .foldl (fun _ _ => clock_fireDeadline ..) _ _
  have hef : ClockKeeps e f := .foldl (fun _ _ => .of_frame (frame_updGal ..)) _ _
  have hfg : ClockKeeps f g := .foldl (fun _ _ => clock_completeUnbind ..) _ _
  obtain ⟨hnow, htick⟩ := (((hbc.trans hcd).trans hde).trans hef).trans hfg
  obtain ⟨honly, hquota, -, -, hregs⟩ := tickChanges_effect a
  have hb : b.now = max s.now s.doc.nextTick := by
    show (tickChanges a).now = _
    rw [honly]
    rfl
  simp only [tickRegisters, Prod.mk.injEq] at htick hregs
  obtain ⟨hticks, hus, hpending, hnext, hchanges⟩ := htick
  obtain ⟨hticks', hus', hpending', hnext'⟩ := hregs
  have hperiod : g.doc.tickPending.getD g.doc.tickUs = s.doc.tickPending.getD s.doc.tickUs := by
    rw [hpending, hus]
    show (tickChanges a).doc.tickPending.getD (tickChanges a).doc.tickUs = _
    rw [hpending', hus']
    rfl
  refine ⟨?_, rfl, rfl, hperiod, ?_, hchanges.trans hquota, hnow.trans hb⟩
  · show (g.doc.ticks + 1) % 2 ^ 32 = _
    rw [hticks]
    show ((tickChanges a).doc.ticks + 1) % 2 ^ 32 = _
    rw [hticks']
    rfl
  · show g.doc.nextTick + 1000 * _ = s.doc.nextTick + 1000 * _
    rw [hnext]
    show (tickChanges a).doc.nextTick + 1000 * _ = _
    rw [hnext']
    rfl

/-! The operations. -/

theorem operationIdleTimeOut_effect (gallery opId due : Nat) (g : Gallery) (o : SpanOp) (s : State) (hgal : gal s gallery = some g) (hop : mget g.ops opId = some o)
    (hwait : frameWaits s gallery o = false) (hdue : o.idleAt = some due) :
    ∃ t, exec (.operationIdleTimeOut gallery opId) s = .next t ∧ t = { s with vit := { s.vit with galleries := t.vit.galleries }, now := max s.now (boundaryFor s due) } ∧
      gal t gallery = some { g with ops := mdel g.ops opId } ∧ (∀ k, k ≠ gallery → gal t k = gal s k) := by
  have hexec : exec (.operationIdleTimeOut gallery opId) s = .next (abandonOp gallery opId (advanceTo (boundaryFor s due) s)) := by
    show execOperationIdleTimeOut gallery opId s = _
    unfold execOperationIdleTimeOut
    rw [hgal]
    simp [hop, idleRuns, hwait, hdue]
  refine ⟨_, hexec, rfl, ?_, fun k hk => ?_⟩
  · unfold abandonOp
    rw [gal_updGal, if_pos rfl]
    show (gal s gallery).map _ = _
    rw [hgal]
    rfl
  · unfold abandonOp
    rw [gal_updGal, if_neg hk]
    rfl

/-- Settles O22: each timer's firing is the function that TICK_BOUNDARY folds over those that are due, and none of them moves the clock. -/
theorem tickAndTimers : Obligations.TickAndTimers := by
  unfold Obligations.TickAndTimers
  refine ⟨tickBoundary_effect, fun s => ?_, fun s hno => ?_, fun s hyes => ?_, fun flow fl due s hfl hgap hheld hown => ?_, fun ticket d due s hd hdue hown hst => ?_,
    fun ticket d due w o s hd hdue hown hst hsig hbegun hkept => ?_, operationIdleTimeOut_effect, fun fn b s h => ?_, fun fn b s h hdrained => ?_⟩
  · obtain ⟨honly, hquota, hmode, hdescs, -⟩ := tickChanges_effect (advanceTo s.doc.nextTick s)
    exact ⟨_, rfl, honly, hquota, hmode, hdescs⟩
  · show execTokenRefill s = _
    rw [execTokenRefill, if_neg (by simp [hno])]
    rfl
  · show execTokenRefill s = _
    rw [execTokenRefill, if_pos hyes]
  · let a := advanceTo (boundaryFor s due) s
    have hexec : exec (.gapTimeOut flow) s = .next (offerWork (fireGap flow a)) := by
      show execGapTimeOut flow s = _
      rw [execGapTimeOut, hfl]
      simp only [Option.bind_some, hgap]
      rfl
    obtain ⟨b, heq, hb⟩ := fireGap_open (s := a) hfl hheld hown
    refine ⟨_, hexec, (clock_fireGap ..).now, ?_⟩
    rw [heq]
    show (mget (malter b.doc.flows flow.val _) flow.val).map _ = _
    rw [mget_malter, if_pos rfl]
    obtain ⟨x, hx⟩ := Option.isSome_iff_exists.mp (hb.flow.trans (congrArg Option.isSome hfl))
    rw [hx]
    rfl
  · let a := advanceTo (boundaryFor s due) s
    have hexec : exec (.deadline ticket) s = .next (offerWork (fireDeadline ticket a)) := by
      show execDeadline ticket s = _
      rw [execDeadline, hd]
      simp only [Option.bind_some, hdue]
      rfl
    refine ⟨_, hexec, (clock_fireDeadline ..).now, ?_⟩
    rw [fireDeadline_queued (s := a) hd hown hst]
    refine ⟨?_, fun k hk => desc_updDesc_ne hk _ a⟩
    rw [desc_updDesc_same]
    show (desc s ticket).map _ = _
    rw [hd]
    rfl
  · let a := advanceTo (boundaryFor s due) s
    have hexec : exec (.deadline ticket) s = .next (offerWork (fireDeadline ticket a)) := by
      show execDeadline ticket s = _
      rw [execDeadline, hd]
      simp only [Option.bind_some, hdue]
      rfl
    refine ⟨_, hexec, (clock_fireDeadline ..).now, ?_⟩
    rw [fireDeadline_parked (s := a) hd hown hst hsig hbegun]
    have hexpired : desc (updDesc ticket (fun d => { d with expired := true }) a) ticket = some { d with expired := true } := by
      rw [desc_updDesc_same]
      show (desc s ticket).map _ = _
      rw [hd]
      rfl
    simp only [hasBegun, Bool.or_eq_false_iff] at hbegun
    obtain ⟨⟨⟨-, hexecuted⟩, hstepped⟩, -⟩ := hbegun
    obtain ⟨hdone, hother⟩ := endCommand_of_unbegun (st := if w = 1 then Status.entropyUnavailable else Status.timeout) hexpired hkept hexecuted (by simpa using hstepped)
    exact ⟨hdone, fun k hk => (hother k hk).trans (desc_updDesc_ne hk _ a)⟩
  · have hexec : exec (.unbindDrainTimeOut fn) s = .next (completeUnbind fn (advanceTo (boundaryFor s b.expiry) s)) := by
      show execUnbindDrainTimeOut fn s = _
      rw [execUnbindDrainTimeOut, h]
    exact ⟨_, hexec, (clock_completeUnbind ..).now, completeUnbind_effect (s := advanceTo (boundaryFor s b.expiry) s) h⟩
  · have hexec : exec (.unbindComplete fn) s = .next (completeUnbind fn s) := by
      show execUnbindComplete fn s = _
      rw [execUnbindComplete, if_pos (by simp [h, hdrained])]
    exact ⟨_, hexec, (clock_completeUnbind ..).now, completeUnbind_effect h⟩

end Sys2Proof.Machine

/-!
SUPPORT. A house function on its way to the answer: what `Safety.Serves` says lets the run through to `answerFn`.
-/

namespace Sys2Proof.Machine

set_option Elab.async false

open Sys2Proof.Safety

/-- A function whose budgets can be stepped is run on the state after the steps. -/
theorem applyFn_of_charged {c : Ctx} {s v : State} (run : Ctx → State → FnResult) (h : Charged c s v) :
    applyFn c run s = answerFn c.t (run c v).1 (run c v).2.1 (run c v).2.2 := by
  obtain ⟨steps, u, hsteps, rfl⟩ := h
  unfold applyFn
  rw [show (finiteSlots c.d).filter (fun n => !c.d.stepped.contains n) = owedSteps c from rfl]
  dsimp only
  rw [hsteps]

/-- A command that nothing keeps from its function is given the function's answer. -/
theorem runFn_of_serves {cell : Fin 128} {code : Nat} {s v : State} {c : Ctx} {check : Ctx → State → Option Resp} {run : Ctx → State → FnResult}
    (hserves : Serves cell code s c) (hcheck : check c s = none) (hcharged : Charged c s v) (hfed : drawsNow c.d = true → (run c v).2.2.rng.starved = none) :
    runFn cell code check run s = answerFn c.t (run c v).1 (run c v).2.1 (run c v).2.2 := by
  obtain ⟨hheld, hwait, haway, hprimary, hseed, hdraws⟩ := hserves
  unfold runFn runCmd
  rw [hheld]
  dsimp only
  rw [hprimary, if_neg (by simp), runPrimary, if_neg (by simp [hwait]), if_neg (by simp [haway]), hcheck]
  dsimp only
  rw [if_neg (by simp [hseed])]
  split
  · next hd =>
    obtain ⟨hfatal, hinst⟩ := hdraws hd
    rw [if_neg (by simp [hfatal]), if_neg (by simp [hinst]), applyFn_of_charged run hcharged, unlessStarved]
    exact if_neg (by simp [answerFn, hfed hd])
  · exact applyFn_of_charged run hcharged

/-- A row that runs its function answers; what is left to show is what the function computes. -/
theorem answers_of_run {row : Fin 128 → Instr} {code : Nat} {check : Ctx → State → Option Resp} {run : Ctx → State → FnResult} {fact : Ctx → State → FnResult → Prop}
    (hrow : ∀ cell s, exec (row cell) s = .next (runFn cell code check run s))
    (hfact : ∀ c s v, check c s = none → Charged c s v → fact c v (run c v)) : Answers row code check run fact := by
  intro cell s v c hserves hcheck hcharged hfed
  exact ⟨(hrow cell s).trans (congrArg _ (runFn_of_serves hserves hcheck hcharged hfed)), hfact c s v hcheck hcharged⟩

/-! The forms of a result. -/

theorem pure_plain (r : Resp) (v : State) : Pure v (plain r v) := ⟨rfl, rfl⟩

theorem drawsOnly_of_frame {v : State} {r : Resp} {u : State} (h : Frame [.rng] v u) : DrawsOnly v (r, [], u) := by
  have hmore : Frame [.rng, .freeCount] v u := h.mono
  exact ⟨rfl, by simpa using hmore.record⟩

theorem compared_of_ite (p : Prop) [Decidable p] (v : State) : Compared p (plain (statusOnly (if p then Status.ok else Status.verifyFailed)) v) :=
  ⟨fun h => by rw [if_pos h]; rfl, fun h => by rw [if_neg h]; rfl⟩

end Sys2Proof.Machine

/-!
PROOFS, part 14: the functions of PINs and card verification values (O23).
-/

namespace Sys2Proof.Machine

set_option Elab.async false

open Sys2Proof.Safety

theorem frame_drawPin (inst n : Nat) (avoid : Bool) (fuel : Nat) (s : State) : Frame [.rng] s (drawPin inst n avoid fuel s).2 := by
  induction fuel generalizing s with
  | zero => exact .refl ..
  | succ fuel ih =>
    rw [drawPin]
    dsimp only
    split
    · exact (frame_drawBytes ..).trans (ih _)
    · exact frame_drawBytes ..

/-- A PIN and, but for format 0, the bytes of its block's fill are drawn. -/
theorem runPinGenerate_draws (c : Ctx) (v : State) : (runPinGenerate c v).1.status = Status.ok ∧ DrawsOnly v (runPinGenerate c v) := by
  have hpin := frame_drawPin (drawInstance c) (byteAt c.f 50) (fnBit0 c.f) 256 v
  unfold runPinGenerate
  dsimp only
  generalize drawPin (drawInstance c) (byteAt c.f 50) (fnBit0 c.f) 256 v = p at hpin ⊢
  refine ⟨rfl, drawsOnly_of_frame (hpin.trans ?_)⟩
  split
  · exact .refl ..
  · exact frame_drawBytes ..

theorem runPinVerify_untried (c : Ctx) (v : State) (h : fnBit0 c.f = false) :
    runPinVerify c v = plain { status := (if pinMatches c then Status.ok else Status.verifyFailed), fnFlags := 0, payload := triesPayload 0xFF } v := by
  unfold runPinVerify
  dsimp only
  rw [if_pos (by simp [h])]

theorem runPinVerify_tried (c : Ctx) (v : State) (r : VRecord) (h : fnBit0 c.f = true) (hr : tryRecord c = some r) :
    (runPinVerify c v).1 = (⟨if pinMatches c then Status.ok else Status.verifyFailed, 0,
      triesPayload ((tryCounter r (byteAt c.f 132)).1 - (if pinMatches c then 0 else (tryCounter r (byteAt c.f 132)).2 + 1))⟩ : Resp) ∧
    ((runPinVerify c v).2.1 = [] ∨ ∃ r', (runPinVerify c v).2.1 = [.vrecord c.g r.slot (some r')] ∧ (runPinVerify c v).2.2 = putRecordAt c.g r.slot (some r') v) := by
  unfold runPinVerify
  dsimp only
  rw [if_neg (by simp [h]), hr]
  dsimp only
  generalize (if pinMatches c then 0 else (tryCounter r (byteAt c.f 132)).2 + 1) = fails
  generalize (if pinMatches c then Status.ok else Status.verifyFailed) = st
  split
  · exact ⟨rfl, .inl rfl⟩
  · exact ⟨rfl, .inr ⟨_, rfl, rfl⟩⟩

theorem runPinTrySet_effect (c : Ctx) (v : State) :
    ((runPinTrySet c v).1 = okResp [] ∧ (Pure v (runPinTrySet c v) ∨ ∃ r', (runPinTrySet c v).2.1 = [.vrecord c.g (leAt c.f 32 3) r'] ∧ (runPinTrySet c v).2.2 = putRecordAt c.g (leAt c.f 32 3) r' v)) ∨
    ((runPinTrySet c v).1 = statusOnly Status.quotaExceeded ∧ (runPinTrySet c v).2.1 = []) := by
  unfold runPinTrySet
  dsimp only
  split
  · split
    · exact .inl ⟨rfl, .inl (pure_plain ..)⟩
    · exact .inl ⟨rfl, .inr ⟨none, rfl, rfl⟩⟩
  · split
    · exact .inl ⟨rfl, .inr ⟨_, rfl, rfl⟩⟩
    · exact .inr ⟨rfl, rfl⟩

/-- Settles O23: each row runs its function, whose answer is read from its definition. -/
theorem pinFunctionsAnswer : Obligations.PinFunctionsAnswer := by
  unfold Obligations.PinFunctionsAnswer
  refine ⟨answers_of_run (fun _ _ => rfl) fun c _ v _ _ => ?_, answers_of_run (fun _ _ => rfl) fun c _ v _ _ => ?_, answers_of_run (fun _ _ => rfl) fun c _ v _ _ => ⟨fun h => ?_, fun r h hr => runPinVerify_tried c v r h hr⟩,
    answers_of_run (fun _ _ => rfl) fun c _ v _ _ => runPinGenerate_draws c v, answers_of_run (fun _ _ => rfl) fun c _ v _ _ => runPinTrySet_effect c v,
    answers_of_run (fun _ _ => rfl) fun c _ v _ _ => ⟨pure_plain .., rfl⟩, answers_of_run (fun _ _ => rfl) fun c _ v _ _ => ⟨pure_plain .., ?_⟩⟩
  · unfold runPinTranslate
    dsimp only
    split
    · exact ⟨pure_plain .., .inr rfl⟩
    · exact ⟨pure_plain .., .inl rfl⟩
  · unfold runPinCalc
    cases calcValue c with
    | none => exact ⟨pure_plain .., rfl⟩
    | some ds => exact ⟨pure_plain .., rfl⟩
  · rw [runPinVerify_untried c v h]
    exact ⟨pure_plain .., rfl⟩
  · have h := compared_of_ite (cvvOf c = ((slice c.f 72 8).take (byteAt c.f 40)).map (·.toNat)) v
    simpa [runCvvVerify] using h

end Sys2Proof.Machine

/-!
PROOFS, part 15: the functions of EMV, DUKPT and payment MACs (O24). The DUKPT functions put their initial key into the key cache, and a cache miss is event 12 of the cell's wing (18 R421): where a counter of the wing counts it, the function moves the counters too.
-/

namespace Sys2Proof.Machine

set_option Elab.async false

open Sys2Proof.Safety

/-- DUKPT_DECRYPT of no data, mode 0, under a TDES KSN with counter 0. -/
def emptyDukptFrame : Bytes := leBytes 2 0x0402 ++ zeros 54 ++ [1] ++ zeros 31

/-- That command, taken by cell 0. -/
def dukptCommand : Desc :=
  { flow := 0, seq := 1, function := 0x0402, frame := emptyDukptFrame, digest := 0, st := .inService, rights := defaultRow
    keys := [some { noHeldKey with alg := 84, material := zeros 16 }]
    copies := [{ cell := 0, secondary := false, complete := false, takenAt := 0 }] }

/-- The module with that command in cell 0, its key cache empty, and counter 0 of wing 0 set to the cache's misses. -/
def countedState : State :=
  { State.reset with
    doc := { State.reset.doc with
      cells := [(0, { held := some 65535 })]
      descs := [(65535, dukptCommand)]
      flows := [(0, { sid := dualSid, next := 2, rel := 1 })] }
    vit := { State.reset.vit with galleries := [(0, dualGallery)], cache := [] }
    cnt := { wing := [(0, { event := 12 })] }
    pow := { State.reset.pow with wings := [(0, { cen := { seedReady := true } })] } }

/-- What cell 0 holds. -/
def countedCtx : Ctx := { cell := 0, t := 65535, d := dukptCommand, sid := dualSid, g := 0, gal := asTaken dukptCommand dualGallery }

theorem serves_countedState : Serves 0 0x0402 countedState countedCtx :=
  ⟨rfl, by decide, by decide, rfl, by decide, fun h => absurd h (by decide)⟩

/-- The command names no finite key, so that nothing is charged. -/
theorem charged_countedState : Charged countedCtx countedState (updDesc 65535 (fun d => { d with stepped := d.stepped ++ [], changes := d.changes ++ [] }) countedState) :=
  ⟨[], countedState, rfl, rfl⟩

theorem live_runDukptDecrypt :
    (mgetD (runDukptDecrypt countedCtx (updDesc 65535 (fun d => { d with stepped := d.stepped ++ [], changes := d.changes ++ [] }) countedState)).2.2.cnt.wing 0 {}).live = 1 := by
  decide

/-- Refutes O24: a DUKPT_DECRYPT whose initial key is not in the cache counts the miss, so that more than the key cache and the random numbers move. -/
theorem not_paymentFunctionsAnswer : ¬ Obligations.PaymentFunctionsAnswer := by
  unfold Obligations.PaymentFunctionsAnswer
  rintro ⟨-, -, -, -, hdecrypt, -⟩
  obtain ⟨-, ⟨-, honly⟩, -⟩ := hdecrypt 0 countedState _ countedCtx serves_countedState (by decide) charged_countedState (fun h => absurd h (by decide))
  have hcnt := congrArg (fun t : State => (mgetD t.cnt.wing 0 {}).live) honly
  dsimp only at hcnt
  rw [live_runDukptDecrypt] at hcnt
  exact absurd hcnt (by decide)

end Sys2Proof.Machine

/-!
PROOFS, part 16: the functions of key blocks, account data and FF1 (O26), and of ciphers, hashes and derivation (O27).
-/

namespace Sys2Proof.Machine

set_option Elab.async false

open Sys2Proof.Safety

theorem frame_drawPad (c : Ctx) (alg n : Nat) (s : State) : Frame [.rng] s (drawPad c alg n s).2 := by
  unfold drawPad
  split
  · exact .refl ..
  · exact frame_drawBytes ..

/-! Remote key loading. -/

theorem runRkl_steps (c : Ctx) (v : State) : (runRkl c v).2.1 = [] := by
  unfold runRkl
  dsimp only
  split
  · rfl
  · split
    · rfl
    · split
      · rfl
      · split <;> rfl

theorem runRkl_unverified {c : Ctx} (v : State)
    (h : verifies c.gal (c.key 1).keyType (c.key 1).material (authoritySig c.gal (c.key 1).keyType (slice c.f 72 1 ++ deviceKey c.f)) (deviceSig c.f) = false) :
    (runRkl c v).1 = statusOnly Status.verifyFailed := by
  unfold runRkl
  dsimp only
  rw [if_pos (by simp [h])]
  rfl

/-- An authority's signature that verifies leaves a transport that cannot be made and the host's secret value to refuse. -/
theorem runRkl_verified {c : Ctx} (v : State)
    (h : verifies c.gal (c.key 1).keyType (c.key 1).material (authoritySig c.gal (c.key 1).keyType (slice c.f 72 1 ++ deviceKey c.f)) (deviceSig c.f) = true)
    (hinput : (rsaTypes.contains (c.key 1).keyType && rsaInputBad (c.key 1).keyType (c.key 1).material (deviceSig c.f)) = false) :
    (runRkl c v).1.status = Status.ok ∨ (runRkl c v).1 = statusOnly Status.paramRejected ∨ (runRkl c v).1 = privateFault := by
  unfold runRkl
  dsimp only
  rw [hinput, h, if_neg (by simp)]
  split
  · exact .inr (.inl rfl)
  · split
    · exact .inr (.inr rfl)
    · split
      · exact .inr (.inr rfl)
      · exact .inl rfl

theorem runImport_answer (c : Ctx) (v : State) : Pure v (runImport c v) ∧ OkOr Status.keyBlockInvalid (runImport c v) := by
  unfold runImport
  split
  · exact ⟨pure_plain .., .inr rfl⟩
  · exact ⟨pure_plain .., .inl rfl⟩

theorem runExport_answer (c : Ctx) (v : State) : DrawsOnly v (runExport c v) ∧ (runExport c v).1.status = Status.ok :=
  ⟨drawsOnly_of_frame (frame_drawPad ..), rfl⟩

theorem runDataEncrypt_answer (c : Ctx) (v : State) : DrawsOnly v (runDataEncrypt c v) ∧ (runDataEncrypt c v).1.status = Status.ok := by
  unfold runDataEncrypt
  dsimp only
  have hdraw : Frame [.rng] v (if fnBit0 c.f then drawBytes (drawInstance c) (c.key 0).cipher.len v else (slice c.f 48 (c.key 0).cipher.len, v)).2 := by
    split
    · exact frame_drawBytes ..
    · exact .refl ..
  exact ⟨drawsOnly_of_frame hdraw, rfl⟩

/-- Settles O26: each row runs its function, which answers and draws at most. -/
theorem keyBlockAndDataFunctionsAnswer : Obligations.KeyBlockAndDataFunctionsAnswer := by
  unfold Obligations.KeyBlockAndDataFunctionsAnswer
  exact ⟨answers_of_run (fun _ _ => rfl) fun c _ v _ _ => runImport_answer c v, answers_of_run (fun _ _ => rfl) fun c _ v _ _ => runExport_answer c v,
    answers_of_run (fun _ _ => rfl) fun c _ v _ _ => ⟨runRkl_steps c v, runRkl_unverified v, runRkl_verified v⟩,
    answers_of_run (fun _ _ => rfl) fun c _ v _ _ => runDataEncrypt_answer c v, answers_of_run (fun _ _ => rfl) fun c _ v _ _ => ⟨pure_plain .., rfl⟩,
    answers_of_run (fun _ _ => rfl) fun c _ v _ _ => ⟨pure_plain .., rfl⟩, answers_of_run (fun _ _ => rfl) fun c _ v _ _ => ⟨pure_plain .., rfl⟩⟩

/-! Ciphers and AEAD. -/

theorem runCipher_answer (decrypt : Bool) (c : Ctx) (v : State) : Pure v (runCipher decrypt c v) ∧ (runCipher decrypt c v).1.status = Status.ok ∧
    (byteAt c.f 40 = 0 → (runCipher decrypt c v).1.payload =
      if decrypt then ecbDec (c.key 0).cipher (slice c.f 64 (leAt c.f 44 4)) else ecbEnc (c.key 0).cipher (slice c.f 64 (leAt c.f 44 4))) := by
  refine ⟨pure_plain .., rfl, fun h => ?_⟩
  unfold runCipher
  dsimp only
  rw [h]
  cases decrypt <;> rfl

theorem runAeadSeal_answer (c : Ctx) (v : State) : (runAeadSeal c v).1.status = Status.ok ∧ (asksNonce c.f = false → Pure v (runAeadSeal c v)) ∧
    (asksNonce c.f = true → (runAeadSeal c v).2.1 = [.nonce (drawNonce v).1] ∧ (runAeadSeal c v).2.2 = (drawNonce v).2) := by
  refine ⟨rfl, fun h => ?_, fun h => ?_⟩
  · simp [runAeadSeal, h, Safety.Pure]
  · simp [runAeadSeal, h]

theorem runAeadOpen_answer (c : Ctx) (v : State) : Pure v (runAeadOpen c v) ∧
    ((gcmOpen (c.key 0).cipher (slice c.f 48 12) (aeadAad c.f) (aeadData c.f)).2.take (byteAt c.f 40) ≠ slice c.f 64 (byteAt c.f 40) → (runAeadOpen c v).1 = statusOnly Status.tagMismatch) ∧
    ((gcmOpen (c.key 0).cipher (slice c.f 48 12) (aeadAad c.f) (aeadData c.f)).2.take (byteAt c.f 40) = slice c.f 64 (byteAt c.f 40) →
      (runAeadOpen c v).1 = okResp (gcmOpen (c.key 0).cipher (slice c.f 48 12) (aeadAad c.f) (aeadData c.f)).1) := by
  unfold runAeadOpen
  dsimp only
  split
  · next h => exact ⟨pure_plain .., fun hne => absurd h hne, fun _ => rfl⟩
  · next h => exact ⟨pure_plain .., fun _ => rfl, fun heq => absurd heq h⟩

/-! Operations that span frames. -/

/-- A chunked answer begins with the index of its frame. -/
theorem spanResp_index (n : Nat) (a b d : Bytes) : (spanResp n a b d).payload.take 4 = leBytes 4 n := by
  simp [spanResp, okResp, leBytes]

theorem runSealChunked_answer (c : Ctx) (v : State) : (runSealChunked c v).1.status = Status.ok ∧ (runSealChunked c v).1.payload.take 4 = leBytes 4 (leAt c.f 44 4) ∧
    (asksNonce c.f = false → (runSealChunked c v).2.2 = v) ∧ (asksNonce c.f = true → (runSealChunked c v).2.2 = (drawNonce v).2) := by
  refine ⟨rfl, spanResp_index .., fun h => ?_, fun h => ?_⟩
  · simp [runSealChunked, h]
  · simp [runSealChunked, h]

theorem runOpenEscrowed_answer (c : Ctx) (v : State) : OkOr Status.tagMismatch (runOpenEscrowed c v) ∧
    (runOpenEscrowed c v).2.2 = { v with rng := (runOpenEscrowed c v).2.2.rng, freeCount := (runOpenEscrowed c v).2.2.freeCount } ∧
    (isFirst c.f = false → (runOpenEscrowed c v).2.2 = v) ∧ (isLast c.f = false → (runOpenEscrowed c v).1.payload.take 4 = leBytes 4 (leAt c.f 44 4)) := by
  have hdraw : Frame [.rng, .freeCount] v (if isFirst c.f then drawBytes (drawInstance c) 32 v else ([], v)).2 := by
    split
    · exact (frame_drawBytes ..).mono
    · exact .refl ..
  have hrest : isFirst c.f = false → (if isFirst c.f then drawBytes (drawInstance c) 32 v else ([], v)).2 = v := fun h => by rw [h]; rfl
  unfold runOpenEscrowed
  dsimp only
  generalize (if isFirst c.f then drawBytes (drawInstance c) 32 v else ([], v)) = p at hdraw hrest ⊢
  have hrecord : p.2 = { v with rng := p.2.rng, freeCount := p.2.freeCount } := by simpa using hdraw.record
  split
  · exact ⟨.inl rfl, hrecord, hrest, fun _ => spanResp_index ..⟩
  · next hlast =>
    split
    · exact ⟨.inl rfl, hrecord, hrest, fun h => absurd h (by simpa using hlast)⟩
    · exact ⟨.inr rfl, hrecord, hrest, fun h => absurd h (by simpa using hlast)⟩

theorem runHmacChunked_answer (c : Ctx) (v : State) : (runHmacChunked c v).2.2 = v ∧ OkOr Status.verifyFailed (runHmacChunked c v) ∧
    (isLast c.f = false → (runHmacChunked c v).1.payload.take 4 = leBytes 4 (leAt c.f 44 4)) := by
  unfold runHmacChunked
  dsimp only
  split
  · exact ⟨rfl, .inl rfl, fun _ => spanResp_index ..⟩
  · next hlast =>
    have hnot : ¬isLast c.f = false := by simpa using hlast
    split
    · exact ⟨rfl, .inl rfl, fun h => absurd h hnot⟩
    · split
      · exact ⟨rfl, .inl rfl, fun h => absurd h hnot⟩
      · exact ⟨rfl, .inr rfl, fun h => absurd h hnot⟩

/-- Settles O27: each row runs its function; a chunked answer carries its frame's index. -/
theorem cipherAndHashFunctionsAnswer : Obligations.CipherAndHashFunctionsAnswer := by
  unfold Obligations.CipherAndHashFunctionsAnswer
  exact ⟨answers_of_run (fun _ _ => rfl) fun c _ v _ _ => runCipher_answer false c v, answers_of_run (fun _ _ => rfl) fun c _ v _ _ => runCipher_answer true c v,
    answers_of_run (fun _ _ => rfl) fun c _ v _ _ => runAeadSeal_answer c v, answers_of_run (fun _ _ => rfl) fun c _ v _ _ => runAeadOpen_answer c v,
    answers_of_run (fun _ _ => rfl) fun c _ v _ _ => runSealChunked_answer c v, answers_of_run (fun _ _ => rfl) fun c _ v _ _ => runOpenEscrowed_answer c v,
    answers_of_run (fun _ _ => rfl) fun c _ v _ _ => ⟨pure_plain .., rfl⟩, answers_of_run (fun _ _ => rfl) fun c _ v _ _ => ⟨pure_plain .., rfl⟩,
    answers_of_run (fun _ _ => rfl) fun c _ v _ _ => ⟨pure_plain .., compared_of_ite _ v⟩, answers_of_run (fun _ _ => rfl) fun c _ v _ _ => ⟨pure_plain .., rfl⟩,
    answers_of_run (fun _ _ => rfl) fun c _ v _ _ => ⟨rfl, rfl, spanResp_index ..⟩, answers_of_run (fun _ _ => rfl) fun c _ v _ _ => runHmacChunked_answer c v⟩

end Sys2Proof.Machine

/-!
PROOFS, part 17: the functions of signatures (O28), and of agreement, curves and random bytes (O29).
-/

namespace Sys2Proof.Machine

set_option Elab.async false

open Sys2Proof.Safety

/-! Signatures. -/

theorem frame_drawScalar (inst : Nat) (d : Domain) (s : State) : Frame [.rng] s (drawScalar inst d s).2 := frame_drawBytes ..

theorem frame_drawnEcdsa (c : Ctx) (d : Domain) (x : Nat) (digest : Bytes) (fuel : Nat) (s : State) : Frame [.rng] s (drawnEcdsa c d x digest fuel s).2 := by
  induction fuel generalizing s with
  | zero => exact .refl ..
  | succ fuel ih =>
    rw [drawnEcdsa]
    dsimp only
    split
    · exact frame_drawScalar ..
    · exact (frame_drawScalar ..).trans (ih _)

theorem runEcdsaSign_steps (c : Ctx) (v : State) : (runEcdsaSign c v).2.1 = [] := by
  unfold runEcdsaSign
  dsimp only
  split
  · rfl
  · split <;> rfl

theorem runEcdsaSign_fault {c : Ctx} (v : State) (h : scalarOk (domainAt c.gal (c.key 0).keyType) (ecPrivate (domainAt c.gal (c.key 0).keyType) (c.key 0).material) = false) :
    runEcdsaSign c v = plain privateFault (useKeyDomain c.g (c.key 0).keyType v) := by
  unfold runEcdsaSign
  dsimp only
  rw [h]
  exact if_pos rfl

/-- The values of an ECDSA signature: deterministic as FN_FLAGS asks, else under drawn candidates. -/
def ecdsaValues (c : Ctx) (u : State) : Option (Nat × Nat) × State :=
  let d := domainAt c.gal (c.key 0).keyType
  let f := signFields c.f
  if fnBit0 c.f then (ecdsaDeterministic d.curve (ecPrivate d (c.key 0).material) (sigDigest f) (hashAt f.hash).hmac (hashAt f.hash).len, u)
  else drawnEcdsa c d (ecPrivate d (c.key 0).material) (sigDigest f) 64 u

/-- The answer that these values make. -/
def ecdsaAnswer (c : Ctx) (p : Option (Nat × Nat) × State) : FnResult :=
  match p.1 with
  | some x => plain (signResp (ecdsaEncode (domainAt c.gal (c.key 0).keyType).curve x)) p.2
  | none => plain privateFault p.2

theorem runEcdsaSign_signed {c : Ctx} (v : State) (h : scalarOk (domainAt c.gal (c.key 0).keyType) (ecPrivate (domainAt c.gal (c.key 0).keyType) (c.key 0).material) = true) :
    runEcdsaSign c v = ecdsaAnswer c (ecdsaValues c (useKeyDomain c.g (c.key 0).keyType v)) := by
  unfold runEcdsaSign
  dsimp only
  rw [h, if_neg (by simp)]
  rfl

theorem runRsaSign_drawn {c : Ctx} (v : State) {p : Bytes × State}
    (h : (if (signFields c.f).scheme = 2 ∧ (signFields c.f).salt ≠ 0 then drawBytes (drawInstance c) (signFields c.f).salt v else ([], v)) = p) :
    runRsaSign c v = plain (signResp (beBytes (rsaLen (c.key 0).keyType) (rsaPrivate (c.key 0).keyType (c.key 0).material
      (ofBE (if (signFields c.f).scheme = 1 then pkcs1Encode (signFields c.f).hash (sigDigest (signFields c.f)) (rsaLen (c.key 0).keyType)
        else pssEncode (hashAt (signFields c.f).hash).run (sigDigest (signFields c.f)) p.1 (8 * rsaLen (c.key 0).keyType - 1)))))) p.2 := by
  subst h
  rfl

theorem runMldsaSign_drawn {c : Ctx} (v : State) {p : Bytes × State} (h : (if fnBit0 c.f then (zeros 32, v) else drawBytes (drawInstance c) 32 v) = p) :
    runMldsaSign c v = plain (signResp (dsaSign (dsaOf (c.key 0).keyType) ((c.key 0).material.take 32) (signFields c.f).ctx (signFields c.f).msg p.1)) p.2 := by
  subst h
  rfl

theorem runVerify_answer (c : Ctx) (v : State) : (runVerify c v).2.1 = [] ∧ (runVerify c v).2.2 = useKeyDomain c.g (verifyType c) v ∧
    Compared (verifies c.gal (verifyType c) (verifyKey c) (verifyFields c.f) (verifySig c.f) = true) (runVerify c v) :=
  ⟨rfl, rfl, compared_of_ite _ (useKeyDomain c.g (verifyType c) v)⟩

/-- Settles O28: each row runs its function; the drawn values come from one DRBG, whose state alone moves. -/
theorem signatureFunctionsAnswer : Obligations.SignatureFunctionsAnswer := by
  unfold Obligations.SignatureFunctionsAnswer
  refine ⟨answers_of_run (fun _ _ => rfl) fun c _ v _ _ => ⟨runEcdsaSign_steps c v, fun h => ?_, fun rs h hdet hrs => ?_, fun rs w h hdrawn hrs => ?_, fun w h hdrawn hrs => ?_⟩,
    answers_of_run (fun _ _ => rfl) fun c _ v _ _ => ⟨pure_plain .., rfl⟩, answers_of_run (fun _ _ => rfl) fun c _ v _ _ => ⟨?_, fun h => ?_, fun h hsalt => ?_, fun h hsalt => ?_⟩,
    answers_of_run (fun _ _ => rfl) fun c _ v _ _ => ⟨?_, fun h => ?_, fun h => ?_⟩, ?_⟩
  · rw [runEcdsaSign_fault v h]
    exact ⟨rfl, rfl⟩
  · rw [runEcdsaSign_signed v h, ecdsaValues, if_pos hdet, hrs]
    exact ⟨rfl, rfl⟩
  · rw [runEcdsaSign_signed v h, ecdsaValues, if_neg (by simp [hdrawn]), hrs]
    have hframe : Frame [.rng, .freeCount] (useKeyDomain c.g (c.key 0).keyType v) w := by
      have hsig := frame_drawnEcdsa c (domainAt c.gal (c.key 0).keyType) (ecPrivate (domainAt c.gal (c.key 0).keyType) (c.key 0).material) (sigDigest (signFields c.f)) 64 (useKeyDomain c.g (c.key 0).keyType v)
      rw [hrs] at hsig
      exact hsig.mono
    exact ⟨rfl, rfl, by simpa using hframe.record⟩
  · rw [runEcdsaSign_signed v h, ecdsaValues, if_neg (by simp [hdrawn]), hrs]
    exact ⟨rfl, rfl⟩
  · rw [runRsaSign_drawn v rfl]
    refine drawsOnly_of_frame ?_
    split
    · exact frame_drawBytes ..
    · exact .refl ..
  · rw [runRsaSign_drawn v (if_neg (by rw [h]; simp)), if_pos h]
    exact ⟨pure_plain .., rfl⟩
  · rw [runRsaSign_drawn v (if_neg (by simp [hsalt])), if_neg (by rw [h]; decide)]
    exact ⟨pure_plain .., rfl⟩
  · rw [runRsaSign_drawn v (if_pos ⟨h, hsalt⟩), if_neg (by rw [h]; decide)]
    exact ⟨rfl, rfl⟩
  · rw [runMldsaSign_drawn v rfl]
    refine drawsOnly_of_frame ?_
    split
    · exact .refl ..
    · exact frame_drawBytes ..
  · rw [runMldsaSign_drawn v (if_pos h)]
    exact ⟨pure_plain .., rfl⟩
  · rw [runMldsaSign_drawn v (if_neg (by simp [h]))]
    exact ⟨rfl, rfl⟩
  · intro p hp
    simp only [List.mem_cons, List.not_mem_nil, or_false] at hp
    obtain rfl | rfl | rfl | rfl := hp
    · exact answers_of_run (fun _ _ => rfl) fun c _ v _ _ => runVerify_answer c v
    · exact answers_of_run (fun _ _ => rfl) fun c _ v _ _ => runVerify_answer c v
    · exact answers_of_run (fun _ _ => rfl) fun c _ v _ _ => runVerify_answer c v
    · exact answers_of_run (fun _ _ => rfl) fun c _ v _ _ => runVerify_answer c v

end Sys2Proof.Machine

/-!
PROOFS, part 18: the functions of agreement, loadable curves and random bytes (O29).
-/

namespace Sys2Proof.Machine

set_option Elab.async false

open Sys2Proof.Safety

/-- The domain and the secret value that ECDH works with. -/
theorem runEcdh_answer (c : Ctx) (v : State) : (runEcdh c v).2.1 = [] ∧ (runEcdh c v).2.2 = useKeyDomain c.g (c.key 0).keyType v ∧
    (runEcdh c v).1 = if scalarOk (domainAt c.gal (c.key 0).keyType) (ecPrivate (domainAt c.gal (c.key 0).keyType) (c.key 0).material) then
      ((sharedSecret (domainAt c.gal (c.key 0).keyType) (ecPrivate (domainAt c.gal (c.key 0).keyType) (c.key 0).material) (agreePub c.f 50)).map
        (fun z => outputReplay c.f (c.key 1) (agreedKey (byteAt c.f 48) z (agreeInfo c.f 50 52) (templateBytes c.f)))).getD (statusOnly Status.paramRejected)
      else privateFault := by
  unfold runEcdh
  dsimp only
  generalize scalarOk (domainAt c.gal (c.key 0).keyType) (ecPrivate (domainAt c.gal (c.key 0).keyType) (c.key 0).material) = inRange
  generalize sharedSecret (domainAt c.gal (c.key 0).keyType) (ecPrivate (domainAt c.gal (c.key 0).keyType) (c.key 0).material) (agreePub c.f 50) = shared
  cases inRange with
  | false => exact ⟨rfl, rfl, rfl⟩
  | true =>
    cases shared with
    | none => exact ⟨rfl, rfl, rfl⟩
    | some z => exact ⟨rfl, rfl, rfl⟩

/-- ECDH_EPHEMERAL by what its drawn scalar gives. -/
theorem runEphemeral_answer (c : Ctx) (v : State) : (runEphemeral c v).2.1 = [] ∧
    (∀ z q, sharedSecret (domainAt c.gal (leAt c.f 40 4)) (drawScalar (drawInstance c) (domainAt c.gal (leAt c.f 40 4)) (useKeyDomain c.g (leAt c.f 40 4) v)).1 (agreePub c.f 46) = some z →
      ecPublic (domainAt c.gal (leAt c.f 40 4)).curve (drawScalar (drawInstance c) (domainAt c.gal (leAt c.f 40 4)) (useKeyDomain c.g (leAt c.f 40 4) v)).1 = some q →
      runEphemeral c v =
        let o := outputDrawn c (c.key 0) (agreedKey (byteAt c.f 44) z (agreeInfo c.f 46 48) (templateBytes c.f)) (ecEncode (domainAt c.gal (leAt c.f 40 4)).curve q)
          (drawScalar (drawInstance c) (domainAt c.gal (leAt c.f 40 4)) (useKeyDomain c.g (leAt c.f 40 4) v)).2
        (o.1, [], o.2)) ∧
    (sharedSecret (domainAt c.gal (leAt c.f 40 4)) (drawScalar (drawInstance c) (domainAt c.gal (leAt c.f 40 4)) (useKeyDomain c.g (leAt c.f 40 4) v)).1 (agreePub c.f 46) = none →
      runEphemeral c v = (statusOnly Status.paramRejected, [], (drawScalar (drawInstance c) (domainAt c.gal (leAt c.f 40 4)) (useKeyDomain c.g (leAt c.f 40 4) v)).2)) := by
  unfold runEphemeral
  dsimp only
  generalize drawScalar (drawInstance c) (domainAt c.gal (leAt c.f 40 4)) (useKeyDomain c.g (leAt c.f 40 4) v) = p
  refine ⟨?_, fun z q hz hq => by rw [hz, hq]; rfl, fun hz => by rw [hz]; rfl⟩
  split <;> rfl

theorem frame_outputDrawn (c : Ctx) (w : HeldKey) (kb extra : Bytes) (s : State) : Frame [.rng] s (outputDrawn c w kb extra s).2 := frame_drawPad ..

theorem runEncaps_draws (c : Ctx) (v : State) : DrawsOnly v (runEncaps c v) := by
  have hdraw := frame_drawBytes (drawInstance c) 32 v
  unfold runEncaps
  dsimp only
  generalize drawBytes (drawInstance c) 32 v = m at hdraw ⊢
  generalize kemEncaps (kemOf (leAt c.f 40 4)) (agreePub c.f 46) m.1 = e
  exact drawsOnly_of_frame (hdraw.trans (frame_outputDrawn ..))

theorem runOaep_answer (c : Ctx) (v : State) : Pure v (runOaep c v) ∧
    (runOaep c v).1 = match oaepDecode (hashAt (byteAt c.f 48)).run (hashAt (byteAt c.f 48)).len (agreeInfo c.f 50 52)
        (beBytes (rsaLen (c.key 0).keyType) (rsaPrivate (c.key 0).keyType (c.key 0).material (ofBE (agreePub c.f 50)))) with
      | some m => if m.length = templateBytes c.f then outputReplay c.f (c.key 1) m else statusOnly Status.verifyFailed
      | none => statusOnly Status.verifyFailed := by
  unfold runOaep
  dsimp only
  generalize oaepDecode (hashAt (byteAt c.f 48)).run (hashAt (byteAt c.f 48)).len (agreeInfo c.f 50 52)
    (beBytes (rsaLen (c.key 0).keyType) (rsaPrivate (c.key 0).keyType (c.key 0).material (ofBE (agreePub c.f 50)))) = decoded
  cases decoded with
  | none => exact ⟨pure_plain .., rfl⟩
  | some m =>
    dsimp only
    split
    · exact ⟨pure_plain .., rfl⟩
    · exact ⟨pure_plain .., rfl⟩

theorem runCurveLoad_full {c : Ctx} {v : State} {g : Gallery} (hgal : gal v c.g = some g)
    (h : slotQuotaOk g (leAt c.f 32 3) (plainRecord 6 c.g (leAt c.f 32 3) ((List.range 6).flatMap (loadedValue c.f))) = false) :
    runCurveLoad c v = (statusOnly Status.quotaExceeded, [], latchGallery c.g 19 v) := by
  unfold runCurveLoad
  dsimp only
  rw [if_pos (by simp [hgal, h])]
  rfl

theorem runCurveLoad_stored {c : Ctx} {v : State} {g : Gallery} (hgal : gal v c.g = some g)
    (h : slotQuotaOk g (leAt c.f 32 3) (plainRecord 6 c.g (leAt c.f 32 3) ((List.range 6).flatMap (loadedValue c.f))) = true) :
    let val := fun i => ofBE (loadedValue c.f i)
    let bad := (curveChecks (drawInstance c) (leAt c.f 36 2) (leAt c.f 38 2) { p := val 0, a := val 1, b := val 2, gx := val 3, gy := val 4, n := val 5 } v).1
    let verdict := [BitVec.ofNat 8 (b2n bad.isSome), BitVec.ofNat 8 ((bad.map (2 ^ ·)).getD 0)]
    (runCurveLoad c v).1 = okResp (verdict ++ zeros 6) ∧
    (runCurveLoad c v).2.1 = [.vrecord c.g (leAt c.f 32 3) (some { plainRecord 6 c.g (leAt c.f 32 3) ((List.range 6).flatMap (loadedValue c.f)) with
      keyId := leBytes 2 (leAt c.f 36 2) ++ leBytes 2 (leAt c.f 38 2) ++ verdict })] := by
  unfold runCurveLoad
  dsimp only
  rw [if_neg (by simp [hgal, h])]
  exact ⟨rfl, rfl⟩

/-- Settles O29: each row runs its function, whose answer follows what it computed or drew. -/
theorem agreementFunctionsAnswer : Obligations.AgreementFunctionsAnswer := by
  unfold Obligations.AgreementFunctionsAnswer
  refine ⟨answers_of_run (fun _ _ => rfl) fun c _ v _ _ => ?_, answers_of_run (fun _ _ => rfl) fun c _ v _ _ => ?_, answers_of_run (fun _ _ => rfl) fun c _ v _ _ => ?_,
    answers_of_run (fun _ _ => rfl) fun c _ v _ _ => ⟨pure_plain .., rfl⟩, answers_of_run (fun _ _ => rfl) fun c _ v _ _ => ?_,
    answers_of_run (fun _ _ => rfl) fun c _ v _ _ g hgal => ⟨fun h => ?_, fun h => runCurveLoad_stored hgal h⟩,
    answers_of_run (fun _ _ => rfl) fun c _ v _ _ => ⟨pure_plain .., fun r hr => ?_⟩, answers_of_run (fun _ _ => rfl) fun c _ v _ _ => ⟨rfl, drawsOnly_of_frame (frame_drawBytes ..), rfl⟩⟩
  · obtain ⟨hsteps, hstate, hresp⟩ := runEcdh_answer c v
    exact ⟨hsteps, hstate, fun h => by rw [hresp, h]; rfl, fun h hz => by rw [hresp, h, hz]; rfl, fun z h hz => by rw [hresp, h, hz]; rfl⟩
  · obtain ⟨hsteps, hshared, hinfinity⟩ := runEphemeral_answer c v
    exact ⟨hsteps, fun z q hz hq => by rw [hshared z q hz hq]; exact ⟨rfl, rfl, rfl⟩, fun hz => by rw [hinfinity hz]; exact ⟨rfl, rfl⟩⟩
  · exact ⟨runEncaps_draws c v, rfl, rfl, rfl⟩
  · obtain ⟨hpure, hresp⟩ := runOaep_answer c v
    exact ⟨hpure, fun m hm hlen => by rw [hresp, hm]; exact if_pos hlen, fun m hm hlen => by rw [hresp, hm]; exact if_neg hlen, fun hm => by rw [hresp, hm]⟩
  · rw [runCurveLoad_full hgal h]
    exact ⟨rfl, rfl, rfl⟩
  · show okResp (slice ((queriedCurve c).getD _).keyId 0 8 ++ sha256 ((queriedCurve c).getD _).material) = _
    rw [hr]
    rfl

end Sys2Proof.Machine

/-!
PROOFS, part 19: the functions of keys (O30). DEACCESSION takes one entry of a slot out of its gallery's record table; the statement is about every state, and in one whose table names a slot twice the other entry is found there afterwards. The statement does not ask that a table names a slot once.
-/

namespace Sys2Proof.Machine

set_option Elab.async false

open Sys2Proof.Safety

/-- DEACCESSION of slot 5. -/
def deaccessionFrame : Bytes := leBytes 2 0x0D02 ++ zeros 30 ++ [5] ++ zeros 31

/-- That command, taken by cell 0. -/
def deaccessionCommand : Desc :=
  { flow := 0, seq := 1, function := 0x0D02, frame := deaccessionFrame, digest := 0, st := .inService, rights := defaultRow
    copies := [{ cell := 0, secondary := false, complete := false, takenAt := 0 }] }

/-- The house gallery, its record table naming slot 5 twice. -/
def doubledGallery : Gallery := { dualGallery with records := [(5, plainRecord 5 0 5 []), (5, plainRecord 5 0 5 [])] }

/-- The module with that gallery and that command in cell 0. -/
def doubledState : State :=
  { State.reset with
    doc := { State.reset.doc with
      cells := [(0, { held := some 65535 })]
      descs := [(65535, deaccessionCommand)]
      flows := [(0, { sid := dualSid, next := 2, rel := 1 })] }
    vit := { State.reset.vit with galleries := [(0, doubledGallery)] } }

/-- What cell 0 holds. -/
def doubledCtx : Ctx := { cell := 0, t := 65535, d := deaccessionCommand, sid := dualSid, g := 0, gal := asTaken deaccessionCommand doubledGallery }

theorem serves_doubledState : Serves 0 0x0D02 doubledState doubledCtx :=
  ⟨rfl, by decide, by decide, rfl, by decide, fun h => absurd h (by decide)⟩

theorem charged_doubledState : Charged doubledCtx doubledState (updDesc 65535 (fun d => { d with stepped := d.stepped ++ [], changes := d.changes ++ [] }) doubledState) :=
  ⟨[], doubledState, rfl, rfl⟩

theorem recordAt_runDeaccession : ((gal (runDeaccession doubledCtx (updDesc 65535 (fun d => { d with stepped := d.stepped ++ [], changes := d.changes ++ [] }) doubledState)).2.2 0).bind
    (fun g => recordAt g 5)).isSome = true := by
  decide

/-- Refutes O30: after the DEACCESSION slot 5 is not empty. -/
theorem not_keyFunctionsAnswer : ¬ Obligations.KeyFunctionsAnswer := by
  unfold Obligations.KeyFunctionsAnswer
  rintro ⟨-, hdeaccession, -⟩
  obtain ⟨-, hfact⟩ := hdeaccession 0 doubledState _ doubledCtx serves_doubledState (by decide) charged_doubledState (fun h => absurd h (by decide))
  obtain ⟨-, -, g', hgal, hslot, -⟩ := hfact doubledGallery (plainRecord 5 0 5 []) rfl rfl
  have hempty : (gal (runDeaccession doubledCtx (updDesc 65535 (fun d => { d with stepped := d.stepped ++ [], changes := d.changes ++ [] }) doubledState)).2.2 0).bind
      (fun g => recordAt g 5) = none := by
    rw [show gal _ 0 = some g' from hgal]
    exact hslot
  have hfound := recordAt_runDeaccession
  rw [hempty] at hfound
  exact absurd hfound (by decide)

end Sys2Proof.Machine

/-!
PROOFS, part 20: the gallery functions and those of the meter (O31). GALLERY_REMOVE takes one entry of the gallery's ID out of the table of galleries; the statement is about every state, and in one whose table names an ID twice the other entry is found there afterwards. The statement does not ask that a table names an ID once.
-/

namespace Sys2Proof.Machine

set_option Elab.async false

open Sys2Proof.Safety

/-- GALLERY_REMOVE of gallery 7. -/
def removeFrame : Bytes := leBytes 2 0x0E04 ++ zeros 30 ++ [7] ++ zeros 31

/-- That command, taken by cell 0. -/
def removeCommand : Desc :=
  { flow := 0, seq := 1, function := 0x0E04, frame := removeFrame, digest := 0, st := .inService, rights := defaultRow
    copies := [{ cell := 0, secondary := false, complete := false, takenAt := 0 }] }

/-- Gallery 7, which writes no meter record. -/
def secondGallery : Gallery := { desc := { defaultTemplate with id := 7 }, index := 1, inst := 0, rootKey := zeros 32, rights := [] }

/-- The module with that command in cell 0, its table of galleries naming gallery 7 twice. -/
def twiceState : State :=
  { State.reset with
    doc := { State.reset.doc with
      cells := [(0, { held := some 65535 })]
      descs := [(65535, removeCommand)]
      flows := [(0, { sid := dualSid, next := 2, rel := 1 })] }
    vit := { State.reset.vit with galleries := [(0, dualGallery), (7, secondGallery), (7, secondGallery)] } }

/-- What cell 0 holds. -/
def twiceCtx : Ctx := { cell := 0, t := 65535, d := removeCommand, sid := dualSid, g := 0, gal := asTaken removeCommand dualGallery }

theorem serves_twiceState : Serves 0 0x0E04 twiceState twiceCtx :=
  ⟨rfl, by decide, by decide, rfl, by decide, fun h => absurd h (by decide)⟩

theorem charged_twiceState : Charged twiceCtx twiceState (updDesc 65535 (fun d => { d with stepped := d.stepped ++ [], changes := d.changes ++ [] }) twiceState) :=
  ⟨[], twiceState, rfl, rfl⟩

theorem gal_removeGallery :
    (gal (removeGallery twiceCtx (updDesc 65535 (fun d => { d with stepped := d.stepped ++ [], changes := d.changes ++ [] }) twiceState)).2.2 7).isSome = true := by
  decide

/-- Refutes O31: after the GALLERY_REMOVE gallery 7 is still homed here. -/
theorem not_galleryFunctionsAnswer : ¬ Obligations.GalleryFunctionsAnswer := by
  unfold Obligations.GalleryFunctionsAnswer
  rintro ⟨-, -, hremove, -⟩
  obtain ⟨-, -, -, hgone⟩ := hremove false 0 twiceState _ twiceCtx serves_twiceState (by decide) charged_twiceState (fun h => absurd h (by decide))
  have hfound := gal_removeGallery
  rw [show gal _ 7 = none from hgone] at hfound
  exact absurd hfound (by decide)

end Sys2Proof.Machine

/-!
PROOFS, part 21: MODE_SET, LCS_TRANSITION and COUNTERS_READ (O32).
-/

namespace Sys2Proof.Machine

set_option Elab.async false

open Sys2Proof.Safety

/-! A command whose effect is no function of a result: what it is allowed to do is done. -/

theorem drawsNow_of_function {d : Desc} {code : Nat} (h : d.function = code) (hspec : ∀ f, ((fnSpec code).map (fun x => x.random f)).getD false = false) : drawsNow d = false := by
  unfold drawsNow
  rw [h]
  exact hspec _

theorem runCmd_of_serves {cell : Fin 128} {code : Nat} {s : State} {c : Ctx} {check : Ctx → State → Option Resp} {act : Ctx → State → State}
    (hserves : Serves cell code s c) (hcheck : check c s = none) (hdraws : drawsNow c.d = false) : runCmd cell code check act s = act c s := by
  obtain ⟨hheld, hwait, haway, hprimary, hseed, -⟩ := hserves
  unfold runCmd
  rw [hheld]
  dsimp only
  rw [hprimary, if_neg (by simp), runPrimary, if_neg (by simp [hwait]), if_neg (by simp [haway]), hcheck]
  dsimp only
  rw [if_neg (by simp [hseed]), if_neg (by simp [hdraws])]

theorem runCmd_of_refused {cell : Fin 128} {code : Nat} {s : State} {c : Ctx} {check : Ctx → State → Option Resp} {r : Resp} (act : Ctx → State → State)
    (hserves : Serves cell code s c) (hcheck : check c s = some r) : runCmd cell code check act s = answerFn c.t r [] s := by
  obtain ⟨hheld, hwait, haway, hprimary, -, -⟩ := hserves
  unfold runCmd
  rw [hheld]
  dsimp only
  rw [hprimary, if_neg (by simp), runPrimary, if_neg (by simp [hwait]), if_neg (by simp [haway]), hcheck]

/-- The command that a cell holds stands in its descriptor. -/
theorem desc_of_heldCommand {cell code : Nat} {s : State} {c : Ctx} (h : heldCommand cell code s = some c) : desc s c.t = some c.d := by
  unfold heldCommand at h
  split at h
  · exact absurd h (by simp)
  · split at h
    · exact absurd h (by simp)
    · split at h
      · exact absurd h (by simp)
      · split at h
        · exact absurd h (by simp)
        · obtain ⟨-, hc⟩ := Option.ite_none_right_eq_some.mp h
          obtain rfl := Option.some.inj hc
          assumption

theorem resp_of_answerFn {t : Nat} {d : Desc} {s : State} (r : Resp) (ch : List Change) (h : desc s t = some d) : (desc (answerFn t r ch s) t).bind (·.resp) = some r := by
  unfold answerFn
  rw [desc_updDesc_same, h]
  rfl

/-! MODE_SET. -/

theorem frame_closeCeremony (s : State) (h : s.pow.ceremony = false) : closeCeremony s = s := by
  unfold closeCeremony
  rw [if_pos (by simp [h])]

theorem frame_beginWithdraw (s : State) : Frame [.pair, .doc] s (beginWithdraw s) :=
  .ite (fun _ => .refl ..) (fun _ => ⟨fun p hp => by cases p <;> simp [agree] at hp ⊢⟩)

theorem desc_beginWithdraw (s : State) : (beginWithdraw s).doc.descs = s.doc.descs := by
  unfold beginWithdraw
  split <;> rfl

theorem modeDone_effect {t : Nat} {s : State} {d : Desc} (h : desc s t = some d) : (modeDone t s).pow = s.pow ∧ (desc (modeDone t s) t).bind (·.resp) = some (okResp []) := by
  have hevent := frame_latchEvent 26 s
  unfold modeDone
  exact ⟨hevent.pow, resp_of_answerFn _ _ ((hevent.desc t).trans h)⟩

theorem exec_modeSet {cell : Fin 128} {s : State} {c : Ctx} (hserves : Serves cell 0x0E10 s c) (hnew : modeUnderWay s c.t = false) (hallowed : modeRefusal c s = none) :
    exec (.modeSet cell) s = .next (modeAct c s) := by
  show Host.Outcome.next (runCmd cell 0x0E10 modeCheck modeRun s) = _
  rw [runCmd_of_serves hserves (by rw [modeCheck, hnew, if_neg (by simp), hallowed]) (drawsNow_of_function (heldCommand_function hserves.1) fun _ => rfl), modeRun, hnew,
    if_neg (by simp)]

theorem askService_elsewhere {t m : Nat} {s : State} (hceremony : s.pow.ceremony = false) (hmode : s.pow.mode ≠ .quiesce) (hother : m ≠ s.pow.service) :
    askService t m s = { s with doc := { s.doc with modeChange := some { target := m, ticket := some t } }, pow := { s.pow with pending := true } } := by
  have hstay : (if s.pow.mode == .quiesce then setMode .service { s with pow := { s.pow with quiesce := none } } else s) = s := if_neg (by simpa using hmode)
  unfold askService
  rw [frame_closeCeremony s hceremony]
  simp only [hstay]
  exact if_neg hother

/-- Service resumes from QUIESCE: the drain is over. -/
def resumed (s : State) : State := setMode .service { s with pow := { s.pow with quiesce := none } }

theorem resumed_pow (s : State) : (resumed s).pow = { s.pow with quiesce := none, mode := .service, isolated := isolatedRole s.pair.role && Mode.service == .service, ready := Mode.service == .service } := by
  rw [resumed, setMode_pow]

theorem askService_resumed {t m : Nat} {s : State} (hceremony : s.pow.ceremony = false) (hmode : s.pow.mode = .quiesce) (hsame : m = s.pow.service) :
    askService t m s = modeDone t (resumed s) := by
  have hleave : (if s.pow.mode == .quiesce then setMode .service { s with pow := { s.pow with quiesce := none } } else s) = resumed s := if_pos (by simp [hmode])
  unfold askService
  rw [frame_closeCeremony s hceremony]
  simp only [hleave]
  exact if_pos (by rw [resumed_pow]; exact hsame)

/-- A change between service modes waits for the boundary. -/
theorem modeAct_service {c : Ctx} {s : State} (hpending : s.pow.pending = false) (hceremony : s.pow.ceremony = false) (htarget : byteAt c.f 32 ≤ 4) (hmode : s.pow.mode = .service)
    (hother : byteAt c.f 32 ≠ s.pow.service) :
    modeAct c s = { s with doc := { s.doc with modeChange := some { target := byteAt c.f 32, ticket := some c.t } }, pow := { s.pow with pending := true } } := by
  unfold modeAct
  dsimp only
  rw [if_neg (by simp [hpending]), if_pos htarget, askService_elsewhere hceremony (by rw [hmode]; decide) hother]

theorem modeAct_resume {c : Ctx} {s : State} {d : Desc} (hdesc : desc s c.t = some d) (hpending : s.pow.pending = false) (hceremony : s.pow.ceremony = false) (htarget : byteAt c.f 32 ≤ 4)
    (hmode : s.pow.mode = .quiesce) (hsame : byteAt c.f 32 = s.pow.service) :
    (modeAct c s).pow.mode = .service ∧ (modeAct c s).pow.quiesce = none ∧ (desc (modeAct c s) c.t).bind (·.resp) = some (okResp []) := by
  have heq : modeAct c s = modeDone c.t (resumed s) := by
    unfold modeAct
    dsimp only
    rw [if_neg (by simp [hpending]), if_pos htarget, askService_resumed hceremony hmode hsame]
  have hd : desc (resumed s) c.t = some d := ((frame_setMode ..).desc c.t).trans hdesc
  obtain ⟨hpow, hresp⟩ := modeDone_effect hd
  rw [heq]
  exact ⟨by rw [hpow, resumed_pow], by rw [hpow, resumed_pow], hresp⟩

/-- QUIESCE begins. -/
theorem modeAct_quiesce {c : Ctx} {s : State} (hpending : s.pow.pending = false) (hceremony : s.pow.ceremony = false) (htarget : byteAt c.f 32 = 6) (hmode : s.pow.mode = .service) :
    (modeAct c s).pow.mode = .quiesce ∧ (modeAct c s).doc.descs = s.doc.descs ∧ (modeAct c s).pow.quiesce = some {
      ticket := some c.t, drainAt := s.now + (if leAt c.f 36 4 = 0 then 100000000 else 1000 * leAt c.f 36 4), expired := false, complete := false, forUpdate := false } := by
  have heq : modeAct c s = enterQuiesce (some c.t) (if leAt c.f 36 4 = 0 then 100000000 else 1000 * leAt c.f 36 4) false s := by
    unfold modeAct
    dsimp only
    rw [if_neg (by simp [hpending]), if_neg (by rw [htarget]; decide), if_pos htarget, if_neg (by simp [hmode])]
  rw [heq, enterQuiesce, frame_closeCeremony s hceremony]
  have hframe := frame_beginWithdraw s
  have hdescs := desc_beginWithdraw s
  dsimp only
  generalize beginWithdraw s = b at hframe hdescs ⊢
  refine ⟨by rw [setMode_pow], ?_, by rw [setMode_pow, hframe.now]⟩
  rw [(frame_setMode ..).doc]
  exact hdescs

/-- UPDATE begins: the drain is over. -/
def updating (s : State) : State := setMode .update { s with pow := { s.pow with quiesce := none } }

/-- UPDATE is entered at once. -/
theorem modeAct_update {c : Ctx} {s : State} {d : Desc} (hdesc : desc s c.t = some d) (hpending : s.pow.pending = false) (htarget : byteAt c.f 32 = 7) :
    (modeAct c s).pow.mode = .update ∧ (desc (modeAct c s) c.t).bind (·.resp) = some (okResp []) := by
  have heq : modeAct c s = modeDone c.t (updating s) := by
    unfold modeAct
    dsimp only
    rw [if_neg (by simp [hpending]), if_neg (by rw [htarget]; decide), if_neg (by rw [htarget]; decide), if_pos htarget, updating]
  have hd : desc (updating s) c.t = some d := ((frame_setMode ..).desc c.t).trans hdesc
  obtain ⟨hpow, hresp⟩ := modeDone_effect hd
  rw [heq]
  exact ⟨by rw [hpow, updating, setMode_pow], hresp⟩

theorem frame_withMode (f : Power → Power) (s : State) : Frame [.fab, .pow, .cur] s (withMode f s) := by
  rw [withMode_only]
  exact ⟨fun p hp => by cases p <;> simp [agree] at hp ⊢⟩

/-- The ceremony begins; a load that was to be destroyed at the end of the last one is. -/
def ceremonyBegun (s : State) : State := latchEvent 39 (withMode (fun p => { p with ceremony := true }) (if s.vit.custody.dying then dropLoad s else s))

/-- CEREMONY is entered at once. -/
theorem modeAct_ceremony {c : Ctx} {s : State} {d : Desc} (hdesc : desc s c.t = some d) (hpending : s.pow.pending = false) (htarget : byteAt c.f 32 = 8) :
    (modeAct c s).pow.mode = s.pow.mode ∧ (modeAct c s).pow.ceremony = true ∧ (desc (modeAct c s) c.t).bind (·.resp) = some (okResp []) := by
  have hdrop : Frame [.vit] s (if s.vit.custody.dying then dropLoad s else s) := .ite (fun _ => frame_of_vit rfl) (fun _ => .refl ..)
  have hframe : Frame [.fab, .vit, .pow, .cur] s (ceremonyBegun s) := .andThen (.andThen hdrop.mono (frame_withMode ..)) (frame_latchEvent ..)
  have hpower : (ceremonyBegun s).pow = { s.pow with ceremony := true, ready := s.pow.mode == .service } := by
    rw [ceremonyBegun, (frame_latchEvent ..).pow, withMode_pow, hdrop.pow]
  have heq : modeAct c s = modeDone c.t (ceremonyBegun s) := by
    unfold modeAct
    dsimp only
    rw [if_neg (by simp [hpending]), if_neg (by rw [htarget]; decide), if_neg (by rw [htarget]; decide), if_neg (by rw [htarget]; decide), ceremonyBegun]
  obtain ⟨hpow, hresp⟩ := modeDone_effect ((hframe.desc c.t).trans hdesc)
  rw [heq]
  exact ⟨by rw [hpow, hpower], by rw [hpow, hpower], hresp⟩

end Sys2Proof.Machine

/-!
PROOFS, part 22: LCS_TRANSITION (O32). A refused request is logged before it is answered; the log is read by none of the checks.
-/

namespace Sys2Proof.Machine

set_option Elab.async false

open Sys2Proof.Safety

/-! The Curator's state is read by none of what a cell's command waits for. -/

theorem makeRoom_withCur (id n fuel : Nat) (s : State) (x : Curator) : (makeRoom id n fuel { s with cur := x }).isSome = (makeRoom id n fuel s).isSome := by
  induction fuel generalizing s with
  | zero =>
    rw [makeRoom, makeRoom, show journalFree { s with cur := x } id = journalFree s id from rfl]
    split <;> rfl
  | succ fuel ih =>
    rw [makeRoom, makeRoom, show journalFree { s with cur := x } id = journalFree s id from rfl, show reclaimFrom { s with cur := x } id = reclaimFrom s id from rfl]
    split
    · rfl
    · split
      · rfl
      · next v q _ => exact ih (updGal v (fun g => { g with journal := g.journal.filter (fun e => !(entryPages e).contains q), journalFull := true }) s)

theorem mustWait_withCur (s : State) (c : Ctx) (x : Curator) : mustWait { s with cur := x } c = mustWait s c := by
  have hpage : pageFor { s with cur := x } c.g = pageFor s c.g := makeRoom_withCur ..
  unfold mustWait
  rw [hpage]
  rfl

theorem serves_withCur {cell : Fin 128} {code : Nat} {s : State} {c : Ctx} (h : Serves cell code s c) (x : Curator) : Serves cell code { s with cur := x } c := by
  obtain ⟨hheld, hwait, haway, hprimary, hseed, hdraws⟩ := h
  exact ⟨hheld, (mustWait_withCur ..).trans hwait, haway, hprimary, hseed, hdraws⟩

/-! The transition. -/

theorem frame_eraseLine (byFatal : Bool) (s : State) : Frame [.fab, .vit, .rng, .pair, .bb, .pow] s (eraseLine byFatal s) :=
  ⟨fun p hp => by cases p <;> simp [agree] at hp ⊢ <;> rfl⟩

/-- What the transition's begin erases. -/
def lineErased (c : Ctx) (s : State) : State :=
  let a := logTransition (byteAt c.f 32) 0 s
  if (tokenClass a.reg.state (byteAt c.f 32) (byteAt c.f 33) a.fuses.codeE).getD 0 = 4 ∨ (tokenClass a.reg.state (byteAt c.f 32) (byteAt c.f 33) a.fuses.codeE).getD 0 = 5 then eraseLine false a else a

theorem frame_lineErased (c : Ctx) (s : State) : Frame [.fab, .vit, .rng, .pair, .bb, .pow, .cur] s (lineErased c s) :=
  (frame_logRecord ..).mono.trans (.ite (fun _ => (frame_eraseLine ..).mono) (fun _ => .refl ..))

theorem lcsTransition_begun {cell : Fin 128} {s : State} {c : Ctx} (hserves : Serves cell 0x0E40 s c) (hidle : s.reg.burn = none) (hcheck : transitionCheck c s = none) :
    exec (.lcsTransition cell) s = .next { lineErased c s with
      reg := { (lineErased c s).reg with burn := some { target := byteAt c.f 32, token := byteAt c.f 33, ticket := some c.t, bus := 0, at_ := (lineErased c s).now } } } := by
  have hlog : logRefusal cell s = s := by
    unfold logRefusal
    rw [hserves.1]
    dsimp only
    rw [hcheck]
  show Host.Outcome.next (runCmd cell 0x0E40 transitionCheck transitionAct (logRefusal cell s)) = _
  rw [hlog, runCmd_of_serves hserves hcheck (drawsNow_of_function (heldCommand_function hserves.1) fun _ => rfl), transitionAct, hidle, if_neg (by simp)]
  rfl

/-- A refusal is that of a reason, and ACCESS_DENIED. -/
theorem transitionCheck_refused {c : Ctx} {s : State} {r : Resp} (hidle : s.reg.burn = none) (h : transitionCheck c s = some r) :
    r.status = Status.accessDenied ∧ ∀ x, transitionCheck c { s with cur := x } = some r := by
  refine ⟨?_, fun x => h⟩
  unfold transitionCheck at h
  rw [hidle, if_neg (by simp)] at h
  obtain ⟨n, -, rfl⟩ := Option.map_eq_some_iff.mp h
  rfl

theorem lcsTransition_refused {cell : Fin 128} {s : State} {c : Ctx} {r : Resp} (hserves : Serves cell 0x0E40 s c) (hidle : s.reg.burn = none) (hcheck : transitionCheck c s = some r) :
    ∃ t, exec (.lcsTransition cell) s = .next t ∧ t = { s with doc := t.doc, cur := t.cur } ∧ (desc t c.t).bind (·.resp) = some r ∧ r.status = Status.accessDenied := by
  obtain ⟨hstatus, hagain⟩ := transitionCheck_refused hidle hcheck
  have hlog : logRefusal cell s = { s with cur := (logTransition (byteAt c.f 32) (byteAt r.payload 0) s).cur } := by
    unfold logRefusal
    rw [hserves.1]
    dsimp only
    rw [hcheck]
    exact logRecord_cur ..
  generalize (logTransition (byteAt c.f 32) (byteAt r.payload 0) s).cur = x at hlog
  have hheld := serves_withCur hserves x
  refine ⟨answerFn c.t r [] { s with cur := x }, ?_, rfl, resp_of_answerFn _ _ (desc_of_heldCommand hheld.1), hstatus⟩
  show Host.Outcome.next (runCmd cell 0x0E40 transitionCheck transitionAct (logRefusal cell s)) = _
  rw [hlog, runCmd_of_refused _ hheld (hagain x)]

/-- Settles O32: MODE_SET by its target, LCS_TRANSITION by its check. -/
theorem modeAndLifeCycleFunctions : Obligations.ModeAndLifeCycleFunctions := by
  unfold Obligations.ModeAndLifeCycleFunctions
  refine ⟨fun cell s c hserves hnew hallowed hpending hceremony => ?_, fun cell s c hserves hidle => ⟨fun hcheck => ?_, fun r hcheck => lcsTransition_refused hserves hidle hcheck⟩,
    answers_of_run (fun _ _ => rfl) fun c _ v _ _ => ⟨pure_plain .., rfl⟩⟩
  · have hexec := exec_modeSet hserves hnew hallowed
    have hdesc := desc_of_heldCommand hserves.1
    refine ⟨fun htarget hmode hother => ?_, fun htarget hmode hsame => ?_, fun htarget hmode => ?_, fun htarget => ?_, fun htarget => ?_⟩
    · rw [hexec, modeAct_service hpending hceremony htarget hmode hother]
    · exact ⟨_, hexec, modeAct_resume hdesc hpending hceremony htarget hmode hsame⟩
    · exact ⟨_, hexec, modeAct_quiesce hpending hceremony htarget hmode⟩
    · exact ⟨_, hexec, modeAct_update hdesc hpending htarget⟩
    · exact ⟨_, hexec, modeAct_ceremony hdesc hpending htarget⟩
  · have hframe := frame_lineErased c s
    exact ⟨_, lcsTransition_begun hserves hidle hcheck, hframe.fuses, hframe.doc, by rw [hframe.now]⟩

end Sys2Proof.Machine

/-!
PROOFS, part 23: the functions of the pair, of migration and of loans (O33).
-/

namespace Sys2Proof.Machine

set_option Elab.async false

open Sys2Proof.Safety

/-! What the steps of use budgets leave. -/

theorem frame_noteWrite (g slot : Nat) (s : State) : Frame [.pair] s (noteWrite g slot s) := .ite (fun _ => .refl ..) (fun _ => frame_of_pair rfl)

theorem frame_putRecordAt (g slot : Nat) (r : Option VRecord) (s : State) : Frame [.vit, .pair, .bb] s (putRecordAt g slot r s) :=
  .andThen (.andThen (Frame.mono (frame_noteWrite ..)) (frame_updGal ..)) (frame_touchVitrine ..)

theorem frame_stepBudget {g slot : Nat} {s u : State} {ch : Option Change} (h : stepBudget g slot s = some (ch, u)) : Frame [.vit, .pair, .bb] s u := by
  unfold stepBudget at h
  split at h
  · split at h
    · obtain ⟨-, rfl⟩ := Prod.mk.inj (Option.some.inj h)
      exact .refl ..
    · split at h
      · exact absurd h (by simp)
      · obtain ⟨-, rfl⟩ := Prod.mk.inj (Option.some.inj h)
        exact frame_putRecordAt ..
  · obtain ⟨-, rfl⟩ := Prod.mk.inj (Option.some.inj h)
    exact .refl ..

theorem frame_stepSlots {g : Nat} {ns : List Nat} {s u : State} {ch : List Change} (h : stepSlots g ns s = some (ch, u)) : Frame [.vit, .pair, .bb] s u := by
  induction ns generalizing s ch with
  | nil =>
    obtain ⟨-, rfl⟩ := Prod.mk.inj (Option.some.inj h)
    exact .refl ..
  | cons n ns ih =>
    rw [stepSlots] at h
    split at h
    · exact absurd h (by simp)
    · next step a hstep =>
      obtain ⟨⟨steps, b⟩, hrest, heq⟩ := Option.map_eq_some_iff.mp h
      obtain ⟨-, rfl⟩ := Prod.mk.inj heq
      exact (frame_stepBudget hstep).trans (ih hrest)

/-- A command that has stepped its budgets still stands in its descriptor. -/
theorem desc_of_charged {c : Ctx} {s v : State} {d : Desc} (h : Charged c s v) (hdesc : desc s c.t = some d) : ∃ e, desc v c.t = some e := by
  obtain ⟨steps, u, hsteps, rfl⟩ := h
  have hmap := desc_updDesc_same c.t (fun d => { d with stepped := d.stepped ++ owedSteps c, changes := d.changes ++ steps }) u
  rw [(frame_stepSlots hsteps).desc, hdesc] at hmap
  exact ⟨_, hmap⟩

/-- A command on the primary copy that a cell may still run has no response. -/
theorem resp_of_serves {cell : Fin 128} {code : Nat} {s : State} {c : Ctx} (h : Serves cell code s c) : c.d.resp = none := by
  obtain ⟨hheld, -, -, hprimary, -, -⟩ := h
  unfold heldCommand at hheld
  split at hheld
  · exact absurd hheld (by simp)
  · split at hheld
    · exact absurd hheld (by simp)
    · split at hheld
      · exact absurd hheld (by simp)
      · split at hheld
        · exact absurd hheld (by simp)
        · obtain ⟨⟨-, -, hresp, -⟩, hc⟩ := Option.ite_none_right_eq_some.mp hheld
          obtain rfl := Option.some.inj hc
          rwa [hprimary, if_neg (by simp)] at hresp

/-! The pair. -/

theorem frame_newHello (s : State) : Frame [.rng, .freeCount] s (newHello s).2.2 := by
  unfold newHello
  refine Frame.trans (t := (drawFree 4128 56 s).2) ?_ (.refl ..)
  unfold drawFree
  split
  · exact (frame_drawBytes ..).mono
  · exact ⟨fun p hp => by cases p <;> simp [agree, freeBytes] at hp ⊢⟩

theorem frame_startFar (m : Nat) (s : State) : Frame [.pair, .rng, .freeCount] s (startFar m s) := by
  have hhello := frame_newHello s
  unfold startFar
  dsimp only
  generalize newHello s = p at hhello ⊢
  exact .andThen (.andThen hhello.mono (frame_of_pair rfl)) (frame_sendTo ..)

theorem frame_openFars (s : State) : Frame [.pair, .rng, .freeCount] s (openFars s) :=
  .foldl (fun _ _ => .ite (fun _ => .refl ..) (fun _ => frame_startFar ..)) _ _

theorem frame_sendState (dst : Nat) (l : List CopyItem) (s : State) : Frame [.pair] s (sendState dst l s) := .foldl (fun _ _ => frame_sendTo ..) _ _

/-- A role as `setRole` notes it, before its anchor and its log. -/
def roleNoted (role : Role) (term cause : Nat) (s : State) : State :=
  { s with pair := { s.pair with
    termBefore := s.pair.term, role := role, term := term, cause := cause, at_ := bits (moduleTime s) 44 16
    hbPending := false, hbOut := s.pair.hbOut && rolePulses role } }

theorem frame_writeAnchor (s : State) : Frame [.vit] s (writeAnchor s) := .ite (fun _ => frame_of_vit rfl) (fun _ => frame_of_vit rfl)

theorem setRole_after (role : Role) (term cause : Nat) (s : State) : Frame [.fab, .pow, .cur] (writeAnchor (roleNoted role term cause s)) (setRole role term cause s) := by
  have hmode := frame_withMode (fun p => { p with isolated := isolatedRole role && p.mode == .service }) (writeAnchor (roleNoted role term cause s))
  unfold setRole
  exact hmode.andThen (frame_logRecord ..)

theorem setRole_pair (role : Role) (term cause : Nat) (s : State) : (setRole role term cause s).pair = (roleNoted role term cause s).pair := by
  rw [(setRole_after role term cause s).pair, (frame_writeAnchor ..).pair]

theorem setRole_doc (role : Role) (term cause : Nat) (s : State) : (setRole role term cause s).doc = s.doc := by
  rw [(setRole_after role term cause s).doc, (frame_writeAnchor ..).doc]
  rfl

theorem setRole_vit (role : Role) (term cause : Nat) {s : State} (h : s.pow.failWarning = false) :
    (setRole role term cause s).vit = { s.vit with anchorTerm := term, anchorRole := roleCode role, anchorOwed := false } := by
  rw [(setRole_after role term cause s).vit, writeAnchor]
  rw [if_neg (by simp [roleNoted, h])]
  rfl

theorem takeover_answer (c : Ctx) (v : State) : (takeover c v).2.2.pair.role = .sole ∧ (takeover c v).2.2.pair.term = v.pair.term + 2 ∧
    (v.pow.failWarning = false → (takeover c v).2.2.vit = { v.vit with anchorTerm := v.pair.term + 2, anchorRole := roleCode .sole, anchorOwed := false }) ∧
    (takeover c v).2.2.doc = v.doc := by
  unfold takeover
  dsimp only
  refine ⟨?_, ?_, fun h => setRole_vit _ _ _ h, setRole_doc ..⟩
  · rw [setRole_pair, roleNoted]
  · rw [setRole_pair, roleNoted]

/-- PAIR_SWAP goes on while the command is without a response. -/
theorem pairSwap_effect {cell : Fin 128} {s : State} {c : Ctx} (hserves : Serves cell 0x0E30 s c) (hcheck : swapRefusal c s = none) :
    let u := { s with pair := { s.pair with swapping := some c.t }, doc := { s.doc with blockOriginating := true } }
    (swapDrained c.t u = true → exec (.pairSwap cell) s = .next (answerFn c.t (okResp []) [] u)) ∧ (swapDrained c.t u = false → exec (.pairSwap cell) s = .next u) := by
  intro u
  have hresp := resp_of_serves hserves
  have hexec : exec (.pairSwap cell) s = .next (answerSwap u) :=
    congrArg Host.Outcome.next (runCmd_of_serves hserves hcheck (drawsNow_of_function (heldCommand_function hserves.1) fun _ => rfl))
  have hdesc : desc u c.t = some c.d := desc_of_heldCommand hserves.1
  have hanswer : answerSwap u = if swapDrained c.t u && ((desc u c.t).map (fun d => d.resp.isNone)).getD false then answerFn c.t (okResp []) [] u else u := rfl
  rw [hexec, hanswer, hdesc]
  exact ⟨fun h => by rw [h, if_pos (by simp [hresp])], fun h => by rw [h, if_neg (by simp)]⟩

/-! Migration. -/

/-- The gallery with its migration noted and its state sent. -/
theorem gal_updGal_same {s : State} {g : Nat} {y : Gallery} (f : Gallery → Gallery) (h : gal s g = some y) : gal (updGal g f s) g = some (f y) := by
  rw [gal_updGal, if_pos rfl, h]
  rfl

theorem migrateBegin_effect {full : Bool} {cell : Fin 128} {s v : State} {c : Ctx} {y : Gallery} (hserves : Serves cell 0x0E32 s c) (hcheck : beginRefusal full c s = none)
    (hcharged : Charged c s v) (hgal : gal v (leAt c.f 32 4) = some y) :
    ∃ t, exec (.migrateBegin cell full) s = .next t ∧ (desc t c.t).bind (·.resp) = some (okResp []) ∧
      t = { v with doc := t.doc, vit := t.vit, pair := t.pair, rng := t.rng, freeCount := t.freeCount } ∧ t.doc.flows = v.doc.flows ∧
      gal t (leAt c.f 32 4) = some { y with migration := some { home := leAt c.f 36 2, partner := leAt c.f 38 2 } } := by
  let a := updGal (leAt c.f 32 4) (fun x => { x with migration := some { home := leAt c.f 36 2, partner := leAt c.f 38 2 } }) v
  let b := sendState (leAt c.f 36 2) (migrationItems v (leAt c.f 32 4, y)) a
  have hrun : beginMigration c v = (okResp [], [.migration (leAt c.f 32 4) (some (leAt c.f 36 2, leAt c.f 38 2)) none], b) := by
    unfold beginMigration
    dsimp only
    rw [hgal]
  have hexec : exec (.migrateBegin cell full) s = .next (openFars (answerFn c.t (okResp []) [.migration (leAt c.f 32 4) (some (leAt c.f 36 2, leAt c.f 38 2)) none] b)) := by
    show Host.Outcome.next (openFars (runFn cell 0x0E32 (beginRefusal full) beginMigration s)) = _
    have hdraws : drawsNow c.d = false := drawsNow_of_function (heldCommand_function hserves.1) fun _ => rfl
    rw [runFn_of_serves hserves hcheck hcharged (fun h => absurd h (by simp [hdraws])), hrun]
  generalize hu : answerFn c.t (okResp []) [.migration (leAt c.f 32 4) (some (leAt c.f 36 2, leAt c.f 38 2)) none] b = u at hexec
  have hsent : Frame [.pair] a b := frame_sendState ..
  have hopen := frame_openFars u
  have hanswered : Frame [.doc, .vit, .pair, .rng, .freeCount] v u := by
    rw [← hu]
    exact .andThen (.andThen (Frame.mono (frame_updGal ..)) hsent) (frame_of_doc rfl)
  obtain ⟨d, hd⟩ := desc_of_charged hcharged (desc_of_heldCommand hserves.1)
  refine ⟨openFars u, hexec, ?_, by simpa using (hanswered.andThen hopen).record, ?_, ?_⟩
  · rw [hopen.desc, ← hu]
    exact resp_of_answerFn _ _ ((hsent.desc c.t).trans hd)
  · rw [hopen.doc, ← hu]
    show b.doc.flows = _
    rw [hsent.doc]
    rfl
  · rw [hopen.gal, ← hu]
    show gal b _ = _
    rw [hsent.gal]
    exact gal_updGal_same _ hgal

theorem cutMigration_answer {c : Ctx} {v : State} {m : Migration} (h : (gal v (leAt c.f 32 4)).bind (·.migration) = some m) :
    (cutMigration c v).1 = okResp (leBytes 4 (galleryFlows v (leAt c.f 32 4)).length ++ zeros 4 ++
      (galleryFlows v (leAt c.f 32 4)).flatMap (fun p => cutEntry (p.2.sid, p.2.next + leAt c.f 36 4))) ∧
    (cutMigration c v).2.1 = [.migration (leAt c.f 32 4) (some (m.home, m.partner)) (some ((galleryFlows v (leAt c.f 32 4)).map (fun p => (p.2.sid, p.2.next + leAt c.f 36 4))))] := by
  unfold cutMigration
  dsimp only
  rw [h]
  dsimp only
  refine ⟨?_, rfl⟩
  rw [List.length_map, List.flatMap_map]

theorem endMigration_answer {c : Ctx} {v : State} {y : Gallery} {m : Migration} (hgal : gal v (leAt c.f 32 4) = some y) (hm : y.migration = some m) :
    (endMigration c v).1 = okResp [] ∧ (endMigration c v).2.1 = [.gallery (leAt c.f 32 4) none 0 []] ∧ (∀ p ∈ (endMigration c v).2.2.doc.flows, p.2.sid.gallery ≠ leAt c.f 32 4) ∧
    mget (endMigration c v).2.2.vit.remote (leAt c.f 32 4) = some { y.desc with home := m.home, partner := m.partner } := by
  unfold endMigration
  dsimp only
  rw [hgal]
  dsimp only
  rw [hm]
  dsimp only
  refine ⟨rfl, rfl, fun p hp => ?_, mget_mset_same ..⟩
  simpa using (List.mem_filter.mp hp).2

theorem abortMigration_answer {c : Ctx} {v : State} {y : Gallery} {m : Migration} (hgal : gal v (leAt c.f 32 4) = some y) (hm : y.migration = some m) :
    (abortMigration c v).1 = okResp [] ∧ (abortMigration c v).2.1 = [.migration (leAt c.f 32 4) none none] ∧ gal (abortMigration c v).2.2 (leAt c.f 32 4) = some { y with migration := none } ∧
    (abortMigration c v).2.2 = { v with vit := (abortMigration c v).2.2.vit, pair := (abortMigration c v).2.2.pair } := by
  unfold abortMigration
  dsimp only
  rw [hgal]
  dsimp only [Option.bind_some]
  rw [hm]
  dsimp only
  have hsent := frame_sendState m.home [discardItem (leAt c.f 32 4)] (updGal (leAt c.f 32 4) (fun x => { x with migration := none }) v)
  have hboth : Frame [.vit, .pair] v (sendState m.home [discardItem (leAt c.f 32 4)] (updGal (leAt c.f 32 4) (fun x => { x with migration := none }) v)) :=
    .andThen (Frame.mono (frame_updGal ..)) hsent
  exact ⟨rfl, rfl, (hsent.gal _).trans (gal_updGal_same _ hgal), by simpa using hboth.record⟩

/-! Loans. -/

theorem loanCreate_effect {cell : Fin 128} {full : Bool} {s : State} {c : Ctx} {y : Gallery} (hserves : Serves cell 0x0E36 s c) (hcheck : loanRefusal full c s = none)
    (hgal : gal s (leAt c.f 32 4) = some y) (hnew : mhas y.loans (leAt c.f 36 2) = false) :
    ∃ t, exec (.loanCreate cell full) s = .next t ∧ t = { s with vit := t.vit, pair := t.pair, rng := t.rng, freeCount := t.freeCount } ∧
      gal t (leAt c.f 32 4) = some { y with loans := mset y.loans (leAt c.f 36 2) { partner := leAt c.f 38 2 } } := by
  let a := updGal (leAt c.f 32 4) (fun x => { x with loans := mset x.loans (leAt c.f 36 2) { partner := leAt c.f 38 2 } }) s
  let b := sendTo 3 (leAt c.f 36 2) (.stateEnd (leAt c.f 32 4)) (sendState (leAt c.f 36 2) (loanItems a (leAt c.f 32 4, y)) a)
  have hbegin : beginLoan c s = b := by
    unfold beginLoan
    dsimp only
    rw [hgal]
    exact if_neg (by simp [hnew])
  have hexec : exec (.loanCreate cell full) s = .next (openFars b) := by
    show Host.Outcome.next (openFars (runCmd cell 0x0E36 (loanRefusal full) beginLoan s)) = _
    rw [runCmd_of_serves hserves hcheck (drawsNow_of_function (heldCommand_function hserves.1) fun _ => rfl), hbegin]
  have hsent : Frame [.pair] a b := .trans (frame_sendState ..) (frame_sendTo ..)
  have hopen := frame_openFars b
  have hall : Frame [.vit, .pair, .rng, .freeCount] s (openFars b) := .andThen (.andThen (Frame.mono (frame_updGal ..)) hsent) hopen
  exact ⟨_, hexec, by simpa using hall.record, by rw [hopen.gal, hsent.gal]; exact gal_updGal_same _ hgal⟩

theorem frame_dropWaits (which : Desc → Bool) (ms : List Nat) (s : State) : Frame [.doc, .pair] s (dropWaits which ms s) := by
  unfold dropWaits
  dsimp only
  refine .trans (.foldl (fun _ _ => (frame_of_doc rfl).mono) _ _) (.foldl (fun a p => ?_) _ _)
  split
  · exact .ite (fun _ => (frame_sendPartner ..).mono) (fun _ => .refl ..)
  · exact .refl ..

theorem endLoan_answer {c : Ctx} {v : State} {y : Gallery} (hgal : gal v (leAt c.f 32 4) = some y) :
    (endLoan c v).1 = okResp [] ∧ (endLoan c v).2.1 = [.loan (leAt c.f 32 4) (leAt c.f 36 2) none] ∧
    gal (endLoan c v).2.2 (leAt c.f 32 4) = some { y with loans := mdel y.loans (leAt c.f 36 2) } ∧ (endLoan c v).2.2.fab = v.fab := by
  have hdrop := frame_dropWaits (fun d => d.loanGallery == leAt c.f 32 4) [leAt c.f 36 2] v
  unfold endLoan
  dsimp only
  generalize dropWaits (fun d => d.loanGallery == leAt c.f 32 4) [leAt c.f 36 2] v = a at hdrop ⊢
  have hsent := frame_sendState (leAt c.f 36 2) [discardItem (leAt c.f 32 4)] (updGal (leAt c.f 32 4) (fun x => { x with loans := mdel x.loans (leAt c.f 36 2) }) a)
  refine ⟨rfl, rfl, ?_, ?_⟩
  · rw [hsent.gal]
    exact gal_updGal_same _ ((hdrop.gal _).trans hgal)
  · rw [hsent.fab]
    exact hdrop.fab

/-- Settles O33: each function by what it notes and sends. -/
theorem pairFunctionsAnswer : Obligations.PairFunctionsAnswer := by
  unfold Obligations.PairFunctionsAnswer
  exact ⟨fun cell s c hserves hcheck => pairSwap_effect hserves hcheck,
    answers_of_run (fun _ _ => rfl) fun c _ v _ _ => ⟨rfl, rfl, takeover_answer c v⟩,
    fun full cell s v c y hserves hcheck hcharged hgal => migrateBegin_effect hserves hcheck hcharged hgal,
    answers_of_run (fun _ _ => rfl) fun c _ v _ _ m hm => cutMigration_answer hm,
    answers_of_run (fun _ _ => rfl) fun c _ v _ _ y m hgal hm => endMigration_answer hgal hm,
    answers_of_run (fun _ _ => rfl) fun c _ v _ _ y m hgal hm => abortMigration_answer hgal hm,
    fun cell full s c y hserves hcheck hgal hnew => loanCreate_effect hserves hcheck hgal hnew,
    answers_of_run (fun _ _ => rfl) fun c _ v _ _ y hgal => endLoan_answer hgal⟩

end Sys2Proof.Machine

/-!
PROOFS, part 24: what a function waits for and what it is refused for (O34). Every row runs its command through `runCmd`; the two that open handshakes do so afterwards.
-/

namespace Sys2Proof.Machine

set_option Elab.async false

open Sys2Proof.Safety

/-- What O34 says of one row, one cell and one state. -/
def TurnedAwayAt (p : FnRow) (cell : Fin 128) (s : State) : Prop :=
  (heldCommand cell p.code s = none → exec (p.row cell) s = .next s) ∧
  (∀ c, heldCommand cell p.code s = some c → (cellRegs s cell).secondary = true → (drawsNow c.d || c.d.originating) = true →
    exec (p.row cell) s = .next (updDesc c.t (fun d => { d with resp2 := d.resp }) s)) ∧
  (∀ c, heldCommand cell p.code s = some c → (cellRegs s cell).secondary = false →
    (mustWait s c = true → exec (p.row cell) s = .next s) ∧
    (mustWait s c = false → turnedAway s c = true → exec (p.row cell) s = .next (answerFn c.t (statusOnly Status.accessDenied) [] s)) ∧
    (mustWait s c = false → turnedAway s c = false →
      (∀ r, p.check c s = some r → exec (p.row cell) s = .next (answerFn c.t r [] s)) ∧
      (p.check c s = none → lacksSeed s c = true →
        exec (p.row cell) s = .next (if maskExhausted s (cell.val / 8) then offerWork (avoidEngine c.t (cell.val / 8) s) else s)) ∧
      (p.check c s = none → drawsNow c.d = true → lacksSeed s c = false → s.rng.fatal = true →
        exec (p.row cell) s = .next (answerFn c.t (statusOnly Status.entropyFailed) [] s)) ∧
      (p.check c s = none → drawsNow c.d = true → lacksSeed s c = false → s.rng.fatal = false → instServes s (drawInstance c) = false →
        exec (p.row cell) s = .next (queueDraw (drawInstance c) (mhas s.rng.drbgs (drawInstance c)) s)) ∧
      (Serves cell p.code s c → s.rng.starved = none → p.check c s = none → p.code ∉ [0x0E03, 0x0E10, 0x0E30, 0x0E36] → stepSlots c.g (owedSteps c) s = none →
        exec (p.row cell) s = .next (answerFn c.t (statusOnly Status.keyUseLimit) [] s))))

theorem cell_of_heldCommand {cell code : Nat} {s : State} {c : Ctx} (h : heldCommand cell code s = some c) : c.cell = cell := by
  unfold heldCommand at h
  split at h
  · exact absurd h (by simp)
  · split at h
    · exact absurd h (by simp)
    · split at h
      · exact absurd h (by simp)
      · split at h
        · exact absurd h (by simp)
        · obtain ⟨-, hc⟩ := Option.ite_none_right_eq_some.mp h
          obtain rfl := Option.some.inj hc
          rfl

/-- A command on the primary copy runs as `runPrimary` says. -/
theorem runCmd_of_primary {cell code : Nat} {s : State} {c : Ctx} (check : Ctx → State → Option Resp) (act : Ctx → State → State)
    (hheld : heldCommand cell code s = some c) (hprimary : (cellRegs s cell).secondary = false) : runCmd cell code check act s = runPrimary c check act s := by
  unfold runCmd
  rw [hheld]
  dsimp only
  rw [hprimary, if_neg (by simp)]

/-- Budgets that have run out are KEY_USE_LIMIT. -/
theorem applyFn_of_spent {c : Ctx} {s : State} (run : Ctx → State → FnResult) (h : stepSlots c.g (owedSteps c) s = none) :
    applyFn c run s = answerFn c.t (statusOnly Status.keyUseLimit) [] s := by
  unfold applyFn
  rw [show (finiteSlots c.d).filter (fun n => !c.d.stepped.contains n) = owedSteps c from rfl]
  dsimp only
  rw [h]

/-- The row of a command that `wrap` ends: it is turned away as its command is, where `wrap` does nothing on a state whose pair stands as before. -/
theorem turnedAway_of_cmd {p : FnRow} {act : Ctx → State → State} {wrap : State → State} {cell : Fin 128} {s : State}
    (hexec : exec (p.row cell) s = .next (wrap (runCmd cell p.code p.check act s)))
    (hwrap : ∀ t, t.pair = s.pair → wrap t = t) (hseed : (∀ t, wrap t = t) ∨ ∀ d, d.function = p.code → usesEngine d 2 = false)
    (hfn : p.code ∉ [0x0E03, 0x0E10, 0x0E30, 0x0E36] → ∃ run, act = fun c s => applyFn c run s) : TurnedAwayAt p cell s := by
  have hnext : ∀ t, runCmd cell p.code p.check act s = t → t.pair = s.pair → exec (p.row cell) s = .next t := fun t ht hpair => by rw [hexec, ht, hwrap t hpair]
  refine ⟨fun h => ?_, fun c hheld hsec hdraws => ?_, fun c hheld hprimary => ?_⟩
  · exact hnext s (by rw [runCmd, h]) rfl
  · refine hnext _ ?_ rfl
    unfold runCmd
    rw [hheld]
    dsimp only
    rw [if_pos hsec, runSecondary, if_pos hdraws]
  · have hrun := runCmd_of_primary p.check act hheld hprimary
    refine ⟨fun hwait => ?_, fun hwait haway => ?_, fun hwait haway => ⟨fun r hcheck => ?_, fun hcheck hlacks => ?_, fun hcheck hdraws hlacks hfatal => ?_,
      fun hcheck hdraws hlacks hfatal hinst => ?_, fun hserves hfed hcheck hcode hspent => ?_⟩⟩
    · exact hnext s (by rw [hrun, runPrimary, if_pos hwait]) rfl
    · exact hnext _ (by rw [hrun, runPrimary, if_neg (by simp [hwait]), if_pos haway]) rfl
    · refine hnext _ ?_ rfl
      rw [hrun, runPrimary, if_neg (by simp [hwait]), if_neg (by simp [haway]), hcheck]
    · have hcmd : runCmd cell p.code p.check act s = if maskExhausted s (cell.val / 8) then offerWork (avoidEngine c.t (cell.val / 8) s) else s := by
        rw [hrun, runPrimary, if_neg (by simp [hwait]), if_neg (by simp [haway]), hcheck]
        dsimp only
        rw [if_pos hlacks, cell_of_heldCommand hheld]
      obtain hid | hnone := hseed
      · rw [hexec, hcmd, hid]
      · simp [lacksSeed, hnone c.d (heldCommand_function hheld)] at hlacks
    · refine hnext _ ?_ rfl
      rw [hrun, runPrimary, if_neg (by simp [hwait]), if_neg (by simp [haway]), hcheck]
      dsimp only
      rw [if_neg (by simp [hlacks]), if_pos hdraws, if_pos hfatal]
    · refine hnext _ ?_ (frame_queueDraw ..).pair
      rw [hrun, runPrimary, if_neg (by simp [hwait]), if_neg (by simp [haway]), hcheck]
      dsimp only
      rw [if_neg (by simp [hlacks]), if_pos hdraws, if_neg (by simp [hfatal]), if_pos (by simp [hinst])]
    · obtain ⟨run, rfl⟩ := hfn hcode
      obtain ⟨-, -, -, -, hlacks, hserved⟩ := hserves
      refine hnext _ ?_ rfl
      rw [hrun, runPrimary, if_neg (by simp [hwait]), if_neg (by simp [haway]), hcheck]
      dsimp only
      rw [if_neg (by simp [hlacks])]
      split
      · next hdraws =>
        obtain ⟨hfatal, hinst⟩ := hserved hdraws
        rw [if_neg (by simp [hfatal]), if_neg (by simp [hinst]), applyFn_of_spent run hspent, unlessStarved]
        exact if_neg (by simp [answerFn, hfed])
      · exact applyFn_of_spent run hspent

/-! The rows. -/

/-- A row that runs its function and does nothing else. -/
def RunsFn (p : FnRow) : Prop := ∃ run, ∀ cell s, exec (p.row cell) s = .next (runFn cell p.code p.check run s)

theorem turnedAway_of_runsFn {p : FnRow} (h : RunsFn p) (cell : Fin 128) (s : State) : TurnedAwayAt p cell s := by
  obtain ⟨run, hrun⟩ := h
  exact turnedAway_of_cmd (wrap := fun t => t) (hrun cell s) (fun _ _ => rfl) (.inl fun _ => rfl) fun _ => ⟨run, rfl⟩

theorem runsFn_pinRows : ∀ p ∈ pinRows, RunsFn p := by
  intro p hp
  simp only [pinRows, List.mem_cons, List.not_mem_nil, or_false] at hp
  rcases hp with rfl | rfl | rfl | rfl | rfl | rfl | rfl <;> exact ⟨_, fun _ _ => rfl⟩

theorem runsFn_payRows : ∀ p ∈ payRows, RunsFn p := by
  intro p hp
  simp only [payRows, List.mem_cons, List.not_mem_nil, or_false] at hp
  rcases hp with rfl | rfl | rfl | rfl | rfl | rfl | rfl | rfl | rfl | rfl <;> exact ⟨_, fun _ _ => rfl⟩

theorem runsFn_blockRows : ∀ p ∈ blockRows, RunsFn p := by
  intro p hp
  simp only [blockRows, List.mem_cons, List.not_mem_nil, or_false] at hp
  rcases hp with rfl | rfl | rfl | rfl | rfl | rfl | rfl <;> exact ⟨_, fun _ _ => rfl⟩

theorem runsFn_cipherRows : ∀ p ∈ cipherRows, RunsFn p := by
  intro p hp
  simp only [cipherRows, List.mem_cons, List.not_mem_nil, or_false] at hp
  rcases hp with rfl | rfl | rfl | rfl | rfl | rfl | rfl | rfl | rfl | rfl | rfl | rfl <;> exact ⟨_, fun _ _ => rfl⟩

theorem runsFn_signRows : ∀ p ∈ signRows, RunsFn p := by
  intro p hp
  simp only [signRows, List.mem_cons, List.not_mem_nil, or_false] at hp
  rcases hp with rfl | rfl | rfl | rfl | rfl | rfl | rfl | rfl <;> exact ⟨_, fun _ _ => rfl⟩

theorem runsFn_agreeRows : ∀ p ∈ agreeRows, RunsFn p := by
  intro p hp
  simp only [agreeRows, List.mem_cons, List.not_mem_nil, or_false] at hp
  rcases hp with rfl | rfl | rfl | rfl | rfl | rfl | rfl | rfl <;> exact ⟨_, fun _ _ => rfl⟩

theorem runsFn_keyRows : ∀ p ∈ keyRows, RunsFn p := by
  intro p hp
  simp only [keyRows, List.mem_cons, List.not_mem_nil, or_false] at hp
  rcases hp with rfl | rfl | rfl | rfl <;> exact ⟨_, fun _ _ => rfl⟩

/-- A row whose command begins what goes on without it. -/
def RunsAct (p : FnRow) : Prop := p.code ∈ [0x0E03, 0x0E10, 0x0E30, 0x0E36] ∧ ∃ act, ∀ cell s, exec (p.row cell) s = .next (runCmd cell p.code p.check act s)

theorem turnedAway_of_runsAct {p : FnRow} (h : RunsAct p) (cell : Fin 128) (s : State) : TurnedAwayAt p cell s := by
  obtain ⟨hcode, act, hexec⟩ := h
  exact turnedAway_of_cmd (wrap := fun t => t) (hexec cell s) (fun _ _ => rfl) (.inl fun _ => rfl) fun h => absurd hcode h

theorem runs_moduleRows : ∀ p ∈ moduleRows, RunsFn p ∨ RunsAct p := by
  intro p hp
  simp only [moduleRows, List.mem_cons, List.not_mem_nil, or_false] at hp
  rcases hp with rfl | rfl | rfl | rfl | rfl | rfl | rfl | rfl | rfl | rfl | rfl | rfl | rfl | rfl | rfl | rfl | rfl
  case inr.inl => exact .inl ⟨bindGallery none, fun _ _ => rfl⟩
  case inr.inr.inl => exact .inr ⟨by simp, _, fun _ _ => rfl⟩
  case inr.inr.inr.inr.inr.inr.inr.inr.inl => exact .inr ⟨by simp, _, fun _ _ => rfl⟩
  case inr.inr.inr.inr.inr.inr.inr.inr.inr.inr.inl => exact .inr ⟨by simp, _, fun _ _ => rfl⟩
  all_goals exact .inl ⟨_, fun _ _ => rfl⟩

theorem openFars_of_none {t : State} (h : t.pair.farWaiting = []) : openFars t = t := by
  unfold openFars
  rw [h]
  rfl

/-- A frame that waits for a handshake opens it after the command. -/
theorem turnedAway_farRows (cell : Fin 128) (s : State) : ∀ p ∈ farRows, (s.pair.farWaiting = [] ∨ p.code ∉ [0x0E32, 0x0E36]) → TurnedAwayAt p cell s := by
  intro p hp hfar
  have hopen : (0x0E32 = p.code ∨ 0x0E36 = p.code) → ∀ t, t.pair = s.pair → openFars t = t := fun hcode t ht => by
    refine openFars_of_none ?_
    rw [ht]
    exact hfar.resolve_right fun hno => hno (by rcases hcode with h | h <;> simp [← h])
  simp only [farRows, List.flatMap_cons, List.flatMap_nil, List.append_nil, List.mem_append, List.mem_cons, List.not_mem_nil, or_false] at hp
  rcases hp with (rfl | rfl | rfl) | (rfl | rfl | rfl)
  case inl.inl => exact turnedAway_of_runsFn ⟨_, fun _ _ => rfl⟩ cell s
  case inr.inl => exact turnedAway_of_runsFn ⟨_, fun _ _ => rfl⟩ cell s
  case inl.inr.inl => exact turnedAway_of_cmd (wrap := openFars) rfl (hopen (.inl rfl)) (.inr fun d hd => by rw [usesEngine, hd]; rfl) fun _ => ⟨_, rfl⟩
  case inr.inr.inl => exact turnedAway_of_cmd (wrap := openFars) rfl (hopen (.inl rfl)) (.inr fun d hd => by rw [usesEngine, hd]; rfl) fun _ => ⟨_, rfl⟩
  case inl.inr.inr => exact turnedAway_of_cmd (wrap := openFars) rfl (hopen (.inr rfl)) (.inr fun d hd => by rw [usesEngine, hd]; rfl) fun h => absurd (by decide) h
  case inr.inr.inr => exact turnedAway_of_cmd (wrap := openFars) rfl (hopen (.inr rfl)) (.inr fun d hd => by rw [usesEngine, hd]; rfl) fun h => absurd (by decide) h

/-- Settles O34: each row is turned away as its command is. -/
theorem functionsTurnedAway : Obligations.FunctionsTurnedAway := by
  intro p hp cell s hfar
  show TurnedAwayAt p cell s
  simp only [functionRows, List.mem_append] at hp
  rcases hp with (((((((hp | hp) | hp) | hp) | hp) | hp) | hp) | hp) | hp
  · exact turnedAway_of_runsFn (runsFn_pinRows p hp) cell s
  · exact turnedAway_of_runsFn (runsFn_payRows p hp) cell s
  · exact turnedAway_of_runsFn (runsFn_blockRows p hp) cell s
  · exact turnedAway_of_runsFn (runsFn_cipherRows p hp) cell s
  · exact turnedAway_of_runsFn (runsFn_signRows p hp) cell s
  · exact turnedAway_of_runsFn (runsFn_agreeRows p hp) cell s
  · exact turnedAway_of_runsFn (runsFn_keyRows p hp) cell s
  · exact (runs_moduleRows p hp).elim (turnedAway_of_runsFn · cell s) (turnedAway_of_runsAct · cell s)
  · exact turnedAway_farRows cell s p hp hfar

end Sys2Proof.Machine

/-!
SUPPORT. What befalls one engine of one wing: `AtEngine ps h w s u e` says that `u` differs from `s` in the components `ps` at most, that the engine stands there as `e`, and that the other wings stand as before.
-/

namespace Sys2Proof.Machine

set_option Elab.async false

structure AtEngine (ps : List Part) (h : Bool) (w : Nat) (s u : State) (e : Engine) : Prop where
  frame : Frame ps s u
  here : engineOf u h w = e
  others : ∀ k, k ≠ w → wing u k = wing s k
  mem : (wing u w).mem = (wing s w).mem

theorem Frame.engineOf {ps : List Part} {s t : State} (f : Frame ps s t) (h : Bool) (w : Nat) (hp : .pow ∉ ps := by simp) : Machine.engineOf t h w = Machine.engineOf s h w := by
  unfold Machine.engineOf
  rw [f.wing w hp]

theorem Frame.servedBy {ps : List Part} {s t : State} (f : Frame ps s t) (cell : Nat) (hp : .doc ∉ ps := by simp) : Machine.servedBy t cell = Machine.servedBy s cell := by
  unfold Machine.servedBy
  rw [f.cellRegs cell hp, f.doc hp]
  simp only [f.desc _ hp]

theorem engineOf_updEngine_same (h : Bool) (w : Nat) (f : Engine → Engine) (s : State) : engineOf (updEngine h w f s) h w = f (engineOf s h w) := by
  rw [engineOf_updEngine, if_pos ⟨rfl, rfl⟩]

theorem wing_updEngine_ne {w k : Nat} (hk : k ≠ w) (h : Bool) (f : Engine → Engine) (s : State) : wing (updEngine h w f s) k = wing s k := by
  unfold updEngine
  rw [wing_updWing, if_neg hk]

theorem mem_updEngine (h : Bool) (w k : Nat) (f : Engine → Engine) (s : State) : (wing (updEngine h w f s) k).mem = (wing s k).mem := by
  unfold updEngine
  rw [wing_updWing]
  by_cases hk : k = w <;> cases h <;> simp [hk]

namespace AtEngine

variable {ps qs : List Part} {h : Bool} {w : Nat} {s u v : State} {e : Engine}

theorem refl (ps : List Part) (h : Bool) (w : Nat) (s : State) : AtEngine ps h w s s (engineOf s h w) := ⟨.refl .., rfl, fun _ _ => rfl, rfl⟩

theorem upd (a : AtEngine ps h w s u e) (f : Engine → Engine) (hp : .pow ∈ ps := by simp) : AtEngine ps h w s (updEngine h w f u) (f e) := by
  refine ⟨a.frame.trans ((frame_updEngine ..).mono (by simpa using hp)), ?_, fun k hk => ?_, ?_⟩
  · rw [engineOf_updEngine_same, a.here]
  · rw [wing_updEngine_ne hk, a.others k hk]
  · rw [mem_updEngine, a.mem]

/-- What comes after and leaves the wings alone leaves the engine. -/
theorem andThen (a : AtEngine ps h w s u e) (f : Frame qs u v) (hsub : qs ⊆ ps := by simp) (hpow : .pow ∉ qs := by simp) : AtEngine ps h w s v e :=
  ⟨a.frame.trans (f.mono hsub), (f.engineOf h w hpow).trans a.here, fun k hk => (f.wing k hpow).trans (a.others k hk), (congrArg Wing.mem (f.wing w hpow)).trans a.mem⟩

theorem mono (a : AtEngine ps h w s u e) (hsub : ps ⊆ qs := by simp) : AtEngine qs h w s u e := ⟨a.frame.mono hsub, a.here, a.others, a.mem⟩

end AtEngine

theorem frame_stampGrant (cls cell : Nat) (s : State) : Frame [.doc] s (stampGrant cls cell s) := by
  unfold stampGrant
  split
  · exact .ite (fun _ => .refl ..) (fun _ => frame_of_doc rfl)
  · exact .refl ..

theorem frame_stampRelease (cls cell : Nat) (s : State) : Frame [.doc] s (stampRelease cls cell s) := by
  unfold stampRelease
  split
  · exact frame_of_doc rfl
  · exact .refl ..

/-- The engine as a settlement of its cycles leaves it: `mhz` is its clock. -/
def settledAt (now mhz : Nat) (e : Engine) : Engine :=
  { e with
    holdBase := if e.owner.isSome || e.clearing then e.holdBase + (now - e.holdFrom) * mhz / 1000 else e.holdBase
    holdFrom := now
    waitFrom := if e.queue = [] then none else some now }

/-- The cycles of a hold and of a wait are counted. -/
def cyclesCounted (h : Bool) (w : Nat) (s : State) : State :=
  let e := engineOf s h w
  let mhz := engineMHz s w
  let s := if !h && e.owner.isSome then countEvent w 5 ((s.now - e.holdFrom) * mhz / 1000) (some e.gallery) s else s
  match e.waitFrom with
  | some t => if h then s else countEvent w 6 ((s.now - t) * mhz / 1000) (e.queue.head?.bind (fun c => (servedBy s (8 * w + c)).map (·.2.2))) s
  | none => s

theorem frame_cyclesCounted (h : Bool) (w : Nat) (s : State) : Frame [.cnt] s (cyclesCounted h w s) := by
  have hhold : Frame [.cnt] s (if !h && (engineOf s h w).owner.isSome then countEvent w 5 ((s.now - (engineOf s h w).holdFrom) * engineMHz s w / 1000) (some (engineOf s h w).gallery) s else s) :=
    .ite (fun _ => frame_countEvent ..) (fun _ => .refl ..)
  unfold cyclesCounted
  dsimp only
  split
  · exact hhold.trans (.ite (fun _ => .refl ..) (fun _ => frame_countEvent ..))
  · exact hhold

theorem settleEngine_eq (h : Bool) (w : Nat) (s : State) : settleEngine h w s = updEngine h w (settledAt (cyclesCounted h w s).now (engineMHz s w)) (cyclesCounted h w s) := rfl

theorem atEngine_settleEngine {ps : List Part} {h : Bool} {w : Nat} {s u : State} {e : Engine} (a : AtEngine ps h w s u e) (hpow : .pow ∈ ps := by simp) (hcnt : .cnt ∈ ps := by simp) :
    AtEngine ps h w s (settleEngine h w u) (settledAt u.now (engineMHz u w) e) := by
  have hcounted := frame_cyclesCounted h w u
  rw [settleEngine_eq, hcounted.now]
  exact (a.andThen hcounted (by simpa using hcnt)).upd _ hpow

/-- The engine as its clear leaves it. -/
def clearedAt (now mhz : Nat) (e : Engine) : Engine :=
  { settledAt now mhz e with
    owner := none, clearing := true, gallery := 0, holdBase := 0, keys := [], ctx := List.replicate 8 0, busy := none, pendingLoad := none, nonceIv := none }

theorem atEngine_clearEngine {ps : List Part} {h : Bool} {w : Nat} {s u : State} {e : Engine} (a : AtEngine ps h w s u e) (hpow : .pow ∈ ps := by simp) (hcnt : .cnt ∈ ps := by simp)
    (hdoc : .doc ∈ ps := by simp) : AtEngine ps h w s (clearEngine h w u) (clearedAt u.now (engineMHz u w) e) := by
  have hsettled := atEngine_settleEngine a hpow hcnt
  unfold clearEngine
  dsimp only
  split
  · exact (hsettled.andThen (frame_stampRelease ..) (by simpa using hdoc)).upd _ hpow
  · exact hsettled.upd _ hpow

/-- The engine as a grant to its oldest claim leaves it. -/
def grantedTo (c g : Nat) (rest : List Nat) (now mhz : Nat) (e : Engine) : Engine :=
  let x := settledAt now mhz e
  decideClaim c (grantOf true false ((e.holdId + 1) % 256)) { x with
    owner := some c, queue := rest, grantedClaim := mget x.claimedAt c, claimedAt := mdel x.claimedAt c, gallery := g, holdBase := 0, holdFrom := now, holdId := (e.holdId + 1) % 256
    waitFrom := if rest = [] then none else some now }

/-- While an engine is held, clearing, faulted or without a seed, or no claim waits, nothing is granted. -/
theorem grantNext_of_busy {h : Bool} {w : Nat} {s : State} (hbusy : ((engineOf s h w).owner.isSome || (engineOf s h w).clearing || (engineOf s h w).faulted || !(h || (engineOf s h w).seedReady)) = true) :
    grantNext h w s = s := by
  unfold grantNext
  dsimp only
  rw [if_pos hbusy]

theorem grantNext_of_none {h : Bool} {w : Nat} {s : State} (hqueue : (engineOf s h w).queue = []) : grantNext h w s = s := by
  unfold grantNext
  dsimp only
  split
  · rfl
  · rw [hqueue]

theorem atEngine_grantNext {ps : List Part} {h : Bool} {w : Nat} {s u : State} {e : Engine} {c : Nat} {rest : List Nat} (a : AtEngine ps h w s u e)
    (hfree : (e.owner.isSome || e.clearing || e.faulted || !(h || e.seedReady)) = false) (hqueue : e.queue = c :: rest)
    (hpow : .pow ∈ ps := by simp) (hcnt : .cnt ∈ ps := by simp) (hdoc : .doc ∈ ps := by simp) :
    AtEngine ps h w s (grantNext h w u) (grantedTo c (((servedBy u (8 * w + c)).map (·.2.2)).getD 0) rest u.now (engineMHz u w) e) := by
  have hsettled := atEngine_settleEngine a hpow hcnt
  have hnow : (settleEngine h w u).now = u.now := by
    rw [settleEngine_eq, updEngine_now, (frame_cyclesCounted h w u).now]
  unfold grantNext
  rw [a.here]
  dsimp only
  rw [hfree, if_neg Bool.false_ne_true, hqueue]
  dsimp only
  rw [hnow]
  have hupd := hsettled.upd (fun e' => decideClaim c (grantOf true false ((e.holdId + 1) % 256)) { e' with
    owner := some c, queue := rest, grantedClaim := mget e'.claimedAt c, claimedAt := mdel e'.claimedAt c, gallery := ((servedBy u (8 * w + c)).map (·.2.2)).getD 0, holdBase := 0,
    holdFrom := u.now, holdId := (e.holdId + 1) % 256, waitFrom := if rest = [] then none else some u.now }) hpow
  exact (hupd.andThen (frame_countEvent w (if h then 7 else 4) 1 (some (((servedBy u (8 * w + c)).map (·.2.2)).getD 0)) _) (by simpa using hcnt)).andThen
    (frame_stampGrant (if h then 2 else 1) (8 * w + c) _) (by simpa using hdoc)

end Sys2Proof.Machine

/-!
PROOFS, part 25: claims, grants and releases of the cipher engine and of the hash unit (O35).
-/

namespace Sys2Proof.Machine

set_option Elab.async false

open Sys2Proof.Safety

/-- A cell of a wing in RUN may claim the engine: it neither holds it nor has a claim out. -/
structure MayClaim (h : Bool) (cell : Nat) (s : State) : Prop where
  run : (wing s (cell / 8)).power = .run
  inUse : (wing s (cell / 8)).quarantined = false
  sound : (wing s (cell / 8)).retired = false
  owner : (engineOf s h (cell / 8)).owner ≠ some (cell % 8)
  queue : (engineOf s h (cell / 8)).queue.contains (cell % 8) = false
  grants : mhas (engineOf s h (cell / 8)).grants (cell % 8) = false
  reading : (engineOf s h (cell / 8)).reading.contains (cell % 8) = false

theorem claimEngine_of_may {h : Bool} {cell : Nat} {s : State} (m : MayClaim h cell s) : claimEngine h cell s =
    match servedBy s cell with
    | none => updEngine h (cell / 8) (fun e => decideClaim (cell % 8) (grantOf false false e.holdId) e) s
    | some (t, d, g) =>
      if !hasRight d.rights (if h then 3 else 2) rightUSE then updEngine h (cell / 8) (fun e => decideClaim (cell % 8) (grantOf false false e.holdId) e) s
      else if !h && maskExhausted s (cell / 8) then offerWork (avoidEngine t (cell / 8) s)
      else queueClaim h cell g s := by
  obtain ⟨hrun, hquarantined, hretired, howner, hqueue, hgrants, -⟩ := m
  unfold claimEngine
  dsimp only
  exact if_neg (by simp only [hrun, hquarantined, hretired, hqueue, hgrants]; simpa using howner)

theorem claimEngine_queued {h : Bool} {cell : Nat} {s : State} {t g : Nat} {d : Desc} (m : MayClaim h cell s) (hserved : servedBy s cell = some (t, d, g))
    (hright : hasRight d.rights (if h then 3 else 2) rightUSE = true) (hmask : (!h && maskExhausted s (cell / 8)) = false) : claimEngine h cell s = queueClaim h cell g s := by
  rw [claimEngine_of_may m, hserved]
  dsimp only
  rw [hright, if_neg (by simp), hmask, if_neg (by simp)]

/-- A claim that takes its place in the queue. -/
def claimQueued (now c : Nat) (e : Engine) : Engine :=
  { e with queue := insertClaim now c e.claimedAt e.queue, claimedAt := mset e.claimedAt c now, waitFrom := some (e.waitFrom.getD now) }

theorem queueClaim_enqueued {h : Bool} {cell g : Nat} {s : State} (hlate : ∀ o, grantedNow (engineOf s h (cell / 8)) s.now = some o → o ≤ cell % 8) :
    queueClaim h cell g s = grantNext h (cell / 8) (updEngine h (cell / 8) (claimQueued s.now (cell % 8)) s) := by
  unfold queueClaim
  dsimp only
  split
  · next o ho =>
    rw [if_neg (by have := hlate o ho; omega)]
    rfl
  · rfl

theorem grantedNow_of_free {e : Engine} {now : Nat} (h : e.owner = none) : grantedNow e now = none := by
  unfold grantedNow
  rw [h]

theorem owner_of_grantedNow {e : Engine} {now o : Nat} (h : grantedNow e now = some o) : e.owner = some o := by
  unfold grantedNow at h
  split at h
  · next x hx =>
    obtain ⟨-, heq⟩ := Option.ite_none_right_eq_some.mp h
    rw [hx, heq]
  · exact absurd h (by simp)

/-- A denial is put into the cell's grant register. -/
theorem atEngine_denied {h : Bool} {cell : Nat} {s : State} (m : MayClaim h cell s)
    (hdenied : ∀ t d g, servedBy s cell = some (t, d, g) → hasRight d.rights (if h then 3 else 2) rightUSE = false) :
    AtEngine [.pow] h (cell / 8) s (claimEngine h cell s)
      { engineOf s h (cell / 8) with grants := mset (engineOf s h (cell / 8)).grants (cell % 8) { granted := false, denied := true, wiped := false, holdId := (engineOf s h (cell / 8)).holdId } } := by
  have hupd : AtEngine [.pow] h (cell / 8) s (updEngine h (cell / 8) (fun e => decideClaim (cell % 8) (grantOf false false e.holdId) e) s)
      (decideClaim (cell % 8) (grantOf false false (engineOf s h (cell / 8)).holdId) (engineOf s h (cell / 8))) := (AtEngine.refl ..).upd _
  rw [decideClaim, m.reading, if_neg (by simp)] at hupd
  rw [claimEngine_of_may m]
  split
  · exact hupd
  · next t d g hserved =>
    rw [hdenied t d g hserved]
    exact hupd

/-- A free engine is granted at once, under the next HOLD_ID. -/
theorem atEngine_grantedAtOnce {h : Bool} {cell t g : Nat} {d : Desc} {s : State} (m : MayClaim h cell s) (hserved : servedBy s cell = some (t, d, g))
    (hright : hasRight d.rights (if h then 3 else 2) rightUSE = true) (howner : (engineOf s h (cell / 8)).owner = none) (hqueue : (engineOf s h (cell / 8)).queue = [])
    (hclear : (engineOf s h (cell / 8)).clearing = false) (hfault : (engineOf s h (cell / 8)).faulted = false) (hseed : (h || (engineOf s h (cell / 8)).seedReady) = true) :
    AtEngine [.pow, .doc, .cnt] h (cell / 8) s (claimEngine h cell s)
      (grantedTo (cell % 8) g [] s.now (engineMHz (updEngine h (cell / 8) (claimQueued s.now (cell % 8)) s) (cell / 8)) (claimQueued s.now (cell % 8) (engineOf s h (cell / 8)))) := by
  have hmask : (!h && maskExhausted s (cell / 8)) = false := by
    cases h with
    | true => rfl
    | false =>
      have hready : (wing s (cell / 8)).cen.seedReady = true := by simpa [engineOf] using hseed
      simp [maskExhausted, hready]
  have hqueued : AtEngine [.pow, .doc, .cnt] h (cell / 8) s (updEngine h (cell / 8) (claimQueued s.now (cell % 8)) s) (claimQueued s.now (cell % 8) (engineOf s h (cell / 8))) :=
    (AtEngine.refl ..).upd _
  have hlist : (claimQueued s.now (cell % 8) (engineOf s h (cell / 8))).queue = cell % 8 :: [] := by
    show insertClaim _ _ _ (engineOf s h (cell / 8)).queue = _
    rw [hqueue]
    rfl
  have hcell : 8 * (cell / 8) + cell % 8 = cell := by omega
  have hfree : ((claimQueued s.now (cell % 8) (engineOf s h (cell / 8))).owner.isSome || (claimQueued s.now (cell % 8) (engineOf s h (cell / 8))).clearing ||
      (claimQueued s.now (cell % 8) (engineOf s h (cell / 8))).faulted || !(h || (claimQueued s.now (cell % 8) (engineOf s h (cell / 8))).seedReady)) = false := by
    show ((engineOf s h (cell / 8)).owner.isSome || (engineOf s h (cell / 8)).clearing || (engineOf s h (cell / 8)).faulted || !(h || (engineOf s h (cell / 8)).seedReady)) = false
    rw [howner, hclear, hfault, hseed]
    rfl
  have hgrant := atEngine_grantNext hqueued hfree hlist
  rw [hcell, show servedBy (updEngine h (cell / 8) (claimQueued s.now (cell % 8)) s) cell = servedBy s cell from (frame_updEngine ..).servedBy cell, hserved] at hgrant
  rw [claimEngine_queued m hserved hright hmask, queueClaim_enqueued (fun o ho => by rw [grantedNow_of_free howner] at ho; exact absurd ho (by simp))]
  exact hgrant

theorem atEngine_waits {h : Bool} {cell t g o : Nat} {d : Desc} {s : State} (m : MayClaim h cell s) (hserved : servedBy s cell = some (t, d, g))
    (hright : hasRight d.rights (if h then 3 else 2) rightUSE = true) (hmask : (!h && maskExhausted s (cell / 8)) = false) (howner : (engineOf s h (cell / 8)).owner = some o)
    (hlate : grantedNow (engineOf s h (cell / 8)) s.now = none ∨ o ≤ cell % 8) :
    AtEngine [.pow] h (cell / 8) s (claimEngine h cell s) (claimQueued s.now (cell % 8) (engineOf s h (cell / 8))) := by
  rw [claimEngine_queued m hserved hright hmask, queueClaim_enqueued, grantNext_of_busy]
  · exact (AtEngine.refl ..).upd _
  · rw [engineOf_updEngine_same]
    simp [claimQueued, howner]
  · intro x hx
    obtain hnone | hle := hlate
    · exact absurd (hnone.symm.trans hx) (by simp)
    · have := (owner_of_grantedNow hx).symm.trans howner
      simp only [Option.some.injEq] at this
      omega

theorem atEngine_takenOver {h : Bool} {cell t g o : Nat} {d : Desc} {s : State} (m : MayClaim h cell s) (hserved : servedBy s cell = some (t, d, g))
    (hright : hasRight d.rights (if h then 3 else 2) rightUSE = true) (hmask : (!h && maskExhausted s (cell / 8)) = false)
    (hnow : grantedNow (engineOf s h (cell / 8)) s.now = some o) (hlower : cell % 8 < o) :
    AtEngine [.pow] h (cell / 8) s (claimEngine h cell s) { engineOf s h (cell / 8) with
      owner := some (cell % 8), gallery := g, grants := mset (mdel (engineOf s h (cell / 8)).grants o) (cell % 8) (grantOf true false (engineOf s h (cell / 8)).holdId),
      queue := o :: (engineOf s h (cell / 8)).queue, claimedAt := mset (engineOf s h (cell / 8)).claimedAt o s.now, waitFrom := some s.now } := by
  have htake : queueClaim h cell g s = takeOver h (cell / 8) (cell % 8) o g s := by
    unfold queueClaim
    dsimp only
    rw [hnow]
    exact if_pos hlower
  rw [claimEngine_queued m hserved hright hmask, htake]
  exact (AtEngine.refl ..).upd _

/-- Settles O35: both engines run the same functions, each of which changes one engine of one wing. -/
theorem engineClaims : Obligations.EngineClaims := by
  intro h cell s w c e claims
  have hclaim : exec (if h then .hsuClaim cell else .cenClaim cell) s = .next (claimEngine h cell s) := by cases h <;> rfl
  have hread : exec (if h then .hsuGrantRead cell else .cenGrantRead cell) s = .next (readGrant h cell s) := by cases h <;> rfl
  have hrelease : exec (if h then .hsuRelease cell else .cenRelease cell) s = .next (releaseEngine h cell s) := by cases h <;> rfl
  have hmay : claims → MayClaim h cell s := fun ⟨h1, h2, h3, h4, h5, h6, h7⟩ => ⟨h1, h2, h3, h4, h5, h6, h7⟩
  refine ⟨fun t d g hclaims hserved hright howner hqueue hclear hfault hseed => ?_, fun t d g o hclaims hserved hright hmask howner hlate => ?_,
    fun t d g o hclaims hserved hright hmask hnow hlower => ?_, fun hclaims hdenied => ?_, fun hwaits => ?_, fun hwaits => ?_, fun howner => ?_, fun howner => ?_⟩
  · have m := hmay hclaims
    have hat := atEngine_grantedAtOnce m hserved hright howner hqueue hclear hfault hseed
    refine ⟨_, hclaim, by simpa using hat.frame.record, ?_⟩
    rw [hat.here]
    have hreading : (engineOf s h (cell.val / 8)).reading.contains (cell.val % 8) = false := m.reading
    simp only [grantedTo, decideClaim, claimQueued, settledAt, hreading]
    exact ⟨rfl, rfl, rfl, rfl, rfl, mget_mset_same .., hat.others⟩
  · have hat := atEngine_waits (hmay hclaims) hserved hright hmask howner hlate
    exact ⟨_, hclaim, by simpa using hat.frame.record, hat.here, hat.others⟩
  · have hat := atEngine_takenOver (hmay hclaims) hserved hright hmask hnow hlower
    refine ⟨_, hclaim, by simpa using hat.frame.record, ?_⟩
    rw [hat.here]
    exact ⟨rfl, rfl, rfl, rfl, hat.others⟩
  · have hat := atEngine_denied (hmay hclaims) hdenied
    exact ⟨_, hclaim, by simpa using hat.frame.record, hat.here, hat.others⟩
  · have hat : AtEngine [.pow] h w s (readGrant h cell s) { e with grants := mdel e.grants c, lastRead := mset e.lastRead c (((mget e.grants c).map grantWord).getD 0) } := by
      unfold readGrant
      dsimp only
      rw [if_neg (by simpa using hwaits)]
      exact (AtEngine.refl ..).upd _
    exact ⟨_, hread, by simpa using hat.frame.record, hat.here, hat.others⟩
  · have hat : AtEngine [.pow] h w s (readGrant h cell s) { e with reading := if e.reading.contains c then e.reading else e.reading ++ [c] } := by
      unfold readGrant
      dsimp only
      rw [if_pos (by simpa using hwaits)]
      exact (AtEngine.refl ..).upd _
    exact ⟨_, hread, by simpa using hat.frame.record, hat.here, hat.others⟩
  · have hat : AtEngine [.pow, .doc, .cnt] h w s (releaseEngine h cell s) (clearedAt s.now (engineMHz s w) e) := by
      unfold releaseEngine
      rw [if_pos howner]
      exact atEngine_clearEngine (.refl ..)
    refine ⟨_, hrelease, by simpa using hat.frame.record, ?_⟩
    rw [hat.here]
    exact ⟨rfl, rfl, rfl, rfl, rfl, rfl, hat.others⟩
  · rw [hrelease, releaseEngine, if_neg howner]

end Sys2Proof.Machine

/-!
PROOFS, part 33: key loads and operations of the engines, and their ends.
-/

namespace Sys2Proof.Machine

set_option Elab.async false

/-! Stores and context words of a cell. -/

theorem frame_cellStores (w : Nat) (stores : List (Nat × Bytes)) (s : State) : Frame [.pow] s (cellStores w stores s) :=
  Frame.foldl (fun _ _ => .ite (fun _ => frame_updWing ..) (fun _ => .refl ..)) stores s

theorem frame_denyAccess (cell : Nat) (s : State) : Frame [.doc] s (denyAccess cell s) := by
  unfold denyAccess
  split
  · exact .ite (fun _ => frame_answerFn ..) (fun _ => .refl ..)
  · exact .refl ..

theorem engineOf_updWing_mem {w k : Nat} (h : Bool) (f : Wing → Mem) (s : State) : engineOf (updWing w (fun x => { x with mem := f x }) s) h k = engineOf s h k := by
  unfold engineOf
  rw [wing_updWing]
  by_cases hk : k = w <;> cases h <;> simp [hk]

/-- Stores into wing memory leave the engines as they are. -/
theorem engineOf_cellStores (h : Bool) (w k : Nat) (stores : List (Nat × Bytes)) (s : State) : engineOf (cellStores w stores s) h k = engineOf s h k := by
  unfold cellStores
  induction stores generalizing s with
  | nil => rfl
  | cons p rest ih =>
    rw [List.foldl_cons, ih]
    split
    · exact engineOf_updWing_mem h _ s
    · rfl

theorem engineOf_cellWrites (h : Bool) (cell k : Nat) (stores : List (Nat × Bytes)) (s : State) : engineOf (cellWrites cell stores s) h k = engineOf s h k := by
  unfold cellWrites
  split
  · rfl
  · split
    · exact engineOf_cellStores ..
    · exact (frame_denyAccess ..).engineOf h k

theorem owner_writeCtx (h : Bool) (cell : Nat) (ctx : Option (List W64)) (s : State) : (engineOf (writeCtx h cell ctx s) h (wingOf cell)).owner = (engineOf s h (wingOf cell)).owner := by
  unfold writeCtx
  split
  · split
    · rw [engineOf_updEngine_same]
    · rfl
  · rfl

/-- Only the holder writes the context words. -/
theorem writeCtx_of_other {h : Bool} {cell : Nat} {s : State} (hother : (engineOf s h (wingOf cell)).owner ≠ some (cell % 8)) (ctx : Option (List W64)) : writeCtx h cell ctx s = s := by
  unfold writeCtx
  split
  · rw [if_neg hother]
  · rfl

theorem owner_after_stores (h : Bool) (cell : Nat) (ctx : Option (List W64)) (stores : List (Nat × Bytes)) (s : State) :
    (engineOf (writeCtx h cell ctx (cellWrites cell stores s)) h (wingOf cell)).owner = (engineOf s h (wingOf cell)).owner := by
  rw [owner_writeCtx, engineOf_cellWrites]

/-! Key loads. -/

/-- What a load takes (R213): an entry of the gallery, live, of the engine's kind and of the entries named, while the engine does nothing else. -/
def Loadable (h : Bool) (e : Engine) (count : Nat) (s : State) (k : CacheEntry) : Prop :=
  e.busy = none ∧ e.pendingLoad = none ∧ k.gallery = e.gallery ∧ k.count = count ∧ entrySuits h k = true ∧ entryLive s k = true

theorem loadable_iff {h : Bool} {e : Engine} {count : Nat} {s : State} {k : CacheEntry} :
    (e.busy.isSome || e.pendingLoad.isSome || decide (k.gallery ≠ e.gallery) || decide (k.count ≠ count) || !entrySuits h k || !entryLive s k) = false ↔ Loadable h e count s k := by
  unfold Loadable
  simp [and_assoc]

section
variable {h step : Bool} {cell entry reg count : Nat} {s : State}

theorem loadKey_of_other (hother : (engineOf s h (wingOf cell)).owner ≠ some (cell % 8)) : loadKey h cell entry reg count step s = s := by
  unfold loadKey
  dsimp only
  rw [if_pos hother]

variable (howner : (engineOf s h (wingOf cell)).owner = some (cell % 8))
include howner

theorem loadKey_of_denied (hdenied : ∀ k, mget s.vit.cache entry = some k → ¬ Loadable h (engineOf s h (wingOf cell)) count s k) :
    loadKey h cell entry reg count step s = raiseStatus h (wingOf cell) 2 s := by
  unfold loadKey
  dsimp only
  rw [if_neg (not_not_intro howner)]
  cases hk : mget s.vit.cache entry with
  | none => rfl
  | some k =>
    dsimp only
    rw [if_pos (by rw [← Bool.not_eq_false, loadable_iff]; exact hdenied k hk)]

variable {k : CacheEntry} (hk : mget s.vit.cache entry = some k) (htaken : Loadable h (engineOf s h (wingOf cell)) count s k)
include hk htaken

theorem loadKey_of_waits (hwaits : (step && stepWaits s cell k) = true) :
    loadKey h cell entry reg count step s = updEngine h (wingOf cell) (fun e => { e with pendingLoad := some (cell, entry, reg, count) }) s := by
  unfold loadKey
  dsimp only
  rw [if_neg (not_not_intro howner), hk]
  dsimp only
  rw [if_neg (by rw [loadable_iff.mpr htaken]; exact Bool.false_ne_true), if_pos hwaits]

theorem loadKey_of_limit (hfree : (step && stepWaits s cell k) = false) (hstep : (if step then loadStep cell k s else some s) = none) :
    loadKey h cell entry reg count step s = raiseStatus h (wingOf cell) 3 s := by
  unfold loadKey
  dsimp only
  rw [if_neg (not_not_intro howner), hk]
  dsimp only
  rw [if_neg (by rw [loadable_iff.mpr htaken]; exact Bool.false_ne_true), hfree, if_neg Bool.false_ne_true, hstep]

theorem loadKey_of_taken {u : State} (hfree : (step && stepWaits s cell k) = false) (hstep : (if step then loadStep cell k s else some s) = some u) :
    loadKey h cell entry reg count step s = updEngine h (wingOf cell) (fun e => { e with busy := some {
      load := some (reg, entryKey entry k), dst := 0, out := [], ctxAfter := e.ctx, scratch := none, blocks := 0, endsAt := u.now + (if count = 2 then 300 else 200) } }) u := by
  unfold loadKey
  dsimp only
  rw [if_neg (not_not_intro howner), hk]
  dsimp only
  rw [if_neg (by rw [loadable_iff.mpr htaken]; exact Bool.false_ne_true), hfree, if_neg Bool.false_ne_true, hstep]

end

/-- The step of a load is one of the key cache and of its command: it leaves the engines. -/
theorem frame_loadStep {cell : Nat} {k : CacheEntry} {s u : State} (hstep : loadStep cell k s = some u) : Frame [.vit, .pair, .bb, .doc] s u := by
  unfold loadStep at hstep
  split at hstep
  · split at hstep
    · cases hstep; exact .refl ..
    · split at hstep
      · cases hstep
      next hbudget =>
        cases hstep
        exact (frame_stepBudget hbudget).mono.trans (frame_updDesc ..).mono
  · cases hstep; exact .refl ..

/-- A change of one engine, as the statements put it. -/
theorem updEngine_effect (h : Bool) (w : Nat) (f : Engine → Engine) (s : State) :
    updEngine h w f s = { s with pow := (updEngine h w f s).pow } ∧ engineOf (updEngine h w f s) h w = f (engineOf s h w) :=
  ⟨by simpa using (frame_updEngine h w f s).record, engineOf_updEngine_same ..⟩

theorem raiseStatus_effect (h : Bool) (w b : Nat) (s : State) :
    raiseStatus h w b s = { s with pow := (raiseStatus h w b s).pow } ∧ engineOf (raiseStatus h w b s) h w = { engineOf s h w with status := setBit (engineOf s h w).status b true } :=
  updEngine_effect ..

/-! The end of what an engine does. -/

theorem settleLoad_of_none {h : Bool} {w : Nat} {s : State} (hnone : (engineOf s h w).pendingLoad = none) : settleLoad h w s = s := by
  rw [settleLoad, hnone]

theorem settleLoad_of_waits {h : Bool} {w cell entry reg count : Nat} {k : CacheEntry} {s : State} (hkept : (engineOf s h w).pendingLoad = some (cell, entry, reg, count))
    (hk : mget s.vit.cache entry = some k) (hwaits : stepWaits s cell k = true) : settleLoad h w s = s := by
  rw [settleLoad, hkept]
  simp [hk, hwaits]

theorem completeOp_of_idle {h : Bool} {w : Nat} {s : State} (hsettled : settleLoad h w s = s) (hidle : (engineOf s h w).busy = none) : completeOp h w s = s := by
  unfold completeOp
  rw [hsettled]
  dsimp only
  rw [hidle]

/-- The engine as the end of an operation leaves it. -/
def opEnded (o : EngineOp) (e : Engine) : Engine :=
  { e with
    busy := none, ctx := o.ctxAfter
    scratch := match o.scratch with
      | some b => mset e.scratch (e.owner.getD 0) b
      | none => e.scratch }

/-- The engine as the end of a key load leaves it. -/
def loadEnded (r : Nat) (k : HeldKey) (e : Engine) : Engine := { e with busy := none, keys := mset e.keys r k, status := setBit e.status 1 true }

section
variable {h : Bool} {w : Nat} {o : EngineOp} {s : State} (hsettled : settleLoad h w s = s) (hbusy : (engineOf s h w).busy = some o)
include hsettled hbusy

theorem completeOp_of_load {r : Nat} {k : HeldKey} (hload : o.load = some (r, k)) : completeOp h w s = updEngine h w (loadEnded r k) (advanceTo o.endsAt s) := by
  unfold completeOp
  rw [hsettled]
  dsimp only
  rw [hbusy]
  dsimp only
  rw [hload]
  rfl

theorem completeOp_of_op (hload : o.load = none) :
    completeOp h w s = if o.out = [] then updEngine h w (opEnded o) (advanceTo o.endsAt s)
      else updWing w (fun x => { x with mem := memWriteBytes 0 x.mem o.dst o.out }) (updEngine h w (opEnded o) (advanceTo o.endsAt s)) := by
  unfold completeOp
  rw [hsettled]
  dsimp only
  rw [hbusy]
  dsimp only
  rw [hload]
  rfl

end

/-! Operations. -/

/-- The count of blocks and a change of seed leave what the engine does, and the wing's memory. -/
theorem busy_countEvent (w ev n : Nat) (g : Option Nat) (s : State) (h : Bool) (k : Nat) : engineOf (countEvent w ev n g s) h k = engineOf s h k := (frame_countEvent w ev n g s).engineOf h k

theorem changeSeed_keeps {s : State} (w : Nat) (hrng : s.rng.fatal = false) :
    (engineOf (changeSeed w s) false w).busy = (engineOf s false w).busy ∧ (wing (changeSeed w s) w).mem = (wing s w).mem := by
  unfold changeSeed
  split
  · exact ⟨rfl, rfl⟩
  · have hcount := fun a (u : State) => frame_countEvent w 17 1 a u
    rw [shedClaims_of_served w (by rw [(hcount _ _).rng]; exact hrng), (hcount _ _).engineOf, (hcount _ _).wing w, engineOf_updEngine_same, mem_updEngine]
    exact ⟨rfl, rfl⟩

theorem frame_countBlocks {s : State} (w n : Nat) (hrng : s.rng.fatal = false) : Frame [.pow, .cnt] s (countBlocks w n s) :=
  .trans (frame_updEngine ..).mono (.ite (fun _ => frame_changeSeed w hrng) (fun _ => .refl ..))

theorem countBlocks_keeps {s : State} (w n : Nat) (hrng : s.rng.fatal = false) :
    (engineOf (countBlocks w n s) false w).busy = (engineOf s false w).busy ∧ (wing (countBlocks w n s) w).mem = (wing s w).mem := by
  have hadded : (engineOf (updEngine false w (fun e => { e with seedBlocks := e.seedBlocks + n }) s) false w).busy = (engineOf s false w).busy ∧
      (wing (updEngine false w (fun e => { e with seedBlocks := e.seedBlocks + n }) s) w).mem = (wing s w).mem := by
    rw [engineOf_updEngine_same, mem_updEngine]
    exact ⟨rfl, rfl⟩
  unfold countBlocks
  dsimp only
  split
  · have hchanged := changeSeed_keeps (s := updEngine false w (fun e => { e with seedBlocks := e.seedBlocks + n }) s) w hrng
    exact ⟨hchanged.1.trans hadded.1, hchanged.2.trans hadded.2⟩
  · exact hadded

/-! The obligation's parts. -/

section
variable {cell : Fin 128} {word : W64} {ctx : Option (List W64)} {stores : List (Nat × Bytes)} {s : State}

theorem engineOp_of_other (h : Bool) (hother : (engineOf s h (wingOf cell.val)).owner ≠ some (cell.val % 8)) :
    exec (if h then .hsuOp cell word ctx stores else .cenOp cell word ctx stores) s = .next (cellWrites cell stores s) := by
  have hstill : (engineOf (cellWrites cell.val stores s) h (wingOf cell.val)).owner ≠ some (cell.val % 8) := by rwa [engineOf_cellWrites]
  cases h
  · show execCenOp cell word ctx stores s = _
    rw [execCenOp, writeCtx_of_other hstill]
    exact if_pos hstill
  · show execHsuOp cell word ctx stores s = _
    rw [execHsuOp, writeCtx_of_other hstill]
    exact if_pos hstill

variable {v : State}

theorem cenOp_eq (howner : (engineOf s false (wingOf cell.val)).owner = some (cell.val % 8)) (hv : writeCtx false cell ctx (cellWrites cell stores s) = v) :
    exec (.cenOp cell word ctx stores) s =
      if !(wingRight v cell rightRD && (wingRight v cell rightWR || decide (bits word.toNat 6 3 > 3))) then .next (denyAccess cell v)
      else if cenRefused v (wingOf cell.val) word.toNat then .next (raiseStatus false (wingOf cell.val) 4 v)
      else .next (startCen (wingOf cell.val) word.toNat v) := by
  show execCenOp cell word ctx stores s = _
  rw [execCenOp, hv]
  refine if_neg (not_not_intro ?_)
  rw [← hv, owner_after_stores, howner]

theorem hsuOp_eq (howner : (engineOf s true (wingOf cell.val)).owner = some (cell.val % 8)) (hv : writeCtx true cell ctx (cellWrites cell stores s) = v) :
    exec (.hsuOp cell word ctx stores) s =
      if !wingRight v cell rightRD then .next (denyAccess cell v)
      else if hsuRefused v (wingOf cell.val) word.toNat then .next (raiseStatus true (wingOf cell.val) 4 v)
      else .next (startHsu (wingOf cell.val) word.toNat v) := by
  show execHsuOp cell word ctx stores s = _
  rw [execHsuOp, hv]
  refine if_neg (not_not_intro ?_)
  rw [← hv, owner_after_stores, howner]

end

/-- What a started operation of the cipher engine leaves: the engine is occupied for the operation's cycles. -/
theorem startCen_effect {w word : Nat} {v : State} (hrng : v.rng.fatal = false) :
    startCen w word v = { v with pow := (startCen w word v).pow, cnt := (startCen w word v).cnt } ∧ (wing (startCen w word v) w).mem = (wing v w).mem ∧
      ((wing (startCen w word v) w).cen.busy).map (fun o => (o.load, o.dst, o.blocks, o.endsAt)) = some (none, 32 * bits word 63 48, bits word 28 16,
        v.now + cyclesNs (engineMHz v w) (cenCycles (bits word 6 3) (bit word 7) (bits word 28 16) ((cenLatency (bits word 2 0)).getD 0))) := by
  have hcount := frame_countEvent w 18 (bits word 28 16) (some (wing v w).cen.gallery) v
  have hmhz : engineMHz (countEvent w 18 (bits word 28 16) (some (wing v w).cen.gallery) v) w = engineMHz v w := by
    unfold engineMHz clockOf wingMode
    rw [hcount.pow]
  unfold startCen
  dsimp only
  generalize countEvent w 18 (bits word 28 16) (some (wing v w).cen.gallery) v = u at hcount hmhz ⊢
  generalize cenCompute _ _ _ _ _ _ = out
  generalize hx : updEngine false w _ u = x
  have hframe : Frame [.pow, .cnt] v x := hcount.mono.trans (hx ▸ (frame_updEngine ..).mono)
  have hkeeps := countBlocks_keeps (s := x) w (bits word 28 16) (by rw [hframe.rng, hrng])
  refine ⟨?_, ?_, ?_⟩
  · simpa using (hframe.trans ((frame_countBlocks w (bits word 28 16) (by rw [hframe.rng, hrng])).mono (qs := [.pow, .cnt]))).record
  · rw [hkeeps.2, ← hx, mem_updEngine, hcount.wing w]
  · have hbusy : (wing (countBlocks w (bits word 28 16) x) w).cen.busy = (engineOf x false w).busy := hkeeps.1
    rw [hbusy, ← hx, engineOf_updEngine_same, ← hcount.now, ← hmhz]
    rfl

theorem startHsu_effect {w word : Nat} (v : State) :
    startHsu w word v = { v with pow := (startHsu w word v).pow } ∧ (wing (startHsu w word v) w).mem = (wing v w).mem ∧
      ((wing (startHsu w word v) w).hsu.busy).map (fun o => (o.load, o.out, o.blocks, o.endsAt)) = some (none, [], bits word 28 16,
        v.now + cyclesNs (engineMHz v w) (bits word 28 16 * ((hsuBlock (bits word 2 0)).getD (64, 64)).2)) := by
  unfold startHsu
  dsimp only
  generalize putCtx _ _ _ = after
  generalize (if bits word 2 0 ≥ 4 then some _ else none) = scratch
  refine ⟨(updEngine_effect ..).1, mem_updEngine .., ?_⟩
  exact congrArg (fun e : Engine => e.busy.map (fun o => (o.load, o.out, o.blocks, o.endsAt))) (engineOf_updEngine_same true w _ v)

theorem frame_advanceTo (t : Nat) (s : State) : Frame [.now] s (advanceTo t s) := ⟨fun p hp => by cases p <;> simp [agree, advanceTo] at hp ⊢⟩

/-- What the end of an engine's operation or load leaves. -/
theorem completeOp_effect {w : Nat} {o : EngineOp} {s : State} (hbusy : (engineOf s false w).busy = some o) (hkept : (engineOf s false w).pendingLoad = none) :
    completeOp false w s = { s with pow := (completeOp false w s).pow, now := max s.now o.endsAt } ∧ (engineOf (completeOp false w s) false w).busy = none ∧
      (∀ r k, o.load = some (r, k) → engineOf (completeOp false w s) false w = loadEnded r k (engineOf s false w)) ∧
      (o.load = none → (engineOf (completeOp false w s) false w).ctx = o.ctxAfter ∧ (engineOf (completeOp false w s) false w).keys = (engineOf s false w).keys ∧
        (wing (completeOp false w s) w).mem = if o.out = [] then (wing s w).mem else memWriteBytes 0 (wing s w).mem o.dst o.out) := by
  have hsettled := settleLoad_of_none hkept
  have hclock := frame_advanceTo o.endsAt s
  cases hload : o.load with
  | some rk =>
    obtain ⟨r, k⟩ := rk
    rw [completeOp_of_load hsettled hbusy hload]
    obtain ⟨hrecord, hengine⟩ := updEngine_effect false w (loadEnded r k) (advanceTo o.endsAt s)
    rw [hclock.engineOf] at hengine
    refine ⟨hrecord, ?_, ?_, nofun⟩
    · rw [hengine]; rfl
    · intro r' k' h
      cases h
      exact hengine
  | none =>
    have hengine := engineOf_updEngine_same false w (opEnded o) (advanceTo o.endsAt s)
    rw [hclock.engineOf] at hengine
    have hmem := mem_updEngine false w w (opEnded o) (advanceTo o.endsAt s)
    rw [hclock.wing w] at hmem
    rw [completeOp_of_op hsettled hbusy hload]
    split
    · refine ⟨(updEngine_effect ..).1, ?_, nofun, fun _ => ⟨?_, ?_, hmem⟩⟩ <;> rw [hengine] <;> rfl
    · refine ⟨rfl, ?_, nofun, fun _ => ⟨?_, ?_, ?_⟩⟩
      · rw [engineOf_updWing_mem, hengine]; rfl
      · rw [engineOf_updWing_mem, hengine]; rfl
      · rw [engineOf_updWing_mem, hengine]; rfl
      · rw [wing_updWing, if_pos rfl, hmem]

/-- The row of a key load is the engine's load of its key register. -/
theorem keyload_eq (h two step : Bool) (cell : Fin 128) (entry : Fin 131072) (keyreg : Fin 4) (s : State) :
    exec (if h then .hsuKeyload cell entry two step else if step then .cenKeyloadStep cell entry keyreg else .cenKeyload cell entry keyreg) s =
      .next (loadKey h cell entry (if h then 0 else keyreg.val) (if h && two then 2 else 1) step s) := by
  cases h
  · cases step <;> rfl
  · cases two <;> rfl

/-- Settles O36. -/
theorem engineOperations : Obligations.EngineOperations := by
  unfold Obligations.EngineOperations
  refine ⟨fun h cell entry keyreg two step s => ?_, fun cell word ctx stores s => ?_, fun w o s hbusy hkept => ⟨_, rfl, completeOp_effect hbusy hkept⟩, fun w cell entry reg count k s hbusy hkept hk hwaits => ?_⟩
  · dsimp only
    rw [keyload_eq]
    refine ⟨fun hother => congrArg Host.Outcome.next (loadKey_of_other hother), fun k u howner hk htaken hfree hstep => ⟨_, rfl, ?_⟩, fun k howner hk htaken hstep hfree hnone => ⟨_, rfl, ?_⟩,
      fun k howner hk htaken hwaits => ⟨_, rfl, ?_⟩, fun howner hdenied => ⟨_, rfl, ?_⟩⟩
    · rw [loadKey_of_taken howner hk htaken hfree hstep]
      obtain ⟨hrecord, hengine⟩ := updEngine_effect h (wingOf cell.val) (fun e => { e with busy := some {
        load := some ((if h then 0 else keyreg.val), entryKey entry k), dst := 0, out := [], ctxAfter := e.ctx, scratch := none, blocks := 0
        endsAt := u.now + (if (if h && two then 2 else 1) = 2 then 300 else 200) } }) u
      have hctx : (engineOf u h (wingOf cell.val)).ctx = (engineOf s h (wingOf cell.val)).ctx := by
        cases step
        · cases hstep; rfl
        · rw [(frame_loadStep hstep).engineOf]
      refine ⟨hrecord, hengine.trans ?_⟩
      rw [hctx]
    · rw [loadKey_of_limit howner hk htaken (by rw [hfree, Bool.and_false]) (by rw [hstep]; exact hnone)]
      exact updEngine_effect ..
    · rw [loadKey_of_waits howner hk htaken hwaits]
      exact updEngine_effect ..
    · rw [loadKey_of_denied howner hdenied]
      exact updEngine_effect ..
  · refine ⟨fun h hother => engineOp_of_other h hother, fun howner => ?_, fun howner => ?_⟩
    · dsimp only
      rw [cenOp_eq howner rfl]
      refine ⟨fun hbarred => ?_, fun hpermitted hrefused => ⟨_, ?_, raiseStatus_effect ..⟩, fun hpermitted hrefused hrng => ⟨_, ?_, startCen_effect hrng⟩⟩
      · rw [hbarred]; rfl
      · rw [hpermitted]; exact (if_neg (by decide)).trans (if_pos hrefused)
      · rw [hpermitted]; exact (if_neg (by decide)).trans (if_neg (by rw [hrefused]; decide))
    · dsimp only
      rw [hsuOp_eq howner rfl]
      refine ⟨fun hbarred => ?_, fun hpermitted hrefused => ⟨_, ?_, raiseStatus_effect ..⟩, fun hpermitted hrefused => ⟨_, ?_, startHsu_effect _⟩⟩
      · rw [hbarred]; rfl
      · rw [hpermitted]; exact (if_neg (by decide)).trans (if_pos hrefused)
      · rw [hpermitted]; exact (if_neg (by decide)).trans (if_neg (by rw [hrefused]; decide))
  · exact congrArg Host.Outcome.next (completeOp_of_idle (settleLoad_of_waits hkept hk hwaits) hbusy)

end Sys2Proof.Machine

/-!
PROOFS, part 34: status and nonce reads of the engines, and what befalls them.
-/

namespace Sys2Proof.Machine

set_option Elab.async false

/-! Status reads. -/

theorem cen_updEngine (w : Nat) (f : Engine → Engine) (s : State) : (wing (updEngine false w f s) w).cen = f (wing s w).cen := engineOf_updEngine_same false w f s

/-- Whatever it found, nothing runs in an engine once what it did is completed. -/
theorem completeOp_idle (h : Bool) (w : Nat) (s : State) : (engineOf (completeOp h w s) h w).busy = none := by
  unfold completeOp
  dsimp only
  generalize settleLoad h w s = u
  split
  next hidle => exact hidle
  next o _ =>
    split
    · rw [engineOf_updEngine_same]
    · split
      · rw [engineOf_updEngine_same]
      · rw [engineOf_updWing_mem, engineOf_updEngine_same]

/-- The STATUS word that a read finds. -/
def statusRead (h : Bool) (w : Nat) (holder : Bool) (s : State) : W64 :=
  statusWord holder (engineOf s h w).status (recent 1000000000 s.now (engineOf s h w).alarms).length

section
variable {h : Bool} {cell : Nat} {s : State}

theorem readStatus_of_other (hother : (engineOf s h (wingOf cell)).owner ≠ some (cell % 8)) :
    readStatus h cell s = updEngine h (wingOf cell) (fun e => { e with lastRead := mset e.lastRead (cell % 8) (statusRead h (wingOf cell) false s) }) s := by
  have hholder : ((engineOf s h (wingOf cell)).owner == some (cell % 8)) = false := beq_false_of_ne hother
  unfold readStatus
  dsimp only
  rw [hholder]
  rfl

variable (howner : (engineOf s h (wingOf cell)).owner = some (cell % 8))
include howner

theorem readStatus_of_waits (hwaits : (engineOf (completeOp h (wingOf cell) s) h (wingOf cell)).pendingLoad.isSome = true) :
    readStatus h cell s = completeOp h (wingOf cell) s := by
  have hholder : ((engineOf s h (wingOf cell)).owner == some (cell % 8)) = true := by rw [howner]; exact beq_self_eq_true _
  unfold readStatus
  dsimp only
  rw [hholder]
  exact if_pos hwaits

theorem readStatus_of_holder (hfree : (engineOf (completeOp h (wingOf cell) s) h (wingOf cell)).pendingLoad = none) :
    readStatus h cell s = updEngine h (wingOf cell) (fun e => { e with
      lastRead := mset e.lastRead (cell % 8) (statusRead h (wingOf cell) true (completeOp h (wingOf cell) s)), status := 0 }) (completeOp h (wingOf cell) s) := by
  have hholder : ((engineOf s h (wingOf cell)).owner == some (cell % 8)) = true := by rw [howner]; exact beq_self_eq_true _
  unfold readStatus
  dsimp only
  rw [hholder]
  exact if_neg (by rw [if_pos rfl, hfree]; decide)

end

theorem statusRead_eq (h : Bool) (cell : Fin 128) (s : State) : exec (if h then .hsuStatusRead cell else .cenStatusRead cell) s = .next (readStatus h cell s) := by
  cases h <;> rfl

/-! Nonce reads. -/

theorem frame_raiseStatus (h : Bool) (w b : Nat) (s : State) : Frame [.pow] s (raiseStatus h w b s) := frame_updEngine ..

theorem cen_raiseStatus (w b : Nat) (s : State) : (wing (raiseStatus false w b s) w).cen = { (wing s w).cen with status := setBit (wing s w).cen.status b true } := cen_updEngine ..

theorem frame_putNonce (w c n : Nat) (iv : Option Bytes) (s : State) : Frame [.pow] s (putNonce w c n iv s) := frame_updEngine ..

theorem cen_putNonce (w c n : Nat) (iv : Option Bytes) (s : State) :
    (wing (putNonce w c n iv s) w).cen = { (wing s w).cen with lastRead := mset (wing s w).cen.lastRead c (BitVec.ofNat 64 n), nonceIv := if iv.isSome then iv else (wing s w).cen.nonceIv } :=
  cen_updEngine ..

theorem lastRead_putNonce (w c n : Nat) (iv : Option Bytes) (s : State) : mget (wing (putNonce w c n iv s) w).cen.lastRead c = some (BitVec.ofNat 64 n) := by
  rw [cen_putNonce]
  exact mget_mset_same ..

theorem nonceIv_putNonce (w c n : Nat) (iv : Bytes) (s : State) : (wing (putNonce w c n (some iv) s) w).cen.nonceIv = some iv := by
  rw [cen_putNonce]
  rfl

section
variable {cell : Fin 128} {s : State}

theorem nonceRead_of_other (hother : (wing s (wingOf cell.val)).cen.owner ≠ some (cell.val % 8)) : exec (.cenNonceRead cell) s = .next (putNonce (wingOf cell.val) (cell.val % 8) 0 none s) := by
  show execCenNonceRead cell s = _
  rw [execCenNonceRead]
  exact if_pos hother

variable (howner : (wing s (wingOf cell.val)).cen.owner = some (cell.val % 8))
include howner

theorem nonceRead_of_denied (hdenied : ∀ t d g, servedBy s cell = some (t, d, g) → bit d.privileges 1 = false ∨ s.fuses.nonceWithdrawn = true) :
    exec (.cenNonceRead cell) s = .next (putNonce (wingOf cell.val) (cell.val % 8) 0 none (raiseStatus false (wingOf cell.val) 8 s)) := by
  show execCenNonceRead cell s = _
  rw [execCenNonceRead]
  refine (if_neg (not_not_intro howner)).trans ?_
  split
  · rfl
  next t d g hserved =>
    refine if_pos ?_
    cases hdenied t d g hserved with
    | inl h => rw [h]; rfl
    | inr h => rw [h, Bool.or_true]

variable {t g : Nat} {d : Desc} (hserved : servedBy s cell = some (t, d, g)) (hpriv : bit d.privileges 1 = true) (hservice : s.fuses.nonceWithdrawn = false)
include hserved hpriv hservice

theorem nonceRead_of_secondary {n : Nat} (hsecondary : (cellRegs s cell).secondary = true) (hdrawn : d.nonces[d.nonceTaken]? = some n) :
    exec (.cenNonceRead cell) s = .next (putNonce (wingOf cell.val) (cell.val % 8) n (some (nonceOf s n)) (updDesc t (fun d => { d with nonceTaken := d.nonceTaken + 1 }) s)) := by
  show execCenNonceRead cell s = _
  rw [execCenNonceRead]
  refine (if_neg (not_not_intro howner)).trans ?_
  simp only [hserved]
  rw [if_neg (by rw [hpriv, hservice]; decide), if_pos hsecondary]
  simp only [hdrawn]

theorem nonceRead_of_primary (hprimary : (cellRegs s cell).secondary = false) :
    exec (.cenNonceRead cell) s = .next (putNonce (wingOf cell.val) (cell.val % 8) s.rng.nonceCounter (some (nonceOf s s.rng.nonceCounter)) (updDesc t (fun d => { d with
      nonces := d.nonces ++ [s.rng.nonceCounter], changes := d.changes ++ [.nonce (nonceOf s s.rng.nonceCounter)] }) (nextNonce s).2)) := by
  show execCenNonceRead cell s = _
  rw [execCenNonceRead]
  refine (if_neg (not_not_intro howner)).trans ?_
  simp only [hserved]
  rw [if_neg (by rw [hpriv, hservice]; decide), if_neg (by rw [hprimary]; decide)]
  rfl

end

theorem frame_nextNonce (s : State) : Frame [.rng, .bb] s (nextNonce s).2 := ⟨fun p hp => by cases p <;> simp [agree, nextNonce] at hp ⊢⟩

/-- The reservation mark stays above the counter (R222). -/
theorem nonceMark_nextNonce {s : State} (hbelow : s.rng.nonceCounter < s.bb.nonceMark) : (nextNonce s).2.rng.nonceCounter < (nextNonce s).2.bb.nonceMark := by
  unfold nextNonce
  dsimp only
  split <;> omega

theorem nonceDrawn_effect (w c n t : Nat) (iv : Option Bytes) (f : Desc → Desc) (s : State) : 
    putNonce w c n iv (updDesc t f (nextNonce s).2) = { s with
      pow := (putNonce w c n iv (updDesc t f (nextNonce s).2)).pow, doc := (putNonce w c n iv (updDesc t f (nextNonce s).2)).doc
      rng := (putNonce w c n iv (updDesc t f (nextNonce s).2)).rng, bb := (putNonce w c n iv (updDesc t f (nextNonce s).2)).bb } := by
  have hframe : Frame [.pow, .doc, .rng, .bb] s _ := ((frame_nextNonce s).mono.trans (frame_updDesc t f _).mono).trans (frame_putNonce w c n iv _).mono
  simpa using hframe.record

theorem nonceGiven_effect (w c n t : Nat) (iv : Option Bytes) (f : Desc → Desc) (s : State) :
    putNonce w c n iv (updDesc t f s) = { s with pow := (putNonce w c n iv (updDesc t f s)).pow, doc := (putNonce w c n iv (updDesc t f s)).doc } := by
  have hframe : Frame [.pow, .doc] s _ := (frame_updDesc t f s).mono.trans (frame_putNonce w c n iv _).mono
  simpa using hframe.record

theorem nonceDenied_effect (w c : Nat) (s : State) :
    putNonce w c 0 none (raiseStatus false w 8 s) = { s with pow := (putNonce w c 0 none (raiseStatus false w 8 s)).pow } := by
  have hframe : Frame [.pow] s _ := (frame_raiseStatus false w 8 s).trans (frame_putNonce w c 0 none _)
  simpa using hframe.record

/-- Settles O37. -/
theorem engineReads : Obligations.EngineReads := by
  unfold Obligations.EngineReads
  refine ⟨fun h cell s => ?_, fun cell s => ?_⟩
  · dsimp only
    rw [statusRead_eq]
    refine ⟨fun hother => ⟨_, rfl, ?_⟩, fun howner hwaits => congrArg Host.Outcome.next (readStatus_of_waits howner hwaits), fun howner hfree => ⟨_, rfl, ?_⟩⟩
    · rw [readStatus_of_other hother]
      exact updEngine_effect ..
    · rw [readStatus_of_holder howner hfree]
      obtain ⟨hrecord, hengine⟩ := updEngine_effect h (wingOf cell.val) (fun e => { e with
        lastRead := mset e.lastRead (cell.val % 8) (statusRead h (wingOf cell.val) true (completeOp h (wingOf cell.val) s)), status := 0 }) (completeOp h (wingOf cell.val) s)
      refine ⟨hrecord, (congrArg Engine.status hengine), (congrArg Engine.busy hengine).trans (completeOp_idle ..), (congrArg (fun e : Engine => mget e.lastRead (cell.val % 8)) hengine).trans ?_⟩
      exact mget_mset_same ..
  · refine ⟨fun t d g howner hserved hpriv hservice hprimary => ⟨_, nonceRead_of_primary howner hserved hpriv hservice hprimary, ?_, rfl, fun hbelow => nonceMark_nextNonce hbelow, lastRead_putNonce .., nonceIv_putNonce ..⟩,
      fun t d g n howner hserved hpriv hservice hsecondary hdrawn => ⟨_, nonceRead_of_secondary howner hserved hpriv hservice hsecondary hdrawn, ?_, lastRead_putNonce .., nonceIv_putNonce ..⟩,
      fun howner hdenied => ⟨_, nonceRead_of_denied howner hdenied, ?_, lastRead_putNonce .., ?_, ?_⟩, fun hother => ⟨_, nonceRead_of_other hother, ?_, ?_⟩⟩
    · exact nonceDrawn_effect ..
    · exact nonceGiven_effect ..
    · exact nonceDenied_effect ..
    · show (wing _ (wingOf cell.val)).cen.status = _
      rw [cen_putNonce, cen_raiseStatus]
    · show (wing _ (wingOf cell.val)).cen.nonceIv = _
      rw [cen_putNonce, cen_raiseStatus]
      rfl
    · simpa using (frame_putNonce (wingOf cell.val) (cell.val % 8) 0 none s).record
    · exact cen_putNonce ..

/-! What befalls an engine. -/

section
variable (c g : Nat) (rest : List Nat) (now mhz : Nat) (e : Engine)

theorem owner_grantedTo : (grantedTo c g rest now mhz e).owner = some c := by unfold grantedTo decideClaim; dsimp only; split <;> rfl
theorem queue_grantedTo : (grantedTo c g rest now mhz e).queue = rest := by unfold grantedTo decideClaim; dsimp only; split <;> rfl
theorem clearing_grantedTo : (grantedTo c g rest now mhz e).clearing = e.clearing := by unfold grantedTo decideClaim; dsimp only; split <;> rfl

end

section
variable {h : Bool} {wing : Fin 16} {s : State}

theorem clearDone_of_idle (ok : Bool) (hidle : (engineOf s h wing).clearing = false) : exec (.engineClearDone wing h ok) s = .next s := by
  show execEngineClearDone wing h ok s = _
  rw [execEngineClearDone]
  exact if_pos (by rw [hidle]; rfl)

/-- The engine as it stands at its clear's end. -/
def clearEnded (h : Bool) (w : Nat) (s : State) : State :=
  updEngine h w (fun e => { e with clearing := false }) (advanceTo ((engineOf s h w).holdFrom + cyclesNs (engineMHz s w) (56 - (engineOf s h w).holdBase)) s)

theorem clearDone_of_clearing (ok : Bool) (hclearing : (engineOf s h wing).clearing = true) :
    exec (.engineClearDone wing h ok) s = if ok then .next (grantNext h wing (clearEnded h wing s)) else .next (offerWork (engineAlarm h wing false (clearEnded h wing s))) := by
  show execEngineClearDone wing h ok s = _
  rw [execEngineClearDone]
  exact if_neg (by rw [hclearing]; decide)

theorem engineOf_clearEnded (h : Bool) (w : Nat) (s : State) : engineOf (clearEnded h w s) h w = { engineOf s h w with clearing := false } :=
  engineOf_updEngine_same ..

theorem holdOverrun_of_free (hfree : (engineOf s h wing).owner = none) : exec (.engineHoldOverrun wing h) s = .next s := by
  show execEngineHoldOverrun wing h s = _
  rw [execEngineHoldOverrun]
  exact if_pos (by rw [hfree]; rfl)

/-- The state in which the overrun's COMMAND-scope error is raised. -/
def overrun (h : Bool) (w : Nat) (s : State) : State :=
  raiseStatus h w 7 (clearEngine h w (countEvent w 16 1 (some (engineOf s h w).gallery)
    (advanceTo ((engineOf s h w).holdFrom + cyclesNs (engineMHz s w) (4801 - (engineOf s h w).holdBase)) s)))

theorem holdOverrun_of_held {o : Nat} (hheld : (engineOf s h wing).owner = some o) :
    exec (.engineHoldOverrun wing h) s = .next (offerWork (commandError 0x07 (holderTicket s wing (some o)) (engineUnit h wing) (overrun h wing s))) := by
  show execEngineHoldOverrun wing h s = _
  rw [execEngineHoldOverrun, hheld]
  rfl

theorem overrun_effect (h : Bool) (w : Nat) (s : State) :
    (overrun h w s).now = max s.now ((engineOf s h w).holdFrom + cyclesNs (engineMHz s w) (4801 - (engineOf s h w).holdBase)) ∧
    (engineOf (overrun h w s) h w).owner = none ∧ (engineOf (overrun h w s) h w).clearing = true ∧ (engineOf (overrun h w s) h w).keys = [] ∧
    (engineOf (overrun h w s) h w).status = setBit (engineOf s h w).status 7 true ∧ (overrun h w s).vit = s.vit ∧ (overrun h w s).fab = s.fab := by
  unfold overrun
  generalize (engineOf s h w).holdFrom + cyclesNs (engineMHz s w) (4801 - (engineOf s h w).holdBase) = t
  have hstart : AtEngine [.pow, .doc, .cnt] h w (advanceTo t s) _ (engineOf s h w) :=
    (AtEngine.refl _ h w (advanceTo t s)).andThen (frame_countEvent w 16 1 (some (engineOf s h w).gallery) _)
  obtain ⟨hframe, hhere, -, -⟩ := (atEngine_clearEngine hstart).upd (fun e => { e with status := setBit e.status 7 true })
  exact ⟨hframe.now, congrArg Engine.owner hhere, congrArg Engine.clearing hhere, congrArg Engine.keys hhere, congrArg Engine.status hhere, hframe.vit, hframe.fab⟩

/-- The engine as a fault alarm leaves it: erased and faulted. -/
def alarmedAt (h mask again : Bool) (now : Nat) (e : Engine) : Engine :=
  { e with
    owner := none, clearing := e.clearing || e.owner.isSome, holdBase := if e.owner.isSome then 0 else e.holdBase, faulted := true, gallery := 0
    keys := [], ctx := List.replicate 8 0, busy := none, pendingLoad := none, nonceIv := none
    status := setBit e.status (if mask && !h then 6 else 5) true, alarms := now :: recent 1000000000 now e.alarms, escalated := e.escalated || again }

/-- The engine's cycles are settled and its holder's release is noted. -/
def released (h : Bool) (w : Nat) (s : State) : State :=
  match (engineOf s h w).owner with
  | some c => stampRelease (if h then 2 else 1) (8 * w + c) (settleEngine h w s)
  | none => settleEngine h w s

/-- The state in which a fault alarm's COMMAND-scope error is raised. -/
def alarmed (h : Bool) (w : Nat) (mask again : Bool) (s : State) : State := updEngine h w (alarmedAt h mask again (released h w s).now) (released h w s)

theorem atEngine_released (h : Bool) (w : Nat) (s : State) : AtEngine [.pow, .doc, .cnt] h w s (released h w s) (settledAt s.now (engineMHz s w) (engineOf s h w)) := by
  have hsettled := atEngine_settleEngine (AtEngine.refl [.pow, .doc, .cnt] h w s)
  unfold released
  split
  · exact hsettled.andThen (frame_stampRelease ..)
  · exact hsettled

theorem engineAlarm_of_first (mask : Bool) (hfirst : (engineOf s h wing).alarms = []) :
    engineAlarm h wing mask s = commandError (if h then 0x04 else if mask then 0x03 else 0x02) (holderTicket s wing (engineOf s h wing).owner) (engineUnit h wing) (alarmed h wing mask false s) := by
  unfold engineAlarm
  dsimp only
  rw [hfirst]
  exact if_neg (by simp)

theorem alarmed_effect (w : Nat) (mask : Bool) (hfirst : (engineOf s h w).alarms = []) :
    (engineOf (alarmed h w mask false s) h w).owner = none ∧ (engineOf (alarmed h w mask false s) h w).faulted = true ∧ (engineOf (alarmed h w mask false s) h w).keys = [] ∧
    (engineOf (alarmed h w mask false s) h w).alarms = [s.now] ∧ (engineOf (alarmed h w mask false s) h w).status = setBit (engineOf s h w).status (if mask && !h then 6 else 5) true ∧
    (alarmed h w mask false s).vit = s.vit ∧ (alarmed h w mask false s).fab = s.fab ∧ (alarmed h w mask false s).now = s.now := by
  have hreleased := atEngine_released h w s
  obtain ⟨hframe, hhere, -, -⟩ := hreleased.upd (alarmedAt h mask false (released h w s).now)
  refine ⟨congrArg Engine.owner hhere, congrArg Engine.faulted hhere, congrArg Engine.keys hhere, (congrArg Engine.alarms hhere).trans ?_, congrArg Engine.status hhere, hframe.vit, hframe.fab, hframe.now⟩
  show (released h w s).now :: recent 1000000000 (released h w s).now (engineOf s h w).alarms = [s.now]
  rw [hfirst, hreleased.frame.now]
  rfl

theorem selfCheck_of_other (pass : Bool) (hother : (engineOf s h wing).faulted = false ∨ (engineOf s h wing).escalated = true) : exec (.engineSelfCheckDone wing h pass) s = .next s := by
  show execEngineSelfCheckDone wing h pass s = _
  rw [execEngineSelfCheckDone]
  refine if_pos ?_
  cases hother with
  | inl hsound => rw [hsound]; rfl
  | inr hescalated => rw [hescalated, Bool.or_true]

theorem selfCheck_of_faulted (pass : Bool) (hfaulted : (engineOf s h wing).faulted = true) (hescalated : (engineOf s h wing).escalated = false) :
    exec (.engineSelfCheckDone wing h pass) s = if pass then .next (grantNext h wing (updEngine h wing (fun e => { e with faulted := false }) s))
      else .next (offerWork (wingError (if h then 0x04 else 0x02) wing (updEngine h wing (fun e => { e with escalated := true }) s))) := by
  show execEngineSelfCheckDone wing h pass s = _
  rw [execEngineSelfCheckDone]
  exact if_neg (by rw [hfaulted, hescalated]; decide)

/-! Mask seeds. -/

/-- The engine as a change of mask seed leaves it. -/
def seedChanged (e : Engine) : Engine :=
  { e with seedReady := false, refilling := true, seed := e.spare, spare := [], seedBlocks := e.seedBlocks - 65536, seedsUsed := sat 0xFFFFFFFF (e.seedsUsed + 1) }

theorem changeSeed_of_none {w : Nat} (hnone : (engineOf s false w).seedReady = false) : changeSeed w s = s := by
  unfold changeSeed
  exact if_pos (by rw [show (Machine.wing s w).cen.seedReady = false from hnone]; rfl)

theorem engineOf_changeSeed {w : Nat} (hready : (engineOf s false w).seedReady = true) (hrng : s.rng.fatal = false) : engineOf (changeSeed w s) false w = seedChanged (engineOf s false w) := by
  have hcount := fun a => frame_countEvent w 17 1 a (updEngine false w seedChanged s)
  have hseed : changeSeed w s = shedClaims w (countEvent w 17 1 ((Machine.wing (updEngine false w seedChanged s) w).cen.owner.map (fun _ => (Machine.wing (updEngine false w seedChanged s) w).cen.gallery))
      (updEngine false w seedChanged s)) := by
    unfold changeSeed
    rw [show (Machine.wing s w).cen.seedReady = true from hready]
    rfl
  rw [hseed, shedClaims_of_served w (by rw [(hcount _).rng]; exact hrng), (hcount _).engineOf, engineOf_updEngine_same]

theorem seedRefill_of_unserved {w : Fin 16} (hrefilling : (engineOf s false w).refilling = true) (hserves : instServes s (4096 + w) = false) (hrng : s.rng.fatal = false) :
    exec (.seedRefillDone w) s = .next (queueDraw (4096 + w) true s) := by
  show execSeedRefillDone w s = _
  rw [execSeedRefillDone]
  refine (if_neg (by rw [show (Machine.wing s w).cen.refilling = true from hrefilling]; decide)).trans ((if_pos (by rw [hserves]; rfl)).trans ?_)
  rw [hrng]
  rfl

theorem seedRefill_of_served {w : Fin 16} (hrefilling : (engineOf s false w).refilling = true) (hserves : instServes s (4096 + w) = true) :
    exec (.seedRefillDone w) s = .next (grantNext false w (updEngine false w (fun e => { e with seedReady := true, refilling := false, spare := (drawBytes (4096 + w) 32 s).1 }) (drawBytes (4096 + w) 32 s).2)) := by
  show execSeedRefillDone w s = _
  rw [execSeedRefillDone]
  exact (if_neg (by rw [show (Machine.wing s w).cen.refilling = true from hrefilling]; decide)).trans (if_neg (by rw [hserves]; decide))

end

/-- Settles O38. -/
theorem engineEvents : Obligations.EngineEvents := by
  unfold Obligations.EngineEvents
  refine ⟨fun w h s hclearing hqueue => ?_, fun w h c rest s hclearing hqueue howner hfaulted hseed => ?_, fun w h s hclearing => ⟨clearEnded h w s, clearDone_of_clearing false hclearing, rfl, engineOf_clearEnded ..⟩,
    fun w h ok s hidle => clearDone_of_idle ok hidle, fun w h o s hheld => ⟨_, holdOverrun_of_held hheld, overrun_effect ..⟩, fun w h s hfree => holdOverrun_of_free hfree, fun w h mask s hfirst => ?_,
    fun w h s hfaulted hescalated => ⟨fun hqueue => ?_, _, selfCheck_of_faulted false hfaulted hescalated, updEngine_effect ..⟩, fun w h pass s hother => selfCheck_of_other pass hother,
    fun w s hready hrng => ⟨_, rfl, ?_, engineOf_changeSeed hready hrng⟩, fun w s hnone => congrArg Host.Outcome.next (changeSeed_of_none hnone), fun w s hrefilling hserves hqueue => ?_,
    fun w s hrefilling hserves hrng => seedRefill_of_unserved hrefilling hserves hrng⟩
  · refine ⟨clearEnded h w s, (clearDone_of_clearing true hclearing).trans (congrArg Host.Outcome.next (grantNext_of_none ?_)), rfl, engineOf_clearEnded ..⟩
    rw [engineOf_clearEnded]
    exact hqueue
  · have hhere := engineOf_clearEnded h w s
    have hat := AtEngine.refl [.pow, .doc, .cnt] h w (clearEnded h w s)
    rw [hhere] at hat
    have hgranted := (atEngine_grantNext hat (by simp [howner, hfaulted, hseed]) hqueue).here
    exact ⟨_, clearDone_of_clearing true hclearing, (congrArg Engine.clearing hgranted).trans (clearing_grantedTo ..), (congrArg Engine.owner hgranted).trans (owner_grantedTo ..),
      (congrArg Engine.queue hgranted).trans (queue_grantedTo ..)⟩
  · refine ⟨alarmed h w (mask && !h) false s, ?_, ?_⟩
    · show Host.Outcome.next (offerWork (engineAlarm h w (mask && !h) s)) = _
      rw [engineAlarm_of_first _ hfirst]
      cases h <;> cases mask <;> rfl
    · have heffect := alarmed_effect (h := h) w (mask && !h) hfirst
      rwa [show (mask && !h && !h) = (mask && !h) by cases h <;> cases mask <;> rfl] at heffect
  · have hpassed := updEngine_effect h w (fun e => { e with faulted := false }) s
    refine ⟨_, (selfCheck_of_faulted true hfaulted hescalated).trans (congrArg Host.Outcome.next (grantNext_of_none ?_)), hpassed⟩
    rw [hpassed.2]
    exact hqueue
  · simpa using (frame_changeSeed w.val hrng).record
  · have hdrawn := frame_drawBytes (4096 + w) 32 s
    obtain ⟨hframe, hhere, -, -⟩ := ((AtEngine.refl [.pow, .rng, .freeCount] false w s).andThen hdrawn).upd (fun e => { e with seedReady := true, refilling := false, spare := (drawBytes (4096 + w) 32 s).1 })
    refine ⟨_, (seedRefill_of_served hrefilling hserves).trans (congrArg Host.Outcome.next (grantNext_of_none ?_)), ?_, hhere⟩
    · rw [hhere]
      exact hqueue
    · simpa using hframe.record

end Sys2Proof.Machine

/-!
PROOFS, part 35: who holds a PK unit. `AtPku ps w s u p` says that `u` differs from `s` in the components `ps` at most, that the unit of wing `w` stands there as `p`, and that the other wings stand as before.
-/

namespace Sys2Proof.Machine

set_option Elab.async false

open Sys2Proof.Safety

structure AtPku (ps : List Part) (w : Nat) (s u : State) (p : Pku) : Prop where
  frame : Frame ps s u
  here : (wing u w).pku = p
  others : ∀ k, k ≠ w → wing u k = wing s k

theorem frame_updPku (w : Nat) (f : Pku → Pku) (s : State) : Frame [.pow] s (updPku w f s) := frame_updWing ..

namespace AtPku

variable {ps qs : List Part} {w : Nat} {s u v : State} {p : Pku}

theorem refl (ps : List Part) (w : Nat) (s : State) : AtPku ps w s s (wing s w).pku := ⟨.refl .., rfl, fun _ _ => rfl⟩

theorem upd (a : AtPku ps w s u p) (f : Pku → Pku) (hp : .pow ∈ ps := by simp) : AtPku ps w s (updPku w f u) (f p) := by
  refine ⟨a.frame.trans ((frame_updPku ..).mono (by simpa using hp)), ?_, fun k hk => ?_⟩
  · rw [wing_updPku, if_pos rfl, a.here]
  · rw [wing_updPku, if_neg hk, a.others k hk]

/-- What comes after and leaves the wings alone leaves the unit. -/
theorem andThen (a : AtPku ps w s u p) (f : Frame qs u v) (hsub : qs ⊆ ps := by simp) (hpow : .pow ∉ qs := by simp) : AtPku ps w s v p :=
  ⟨a.frame.trans (f.mono hsub), (congrArg Wing.pku (f.wing w hpow)).trans a.here, fun k hk => (f.wing k hpow).trans (a.others k hk)⟩

end AtPku

section
variable {ps : List Part} {w : Nat} {s u : State} {p : Pku}

/-- The unit as a settlement of its cycles leaves it: `mhz` is its clock. -/
def pkuSettledAt (now mhz : Nat) (p : Pku) : Pku :=
  { p with holdBase := if p.owner.isSome || p.wiping then p.holdBase + (now - p.holdFrom) * mhz / 1000 else p.holdBase, holdFrom := now }

theorem atPku_settlePku (a : AtPku ps w s u p) (hpow : .pow ∈ ps := by simp) (hcnt : .cnt ∈ ps := by simp) :
    AtPku ps w s (settlePku w u) (pkuSettledAt u.now (pkMHz u w) (wing u w).pku) := by
  have hcounted : Frame [.cnt] u (if (wing u w).pku.owner.isSome then countEvent w 9 ((u.now - (wing u w).pku.holdFrom) * pkMHz u w / 1000) (some (wing u w).pku.gallery) u else u) :=
    .ite (fun _ => frame_countEvent ..) (fun _ => .refl ..)
  have hsettled := (a.andThen hcounted (by simpa using hcnt)).upd (fun x => { x with
    holdBase := if x.owner.isSome || x.wiping then x.holdBase + (u.now - (wing u w).pku.holdFrom) * pkMHz u w / 1000 else x.holdBase, holdFrom := u.now }) hpow
  unfold settlePku
  dsimp only
  rw [hcounted.now]
  rw [a.here] at hsettled ⊢
  exact hsettled

/-- The unit as the end of its hold leaves it. -/
def pkuFreedAt (dirty : Bool) (now mhz : Nat) (p : Pku) : Pku := { pkuSettledAt now mhz p with owner := none, holdBase := 0, dma := none, dirty := p.dirty || dirty }

theorem atPku_freePku (dirty : Bool) (a : AtPku ps w s u p) (hpow : .pow ∈ ps := by simp) (hcnt : .cnt ∈ ps := by simp) (hdoc : .doc ∈ ps := by simp) :
    AtPku ps w s (freePku w dirty u) (pkuFreedAt dirty u.now (pkMHz u w) p) := by
  have hsettled := atPku_settlePku a hpow hcnt
  rw [a.here] at hsettled
  unfold freePku
  dsimp only
  split
  · exact (hsettled.andThen (frame_stampRelease ..) (by simpa using hdoc)).upd (fun x => { x with owner := none, holdBase := 0, dma := none, dirty := x.dirty || dirty }) hpow
  · exact hsettled.upd (fun x => { x with owner := none, holdBase := 0, dma := none, dirty := x.dirty || dirty }) hpow

/-- The unit as a grant to a claim leaves it. -/
def pkuGrantedTo (c g : Nat) (wiped : Bool) (rest : List Nat) (now : Nat) (p : Pku) : Pku :=
  decidePkuClaim c (grantOf true wiped ((p.holdId + 1) % 256)) { p with
    owner := some c, queue := rest, claimedAt := mdel p.claimedAt c, gallery := g, holdBase := 0, holdFrom := now, holdId := (p.holdId + 1) % 256 }

theorem grantPku_of_none {wiped : Bool} (hqueue : (wing s w).pku.queue = []) : grantPku w wiped s = s := by
  unfold grantPku
  rw [hqueue]

theorem atPku_grantPku {c : Nat} {rest : List Nat} (wiped : Bool) (a : AtPku ps w s u p) (hqueue : p.queue = c :: rest) (hpow : .pow ∈ ps := by simp) (hcnt : .cnt ∈ ps := by simp) (hdoc : .doc ∈ ps := by simp) :
    AtPku ps w s (grantPku w wiped u) (pkuGrantedTo c (((servedBy u (8 * w + c)).map (·.2.2)).getD 0) wiped rest u.now p) := by
  have hgranted := ((a.upd (fun x => decidePkuClaim c (grantOf true wiped ((p.holdId + 1) % 256)) { x with
    owner := some c, queue := rest, claimedAt := mdel x.claimedAt c, gallery := ((servedBy u (8 * w + c)).map (·.2.2)).getD 0, holdBase := 0, holdFrom := u.now, holdId := (p.holdId + 1) % 256 }) hpow).andThen
      (frame_countEvent w 8 1 (some (((servedBy u (8 * w + c)).map (·.2.2)).getD 0)) _) (by simpa using hcnt)).andThen (frame_stampGrant 3 (8 * w + c) _) (by simpa using hdoc)
  unfold grantPku
  rw [a.here, hqueue]
  exact hgranted

variable (c g : Nat) (wiped : Bool) (rest : List Nat) (now : Nat)

theorem owner_pkuGrantedTo : (pkuGrantedTo c g wiped rest now p).owner = some c := by unfold pkuGrantedTo decidePkuClaim; dsimp only; split <;> rfl
theorem queue_pkuGrantedTo : (pkuGrantedTo c g wiped rest now p).queue = rest := by unfold pkuGrantedTo decidePkuClaim; dsimp only; split <;> rfl
theorem slots_pkuGrantedTo : (pkuGrantedTo c g wiped rest now p).slots = p.slots := by unfold pkuGrantedTo decidePkuClaim; dsimp only; split <;> rfl
theorem wiping_pkuGrantedTo : (pkuGrantedTo c g wiped rest now p).wiping = p.wiping := by unfold pkuGrantedTo decidePkuClaim; dsimp only; split <;> rfl
theorem holdFrom_pkuGrantedTo : (pkuGrantedTo c g wiped rest now p).holdFrom = now := by unfold pkuGrantedTo decidePkuClaim; dsimp only; split <;> rfl

theorem grants_pkuGrantedTo (hreading : p.reading.contains c = false) : mget (pkuGrantedTo c g wiped rest now p).grants c = some (grantOf true wiped ((p.holdId + 1) % 256)) := by
  unfold pkuGrantedTo decidePkuClaim
  dsimp only
  rw [hreading]
  exact mget_mset_same ..

end

/-! Service of claims. -/

section
variable {w : Nat} {s : State}

theorem serveClaims_of_busy (hbusy : ((wing s w).pku.owner.isSome || (wing s w).pku.faulted || (wing s w).pku.wiping || (wing s w).power != .run) = true) : serveClaims w s = s := by
  unfold serveClaims
  dsimp only
  rw [if_pos hbusy]

theorem serveClaims_of_none (hqueue : (wing s w).pku.queue = []) : serveClaims w s = s := by
  unfold serveClaims
  dsimp only
  split
  · rfl
  · rw [hqueue]

variable (hfree : ((wing s w).pku.owner.isSome || (wing s w).pku.faulted || (wing s w).pku.wiping || (wing s w).power != .run) = false)
  {c : Nat} {rest : List Nat} (hqueue : (wing s w).pku.queue = c :: rest)
include hfree hqueue

theorem serveClaims_of_dirty (hdirty : ((wing s w).pku.dirty || decide ((wing s w).pku.gallery ≠ ((servedBy s (8 * w + c)).map (·.2.2)).getD 0)) = true) :
    serveClaims w s = updPku w (fun p => { p with wiping := true, holdBase := 0, holdFrom := s.now }) s := by
  unfold serveClaims
  dsimp only
  rw [hfree, if_neg Bool.false_ne_true, hqueue]
  exact if_pos hdirty

theorem serveClaims_of_clean (hclean : ((wing s w).pku.dirty || decide ((wing s w).pku.gallery ≠ ((servedBy s (8 * w + c)).map (·.2.2)).getD 0)) = false) : serveClaims w s = grantPku w false s := by
  unfold serveClaims
  dsimp only
  rw [hfree, if_neg Bool.false_ne_true, hqueue]
  exact if_neg (by rw [hclean]; exact Bool.false_ne_true)

end

/-! Claims. -/

/-- A cell of a wing in RUN may claim the unit: it neither holds it nor has a claim out. -/
structure MayClaimPku (cell : Nat) (s : State) : Prop where
  run : (wing s (wingOf cell)).power = .run
  inUse : (wing s (wingOf cell)).quarantined = false
  sound : (wing s (wingOf cell)).retired = false
  owner : (wing s (wingOf cell)).pku.owner ≠ some (cell % 8)
  queue : (wing s (wingOf cell)).pku.queue.contains (cell % 8) = false
  grants : mhas (wing s (wingOf cell)).pku.grants (cell % 8) = false
  reading : (wing s (wingOf cell)).pku.reading.contains (cell % 8) = false

/-- The unit with a claim that has taken its place in the queue. -/
def pkuClaimQueued (now c : Nat) (p : Pku) : Pku := { p with queue := insertClaim now c p.claimedAt p.queue, claimedAt := mset p.claimedAt c now }

section
variable {cell : Nat} {s : State} (m : MayClaimPku cell s)
include m

theorem claimPku_of_may : claimPku cell s =
    match servedBy s cell with
    | none => updPku (wingOf cell) (fun p => decidePkuClaim (cell % 8) (grantOf false false p.holdId) p) s
    | some (_, d, _) =>
      if !hasRight d.rights 4 rightUSE then updPku (wingOf cell) (fun p => decidePkuClaim (cell % 8) (grantOf false false p.holdId) p) s
      else serveClaims (wingOf cell) (updPku (wingOf cell) (pkuClaimQueued s.now (cell % 8)) s) := by
  obtain ⟨hrun, hquarantined, hretired, howner, hqueue, hgrants, -⟩ := m
  unfold claimPku
  dsimp only
  rw [if_neg (by simp only [hrun, hquarantined, hretired, hqueue, hgrants]; simpa using howner), hrun] <;> rfl

theorem atPku_denied (hdenied : ∀ t d g, servedBy s cell = some (t, d, g) → hasRight d.rights 4 rightUSE = false) :
    AtPku [.pow] (wingOf cell) s (claimPku cell s) { (wing s (wingOf cell)).pku with
      grants := mset (wing s (wingOf cell)).pku.grants (cell % 8) { granted := false, denied := true, wiped := false, holdId := (wing s (wingOf cell)).pku.holdId } } := by
  have hupd := (AtPku.refl [.pow] (wingOf cell) s).upd (fun p => decidePkuClaim (cell % 8) (grantOf false false p.holdId) p)
  rw [decidePkuClaim, m.reading, if_neg (by simp)] at hupd
  rw [claimPku_of_may m]
  split
  · exact hupd
  · next t d g hserved =>
    rw [hdenied t d g hserved]
    exact hupd

variable {t g : Nat} {d : Desc} (hserved : servedBy s cell = some (t, d, g)) (hright : hasRight d.rights 4 rightUSE = true)
include hserved hright

theorem claimPku_queued : claimPku cell s = serveClaims (wingOf cell) (updPku (wingOf cell) (pkuClaimQueued s.now (cell % 8)) s) := by
  rw [claimPku_of_may m, hserved]
  dsimp only
  rw [hright]
  rfl

theorem atPku_waits {o : Nat} (howner : (wing s (wingOf cell)).pku.owner = some o) :
    AtPku [.pow] (wingOf cell) s (claimPku cell s) (pkuClaimQueued s.now (cell % 8) (wing s (wingOf cell)).pku) := by
  have hqueued := (AtPku.refl [.pow] (wingOf cell) s).upd (pkuClaimQueued s.now (cell % 8))
  rw [claimPku_queued m hserved hright, serveClaims_of_busy]
  · exact hqueued
  · rw [hqueued.here]
    simp [pkuClaimQueued, howner]

section
variable (howner : (wing s (wingOf cell)).pku.owner = none) (hqueue : (wing s (wingOf cell)).pku.queue = []) (hwiping : (wing s (wingOf cell)).pku.wiping = false)
  (hfaulted : (wing s (wingOf cell)).pku.faulted = false)
include howner hqueue hwiping hfaulted

/-- The claim on a free unit is the one that is served. -/
theorem serves_claim {u : State} (hu : updPku (wingOf cell) (pkuClaimQueued s.now (cell % 8)) s = u) :
    ((wing u (wingOf cell)).pku.owner.isSome || (wing u (wingOf cell)).pku.faulted || (wing u (wingOf cell)).pku.wiping || (wing u (wingOf cell)).power != .run) = false ∧
      (wing u (wingOf cell)).pku.queue = [cell % 8] ∧ servedBy u (8 * wingOf cell + cell % 8) = some (t, d, g) := by
  subst hu
  have hqueued := (AtPku.refl [.pow] (wingOf cell) s).upd (pkuClaimQueued s.now (cell % 8))
  refine ⟨?_, ?_, ?_⟩
  · rw [hqueued.here, wing_updPku, if_pos rfl]
    simp [pkuClaimQueued, howner, hwiping, hfaulted, m.run]
  · rw [hqueued.here]
    show insertClaim _ _ _ (wing s (wingOf cell)).pku.queue = _
    rw [hqueue]
    rfl
  · have hcell : 8 * wingOf cell + cell % 8 = cell := by unfold wingOf; omega
    rw [hcell, (frame_updPku ..).servedBy cell, hserved]

theorem atPku_granted (hdirty : (wing s (wingOf cell)).pku.dirty = false) (hgallery : (wing s (wingOf cell)).pku.gallery = g) :
    AtPku [.pow, .doc, .cnt] (wingOf cell) s (claimPku cell s) (pkuGrantedTo (cell % 8) g false [] s.now (pkuClaimQueued s.now (cell % 8) (wing s (wingOf cell)).pku)) := by
  obtain ⟨hfree, hlist, hof⟩ := serves_claim m hserved hright howner hqueue hwiping hfaulted rfl
  have hqueued := (AtPku.refl [.pow, .doc, .cnt] (wingOf cell) s).upd (pkuClaimQueued s.now (cell % 8))
  rw [claimPku_queued m hserved hright, serveClaims_of_clean hfree hlist (by rw [hqueued.here, hof]; simp [pkuClaimQueued, hdirty, hgallery])]
  have hgranted := atPku_grantPku false hqueued (hqueued.here.symm ▸ hlist)
  rw [hof] at hgranted
  exact hgranted

theorem atPku_wipes (hdirty : (wing s (wingOf cell)).pku.dirty = true ∨ (wing s (wingOf cell)).pku.gallery ≠ g) :
    AtPku [.pow] (wingOf cell) s (claimPku cell s) { (wing s (wingOf cell)).pku with
      queue := [cell % 8], claimedAt := mset (wing s (wingOf cell)).pku.claimedAt (cell % 8) s.now, wiping := true, holdBase := 0, holdFrom := s.now } := by
  obtain ⟨hfree, hlist, hof⟩ := serves_claim m hserved hright howner hqueue hwiping hfaulted rfl
  have hqueued := (AtPku.refl [.pow] (wingOf cell) s).upd (pkuClaimQueued s.now (cell % 8))
  rw [claimPku_queued m hserved hright, serveClaims_of_dirty hfree hlist (by rw [hqueued.here, hof]; cases hdirty <;> simp_all [pkuClaimQueued])]
  have hwiped := hqueued.upd (fun p => { p with wiping := true, holdBase := 0, holdFrom := s.now })
  rw [hqueued.here] at hlist
  rw [hlist] at hwiped
  exact hwiped

end
end

end Sys2Proof.Machine

/-!
PROOFS, part 36: ownership and arithmetic of the PK units.
-/

namespace Sys2Proof.Machine

set_option Elab.async false

theorem completeDma_of_none {w : Nat} {s : State} (h : (wing s w).pku.dma = none) : completeDma w s = s := by
  unfold completeDma
  rw [h]

section
variable {cell : Fin 128} {s : State}

theorem pkuRelease_of_other (h : (wing s (wingOf cell.val)).pku.owner ≠ some (cell.val % 8)) : exec (.pkuRelease cell) s = .next s ∧ exec (.pkuAbandon cell) s = .next s :=
  ⟨if_pos h, if_pos h⟩

variable (howner : (wing s (wingOf cell.val)).pku.owner = some (cell.val % 8)) (hqueue : (wing s (wingOf cell.val)).pku.queue = [])
include howner hqueue

theorem freed_serves_none (dirty : Bool) : serveClaims (wingOf cell.val) (freePku (wingOf cell.val) dirty s) = freePku (wingOf cell.val) dirty s := by
  have hfreed := atPku_freePku dirty (.refl [.pow, .doc, .cnt] (wingOf cell.val) s)
  exact serveClaims_of_none (by rw [hfreed.here]; exact hqueue)

theorem pkuRelease_of_holder (hdma : (wing s (wingOf cell.val)).pku.dma = none) : exec (.pkuRelease cell) s = .next (offerWork (freePku (wingOf cell.val) false s)) := by
  show execPkuRelease cell s = _
  rw [execPkuRelease, completeDma_of_none hdma]
  refine (if_neg (not_not_intro howner)).trans (congrArg (fun u => Host.Outcome.next (offerWork u)) ?_)
  rw [if_neg (by rw [howner]; exact Bool.false_ne_true), freed_serves_none howner hqueue]

theorem pkuAbandon_of_holder : exec (.pkuAbandon cell) s = .next (freePku (wingOf cell.val) true s) := by
  show execPkuAbandon cell s = _
  rw [execPkuAbandon]
  refine (if_neg (not_not_intro howner)).trans ?_
  rw [freed_serves_none howner hqueue]

end

section
variable {v : Fin 16} {s : State}

theorem wipeDone_of_idle (ok : Bool) (hidle : (wing s v).pku.wiping = false) : exec (.pkuWipeDone v ok) s = .next s := by
  show execPkuWipeDone v ok s = _
  rw [execPkuWipeDone]
  exact if_pos (by rw [hidle]; rfl)

/-- The state at the end of a wipe, before a claim is granted. -/
def wipeEnded (w : Nat) (s : State) : State :=
  updPku w wipedPku (countEvent w 10 1 ((wing s w).pku.queue.head?.bind (fun c => (servedBy s (8 * w + c)).map (·.2.2)))
    (advanceTo ((wing s w).pku.holdFrom + cyclesNs (pkMHz s w) (4160 - (wing s w).pku.holdBase)) s))

theorem wipeDone_of_wiping (hwiping : (wing s v).pku.wiping = true) :
    exec (.pkuWipeDone v true) s = .next (if (wing s v).pku.faulted then wipeEnded v s else grantPku v true (wipeEnded v s)) := by
  show execPkuWipeDone v true s = _
  rw [execPkuWipeDone]
  exact if_neg (by rw [hwiping]; decide)

theorem atPku_wipeEnded (w : Nat) (s : State) :
    AtPku [.pow, .doc, .cnt] w (advanceTo ((wing s w).pku.holdFrom + cyclesNs (pkMHz s w) (4160 - (wing s w).pku.holdBase)) s) (wipeEnded w s) (wipedPku (wing s w).pku) :=
  ((AtPku.refl _ w (advanceTo ((wing s w).pku.holdFrom + cyclesNs (pkMHz s w) (4160 - (wing s w).pku.holdBase)) s)).andThen (frame_countEvent ..)).upd _

theorem wipeEnded_effect (w : Nat) (s : State) :
    wipeEnded w s = { s with pow := (wipeEnded w s).pow, cnt := (wipeEnded w s).cnt, now := max s.now ((wing s w).pku.holdFrom + cyclesNs (pkMHz s w) (4160 - (wing s w).pku.holdBase)) } := by
  have hframe : Frame [.pow, .cnt] (advanceTo ((wing s w).pku.holdFrom + cyclesNs (pkMHz s w) (4160 - (wing s w).pku.holdBase)) s) (wipeEnded w s) :=
    (frame_countEvent ..).mono.trans (frame_updPku ..).mono
  have hrecord := hframe.record
  simp only [advanceTo] at hrecord
  simpa using hrecord

end

/-- Settles O39. -/
theorem pkuOwnership : Obligations.PkuOwnership := by
  intro cell s w c p claims granted
  have hmay : claims → MayClaimPku cell s := fun ⟨hrun, hquarantined, hretired, howner, hqueue, hgrants, hreading⟩ => ⟨hrun, hquarantined, hretired, howner, hqueue, hgrants, hreading⟩
  refine ⟨fun t d g hclaims hserved hright howner hqueue hwiping hfaulted hdirty hgallery => ⟨claimPku cell s, rfl, ?_⟩, fun t d g hclaims hserved hright howner hqueue hwiping hfaulted hdirty => ⟨claimPku cell s, rfl, ?_⟩,
    fun t d g o hclaims hserved hright howner => ⟨claimPku cell s, rfl, ?_⟩, fun hclaims hdenied => ⟨claimPku cell s, rfl, ?_⟩, fun hfree => ⟨readPkuGrant cell s, rfl, ?_⟩, fun hwaits => ⟨readPkuGrant cell s, rfl, ?_⟩,
    fun howner hdma hqueue => ⟨_, pkuRelease_of_holder howner hqueue hdma, ?_⟩, fun howner hqueue => ⟨_, pkuAbandon_of_holder howner hqueue, ?_⟩, pkuRelease_of_other, fun v hwiping hqueue => ?_,
    fun v o rest hwiping hqueue hfaulted => ?_, fun v ok hidle => wipeDone_of_idle ok hidle⟩
  · have hat := atPku_granted (hmay hclaims) hserved hright howner hqueue hwiping hfaulted hdirty hgallery
    refine ⟨by simpa using hat.frame.record, ?_⟩
    rw [hat.here]
    exact ⟨owner_pkuGrantedTo .., holdFrom_pkuGrantedTo .., grants_pkuGrantedTo _ _ _ _ _ (hmay hclaims).reading, slots_pkuGrantedTo .., hat.others⟩
  · have hat := atPku_wipes (hmay hclaims) hserved hright howner hqueue hwiping hfaulted hdirty
    exact ⟨by simpa using hat.frame.record, hat.here, hat.others⟩
  · have hat := atPku_waits (hmay hclaims) hserved hright howner
    exact ⟨by simpa using hat.frame.record, hat.here⟩
  · have hat := atPku_denied (hmay hclaims) hdenied
    exact ⟨by simpa using hat.frame.record, hat.here⟩
  · have hat : AtPku [.pow] w s (readPkuGrant cell s) { p with grants := mdel p.grants c, lastRead := mset p.lastRead c (((mget p.grants c).map grantWord).getD 0) } := by
      unfold readPkuGrant
      dsimp only
      rw [if_neg (by simpa using hfree)]
      exact (AtPku.refl ..).upd _
    exact ⟨by simpa using hat.frame.record, hat.here⟩
  · have hat : AtPku [.pow] w s (readPkuGrant cell s) { p with reading := if p.reading.contains c then p.reading else p.reading ++ [c] } := by
      unfold readPkuGrant
      dsimp only
      rw [if_pos (by simpa using hwaits)]
      exact (AtPku.refl ..).upd _
    exact ⟨by simpa using hat.frame.record, hat.here⟩
  · have hat := atPku_freePku false (.refl [.pow, .doc, .cnt] w s)
    refine ⟨by simpa using hat.frame.record, ?_⟩
    rw [hat.here]
    exact ⟨rfl, Bool.or_false _, rfl, rfl⟩
  · have hat := atPku_freePku true (.refl [.pow, .doc, .cnt] w s)
    refine ⟨by simpa using hat.frame.record, ?_⟩
    rw [hat.here]
    exact ⟨rfl, Bool.or_true _, rfl⟩
  · have hat := atPku_wipeEnded v s
    refine ⟨wipeEnded v s, (wipeDone_of_wiping hwiping).trans (congrArg Host.Outcome.next ?_), wipeEnded_effect .., hat.here, hat.others⟩
    rw [grantPku_of_none (by rw [hat.here]; exact hqueue), ite_self]
  · have hat := atPku_grantPku true (atPku_wipeEnded v s) hqueue
    refine ⟨_, (wipeDone_of_wiping hwiping).trans (congrArg Host.Outcome.next (if_neg (by rw [hfaulted]; decide))), ?_⟩
    rw [hat.here]
    exact ⟨owner_pkuGrantedTo .., queue_pkuGrantedTo .., slots_pkuGrantedTo .., wiping_pkuGrantedTo ..⟩

/-! The multiply-accumulate. -/

/-- A change of one unit, as the statements put it. -/
theorem updPku_effect (w : Nat) (f : Pku → Pku) (s : State) :
    updPku w f s = { s with pow := (updPku w f s).pow } ∧ (wing (updPku w f s) w).pku = f (wing s w).pku ∧ ∀ k, k ≠ w → wing (updPku w f s) k = wing s k := by
  have hat := (AtPku.refl [.pow] w s).upd f
  exact ⟨by simpa using hat.frame.record, hat.here, hat.others⟩

theorem raisePku_effect (w b : Nat) (s : State) :
    raisePku w b s = { s with pow := (raisePku w b s).pow } ∧ (wing (raisePku w b s) w).pku = { (wing s w).pku with status := setBit (wing s w).pku.status b true } :=
  have heffect := updPku_effect w (fun p => { p with status := setBit p.status b true }) s
  ⟨heffect.1, heffect.2.1⟩

section
variable {cell op : Nat} {word : W64} {run : Nat → Nat → State → State} {s : State}

theorem pkuOp_of_other (hother : (wing s (wingOf cell)).pku.owner ≠ some (cell % 8)) : pkuOp cell op word run s = s := if_pos hother

variable (howner : (wing s (wingOf cell)).pku.owner = some (cell % 8))
include howner

theorem pkuOp_of_refused (hrefused : pkuOpRefused (wing s (wingOf cell)).pku op word.toNat = true) : pkuOp cell op word run s = raisePku (wingOf cell) 6 s :=
  (if_neg (not_not_intro howner)).trans (if_pos hrefused)

theorem pkuOp_of_accepted (haccepted : pkuOpRefused (wing s (wingOf cell)).pku op word.toNat = false) : pkuOp cell op word run s = run (wingOf cell) word.toNat s :=
  (if_neg (not_not_intro howner)).trans (if_neg (by rw [haccepted]; exact Bool.false_ne_true))

end

/-! What one multiply-accumulate works on. -/

/-- The operand a's lanes. -/
def macA (p : Pku) (word : Nat) : List Nat := (List.range (laneShape p.lanes).1).map (laneOf (slotAt p (bits word 16 8)) (laneShape p.lanes).2.1)

/-- The operand b's words, or the Q path. -/
def macB (p : Pku) (word : Nat) : List Nat :=
  if bit word 5 then p.qpath ++ List.replicate ((laneShape p.lanes).1 - p.qpath.length) 0 else bWords p (bits word 25 17) (bits word 31 26)

/-- The accumulator's lanes before the operation. -/
def macAcc (p : Pku) (word : Nat) : List Nat := if bit word 3 then List.replicate (laneShape p.lanes).1 0 else accLanes p

/-- The lanes' sums. -/
def macSums (p : Pku) (word : Nat) : List Nat :=
  (List.range (laneShape p.lanes).1).map (fun i => laneMac p.lanes p.qmod (bit word 4) ((macAcc p word).getD i 0) ((macA p word).getD i 0) ((macB p word).getD i 0))

/-- The lanes' identity (R237). -/
def macHolds (p : Pku) (word : Nat) : Bool :=
  (List.range (laneShape p.lanes).1).all (fun i => residueHolds p.lanes (bit word 4) ((macAcc p word).getD i 0) ((macA p word).getD i 0) ((macB p word).getD i 0) ((macSums p word).getD i 0))

/-- The operand's residues match. -/
def Whole (p : Pku) (word : Nat) : Prop := slotResidues p (bits word 16 8) = residuesOf (slotAt p (bits word 16 8))

section
variable {w word : Nat} {shift : Bool} {s : State}

theorem pkuMac_of_broken (hbroken : ¬ Whole (wing s w).pku word ∨ macHolds (wing s w).pku word = false) : pkuMac w shift word s = pkuAlarm w 2 0x05 s := by
  unfold pkuMac
  dsimp only
  by_cases hwhole : Whole (wing s w).pku word
  · refine (if_neg (not_not_intro hwhole)).trans (if_pos ?_)
    have hholds := hbroken.resolve_left (not_not_intro hwhole)
    unfold macHolds at hholds
    exact (congrArg (!·) hholds)
  · exact if_pos hwhole

variable (hwhole : Whole (wing s w).pku word) (hholds : macHolds (wing s w).pku word = true)
include hwhole hholds

theorem pkuMac_of_lowBits (hlow : (shift && bit word 5 && (macSums (wing s w).pku word).any (fun x => x % 2 ^ 64 != 0)) = true) : pkuMac w shift word s = pkuAlarm w 3 0x05 s := by
  unfold macHolds at hholds
  refine (if_neg (not_not_intro hwhole)).trans ((if_neg ?_).trans (if_pos hlow))
  exact ne_true_of_eq_false (congrArg (!·) hholds)

theorem pkuMac_of_sound (hlow : (shift && bit word 5 && (macSums (wing s w).pku word).any (fun x => x % 2 ^ 64 != 0)) = false) :
    pkuMac w shift word s = updPku w (fun p => { p with
      acc := packLanes (laneShape (wing s w).pku.lanes).2.2 (if shift then (macSums (wing s w).pku word).map (· / 2 ^ 64) else macSums (wing s w).pku word)
      qpath := qPath p.lanes p.qinv (if shift then (macSums (wing s w).pku word).map (· / 2 ^ 64) else macSums (wing s w).pku word) }) s := by
  unfold macHolds at hholds
  refine (if_neg (not_not_intro hwhole)).trans ((if_neg ?_).trans (if_neg (ne_true_of_eq_false hlow)))
  exact ne_true_of_eq_false (congrArg (!·) hholds)

end

theorem pkuLoad_of_broken {w word : Nat} {s : State} (hbroken : ¬ Whole (wing s w).pku word) : pkuLoad w word s = pkuAlarm w 2 0x05 s := if_pos hbroken

theorem pkuLoad_of_sound {w word : Nat} {s : State} (hwhole : Whole (wing s w).pku word) :
    pkuLoad w word s = updPku w (fun p => { p with
      acc := packLanes (laneShape (wing s w).pku.lanes).2.2 (macA (wing s w).pku word), qpath := qPath p.lanes p.qinv (macA (wing s w).pku word) }) s :=
  if_neg (not_not_intro hwhole)

/-! PKU_CFG. -/

section
variable {cell : Fin 128} {value : W64} {q : Option W64} {s : State}

/-- QINV is taken whatever the bounds say. -/
def qinvTaken (w : Nat) (q : Option W64) (s : State) : State :=
  match q with
  | some x => updPku w (fun p => { p with qinv := x.toNat }) s
  | none => s

theorem atPku_qinvTaken (w : Nat) (q : Option W64) (s : State) : AtPku [.pow] w s (qinvTaken w q s) { (wing s w).pku with qinv := (q.map (·.toNat)).getD (wing s w).pku.qinv } := by
  cases q with
  | none => exact .refl ..
  | some x => exact (AtPku.refl [.pow] w s).upd (fun p => { p with qinv := x.toNat })

theorem pkuCfg_of_other (hother : (wing s (wingOf cell.val)).pku.owner ≠ some (cell.val % 8)) : exec (.pkuCfgWrite cell value q) s = .next s := if_pos hother

theorem pkuCfg_of_holder (howner : (wing s (wingOf cell.val)).pku.owner = some (cell.val % 8)) :
    exec (.pkuCfgWrite cell value q) s = if qmodOk (field value 1 0) (field value 46 16) then
      .next (updPku (wingOf cell.val) (fun p => { p with lanes := field value 1 0, qmod := field value 46 16 }) (qinvTaken (wingOf cell.val) q s))
    else .next (raisePku (wingOf cell.val) 6 (qinvTaken (wingOf cell.val) q s)) := if_neg (not_not_intro howner)

end

/-- Settles O40. -/
theorem pkuArithmetic : Obligations.PkuArithmetic := by
  intro cell word value q s w p sh a bs accs sums holds whole
  refine ⟨fun hother => ?_, fun howner => ⟨fun haccepted hwhole hholds => ?_, fun haccepted hwhole hholds hlow => ?_, fun haccepted hwhole => ?_, fun haccepted => ?_, fun haccepted hbroken => ?_,
    fun haccepted hbroken => ?_, fun haccepted hwhole hholds hlow => ?_, fun haccepted hbroken => ?_, fun op hrefused => ?_, fun hrefused => ?_, fun hbounds => ?_, fun hbounds => ?_⟩⟩
  · have hnone := fun op run => pkuOp_of_other (op := op) (word := word) (run := run) hother
    exact ⟨congrArg (fun u => Host.Outcome.next (offerWork u)) (hnone 0 _), congrArg (fun u => Host.Outcome.next (offerWork u)) (hnone 1 _), congrArg (fun u => Host.Outcome.next (offerWork u)) (hnone 2 _),
      congrArg Host.Outcome.next (hnone 3 _), pkuCfg_of_other hother⟩
  · obtain ⟨hrecord, hhere, hothers⟩ := updPku_effect w (fun p => { p with acc := packLanes sh.2.2 sums, qpath := qPath p.lanes p.qinv sums }) s
    exact ⟨_, congrArg (fun u => Host.Outcome.next (offerWork u)) ((pkuOp_of_accepted howner haccepted).trans (pkuMac_of_sound hwhole hholds rfl)), hrecord, hhere, hothers⟩
  · obtain ⟨hrecord, hhere, -⟩ := updPku_effect w (fun p => { p with acc := packLanes sh.2.2 (sums.map (· / 2 ^ 64)), qpath := qPath p.lanes p.qinv (sums.map (· / 2 ^ 64)) }) s
    exact ⟨_, congrArg (fun u => Host.Outcome.next (offerWork u)) ((pkuOp_of_accepted howner haccepted).trans (pkuMac_of_sound hwhole hholds hlow)), hrecord, hhere⟩
  · obtain ⟨hrecord, hhere, -⟩ := updPku_effect w (fun p => { p with acc := packLanes sh.2.2 (macA (wing s w).pku word.toNat), qpath := qPath p.lanes p.qinv (macA (wing s w).pku word.toNat) }) s
    exact ⟨_, congrArg (fun u => Host.Outcome.next (offerWork u)) ((pkuOp_of_accepted howner haccepted).trans (pkuLoad_of_sound hwhole)), hrecord, hhere⟩
  · obtain ⟨hrecord, hhere, -⟩ := updPku_effect w (fun p => putSlot (bits word.toNat 40 32) (packLanes (laneShape p.lanes).2.1 (macAcc p word.toNat)) { p with acc := if bit word.toNat 3 then 0 else p.acc }) s
    exact ⟨_, congrArg Host.Outcome.next (pkuOp_of_accepted howner haccepted), hrecord, hhere⟩
  · exact congrArg (fun u => Host.Outcome.next (offerWork u)) ((pkuOp_of_accepted howner haccepted).trans (pkuMac_of_broken hbroken))
  · exact congrArg (fun u => Host.Outcome.next (offerWork u)) ((pkuOp_of_accepted howner haccepted).trans (pkuMac_of_broken hbroken))
  · exact congrArg (fun u => Host.Outcome.next (offerWork u)) ((pkuOp_of_accepted howner haccepted).trans (pkuMac_of_lowBits hwhole hholds hlow))
  · exact congrArg (fun u => Host.Outcome.next (offerWork u)) ((pkuOp_of_accepted howner haccepted).trans (pkuLoad_of_broken hbroken))
  · refine ⟨raisePku w 6 s, ?_, raisePku_effect ..⟩
    have hop := fun run => pkuOp_of_refused (run := run) howner hrefused
    match op with
    | 0 => exact congrArg (fun u => Host.Outcome.next (offerWork u)) (hop _)
    | 1 => exact congrArg (fun u => Host.Outcome.next (offerWork u)) (hop _)
    | 2 => exact congrArg (fun u => Host.Outcome.next (offerWork u)) (hop _)
  · exact ⟨_, congrArg Host.Outcome.next (pkuOp_of_refused howner hrefused), raisePku_effect ..⟩
  · have hat := (atPku_qinvTaken w q s).upd (fun p => { p with lanes := field value 1 0, qmod := field value 46 16 })
    exact ⟨_, (pkuCfg_of_holder howner).trans (if_pos hbounds), by simpa using hat.frame.record, hat.here⟩
  · have hat : AtPku [.pow] w s (raisePku w 6 (qinvTaken w q s)) _ := (atPku_qinvTaken w q s).upd (fun p => { p with status := setBit p.status 6 true })
    exact ⟨_, (pkuCfg_of_holder howner).trans (if_neg (ne_true_of_eq_false hbounds)), by simpa using hat.frame.record, hat.here⟩

end Sys2Proof.Machine

/-!
PROOFS, part 37: operand DMA of the PK units, and what befalls them.
-/

namespace Sys2Proof.Machine

set_option Elab.async false

/-! A transfer's start. -/

/-- The DMA word as a transfer keeps it: the row says the direction. -/
def dmaWord (out : Bool) (word : W64) : Nat := word.toNat / 2 * 2 + b2n out

/-- A transfer that is not to be made: DMA_DENIED and a COMMAND-scope error. -/
def dmaDenied (cell : Nat) (v : State) : State :=
  offerWork (commandError 0x08 (((servedBy v cell).map (·.1)).getD 65536) (160 + wingOf cell) (raisePku (wingOf cell) 5 v))

section
variable {cell : Nat} {out : Bool} {word : W64} {v : State} (hidle : (wing v (wingOf cell)).pku.dma = none)
include hidle

theorem startDma_of_other (hother : (wing v (wingOf cell)).pku.owner ≠ some (cell % 8)) : startDma cell out word v = dmaDenied cell v := by
  unfold startDma
  dsimp only
  rw [completeDma_of_none hidle]
  exact if_pos hother

variable (howner : (wing v (wingOf cell)).pku.owner = some (cell % 8))
include howner

theorem startDma_of_refused (hrefused : dmaRefused (wing v (wingOf cell)).pku out (dmaWord out word) = true) : startDma cell out word v = raisePku (wingOf cell) 6 v := by
  unfold startDma
  dsimp only
  rw [completeDma_of_none hidle]
  exact (if_neg (not_not_intro howner)).trans (if_pos hrefused)

variable (htaken : dmaRefused (wing v (wingOf cell)).pku out (dmaWord out word) = false)
include htaken

theorem startDma_of_barred (hbarred : (bit (dmaWord out word) 1 || wingRight v cell (if out then rightWR else rightRD)) = false) : startDma cell out word v = denyAccess cell v := by
  unfold startDma
  dsimp only
  rw [completeDma_of_none hidle]
  refine (if_neg (not_not_intro howner)).trans ((if_neg (ne_true_of_eq_false htaken)).trans (if_pos ?_))
  rw [← Bool.not_or]
  exact congrArg (!·) hbarred

variable (hpermitted : (bit (dmaWord out word) 1 || wingRight v cell (if out then rightWR else rightRD)) = true)
include hpermitted

theorem startDma_of_foreign (hforeign : (foreignPage v (wing v (wingOf cell)).pku.gallery (dmaWord out word) || (out && (wing v (wingOf cell)).pku.dirty)) = true) :
    startDma cell out word v = dmaDenied cell v := by
  unfold startDma
  dsimp only
  rw [completeDma_of_none hidle]
  refine (if_neg (not_not_intro howner)).trans ((if_neg (ne_true_of_eq_false htaken)).trans ((if_neg ?_).trans (if_pos hforeign)))
  rw [← Bool.not_or]
  exact ne_true_of_eq_false (congrArg (!·) hpermitted)

theorem startDma_of_taken (hown : (foreignPage v (wing v (wingOf cell)).pku.gallery (dmaWord out word) || (out && (wing v (wingOf cell)).pku.dirty)) = false) :
    startDma cell out word v = updPku (wingOf cell) (fun p => { p with
      dma := some { cell := cell, word := BitVec.ofNat 64 (dmaWord out word), data := if out then dmaSlots (wing v (wingOf cell)).pku (dmaWord out word) else [] } }) v := by
  unfold startDma
  dsimp only
  rw [completeDma_of_none hidle]
  refine (if_neg (not_not_intro howner)).trans ((if_neg (ne_true_of_eq_false htaken)).trans ((if_neg ?_).trans (if_neg (ne_true_of_eq_false hown))))
  rw [← Bool.not_or]
  exact ne_true_of_eq_false (congrArg (!·) hpermitted)

end

/-! A transfer's end. -/

section
variable {w : Nat} {d : PkuDma} {s : State} (hdma : (wing s w).pku.dma = some d)
include hdma

/-- The unit without the transfer in flight. -/
abbrev dmaTaken (w : Nat) (s : State) : State := updPku w (fun p => { p with dma := none }) s

theorem completeDma_of_inbound (hin : bit d.word.toNat 0 = false) (hwing : bit d.word.toNat 1 = false) (hwhole : bit d.word.toNat 20 = false) (hplain : bits d.word.toNat 19 17 = 0) :
    completeDma w s = updPku w (fun p => (dmaEntries (dmaTaken w s) w d.word.toNat).zipIdx.foldl (fun p e => putSlot (bits d.word.toNat 10 2 + e.2) e.1 p) p)
      (countEvent w 19 (dmaEntries (dmaTaken w s) w d.word.toNat).length (some (wing (dmaTaken w s) w).pku.gallery) (dmaTaken w s)) := by
  unfold completeDma
  rw [hdma]
  dsimp only
  rw [hin, if_neg Bool.false_ne_true]
  unfold dmaIn
  dsimp only
  rw [hwing, hwhole, hplain, Bool.false_and, if_neg Bool.false_ne_true]
  rfl

theorem completeDma_of_outbound (hout : bit d.word.toNat 0 = true) : completeDma w s = dmaOut w d.word.toNat d.data (dmaTaken w s) := by
  unfold completeDma
  rw [hdma]
  dsimp only
  rw [hout, if_pos rfl]

end

theorem dmaOut_toOperandSpace {w word : Nat} {data : Bytes} {s : State} (hspace : bit word 1 = true) :
    dmaOut w word data s = { s with pow := (dmaOut w word data s).pow, cnt := (dmaOut w word data s).cnt } ∧ wing (dmaOut w word data s) w = wing s w ∧
      (dmaOut w word data s).pow.operandSpace.mem = memWriteBytes 0 s.pow.operandSpace.mem (64 * bits word 50 28) data := by
  have hcount := frame_countEvent w 19 (bits word 16 11 + 1) (some (wing s w).pku.gallery) s
  unfold dmaOut
  dsimp only
  rw [if_pos hspace]
  generalize countEvent w 19 (bits word 16 11 + 1) (some (wing s w).pku.gallery) s = u at hcount ⊢
  refine ⟨?_, ?_, ?_⟩
  · have hframe : Frame [.pow, .cnt] u { u with pow := { u.pow with operandSpace := { u.pow.operandSpace with
        mem := memWriteBytes 0 u.pow.operandSpace.mem (64 * bits word 50 28) data
        residues := (List.range (bits word 16 11 + 1)).foldl (fun m i => mset m (bits word 50 28 + 8 * i) (residuesOf (ofLE ((data.drop (512 * i)).take 512)))) u.pow.operandSpace.residues } } } :=
      (frame_of_pow rfl).mono
    simpa using (hcount.mono.trans hframe).record
  · exact hcount.wing w
  · show memWriteBytes 0 u.pow.operandSpace.mem _ _ = _
    rw [hcount.pow]

/-! What befalls a unit. -/

section
variable {w : Fin 16} {s : State}

theorem pkuOverrun_of_free (hfree : (wing s w).pku.owner = none) : exec (.pkuHoldOverrun w) s = .next s := by
  show execPkuHoldOverrun w s = _
  rw [execPkuHoldOverrun]
  exact if_pos (by rw [hfree]; rfl)

/-- The state in which an overrun's COMMAND-scope error is raised. -/
def pkuOverrun (w : Nat) (s : State) : State :=
  raisePku w 4 (freePku w true (countEvent w 16 1 (some (wing s w).pku.gallery) (advanceTo ((wing s w).pku.holdFrom + cyclesNs (pkMHz s w) (262145 - (wing s w).pku.holdBase)) s)))

theorem atPku_overrun (w : Nat) (s : State) :
    ∃ u, AtPku [.pow, .doc, .cnt] w (advanceTo ((wing s w).pku.holdFrom + cyclesNs (pkMHz s w) (262145 - (wing s w).pku.holdBase)) s) (pkuOverrun w s)
      { pkuFreedAt true (u : State).now (pkMHz u w) (wing s w).pku with status := setBit (wing s w).pku.status 4 true } :=
  ⟨_, (atPku_freePku true ((AtPku.refl _ w (advanceTo ((wing s w).pku.holdFrom + cyclesNs (pkMHz s w) (262145 - (wing s w).pku.holdBase)) s)).andThen (frame_countEvent ..))).upd
    (fun p => { p with status := setBit p.status 4 true })⟩

theorem pkuOverrun_of_held (hheld : (wing s w).pku.owner.isSome = true) (hqueue : (wing s w).pku.queue = []) :
    exec (.pkuHoldOverrun w) s = .next (offerWork (commandError 0x07 (holderTicket s w (wing s w).pku.owner) (160 + w) (pkuOverrun w s))) := by
  obtain ⟨u, hat⟩ := atPku_overrun w s
  have hserved : serveClaims w (pkuOverrun w s) = pkuOverrun w s := serveClaims_of_none (by rw [hat.here]; exact hqueue)
  show execPkuHoldOverrun w s = _
  rw [execPkuHoldOverrun]
  refine (if_neg (by rw [Option.isNone_eq_false_iff.mpr hheld]; decide)).trans ?_
  exact congrArg (fun x => Host.Outcome.next (offerWork (commandError 0x07 (holderTicket s w (wing s w).pku.owner) (160 + w) x))) hserved

/-- The unit as a fault alarm leaves it. -/
def pkuAlarmedAt (again : Bool) (now : Nat) (p : Pku) : Pku :=
  { p with faulted := true, wiping := true, acc := 0, qpath := [], holdBase := 0, holdFrom := now, alarms := now :: recent 1000000000 now p.alarms, escalated := p.escalated || again || false }

/-- The state in which a fault alarm's COMMAND-scope error is raised. -/
def pkuAlarmed (w : Nat) (s : State) : State :=
  let u := raisePku w 2 (freePku w true (countEvent w 15 1 ((wing s w).pku.owner.map (fun _ => (wing s w).pku.gallery)) s))
  updPku w (pkuAlarmedAt false u.now) u

theorem pkuAlarm_of_first (hfirst : (wing s w).pku.alarms = []) :
    pkuAlarm w 2 0x05 s = commandError 0x05 (holderTicket s w (wing s w).pku.owner) (160 + w) (pkuAlarmed w s) := by
  unfold pkuAlarm
  dsimp only
  rw [hfirst]
  exact if_neg (by simp)

theorem pkuAlarmed_effect (w : Nat) (hfirst : (wing s w).pku.alarms = []) :
    pkuAlarmed w s = { s with pow := (pkuAlarmed w s).pow, doc := (pkuAlarmed w s).doc, cnt := (pkuAlarmed w s).cnt } ∧ (wing (pkuAlarmed w s) w).pku.owner = none ∧
    (wing (pkuAlarmed w s) w).pku.faulted = true ∧ (wing (pkuAlarmed w s) w).pku.dirty = true ∧ (wing (pkuAlarmed w s) w).pku.wiping = true ∧ (wing (pkuAlarmed w s) w).pku.acc = 0 ∧
    (wing (pkuAlarmed w s) w).pku.qpath = [] ∧ (wing (pkuAlarmed w s) w).pku.alarms = [s.now] ∧ (wing (pkuAlarmed w s) w).pku.status = setBit (wing s w).pku.status 2 true := by
  have hfreed := (atPku_freePku true ((AtPku.refl [.pow, .doc, .cnt] w s).andThen (frame_countEvent w 15 1 ((wing s w).pku.owner.map (fun _ => (wing s w).pku.gallery)) s))).upd
    (fun p => { p with status := setBit p.status 2 true })
  unfold pkuAlarmed raisePku
  dsimp only
  have hnow := hfreed.frame.now
  generalize updPku w (fun p => { p with status := setBit p.status 2 true }) _ = u at hfreed hnow ⊢
  have hat := hfreed.upd (pkuAlarmedAt false u.now)
  refine ⟨by simpa using hat.frame.record, ?_⟩
  rw [hat.here]
  refine ⟨rfl, rfl, Bool.or_true _, rfl, rfl, rfl, ?_, rfl⟩
  show u.now :: recent 1000000000 u.now (wing s w).pku.alarms = [s.now]
  rw [hnow, hfirst]
  rfl

theorem pkuSelfCheck_of_other (pass : Bool) (hother : (wing s w).pku.faulted = false ∨ (wing s w).pku.escalated = true) : exec (.pkuSelfCheckDone w pass) s = .next s := by
  show execPkuSelfCheckDone w pass s = _
  rw [execPkuSelfCheckDone]
  refine if_pos ?_
  cases hother with
  | inl hsound => rw [hsound]; rfl
  | inr hescalated => rw [hescalated, Bool.or_true]

theorem pkuSelfCheck_of_faulted (pass : Bool) (hfaulted : (wing s w).pku.faulted = true) (hescalated : (wing s w).pku.escalated = false) :
    exec (.pkuSelfCheckDone w pass) s = if pass then .next (serveClaims w (updPku w (fun p => { wipedPku p with faulted := false }) s))
      else .next (offerWork (wingError 0x05 w (updPku w (fun p => { p with escalated := true }) s))) := by
  show execPkuSelfCheckDone w pass s = _
  rw [execPkuSelfCheckDone]
  exact if_neg (by rw [hfaulted, hescalated]; decide)

theorem pkuStatusRead_eq (cell : Fin 128) (hidle : (wing s (wingOf cell.val)).pku.dma = none) :
    exec (.pkuStatusRead cell) s = .next (offerWork (updPku (wingOf cell.val) (fun p => { p with
      lastRead := mset p.lastRead (cell.val % 8) (statusWord ((wing s (wingOf cell.val)).pku.owner == some (cell.val % 8)) (wing s (wingOf cell.val)).pku.status
        (recent 1000000000 s.now (wing s (wingOf cell.val)).pku.alarms).length)
      status := if (wing s (wingOf cell.val)).pku.owner == some (cell.val % 8) then 0 else p.status }) s)) := by
  show execPkuStatusRead cell s = _
  rw [execPkuStatusRead, completeDma_of_none hidle, ite_self]

end

theorem pkuDma_eq (cell : Fin 128) (word : W64) (stores : List (Nat × Bytes)) (pages : List Nat) (out : Bool) (s : State) :
    exec (if out then .pkuDmaOut cell word pages else .pkuDmaIn cell word stores pages) s = .next (startDma cell out word (allocatePages cell pages (if out then s else cellWrites cell stores s))) := by
  cases out <;> rfl

theorem dmaDenied_effect (cell : Nat) (v : State) : ∃ u, Host.Outcome.next (dmaDenied cell v) = (.next (offerWork (commandError 0x08 (((servedBy v cell).map (·.1)).getD 65536) (160 + wingOf cell) u)) : Host.Outcome State Fault Refusal) ∧
    u = { v with pow := u.pow } ∧ (wing u (wingOf cell)).pku = { (wing v (wingOf cell)).pku with status := setBit (wing v (wingOf cell)).pku.status 5 true } :=
  ⟨_, rfl, raisePku_effect ..⟩

/-- Settles O41. -/
theorem pkuTransfersAndEvents : Obligations.PkuTransfersAndEvents := by
  unfold Obligations.PkuTransfersAndEvents
  refine ⟨fun cell word stores pages out s => ?_, fun w d s hdma hin hwing hwhole hplain => ?_, fun w d s hdma hout hspace => ?_, fun w s hidle => ?_, fun cell s => ?_, fun w s hheld hqueue => ?_,
    fun w s hfree => pkuOverrun_of_free hfree, fun w s hfirst => ⟨_, congrArg (fun u => Host.Outcome.next (offerWork u)) (pkuAlarm_of_first hfirst), pkuAlarmed_effect w.val hfirst⟩, fun w s hfaulted hescalated => ⟨fun hqueue => ?_, ?_⟩,
    fun w pass s hother => pkuSelfCheck_of_other pass hother⟩
  · dsimp only
    rw [pkuDma_eq]
    generalize allocatePages cell pages (if out then s else cellWrites cell stores s) = v
    intro hidle
    refine ⟨fun howner htaken hpermitted hown => ⟨_, congrArg Host.Outcome.next (startDma_of_taken hidle howner htaken hpermitted hown), ?_⟩,
      fun howner hrefused => ⟨_, congrArg Host.Outcome.next (startDma_of_refused hidle howner hrefused), raisePku_effect ..⟩,
      fun howner htaken hbarred => congrArg Host.Outcome.next (startDma_of_barred hidle howner htaken hbarred), fun hdenied => ?_⟩
    · obtain ⟨hrecord, hhere, -⟩ := updPku_effect (wingOf cell.val) (fun p => { p with
        dma := some { cell := cell.val, word := BitVec.ofNat 64 (dmaWord out word), data := if out then dmaSlots (wing v (wingOf cell.val)).pku (dmaWord out word) else [] } }) v
      exact ⟨hrecord, hhere⟩
    · have hdeny : startDma cell out word v = dmaDenied cell v := by
        by_cases howner : (wing v (wingOf cell.val)).pku.owner = some (cell.val % 8)
        · obtain ⟨htaken, hpermitted, hforeign⟩ := hdenied.resolve_left (not_not_intro howner)
          exact startDma_of_foreign hidle howner htaken hpermitted hforeign
        · exact startDma_of_other hidle howner
      rw [hdeny]
      exact dmaDenied_effect ..
  · have hat := (((AtPku.refl [.pow, .cnt] w s).upd (fun p => { p with dma := none })).andThen
      (frame_countEvent w.val 19 (dmaEntries (dmaTaken w s) w d.word.toNat).length (some (wing (dmaTaken w s) w).pku.gallery) (dmaTaken w s))).upd
      (fun p => (dmaEntries (dmaTaken w s) w d.word.toNat).zipIdx.foldl (fun p e => putSlot (bits d.word.toNat 10 2 + e.2) e.1 p) p)
    exact ⟨_, congrArg (fun u => Host.Outcome.next (offerWork u)) (completeDma_of_inbound hdma hin hwing hwhole hplain), by simpa using hat.frame.record, hat.here⟩
  · obtain ⟨hrecord, hwing, hmem⟩ := dmaOut_toOperandSpace (w := w) (data := d.data) (s := dmaTaken w s) hspace
    have htaken := (AtPku.refl [.pow] w s).upd (fun p => { p with dma := none })
    refine ⟨_, congrArg (fun u => Host.Outcome.next (offerWork u)) (completeDma_of_outbound hdma hout), hrecord, (congrArg Wing.pku hwing).trans htaken.here, hmem⟩
  · exact congrArg (fun u => Host.Outcome.next (offerWork u)) (completeDma_of_none hidle)
  · intro w p hidle
    obtain ⟨hrecord, hhere, -⟩ := updPku_effect w (fun q => { q with
      lastRead := mset q.lastRead (cell.val % 8) (statusWord (p.owner == some (cell.val % 8)) p.status (recent 1000000000 s.now p.alarms).length)
      status := if p.owner == some (cell.val % 8) then 0 else q.status }) s
    exact ⟨_, pkuStatusRead_eq cell hidle, hrecord, hhere⟩
  · obtain ⟨u, hat⟩ := atPku_overrun w s
    refine ⟨_, pkuOverrun_of_held hheld hqueue, hat.frame.now, ?_⟩
    rw [hat.here]
    exact ⟨rfl, Bool.or_true _, rfl, rfl⟩
  · have hat := (AtPku.refl [.pow] w s).upd (fun p => { wipedPku p with faulted := false })
    refine ⟨_, (pkuSelfCheck_of_faulted true hfaulted hescalated).trans (congrArg Host.Outcome.next (serveClaims_of_none ?_)), by simpa using hat.frame.record, hat.here⟩
    rw [hat.here]
    exact hqueue
  · obtain ⟨hrecord, hhere, -⟩ := updPku_effect w (fun p => { p with escalated := true }) s
    exact ⟨_, pkuSelfCheck_of_faulted false hfaulted hescalated, hrecord, hhere⟩

end Sys2Proof.Machine

/-!
PROOFS, part 38: the noise sources, the pool and the DRBG instances.
-/

namespace Sys2Proof.Machine

set_option Elab.async false

theorem frame_updSource (n : Nat) (f : Source → Source) (s : State) : Frame [.rng] s (updSource n f s) := frame_of_rng rfl

theorem Frame.source {ps : List Part} {s t : State} (f : Frame ps s t) (k : Nat) (hp : .rng ∉ ps := by simp) : Machine.source t k = Machine.source s k := by
  unfold Machine.source
  rw [f.rng hp]

/-! The rows. -/

section
variable {n : Fin 8} {block : BitVec 1024} {samples : List Bool} {s : State}

theorem entropyBlock_of_live (hlive : (source s n).phase = .live) : exec (.entropyBlock n block) s = .next (blockArrives n block s) := by
  rw [exec, execEntropyBlock, if_pos (by rw [hlive]; decide)]

theorem entropyBlock_of_other (hother : (source s n).phase ≠ .live) : exec (.entropyBlock n block) s = .next s := by
  rw [exec, execEntropyBlock, if_neg (by simpa using hother)]

theorem healthTestFail_eq : exec (.healthTestFail n samples) s = .next (samplesFail n samples s) := rfl

theorem blockArrives_of_passes {p : Option Bool × Nat} (hpasses : testSamples (source s n) (samplesOf block) = .ok p) : blockArrives n block s = passedBlock n (samplesOf block) p s := by
  unfold blockArrives
  simp only [hpasses]

theorem blockArrives_of_fails {apt : Bool} (hfails : testSamples (source s n) (samplesOf block) = .error apt) : blockArrives n block s = sourceFails n apt s := by
  unfold blockArrives
  simp only [hfails]

theorem samplesFail_of_passes {p : Option Bool × Nat} (hpasses : testSamples (source s n) samples = .ok p) : samplesFail n samples s = s := by
  rw [samplesFail, hpasses]

theorem samplesFail_of_fails {apt : Bool} (hfails : testSamples (source s n) samples = .error apt) : samplesFail n samples s = sourceFails n apt s := by
  rw [samplesFail, hfails]

end

/-! Samples that pass. -/

section
variable {n : Nat} {samples : List Bool} {p : Option Bool × Nat} {s : State}

/-- The source as a passed block leaves it. -/
def sourcePassed (l : BitVec 256) (p : Option Bool × Nat) (x : Source) : Source := { x with consec := 0, blocks := sat 0xFFFFFFFF (x.blocks + 1), lfsr := l, last := p.1, run := p.2 }

theorem passedBlock_effect (n : Nat) (samples : List Bool) (p : Option Bool × Nat) (s : State) :
    passedBlock n samples p s = { s with rng := (passedBlock n samples p s).rng } ∧
      (passedBlock n samples p s).rng.pool =
        (if s.rng.pool.length < 64 then s.rng.pool ++ [leBytes 32 (samples.foldl Config.lfsrStep (source s n).lfsr).toNat] else s.rng.pool) ∧
      source (passedBlock n samples p s) n = sourcePassed (samples.foldl Config.lfsrStep (source s n).lfsr) p (source s n) ∧
      (∀ k, k ≠ n → source (passedBlock n samples p s) k = source s k) ∧ (passedBlock n samples p s).rng.drbgs = s.rng.drbgs := by
  generalize hl : samples.foldl Config.lfsrStep (source s n).lfsr = l
  have hsource := fun k => source_updSource (s := s) n k (sourcePassed l p)
  have hpassed : passedBlock n samples p s = if s.rng.pool.length < 64 then
      { updSource n (sourcePassed l p) s with rng := { (updSource n (sourcePassed l p) s).rng with pool := s.rng.pool ++ [leBytes 32 l.toNat] } } else updSource n (sourcePassed l p) s := by
    rw [← hl]
    rfl
  rw [hpassed]
  split
  · exact ⟨rfl, rfl, (hsource n).trans (if_pos rfl), fun k hk => (hsource k).trans (if_neg hk), rfl⟩
  · exact ⟨rfl, rfl, (hsource n).trans (if_pos rfl), fun k hk => (hsource k).trans (if_neg hk), rfl⟩

end

/-! A test that fails. -/

/-- The source as a failed test leaves it: it restarts with its compressor clear. -/
def sourceFailed (apt : Bool) (now : Nat) (x : Source) : Source :=
  { x with
    phase := .starting, failed := sat 0xFFFF (x.failed + 1), consec := x.consec + 1, lastRct := !apt, lastApt := apt, failedAt := some now
    lfsr := 0, last := none, run := 0 }

/-- The state in which a failed test is counted and logged. -/
def failureNoted (n : Nat) (apt : Bool) (s : State) : State :=
  let t := updSource n (sourceFailed apt s.now) s
  logRecord 0x0060 n 0 (leBytes 8 (rngState t)) (latchEvent 23 t)

section
variable {n : Nat} {apt : Bool} {s : State}

theorem frame_failureNoted (n : Nat) (apt : Bool) (s : State) : Frame [.rng, .fab, .cur] s (failureNoted n apt s) :=
  ((frame_updSource ..).mono.trans (frame_latchEvent ..).mono).trans (frame_logRecord ..).mono

theorem rng_failureNoted (n : Nat) (apt : Bool) (s : State) : (failureNoted n apt s).rng = (updSource n (sourceFailed apt s.now) s).rng :=
  (frame_logRecord ..).rng.trans (frame_latchEvent ..).rng

theorem source_failureNoted (n k : Nat) (apt : Bool) (s : State) : source (failureNoted n apt s) k = if k = n then sourceFailed apt s.now (source s n) else source s k := by
  unfold source
  rw [rng_failureNoted]
  exact source_updSource (s := s) n k _

theorem mevCause_failureNoted (n : Nat) (apt : Bool) (s : State) : bit (failureNoted n apt s).fab.mevCause 23 = true :=
  (congrArg (fun f : Fabric => bit f.mevCause 23) (frame_logRecord ..).fab).trans (latchEvent_cause ..)

theorem sourceFails_of_running (hrunning : (source s n).phase ≠ .stopped) :
    sourceFails n apt s = if (source (failureNoted n apt s) n).consec ≥ 4 then rngFatalAlarm 1 n (failureNoted n apt s)
      else if failingSources (failureNoted n apt s) ≥ 3 then rngFatalAlarm 2 n (failureNoted n apt s) else failureNoted n apt s := by
  rw [sourceFails, if_neg (by simpa using hrunning)]
  rfl

theorem sourceFails_of_stopped (hstopped : (source s n).phase = .stopped) : sourceFails n apt s = s := if_pos (by rw [hstopped]; rfl)

/-- While only one source has failed, the sources that failed within the last second are one at most. -/
theorem failingSources_of_one (n : Fin 8) (honly : ∀ k, k ≠ n.val → (source s k).failedAt = none) : failingSources s ≤ 1 := by
  have hone : ∀ m : Fin 8, ((List.range 8).filter (fun k => k == m.val)).length ≤ 1 := by decide
  refine le_trans ?_ (hone n)
  unfold failingSources
  rw [← List.countP_eq_length_filter, ← List.countP_eq_length_filter]
  refine List.countP_mono_left (fun k _ hk => ?_)
  by_contra hne
  rw [honly k (by simpa using hne)] at hk
  exact Bool.false_ne_true hk

end

/-! Draws that the pool serves. -/

theorem frame_signalPark (wait object : Nat) (s : State) : Frame [.doc] s (signalPark wait object s) := frame_of_doc rfl

section
variable {n : Nat} {q : PoolDraw} {s : State} (hnext : nextDraw s = some q) (hinst : q.inst = n)
include hnext hinst

theorem completeDraw_of_reseed (hreseed : q.reseed = true) (hpool : 2 ≤ s.rng.pool.length) : completeDraw n true s = offerWork (signalPark 1 n (reseedInst n (unqueueDraw n s))) := by
  unfold completeDraw
  rw [hnext]
  exact if_neg (by simp [hinst, hreseed, drawBlocks]; omega)

theorem completeDraw_of_instantiate (hfresh : q.reseed = false) (hpool : 4 ≤ s.rng.pool.length) : completeDraw n false s = offerWork (signalPark 1 n (instantiate n (unqueueDraw n s))) := by
  unfold completeDraw
  rw [hnext]
  exact if_neg (by simp [hinst, hfresh, drawBlocks]; omega)

end

theorem rng_reseedInst {n : Nat} {d : Drbg} {s : State} (hd : mget s.rng.drbgs n = some d) :
    (reseedInst n (unqueueDraw n s)).rng = { s.rng with
      queue := s.rng.queue.filter (fun x => x.inst != n), pool := s.rng.pool.drop 2
      drbgs := mset s.rng.drbgs n { key := (drbgReseed d.key d.v (s.rng.pool.take 2).flatten).1, v := (drbgReseed d.key d.v (s.rng.pool.take 2).flatten).2, requests := 0 } } := by
  have hd' : mget (unqueueDraw n s).rng.drbgs n = some d := hd
  unfold reseedInst
  rw [hd']
  rfl

/-- Settles O42. -/
theorem randomNumberBlock : Obligations.RandomNumberBlock := by
  unfold Obligations.RandomNumberBlock
  refine ⟨fun n block p s hlive hpasses => ?_, fun n block s hother => ?_, fun n block samples apt inBlock s => ?_, fun n samples p s hpasses => ?_, fun n samples s hstopped => ?_,
    fun n s => ⟨fun hstarting => ⟨updSource n (fun x => { x with phase := .live }) s, ?_, rfl, ?_, rfl⟩, fun hother => ?_⟩, fun n q d s hnext hinst hreseed hpool hd => ?_, fun n q s hnext hinst hfresh hpool => ?_⟩
  · exact ⟨_, (entropyBlock_of_live hlive).trans (congrArg Host.Outcome.next (blockArrives_of_passes hpasses)), passedBlock_effect ..⟩
  · exact entropyBlock_of_other hother
  · intro row hrunning hfails
    have hstopped : (source s n).phase ≠ .stopped := by
      cases inBlock
      · exact hrunning
      · rw [show (source s n).phase = .live from hrunning]; decide
    have hexec : exec row s = .next (sourceFails n apt s) := by
      cases inBlock
      · exact healthTestFail_eq.trans (congrArg Host.Outcome.next (samplesFail_of_fails hfails))
      · exact (entropyBlock_of_live hrunning).trans (congrArg Host.Outcome.next (blockArrives_of_fails hfails))
    rw [hexec, sourceFails_of_running hstopped]
    have hsource := fun k => source_failureNoted n k apt s
    have hhere := (hsource n).trans (if_pos rfl)
    rw [hhere]
    refine ⟨fun hfew hothers => ⟨failureNoted n apt s, ?_, by simpa using (frame_failureNoted n apt s).record, (congrArg Rng.pool (rng_failureNoted n.val apt s)).trans rfl, (congrArg Rng.fatal (rng_failureNoted n.val apt s)).trans rfl, hhere,
      mevCause_failureNoted ..⟩, fun hmany => ⟨failureNoted n apt s, ?_, by simpa using (frame_failureNoted n apt s).record, congrArg Source.consec hhere⟩⟩
    · have hone := failingSources_of_one (s := failureNoted n apt s) n (fun k hk => by rw [hsource k, if_neg hk]; exact hothers k)
      rw [if_neg (by simp only [sourceFailed]; omega), if_neg (by omega)]
    · rw [if_pos (by simpa [sourceFailed] using hmany)]
  · exact healthTestFail_eq.trans (congrArg Host.Outcome.next (samplesFail_of_passes hpasses))
  · refine healthTestFail_eq.trans (congrArg Host.Outcome.next ?_)
    unfold samplesFail
    split
    · rfl
    · exact sourceFails_of_stopped hstopped
  · show Host.Outcome.next (if _ then _ else _) = _
    rw [hstarting, if_pos (by decide)]
  · exact (source_updSource ..).trans (if_pos rfl)
  · show Host.Outcome.next (if _ then _ else _) = _
    rw [if_neg (by simpa using hother)]
  · have hrng : (signalPark 1 n (reseedInst n (unqueueDraw n s))).rng = _ := (frame_signalPark ..).rng.trans (rng_reseedInst hd)
    have hframe : Frame [.rng, .doc] s (signalPark 1 n (reseedInst n (unqueueDraw n s))) := ((frame_of_rng (s := s) (t := unqueueDraw n s) rfl).mono.trans (frame_reseedInst ..).mono).trans (frame_signalPark ..).mono
    refine ⟨_, congrArg Host.Outcome.next (completeDraw_of_reseed hnext hinst hreseed hpool), by simpa using hframe.record, ?_⟩
    rw [hrng]
    exact ⟨rfl, mget_mset_same .., rfl⟩
  · have hframe : Frame [.rng, .doc] s (signalPark 1 n (instantiate n (unqueueDraw n s))) := (frame_of_rng (s := s) (t := instantiate n (unqueueDraw n s)) rfl).mono.trans (frame_signalPark ..).mono
    exact ⟨_, congrArg Host.Outcome.next (completeDraw_of_instantiate hnext hinst hfresh hpool), by simpa using hframe.record, rfl, mget_mset_same .., rfl⟩

end Sys2Proof.Machine

/-!
PROOFS, part 39: link frames: which are taken, relayed or dropped, and what leaves on a port.
-/

namespace Sys2Proof.Machine

set_option Elab.async false

open Sys2Proof.Safety

/-! What leaves on a port. -/

theorem frame_sendFrame (port cls dst : Nat) (relayed : Option (Nat × Nat)) (e : Bool) (body : FrameBody) (s : State) : Frame [.pair] s (sendFrame port cls dst relayed e body s) :=
  frame_of_pair (sendFrame_pair ..)

theorem frame_sendOn (port cls dst : Nat) (body : FrameBody) (s : State) : Frame [.pair] s (sendOn port cls dst body s) := frame_sendFrame ..

theorem frame_updPort (p : Nat) (f : SpanPort → SpanPort) (s : State) : Frame [.pair] s (updPort p f s) := frame_of_pair rfl

theorem sendFrame_sentOne {port cls dst : Nat} {relayed : Option (Nat × Nat)} {e : Bool} {body : FrameBody} {s : State} (hsends : Sends s port) :
    SentOne s (sendFrame port cls dst relayed e body s) { port := port, cls := cls, dst := dst, counter := (spanPort s port).txCounter + 1, body := body, relayed := relayed, endToEnd := e } := by
  unfold sendFrame
  rw [hsends, if_neg (by decide)]
  exact ⟨_, rfl⟩

/-- Only the counter of the port on which a frame leaves moves. -/
theorem spanPort_sendFrame (port cls dst k : Nat) (relayed : Option (Nat × Nat)) (e : Bool) (body : FrameBody) (s : State) :
    ∃ n, spanPort (sendFrame port cls dst relayed e body s) k = { spanPort s k with txCounter := n } ∧ (Sends s port → k = port → n = (spanPort s port).txCounter + 1) := by
  unfold sendFrame
  split
  next hbarred => exact ⟨(spanPort s k).txCounter, rfl, fun hsends => absurd hbarred (by rw [hsends]; decide)⟩
  next =>
    by_cases hk : k = port
    · subst hk
      exact ⟨(spanPort s k).txCounter + 1, (spanPort_updPort s k k (fun p => { p with txCounter := (spanPort s k).txCounter + 1 })).trans (if_pos rfl), fun _ _ => rfl⟩
    · exact ⟨(spanPort s k).txCounter, (spanPort_updPort s port k (fun p => { p with txCounter := (spanPort s port).txCounter + 1 })).trans (if_neg hk), fun _ h => absurd h hk⟩

theorem sends_of_frame {ps : List Part} {s t : State} (f : Frame ps s t) {port : Nat} (hsends : Sends s port) (hp : .img ∉ ps := by simp) : Sends t port := by
  unfold Sends fixedRow
  rw [f.img hp]
  exact hsends

/-! Frames taken. -/

theorem frame_received (h : LinkHdr) (s : State) : Frame [.pair] s (received h s) := frame_updPort ..

/-- The receiving port. -/
theorem spanPort_received (h : LinkHdr) (s : State) : spanPort (received h s) h.port = { spanPort s h.port with
    rxCounter := h.counter, lastFrame := s.now, uncorrected := sat 0xFFFF ((spanPort s h.port).uncorrected + Config.fecFailures h.port h.counter) } :=
  (spanPort_updPort s h.port h.port _).trans (if_pos rfl)

theorem spanPort_received_ne {h : LinkHdr} {k : Nat} (hk : k ≠ h.port) (s : State) : spanPort (received h s) k = spanPort s k := (spanPort_updPort s h.port k _).trans (if_neg hk)

section
variable {handshake : Bool} {h : LinkHdr} {act : State → State} {s : State}

theorem acceptFrame_of_accepts (ha : Accepts handshake h s) : acceptFrame handshake h act s = act (received h s) := by
  obtain ⟨hport, hup, hkeyed, htag, hnew⟩ := ha
  unfold acceptFrame
  dsimp only
  rw [if_neg, if_neg, if_neg (by omega)]
  · rfl
  · cases hauth : (spanPort s h.port).auth
    · simp
    · simp [htag hauth]
  · cases handshake <;> simp [hup, hport, hkeyed]

/-- A frame on a port that is down, or that has no keys where it needs them, is dropped. -/
theorem acceptFrame_of_dropped (hdropped : 4 ≤ h.port ∨ (spanPort s h.port).up = false ∨ (handshake = false ∧ (spanPort s h.port).auth = false)) : acceptFrame handshake h act s = s := by
  unfold acceptFrame
  refine if_pos ?_
  obtain hport | hdown | ⟨hplain, hbare⟩ := hdropped
  · simp [hport]
  · simp [hdown]
  · simp [hplain, hbare]

theorem acceptFrame_of_tagFails (hport : h.port < 4) (hup : (spanPort s h.port).up = true) (hauth : (spanPort s h.port).auth = true) (hfails : h.tagOk = false) :
    acceptFrame handshake h act s = tagFailure h.port s := by
  unfold acceptFrame
  dsimp only
  rw [if_neg (by simp [hup, hauth, hport]), if_pos (by rw [hfails, hauth]; rfl)]

theorem acceptFrame_of_old (hport : h.port < 4) (hup : (spanPort s h.port).up = true) (hkeyed : (spanPort s h.port).auth = true ∨ handshake = true)
    (htag : (spanPort s h.port).auth = true → h.tagOk = true) (hold : h.counter ≤ (spanPort s h.port).rxCounter) : acceptFrame handshake h act s = s := by
  unfold acceptFrame
  dsimp only
  rw [if_neg, if_neg, if_pos hold]
  · cases hauth : (spanPort s h.port).auth
    · simp
    · simp [htag hauth]
  · cases hkeyed with
    | inl hauth => simp [hup, hport, hauth]
    | inr hshake => simp [hup, hport, hshake]

end

theorem receiveFrame_of_here {h : LinkHdr} {cls : Nat} {body : FrameBody} {act : State → State} {s : State} (hh : ForHere h s) : receiveFrame h cls body act s = act (received h s) := by
  unfold receiveFrame
  rw [acceptFrame_of_accepts hh.1]
  exact if_pos hh.2

theorem receiveFrame_of_other {h : LinkHdr} {cls : Nat} {body : FrameBody} {act : State → State} {s : State} (ha : Accepts false h s) (hall : h.dst ≠ 0xFFFF) (hme : h.dst ≠ s.img.set.moduleId) :
    receiveFrame h cls body act s = relayFrame h cls body (received h s) := by
  unfold receiveFrame
  rw [acceptFrame_of_accepts ha]
  exact if_neg (not_or.mpr ⟨hall, hme⟩)

theorem pairFrame_of_partner {h : LinkHdr} {act : State → State} {s : State} (hh : FromPartner h s) : pairFrame h act s = act (received h s) := by
  obtain ⟨ha, hpaired, hport, hup⟩ := hh
  unfold pairFrame
  rw [if_neg (by simp [hpaired, hport, hup]), acceptFrame_of_accepts ha]

theorem pairFrame_of_stranger {h : LinkHdr} {act : State → State} {s : State} (ha : Accepts false h s) (hstranger : paired s = false ∨ h.port ≠ s.pair.port ∨ s.pair.linkUp = false) :
    pairFrame h act s = received h s := by
  unfold pairFrame
  rw [if_pos, acceptFrame_of_accepts ha]
  · rfl
  · obtain hsingle | hport | hdown := hstranger
    · simp [hsingle]
    · simp [hport]
    · simp [hdown]

/-! What a row does with its frame. -/

/-- A frame of the pair is taken as any other: what it does depends on its link. -/
theorem pairFrame_eq (h : LinkHdr) (act : State → State) (s : State) : ∃ act', pairFrame h act s = acceptFrame false h act' s := by
  unfold pairFrame
  split
  · exact ⟨_, rfl⟩
  · exact ⟨_, rfl⟩

/-- Every row that delivers a frame takes it or drops it by the same checks. -/
theorem exec_of_frame {i : Instr} {h : LinkHdr} {hs : Bool} (s : State) (hi : frameOf i = some (h, hs)) :
    ∃ hs' act, (hs' = true → hs = true) ∧ exec i s = .next (acceptFrame hs' h act s) := by
  have hpair : ∀ (g : LinkHdr) (act : State → State) (u : Host.Outcome State Fault Refusal), u = .next (pairFrame g act s) → ∃ hs' act', (hs' = true → false = true) ∧ u = .next (acceptFrame hs' g act' s) := by
    rintro g act u rfl
    obtain ⟨act', hact⟩ := pairFrame_eq g act s
    exact ⟨false, act', nofun, congrArg Host.Outcome.next hact⟩
  cases i <;> simp only [frameOf, Option.some.injEq, Prod.mk.injEq, reduceCtorEq] at hi
  case hello g body =>
    obtain ⟨rfl, rfl⟩ := hi
    by_cases hdst : g.dst = 0xFFFF
    · exact ⟨true, _, id, congrArg Host.Outcome.next (if_pos hdst)⟩
    · exact ⟨false, _, nofun, congrArg Host.Outcome.next (if_neg hdst)⟩
  case keyconfirm g sig =>
    obtain ⟨rfl, rfl⟩ := hi
    by_cases hdst : g.dst = 0xFFFF
    · exact ⟨true, _, id, congrArg Host.Outcome.next (if_pos hdst)⟩
    · exact ⟨false, _, nofun, congrArg Host.Outcome.next (if_neg hdst)⟩
  case idle | probe | echo => obtain ⟨rfl, rfl⟩ := hi; exact ⟨false, _, nofun, rfl⟩
  case withdraw | position | crossfeed | delta | deltaAck | resyncData | resyncEnd => obtain ⟨rfl, rfl⟩ := hi; exact hpair _ _ _ rfl
  all_goals obtain ⟨rfl, rfl⟩ := hi; exact ⟨false, _, nofun, rfl⟩

theorem exec_of_relayed {i : Instr} {h : LinkHdr} {cls : Nat} {body : FrameBody} (s : State) (hi : frameOf i = some (h, false)) (hr : relayOf i = some (cls, body)) :
    ∃ act, exec i s = .next (receiveFrame h cls body act s) := by
  cases i <;> simp only [relayOf, Option.some.injEq, Prod.mk.injEq, reduceCtorEq] at hr <;>
    (obtain ⟨rfl, rfl⟩ := hr; simp only [frameOf, Option.some.injEq, Prod.mk.injEq, and_true] at hi; subst hi; exact ⟨_, rfl⟩)

theorem exec_of_pair {i : Instr} {h : LinkHdr} (s : State) (hi : frameOf i = some (h, false)) (hp : ofPair i = true) : ∃ act, exec i s = .next (pairFrame h act s) := by
  cases i <;> simp only [ofPair, Bool.false_eq_true] at hp <;>
    (simp only [frameOf, Option.some.injEq, Prod.mk.injEq, and_true] at hi; subst hi; exact ⟨_, rfl⟩)

/-! Routes. -/

/-- An accepted frame changes no link: routes stay as they are. -/
theorem routeTo_received (h : LinkHdr) (s : State) (dst : Nat) : routeTo (received h s) dst = routeTo s dst := by
  have hports : ∀ k, (spanPort (received h s) k).up = (spanPort s k).up ∧ (spanPort (received h s) k).auth = (spanPort s k).auth := by
    intro k
    by_cases hk : k = h.port
    · subst hk
      rw [spanPort_received]
      exact ⟨rfl, rfl⟩
    · rw [spanPort_received_ne hk]
      exact ⟨rfl, rfl⟩
  have hmap : ∀ k, mapPeer (received h s) k = mapPeer s k := fun _ => rfl
  have hhops : hopsTo (received h s) dst = hopsTo s dst := rfl
  unfold routeTo
  simp only [hports, hhops, hmap]

section
variable {h : LinkHdr} {cls : Nat} {body : FrameBody} {s : State}

theorem relayFrame_of_far (hfar : 4095 ≤ h.hops + 1) : relayFrame h cls body s = s := by
  unfold relayFrame
  split
  · rw [if_pos hfar]
  · rfl

theorem relayFrame_of_route {p n : Nat} (hroute : routeTo s h.dst = some (p, n)) (hnear : h.hops + 1 < 4095) :
    relayFrame h cls body s = sendFrame p cls h.dst (some (h.src, h.hops + 1)) (carriesState body) body s := by
  unfold relayFrame
  rw [hroute]
  exact if_neg (by omega)

end

/-! A tag that fails. -/

/-- The port with a failed tag counted. -/
def tagFailed (now : Nat) (p : SpanPort) : SpanPort := { p with authFail := sat 0xFFFF (p.authFail + 1), tagFails := now :: recent 1000000000 now p.tagFails }

theorem tagFailure_of_few {port : Nat} {s : State} (hother : (paired s && port == s.pair.port) = false) (hfew : (recent 1000000000 s.now (spanPort s port).tagFails).length < 2) :
    tagFailure port s = updPort port (tagFailed s.now) s := by
  have hport : spanPort (updPort port (tagFailed s.now) s) port = tagFailed s.now (spanPort s port) := (spanPort_updPort ..).trans (if_pos rfl)
  have hnot : ((paired s && port == s.pair.port) || decide ((spanPort (updPort port (tagFailed s.now) s) port).tagFails.length ≥ 3)) = false := by
    rw [hother, hport, Bool.false_or, decide_eq_false_iff_not]
    simp only [tagFailed, List.length_cons]
    omega
  exact if_neg (ne_true_of_eq_false hnot)

theorem updPort_effect (port : Nat) (f : SpanPort → SpanPort) (s : State) : updPort port f s = { s with pair := (updPort port f s).pair } ∧ spanPort (updPort port f s) port = f (spanPort s port) :=
  ⟨rfl, (spanPort_updPort ..).trans (if_pos rfl)⟩

theorem sendPartner_of_up {cls : Nat} {body : FrameBody} {s : State} (hup : s.pair.linkUp = true) : sendPartner cls body s = sendOn s.pair.port cls s.pair.partner body s := if_pos hup

theorem sendPartner_of_down {cls : Nat} {body : FrameBody} {s : State} (hdown : s.pair.linkUp = false) : sendPartner cls body s = s := if_neg (by rw [hdown]; decide)

theorem spanPort_received_probe (h : LinkHdr) (s : State) : (spanPort (received h s) h.port).probeAt = (spanPort s h.port).probeAt := by rw [spanPort_received]

end Sys2Proof.Machine

/-!
PROOFS, part 40: frames that arrive on the span, and the measurement of a hop.
-/

namespace Sys2Proof.Machine

set_option Elab.async false

open Sys2Proof.Safety

/-! Frames that act on nothing but their port. -/

theorem idleDue_of_down {s : State} (hdown : s.pair.linkUp = false) : exec .idleDue s = .next s := congrArg Host.Outcome.next (sendPartner_of_down hdown)

theorem probe_effect {h : LinkHdr} {s : State} (ha : Accepts false h s) (hsends : Sends s h.port) : ∃ t, exec (.probe h) s = .next t ∧ t = { s with pair := t.pair } ∧
    SentOne s t { port := h.port, cls := 0, dst := 0xFFFF, counter := (spanPort s h.port).txCounter + 1, body := .echo } := by
  have hframe : Frame [.pair] s (sendOn h.port 0 0xFFFF .echo (received h s)) := (frame_received h s).trans (frame_sendOn ..)
  have hsent := sendFrame_sentOne (cls := 0) (dst := 0xFFFF) (relayed := none) (e := false) (body := .echo) (sends_of_frame (frame_received h s) hsends)
  rw [spanPort_received] at hsent
  exact ⟨_, congrArg Host.Outcome.next (acceptFrame_of_accepts ha), by simpa using hframe.record, hsent⟩

section
variable {h : LinkHdr} {trip turn : Nat} {s : State} (ha : Accepts false h s)
include ha

theorem echo_unasked (hnone : (spanPort s h.port).probeAt = none) : exec (.echo h trip turn) s = .next (received h s) := by
  refine congrArg Host.Outcome.next ((acceptFrame_of_accepts ha).trans (if_pos ?_))
  rw [spanPort_received_probe, hnone]
  rfl

theorem echo_answer (hasked : (spanPort s h.port).probeAt.isSome = true) :
    exec (.echo h trip turn) s = .next (updPort h.port (fun p => { p with hopNs := ceilDiv (trip - turn) 2, probeAt := none }) (received h s)) := by
  refine congrArg Host.Outcome.next ((acceptFrame_of_accepts ha).trans (if_neg ?_))
  rw [spanPort_received_probe, Option.isNone_eq_false_iff.mpr hasked]
  decide

end

/-- The state with a probe under way on a port. -/
def probed (port : Nat) (s : State) : State := updPort port (fun p => { p with probeAt := some s.now }) (sendOn port 0 0xFFFF .probe (openFars s))

theorem hopMeasurement_eq (port : Fin 4) (s : State) (hauth : (spanPort s port).auth = true) : exec (.hopMeasurementDue port) s = .next (probed port s) := by
  refine congrArg Host.Outcome.next ((if_pos hauth).trans ?_)
  rfl

theorem frame_probed (port : Nat) (s : State) : Frame [.pair, .rng, .freeCount] s (probed port s) := ((frame_openFars s).trans (frame_sendOn ..).mono).trans (frame_updPort ..).mono

theorem probed_effect (port : Fin 4) (s : State) : (spanPort (probed port s) port).probeAt = some s.now ∧
    (Sends s port → s.pair.farWaiting = [] → SentOne s (probed port s) { port := port, cls := 0, dst := 0xFFFF, counter := (spanPort s port).txCounter + 1, body := .probe }) := by
  refine ⟨congrArg SpanPort.probeAt (updPort_effect ..).2, fun hsends hnone => ?_⟩
  unfold probed
  rw [openFars_of_none hnone]
  exact sendFrame_sentOne (s := s) hsends

/-- Settles O43. -/
theorem linkFramesAreChecked : Obligations.LinkFramesAreChecked := by
  unfold Obligations.LinkFramesAreChecked
  refine ⟨⟨fun i h hs s hi => ?_, fun i h cls body s hi hr ha hall hme => ?_, fun i h s hi hp ha hstranger => ?_⟩, fun h s ha => congrArg Host.Outcome.next (acceptFrame_of_accepts ha), fun s hup hsends => ?_,
    fun s hdown => idleDue_of_down hdown, fun h s ha hsends => probe_effect ha hsends, fun h trip turn s ha => ⟨fun hasked => ⟨_, echo_answer ha hasked, rfl, (updPort_effect ..).2⟩, echo_unasked ha⟩,
    fun port s => ⟨fun hauth => ⟨_, hopMeasurement_eq port s hauth, by simpa using (frame_probed port s).record, probed_effect port s⟩, fun hbare => congrArg Host.Outcome.next (if_neg (ne_true_of_eq_false hbare))⟩⟩
  · obtain ⟨hs', act, hshake, hexec⟩ := exec_of_frame s hi
    rw [hexec]
    refine ⟨fun hdropped => congrArg Host.Outcome.next ?_, fun hport hup hauth hfails hother hfew => ⟨_, congrArg Host.Outcome.next ((acceptFrame_of_tagFails hport hup hauth hfails).trans (tagFailure_of_few hother hfew)), updPort_effect ..⟩,
      fun hport hup hkeyed htag hold => congrArg Host.Outcome.next ?_⟩
    · obtain hport | hdown | ⟨hplain, hbare⟩ := hdropped
      · exact acceptFrame_of_dropped (.inl hport)
      · exact acceptFrame_of_dropped (.inr (.inl hdown))
      · refine acceptFrame_of_dropped (.inr (.inr ⟨?_, hbare⟩))
        cases hs' with
        | false => rfl
        | true => exact absurd (hshake rfl) (by rw [hplain]; decide)
    · cases hauth : (spanPort s h.port).auth with
      | true => exact acceptFrame_of_old hport hup (.inl hauth) htag hold
      | false =>
        cases hs' with
        | false => exact acceptFrame_of_dropped (.inr (.inr ⟨rfl, hauth⟩))
        | true => exact acceptFrame_of_old hport hup (.inr rfl) htag hold
  · obtain ⟨act, hexec⟩ := exec_of_relayed s hi hr
    have hrelay : exec i s = .next (relayFrame h cls body (received h s)) := hexec.trans (congrArg Host.Outcome.next (receiveFrame_of_other ha hall hme))
    refine ⟨hrelay, fun hfar => hrelay.trans (congrArg Host.Outcome.next (relayFrame_of_far hfar)), fun p n hroute hnear hsends => ?_⟩
    have hroute' : routeTo (received h s) h.dst = some (p, n) := (routeTo_received ..).trans hroute
    have hframe : Frame [.pair] s (sendFrame p cls h.dst (some (h.src, h.hops + 1)) (carriesState body) body (received h s)) := (frame_received h s).trans (frame_sendFrame ..)
    have hsent := sendFrame_sentOne (cls := cls) (dst := h.dst) (relayed := some (h.src, h.hops + 1)) (e := carriesState body) (body := body) (sends_of_frame (frame_received h s) hsends)
    have hcounter : (spanPort (received h s) p).txCounter = (spanPort s p).txCounter := by
      by_cases hp : p = h.port
      · subst hp
        rw [spanPort_received]
      · rw [spanPort_received_ne hp]
    rw [hcounter] at hsent
    exact ⟨_, hrelay.trans (congrArg Host.Outcome.next (relayFrame_of_route hroute' hnear)), by simpa using hframe.record, hsent⟩
  · obtain ⟨act, hexec⟩ := exec_of_pair s hi hp
    exact hexec.trans (congrArg Host.Outcome.next (pairFrame_of_stranger ha hstranger))
  · obtain ⟨n, hspan, hn⟩ := spanPort_sendFrame s.pair.port 0 s.pair.partner s.pair.port none false .idle s
    refine ⟨_, congrArg Host.Outcome.next (sendPartner_of_up hup), by simpa using (frame_sendOn s.pair.port 0 s.pair.partner .idle s).record, sendFrame_sentOne (s := s) hsends, ?_⟩
    exact (congrArg SpanPort.txCounter hspan).trans (hn hsends rfl)

end Sys2Proof.Machine

/-!
PROOFS, part 41: the links of the span ports, and their handshakes.
-/

namespace Sys2Proof.Machine

set_option Elab.async false

open Sys2Proof.Safety

theorem frame_updFar (m : Nat) (f : FarKey → FarKey) (s : State) : Frame [.pair] s (updFar m f s) := frame_of_pair rfl

theorem farKey_updFar (m : Nat) (f : FarKey → FarKey) (s : State) : farKey (updFar m f s) m = f (farKey s m) := mgetD_mset_same ..

/-! What leaves on a port changes no port but in the counter, and no key. -/

/-- The ports stand as before but for what they have sent, and the pair's place among them. -/
structure PortsKept (s t : State) : Prop where
  ports : ∀ k, ∃ n, spanPort t k = { spanPort s k with txCounter := n }
  member : t.pair.member = s.pair.member
  port : t.pair.port = s.pair.port

theorem PortsKept.trans {s t u : State} (h : PortsKept s t) (g : PortsKept t u) : PortsKept s u := by
  refine ⟨fun k => ?_, g.member.trans h.member, g.port.trans h.port⟩
  obtain ⟨n, hn⟩ := h.ports k
  obtain ⟨m, hm⟩ := g.ports k
  exact ⟨m, by rw [hm, hn]⟩

theorem portsKept_of_ports {s t : State} (h : t.pair.ports = s.pair.ports) (hm : t.pair.member = s.pair.member) (hp : t.pair.port = s.pair.port) : PortsKept s t :=
  ⟨fun k => ⟨(spanPort s k).txCounter, by unfold spanPort; rw [h]⟩, hm, hp⟩

/-- What only sends leaves the keys of modules beyond a relay besides. -/
structure SendsOnly (s t : State) : Prop where
  frame : Frame [.pair] s t
  kept : PortsKept s t
  far : t.pair.farKeys = s.pair.farKeys

theorem SendsOnly.trans {s t u : State} (h : SendsOnly s t) (g : SendsOnly t u) : SendsOnly s u := ⟨h.frame.trans g.frame, h.kept.trans g.kept, g.far.trans h.far⟩

theorem sendsOnly_refl (s : State) : SendsOnly s s := ⟨.refl .., portsKept_of_ports rfl rfl rfl, rfl⟩

theorem sendsOnly_sendFrame (port cls dst : Nat) (relayed : Option (Nat × Nat)) (e : Bool) (body : FrameBody) (s : State) : SendsOnly s (sendFrame port cls dst relayed e body s) := by
  have hports : ∀ k, ∃ n, spanPort (sendFrame port cls dst relayed e body s) k = { spanPort s k with txCounter := n } := fun k =>
    let ⟨n, hn, _⟩ := spanPort_sendFrame port cls dst k relayed e body s
    ⟨n, hn⟩
  have hrest : (sendFrame port cls dst relayed e body s).pair.member = s.pair.member ∧ (sendFrame port cls dst relayed e body s).pair.port = s.pair.port ∧
      (sendFrame port cls dst relayed e body s).pair.farKeys = s.pair.farKeys := by
    unfold sendFrame
    split <;> exact ⟨rfl, rfl, rfl⟩
  exact ⟨frame_sendFrame .., ⟨hports, hrest.1, hrest.2.1⟩, hrest.2.2⟩

theorem sendsOnly_sendTo (cls dst : Nat) (body : FrameBody) (s : State) : SendsOnly s (sendTo cls dst body s) := by
  unfold sendTo
  split
  · split
    · exact sendsOnly_sendFrame ..
    · split
      · exact ⟨frame_of_pair rfl, portsKept_of_ports rfl rfl rfl, rfl⟩
      · exact sendsOnly_sendFrame ..
  · exact sendsOnly_refl s

theorem spanPort_sendFrame_ne {port k : Nat} (hk : k ≠ port) (cls dst : Nat) (relayed : Option (Nat × Nat)) (e : Bool) (body : FrameBody) (s : State) :
    spanPort (sendFrame port cls dst relayed e body s) k = spanPort s k := by
  unfold sendFrame
  split
  · rfl
  · exact (spanPort_updPort s port k (fun p => { p with txCounter := (spanPort s port).txCounter + 1 })).trans (if_neg hk)

theorem SendsOnly.farKey {s t : State} (h : SendsOnly s t) (m : Nat) : Machine.farKey t m = Machine.farKey s m := by
  unfold Machine.farKey
  rw [h.far]

theorem Frame.spanPort {ps : List Part} {s t : State} (f : Frame ps s t) (k : Nat) (hp : .pair ∉ ps := by simp) : Machine.spanPort t k = Machine.spanPort s k := by
  unfold Machine.spanPort
  rw [f.pair hp]

theorem Frame.farKey {ps : List Part} {s t : State} (f : Frame ps s t) (m : Nat) (hp : .pair ∉ ps := by simp) : Machine.farKey t m = Machine.farKey s m := by
  unfold Machine.farKey
  rw [f.pair hp]

/-! A handshake's start. -/

/-- The port with a handshake begun: a new HELLO is out, and nothing of the peer's has come. -/
def helloed (d : Bytes) (h : Hello) (n : Nat) (p : SpanPort) : SpanPort :=
  { p with ephemeral := d, helloSent := some h, helloGot := none, confirmSent := false, confirmGot := false, txCounter := n }

theorem startHandshake_effect (port : Nat) (s : State) : Frame [.pair, .rng, .freeCount] s (startHandshake port s) ∧
    (∃ d h n, spanPort (startHandshake port s) port = helloed d h n (spanPort s port)) ∧ (∀ k, k ≠ port → spanPort (startHandshake port s) k = spanPort s k) ∧
    (startHandshake port s).pair.routeChangedAt = s.pair.routeChangedAt := by
  have hnew := frame_newHello s
  unfold startHandshake
  dsimp only
  generalize (newHello s).2.1 = h
  generalize (newHello s).1 = d
  generalize (newHello s).2.2 = u at hnew ⊢
  generalize hv : updPort port (fun p => { p with ephemeral := d, helloSent := some h, helloGot := none, confirmSent := false, confirmGot := false }) u = v
  have hport : ∀ k, spanPort v k = if k = port then { spanPort u port with ephemeral := d, helloSent := some h, helloGot := none, confirmSent := false, confirmGot := false } else spanPort u k :=
    fun k => hv ▸ spanPort_updPort u port k _
  have hframe : Frame [.pair] u v := hv ▸ frame_updPort ..
  have hsent := frame_sendOn port 0 0xFFFF (.hello h) v
  refine ⟨(hnew.mono.trans hframe.mono).trans hsent.mono, ?_, fun k hk => ?_, ?_⟩
  · obtain ⟨n, hn, -⟩ := spanPort_sendFrame port 0 0xFFFF port none false (.hello h) v
    refine ⟨d, h, n, hn.trans ?_⟩
    rw [hport port, if_pos rfl, hnew.spanPort port]
    rfl
  · exact (spanPort_sendFrame_ne hk ..).trans ((hport k).trans ((if_neg hk).trans (hnew.spanPort k)))
  · have hroute : v.pair.routeChangedAt = u.pair.routeChangedAt := by rw [← hv]; rfl
    refine Eq.trans ?_ (hroute.trans (congrArg Pair.routeChangedAt hnew.pair))
    unfold sendOn sendFrame
    split <;> rfl

/-- The handshake with a module beyond a relay. -/
def farHelloed (d : Bytes) (h : Hello) (k : FarKey) : FarKey := { k with ephemeral := d, helloSent := some h, helloGot := none, confirmSent := false, confirmGot := false }

theorem startFar_effect (m : Nat) (s : State) : Frame [.pair, .rng, .freeCount] s (startFar m s) ∧ (∃ d h, farKey (startFar m s) m = farHelloed d h (farKey s m)) ∧ PortsKept s (startFar m s) := by
  have hnew := frame_newHello s
  unfold startFar
  dsimp only
  generalize (newHello s).2.1 = h
  generalize (newHello s).1 = d
  generalize (newHello s).2.2 = u at hnew ⊢
  have hsent := sendsOnly_sendTo 0 m (.hello h) (updFar m (farHelloed d h) u)
  refine ⟨(hnew.mono.trans (frame_updFar m (farHelloed d h) u).mono).trans hsent.frame.mono, ⟨d, h, ?_⟩, ?_⟩
  · exact (hsent.farKey m).trans ((farKey_updFar ..).trans (congrArg (farHelloed d h) (hnew.farKey m)))
  · refine (portsKept_of_ports ?_ ?_ ?_).trans hsent.kept <;> rw [← hnew.pair] <;> rfl

/-- The handshakes that are opened leave every port as it was but for what it has sent. -/
theorem portsKept_openFars (s : State) : PortsKept s (openFars s) := by
  unfold openFars
  generalize (s.pair.farWaiting.map (·.2.1)).eraseDups = l
  induction l generalizing s with
  | nil => exact portsKept_of_ports rfl rfl rfl
  | cons m rest ih =>
    rw [List.foldl_cons]
    split
    · exact ih s
    · exact (startFar_effect m s).2.2.trans (ih _)

/-! A link comes up and goes down. -/

section
variable {port : Fin 4} {s : State}

theorem linkUp_of_barred {lanes : Nat} (hbarred : (spanPort s port).up = true ∨ mapPeer s port = none ∨ (lanes ≠ 1 ∧ lanes ≠ 2 ∧ lanes ≠ 4) ∨ widestLink s port < lanes ∨ s.pow.main = false) :
    exec (.spanLinkUp port lanes) s = .next s := by
  show execSpanLinkUp port lanes s = _
  rw [execSpanLinkUp]
  refine if_pos ?_
  obtain hup | hpeer | ⟨h1, h2, h4⟩ | hwide | hmain := hbarred
  · simp [hup]
  · simp [hpeer]
  · simp [h1, h2, h4]
  · simp [hwide]
  · simp [hmain]

/-- The state in which a link that has come up begins its handshake. -/
def linkedUp (port : Fin 4) (lanes : Nat) (s : State) : State :=
  let u := updPort port (fun p => { p with up := true, lanes := lanes }) s
  latchEvent (28 + port) { u with pair := { u.pair with deadLinks := u.pair.deadLinks.filter (· != (u.img.set.moduleId, port.val)), routeChangedAt := u.now } }

theorem linkUp_of_allowed {lanes : Nat} (hdown : (spanPort s port).up = false) (hpeer : (mapPeer s port).isSome = true) (hlanes : lanes = 1 ∨ lanes = 2 ∨ lanes = 4) (hwide : lanes ≤ widestLink s port)
    (hmain : s.pow.main = true) : exec (.spanLinkUp port lanes) s = .next (startHandshake port (linkedUp port lanes s)) := by
  show execSpanLinkUp port lanes s = _
  rw [execSpanLinkUp]
  refine if_neg ?_
  have hpeer' : (mapPeer s port).isNone = false := Option.isNone_eq_false_iff.mpr hpeer
  have hwide' : decide (widestLink s port < lanes) = false := decide_eq_false (by omega)
  have hwidth : (lanes == 1 || lanes == 2 || lanes == 4) = true := by obtain rfl | rfl | rfl := hlanes <;> rfl
  rw [hdown, hpeer', hwidth, hwide', hmain]
  decide

theorem linkedUp_effect (lanes : Nat) : (linkedUp port lanes s).pair.routeChangedAt = s.now ∧ bit (linkedUp port lanes s).fab.mevCause (28 + port.val) = true ∧
    ∀ k, spanPort (linkedUp port lanes s) k = if k = port.val then { spanPort s port with up := true, lanes := lanes } else spanPort s k := by
  refine ⟨congrArg Pair.routeChangedAt (frame_latchEvent ..).pair, latchEvent_cause .., fun k => ((frame_latchEvent ..).spanPort k).trans ?_⟩
  exact spanPort_updPort s port k (fun p => { p with up := true, lanes := lanes })

/-- The port with its link down. -/
def portDowned (phys : Bool) (p : SpanPort) : SpanPort :=
  { p with
    up := p.up && !phys, auth := false, lanes := if phys then 0 else p.lanes, peer := 0, downs := sat 0xFFFF (p.downs + 1), hopKeys := [], ephemeral := []
    helloSent := none, helloGot := none, confirmSent := false, confirmGot := false, tagFails := [], probeAt := none }

/-- The link is down: its keys are dropped and routes change. -/
def linkDropped (port : Nat) (s : State) : State :=
  let u := updPort port (portDowned true) s
  { u with pair := { u.pair with
    routeChangedAt := u.now, farKeys := mmap (fun k => { keys := k.keys, lower := k.lower }) u.pair.farKeys
    deadLinks := if u.pair.deadLinks.contains (u.img.set.moduleId, port) then u.pair.deadLinks else (u.img.set.moduleId, port) :: u.pair.deadLinks } }

/-- The state in which a lost pair link is declared. -/
def linkDowned (port : Nat) (s : State) : State := latchEvent (28 + port) (linkDropped port s)

theorem linkDown_of_up (hup : (spanPort s port).up = true) :
    exec (.spanLinkDown port) s = .next (if paired (linkDowned port s) && port.val == (linkDowned port s).pair.port then linkLost (linkDowned port s) else linkDowned port s) :=
  congrArg Host.Outcome.next (if_pos hup)

theorem frame_linkDowned (port : Nat) (s : State) : Frame [.pair, .fab] s (linkDowned port s) :=
  (frame_of_pair (s := s) (t := linkDropped port s) rfl).mono.trans (frame_latchEvent ..).mono

theorem linkDowned_effect (port : Nat) (s : State) : (s.img.set.moduleId, port) ∈ (linkDowned port s).pair.deadLinks ∧ bit (linkDowned port s).fab.mevCause (28 + port) = true ∧
    (∀ k, spanPort (linkDowned port s) k = if k = port then portDowned true (spanPort s port) else spanPort s k) ∧
    (paired (linkDowned port s) && port == (linkDowned port s).pair.port) = (paired s && port == s.pair.port) := by
  have hevent := frame_latchEvent (28 + port) (linkDropped port s)
  have hpair : (linkDowned port s).pair = (linkDropped port s).pair := hevent.pair
  refine ⟨?_, latchEvent_cause .., fun k => (hevent.spanPort k).trans (spanPort_updPort s port k (portDowned true)), ?_⟩
  · rw [hpair]
    show _ ∈ (if s.pair.deadLinks.contains (s.img.set.moduleId, port) then s.pair.deadLinks else (s.img.set.moduleId, port) :: s.pair.deadLinks)
    split
    next hin => exact List.contains_iff_mem.mp hin
    next => exact List.mem_cons_self
  · unfold paired
    rw [hpair]
    rfl

end

end Sys2Proof.Machine

/-!
PROOFS, part 42: HELLO and KEYCONFIRM, from a neighbour and from beyond a relay.
-/

namespace Sys2Proof.Machine

set_option Elab.async false

open Sys2Proof.Safety

/-! From the neighbour. -/

/-- Routes have changed. -/
def routesChanged (s : State) : State := { s with pair := { s.pair with routeChangedAt := s.now } }

/-- The new keys are in force on a port that had none: its routes change, what waited for keys goes out, and its hop is measured. -/
def keyedFirst (port : Nat) (s : State) : State :=
  let u := openFars (routesChanged s)
  updPort port (fun p => { p with probeAt := some u.now }) (sendOn port 0 0xFFFF .probe u)

theorem keyedFirst_effect (port : Nat) (s : State) : Frame [.pair, .rng, .freeCount] s (keyedFirst port s) ∧
    (∃ n probe, spanPort (keyedFirst port s) port = { spanPort s port with txCounter := n, probeAt := probe }) ∧
    (keyedFirst port s).pair.member = s.pair.member ∧ (keyedFirst port s).pair.port = s.pair.port := by
  have hroute : Frame [.pair] s (routesChanged s) := frame_of_pair rfl
  have hopened := frame_openFars (routesChanged s)
  have hkept : PortsKept s (openFars (routesChanged s)) := (portsKept_of_ports (s := s) (t := routesChanged s) rfl rfl rfl).trans (portsKept_openFars (routesChanged s))
  unfold keyedFirst
  generalize openFars (routesChanged s) = u at hopened hkept ⊢
  have hsent := hkept.trans (sendsOnly_sendFrame port 0 0xFFFF none false .probe u).kept
  obtain ⟨m, hm⟩ := hsent.ports port
  refine ⟨((hroute.mono.trans hopened).trans (frame_sendOn port 0 0xFFFF .probe u).mono).trans (frame_updPort ..).mono, ⟨m, some u.now, ?_⟩, hsent.member, hsent.port⟩
  refine (updPort_effect port (fun p => { p with probeAt := some u.now }) (sendOn port 0 0xFFFF .probe u)).2.trans ?_
  exact congrArg (fun p : SpanPort => { p with probeAt := some u.now }) hm

section
variable {port : Nat} {s : State}

/-- The port with a failed handshake counted. -/
def authFailed (p : SpanPort) : SpanPort := { p with authFail := sat 0xFFFF (p.authFail + 1), helloGot := none }

theorem finishHandshake_of_open {a b : Hello} (hsent : (spanPort s port).helloSent = some a) (hgot : (spanPort s port).helloGot = some b)
    (hopen : ((spanPort s port).confirmSent && (spanPort s port).confirmGot) = false) : finishHandshake port s = s := by
  unfold finishHandshake
  simp only [hsent, hgot, hopen, Bool.not_false, if_true]

/-- The port with the keys of a finished handshake in force. -/
def rekeyed (keys : Bytes) (a b : Hello) (now : Nat) (p : SpanPort) : SpanPort :=
  { p with
    hopKeys := keys, lower := lowerFirst a b, auth := true, peer := b.moduleId, handshakes := (p.handshakes + 1) % 65536
    keyedAt := now, keyedRx := p.rxCounter, keyedTx := p.txCounter, lastFrame := now, ephemeral := [], helloSent := none, helloGot := none
    confirmSent := false, confirmGot := false, tagFails := [] }

section
variable {a b : Hello} (hsent : (spanPort s port).helloSent = some a) (hgot : (spanPort s port).helloGot = some b) (hdone : ((spanPort s port).confirmSent && (spanPort s port).confirmGot) = true)
include hsent hgot hdone

theorem finishHandshake_of_none (hnone : hopKeysOf "LX96-SPAN" (spanPort s port).ephemeral a b = none) : finishHandshake port s = updPort port authFailed s := by
  unfold finishHandshake
  simp only [hsent, hgot, hdone, hnone, Bool.not_true, Bool.false_eq_true, if_false]
  rfl

/-- A handshake that ends on a port of no pair leaves the port under its new keys. -/
theorem finishHandshake_of_keys {keys : Bytes} (hkeys : hopKeysOf "LX96-SPAN" (spanPort s port).ephemeral a b = some keys) (hother : (paired s && port == s.pair.port) = false) :
    Frame [.pair, .rng, .freeCount] s (finishHandshake port s) ∧ ∃ n probe, spanPort (finishHandshake port s) port = { rekeyed keys a b s.now (spanPort s port) with txCounter := n, probeAt := probe } := by
  have hupd : Frame [.pair] s (updPort port (rekeyed keys a b s.now) s) := frame_updPort ..
  have hport := (updPort_effect port (rekeyed keys a b s.now) s).2
  have hfinish : finishHandshake port s =
      if (spanPort s port).auth then updPort port (rekeyed keys a b s.now) s
      else if paired (keyedFirst port (updPort port (rekeyed keys a b s.now) s)) && port == (keyedFirst port (updPort port (rekeyed keys a b s.now) s)).pair.port &&
          b.moduleId == (keyedFirst port (updPort port (rekeyed keys a b s.now) s)).pair.partner then pairLinkUp b (keyedFirst port (updPort port (rekeyed keys a b s.now) s))
        else keyedFirst port (updPort port (rekeyed keys a b s.now) s) := by
    unfold finishHandshake
    simp only [hsent, hgot, hdone, hkeys, Bool.not_true, Bool.false_eq_true, if_false]
    rfl
  rw [hfinish]
  split
  · exact ⟨hupd.mono, (spanPort s port).txCounter, (spanPort s port).probeAt, hport⟩
  · obtain ⟨hframe, ⟨n, probe, hspan⟩, hmember, hpairPort⟩ := keyedFirst_effect port (updPort port (rekeyed keys a b s.now) s)
    have hnot : (paired (keyedFirst port (updPort port (rekeyed keys a b s.now) s)) && port == (keyedFirst port (updPort port (rekeyed keys a b s.now) s)).pair.port) = false := by
      unfold paired at hother ⊢
      rw [hmember, hpairPort]
      exact hother
    rw [hnot, Bool.false_and, if_neg Bool.false_ne_true]
    exact ⟨hupd.mono.trans hframe, n, probe, by rw [hspan, hport]⟩

end

theorem helloArrives_of_bad {h : Hello} (hbad : helloOk s port h = false) : helloArrives port h s = updPort port authFailed s := if_pos (by rw [hbad]; rfl)

/-- The state in which a HELLO that verifies is answered. -/
def answered (port : Nat) (a h : Hello) (s : State) : State :=
  sendOn port 0 0xFFFF (.keyConfirm (identitySign (updPort port (fun p => { p with helloGot := some h, confirmSent := true }) s) (hellosDigest a h)))
    (updPort port (fun p => { p with helloGot := some h, confirmSent := true }) s)

theorem answered_effect (port : Nat) (a h : Hello) (s : State) : Frame [.pair] s (answered port a h s) ∧
    ∃ n, spanPort (answered port a h s) port = { spanPort s port with helloGot := some h, confirmSent := true, txCounter := n } := by
  have hupd := updPort_effect port (fun p => { p with helloGot := some h, confirmSent := true }) s
  unfold answered
  obtain ⟨n, hn⟩ := (sendsOnly_sendFrame port 0 0xFFFF none false
    (.keyConfirm (identitySign (updPort port (fun p => { p with helloGot := some h, confirmSent := true }) s) (hellosDigest a h))) (updPort port (fun p => { p with helloGot := some h, confirmSent := true }) s)).kept.ports port
  exact ⟨(frame_updPort ..).trans (frame_sendOn ..), n, hn.trans (by rw [hupd.2])⟩

/-- A HELLO that verifies, while the peer's confirmation is still to come, is answered and the handshake stays open. -/
theorem helloArrives_of_good {h : Hello} (hgood : helloOk s port h = true) (hopen : (spanPort s port).helloSent = none ∨ (spanPort s port).confirmGot = false) :
    Frame [.pair, .rng, .freeCount] s (helloArrives port h s) ∧ ∃ d a n, spanPort (helloArrives port h s) port =
      { spanPort s port with ephemeral := d, helloSent := some a, helloGot := some h, confirmSent := true, confirmGot := false, txCounter := n } := by
  have hbegun : ∃ u a, (if (spanPort s port).helloSent.isNone then startHandshake port s else s) = u ∧ Frame [.pair, .rng, .freeCount] s u ∧ (spanPort u port).helloSent = some a ∧
      (spanPort u port).confirmGot = false ∧ ∃ d n x y, spanPort u port = { spanPort s port with ephemeral := d, helloSent := some a, helloGot := x, confirmSent := y, confirmGot := false, txCounter := n } := by
    cases hsent : (spanPort s port).helloSent with
    | none =>
      obtain ⟨hframe, ⟨d, a, n, hspan⟩, -, -⟩ := startHandshake_effect port s
      exact ⟨startHandshake port s, a, rfl, hframe, by rw [hspan]; rfl, by rw [hspan]; rfl, d, n, none, false, hspan⟩
    | some a =>
      have hconfirm : (spanPort s port).confirmGot = false := hopen.resolve_left (by rw [hsent]; exact Option.some_ne_none a)
      exact ⟨s, a, rfl, .refl .., hsent, hconfirm, (spanPort s port).ephemeral, (spanPort s port).txCounter, (spanPort s port).helloGot, (spanPort s port).confirmSent, by rw [← hsent, ← hconfirm]⟩
  obtain ⟨u, a, hu, hframe, hsent, hconfirm, d, n, x, y, hspan⟩ := hbegun
  obtain ⟨hanswer, m, hm⟩ := answered_effect port a h u
  have hstays : finishHandshake port (answered port a h u) = answered port a h u :=
    finishHandshake_of_open (a := a) (b := h) (by rw [hm]; exact hsent) (by rw [hm]) (by rw [hm]; exact (congrArg (true && ·) hconfirm))
  have harrives : helloArrives port h s = answered port a h u := by
    unfold helloArrives
    rw [hgood, if_neg (by decide)]
    simp only [hu, hsent]
    exact hstays
  rw [harrives]
  refine ⟨hframe.trans hanswer.mono, d, a, m, ?_⟩
  rw [hm, hspan]

theorem confirmArrives_of_bad {sig : Bytes} (hbad : ∀ a b, (spanPort s port).helloSent = some a → (spanPort s port).helloGot = some b → p384Verify b.identity (hellosDigest a b) sig = false) :
    confirmArrives port sig s = updPort port authFailed s := by
  unfold confirmArrives
  split
  next a b hsent hgot => exact if_neg (by rw [hbad a b hsent hgot]; decide)
  next => rfl

theorem confirmArrives_of_good {sig : Bytes} {a b : Hello} (hsent : (spanPort s port).helloSent = some a) (hgot : (spanPort s port).helloGot = some b)
    (hgood : p384Verify b.identity (hellosDigest a b) sig = true) : confirmArrives port sig s = finishHandshake port (updPort port (fun p => { p with confirmGot := true }) s) := by
  unfold confirmArrives
  simp only [hsent, hgot]
  exact if_pos hgood

end

end Sys2Proof.Machine

/-!
PROOFS, part 43: handshakes from beyond a relay, and O44.
-/

namespace Sys2Proof.Machine

set_option Elab.async false

open Sys2Proof.Safety

theorem farKey_received (h : LinkHdr) (m : Nat) (s : State) : farKey (received h s) m = farKey s m := rfl

section
variable {m : Nat} {s : State}

theorem finishFar_of_open (hopen : ((farKey s m).confirmSent && (farKey s m).confirmGot) = false) : finishFar m s = s := by
  unfold finishFar
  simp only [hopen, Bool.not_false, if_true]
  split <;> rfl

/-- What goes to a module whose key is agreed, and for which nothing waits, is sent at once. -/
theorem farWaiting_sendTo_keyed {cls : Nat} {body : FrameBody} (hkeyed : farKeyed s m = true) (hnone : s.pair.farWaiting.any (fun w => w.2.1 == m) = false) :
    (sendTo cls m body s).pair.farWaiting = s.pair.farWaiting := by
  have hkept : ∀ p relayed e, (sendFrame p cls m relayed e body s).pair.farWaiting = s.pair.farWaiting := by
    intro p relayed e
    unfold sendFrame
    split <;> rfl
  have hwaits : waitsForKey s m body = false := by
    unfold waitsForKey
    rw [hkeyed, hnone, Bool.not_true, Bool.and_false, Bool.and_false]
    rfl
  unfold sendTo
  split
  · split
    · exact hkept ..
    · rw [hwaits, if_neg Bool.false_ne_true]
      exact hkept ..
  · rfl

theorem SendsOnly.farKeyed {t : State} (h : SendsOnly s t) (k : Nat) : Machine.farKeyed t k = Machine.farKeyed s k := by
  unfold Machine.farKeyed
  rw [h.far]

theorem sendsOnly_due {due : List (Nat × Nat × FrameBody)} (hkeyed : farKeyed s m = true) (hnone : s.pair.farWaiting.any (fun w => w.2.1 == m) = false) :
    SendsOnly s (due.foldl (fun s w => sendTo w.1 m w.2.2 s) s) ∧ (due.foldl (fun s w => sendTo w.1 m w.2.2 s) s).pair.farWaiting = s.pair.farWaiting := by
  induction due generalizing s with
  | nil => exact ⟨sendsOnly_refl s, rfl⟩
  | cons w rest ih =>
    have hsent := sendsOnly_sendTo w.1 m w.2.2 s
    have hwaiting := farWaiting_sendTo_keyed (cls := w.1) (body := w.2.2) hkeyed hnone
    obtain ⟨hrest, hkept⟩ := ih (s := sendTo w.1 m w.2.2 s) (by rw [hsent.farKeyed, hkeyed]) (by rw [hwaiting, hnone])
    exact ⟨hsent.trans hrest, hkept.trans hwaiting⟩

/-- The key agreed with a module beyond a relay. -/
def farAgreed (keys : Bytes) (a b : Hello) : FarKey := { keys := keys, lower := lowerFirst a b }

/-- The state in which a new end-to-end key is in force, and nothing waits for it. -/
def farRekeyed (m : Nat) (keys : Bytes) (a b : Hello) (s : State) : State :=
  let u := updFar m (fun _ => farAgreed keys a b) s
  { u with pair := { u.pair with farWaiting := u.pair.farWaiting.filter (fun w => w.2.1 != m) } }

theorem finishFar_of_keys {a b : Hello} {keys : Bytes} (hsent : (farKey s m).helloSent = some a) (hgot : (farKey s m).helloGot = some b)
    (hdone : ((farKey s m).confirmSent && (farKey s m).confirmGot) = true) (hkeys : hopKeysOf "LX96-E2E" (farKey s m).ephemeral a b = some keys) (hne : keys ≠ []) :
    finishFar m s = (s.pair.farWaiting.filter (fun w => w.2.1 == m)).foldl (fun s w => sendTo w.1 m w.2.2 s) (farRekeyed m keys a b s) := by
  unfold finishFar
  simp only [hsent, hgot, hdone, hkeys, hne, Bool.not_true, Bool.false_eq_true, if_false, Option.getD_some]
  rfl

theorem finishFar_effect {a b : Hello} {keys : Bytes} (hsent : (farKey s m).helloSent = some a) (hgot : (farKey s m).helloGot = some b)
    (hdone : ((farKey s m).confirmSent && (farKey s m).confirmGot) = true) (hkeys : hopKeysOf "LX96-E2E" (farKey s m).ephemeral a b = some keys) (hne : keys ≠ []) :
    Frame [.pair] s (finishFar m s) ∧ farKey (finishFar m s) m = farAgreed keys a b ∧ (finishFar m s).pair.farWaiting = s.pair.farWaiting.filter (fun w => w.2.1 != m) := by
  have hfar : mget (farRekeyed m keys a b s).pair.farKeys m = some (farAgreed keys a b) := mget_mset_same ..
  have hkeyed : farKeyed (farRekeyed m keys a b s) m = true := by
    unfold farKeyed
    rw [hfar]
    simpa [farAgreed] using hne
  have hnone : (farRekeyed m keys a b s).pair.farWaiting.any (fun w => w.2.1 == m) = false := by
    show (s.pair.farWaiting.filter (fun w => w.2.1 != m)).any (fun w => w.2.1 == m) = false
    rw [List.any_filter, List.any_eq_false]
    simp
  obtain ⟨hdue, hwaiting⟩ := sendsOnly_due (due := s.pair.farWaiting.filter (fun w => w.2.1 == m)) hkeyed hnone
  rw [finishFar_of_keys hsent hgot hdone hkeys hne]
  refine ⟨(frame_of_pair (s := s) (t := farRekeyed m keys a b s) rfl).trans hdue.frame, (hdue.farKey m).trans ?_, hwaiting⟩
  unfold farKey mgetD
  rw [hfar]
  rfl

/-- The state in which a HELLO from beyond a relay is answered. -/
def farAnswered (m : Nat) (a h : Hello) (s : State) : State :=
  sendTo 0 m (.keyConfirm (identitySign (updFar m (fun k => { k with helloGot := some h, confirmSent := true }) s) (hellosDigest a h))) (updFar m (fun k => { k with helloGot := some h, confirmSent := true }) s)

theorem farAnswered_effect (m : Nat) (a h : Hello) (s : State) : Frame [.pair] s (farAnswered m a h s) ∧ farKey (farAnswered m a h s) m = { farKey s m with helloGot := some h, confirmSent := true } := by
  have hsent := sendsOnly_sendTo 0 m (.keyConfirm (identitySign (updFar m (fun k => { k with helloGot := some h, confirmSent := true }) s) (hellosDigest a h)))
    (updFar m (fun k => { k with helloGot := some h, confirmSent := true }) s)
  exact ⟨(frame_updFar ..).trans hsent.frame, (hsent.farKey m).trans (farKey_updFar ..)⟩

theorem farHelloArrives_of_bad {h : Hello} (hbad : farHelloOk s m h = false) : farHelloArrives m h s = s := if_pos (by rw [hbad]; rfl)

theorem farHelloArrives_of_sent {a h : Hello} (hgood : farHelloOk s m h = true) (hsent : (farKey s m).helloSent = some a) (hopen : (farKey s m).confirmGot = false) :
    farHelloArrives m h s = farAnswered m a h s := by
  have hstays : finishFar m (farAnswered m a h s) = farAnswered m a h s := finishFar_of_open (by rw [(farAnswered_effect ..).2]; exact (congrArg (true && ·) hopen))
  have hbegun : (if (farKey s m).helloSent.isNone then startFar m s else s) = s := if_neg (by rw [hsent]; exact Bool.false_ne_true)
  unfold farHelloArrives
  rw [hgood, if_neg (by decide)]
  simp only [hbegun]
  simp only [hsent]
  exact hstays

theorem farHelloArrives_of_new {h : Hello} (hgood : farHelloOk s m h = true) (hnone : (farKey s m).helloSent = none) :
    Frame [.pair, .rng, .freeCount] s (farHelloArrives m h s) ∧ (farKey (farHelloArrives m h s) m).helloSent.isSome = true ∧ (farKey (farHelloArrives m h s) m).helloGot = some h ∧
      (farKey (farHelloArrives m h s) m).confirmSent = true ∧ (farKey (farHelloArrives m h s) m).keys = (farKey s m).keys := by
  obtain ⟨hframe, ⟨d, a, hfar⟩, -⟩ := startFar_effect m s
  have hsent : (farKey (startFar m s) m).helloSent = some a := by rw [hfar]; rfl
  obtain ⟨hanswer, hkey⟩ := farAnswered_effect m a h (startFar m s)
  have hstays : finishFar m (farAnswered m a h (startFar m s)) = farAnswered m a h (startFar m s) := finishFar_of_open (by rw [hkey, hfar]; rfl)
  have harrives : farHelloArrives m h s = farAnswered m a h (startFar m s) := by
    unfold farHelloArrives
    rw [hgood, if_neg (by decide), hnone]
    simp only [Option.isNone_none, if_true, hsent]
    exact hstays
  rw [harrives, hkey, hfar]
  exact ⟨hframe.trans hanswer.mono, rfl, rfl, rfl, rfl⟩

theorem farConfirmArrives_of_bad {sig : Bytes} {a b : Hello} (hsent : (farKey s m).helloSent = some a) (hgot : (farKey s m).helloGot = some b) (hbad : p384Verify b.identity (hellosDigest a b) sig = false) :
    farConfirmArrives m sig s = s := by
  unfold farConfirmArrives
  simp only [hsent, hgot]
  exact if_neg (by rw [hbad]; decide)

theorem farConfirmArrives_of_good {sig : Bytes} {a b : Hello} (hsent : (farKey s m).helloSent = some a) (hgot : (farKey s m).helloGot = some b) (hgood : p384Verify b.identity (hellosDigest a b) sig = true) :
    farConfirmArrives m sig s = finishFar m (updFar m (fun k => { k with confirmGot := true }) s) := by
  unfold farConfirmArrives
  simp only [hsent, hgot]
  exact if_pos hgood

end

/-! The rows. -/

section
variable {h : LinkHdr} {body : Hello} {sig : Bytes} {s : State}

theorem hello_of_neighbour (ha : Accepts true h s) (hdst : h.dst = 0xFFFF) : exec (.hello h body) s = .next (helloArrives h.port body (received h s)) :=
  congrArg Host.Outcome.next ((if_pos hdst).trans (acceptFrame_of_accepts ha))

theorem hello_of_far (ha : Accepts false h s) (hdst : h.dst ≠ 0xFFFF) (hme : h.dst = s.img.set.moduleId) : exec (.hello h body) s = .next (farHelloArrives h.src body (received h s)) :=
  congrArg Host.Outcome.next ((if_neg hdst).trans (receiveFrame_of_here ⟨ha, .inr hme⟩))

theorem keyconfirm_of_neighbour (ha : Accepts true h s) (hdst : h.dst = 0xFFFF) : exec (.keyconfirm h sig) s = .next (confirmArrives h.port sig (received h s)) :=
  congrArg Host.Outcome.next ((if_pos hdst).trans (acceptFrame_of_accepts ha))

theorem keyconfirm_of_far (ha : Accepts false h s) (hdst : h.dst ≠ 0xFFFF) (hme : h.dst = s.img.set.moduleId) : exec (.keyconfirm h sig) s = .next (farConfirmArrives h.src sig (received h s)) :=
  congrArg Host.Outcome.next ((if_neg hdst).trans (receiveFrame_of_here ⟨ha, .inr hme⟩))

end

section
variable {port : Fin 4} {s : State}

theorem rehandshake_of_other (hother : (spanPort s port).auth = false ∨ (spanPort s port).helloSent.isSome = true) : exec (.rehandshakeDue port) s = .next s := by
  show execRehandshakeDue port s = _
  rw [execRehandshakeDue]
  refine if_pos ?_
  cases hother with
  | inl hbare => simp [hbare]
  | inr hopen => simp [hopen]

/-- The time at which the handshake is due. -/
def rehandshakeAt (port : Nat) (s : State) : State :=
  if (spanPort s port).rxCounter - (spanPort s port).keyedRx ≥ 2 ^ 32 ∨ (spanPort s port).txCounter - (spanPort s port).keyedTx ≥ 2 ^ 32 then s else advanceTo ((spanPort s port).keyedAt + 3600000000000) s

theorem rehandshake_of_keyed (hauth : (spanPort s port).auth = true) (hidle : (spanPort s port).helloSent = none) : exec (.rehandshakeDue port) s = .next (startHandshake port (rehandshakeAt port s)) := by
  show execRehandshakeDue port s = _
  rw [execRehandshakeDue]
  refine (if_neg (by simp [hauth, hidle])).trans ?_
  unfold rehandshakeAt
  split <;> rfl

end

/-- Settles O44. -/
theorem portsAndHandshakes : Obligations.PortsAndHandshakes := by
  unfold Obligations.PortsAndHandshakes
  refine ⟨fun port lanes s hdown hpeer hlanes hwide hmain => ?_, fun port lanes s hbarred => linkUp_of_barred hbarred, fun port s hup hother => ?_, fun port s hup hpair => ?_, fun port s hdown => congrArg Host.Outcome.next (if_neg (by rw [hdown]; decide)),
    fun h body s ha hdst hbad => ?_, fun h body s ha hdst hgood hopen => ?_, fun h sig a b s ha hdst hsent hgot hgood hconfirm => ⟨fun keys hkeys hother => ?_, fun hnone => ?_⟩, fun h sig s ha hdst hbad => ?_,
    fun h body s ha hdst hme => ⟨fun hbad => ?_, fun a hgood hsent hopen => ?_, fun hgood hnone => ?_⟩, fun h sig a b s ha hdst hme hsent hgot => ⟨fun hbad => ?_, fun keys hgood hconfirm hkeys hne => ?_⟩, fun port s => ⟨fun hauth hidle => ?_, fun hother => rehandshake_of_other hother⟩⟩
  · obtain ⟨hroute, hevent, hports⟩ := linkedUp_effect (port := port) (s := s) lanes
    obtain ⟨hframe, ⟨d, hello, n, hspan⟩, hothers, hroutes⟩ := startHandshake_effect port (linkedUp port lanes s)
    refine ⟨_, linkUp_of_allowed hdown hpeer hlanes hwide hmain, ?_, ?_, ?_, ?_, hroutes.trans hroute, (congrArg (fun f : Fabric => bit f.mevCause (28 + port.val)) hframe.fab).trans hevent,
      fun k hk => (hothers k hk).trans ((hports k).trans (if_neg hk))⟩ <;> rw [hspan, hports port, if_pos rfl] <;> rfl
  · obtain ⟨hdead, hevent, hports, hpairPort⟩ := linkDowned_effect port s
    have hhere := (hports port).trans (if_pos rfl)
    refine ⟨_, (linkDown_of_up hup).trans (congrArg Host.Outcome.next (if_neg (by rw [hpairPort, hother]; decide))), by simpa using (frame_linkDowned port s).record, ?_, ?_, ?_, ?_, ?_, hdead, hevent,
      fun k hk => (hports k).trans (if_neg hk)⟩ <;> rw [hhere]
    · exact Bool.and_false _
    all_goals rfl
  · obtain ⟨-, -, hports, hpairPort⟩ := linkDowned_effect port s
    have hhere := (hports port).trans (if_pos rfl)
    refine ⟨_, (linkDown_of_up hup).trans (congrArg Host.Outcome.next (if_pos (by rw [hpairPort, hpair]))), by simpa using (frame_linkDowned port s).record, ?_, ?_⟩ <;> rw [hhere]
    · exact Bool.and_false _
    · rfl
  · have hframe : Frame [.pair] s (updPort h.port authFailed (received h s)) := (frame_received h s).trans (frame_updPort ..)
    refine ⟨_, (hello_of_neighbour ha hdst).trans (congrArg Host.Outcome.next (helloArrives_of_bad hbad)), by simpa using hframe.record, (updPort_effect ..).2.trans ?_⟩
    rw [spanPort_received]
    rfl
  · have hport := spanPort_received h s
    obtain ⟨hframe, d, a, n, hspan⟩ := helloArrives_of_good (s := received h s) (port := h.port) hgood (by rw [hport]; exact hopen)
    have hall : Frame [.pair, .rng, .freeCount] s (helloArrives h.port body (received h s)) := (frame_received h s).mono.trans hframe
    refine ⟨_, hello_of_neighbour ha hdst, by simpa using hall.record, ?_, ?_, ?_, ?_, ?_⟩ <;> rw [hspan]
    · rfl
    · rw [hport]
    · rw [hport]
  · have hport := spanPort_received h s
    have hupd := (updPort_effect h.port (fun p => { p with confirmGot := true }) (received h s)).2
    rw [hport] at hupd
    have hgood' : confirmArrives h.port sig (received h s) = _ := confirmArrives_of_good (a := a) (b := b) (by rw [hport]; exact hsent) (by rw [hport]; exact hgot) hgood
    obtain ⟨hframe, n, probe, hspan⟩ := finishHandshake_of_keys (s := updPort h.port (fun p => { p with confirmGot := true }) (received h s)) (port := h.port) (a := a) (b := b) (keys := keys)
      (by rw [hupd]; exact hsent) (by rw [hupd]; exact hgot) (by rw [hupd]; exact (congrArg (· && true) hconfirm)) (by rw [hupd]; exact hkeys) hother
    have hall : Frame [.pair, .rng, .freeCount] s (finishHandshake h.port (updPort h.port (fun p => { p with confirmGot := true }) (received h s))) := ((frame_received h s).mono.trans (frame_updPort ..).mono).trans hframe
    refine ⟨_, (keyconfirm_of_neighbour ha hdst).trans (congrArg Host.Outcome.next hgood'), by simpa using hall.record, ?_, ?_, ?_, ?_, ?_, ?_, ?_⟩ <;> rw [hspan, hupd] <;> rfl
  · have hport := spanPort_received h s
    have hupd := (updPort_effect h.port (fun p => { p with confirmGot := true }) (received h s)).2
    rw [hport] at hupd
    have hgood' : confirmArrives h.port sig (received h s) = _ := confirmArrives_of_good (a := a) (b := b) (by rw [hport]; exact hsent) (by rw [hport]; exact hgot) hgood
    have hfails := finishHandshake_of_none (s := updPort h.port (fun p => { p with confirmGot := true }) (received h s)) (port := h.port) (a := a) (b := b)
      (by rw [hupd]; exact hsent) (by rw [hupd]; exact hgot) (by rw [hupd]; exact (congrArg (· && true) hconfirm)) (by rw [hupd]; exact hnone)
    have hall : Frame [.pair] s (updPort h.port authFailed (updPort h.port (fun p => { p with confirmGot := true }) (received h s))) := ((frame_received h s).trans (frame_updPort ..)).trans (frame_updPort ..)
    refine ⟨_, (keyconfirm_of_neighbour ha hdst).trans (congrArg Host.Outcome.next (hgood'.trans hfails)), by simpa using hall.record, (updPort_effect ..).2.trans ?_⟩
    rw [hupd, hport]
    rfl
  · have hport := spanPort_received h s
    have hframe : Frame [.pair] s (updPort h.port authFailed (received h s)) := (frame_received h s).trans (frame_updPort ..)
    have hfails := confirmArrives_of_bad (s := received h s) (port := h.port) (sig := sig) (by rw [hport]; exact hbad)
    refine ⟨_, (keyconfirm_of_neighbour ha hdst).trans (congrArg Host.Outcome.next hfails), by simpa using hframe.record, (updPort_effect ..).2.trans ?_⟩
    rw [hport]
    rfl
  · exact (hello_of_far ha hdst hme).trans (congrArg Host.Outcome.next (farHelloArrives_of_bad hbad))
  · obtain ⟨hanswer, hkey⟩ := farAnswered_effect h.src a body (received h s)
    have hall : Frame [.pair] s (farAnswered h.src a body (received h s)) := (frame_received h s).trans hanswer
    exact ⟨_, (hello_of_far ha hdst hme).trans (congrArg Host.Outcome.next (farHelloArrives_of_sent hgood hsent hopen)), by simpa using hall.record, hkey⟩
  · obtain ⟨hframe, heffect⟩ := farHelloArrives_of_new (s := received h s) hgood hnone
    have hall : Frame [.pair, .rng, .freeCount] s (farHelloArrives h.src body (received h s)) := (frame_received h s).mono.trans hframe
    exact ⟨_, hello_of_far ha hdst hme, by simpa using hall.record, heffect⟩
  · exact (keyconfirm_of_far ha hdst hme).trans (congrArg Host.Outcome.next (farConfirmArrives_of_bad hsent hgot hbad))
  · have hkey := farKey_updFar h.src (fun k => { k with confirmGot := true }) (received h s)
    obtain ⟨hframe, hfar, hwaiting⟩ := finishFar_effect (s := updFar h.src (fun k => { k with confirmGot := true }) (received h s)) (m := h.src) (a := a) (b := b) (keys := keys)
      (by rw [hkey]; exact hsent) (by rw [hkey]; exact hgot) (by rw [hkey]; exact (congrArg (· && true) hconfirm)) (by rw [hkey]; exact hkeys) hne
    have hall : Frame [.pair] s (finishFar h.src (updFar h.src (fun k => { k with confirmGot := true }) (received h s))) := ((frame_received h s).trans (frame_updFar ..)).trans hframe
    exact ⟨_, (keyconfirm_of_far ha hdst hme).trans (congrArg Host.Outcome.next (farConfirmArrives_of_good hsent hgot hgood)), by simpa using hall.record, hfar, hwaiting⟩
  · obtain ⟨hframe, ⟨d, hello, n, hspan⟩, -, -⟩ := startHandshake_effect port (rehandshakeAt port s)
    have hport : spanPort (rehandshakeAt port s) port = spanPort s port := by unfold rehandshakeAt; split <;> rfl
    have hclock : rehandshakeAt port s = { s with now := (if (spanPort s port).rxCounter - (spanPort s port).keyedRx ≥ 2 ^ 32 ∨ (spanPort s port).txCounter - (spanPort s port).keyedTx ≥ 2 ^ 32 then s.now else max s.now ((spanPort s port).keyedAt + 3600000000000)) } := by
      unfold rehandshakeAt
      split <;> rfl
    refine ⟨_, rehandshake_of_keyed hauth hidle, ?_, ?_, ?_, ?_⟩
    · have hrecord := hframe.record
      generalize startHandshake port (rehandshakeAt port s) = t at hrecord ⊢
      rw [hclock] at hrecord
      simpa using hrecord
    all_goals rw [hspan, hport]
    · rfl
    · rfl
    · exact hauth

end Sys2Proof.Machine

/-!
PROOFS, part 44: loss of the pair link, the heartbeat, and the withdrawal.
-/

namespace Sys2Proof.Machine

set_option Elab.async false

open Sys2Proof.Safety

/-! The link is lost. -/

/-- The link is declared lost. -/
def linkDeclared (s : State) : State := { s with pair := { s.pair with linkUp := false, lostAt := s.now, declaredLost := true } }

/-- The state in which the loss has latched its event. -/
def lossLatched (s : State) : State := latchEvent 32 (linkDeclared s)

/-- What follows the event: an active member blocks originating commands and waits for the heartbeat. -/
def afterLoss (s : State) : State :=
  if s.pair.role == .originator || s.pair.role == .standby then
    let s := { s with pair := { s.pair with hbPending := true }, doc := { s.doc with blockOriginating := true } }
    offerWork (if s.pair.role == .standby then takeVerdicts s else s)
  else s

theorem afterLoss_of_sole {s : State} (hrole : s.pair.role = .sole) : afterLoss s = s := if_neg (by rw [hrole]; decide)

theorem afterLoss_of_originator {s : State} (hrole : s.pair.role = .originator) :
    afterLoss s = offerWork { s with pair := { s.pair with hbPending := true }, doc := { s.doc with blockOriginating := true } } :=
  (if_pos (by rw [hrole]; decide)).trans (congrArg offerWork (if_neg (by rw [hrole]; decide)))

theorem endSwap_of_none {s : State} (hnone : s.pair.swapping = none) : endSwap s = s := by
  unfold endSwap
  rw [hnone]

section
variable {s : State} (hup : s.pair.linkUp = true) (hresync : s.pair.resync = none) (hswap : s.pair.swapping = none)
include hup hresync hswap

theorem linkLost_of_up : linkLost s = afterLoss (lossLatched s) := by
  have hlost : linkLost s = afterLoss (latchEvent 32 (endSwap (if (linkDeclared s).pair.resync.isSome then endResync (linkDeclared s) else linkDeclared s))) := by
    rw [linkLost, hup]
    rfl
  rw [hlost, if_neg (by rw [show (linkDeclared s).pair.resync = none from hresync]; decide), endSwap_of_none (s := linkDeclared s) hswap]
  rfl

end

theorem lossLatched_pair (s : State) : (lossLatched s).pair = (linkDeclared s).pair := (frame_latchEvent ..).pair

theorem linkSilence_of_up {s : State} (hup : s.pair.linkUp = true) : exec .pairLinkSilence s = .next (linkLost (advanceTo ((spanPort s s.pair.port).lastFrame + 10000) s)) :=
  congrArg Host.Outcome.next (if_pos hup)

/-! The verdict. -/

/-- The role and term of a split (Table 12-2). -/
def splitPair (cause : Nat) (s : State) : State :=
  if s.pair.tieWinner then setRole .sole (s.pair.term + 2) cause s else setRole .refusing (s.pair.term + 1) cause s

theorem splitPair_pair (cause : Nat) (s : State) : (splitPair cause s).pair =
    (roleNoted (if s.pair.tieWinner then .sole else .refusing) (s.pair.term + (if s.pair.tieWinner then 2 else 1)) cause s).pair := by
  unfold splitPair
  cases s.pair.tieWinner
  · rw [if_neg Bool.false_ne_true, if_neg Bool.false_ne_true, if_neg Bool.false_ne_true, setRole_pair]
  · rw [if_pos rfl, if_pos rfl, if_pos rfl, setRole_pair]

theorem frame_setRole (role : Role) (term cause : Nat) (s : State) : Frame [.fab, .vit, .pair, .pow, .cur] s (setRole role term cause s) :=
  ((frame_of_pair (s := s) (t := roleNoted role term cause s) rfl).mono.trans (frame_writeAnchor ..).mono).trans (setRole_after role term cause s).mono

theorem frame_splitPair (cause : Nat) (s : State) : Frame [.fab, .vit, .pair, .pow, .cur] s (splitPair cause s) := .ite (fun _ => frame_setRole ..) (fun _ => frame_setRole ..)

theorem splitRoles_pair (cause : Nat) (s : State) : (splitRoles cause s).pair = { (splitPair cause s).pair with startTimeout := 0, waitingDeltas := [] } := rfl

theorem splitRoles_now (cause : Nat) (s : State) : (splitRoles cause s).now = s.now := (frame_splitPair cause s).now

/-- What a split sets. -/
theorem splitRoles_effect (cause : Nat) (s : State) : (splitRoles cause s).pair.role = (if s.pair.tieWinner then .sole else .refusing) ∧
    (splitRoles cause s).pair.term = s.pair.term + (if s.pair.tieWinner then 2 else 1) ∧ (splitRoles cause s).pair.cause = cause ∧ (splitRoles cause s).pair.hbPending = false ∧
    (splitRoles cause s).pair.startTimeout = 0 ∧ (splitRoles cause s).pair.hbEdge = s.pair.hbEdge ∧ (splitRoles cause s).pair.dualAct = s.pair.dualAct ∧
    (splitRoles cause s).pair.declaredLost = s.pair.declaredLost := by
  rw [splitRoles_pair, splitPair_pair]
  exact ⟨rfl, rfl, rfl, rfl, rfl, rfl, rfl, rfl⟩

theorem heartbeatVerdict_of_none {live : Bool} {s : State} (hnone : s.pair.hbPending = false) : heartbeatVerdict live s = s := if_pos (by rw [hnone]; rfl)

theorem heartbeatVerdict_of_live {s : State} (hpending : s.pair.hbPending = true) : heartbeatVerdict true s = offerWork (splitRoles causeLive s) :=
  (if_neg (by rw [hpending]; decide)).trans (if_pos rfl)

/-- The state in which the dual-act window is open. -/
def dualActOpened (s : State) : State :=
  latchEvent 32 { splitRoles causeSilent s with pair := { (splitRoles causeSilent s).pair with dualAct := true, dualActEnd := (splitRoles causeSilent s).now + 2500000 } }

theorem heartbeatVerdict_of_silent {s : State} (hpending : s.pair.hbPending = true) : heartbeatVerdict false s = offerWork (dualActOpened s) :=
  (if_neg (by rw [hpending]; decide)).trans (if_neg (by decide))

theorem dualActOpened_pair (s : State) : (dualActOpened s).pair = { (splitRoles causeSilent s).pair with dualAct := true, dualActEnd := (splitRoles causeSilent s).now + 2500000 } := (frame_latchEvent ..).pair

/-- The time at which the heartbeat's silence is known. -/
def silenceKnown (s : State) : State := { s with now := max s.now ((s.pair.hbEdge.map (fun t => t + countsNs 12)).getD 0) }

theorem heartbeatSilent_eq (s : State) : exec .heartbeatSilent s = .next (startSplit (heartbeatVerdict false (silenceKnown s))) := by
  refine congrArg (fun u => Host.Outcome.next (startSplit (heartbeatVerdict false u))) ?_
  unfold silenceKnown
  cases s.pair.hbEdge with
  | none => simp
  | some t => rfl

theorem startSplit_of_started {s : State} (hstarted : s.pair.startTimeout = 0) : startSplit s = s := if_neg (by simp [hstarted])

theorem startSplit_of_waits {s : State} (hpaired : paired s = true) (hrole : s.pair.role = .withdrawn) (hwaits : s.pair.startTimeout ≠ 0) (hdown : s.pair.linkUp = false) (hmatch : s.pair.mismatch = false)
    (hsilent : heartbeatLive s = false) (hdue : s.now ≥ s.pair.startTimeout) : startSplit s = offerWork (splitRoles causeSilent { s with pair := { s.pair with declaredLost := true } }) :=
  if_pos (by simp [hpaired, hrole, hwaits, hdown, hmatch, hsilent, hdue])

/-! The withdrawal. -/

/-- The partner is gone, and the deltas that waited with it. -/
def partnerGone (s : State) : State := { s with pair := { s.pair with declaredLost := true, waitingDeltas := [] } }

theorem partnerGone_pair (s : State) : (partnerGone s).pair = { s.pair with declaredLost := true, waitingDeltas := [] } := rfl

/-- Originating commands go on, unless a withdrawal of this member's own is under way. -/
def goesOn (s : State) : State := { s with doc := { s.doc with blockOriginating := s.pair.withdrawing.isSome } }

theorem goesOn_pair (s : State) : (goesOn s).pair = s.pair := rfl

theorem goesOn_fab (s : State) : (goesOn s).fab = s.fab := rfl

/-- The state in which a survivor takes over. -/
def survived (s : State) : State := goesOn (latchEvent 32 (partnerGone (setRole .sole (s.pair.term + 1) causeWithdraw s)))

theorem survived_pair (s : State) : (survived s).pair = { (roleNoted .sole (s.pair.term + 1) causeWithdraw s).pair with declaredLost := true, waitingDeltas := [] } := by
  rw [survived, goesOn_pair, (frame_latchEvent ..).pair, partnerGone_pair, setRole_pair]

theorem mevCause_survived (s : State) : bit (survived s).fab.mevCause 32 = true := by
  rw [survived, goesOn_fab]
  exact latchEvent_cause ..

section
variable {h : LinkHdr} {s : State} (hh : FromPartner h s) (hresync : s.pair.resync = none)
include hh hresync

theorem withdraw_of_originator (hrole : s.pair.role = .originator) (hswap : s.pair.swapping = none) : exec (.withdraw h) s = .next (offerWork (survived (received h s))) := by
  have hswapping : (setRole .sole ((received h s).pair.term + 1) causeWithdraw (received h s)).pair.swapping = none := by
    rw [setRole_pair]
    exact hswap
  have hrole' : (received h s).pair.role = .originator := hrole
  refine congrArg Host.Outcome.next ((pairFrame_of_partner hh).trans ?_)
  simp only [show (received h s).pair.resync = none from hresync, Option.isSome_none, Bool.false_eq_true, if_false]
  rw [hrole', if_pos (by decide), if_neg (by decide), endSwap_of_none hswapping]
  rfl

theorem withdraw_of_sole (hrole : s.pair.role = .sole) : exec (.withdraw h) s = .next (received h s) := by
  have hrole' : (received h s).pair.role = .sole := hrole
  refine congrArg Host.Outcome.next ((pairFrame_of_partner hh).trans ?_)
  simp only [show (received h s).pair.resync = none from hresync, Option.isSome_none, Bool.false_eq_true, if_false]
  rw [hrole', if_neg (by decide)]

end

/-- The originating commands of a member that has withdrawn go to its partner, or are answered there. -/
def withdrawEnded (s : State) : State := { s with pair := { s.pair with withdrawing := none, dualAct := false, resync := none }, doc := { s.doc with blockOriginating := false } }

theorem withdrawEnded_pair (s : State) : (withdrawEnded s).pair = { s.pair with withdrawing := none, dualAct := false, resync := none } := rfl

theorem frame_discardUnreleased (s : State) : Frame [.doc, .vit, .cnt, .freeCount] s (discardUnreleased s) := by
  have hfreed := Frame.foldl (fun (u : State) (p : Nat × Desc) => frame_freeCopies p.1 p.2 u) (s.doc.descs.filter (fun p => p.2.st != .released && !notMirrored p.2.function)) s
  unfold discardUnreleased
  exact (hfreed.mono.trans (frame_of_doc rfl).mono).trans (Frame.foldl (fun _ _ => frame_dropHolds ..) _ _).mono

theorem frame_dropUnpublished (s : State) : Frame [.fab, .doc, .vit] s (dropUnpublished s) :=
  (frame_of_fab rfl).mono.trans (Frame.foldl (fun _ _ => frame_freeDesc ..) _ _).mono

/-- What the end of a withdrawal leaves of the pair and the errors. -/
theorem endWithdraw_effect (s : State) : (endWithdraw s).now = s.now ∧ (endWithdraw s).err = s.err ∧ (endWithdraw s).pair.role = .withdrawn ∧ (endWithdraw s).pair.term = s.pair.term ∧
    (endWithdraw s).pair.withdrawing = none := by
  have hsent := frame_sendPartner 0 .withdraw s
  have hterm : (sendPartner 0 .withdraw s).pair.term = s.pair.term := by
    unfold sendPartner sendOn sendFrame
    split
    · split <;> rfl
    · rfl
  have hend : endWithdraw s = dropUnpublished (discardUnreleased (setRole .withdrawn (withdrawEnded (sendPartner 0 .withdraw s)).pair.term causeWithdraw (withdrawEnded (sendPartner 0 .withdraw s)))) := rfl
  rw [hend]
  generalize sendPartner 0 .withdraw s = u at hsent hterm ⊢
  have hrole := frame_setRole .withdrawn (withdrawEnded u).pair.term causeWithdraw (withdrawEnded u)
  have hended : Frame [.pair, .doc] u (withdrawEnded u) := ⟨fun p hp => by cases p <;> simp [agree, withdrawEnded] at hp ⊢⟩
  have hpair := setRole_pair .withdrawn (withdrawEnded u).pair.term causeWithdraw (withdrawEnded u)
  generalize setRole .withdrawn (withdrawEnded u).pair.term causeWithdraw (withdrawEnded u) = v at hrole hpair ⊢
  have hlast : Frame [.fab, .doc, .vit, .cnt, .freeCount] v (dropUnpublished (discardUnreleased v)) := (frame_discardUnreleased v).mono.trans (frame_dropUnpublished _).mono
  rw [hlast.now, hlast.err, hlast.pair, hrole.now, hrole.err, hended.now, hended.err, hsent.now, hsent.err, hpair]
  exact ⟨rfl, rfl, rfl, hterm, rfl⟩

/-- The time at which a withdrawal ends: once its deltas are acknowledged, or after 20 us. -/
def withdrawDue (t : Nat) (s : State) : State := if s.pair.unacked = [] || !s.pair.linkUp then s else advanceTo (t + 20000) s

section
variable {t : Nat} {s : State} (hopen : s.pair.withdrawing = some t)
include hopen

theorem withdrawSend_of_other (hother : s.err.active ≠ 3) : exec .withdrawSend s = .next (endWithdraw (withdrawDue t s)) := by
  have hactive : (withdrawDue t s).err.active ≠ 3 := by unfold withdrawDue; split <;> exact hother
  show execWithdrawSend s = _
  unfold execWithdrawSend
  rw [hopen]
  exact if_neg hactive

/-- The state in which a MODULE handler's withdrawal is over. -/
def handlerWithdrawn (t : Nat) (s : State) : State :=
  logModule 3 s.err.codes (affectedAll (withdrawDue t s)) [] (endWithdraw { withdrawDue t s with err := { (withdrawDue t s).err with active := 0, codes := [], queued := [] } })

theorem withdrawSend_of_handler (hactive : s.err.active = 3) : exec .withdrawSend s = .next (handleQueued s.err.queued (handlerWithdrawn t s)) := by
  have herr : (withdrawDue t s).err = s.err := by unfold withdrawDue; split <;> rfl
  have hexec : exec .withdrawSend s = if (withdrawDue t s).err.active = 3 then
      .next (handleQueued (withdrawDue t s).err.queued (logModule 3 (withdrawDue t s).err.codes (affectedAll (withdrawDue t s)) []
        (endWithdraw { withdrawDue t s with err := { (withdrawDue t s).err with active := 0, codes := [], queued := [] } }))) else .next (endWithdraw (withdrawDue t s)) := by
    show execWithdrawSend s = _
    unfold execWithdrawSend
    rw [hopen]
    rfl
  rw [hexec, if_pos (by rw [herr]; exact hactive), herr]
  unfold handlerWithdrawn
  rw [herr]

end

theorem handlerWithdrawn_effect (t : Nat) (s : State) : (handlerWithdrawn t s).now = (withdrawDue t s).now ∧ (handlerWithdrawn t s).pair.role = .withdrawn ∧
    (handlerWithdrawn t s).pair.term = (withdrawDue t s).pair.term ∧ (handlerWithdrawn t s).pair.withdrawing = none ∧
    (handlerWithdrawn t s).err = { (withdrawDue t s).err with active := 0, codes := [], queued := [] } := by
  unfold handlerWithdrawn
  generalize withdrawDue t s = u
  obtain ⟨hnow, herr, hrole, hterm, hdone⟩ := endWithdraw_effect { u with err := { u.err with active := 0, codes := [], queued := [] } }
  have hlog := frame_logModule 3 s.err.codes (affectedAll u) [] (endWithdraw { u with err := { u.err with active := 0, codes := [], queued := [] } })
  rw [hlog.now, hlog.pair, hlog.err]
  exact ⟨hnow, hrole, hterm, hdone, herr⟩

theorem withdrawDue_effect (t : Nat) (s : State) : (withdrawDue t s).now = (if s.pair.unacked = [] ∨ s.pair.linkUp = false then s.now else max s.now (t + 20000)) ∧
    (withdrawDue t s).pair = s.pair ∧ (withdrawDue t s).err = s.err := by
  unfold withdrawDue
  by_cases hdue : s.pair.unacked = [] ∨ s.pair.linkUp = false
  · rw [if_pos hdue, if_pos (by simpa using hdue)]
    exact ⟨rfl, rfl, rfl⟩
  · rw [if_neg hdue, if_neg (by simpa using hdue)]
    exact ⟨rfl, rfl, rfl⟩

theorem heartbeatEdge_of_paired {s : State} (hpaired : paired s = true) : exec .heartbeatEdge s = .next (heartbeatVerdict true { s with pair := { s.pair with hbEdge := some s.now } }) :=
  if_neg (by rw [hpaired]; decide)

/-- Settles O45. -/
theorem lossOfThePairLink : Obligations.LossOfThePairLink := by
  unfold Obligations.LossOfThePairLink
  refine ⟨fun s hup hrole hresync hswap => ?_, fun s hup hrole hresync hswap => ?_, fun s hdown => congrArg Host.Outcome.next (if_neg (by rw [hdown]; decide)), fun s => rfl,
    fun s => ⟨fun hsingle => if_pos (by rw [hsingle]; rfl), fun hpaired hnone => (heartbeatEdge_of_paired hpaired).trans (congrArg Host.Outcome.next (heartbeatVerdict_of_none hnone)), fun hpaired hpending => ?_⟩,
    fun s hpending => ?_, fun s hnone hstarted => ?_, fun s hopen => ⟨{ s with now := max s.now s.pair.dualActEnd, pair := { s.pair with dualAct := false } }, if_neg (by rw [hopen]; decide), rfl⟩,
    fun s hclosed => if_pos (by rw [hclosed]; rfl), fun s hstarted => if_pos hstarted, fun s hwaits hpaired hrole hdown hmatch hsilent => ?_, fun h s hh hrole hresync hswap => ?_,
    fun h s hh hrole hresync => withdraw_of_sole hh hresync hrole, fun s hnone => ?_, fun t s hopen => ⟨fun hother => ?_, fun hactive => ?_⟩⟩
  · have hlost := linkLost_of_up (s := advanceTo ((spanPort s s.pair.port).lastFrame + 10000) s) hup hresync hswap
    have hpair := lossLatched_pair (advanceTo ((spanPort s s.pair.port).lastFrame + 10000) s)
    have hevent : Frame [.fab] (linkDeclared (advanceTo ((spanPort s s.pair.port).lastFrame + 10000) s)) (lossLatched (advanceTo ((spanPort s s.pair.port).lastFrame + 10000) s)) := frame_latchEvent ..
    have hbit : bit (lossLatched (advanceTo ((spanPort s s.pair.port).lastFrame + 10000) s)).fab.mevCause 32 = true := latchEvent_cause ..
    rw [linkSilence_of_up hup, hlost, afterLoss_of_originator (by rw [hpair]; exact hrole)]
    refine ⟨_, rfl, hevent.now, ?_, rfl, ?_, ?_, ?_, rfl, hbit⟩ <;> dsimp only <;> rw [hpair]
    · rfl
    · rfl
    · exact hrole
    · rfl
  · have hlost := linkLost_of_up (s := advanceTo ((spanPort s s.pair.port).lastFrame + 10000) s) hup hresync hswap
    have hpair := lossLatched_pair (advanceTo ((spanPort s s.pair.port).lastFrame + 10000) s)
    have hevent : Frame [.fab] (linkDeclared (advanceTo ((spanPort s s.pair.port).lastFrame + 10000) s)) (lossLatched (advanceTo ((spanPort s s.pair.port).lastFrame + 10000) s)) := frame_latchEvent ..
    have hbit : bit (lossLatched (advanceTo ((spanPort s s.pair.port).lastFrame + 10000) s)).fab.mevCause 32 = true := latchEvent_cause ..
    rw [linkSilence_of_up hup, hlost, afterLoss_of_sole (by rw [hpair]; exact hrole)]
    refine ⟨_, rfl, hevent.now, ?_, ?_, hevent.doc, hbit⟩ <;> rw [hpair]
    · rfl
    · exact hrole
  · obtain ⟨hrole, hterm, hcause, hdecided, -, hedge, hdual, -⟩ := splitRoles_effect causeLive { s with pair := { s.pair with hbEdge := some s.now } }
    exact ⟨_, (heartbeatEdge_of_paired hpaired).trans (congrArg Host.Outcome.next (heartbeatVerdict_of_live hpending)), hedge, hdecided, hcause, hrole, hterm, hdual⟩
  · obtain ⟨hrole, hterm, hcause, -, -, -, -, -⟩ := splitRoles_effect causeSilent (silenceKnown s)
    have hpair := dualActOpened_pair (silenceKnown s)
    have hnow : (dualActOpened (silenceKnown s)).now = (splitRoles causeSilent (silenceKnown s)).now := (frame_latchEvent ..).now
    have hbit : bit (dualActOpened (silenceKnown s)).fab.mevCause 32 = true := latchEvent_cause ..
    refine ⟨_, (heartbeatSilent_eq s).trans (congrArg (fun u => Host.Outcome.next (startSplit u)) (heartbeatVerdict_of_silent hpending)), ?_, ?_, ?_, ?_, ?_, ?_, hbit⟩
    · rw [hpair]
    · rw [hpair, hnow]
    · rw [hpair]; exact hrole
    · rw [hpair]; exact hterm
    · rw [hpair]; exact hcause
    · rw [hnow, splitRoles_now]; rfl
  · have hverdict : heartbeatVerdict false (silenceKnown s) = silenceKnown s := heartbeatVerdict_of_none hnone
    rw [heartbeatSilent_eq, hverdict, startSplit_of_started (s := silenceKnown s) hstarted]
    rfl
  · have hsplit := startSplit_of_waits (s := advanceTo s.pair.startTimeout s) hpaired hrole hwaits hdown hmatch hsilent (le_max_right ..)
    obtain ⟨hrole', hterm, -, -, hstarted, -, -, hlost⟩ := splitRoles_effect causeSilent { advanceTo s.pair.startTimeout s with pair := { (advanceTo s.pair.startTimeout s).pair with declaredLost := true } }
    exact ⟨_, (if_neg hwaits).trans (congrArg Host.Outcome.next hsplit), splitRoles_now .., hstarted, hlost, hrole', hterm⟩
  · have hpair := survived_pair (received h s)
    refine ⟨_, withdraw_of_originator hh hresync hrole hswap, ?_, ?_, ?_, ?_, mevCause_survived _⟩ <;> rw [hpair] <;> rfl
  · show execWithdrawSend s = _
    unfold execWithdrawSend
    rw [hnone]
  · obtain ⟨hnow, herr, hrole, hterm, hdone⟩ := endWithdraw_effect (withdrawDue t s)
    obtain ⟨hdue, hpair, hduerr⟩ := withdrawDue_effect t s
    rw [hdue] at hnow
    rw [hpair] at hterm
    rw [hduerr] at herr
    exact ⟨_, withdrawSend_of_other hopen hother, hnow, hrole, hterm, hdone, herr⟩
  · obtain ⟨hnow, hrole, hterm, hdone, herr⟩ := handlerWithdrawn_effect t s
    obtain ⟨hdue, hpair, hduerr⟩ := withdrawDue_effect t s
    rw [hdue] at hnow
    rw [hpair] at hterm
    rw [hduerr] at herr
    exact ⟨_, withdrawSend_of_handler hopen hactive, hnow, hrole, hterm, hdone, herr⟩

end Sys2Proof.Machine

/-!
PROOFS, part 45: positions and cross-feed.
-/

namespace Sys2Proof.Machine

set_option Elab.async false

open Sys2Proof.Safety

section
variable {h : LinkHdr} {sid : StreamId} {q fi : Nat} {s : State}

/-- What a POSITION frame carries (R288). -/
def positionAct (body : Position) (s : State) : State :=
  match body with
  | .notice sid q dig => noticeArrives sid q dig s
  | .ack sid q => ackArrives sid q s
  | .verdict sid q v => offerWork (applyVerdict sid q v s)
  | .hostAck sid q => markEntry sid q (fun e => { e with ackedThere := true }) s
  | .seals sid e live => sealsArrive sid e live s
  | .loansDone sid q => offerWork (loansDoneArrives sid q s)

theorem position_of_partner {body : Position} (hh : FromPartner h s) : exec (.position h body) s = .next (positionAct body (received h s)) := by
  refine (congrArg Host.Outcome.next (pairFrame_of_partner hh)).trans ?_
  cases body <;> rfl

theorem noticeArrives_of_none {dig : Nat} (hnone : flowOf s sid = none) : noticeArrives sid q dig s = s := by
  unfold noticeArrives
  rw [hnone]

section
variable {dig : Nat} {fl : Flow} (hflow : flowOf s sid = some fi) (hfl : mget s.doc.flows fi = some fl)
include hflow hfl

theorem noticeArrives_of_placed (hplaced : q < fl.next) : noticeArrives sid q dig s = sendPartner 1 (.position (.ack sid q)) s := by
  unfold noticeArrives
  simp only [hflow, hfl]
  exact if_pos hplaced

theorem noticeArrives_of_ahead (hahead : fl.next ≤ q) :
    noticeArrives sid q dig s = updFlow fi (fun f => { f with notices := (q, dig) :: f.notices.filter (fun p => p.1 != q) }) s := by
  unfold noticeArrives
  simp only [hflow, hfl]
  exact if_neg (by omega)

end

section
variable {k : Nat} {d : Desc} (hflow : flowOf s sid = some fi) (hplaced : placedAt s fi q = some (k, d))
include hflow hplaced

theorem ackArrives_of_placed : ackArrives sid q s = updDesc k (fun d => { d with positionAcked := true }) s := by
  unfold ackArrives
  simp only [hflow, Option.bind_some, hplaced]

theorem loansDoneArrives_of_placed : loansDoneArrives sid q s = updDesc k (fun d => { d with loanWait := [] }) s := by
  unfold loansDoneArrives
  simp only [hflow, Option.bind_some, hplaced]

end

theorem applyVerdict_of_accept {k gen : Nat} {d : Desc} {fl : Flow} (hflow : flowOf s sid = some fi) (hfl : mget s.doc.flows fi = some fl) (hjudged : judgedAt s fi q = some (k, d))
    (hwindow : d.windowRefusal = false) (hst : d.st ≠ .released) : applyVerdict sid q (.accept gen) s = updDesc k (fun d => { d with verdict := some (.accept gen) }) s := by
  have hopen : verdictStands d (.accept gen) = false := by
    unfold verdictStands
    rw [hwindow, beq_false_of_ne hst]
    cases d.verdict with
    | none => rfl
    | some v => cases v <;> rfl
  unfold applyVerdict
  simp only [hflow, hfl, hjudged, hopen]
  rfl

/-- A change of one command, as the statements put it. -/
theorem updDesc_effect {k : Nat} {d : Desc} (f : Desc → Desc) (hd : desc s k = some d) :
    desc (updDesc k f s) k = some (f d) ∧ ∀ n, n ≠ k → desc (updDesc k f s) n = desc s n :=
  ⟨by rw [desc_updDesc_same, hd]; rfl, fun _ hn => desc_updDesc_ne hn ..⟩

theorem updGal_effect {g : Nat} {x : Gallery} (f : Gallery → Gallery) (hx : gal s g = some x) : gal (updGal g f s) g = some (f x) ∧ ∀ k, k ≠ g → gal (updGal g f s) k = gal s k :=
  ⟨gal_updGal_same f hx, fun k hk => (gal_updGal s g k f).trans (if_neg hk)⟩

/-! Cross-feed. -/

/-- The arrival of a cross-fed frame. -/
def crossArrival (frame : Bytes) (now : Nat) : Arrival := { frame := frame, large := decide (frame.length > 512), commitAt := now, admitAt := now, crossFed := true }

theorem crossfeed_of_long {frame : Bytes} (hh : FromPartner h s) (hlong : 32 ≤ frame.length) : exec (.crossfeed h sid frame) s = .next (crossfeedArrives sid frame (received h s)) :=
  congrArg Host.Outcome.next ((pairFrame_of_partner hh).trans (if_pos hlong))

theorem crossfeed_of_short {frame : Bytes} (hh : FromPartner h s) (hshort : frame.length < 32) : exec (.crossfeed h sid frame) s = .next (received h s) :=
  congrArg Host.Outcome.next ((pairFrame_of_partner hh).trans (if_neg (by omega)))

theorem crossfeedArrives_of_here {frame : Bytes} (hplace : sid.place = placement s) (hfn : sid.fn ≤ 1024) (hstream : sid.stream < 16) (hactive : (strm s sid.fn sid.stream).active = true)
    (henable : (strm s sid.fn sid.stream).enable = true) (hbound : (win s sid.fn).gallery = some sid.gallery) :
    crossfeedArrives sid frame s = offerWork (deliverFrame sid.fn sid.stream (crossArrival frame s.now) s) :=
  (if_pos hplace).trans (if_pos ⟨hfn, hstream, hactive, henable, hbound⟩)

theorem crossfeedArrives_of_barred {frame : Bytes} (hplace : sid.place = placement s) (hbarred : (strm s sid.fn sid.stream).enable = false ∨ (win s sid.fn).gallery ≠ some sid.gallery) :
    crossfeedArrives sid frame s = s := by
  refine (if_pos hplace).trans (if_neg ?_)
  rintro ⟨-, -, -, henable, hbound⟩
  cases hbarred with
  | inl hoff => exact absurd (hoff.symm.trans henable) (by decide)
  | inr hother => exact hother hbound

theorem crossfeedArrives_of_distant {frame : Bytes} (hplace : sid.place ≠ placement s) (hflow : flowOf s sid = some fi) :
    crossfeedArrives sid frame s = offerWork (placeFrame fi (crossArrival frame s.now) s) := by
  unfold crossfeedArrives
  dsimp only
  rw [if_neg hplace, hflow]
  rfl

theorem crossfeedArrives_of_unknown {frame : Bytes} (hplace : sid.place ≠ placement s) (hflow : flowOf s sid = none) : crossfeedArrives sid frame s = s := by
  unfold crossfeedArrives
  dsimp only
  rw [if_neg hplace, hflow]

/-- The time at which the partner has not acknowledged the position of a command is past. -/
abbrev noticeLate (d : Desc) (s : State) : State := advanceTo (d.admitAt + 20000) s

theorem late_record {at_ : Nat} {u : State} (f : Frame [.pair, .doc] (advanceTo at_ s) u) : u = { s with pair := u.pair, doc := u.doc, now := max s.now at_ } := by
  simpa [advanceTo] using f.record

theorem crossfeedTimeout_of_done {ticket : Fin 65536} {d : Desc} {fl : Flow} (hd : desc s ticket = some d) (hfl : mget s.doc.flows d.flow = some fl)
    (hdone : mirroring s = false ∨ d.positionAcked = true ∨ d.crossFedOut = true ∨ d.behind.isSome = true ∨ d.frame = []) : exec (.crossfeedTimeout ticket) s = .next s := by
  show execCrossfeedTimeout ticket s = _
  unfold execCrossfeedTimeout
  simp only [hd, hfl]
  refine if_pos ?_
  obtain h | h | h | h | h := hdone <;> simp [h]

theorem crossfeedTimeout_of_due {ticket : Fin 65536} {d : Desc} {fl : Flow} (hd : desc s ticket = some d) (hfl : mget s.doc.flows d.flow = some fl) (hmirrors : mirroring s = true)
    (hack : d.positionAcked = false) (hcross : d.crossFedOut = false) (hbehind : d.behind = none) (hframe : d.frame ≠ []) :
    exec (.crossfeedTimeout ticket) s = .next (updDesc ticket (fun d => { d with crossFedOut := true }) (sendPartner 1 (.crossfeed fl.sid d.frame) (noticeLate d s))) := by
  show execCrossfeedTimeout ticket s = _
  unfold execCrossfeedTimeout
  simp only [hd, hfl]
  exact if_neg (by simp [hmirrors, hack, hcross, hbehind, hframe])

end

/-- Settles O46. -/
theorem positionsAndCrossFeed : Obligations.PositionsAndCrossFeed := by
  unfold Obligations.PositionsAndCrossFeed
  refine ⟨fun h sid q dig fi fl s hh hflow hfl => ⟨fun hplaced hsends => ?_, fun hahead => ?_⟩, fun h sid q dig s hh hnone => (position_of_partner hh).trans (congrArg Host.Outcome.next (noticeArrives_of_none hnone)),
    fun h sid q fi k d s hh hflow hplaced hd => ⟨?_, ?_⟩, fun h sid q fi k gen d fl s hh hflow hfl hjudged hd hwindow hst => ?_, fun h sid q x s hh hx => ?_, fun h sid epoch x s hh hx => ⟨?_, ?_⟩,
    fun ticket d fl s hd hfl => ⟨fun hmirrors hack hcross hbehind hframe => ?_, fun hdone => crossfeedTimeout_of_done hd hfl hdone⟩, fun h sid frame s hh => ⟨fun hplace hfn hstream hactive henable hbound hlong => ?_,
      fun fi hplace hflow hlong => ?_, fun hnothing => ?_⟩⟩
  · have hup : (received h s).pair.linkUp = true := hh.2.2.2
    have hsent := sendFrame_sentOne (cls := 1) (dst := s.pair.partner) (relayed := none) (e := false) (body := .position (.ack sid q)) (sends_of_frame (frame_received h s) hsends)
    have hcounter : (spanPort (received h s) s.pair.port).txCounter = (spanPort s s.pair.port).txCounter := by rw [← hh.2.2.1, spanPort_received]
    rw [hcounter] at hsent
    have hframe : Frame [.pair] s (sendPartner 1 (.position (.ack sid q)) (received h s)) := (frame_received h s).trans (frame_sendPartner ..)
    refine ⟨_, (position_of_partner hh).trans (congrArg Host.Outcome.next (noticeArrives_of_placed hflow hfl hplaced)), by simpa using hframe.record, ?_⟩
    rw [sendPartner_of_up hup]
    exact hsent
  · refine ⟨_, (position_of_partner hh).trans (congrArg Host.Outcome.next (noticeArrives_of_ahead hflow hfl hahead)), rfl, ?_, rfl⟩
    exact (mget_malter _ _ _ _).trans ((if_pos rfl).trans (congrArg (Option.map _) hfl))
  · obtain ⟨hhere, hothers⟩ := updDesc_effect (s := received h s) (fun d => { d with positionAcked := true }) hd
    exact ⟨_, (position_of_partner hh).trans (congrArg Host.Outcome.next (ackArrives_of_placed hflow hplaced)), rfl, hhere, hothers⟩
  · obtain ⟨hhere, hothers⟩ := updDesc_effect (s := received h s) (fun d => { d with loanWait := [] }) hd
    exact ⟨_, (position_of_partner hh).trans (congrArg (fun u => Host.Outcome.next (offerWork u)) (loansDoneArrives_of_placed hflow hplaced)), rfl, hhere, hothers⟩
  · obtain ⟨hhere, hothers⟩ := updDesc_effect (s := received h s) (fun d => { d with verdict := some (.accept gen) }) hd
    exact ⟨_, (position_of_partner hh).trans (congrArg (fun u => Host.Outcome.next (offerWork u)) (applyVerdict_of_accept hflow hfl hjudged hwindow hst)), rfl, hhere, hothers⟩
  · obtain ⟨hhere, hothers⟩ := updGal_effect (s := received h s) (fun g => { g with journal := g.journal.map (fun e => if e.sid == sid && e.seq == q then { e with ackedThere := true } else e) }) hx
    exact ⟨_, position_of_partner hh, rfl, hhere, hothers⟩
  · obtain ⟨hhere, hothers⟩ := updGal_effect (s := received h s) (fun g => { g with
      sealPartner := (65536 * sid.fn + sid.stream) :: g.sealPartner.filter (· != 65536 * sid.fn + sid.stream)
      sealEpochs := mset g.sealEpochs sid.stream (max (mgetD g.sealEpochs sid.stream 0) epoch) }) hx
    exact ⟨_, position_of_partner hh, rfl, hhere, hothers⟩
  · obtain ⟨hhere, hothers⟩ := updGal_effect (s := received h s) (fun g => { g with sealPartner := g.sealPartner.filter (· != 65536 * sid.fn + sid.stream) }) hx
    exact ⟨_, position_of_partner hh, rfl, hhere, hothers⟩
  · have hup : (noticeLate d s).pair.linkUp = true := (Bool.and_eq_true_iff.mp hmirrors).1
    refine ⟨_, crossfeedTimeout_of_due hd hfl hmirrors hack hcross hbehind hframe, late_record ((frame_sendPartner ..).mono.trans (frame_updDesc ..).mono), ?_, fun hsends => ?_⟩
    · rw [desc_updDesc_same, (frame_sendPartner ..).desc]
      exact congrArg (Option.map _) hd
    · rw [sendPartner_of_up hup]
      exact sendFrame_sentOne (s := noticeLate d s) hsends
  · exact (crossfeed_of_long hh hlong).trans (congrArg Host.Outcome.next (crossfeedArrives_of_here hplace hfn hstream hactive henable hbound))
  · exact (crossfeed_of_long hh hlong).trans (congrArg Host.Outcome.next (crossfeedArrives_of_distant hplace hflow))
  · by_cases hshort : frame.length < 32
    · exact crossfeed_of_short hh hshort
    · refine (crossfeed_of_long hh (by omega)).trans (congrArg Host.Outcome.next ?_)
      obtain ⟨hplace, hbarred⟩ | ⟨hplace, hflow⟩ := hnothing.resolve_left hshort
      · exact crossfeedArrives_of_barred hplace hbarred
      · exact crossfeedArrives_of_unknown hplace hflow

end Sys2Proof.Machine

/-!
PROOFS, part 46: state deltas and resynchronisation.
-/

namespace Sys2Proof.Machine

set_option Elab.async false

open Sys2Proof.Safety

/-! What goes to the partner changes its link alone. -/

/-- Only ports and frames sent differ. -/
def SentOnly (s t : State) : Prop := ∃ ports sent, t = { s with pair := { s.pair with ports := ports, sent := sent } }

namespace SentOnly

theorem refl (s : State) : SentOnly s s := ⟨s.pair.ports, s.pair.sent, rfl⟩

theorem trans {s t u : State} (h : SentOnly s t) (g : SentOnly t u) : SentOnly s u := by
  obtain ⟨ports, sent, rfl⟩ := h
  obtain ⟨ports', sent', rfl⟩ := g
  exact ⟨ports', sent', rfl⟩

theorem foldl {α : Type} {f : State → α → State} (hf : ∀ s x, SentOnly s (f s x)) (l : List α) (s : State) : SentOnly s (l.foldl f s) := by
  induction l generalizing s with
  | nil => exact refl s
  | cons x rest ih => exact (hf s x).trans (ih _)

variable {s t : State} (h : SentOnly s t)
include h

theorem term : t.pair.term = s.pair.term := by obtain ⟨p, x, rfl⟩ := h; rfl
theorem doc : t.doc = s.doc := by obtain ⟨p, x, rfl⟩ := h; rfl
theorem role : t.pair.role = s.pair.role := by obtain ⟨p, x, rfl⟩ := h; rfl
theorem unacked : t.pair.unacked = s.pair.unacked := by obtain ⟨p, x, rfl⟩ := h; rfl
theorem undo : t.pair.undo = s.pair.undo := by obtain ⟨p, x, rfl⟩ := h; rfl
theorem lastDelta : t.pair.lastDelta = s.pair.lastDelta := by obtain ⟨p, x, rfl⟩ := h; rfl
theorem resync : t.pair.resync = s.pair.resync := by obtain ⟨p, x, rfl⟩ := h; rfl
theorem waitingDeltas : t.pair.waitingDeltas = s.pair.waitingDeltas := by obtain ⟨p, x, rfl⟩ := h; rfl

end SentOnly

theorem sentOnly_sendFrame (port cls dst : Nat) (relayed : Option (Nat × Nat)) (e : Bool) (body : FrameBody) (s : State) : SentOnly s (sendFrame port cls dst relayed e body s) := by
  unfold sendFrame
  split
  · exact .refl s
  · exact ⟨_, _, rfl⟩

theorem sentOnly_sendPartner (cls : Nat) (body : FrameBody) (s : State) : SentOnly s (sendPartner cls body s) := by
  unfold sendPartner
  split
  · exact sentOnly_sendFrame ..
  · exact .refl s

theorem sentOnly_sendResync (l : List CopyItem) (s : State) : SentOnly s (sendResync l s) := .foldl (fun _ _ => sentOnly_sendPartner ..) l s

/-! Deltas. -/

section
variable {h : LinkHdr} {s : State} (hh : FromPartner h s)
include hh

/-- What a DELTA does at a member that the port's row lets it change. -/
def deltaAct (b : Delta) (s : State) : State :=
  if !(s.pair.role == .standby || s.pair.role == .resync) then s
  else if b.number ≤ s.pair.lastDelta && appliesDeltas s then sendPartner 1 (.deltaAck b.number) s
  else
    let s := { s with pair := { s.pair with waitingDeltas := s.pair.waitingDeltas.filter (fun d => d.number != b.number) ++ [b] } }
    offerReady (if appliesDeltas s then drainDeltas (s.pair.waitingDeltas.length + 1) s else s)

theorem delta_of_barred {b : Delta} (hbarred : ¬ Brings s h.port) : exec (.delta h b) s = .next (received h s) :=
  congrArg Host.Outcome.next ((pairFrame_of_partner hh).trans (if_neg hbarred))

theorem delta_of_brings {b : Delta} (hbrings : Brings s h.port) : exec (.delta h b) s = .next (deltaAct b (received h s)) :=
  congrArg Host.Outcome.next ((pairFrame_of_partner hh).trans (if_pos hbrings))

/-- An acknowledgement covers the deltas up to its number. -/
def ackedUpTo (n : Nat) (s : State) : State :=
  { s with pair := { s.pair with unacked := s.pair.unacked.filter (fun d => decide (d.number > n)), undo := s.pair.undo.filter (fun u => decide (u.1 > n)) } }

theorem deltaAck_of_partner (n : Nat) : exec (.deltaAck h n) s = .next (finishSwap (ackedUpTo n (received h s))) :=
  congrArg Host.Outcome.next (pairFrame_of_partner hh)

theorem resyncData_of_partner (item : CopyItem) (hwritable : s.pow.failWarning = false) : exec (.resyncData h item) s = .next (resyncItem h item (received h s)) :=
  congrArg Host.Outcome.next ((pairFrame_of_partner hh).trans (if_neg (by rw [show (received h s).pow.failWarning = false from hwritable]; decide)))

theorem resyncEnd_of_partner (hwritable : s.pow.failWarning = false) : exec (.resyncEnd h) s = .next (resyncEnds (received h s)) :=
  congrArg Host.Outcome.next ((pairFrame_of_partner hh).trans (if_neg (by rw [show (received h s).pow.failWarning = false from hwritable]; decide)))

theorem resyncData_of_warning (item : CopyItem) (hwarning : s.pow.failWarning = true) :
    exec (.resyncData h item) s = .next { s with pair := { (received h s).pair with heldFrames := s.pair.heldFrames ++ [(h, .resyncData item)] } } :=
  congrArg Host.Outcome.next ((pairFrame_of_partner hh).trans (if_pos hwarning))

theorem resyncEnd_of_warning (hwarning : s.pow.failWarning = true) :
    exec (.resyncEnd h) s = .next { s with pair := { (received h s).pair with heldFrames := s.pair.heldFrames ++ [(h, .resyncEnd)] } } :=
  congrArg Host.Outcome.next ((pairFrame_of_partner hh).trans (if_pos hwarning))

end

section
variable {b : Delta} {s : State}

theorem deltaAct_of_other (hstandby : s.pair.role ≠ .standby) (hresync : s.pair.role ≠ .resync) : deltaAct b s = s := if_pos (by simp [hstandby, hresync])

theorem appliesDeltas_of_standby (hrole : s.pair.role = .standby) : appliesDeltas s = true := by
  simp [appliesDeltas, hrole]

variable (hrole : s.pair.role = .standby)
include hrole

theorem deltaAct_of_old (hold : b.number ≤ s.pair.lastDelta) : deltaAct b s = sendPartner 1 (.deltaAck b.number) s :=
  (if_neg (by rw [hrole]; decide)).trans (if_pos (by rw [appliesDeltas_of_standby hrole, decide_eq_true hold]; rfl))

theorem deltaAct_of_new {u : State} (hnew : s.pair.lastDelta < b.number) (hu : u = { s with pair := { s.pair with waitingDeltas := s.pair.waitingDeltas.filter (fun d => d.number != b.number) ++ [b] } }) :
    deltaAct b s = offerReady (drainDeltas (u.pair.waitingDeltas.length + 1) u) := by
  have happlies : appliesDeltas u = true := appliesDeltas_of_standby (by rw [hu]; exact hrole)
  refine (if_neg (by rw [hrole]; decide)).trans ((if_neg ?_).trans ?_)
  · rw [decide_eq_false (by omega)]
    exact Bool.false_ne_true
  · rw [hu] at happlies ⊢
    exact congrArg offerReady (if_pos happlies)

end

theorem finishSwap_of_none {s : State} (hnone : s.pair.swapping = none) : finishSwap s = s := by
  unfold finishSwap
  rw [hnone]

theorem finishSwap_of_acked {s : State} {k n : Nat} {d : Desc} (hswap : s.pair.swapping = some k) (hd : desc s k = some d) (hdelta : d.delta = some n) (hacked : n ∉ s.pair.unacked.map (·.number)) :
    finishSwap s = becomeStandby s := by
  have hnot : s.pair.unacked.any (fun x => x.number == n) = false := by
    rw [List.any_eq_false]
    intro x hx heq
    exact hacked (List.mem_map.mpr ⟨x, hx, by simpa using heq⟩)
  unfold finishSwap
  simp only [hswap, hd, Option.bind_some, hdelta, hnot, Bool.false_eq_true, if_false]

/-- The exchange is over, and the verdicts of the former ORIGINATOR stand. -/
def swapEnded (descs : Map Desc) (s : State) : State := { s with pair := { s.pair with swapping := none }, doc := { s.doc with descs := descs, blockOriginating := false } }

theorem swapEnded_pair (descs : Map Desc) (s : State) : (swapEnded descs s).pair = { s.pair with swapping := none } := rfl

theorem swapEnded_open (descs : Map Desc) (s : State) : (swapEnded descs s).doc.blockOriginating = false := rfl

/-- The state in which the former ORIGINATOR goes on as STANDBY. -/
def standsBy (s : State) : State :=
  swapEnded (s.doc.descs.map (fun (p : Nat × Desc) => (p.1, { p.2 with verdict := some (p.2.verdict.getD (.accept 0)), deltaApplied := p.2.deltaApplied || p.2.delta.isSome })))
    (setRole .standby (s.pair.term + 1) causeSwap s)

theorem becomeStandby_eq (s : State) : becomeStandby s = offerWork (standsBy s) := rfl

theorem standsBy_effect (s : State) : (standsBy s).pair.role = .standby ∧ (standsBy s).pair.term = s.pair.term + 1 ∧ (standsBy s).pair.cause = causeSwap ∧ (standsBy s).pair.swapping = none ∧
    (standsBy s).doc.blockOriginating = false := by
  rw [standsBy, swapEnded_open, swapEnded_pair, setRole_pair]
  exact ⟨rfl, rfl, rfl, rfl, rfl⟩

/-! A resynchronisation begins. -/

section
variable {term n : Nat} {lost : Bool} {s : State}

theorem resyncBegins_of_barred (hbarred : s.pair.mismatch = true ∨ s.pair.outUntilStart = true ∨ s.pair.resync.isSome = true) : resyncBegins term n lost s = s := by
  refine if_pos ?_
  obtain h | h | h := hbarred <;> simp [h]

variable (hmatch : s.pair.mismatch = false) (hin : s.pair.outUntilStart = false) (hfresh : s.pair.resync = none)
include hmatch hin hfresh

theorem resyncBegins_of_active (hactive : isActiveMember s term = true) : resyncBegins term n lost s = beginActive term n lost s :=
  (if_neg (by simp [hmatch, hin, hfresh])).trans (if_pos hactive)

theorem resyncBegins_of_repaired (hrepaired : isActiveMember s term = false) : resyncBegins term n lost s = beginRepaired term n s :=
  (if_neg (by simp [hmatch, hin, hfresh])).trans (if_neg (by rw [hrepaired]; decide))

end

/-- The state in which the repaired member takes its role: its own changes after D are discarded. -/
def repairing (term n : Nat) (s : State) : State :=
  let u := s.pair.undo.foldl (fun s u => restoreRecord u s) s
  { u with pair := { u.pair with
    undo := [], unacked := [], waitingDeltas := [], dualAct := false, hbPending := false, lastDelta := reportedDelta s.pair
    resync := some {
      active := false, full := copiesWhole (copyLost s) n (reportedDelta s.pair), reported := true, from_ := reportedDelta s.pair, results := s.pair.unmirrored.map (·.2), left := 0, term := term, seen := [],
      ended := false } } }

/-- What a role leaves of the pair. -/
theorem roleNoted_keeps (role : Role) (term cause : Nat) (s : State) : (roleNoted role term cause s).pair.role = role ∧ (roleNoted role term cause s).pair.unacked = s.pair.unacked ∧
    (roleNoted role term cause s).pair.undo = s.pair.undo ∧ (roleNoted role term cause s).pair.lastDelta = s.pair.lastDelta ∧ (roleNoted role term cause s).pair.resync = s.pair.resync :=
  ⟨rfl, rfl, rfl, rfl, rfl⟩

theorem repairing_effect (term n : Nat) (s : State) : (repairing term n s).pair.unacked = [] ∧ (repairing term n s).pair.undo = [] ∧ (repairing term n s).pair.lastDelta = reportedDelta s.pair ∧
    (repairing term n s).pair.resync.map (fun r => (r.active, r.reported, r.from_, r.term)) = some (false, true, reportedDelta s.pair, term) := ⟨rfl, rfl, rfl, rfl⟩

/-- The repaired member's report: its role, its results and their end. -/
def repairReported (own : List (Nat × JournalEntry)) (s : State) : State :=
  sendPartner 3 .resyncEnd (sendResync (own.reverse.map (fun p => .result p.2)) (setRole .resync s.pair.term s.pair.cause s))

theorem repairReported_effect (own : List (Nat × JournalEntry)) (s : State) : (repairReported own s).pair.role = .resync ∧ (repairReported own s).pair.unacked = s.pair.unacked ∧
    (repairReported own s).pair.undo = s.pair.undo ∧ (repairReported own s).pair.lastDelta = s.pair.lastDelta ∧ (repairReported own s).pair.resync = s.pair.resync := by
  have hsent : SentOnly (setRole .resync s.pair.term s.pair.cause s) (repairReported own s) := (sentOnly_sendResync ..).trans (sentOnly_sendPartner ..)
  rw [hsent.role, hsent.unacked, hsent.undo, hsent.lastDelta, hsent.resync, setRole_pair]
  exact roleNoted_keeps ..

theorem beginRepaired_eq (term n : Nat) (s : State) : beginRepaired term n s = repairReported s.pair.unmirrored (repairing term n s) := rfl

theorem beginRepaired_effect (term n : Nat) (s : State) : (beginRepaired term n s).pair.role = .resync ∧ (beginRepaired term n s).pair.unacked = [] ∧ (beginRepaired term n s).pair.undo = [] ∧
    (beginRepaired term n s).pair.lastDelta = reportedDelta s.pair ∧
    (beginRepaired term n s).pair.resync.map (fun r => (r.active, r.reported, r.from_, r.term)) = some (false, true, reportedDelta s.pair, term) := by
  obtain ⟨hunacked, hundo, hlast, hresync⟩ := repairing_effect term n s
  obtain ⟨hrole', hunacked', hundo', hlast', hresync'⟩ := repairReported_effect s.pair.unmirrored (repairing term n s)
  rw [beginRepaired_eq]
  refine ⟨hrole', hunacked'.trans hunacked, hundo'.trans hundo, hlast'.trans hlast, ?_⟩
  rw [hresync', hresync]

/-! Items of the copy, and its end. -/

section
variable {h : LinkHdr} {r : Resync} {s : State}

theorem resyncItem_begin (term n : Nat) (lost : Bool) : resyncItem h (.begin term n lost) s = resyncBegins term n lost s := rfl

theorem resyncItem_of_none (item : CopyItem) (hitem : ∀ a b c, item ≠ .begin a b c) (hnone : s.pair.resync = none) : resyncItem h item s = s := by
  cases item with
  | begin a b c => exact absurd rfl (hitem a b c)
  | _ => unfold resyncItem; rw [hnone]

variable (hr : s.pair.resync = some r)
include hr

theorem resyncItem_result (e : JournalEntry) (hactive : r.active = true) (hopen : r.reported = false) :
    resyncItem h (.result e) s = { s with pair := { s.pair with resync := some { r with results := r.results ++ [e] } } } := by
  unfold resyncItem
  rw [hr]
  exact if_pos (by rw [hactive, hopen]; rfl)

theorem resyncItem_vrecord (g n : Nat) (vr : Option VRecord) (hrepaired : r.active = false) (hopen : r.ended = false) (hbrings : Brings s h.port) :
    resyncItem h (.vrecord g n vr) s = putItem (.vrecord g n vr) s := by
  unfold resyncItem
  rw [hr]
  exact (if_neg (by rw [hrepaired, hopen]; decide)).trans (if_pos hbrings)

theorem resyncEnds_of_active (hactive : r.active = true) (hopen : r.reported = false) : resyncEnds s = sendCopy r s := by
  unfold resyncEnds
  rw [hr]
  exact (if_pos hactive).trans (if_neg (by rw [hopen]; decide))

theorem resyncEnds_of_repaired (hrepaired : r.active = false) (hopen : r.ended = false) : resyncEnds s = endCopy r s := by
  unfold resyncEnds
  rw [hr]
  exact (if_neg (by rw [hrepaired]; decide)).trans (if_neg (by rw [hopen]; decide))

end

theorem resyncEnds_of_none {s : State} (hnone : s.pair.resync = none) : resyncEnds s = s := by
  unfold resyncEnds
  rw [hnone]

/-! The pair is formed. -/

/-- The copy stands: the resynchronisation and what it kept are over. -/
def copyStands (unmirrored : List (Nat × JournalEntry)) (blocked : Bool) (s : State) : State :=
  { s with pair := { s.pair with resync := none, declaredLost := false, dualAct := false, unmirrored := unmirrored, undo := [] }, doc := { s.doc with blockOriginating := blocked } }

/-- The member takes its role in the pair that is formed, and its event latches. -/
def pairFormed (role : Role) (term : Nat) (s : State) : State := latchEvent 33 (setRole role term causeFormed s)

theorem pairFormed_effect (role : Role) (term : Nat) (s : State) : (pairFormed role term s).pair.role = role ∧ (pairFormed role term s).pair.term = term ∧
    (pairFormed role term s).pair.resync = s.pair.resync ∧ (pairFormed role term s).pair.declaredLost = s.pair.declaredLost ∧
    (pairFormed role term s).doc.blockOriginating = s.doc.blockOriginating ∧ bit (pairFormed role term s).fab.mevCause 33 = true := by
  refine ⟨?_, ?_, ?_, ?_, ?_, latchEvent_cause ..⟩ <;> rw [pairFormed]
  iterate 4 rw [(frame_latchEvent ..).pair, setRole_pair]; rfl
  rw [(frame_latchEvent ..).doc, setRole_doc]

theorem settleJournals_term (s : State) : (settleJournals s).pair.term = s.pair.term := by
  have hsent : ∀ (s : State) (p : Nat × Gallery), SentOnly s ((p.2.journal.filter (·.acked)).foldl (fun s e => sendPartner 1 (.position (.hostAck e.sid e.seq)) s) s) :=
    fun s _ => .foldl (fun _ _ => sentOnly_sendPartner ..) _ s
  exact (SentOnly.foldl hsent s.vit.galleries s).term

/-- The repaired member's journals are the active member's, and its flows stand where these say. -/
def rejoined (s : State) : State :=
  rejoin { s with vit := { s.vit with galleries := mmap (fun (g : Gallery) => { g with journal := g.journal.map (fun e => { e with acked := true }) }) s.vit.galleries } }

section
variable {r : Resync} {s : State} (hr : s.pair.resync = some r) (hended : r.ended = true)
include hr hended

theorem resyncComplete_of_active (hactive : r.active = true) (hacked : s.pair.unacked = []) : ∃ u, exec .resyncComplete s = .next (offerWork u) ∧ u.pair.role = .originator ∧
    u.pair.term = s.pair.term + 1 ∧ u.pair.resync = none ∧ u.pair.declaredLost = false ∧ bit u.fab.mevCause 33 = true := by
  have hterm := (settleJournals_term ((pairGalleries s).foldl (fun s p => sendResync (streamItems s p.1) s) s)).trans (SentOnly.foldl (fun _ _ => sentOnly_sendResync ..) ..).term
  have hformed : exec .resyncComplete s = .next (offerWork (pairFormed .originator ((settleJournals ((pairGalleries s).foldl (fun s p => sendResync (streamItems s p.1) s) s)).pair.term + 1)
      (copyStands [] (settleJournals ((pairGalleries s).foldl (fun s p => sendResync (streamItems s p.1) s) s)).pair.withdrawing.isSome
        (settleJournals ((pairGalleries s).foldl (fun s p => sendResync (streamItems s p.1) s) s))))) := by
    show execResyncComplete s = _
    rw [execResyncComplete, hr]
    exact (if_neg (by rw [hended]; decide)).trans ((if_pos hactive).trans (if_neg (by rw [hacked]; decide)))
  rw [hterm] at hformed
  obtain ⟨hrole, hnew, hresync, hlost, -, hevent⟩ := pairFormed_effect .originator (s.pair.term + 1) _
  exact ⟨_, hformed, hrole, hnew, hresync, hlost, hevent⟩

theorem resyncComplete_of_repaired (hrepaired : r.active = false) (hdrained : s.pair.waitingDeltas = []) : ∃ u, exec .resyncComplete s = .next (offerWork u) ∧ u.pair.role = .standby ∧
    u.pair.term = r.term + 1 ∧ u.pair.resync = none ∧ u.pair.declaredLost = false ∧ u.doc.blockOriginating = false ∧ bit u.fab.mevCause 33 = true := by
  obtain ⟨hrole, hnew, hresync, hlost, hopen, hevent⟩ := pairFormed_effect .standby (r.term + 1) (copyStands (rejoined s).pair.unmirrored false (rejoined s))
  have hformed : exec .resyncComplete s = .next (offerWork (pairFormed .standby (r.term + 1) (copyStands (rejoined s).pair.unmirrored false (rejoined s)))) := by
    show execResyncComplete s = _
    rw [execResyncComplete, hr]
    exact (if_neg (by rw [hended]; decide)).trans ((if_neg (by rw [hrepaired]; decide)).trans (if_neg (by rw [hdrained]; decide)))
  exact ⟨_, hformed, hrole, hnew, hresync, hlost, hopen, hevent⟩

end

theorem resyncComplete_of_open {s : State} (hopen : ∀ r, s.pair.resync = some r → r.ended = false) : exec .resyncComplete s = .next s := by
  show execResyncComplete s = _
  rw [execResyncComplete]
  cases hr : s.pair.resync with
  | none => rfl
  | some r => exact if_pos (by rw [hopen r hr]; rfl)

/-- Settles O47, row by row of the DELTA, DELTA_ACK, RESYNC_DATA and RESYNC_END frames, and of the end of the resynchronisation. -/
theorem deltasAndResynchronisation : Obligations.DeltasAndResynchronisation := by
  unfold Obligations.DeltasAndResynchronisation
  refine ⟨fun h b s hh => ⟨fun hstandby hresync => ?_, delta_of_barred hh, fun hrole hbrings hold hsends => ?_, fun hrole hbrings hnew => ?_⟩, fun h n s hh hswap => ?_, fun h n k m d s hh hswap hd hdelta hacked => ?_,
    fun h item s hh hwarning => ⟨resyncData_of_warning hh item hwarning, resyncEnd_of_warning hh hwarning⟩, fun h term n lost s hh hwritable => ⟨fun hbarred => ?_, fun hmatch hin hfresh hactive => ?_,
    fun hmatch hin hfresh hrepaired => ?_⟩, fun h e r s hh hwritable hr hactive hopen => ?_, fun h item s hh hwritable hitem hnone => ?_, fun h g n vr r s hh hwritable hr hrepaired hopen hbrings => ?_,
    fun h s hh hwritable => ⟨fun hnone => ?_, fun r hr hactive hopen => ?_, fun r hr hrepaired hopen => ?_⟩, fun r s hr hended => ⟨resyncComplete_of_active hr hended, resyncComplete_of_repaired hr hended⟩,
    fun s => resyncComplete_of_open⟩
  · by_cases hbrings : Brings s h.port
    · rw [delta_of_brings hh hbrings, deltaAct_of_other (s := received h s) hstandby hresync]
    · exact delta_of_barred hh hbrings
  · have hact := delta_of_brings (b := b) hh hbrings
    rw [deltaAct_of_old (s := received h s) hrole hold, sendPartner_of_up (s := received h s) hh.2.2.2] at hact
    have hsent := sendFrame_sentOne (cls := 1) (dst := s.pair.partner) (relayed := none) (e := false) (body := .deltaAck b.number) (sends_of_frame (frame_received h s) hsends)
    rw [← hh.2.2.1, spanPort_received, hh.2.2.1] at hsent
    have honly : SentOnly (received h s) (sendOn s.pair.port 1 s.pair.partner (.deltaAck b.number) (received h s)) := sentOnly_sendFrame ..
    have hframe : Frame [.pair] s (sendOn s.pair.port 1 s.pair.partner (.deltaAck b.number) (received h s)) := (frame_received h s).trans (frame_sendOn ..)
    exact ⟨sendOn s.pair.port 1 s.pair.partner (.deltaAck b.number) (received h s), hact, by simpa using hframe.record, hsent, honly.lastDelta, honly.waitingDeltas⟩
  · refine ⟨_, (delta_of_brings hh hbrings).trans (congrArg Host.Outcome.next (deltaAct_of_new (s := received h s) hrole hnew rfl)), rfl⟩
  · exact (deltaAck_of_partner hh n).trans (congrArg Host.Outcome.next (finishSwap_of_none (s := ackedUpTo n (received h s)) hswap))
  · obtain ⟨hrole, hterm, hcause, hend, hopen⟩ := standsBy_effect (ackedUpTo m (received h s))
    have hswapped := finishSwap_of_acked (s := ackedUpTo m (received h s)) hswap hd hdelta hacked
    exact ⟨standsBy (ackedUpTo m (received h s)), (deltaAck_of_partner hh m).trans (congrArg Host.Outcome.next (hswapped.trans (becomeStandby_eq _))), hrole, hterm, hcause, hend, hopen⟩
  · rw [resyncData_of_partner hh _ hwritable, resyncItem_begin, resyncBegins_of_barred (s := received h s) hbarred]
  · refine ⟨_, (resyncData_of_partner hh _ hwritable).trans (congrArg Host.Outcome.next (resyncBegins_of_active hmatch hin hfresh hactive)), rfl, rfl, rfl⟩
  · obtain ⟨hrole, hunacked, hundo, hlast, hresync⟩ := beginRepaired_effect term n (received h s)
    exact ⟨_, (resyncData_of_partner hh _ hwritable).trans (congrArg Host.Outcome.next (resyncBegins_of_repaired hmatch hin hfresh hrepaired)), hrole, hunacked, hundo, hlast, hresync⟩
  · exact (resyncData_of_partner hh _ hwritable).trans (congrArg Host.Outcome.next (resyncItem_result (s := received h s) hr e hactive hopen))
  · exact (resyncData_of_partner hh _ hwritable).trans (congrArg Host.Outcome.next (resyncItem_of_none (s := received h s) item hitem hnone))
  · exact (resyncData_of_partner hh _ hwritable).trans (congrArg Host.Outcome.next (resyncItem_vrecord (s := received h s) hr g n vr hrepaired hopen hbrings))
  · exact (resyncEnd_of_partner hh hwritable).trans (congrArg Host.Outcome.next (resyncEnds_of_none (s := received h s) hnone))
  · exact ⟨_, (resyncEnd_of_partner hh hwritable).trans (congrArg Host.Outcome.next (resyncEnds_of_active (s := received h s) hr hactive hopen)), rfl, rfl, rfl⟩
  · exact ⟨_, (resyncEnd_of_partner hh hwritable).trans (congrArg Host.Outcome.next (resyncEnds_of_repaired (s := received h s) hr hrepaired hopen)), rfl, rfl⟩

end Sys2Proof.Machine

/-!
PROOFS, part 47: commands forwarded to their home, and their responses.
-/

namespace Sys2Proof.Machine

set_option Elab.async false

open Sys2Proof.Safety

/-! What the home answers. -/

theorem frame_replyOpen (dst : Nat) (sid : StreamId) (r : OpenReply) (s : State) : Frame [.pair] s (replyOpen dst sid r s) := frame_sendTo ..

theorem frame_passOn (h : LinkHdr) (cls : Nat) (body : FrameBody) (s : State) : Frame [.pair] s (passOn h cls body s) := .ite (fun _ => frame_sendPartner ..) (fun _ => .refl ..)

theorem passOn_of_alone {h : LinkHdr} {cls : Nat} {body : FrameBody} {s : State} (halone : mirrors s = false) : passOn h cls body s = s := if_neg (by rw [halone]; exact Bool.false_ne_true)

theorem asksHome_received (h : LinkHdr) (s : State) (g : Nat) : asksHome (received h s) g = asksHome s g := by
  have hroutes : ∀ d, homeModule (received h s) d = homeModule s d := fun d => by simp only [homeModule, routeTo_received]
  unfold asksHome
  rw [show homeOf (received h s) g = homeOf s g from rfl]
  split
  · rw [hroutes, routeTo_received]
  · rfl

theorem galleryRefuses_received (h : LinkHdr) (s : State) (g fn i base : Nat) (key : Option Nat) : galleryRefuses (received h s) g fn i base key = galleryRefuses s g fn i base key := by
  unfold galleryRefuses
  rw [asksHome_received]
  rfl

section
variable {h : LinkHdr} {sid : StreamId} {body : Forwarded} {s : State} (hh : ForHere h s)
include hh

theorem forward_of_misdirected (hmis : isMisdirected s h = true) : exec (.forward h sid body) s =
    .next (sendFrame s.pair.port 2 s.pair.partner (some (h.src, h.hops + 1)) false (.forward sid body) (received h s)) :=
  congrArg Host.Outcome.next ((receiveFrame_of_here hh).trans (if_pos hmis))

theorem forward_of_here (hhere : isMisdirected s h = false) : exec (.forward h sid body) s = .next (forwardArrives h sid body (received h s)) :=
  congrArg Host.Outcome.next ((receiveFrame_of_here hh).trans (if_neg (by rw [show isMisdirected (received h s) h = isMisdirected s h from rfl, hhere]; exact Bool.false_ne_true)))

end

section
variable {h : LinkHdr} {sid : StreamId} {s : State}

theorem forwardArrives_of_gone (hgone : homed s sid.gallery = none) : (∀ frame, forwardArrives h sid (.command frame none) s =
      sendTo 2 h.src (.forwardRsp sid (hdrSeq frame) (statusOnly Status.accessDenied) ⟨0, 0, false, none⟩) s) ∧
    (∀ base key, forwardArrives h sid (.opens base key) s = replyOpen h.src sid .refused s) ∧ forwardArrives h sid .closes s = s := by
  unfold forwardArrives
  rw [hgone]
  exact ⟨fun _ => rfl, fun _ _ => rfl, rfl⟩

variable (hhome : (homed s sid.gallery).isSome = true)
include hhome

theorem forwardArrives_of_home : (∀ frame a, forwardArrives h sid (.command frame a) s = commandArrives h.src sid frame a s) ∧
    (∀ base key, forwardArrives h sid (.opens base key) s = opensArrive h sid base key s) ∧ forwardArrives h sid .closes s = closesArrive h.src sid (passOn h 2 (.forward sid .closes) s) := by
  obtain ⟨x, hx⟩ := Option.isSome_iff_exists.mp hhome
  unfold forwardArrives
  rw [hx]
  exact ⟨fun _ _ => rfl, fun _ _ => rfl, rfl⟩

theorem gal_of_homed : (gal s sid.gallery).isSome = true := by
  unfold homed at hhome
  cases hg : gal s sid.gallery with
  | none => rw [hg] at hhome; exact absurd hhome (by decide)
  | some x => rfl

end

/-! A window of another module enables a stream. -/

section
variable {h : LinkHdr} {sid : StreamId} {base : Nat} {key : Option Nat} {s : State}

/-- The flow with one more module that has it enabled. -/
def joined (src : Nat) (fl : Flow) : Flow := { fl with openers := (fl.openers ++ [src]).eraseDups }

theorem sealFar_again (sid : StreamId) (key : Option Nat) (s : State) : (sealFar sid key true s).2 = s := by
  unfold sealFar
  split <;> rfl

theorem opensArrive_joins {fi : Nat} (hknown : flowOf s sid = some fi) : opensArrive h sid base key s = updFlow fi (joined h.src) s ∨
    opensArrive h sid base key s = replyOpen h.src sid (.accepted (sealFar sid key true s).1) (passOn h 2 (.forward sid (.opens base key)) (updFlow fi (joined h.src) s)) := by
  unfold opensArrive
  rw [hknown]
  by_cases hrole : (s.pair.role == .standby) = true
  · exact .inl (if_pos hrole)
  · refine .inr ((if_neg hrole).trans ((if_neg Bool.false_ne_true).trans ?_))
    show replyOpen _ _ _ (passOn _ _ _ (updFlow fi (joined h.src) (sealFar sid key true s).2)) = _
    rw [sealFar_again]
    rfl

theorem opensArrive_joins_effect {fi : Nat} {fl : Flow} (hknown : flowOf s sid = some fi) (hfl : mget s.doc.flows fi = some fl) : Frame [.doc, .pair] s (opensArrive h sid base key s) ∧
    mget (opensArrive h sid base key s).doc.flows fi = some (joined h.src fl) ∧ (opensArrive h sid base key s).doc.descs = s.doc.descs := by
  have hjoined : mget (updFlow fi (joined h.src) s).doc.flows fi = some (joined h.src fl) := (mget_malter _ _ _ _).trans ((if_pos rfl).trans (congrArg (Option.map _) hfl))
  obtain heq | heq := opensArrive_joins (h := h) (base := base) (key := key) hknown <;> rw [heq]
  · exact ⟨(frame_updFlow ..).mono, hjoined, rfl⟩
  · have hsent := (frame_passOn h 2 (.forward sid (.opens base key)) (updFlow fi (joined h.src) s)).trans (frame_replyOpen h.src sid (.accepted (sealFar sid key true s).1) _)
    rw [hsent.doc]
    exact ⟨((frame_updFlow ..).mono).trans hsent.mono, hjoined, rfl⟩

theorem opensArrive_refused (hrole : s.pair.role ≠ .standby) (hnew : flowOf s sid = none) (hrefuses : galleryRefuses s sid.gallery sid.fn sid.stream base key = true) :
    opensArrive h sid base key s = replyOpen h.src sid .refused s := by
  unfold opensArrive
  rw [hnew]
  exact (if_neg (by simpa using hrole)).trans (if_pos (by rw [hrefuses]; rfl))

theorem opensArrive_opens (hrole : s.pair.role ≠ .standby) (hnew : flowOf s sid = none) (hadmits : galleryRefuses s sid.gallery sid.fn sid.stream base key = false) :
    opensArrive h sid base key s = replyOpen h.src sid (.accepted (sealFar sid key false s).1)
      (passOn h 2 (.forward sid (.opens base key)) (openRemote sid base key h.src (sealFar sid key false s).2)) := by
  unfold opensArrive
  rw [hnew]
  refine (if_neg (by simpa using hrole)).trans ((if_neg ?_).trans rfl)
  rw [hadmits]
  exact Bool.false_ne_true

theorem opensArrive_follows (hrole : s.pair.role = .standby) (hnew : flowOf s sid = none) : opensArrive h sid base key s = openRemote sid base key h.src s := by
  unfold opensArrive
  rw [hnew]
  exact if_pos (by rw [hrole]; rfl)

/-- The flow of a distant stream that begins at a number. -/
def distantFlow (sid : StreamId) (base : Nat) (key : Option Nat) (src : Nat) (s : State) : Flow :=
  { sid := sid, next := base, rel := base, remote := true, sealed := key.isSome
    sealKey := key.bind (fun h => (sealRecord s sid.gallery (BitVec.ofNat 64 h)).map (fun r => (h, r.generation))), openers := [src], sparse := fromLoan s sid }

theorem openRemote_opens {fi src : Nat} (hroom : docentFlows s < 65536) (hfree : lowestFree s.doc.flows 65536 = some fi) (hstays : (gal s sid.gallery).bind (·.migration) = none) :
    openRemote sid base key src s = { s with doc := { s.doc with flows := mset s.doc.flows fi (distantFlow sid base key src s) } } := by
  unfold openRemote
  rw [if_neg (by omega), hfree]
  dsimp only
  rw [hstays]
  show noteCut fi { s with doc := { s.doc with flows := mset s.doc.flows fi (distantFlow sid base key src s) } } = _
  unfold noteCut
  rw [mget_mset_same]
  rfl

theorem mirrorChanges_of_alone {cs : List Change} (halone : mirrors s = false) : mirrorChanges cs s = s := if_pos (by rw [halone]; rfl)

/-- A gallery whose stream has a new SEAL_EPOCH. -/
def epochSet (stream epoch : Nat) (x : Gallery) : Gallery := { x with sealEpochs := mset x.sealEpochs stream epoch }

theorem sealFar_none (sid : StreamId) (s : State) : (sealFar sid none false s).2 = s := rfl

theorem sealFar_some {k : Nat} {r : VRecord} {x : Gallery} (halone : mirrors s = false) (hr : sealRecord s sid.gallery (BitVec.ofNat 64 k) = some r) (hx : gal s sid.gallery = some x) :
    gal (sealFar sid (some k) false s).2 sid.gallery = some (epochSet sid.stream (mgetD x.sealEpochs sid.stream 0 + 1) x) := by
  have hrecord : (some k).bind (fun h => sealRecord s sid.gallery (BitVec.ofNat 64 h)) = some r := hr
  unfold sealFar
  rw [hrecord, hx]
  show gal (mirrorChanges _ (updGal _ _ s)) _ = _
  rw [mirrorChanges_of_alone (s := updGal _ _ s) halone]
  exact gal_updGal_same _ hx

/-- A sealed enable counts an epoch of its gallery and nothing else. -/
theorem sealFar_effect (halone : mirrors s = false) : ∃ f : Gallery → Gallery, (∀ x, (f x).migration = x.migration) ∧ ((sealFar sid key false s).2 = updGal sid.gallery f s ∨ (sealFar sid key false s).2 = s) := by
  unfold sealFar
  split
  · rename_i r x _ _
    refine ⟨epochSet sid.stream (mgetD x.sealEpochs sid.stream 0 + 1), fun _ => rfl, .inl ?_⟩
    show mirrorChanges _ (updGal _ _ s) = _
    exact mirrorChanges_of_alone (s := updGal _ _ s) halone
  · exact ⟨id, fun _ => rfl, .inr rfl⟩

theorem sealFar_stays (halone : mirrors s = false) (hstays : (gal s sid.gallery).bind (·.migration) = none) : (gal (sealFar sid key false s).2 sid.gallery).bind (·.migration) = none := by
  obtain ⟨f, hf, heq | heq⟩ := sealFar_effect (sid := sid) (key := key) halone <;> rw [heq]
  · rw [gal_updGal, if_pos rfl]
    cases hx : gal s sid.gallery with
    | none => rfl
    | some x => rw [hx] at hstays; exact (hf x).trans hstays
  · exact hstays

theorem frame_sealFar (halone : mirrors s = false) : Frame [.vit] s (sealFar sid key false s).2 := by
  obtain ⟨f, -, heq | heq⟩ := sealFar_effect (sid := sid) (key := key) halone <;> rw [heq]
  · exact frame_updGal ..
  · exact .refl ..

/-- What the other module sees of the flow opened for it. -/
def flowView (f : Flow) : StreamId × Nat × Nat × Bool × Bool × List Nat := (f.sid, f.next, f.rel, f.remote, f.sealed, f.openers)

theorem openRemote_flow {fi src : Nat} (hroom : docentFlows s < 65536) (hfree : lowestFree s.doc.flows 65536 = some fi) (hstays : (gal s sid.gallery).bind (·.migration) = none) :
    Frame [.doc] s (openRemote sid base key src s) ∧ (openRemote sid base key src s).doc.descs = s.doc.descs ∧
    (mget (openRemote sid base key src s).doc.flows fi).map flowView = some (sid, base, base, true, key.isSome, [src]) := by
  rw [openRemote_opens hroom hfree hstays]
  refine ⟨frame_of_doc rfl, rfl, ?_⟩
  show (mget (mset _ fi _) fi).map _ = _
  rw [mget_mset_same]
  rfl

end

theorem commandArrives_of_known {src fi : Nat} {sid : StreamId} {frame : Bytes} {a : Option Answer} {s : State} (hknown : flowOf s sid = some fi) (hloan : fromLoan s sid = false) :
    commandArrives src sid frame a s = offerWork (placeFrame fi
      { frame := frame, large := decide (frame.length > 512), commitAt := s.now, admitAt := s.now, askers := if a.isSome then [] else [src], far := a } s) := by
  unfold commandArrives
  dsimp only
  rw [show (if (flowOf s sid).isSome = true then s else openRemote sid (hdrSeq frame) none src s) = s from if_pos (by rw [hknown]; rfl), hknown]
  dsimp only
  rw [hloan]
  exact rfl

theorem docentFlows_of_admits {s : State} {g fn i base : Nat} {key : Option Nat} (hadmits : galleryRefuses s g fn i base key = false) (hg : (gal s g).isSome = true) : docentFlows s < 65536 := by
  simp only [galleryRefuses, Bool.or_eq_false_iff, hg, Bool.true_and, decide_eq_false_iff_not, not_le] at hadmits
  exact hadmits.2

/-- A flow is open here for a stream of another module, and that module knows. -/
theorem opened_effect {h : LinkHdr} {src fi base : Nat} {sid : StreamId} {key : Option Nat} {r : OpenReply} {s : State} (halone : mirrors s = false) (hroom : docentFlows s < 65536)
    (hfree : lowestFree s.doc.flows 65536 = some fi) (hstays : (gal s sid.gallery).bind (·.migration) = none) :
    let t := replyOpen src sid r (passOn h 2 (.forward sid (.opens base key)) (openRemote sid base key src (sealFar sid key false s).2))
    Frame [.doc, .pair, .vit] s t ∧ t.doc.descs = s.doc.descs ∧ (mget t.doc.flows fi).map flowView = some (sid, base, base, true, key.isSome, [src]) ∧ t.vit = (sealFar sid key false s).2.vit := by
  have hseal := frame_sealFar (sid := sid) (key := key) halone
  have hstays' := sealFar_stays (sid := sid) (key := key) halone hstays
  generalize (sealFar sid key false s).2 = u at hseal hstays' ⊢
  obtain ⟨hopen, hdescs, hview⟩ := openRemote_flow (sid := sid) (base := base) (key := key) (src := src) (s := u) (by rw [docentFlows, hseal.doc]; exact hroom) (by rw [hseal.doc]; exact hfree) hstays'
  have hsent := (frame_passOn h 2 (.forward sid (.opens base key)) (openRemote sid base key src u)).trans (frame_replyOpen src sid r _)
  refine ⟨(hseal.mono.trans hopen.mono).trans hsent.mono, ?_, ?_, ?_⟩
  · rw [hsent.doc, hdescs, hseal.doc]
  · rw [hsent.doc, hview]
  · rw [hsent.vit, hopen.vit]

/-! The stream's last window ends it. -/

theorem closesArrive_of_others {src fi m : Nat} {rest : List Nat} {sid : StreamId} {fl : Flow} {s : State} (hknown : flowOf s sid = some fi) (hfl : mget s.doc.flows fi = some fl)
    (hothers : fl.openers.filter (· != src) = m :: rest) : closesArrive src sid s = updFlow fi (fun f => { f with openers := f.openers.filter (· != src) }) s := by
  have hleft : (mget (updFlow fi (fun f => { f with openers := f.openers.filter (· != src) }) s).doc.flows fi).map (·.openers) = some (m :: rest) := by
    rw [show mget (updFlow fi _ s).doc.flows fi = _ from mget_malter .., if_pos rfl, hfl]
    exact congrArg some hothers
  unfold closesArrive
  rw [hknown]
  exact if_neg (by rw [hleft]; exact List.cons_ne_nil m rest)

/-! The response returns, or the route changes. -/

theorem forwardRsp_of_here {h : LinkHdr} {sid : StreamId} {q : Nat} {r : Resp} {far : FarFlags} {s : State} (hh : ForHere h s) :
    (∀ o, far.opened = some o → exec (.forwardRsp h sid q r far) s = .next (openReplies sid o (received h s))) ∧
    (far.opened = none → exec (.forwardRsp h sid q r far) s = .next (offerWork (forwardReturns sid q r far (received h s)))) := by
  refine ⟨fun o ho => congrArg Host.Outcome.next ((receiveFrame_of_here hh).trans ?_), fun ho => congrArg Host.Outcome.next ((receiveFrame_of_here hh).trans ?_)⟩ <;> rw [ho]

theorem forwardReturns_of_none {sid : StreamId} {q : Nat} {r : Resp} {far : FarFlags} {s : State} (hnone : forwardedAt s sid q = none) : forwardReturns sid q r far s = s := by
  unfold forwardReturns
  rw [hnone]

/-- A forwarded command with its home's response. -/
def answeredFar (q : Nat) (r : Resp) (far : FarFlags) (now : Nat) (d : Desc) : Desc :=
  { d with
    st := .done, resp := some r, forwardAt := none, doneAt := some now, quotaCause := far.cause
    windowRefusal := d.windowRefusal || far.cause != 0 || r.status == Status.sequenceGap
    unsealed := far.unsealed, journaled := bit far.flags 0, crossFed := d.crossFed || bit far.flags 2, assured := bit far.flags 5, unmirrored := bit far.flags 6 }

theorem forwardReturns_of_accepted {sid : StreamId} {q k : Nat} {r : Resp} {far : FarFlags} {d : Desc} {fl : Flow} {s : State} (hat : forwardedAt s sid q = some (k, d))
    (hfl : mget s.doc.flows d.flow = some fl) (hcause : far.cause = 0) (hstatus : r.status ≠ Status.sequenceGap) :
    forwardReturns sid q r far s = releaseAll d.flow (leaveService k (updDesc k (answeredFar q r far s.now) s)) := by
  have hflow : mget (updDesc k (answeredFar q r far s.now) s).doc.flows d.flow = some fl := hfl
  unfold forwardReturns
  rw [hat]
  show (match mget (updDesc k (answeredFar q r far s.now) s).doc.flows d.flow with
    | none => updDesc k (answeredFar q r far s.now) s
    | some fl => _) = _
  rw [hflow]
  exact (congrArg (fun u => releaseAll d.flow (leaveService k u)) ((if_neg hstatus).trans (if_pos hcause)))

theorem forwardRetry_of_none {ticket : Fin 65536} {s : State} (hnone : ∀ d, desc s ticket = some d → d.forwardAt = none) : exec (.forwardRetry ticket) s = .next s := by
  show execForwardRetry ticket s = _
  rw [execForwardRetry]
  cases hd : desc s ticket with
  | none => rfl
  | some d => dsimp only; rw [hnone d hd]

/-- The command as it stands once it has been forwarded again. -/
def forwardedAgain (d : Desc) (now : Nat) : Desc := { d with forwardAt := if d.resp.isSome then none else some (now + 1) }

/-- The state with a command forwarded again. -/
def retried (ticket : Nat) (home : Descriptor) (sid : StreamId) (d : Desc) (s : State) : State :=
  updDesc ticket (fun _ => forwardedAgain (forwardHome home sid d s).1 (forwardHome home sid d s).2.now) (forwardHome home sid d s).2

theorem forwardHome_of_far {home : Descriptor} {sid : StreamId} {d : Desc} {s : State} (hfar : outOfReach s home = true) : forwardHome home sid d s = (answeredWith Status.outOfReach d s.now, s) := if_pos hfar

theorem forwardHome_of_near {home : Descriptor} {sid : StreamId} {d : Desc} {s : State} (hnear : outOfReach s home = false) :
    forwardHome home sid d s = ({ d with forwardAt := some s.now, forwarded := true }, sendTo 2 (homeModule s home) (.forward sid (.command d.frame none)) s) :=
  if_neg (by rw [hnear]; exact Bool.false_ne_true)

theorem retried_effect {ticket : Nat} {home : Descriptor} {sid : StreamId} {d : Desc} {s : State} (hd : desc s ticket = some d) : Frame [.pair, .doc] s (retried ticket home sid d s) ∧
    (outOfReach s home = false → d.resp = none → desc (retried ticket home sid d s) ticket = some { d with forwardAt := some (s.now + 1), forwarded := true }) ∧
    (outOfReach s home = true → (desc (retried ticket home sid d s) ticket).map (fun x => (x.st, x.resp, x.forwardAt)) = some (.done, some (statusOnly Status.outOfReach), none)) ∧
    ∀ n, n ≠ ticket → desc (retried ticket home sid d s) n = desc s n := by
  have hsent := frame_forwardHome home sid d s
  have hagain : desc (retried ticket home sid d s) ticket = some (forwardedAgain (forwardHome home sid d s).1 s.now) := by
    rw [retried, desc_updDesc_same, hsent.desc, hsent.now, hd]
    rfl
  refine ⟨hsent.mono.trans (frame_updDesc ..).mono, fun hnear hresp => ?_, fun hfar => ?_, fun n hn => ?_⟩
  · rw [hagain, forwardHome_of_near hnear]
    simp [forwardedAgain, hresp]
  · rw [hagain, forwardHome_of_far hfar]
    rfl
  · rw [retried, desc_updDesc_ne hn, hsent.desc]

section
variable {ticket : Fin 65536} {d : Desc} {fl : Flow} {at_ : Nat} {s : State} (hd : desc s ticket = some d) (hat : d.forwardAt = some at_) (hfl : mget s.doc.flows d.flow = some fl)
include hd hat hfl

theorem forwardRetry_of_early (hearly : s.pair.routeChangedAt < at_) : exec (.forwardRetry ticket) s = .next s := by
  show execForwardRetry ticket s = _
  rw [execForwardRetry, hd]
  dsimp only
  rw [hat, hfl]
  exact if_pos hearly

theorem forwardRetry_of_due {home : Descriptor} (hdue : at_ ≤ s.pair.routeChangedAt) (hhome : homeOf s fl.sid.gallery = some home) : exec (.forwardRetry ticket) s =
    .next (releaseAll d.flow (retried ticket home fl.sid d (advanceTo (s.pair.routeChangedAt + 50000) s))) := by
  have hhome' : homeOf (advanceTo (s.pair.routeChangedAt + 50000) s) fl.sid.gallery = some home := hhome
  show execForwardRetry ticket s = _
  rw [execForwardRetry, hd]
  dsimp only
  rw [hat, hfl]
  dsimp only
  rw [if_neg (by omega), hhome']
  rfl

end

/-- Settles O48. -/
theorem forwardedCommands : Obligations.ForwardedCommands := by
  unfold Obligations.ForwardedCommands
  refine ⟨fun h sid body s hh => forward_of_misdirected hh, fun h sid frame base key s hh hhere hgone => ?_, fun h sid frame ans base fi key s hh hhere hhome hknown => ⟨fun hloan => ?_, fun fl hfl => ?_,
    fun fl m rest halone hfl hothers => ?_⟩, fun h sid base key s hh hrole hhome hnew => ⟨fun hrefuses => ?_, fun fi hadmits halone hstays hfree => ?_⟩,
    fun h sid base fi key s hh hrole hhere hhome hnew hroom hstays hfree => ?_, fun h sid q flags cause uns r s hh => ⟨fun o => (forwardRsp_of_here hh).1 o rfl, fun hnone => ?_, fun k d fl hat hd hfl hcause hstatus => ?_⟩,
    fun ticket d fl at_ home s hd hat hfl => ⟨forwardRetry_of_early hd hat hfl, fun hdue hhome => ?_⟩, fun ticket s => forwardRetry_of_none⟩
  · obtain ⟨hcommand, hopens, hcloses⟩ := forwardArrives_of_gone (h := h) (s := received h s) hgone
    exact ⟨(forward_of_here hh hhere).trans (congrArg Host.Outcome.next (hcommand frame)), (forward_of_here hh hhere).trans (congrArg Host.Outcome.next (hopens base key)),
      (forward_of_here hh hhere).trans (congrArg Host.Outcome.next hcloses)⟩
  · obtain ⟨hcommand, -, -⟩ := forwardArrives_of_home (h := h) (s := received h s) hhome
    exact (forward_of_here hh hhere).trans (congrArg Host.Outcome.next ((hcommand frame ans).trans (commandArrives_of_known (s := received h s) hknown hloan)))
  · obtain ⟨-, hopens, -⟩ := forwardArrives_of_home (h := h) (s := received h s) hhome
    obtain ⟨hframe, hflow, hdescs⟩ := opensArrive_joins_effect (h := h) (base := base) (key := key) (s := received h s) hknown hfl
    have hall : Frame [.doc, .pair] s (opensArrive h sid base key (received h s)) := ((frame_received h s).mono).trans hframe
    exact ⟨_, (forward_of_here hh hhere).trans (congrArg Host.Outcome.next (hopens base key)), by simpa using hall.record, hflow, hdescs⟩
  · obtain ⟨-, -, hcloses⟩ := forwardArrives_of_home (h := h) (s := received h s) hhome
    rw [passOn_of_alone (s := received h s) halone, closesArrive_of_others (s := received h s) hknown hfl hothers] at hcloses
    refine ⟨_, (forward_of_here hh hhere).trans (congrArg Host.Outcome.next hcloses), rfl, ?_, rfl⟩
    rw [show mget (updFlow fi _ (received h s)).doc.flows fi = _ from mget_malter .., if_pos rfl, show mget (received h s).doc.flows fi = some fl from hfl]
    exact congrArg (fun l => some { fl with openers := l }) hothers
  · have hhere : isMisdirected s h = false := by simp [isMisdirected, hrole]
    obtain ⟨-, hopens, -⟩ := forwardArrives_of_home (h := h) (s := received h s) hhome
    refine (forward_of_here hh hhere).trans (congrArg Host.Outcome.next ((hopens base key).trans (opensArrive_refused (s := received h s) hrole hnew ?_)))
    rw [galleryRefuses_received, hrefuses]
  · have hhere : isMisdirected s h = false := by simp [isMisdirected, hrole]
    obtain ⟨-, hopens, -⟩ := forwardArrives_of_home (h := h) (s := received h s) hhome
    have hroom : docentFlows s < 65536 := docentFlows_of_admits hadmits (gal_of_homed hhome)
    have hact := (hopens base key).trans (opensArrive_opens (s := received h s) hrole hnew ((galleryRefuses_received ..).trans hadmits))
    obtain ⟨hframe, hdescs, hview, hvit⟩ := opened_effect (h := h) (src := h.src) (sid := sid) (base := base) (key := key) (r := .accepted (sealFar sid key false (received h s)).1) (s := received h s) halone hroom hfree hstays
    have hall := ((frame_received h s).mono (qs := [.doc, .pair, .vit])).trans hframe
    refine ⟨_, (forward_of_here hh hhere).trans (congrArg Host.Outcome.next hact), by simpa using hall.record, hdescs, hview, fun hkey => ?_, fun k r x hkey hr hx => ?_⟩
    · rw [hvit, hkey]
      rfl
    · rw [gal, hvit, hkey]
      exact sealFar_some (s := received h s) halone hr hx
  · obtain ⟨-, hopens, -⟩ := forwardArrives_of_home (h := h) (s := received h s) hhome
    obtain ⟨hframe, hdescs, hview⟩ := openRemote_flow (sid := sid) (base := base) (key := key) (src := h.src) (s := received h s) hroom hfree hstays
    exact ⟨_, (forward_of_here hh hhere).trans (congrArg Host.Outcome.next ((hopens base key).trans (opensArrive_follows (s := received h s) hrole hnew))), by simpa using hframe.record, hdescs, hview⟩
  · exact ((forwardRsp_of_here hh).2 rfl).trans (congrArg (fun u => Host.Outcome.next (offerWork u)) (forwardReturns_of_none (s := received h s) hnone))
  · have hwait := desc_updDesc_same k (answeredFar q r ⟨flags, cause, uns, none⟩ s.now) (received h s)
    rw [show desc (received h s) k = some d from hd] at hwait
    refine ⟨_, ((forwardRsp_of_here hh).2 rfl).trans (congrArg (fun u => Host.Outcome.next (offerWork u)) (forwardReturns_of_accepted (s := received h s) hat hfl hcause hstatus)), rfl, hwait.trans ?_, fun n hn => desc_updDesc_ne hn ..⟩
    simp [answeredFar, hcause, hstatus]
  · obtain ⟨hframe, hnear, hfar, hothers⟩ := retried_effect (ticket := ticket) (home := home) (sid := fl.sid) (s := advanceTo (s.pair.routeChangedAt + 50000) s) hd
    refine ⟨_, forwardRetry_of_due hd hat hfl hdue hhome, late_record hframe, fun hreach hresp => ?_, fun hreach => ?_, hothers⟩
    · rw [hframe.now] at hreach ⊢
      exact hnear hreach hresp
    · rw [hframe.now] at hreach
      exact hfar hreach

end Sys2Proof.Machine

/-!
PROOFS, part 48: copies of gallery state, and loans with their deltas and their currency.
-/

namespace Sys2Proof.Machine

set_option Elab.async false

open Sys2Proof.Safety

/-! Frames that carry gallery state. -/

section
variable {h : LinkHdr} {body : FrameBody} {act : State → State} {s : State}

theorem readState_of_barred (hbarred : readsState s h = false ∨ ¬ Brings s h.port) : readState h act s = s := by
  unfold readState
  obtain hreads | hbrings := hbarred
  · exact if_neg (by rw [hreads]; exact Bool.false_ne_true)
  · by_cases hreads : readsState s h = true
    · exact (if_pos hreads).trans (if_neg hbrings)
    · exact if_neg hreads

theorem readState_of_reads (hreads : readsState s h = true) (hbrings : Brings s h.port) : readState h act s = act s := (if_pos hreads).trans (if_pos hbrings)

theorem whenWritable_of_warning (hwarning : s.pow.failWarning = true) : whenWritable h body act s = { s with pair := { s.pair with heldFrames := s.pair.heldFrames ++ [(h, body)] } } :=
  if_pos hwarning

theorem whenWritable_of_writable (hwritable : s.pow.failWarning = false) : whenWritable h body act s = act s := if_neg (by rw [hwritable]; exact Bool.false_ne_true)

theorem readsState_received (g : LinkHdr) : readsState (received g s) h = readsState s h := rfl

end

section
variable {h : LinkHdr} {s : State} (hh : ForHere h s)
include hh

theorem stateData_of_here (item : CopyItem) : exec (.stateData h item) s =
    .next (readState h (whenWritable h (.stateData item) (fun s => offerWork (arriveItem item (passOn h 3 (.stateData item) s)))) (received h s)) :=
  congrArg Host.Outcome.next (receiveFrame_of_here hh)

theorem stateEnd_of_here (hwritable : s.pow.failWarning = false) (halone : mirrors s = false) : exec (.stateEnd h) s = .next (offerWork (stateEnds h.gallery (received h s))) := by
  have hpass := passOn_of_alone (h := h) (cls := 3) (body := .stateEnd h.gallery) (s := received h s) halone
  refine congrArg Host.Outcome.next ((receiveFrame_of_here hh).trans ((whenWritable_of_writable (s := received h s) hwritable).trans ?_))
  rw [hpass]

theorem loanDelta_of_here {b : Delta} (hreads : readsState s h = true) (hbrings : Brings s h.port) (hwritable : s.pow.failWarning = false) (halone : mirrors s = false) :
    exec (.loanDelta h b) s = .next (offerWork (loanDeltaArrives h.src h.gallery b (received h s))) := by
  have hpass := passOn_of_alone (h := h) (cls := 1) (body := .loanDelta h.gallery b) (s := received h s) halone
  refine congrArg Host.Outcome.next ((receiveFrame_of_here hh).trans ((readState_of_reads (s := received h s) hreads hbrings).trans
    ((whenWritable_of_writable (s := received h s) hwritable).trans ?_)))
  rw [hpass]

theorem loanAck_of_here {n : Nat} (hreads : readsState s h = true) (hbrings : Brings s h.port) : exec (.loanAck h n) s = .next (offerWork (loanAckArrives h.gallery h.src n (received h s))) :=
  congrArg Host.Outcome.next ((receiveFrame_of_here hh).trans (readState_of_reads (s := received h s) hreads hbrings))

theorem currency_of_here {n : Nat} (halone : mirrors s = false) : exec (.currency h n) s = .next (currencyArrives h.gallery n (received h s)) := by
  have hpass := passOn_of_alone (h := h) (cls := 1) (body := .currency h.gallery n) (s := received h s) halone
  refine congrArg Host.Outcome.next ((receiveFrame_of_here hh).trans ?_)
  rw [hpass]

end

/-! What a copy carries. -/

section
variable {s : State}

theorem frame_discardWhere (dead : CacheEntry → Bool) (s : State) : Frame [.vit] s (discardWhere dead s) := frame_of_vit rfl

theorem gal_discardWhere (dead : CacheEntry → Bool) (s : State) (g : Nat) : gal (discardWhere dead s) g = gal s g := rfl

theorem gal_touchVitrine (s : State) (g : Nat) : gal (touchVitrine s) g = gal s g := rfl

/-- A gallery with a record in its slot. -/
def recordPut (slot : Nat) (v : VRecord) (x : Gallery) : Gallery :=
  { x with records := mset x.records slot v, writes := mset x.writes slot (mgetD x.writes slot 0 + 1), damaged := x.damaged.filter (· != slot) }

theorem gal_replaceRecord {g slot : Nat} {v : VRecord} {x : Gallery} (hx : gal s g = some x) : gal (replaceRecord g slot (some v) s) g = some (recordPut slot v x) := by
  have hput : gal (putRecordAt g slot (some v) s) g = _ := (gal_touchVitrine ..).trans (gal_updGal_same _ (((frame_noteWrite g slot s).gal g).trans hx))
  exact gal_updGal_same _ hput

theorem arriveItem_vrecord {g n : Nat} {v : VRecord} {x : Gallery} (hx : gal s g = some x) : gal (arriveItem (.vrecord g n (some v)) s) g = some (recordPut n v x) := by
  show gal (replaceRecord g n (some v) (match (gal s g).bind (fun x => recordAt x n) with
    | some o => discardRecord g n o.generation s
    | none => s)) g = _
  apply gal_replaceRecord
  split
  · exact hx
  · exact hx

theorem arriveItem_cut {sid : StreamId} {q : Nat} {x : Gallery} (hx : gal s sid.gallery = some x) (hfn : sid.fn ≠ 0xFFFF) :
    gal (arriveItem (.cut sid q) s) sid.gallery = some { x with cutKnown := true, cuts := mset x.cuts (65536 * sid.fn + sid.stream) q } := by
  refine (gal_updGal_same _ hx).trans ?_
  rw [if_neg hfn]

/-- What an accepted frame has changed in a gallery, and what this module then says of it. -/
theorem told_record (h : LinkHdr) (cls dst g : Nat) (body : FrameBody) (f : Gallery → Gallery) (s : State) : sendTo cls dst body (updGal g f (received h s)) =
    { s with vit := (sendTo cls dst body (updGal g f (received h s))).vit, pair := (sendTo cls dst body (updGal g f (received h s))).pair } := by
  have hframe : Frame [.vit, .pair] s (sendTo cls dst body (updGal g f (received h s))) := ((frame_received h s).mono).trans ((frame_updGal ..).mono.trans (frame_sendTo ..).mono)
  simpa using hframe.record

/-! The end of a copy. -/

section
variable {g : Nat} {x : Gallery} (hx : gal s g = some x)
include hx

theorem stateEnds_of_loan {c : LoanCopy} (hloan : x.loanCopy = some c) :
    stateEnds g s = sendTo 1 c.home (.loanAck g c.applied) (updGal g (fun x => { x with loanCopy := some { c with suspended := false, lastCurrency := s.now } }) s) := by
  unfold stateEnds
  rw [hx]
  dsimp only
  rw [hloan]

theorem stateEnds_of_arriving (hown : x.loanCopy = none) (harriving : x.arriving = true) : stateEnds g s = updGal g (fun x => { x with arriving := false }) s := by
  unfold stateEnds
  rw [hx]
  dsimp only
  rw [hown]
  exact if_pos harriving

theorem stateEnds_of_arrived (hown : x.loanCopy = none) (harrived : x.arriving = false) : stateEnds g s = updGal g (fun x => { x with oldHome := none, cuts := [] }) s := by
  unfold stateEnds
  rw [hx]
  dsimp only
  rw [hown]
  exact if_neg (by rw [harrived]; exact Bool.false_ne_true)

end

/-! Deltas and currency of a loan. -/

section
variable {src g : Nat} {b : Delta} {c : LoanCopy} (hc : (gal s g).bind (·.loanCopy) = some c)
include hc

theorem loanDeltaArrives_of_old (hold : b.number ≤ c.applied) : loanDeltaArrives src g b s = sendTo 1 src (.loanAck g b.number) s := by
  unfold loanDeltaArrives
  rw [hc]
  exact if_pos hold

theorem loanDeltaArrives_of_early (hearly : c.applied + 1 < b.number) : loanDeltaArrives src g b s = s := by
  unfold loanDeltaArrives
  rw [hc]
  exact (if_neg (by omega)).trans (if_pos (by omega))

/-- The loan's copy once a delta has been applied at a time. -/
def deltaTaken (n now : Nat) (c : LoanCopy) : LoanCopy := { c with applied := n, suspended := c.suspended && (decide (now ≥ c.lastCurrency + 100000) || decide (n < c.named)) }

theorem loanDeltaArrives_of_next (hnext : b.number = c.applied + 1) (hempty : b.changes = []) : loanDeltaArrives src g b s =
    sendTo 1 src (.loanAck g b.number) (updGal g (fun x => { x with loanCopy := some (deltaTaken b.number s.now c) }) s) := by
  unfold loanDeltaArrives
  rw [hc]
  refine (if_neg (by omega)).trans ((if_neg (by omega)).trans ?_)
  rw [hempty]
  rfl

end

theorem currencyArrives_of_loan {g n : Nat} {c : LoanCopy} (hc : (gal s g).bind (·.loanCopy) = some c) :
    currencyArrives g n s = updGal g (fun x => { x with loanCopy := some { c with named := n, lastCurrency := s.now, suspended := decide (c.applied < n) } }) s := by
  unfold currencyArrives
  rw [hc]

theorem sent_sendFrame (port cls dst : Nat) (relayed : Option (Nat × Nat)) (e : Bool) (body : FrameBody) (s : State) : s.pair.sent <+: (sendFrame port cls dst relayed e body s).pair.sent := by
  unfold sendFrame
  split
  · exact List.prefix_rfl
  · exact List.prefix_append ..

theorem sent_sendTo (cls dst : Nat) (body : FrameBody) (s : State) : s.pair.sent <+: (sendTo cls dst body s).pair.sent := by
  unfold sendTo
  split
  · split
    · exact sent_sendFrame ..
    · split
      · exact List.prefix_rfl
      · exact sent_sendFrame ..
  · exact List.prefix_rfl

/-- Frames have been sent, and nothing but the link's state has changed. -/
def SentMore (s t : State) : Prop := Frame [.pair] s t ∧ s.pair.sent <+: t.pair.sent

namespace SentMore

theorem refl (s : State) : SentMore s s := ⟨Frame.refl _ s, List.prefix_rfl⟩

theorem trans {s t u : State} (h : SentMore s t) (g : SentMore t u) : SentMore s u := ⟨h.1.trans g.1, h.2.trans g.2⟩

theorem foldl {α : Type} {f : State → α → State} (hf : ∀ s x, SentMore s (f s x)) (l : List α) (s : State) : SentMore s (l.foldl f s) := by
  induction l generalizing s with
  | nil => exact refl s
  | cons x rest ih => exact (hf s x).trans (ih _)

end SentMore

/-- The latest delta is named to every loan of a gallery. -/
def currencyOf (s : State) (p : Nat × Gallery) : State := p.2.loans.foldl (fun s l => if l.2.copied then sendTo 1 l.1 (.currency p.1 p.2.loanSeq) s else s) s

theorem sentMore_currencyOf (s : State) (p : Nat × Gallery) : SentMore s (currencyOf s p) := by
  refine .foldl (fun s l => ?_) _ s
  split
  · exact ⟨frame_sendTo .., sent_sendTo ..⟩
  · exact .refl s

theorem currencyDue_of_silent (hsilent : speaksHome s = false) : exec .currencyDue s = .next s := congrArg Host.Outcome.next (if_pos (by rw [hsilent]; rfl))

theorem currencyDue_of_home (hspeaks : speaksHome s = true) : exec .currencyDue s = .next (s.vit.galleries.foldl currencyOf s) := congrArg Host.Outcome.next (if_neg (by rw [hspeaks]; decide))

theorem loanCurrencyTimeout_of_none {g : Nat} (hnone : (gal s g).bind (·.loanCopy) = none) : exec (.loanCurrencyTimeout g) s = .next s := by
  show execLoanCurrencyTimeout g s = _
  rw [execLoanCurrencyTimeout, hnone]

theorem loanCurrencyTimeout_of_loan {g : Nat} {c : LoanCopy} (hc : (gal s g).bind (·.loanCopy) = some c) :
    exec (.loanCurrencyTimeout g) s = .next (updGal g (fun x => { x with loanCopy := some { c with suspended := true } }) (advanceTo (c.lastCurrency + 100000) s)) := by
  show execLoanCurrencyTimeout g s = _
  rw [execLoanCurrencyTimeout, hc]

/-! Fences that wait for loans. -/

/-- A command waits for some loans no longer. -/
def waitsLess (ms : List Nat) (d : Desc) : Desc := { d with loanWait := d.loanWait.filter (fun m => !ms.contains m) }

theorem waitsLess_one (m : Nat) (d : Desc) : waitsLess [m] d = { d with loanWait := d.loanWait.filter (· != m) } := by
  have hother : ∀ k, (!List.contains [m] k) = (k != m) := fun k => Bool.eq_iff_iff.mpr (by simp)
  simp only [waitsLess, hother]

theorem waitsLess_again (ms : List Nat) (d : Desc) : waitsLess ms (waitsLess ms d) = waitsLess ms d := by
  simp [waitsLess, List.filter_filter]

theorem waitsLess_of_free {ms : List Nat} {d : Desc} (hfree : d.loanWait.any ms.contains = false) : waitsLess ms d = d := by
  have hall : d.loanWait.filter (fun m => !ms.contains m) = d.loanWait := by
    rw [List.filter_eq_self]
    intro m hm
    rw [List.any_eq_false] at hfree
    simpa using hfree m hm
  unfold waitsLess
  rw [hall]

/-- The commands of a list wait for some loans no longer. -/
def waitsDropped (ms : List Nat) (hit : List (Nat × Desc)) (s : State) : State := hit.foldl (fun s p => updDesc p.1 (waitsLess ms) s) s

theorem desc_waitsDropped (ms : List Nat) (hit : List (Nat × Desc)) (s : State) (k : Nat) :
    desc (waitsDropped ms hit s) k = if k ∈ hit.map (·.1) then (desc s k).map (waitsLess ms) else desc s k := by
  induction hit generalizing s with
  | nil => rfl
  | cons p rest ih =>
    show desc (waitsDropped ms rest (updDesc p.1 (waitsLess ms) s)) k = _
    rw [ih, desc_updDesc]
    by_cases hk : k = p.1
    · subst hk
      rw [if_pos rfl, if_pos (show p.1 ∈ (p :: rest).map (·.1) from List.mem_cons_self ..)]
      split
      · cases desc s p.1 with
        | none => rfl
        | some d => exact congrArg some (waitsLess_again ms d)
      · rfl
    · have hmem : k ∈ (p :: rest).map (·.1) ↔ k ∈ rest.map (·.1) := by simp [hk]
      rw [if_neg hk]
      simp only [hmem]

theorem flows_waitsDropped (ms : List Nat) (hit : List (Nat × Desc)) (s : State) : (waitsDropped ms hit s).doc.flows = s.doc.flows := by
  induction hit generalizing s with
  | nil => rfl
  | cons p rest ih => exact ih (updDesc p.1 (waitsLess ms) s)

theorem mem_of_mget {α : Type} {m : Map α} {k : Nat} {v : α} (h : mget m k = some v) : (k, v) ∈ m := by
  induction m with
  | nil => exact absurd h (by simp [mget])
  | cons p rest ih =>
    obtain ⟨a, w⟩ := p
    by_cases ha : a = k
    · simp only [mget, if_pos ha, Option.some.injEq] at h
      simp [ha, h]
    · simp only [mget, if_neg ha] at h
      exact List.mem_cons_of_mem _ (ih h)

/-- The commands that wait for some loans. -/
def waiting (which : Desc → Bool) (ms : List Nat) (s : State) : List (Nat × Desc) := s.doc.descs.filter (fun p => which p.2 && p.2.loanWait.any ms.contains)

theorem dropWaits_after (which : Desc → Bool) (ms : List Nat) (s : State) : Frame [.pair] (waitsDropped ms (waiting which ms s) s) (dropWaits which ms s) := by
  unfold dropWaits
  refine .foldl (fun a p => ?_) _ _
  split
  · exact .ite (fun _ => frame_sendPartner ..) (fun _ => .refl ..)
  · exact .refl ..

section
variable {which : Desc → Bool} {ms : List Nat}

theorem flows_dropWaits : (dropWaits which ms s).doc.flows = s.doc.flows := by rw [(dropWaits_after ..).doc, flows_waitsDropped]

theorem desc_dropWaits_of_which {k : Nat} {d : Desc} (hd : desc s k = some d) (hwhich : which d = true) : desc (dropWaits which ms s) k = some (waitsLess ms d) := by
  rw [(dropWaits_after ..).desc, desc_waitsDropped, hd]
  by_cases hhit : k ∈ (waiting which ms s).map (·.1)
  · rw [if_pos hhit]
    rfl
  · rw [if_neg hhit]
    have hfree : d.loanWait.any ms.contains = false := by
      rw [← Bool.not_eq_true]
      intro hany
      exact hhit (List.mem_map.mpr ⟨(k, d), List.mem_filter.mpr ⟨mem_of_mget hd, by simp only [hwhich, hany]; rfl⟩, rfl⟩)
    rw [waitsLess_of_free hfree]

theorem desc_dropWaits_of_free {k : Nat} {d : Desc} (hd : desc s k = some d) (hfree : d.loanWait = []) : desc (dropWaits which ms s) k = some d := by
  rw [(dropWaits_after ..).desc, desc_waitsDropped, hd]
  split
  · exact congrArg some (waitsLess_of_free (by rw [hfree]; rfl))
  · rfl

theorem resp_dropWaits (k : Nat) : (desc (dropWaits which ms s) k).map (·.resp) = (desc s k).map (·.resp) := by
  rw [(dropWaits_after ..).desc, desc_waitsDropped]
  split
  · rw [Option.map_map]
    rfl
  · rfl

end

end

/-! Acknowledgements of a loan's deltas. -/

/-- The loan as an acknowledgement leaves it. -/
def loanAcked (m n : Nat) (l : Loan) (x : Gallery) : Gallery :=
  { x with loans := mset x.loans m { l with copied := true, acked := max l.acked n, suspended := l.suspended && decide (n < x.loanSeq) } }

section
variable {g m n : Nat} {x : Gallery} {l : Loan} {s : State} (hx : gal s g = some x) (hl : mget x.loans m = some l)
include hx hl

/-- The commands whose fence a delta of a gallery passed. -/
def fencedBy (n g : Nat) (d : Desc) : Bool := d.loanSeq ≤ n ∧ d.loanGallery = g

theorem loanAckArrives_eq : loanAckArrives g m n s = dropWaits (fencedBy n g) [m] (match creatingLoan s g m with
    | some t => answerFn t (okResp []) [.loan g m (some l.partner)] (updGal g (fun y => { y with loans := mset y.loans m { l with
        copied := true, acked := max l.acked n, suspended := l.suspended && decide (n < x.loanSeq) } }) s)
    | none => updGal g (fun y => { y with loans := mset y.loans m { l with
        copied := true, acked := max l.acked n, suspended := l.suspended && decide (n < x.loanSeq) } }) s) := by
  unfold loanAckArrives
  rw [hx]
  dsimp only [Option.bind_some]
  rw [hl]
  rfl

end

/-- Settles O49. -/
theorem copiesAndLoans : Obligations.CopiesAndLoans := by
  unfold Obligations.CopiesAndLoans
  refine ⟨fun h item s hh => ⟨fun hbarred => ?_, fun hreads hbrings hwarning => ?_, fun hreads hbrings hwritable halone => ?_⟩, fun g n r x s hx hr => ?_, fun sid q x s hx hfn => arriveItem_cut hx hfn,
    fun h x s hh hwritable halone hx => ⟨fun c hc => ?_, fun hown harriving => ?_, fun hown harrived => ?_⟩, fun h b c s hh hreads hbrings hwritable halone hc => ⟨fun hold => ?_, fun hearly => ?_, fun hnext hempty => ?_⟩,
    fun h n x l s hh hreads hbrings hx hl => ⟨fun hnone => ?_, fun k d hcreating hd => ?_⟩, fun h n x c s hh halone hx hc => ?_, fun s => ⟨currencyDue_of_silent, ?_⟩, fun g m x l s hspeaks hone hloans hcopied => ?_,
    fun g x c s hx hc => ?_, fun g s => loanCurrencyTimeout_of_none, fun ticket d s hd => ⟨fun hfree => ?_, fun hwaits => ?_⟩⟩
  · exact (stateData_of_here hh item).trans (congrArg Host.Outcome.next (readState_of_barred (s := received h s) hbarred))
  · exact (stateData_of_here hh item).trans (congrArg Host.Outcome.next ((readState_of_reads (s := received h s) hreads hbrings).trans (whenWritable_of_warning (s := received h s) hwarning)))
  · rw [stateData_of_here hh item, readState_of_reads (s := received h s) hreads hbrings, whenWritable_of_writable (s := received h s) hwritable, passOn_of_alone (s := received h s) halone]
  · obtain ⟨v, rfl⟩ := Option.isSome_iff_exists.mp hr
    exact ⟨_, arriveItem_vrecord hx, mget_mset_same .., rfl⟩
  · refine ⟨_, (stateEnd_of_here hh hwritable halone).trans (congrArg (fun u => Host.Outcome.next (offerWork u)) (stateEnds_of_loan (s := received h s) hx hc)), ?_, ?_⟩
    · rw [(frame_sendTo ..).gal]
      exact gal_updGal_same _ hx
    · exact told_record ..
  · exact ⟨_, (stateEnd_of_here hh hwritable halone).trans (congrArg (fun u => Host.Outcome.next (offerWork u)) (stateEnds_of_arriving (s := received h s) hx hown harriving)), gal_updGal_same _ hx⟩
  · exact ⟨_, (stateEnd_of_here hh hwritable halone).trans (congrArg (fun u => Host.Outcome.next (offerWork u)) (stateEnds_of_arrived (s := received h s) hx hown harrived)), gal_updGal_same _ hx⟩
  · exact (loanDelta_of_here hh hreads hbrings hwritable halone).trans (congrArg (fun u => Host.Outcome.next (offerWork u)) (loanDeltaArrives_of_old (s := received h s) hc hold))
  · exact (loanDelta_of_here hh hreads hbrings hwritable halone).trans (congrArg (fun u => Host.Outcome.next (offerWork u)) (loanDeltaArrives_of_early (s := received h s) hc hearly))
  · obtain ⟨x, hx, -⟩ := Option.bind_eq_some_iff.mp hc
    refine ⟨_, (loanDelta_of_here hh hreads hbrings hwritable halone).trans (congrArg (fun u => Host.Outcome.next (offerWork u)) (loanDeltaArrives_of_next (s := received h s) hc hnext hempty)), ?_, ?_⟩
    · exact told_record ..
    · rw [(frame_sendTo ..).gal, gal_updGal_same (s := received h s) _ hx]
      rfl
  · have harrives := loanAckArrives_eq (s := received h s) (n := n) hx hl
    rw [show creatingLoan (received h s) h.gallery h.src = none from hnone] at harrives
    refine ⟨_, (loanAck_of_here hh hreads hbrings).trans (congrArg (fun u => Host.Outcome.next (offerWork u)) harrives), ?_, ?_, flows_dropWaits, fun k d hd hseq hgallery => ?_, fun k d hd hfree => desc_dropWaits_of_free hd hfree⟩
    · have hframe : Frame [.vit, .doc, .pair] s _ := ((frame_received h s).mono).trans (((frame_updGal h.gallery (fun y => { y with loans := mset y.loans h.src { l with
        copied := true, acked := max l.acked n, suspended := l.suspended && decide (n < x.loanSeq) } }) (received h s)).mono).trans (frame_dropWaits (fencedBy n h.gallery) [h.src] _).mono)
      simpa using hframe.record
    · rw [(frame_dropWaits ..).gal]
      exact gal_updGal_same _ hx
    · refine (desc_dropWaits_of_which (which := fencedBy n h.gallery) (d := d) ?_ (by simp [fencedBy, hseq, hgallery])).trans ?_
      · exact hd
      · rw [waitsLess_one]
  · have harrives := loanAckArrives_eq (s := received h s) (n := n) hx hl
    rw [show creatingLoan (received h s) h.gallery h.src = some k from hcreating] at harrives
    refine ⟨_, (loanAck_of_here hh hreads hbrings).trans (congrArg (fun u => Host.Outcome.next (offerWork u)) harrives), ?_⟩
    rw [resp_dropWaits]
    have hdone : desc (updGal h.gallery (fun y => { y with loans := mset y.loans h.src { l with
        copied := true, acked := max l.acked n, suspended := l.suspended && decide (n < x.loanSeq) } }) (received h s)) k = some d := hd
    unfold answerFn
    rw [desc_updDesc_same, hdone]
    rfl
  · have hbind : (gal (received h s) h.gallery).bind (·.loanCopy) = some c := by rw [show gal (received h s) h.gallery = some x from hx]; exact hc
    exact ⟨_, (currency_of_here hh halone).trans (congrArg Host.Outcome.next (currencyArrives_of_loan hbind)), rfl, gal_updGal_same _ hx⟩
  · by_cases hspeaks : speaksHome s = true
    · have hsent : SentMore s (s.vit.galleries.foldl currencyOf s) := .foldl sentMore_currencyOf _ _
      exact ⟨_, currencyDue_of_home hspeaks, by simpa using hsent.1.record, hsent.2⟩
    · exact ⟨s, currencyDue_of_silent (Bool.eq_false_iff.mpr hspeaks), rfl, List.prefix_rfl⟩
  · rw [currencyDue_of_home hspeaks, hone]
    show Host.Outcome.next (currencyOf s (g, x)) = _
    unfold currencyOf
    dsimp only
    rw [hloans]
    exact congrArg Host.Outcome.next (if_pos hcopied)
  · have hbind : (gal s g).bind (·.loanCopy) = some c := by rw [hx]; exact hc
    obtain ⟨hsame, hothers⟩ := updGal_effect (s := advanceTo (c.lastCurrency + 100000) s) (fun x => { x with loanCopy := some { c with suspended := true } }) hx
    exact ⟨_, loanCurrencyTimeout_of_loan hbind, rfl, hsame, hothers⟩
  · show execLoanAckTimeout ticket s = _
    rw [execLoanAckTimeout, hd]
    exact if_pos hfree
  · have hexec : exec (.loanAckTimeout ticket) s = .next (dropWaits (fun x => x.flow == d.flow && x.seq == d.seq) d.loanWait (updGal d.loanGallery
        (fun g => { g with loans := d.loanWait.foldl (fun m x => malter m x (fun l => { l with suspended := true })) g.loans }) (advanceTo (d.loanSentAt + 150000) s))) := by
      show execLoanAckTimeout ticket s = _
      rw [execLoanAckTimeout, hd]
      exact if_neg hwaits
    have hframe : Frame [.vit, .doc, .pair] (advanceTo (d.loanSentAt + 150000) s) _ := ((frame_updGal d.loanGallery
        (fun g => { g with loans := d.loanWait.foldl (fun m x => malter m x (fun l => { l with suspended := true })) g.loans }) (advanceTo (d.loanSentAt + 150000) s)).mono).trans
        (frame_dropWaits (fun x => x.flow == d.flow && x.seq == d.seq) d.loanWait _).mono
    refine ⟨_, hexec, by simpa using hframe.record, (desc_dropWaits_of_which (which := fun x => x.flow == d.flow && x.seq == d.seq) (d := d) ?_ (by simp)).trans ?_, fun k e _ he hfree => desc_dropWaits_of_free he hfree⟩
    · exact hd
    · simp [waitsLess]

end Sys2Proof.Machine

/-!
SUPPORT. What the release and the publication of responses leave standing (14 R340, 13 R330): a key that is erased stays erased, and an event that has latched stays latched.
-/

namespace Sys2Proof.Machine

set_option Elab.async false

/-! Bits that are set. -/

theorem bit_div_succ (v n k : Nat) (h : n < k) : bit v k = bit (v / 2 ^ (n + 1)) (k - (n + 1)) := by
  unfold bit
  rw [Nat.div_div_eq_div_mul, ← Nat.pow_add, show n + 1 + (k - (n + 1)) = k by omega]

theorem bit_add_of_clear {v n k : Nat} (hclear : bit v n ≠ true) (hk : k ≠ n) : bit (v + 2 ^ n) k = bit v k := by
  have heven : v / 2 ^ n % 2 = 0 := by
    have h := Nat.mod_two_eq_zero_or_one (v / 2 ^ n)
    exact h.resolve_right fun hset => hclear (by rw [bit, hset]; rfl)
  rcases Nat.lt_or_gt_of_ne hk with h | h
  · have hsplit : 2 ^ n = 2 ^ k * (2 * 2 ^ (n - k - 1)) := by rw [← Nat.pow_succ', ← Nat.pow_add, show k + (n - k - 1).succ = n by omega]
    unfold bit
    rw [hsplit, Nat.add_mul_div_left _ _ (Nat.two_pow_pos k), Nat.add_mul_mod_self_left]
  · have hhalf : (v + 2 ^ n) / 2 ^ (n + 1) = v / 2 ^ (n + 1) := by
      rw [Nat.pow_succ, ← Nat.div_div_eq_div_mul, ← Nat.div_div_eq_div_mul, Nat.add_div_right _ (Nat.two_pow_pos n)]
      exact Nat.succ_div_of_not_dvd (by omega)
    rw [bit_div_succ _ n k h, bit_div_succ v n k h, hhalf]

theorem bit_setBit_of_bit {v k : Nat} (n : Nat) (h : bit v k = true) : bit (setBit v n true) k = true := by
  by_cases hk : k = n
  · exact hk ▸ bit_setBit ..
  · unfold setBit
    split
    · exact h
    · next hclear => exact (bit_add_of_clear hclear hk).trans h

/-! The relation. -/

/-- The key cache and the working key are empty. -/
def KeysGone (s : State) : Prop := s.vit.cache = [] ∧ s.vit.workingKey = []

/-- Erased keys stay erased, and latched events latched. -/
structure Standing (s t : State) : Prop where
  keys : KeysGone s → KeysGone t
  events : ∀ n, bit s.fab.mevCause n = true → bit t.fab.mevCause n = true

namespace Standing

theorem refl (s : State) : Standing s s := ⟨id, fun _ => id⟩

theorem trans {s t u : State} (h : Standing s t) (g : Standing t u) : Standing s u := ⟨g.keys ∘ h.keys, fun n hn => g.events n (h.events n hn)⟩

theorem foldl {α : Type} {f : State → α → State} (hf : ∀ s x, Standing s (f s x)) (l : List α) (s : State) : Standing s (l.foldl f s) := by
  induction l generalizing s with
  | nil => exact refl s
  | cons x rest ih => exact (hf s x).trans (ih _)

theorem ite {c : Prop} [Decidable c] {s t u : State} (ht : c → Standing s t) (hu : ¬ c → Standing s u) : Standing s (if c then t else u) := by
  split
  · next h => exact ht h
  · next h => exact hu h

/-- What touches neither the endpoint nor the Vitrine. -/
theorem of_frame {ps : List Part} {s t : State} (f : Frame ps s t) (hfab : .fab ∉ ps := by simp) (hvit : .vit ∉ ps := by simp) : Standing s t :=
  ⟨fun h => by rw [KeysGone, f.vit hvit]; exact h, fun n h => by rw [f.fab hfab]; exact h⟩

end Standing

/-! The state's operations. -/

theorem standing_updGal (g : Nat) (f : Gallery → Gallery) (s : State) : Standing s (updGal g f s) := ⟨id, fun _ => id⟩

theorem standing_updWin (fn : Nat) (f : Window → Window) (s : State) : Standing s (updWin fn f s) := ⟨id, fun _ => id⟩

theorem standing_updStrm (fn i : Nat) (f : Stream → Stream) (s : State) : Standing s (updStrm fn i f s) := ⟨id, fun _ => id⟩

theorem standing_sendVector (fn v : Nat) (s : State) : Standing s (sendVector fn v s) := by
  unfold sendVector
  dsimp only
  split <;> exact ⟨id, fun _ => id⟩

theorem standing_latchEvent (n : Nat) (s : State) : Standing s (latchEvent n s) := by
  refine .ite (fun _ => .refl s) (fun _ => ?_)
  have hset : Standing s { s with fab := { s.fab with mevCause := setBit s.fab.mevCause n true } } := ⟨id, fun _ => bit_setBit_of_bit n⟩
  exact .ite (fun _ => hset.trans (standing_sendVector ..)) (fun _ => hset)

theorem standing_dropHolds (t : Nat) (s : State) : Standing s (dropHolds t s) := by
  refine ⟨fun h => ?_, fun n => by rw [(frame_dropHolds t s).fab]; exact id⟩
  have hsame : dropHolds t s = s := if_pos (by rw [h.1]; rfl)
  rw [hsame]
  exact h

theorem standing_freeDesc (t : Nat) (s : State) : Standing s (freeDesc t s) := Standing.trans (.of_frame (frame_of_doc rfl)) (standing_dropHolds ..)

/-! Release. -/

theorem standing_storeMeter (r : MeterRecord) (s : State) : Standing s (storeMeter r s) := by
  unfold storeMeter
  dsimp only
  split
  · exact ⟨id, fun _ => id⟩
  · split
    · exact ⟨id, fun _ => id⟩
    · exact .refl s

theorem standing_makeRecord (id : Nat) (c : Closing) (s : State) : Standing s (makeRecord id c storeMeter s) := by
  unfold makeRecord
  split
  · exact .refl s
  · dsimp only
    split
    · exact ((standing_updGal ..).trans (standing_storeMeter ..)).trans (standing_latchEvent ..)
    · exact standing_updGal ..

theorem standing_closeMinutes (id fuel : Nat) (s : State) : Standing s (closeMinutes id fuel s) := by
  fun_induction closeMinutes id fuel s with
  | case1 s => exact .refl _
  | case2 s fuel h => exact .refl _
  | case3 s fuel c h hm ih => exact ((standing_updGal ..).trans (.ite (fun _ => standing_makeRecord ..) (fun _ => .refl _))).trans ih
  | case4 s fuel c h hm => exact .refl _

theorem standing_closeMinute (id : Nat) (s : State) : Standing s (closeMinute id s) := standing_closeMinutes ..

theorem standing_closeFlows (fis : List Nat) (s : State) : Standing s (closeFlows fis s) :=
  ((Standing.foldl (fun _ _ => .of_frame (frame_tellStream ..)) _ s).trans (.of_frame (frame_of_doc rfl))).trans (.foldl (fun _ _ => standing_closeMinute ..) _ _)

theorem standing_closeRemote (fi : Nat) (s : State) : Standing s (closeRemote fi s) := by
  unfold closeRemote
  split
  · exact .ite (fun _ => standing_closeFlows ..) (fun _ => .refl s)
  · exact .refl s

theorem standing_releaseOne (fi : Nat) (fl : Flow) (t : Nat) (d : Desc) (r : Resp) (s : State) : Standing s (releaseOne fi fl t d r s) := by
  have hmeter : Standing s (if fl.proxy then s else meterRelease fl.sid d r s) := .ite (fun _ => .refl s) (fun _ => standing_updGal ..)
  unfold releaseOne
  dsimp only
  generalize (if fl.proxy then s else meterRelease fl.sid d r s) = a at hmeter ⊢
  have hmirror : Standing s (if paired a && originatedHere fl d && (isUnmirrored s fl d || a.pair.role == .sole) then
      { a with pair := { a.pair with unmirrored := (a.pair.lastDelta, journalOf d fl.sid r) :: a.pair.unmirrored } } else a) :=
    hmeter.trans (.ite (fun _ => .of_frame (frame_of_pair rfl)) (fun _ => .refl a))
  generalize (if paired a && originatedHere fl d && (isUnmirrored s fl d || a.pair.role == .sole) then _ else a) = b at hmirror ⊢
  have hdesc := hmirror.trans (.of_frame (frame_updDesc t (fun _ => { d with st := .released, releaseAt := some b.now, unmirrored := d.unmirrored || isUnmirrored s fl d, term := termNow b }) b))
  split
  · exact (hdesc.trans (standing_updStrm ..)).trans (.of_frame (frame_returnFar ..))
  · exact ((hdesc.trans (.of_frame (frame_returnFar ..))).trans (standing_freeDesc ..)).trans (standing_closeRemote ..)

theorem standing_testCut (fi : Nat) (s : State) : Standing s (testCut fi s) := by
  unfold testCut
  split
  · exact .refl s
  · split
    · exact .refl s
    · refine .ite (fun _ => .refl s) (fun _ => ?_)
      have hcut : Standing s (latchEvent 40 (updFlow fi (fun f => { f with cutReached := true }) s)) := Standing.trans (.of_frame (frame_updFlow ..)) (standing_latchEvent ..)
      dsimp only
      split
      · exact hcut
      · exact hcut.trans (.ite (fun _ => Standing.trans (.of_frame (frame_sendTo ..)) (standing_updGal ..)) (fun _ => .refl _))

theorem standing_releaseFlow (fi fuel : Nat) (s : State) : Standing s (releaseFlow fi fuel s) := by
  induction fuel generalizing s with
  | zero => exact .refl s
  | succ fuel ih =>
    unfold releaseFlow
    split
    · exact .refl s
    · split
      · exact .refl s
      · split
        · exact .refl s
        · exact .ite (fun _ => .refl s) (fun _ =>
            ((standing_releaseOne ..).trans (Standing.trans (.ite (fun _ => .refl _) (fun _ => .of_frame (frame_updFlow ..))) (standing_testCut ..))).trans (ih _))

theorem standing_releaseAll (fi : Nat) (s : State) : Standing s (releaseAll fi s) := by
  unfold releaseAll
  dsimp only
  split
  · exact (standing_releaseFlow ..).trans (standing_closeMinute ..)
  · exact standing_releaseFlow ..

theorem standing_replaceAll (keep : Bool) (st : Nat) (s : State) : Standing s (replaceAll keep st s) :=
  .foldl (fun _ _ => Standing.trans (.of_frame (frame_replaceFlow ..)) (standing_releaseAll ..)) _ s

/-! Publication. -/

theorem standing_latchCause (fn b : Nat) (s : State) : Standing s (latchCause fn b s) := by
  refine .ite (fun _ => .refl s) (fun _ => ?_)
  exact .ite (fun _ => (standing_updWin ..).trans (standing_sendVector ..)) (fun _ => standing_updWin ..)

theorem standing_countPublication (fn : Nat) (s : State) : Standing s (countPublication fn s) :=
  .ite (fun _ => (standing_updWin ..).trans (standing_sendVector ..)) (fun _ => standing_updWin ..)

theorem standing_latchReady (fn i : Nat) (s : State) : Standing s (latchReady fn i s) :=
  (standing_updWin ..).trans (.ite (fun _ => standing_countPublication ..) (fun _ => .refl _))

theorem standing_traceCommand (fn : Nat) (d : Desc) (sid : StreamId) (status : Nat) (s : State) : Standing s (traceCommand fn d sid status s) :=
  Standing.trans (.ite (fun _ => .of_frame (frame_putTrace ..)) (fun _ => .refl s)) (.ite (fun _ => standing_updWin ..) (fun _ => .refl _))

theorem standing_publishNext (fn i : Nat) (s : State) : Standing s (publishNext fn i s) := by
  unfold publishNext
  dsimp only
  split
  · exact .refl s
  · split
    · exact standing_updStrm ..
    · exact standing_updStrm ..
    · split
      · exact ((((standing_updStrm ..).trans (standing_latchReady ..)).trans (.ite (fun _ => standing_latchCause ..) (fun _ => .refl _))).trans (standing_updGal ..)).trans (standing_traceCommand ..)
      · exact standing_updStrm ..

theorem standing_publishStream (fn i fuel : Nat) (s : State) : Standing s (publishStream fn i fuel s) := by
  induction fuel generalizing s with
  | zero => exact .refl s
  | succ fuel ih => exact .ite (fun _ => .refl s) (fun _ => (standing_publishNext ..).trans (ih _))

theorem standing_publishAll (s : State) : Standing s (publishAll s) := .foldl (fun _ _ => .foldl (fun _ _ => standing_publishStream ..) _ _) _ s

/-! Modes, ceremonies and operations. -/

theorem keysGone_of_frame {ps : List Part} {s t : State} (f : Frame ps s t) (h : KeysGone s) (hvit : .vit ∉ ps := by simp) : KeysGone t := by
  rw [KeysGone, f.vit hvit]
  exact h

theorem keysGone_eraseLine (byFatal : Bool) (s : State) : KeysGone (eraseLine byFatal s) := ⟨rfl, rfl⟩

theorem keysGone_destroyLoad {s : State} (h : KeysGone s) : KeysGone (destroyLoad s) := by
  unfold destroyLoad
  split
  · exact h
  · exact h

theorem keysGone_closeCeremony {s : State} (h : KeysGone s) : KeysGone (closeCeremony s) := by
  unfold closeCeremony
  split
  · exact h
  · exact (standing_latchEvent ..).keys (keysGone_destroyLoad (keysGone_of_frame (frame_withMode ..) h))

theorem keysGone_endAllOps {s : State} (h : KeysGone s) : KeysGone (endAllOps s) := h

end Sys2Proof.Machine

/-!
PROOFS, part 50: errors by scope (13 R320 to R331).
-/

namespace Sys2Proof.Machine

set_option Elab.async false

open Sys2Proof.Safety

/-! COMMAND. -/

section
variable {code unit : Nat} {ticket : Fin 65536} {s : State}

theorem exec_commandError (hcode : isCommandCode code = true) : exec (.commandError code ticket unit) s = .next (commandError code ticket unit s) :=
  congrArg Host.Outcome.next (if_pos hcode)

theorem commandError_of_stopped (hmode : s.pow.mode = .vault ∨ s.pow.mode = .tampered ∨ s.pow.mode = .halt) : commandError code ticket unit s = s := by
  refine if_pos ?_
  obtain h | h | h := hmode <;> rw [h] <;> rfl

theorem commandError_of_journal (hmode : s.pow.mode = .service) (hpaired : paired s = true) : commandError 0x24 ticket unit s = moduleError 0x24 s :=
  (if_neg (by rw [hmode]; decide)).trans (if_pos (by rw [hpaired]; rfl))

/-- The first error of a unit is recorded, and then queued behind a handler of higher scope or handled. -/
theorem commandError_of_alone (hmode : s.pow.mode = .service) (hjournal : code = 0x24 → paired s = false) (hunit : unit < 128) (hwing : (wing s (unit / 8)).quarantined = false) (hunits : s.err.byUnit = []) :
    commandError code ticket unit s = if (recordCommandError code ticket unit s).err.active ≥ 2 then
        raiseHolds (flowsOf (recordCommandError code ticket unit s) [ticket.val]) { recordCommandError code ticket unit s with err := { (recordCommandError code ticket unit s).err with
          queued := (recordCommandError code ticket unit s).err.queued ++ [{ code := code, scope := 1, unit := unit, ticket := ticket }] } }
      else handleCommand code ticket unit (recordCommandError code ticket unit s) := by
  have hlt := unitWing_lt (show unit < 176 by omega)
  have hown : unitWing unit = unit / 8 := if_pos hunit
  have hquar : (wing (recordCommandError code ticket unit s) (unitWing unit)).quarantined = false := by rw [wing_recordCommandError, hown, hwing]
  have hmodule : ¬(code = 0x24 && paired s) = true := by
    simp only [Bool.and_eq_true, decide_eq_true_eq, not_and, Bool.not_eq_true]
    exact hjournal
  have hagain : s.err.byUnit.any (fun p => p.1 == unit && decide (s.now < p.2 + 1000000000)) = false := by
    rw [hunits]
    rfl
  unfold commandError
  rw [hmode, if_neg (by decide), if_neg hmodule]
  dsimp only
  rw [if_pos hlt, if_pos hlt, hagain]
  change (if (decide (unitWing unit < 16) && (wing (recordCommandError code ticket unit s) (unitWing unit)).quarantined) = true then _ else _) = _
  rw [if_neg (by simp [hquar]), if_neg (by simp)]
  rfl

theorem frame_recordCommandError (code t unit : Nat) (s : State) : Frame [.err, .cnt] s (recordCommandError code t unit s) :=
  Frame.trans (frame_of_err (s := s) (t := updWingErr (unitWing unit) (fun e => { e with command := sat 0xFFFF (e.command + 1), lastCause := code }) (stampUnit unit s)) rfl |>.mono (qs := [.err, .cnt])) ((frame_countEvent ..).mono)

theorem flowsOf_recordCommandError (ts : List Nat) (t : Nat) : flowsOf (recordCommandError code t unit s) ts = flowsOf s ts := by
  rw [recordCommandError_only]
  rfl

theorem byUnit_recordCommandError (t : Nat) (hunits : s.err.byUnit = []) : (recordCommandError code t unit s).err.byUnit = [(unit, s.now)] := by
  rw [recordCommandError_err]
  show (unit, s.now) :: s.err.byUnit.filter _ = _
  rw [hunits]
  rfl

theorem active_recordCommandError (t : Nat) : (recordCommandError code t unit s).err.active = s.err.active := by
  rw [recordCommandError_err]
  rfl

theorem queued_recordCommandError (t : Nat) : (recordCommandError code t unit s).err.queued = s.err.queued := by
  rw [recordCommandError_err]
  rfl

theorem handleCommand_eq (t : Nat) (u : State) : handleCommand code t unit u =
    offerWork (lowerHolds (flowsOf u [t]) (recoverCommand code t unit (raiseHolds (flowsOf u [t]) (logHandler code 1 unit (commandAt u t) u)))) := rfl

end

/-! WING. -/

section
variable {code w : Nat} {s : State}

theorem wingError_of_retired (hretired : (wing s w).retired = true) : wingError code w s = s := if_pos (by simp [hretired])

variable (hw : w < 16) (hretired : (wing s w).retired = false)
include hw hretired

theorem wingError_of_quarantined (hquar : (wing s w).quarantined = true) : wingError code w s = retireWing w s :=
  (if_neg (by simp [hretired]; omega)).trans (if_pos hquar)

variable (hquar : (wing s w).quarantined = false)
include hquar

theorem wingError_of_behind (hactive : 3 ≤ s.err.active) : wingError code w s = { s with err := { s.err with queued := s.err.queued ++ [{ code := code, scope := 2, unit := w, ticket := 0 }] } } :=
  (if_neg (by simp [hretired]; omega)).trans ((if_neg (by rw [hquar]; decide)).trans (if_pos hactive))

variable (hactive : s.err.active < 3)
include hactive

theorem wingError_of_spare (hspare : 8 < wingsAvailable s) : wingError code w s = quarantineWing code w s :=
  (if_neg (by simp [hretired]; omega)).trans ((if_neg (by rw [hquar]; decide)).trans ((if_neg (by omega)).trans (if_neg (by simp only [minWings]; omega))))

theorem wingError_of_last (hfew : wingsAvailable s ≤ 8) : wingError code w s = moduleError 0x44 (denyAssurance (updWingErr w (fun e => { e with lastCause := code }) s)) :=
  (if_neg (by simp [hretired]; omega)).trans ((if_neg (by rw [hquar]; decide)).trans ((if_neg (by omega)).trans (if_pos hfew)))

end

theorem exec_wingError {code : Nat} {w : Fin 16} {s : State} (hcode : code = 0x06 ∨ code = 0x0A ∨ code = 0x10) : exec (.wingError code w) s = .next (wingError code w s) :=
  congrArg Host.Outcome.next (if_pos (by tauto))

theorem exec_wingError_other {code : Nat} {w : Fin 16} {s : State} (h6 : code ≠ 0x06) (h10 : code ≠ 0x0A) (h16 : code ≠ 0x10) (hcode : isCommandCode code = false) : exec (.wingError code w) s = .next s :=
  congrArg Host.Outcome.next (if_neg (by simp [h6, h10, h16, hcode]))

theorem frame_settleWingCells (w : Nat) (s : State) : Frame [.cnt, .freeCount] s (settleWingCells w s) := .foldl (fun _ _ => frame_settleCell ..) _ _

/-- A wing as its restoration leaves it. -/
def wingRestored (x : Wing) : Wing :=
  { x with
    quarantined := false
    mem := []
    cen := { x.cen with faulted := false, escalated := false }
    hsu := { x.hsu with faulted := false, escalated := false, scratch := [] }
    pku := { x.pku with faulted := false, escalated := false } }

/-- The state with a wing restored. -/
def restored (w : Nat) (s : State) : State := setDuty (updWing w wingRestored (updWingErr w (fun e => { e with restoring := false }) (settleWingCells w s)))

theorem restored_effect (w : Nat) (s : State) : wing (restored w s) w = wingRestored (wing s w) ∧ (wingErr (restored w s) w).restoring = false := by
  constructor
  · show wing (updWing w wingRestored (updWingErr w _ (settleWingCells w s))) w = _
    rw [wing_updWing, if_pos rfl, wing_updWingErr, (frame_settleWingCells w s).wing]
  · show (wingErr (updWingErr w (fun e => { e with restoring := false }) (settleWingCells w s)) w).restoring = false
    rw [wingErr_updWingErr_same]

/-- A wing as its retirement leaves it. -/
def wingRetired (x : Wing) : Wing :=
  { x with
    quarantined := false, retired := true, power := .dark, waking := none, mem := [], hsu := { x.hsu with scratch := [] }, pku := { erasePku x.pku with dirty := true, gallery := 0xFFFFF } }

theorem retireWing_eq (w : Nat) (s : State) : retireWing w s = setDuty (updWingErr w (fun e => { e with restoring := false }) (updWing w wingRetired (settleWingCells w s))) := rfl

theorem wing_setDuty (k : Nat) (s : State) : wing (setDuty s) k = wing s k := rfl

theorem wingErr_setDuty (k : Nat) (s : State) : wingErr (setDuty s) k = wingErr s k := rfl

theorem retireWing_effect (w : Nat) (s : State) : wing (retireWing w s) w = wingRetired (wing s w) ∧ (wingErr (retireWing w s) w).restoring = false := by
  rw [retireWing_eq, wing_setDuty, wingErr_setDuty, wing_updWingErr, wing_updWing, if_pos rfl, (frame_settleWingCells w s).wing, wingErr_updWingErr_same]
  exact ⟨rfl, rfl⟩

section
variable {w : Fin 16} {s : State}

theorem restoration_of_idle {pass : Bool} (hidle : (wing s w).quarantined = false) : exec (.wingRestorationDone w pass) s = .next s := by
  show execWingRestorationDone w pass s = _
  unfold execWingRestorationDone
  exact if_pos (by rw [hidle]; rfl)

variable (hquar : (wing s w).quarantined = true)
include hquar

theorem restoration_passed : exec (.wingRestorationDone w true) s = .next (offerWork (restored w s)) := by
  show execWingRestorationDone w true s = _
  unfold execWingRestorationDone
  exact (if_neg (by rw [hquar]; decide)).trans (if_neg (by decide))

theorem restoration_failed : exec (.wingRestorationDone w false) s = .next (retireWing w s) := by
  show execWingRestorationDone w false s = _
  unfold execWingRestorationDone
  exact (if_neg (by rw [hquar]; decide)).trans (if_pos rfl)

end

section
variable {cell : Fin 128} {s : State}

theorem cellWatchdog_of_idle (hidle : (cellRegs s cell).held = none) : exec (.cellWatchdog cell) s = .next s := by
  show execCellWatchdog cell s = _
  unfold execCellWatchdog
  rw [hidle]

variable {t : Nat} {d : Desc} (hheld : (cellRegs s cell).held = some t) (hd : desc s t = some d)
include hheld hd

theorem cellWatchdog_of_withheld (hwithheld : withheld d.function = true) : exec (.cellWatchdog cell) s = .next s := by
  show execCellWatchdog cell s = _
  unfold execCellWatchdog
  rw [hheld]
  dsimp only
  rw [hd]
  exact if_pos hwithheld

theorem cellWatchdog_of_copy {c : Copy} (hwatched : withheld d.function = false) (hcopy : d.copies.find? (fun c => c.cell == cell.val) = some c) :
    exec (.cellWatchdog cell) s = .next (wingError 0x0A (cell.val / 8) (advanceTo (c.takenAt + 2000000) s)) := by
  show execCellWatchdog cell s = _
  unfold execCellWatchdog
  rw [hheld]
  dsimp only
  rw [hd]
  refine (if_neg (by rw [hwatched]; exact Bool.false_ne_true)).trans ?_
  rw [hcopy]

end

/-! MODULE. -/

theorem count_mkeys_pos {α : Type} {m : Map α} {k : Nat} {v : α} (h : mget m k = some v) : 0 < (mkeys m).count k :=
  List.count_pos_iff.mpr (List.mem_map.mpr ⟨(k, v), mem_of_mget h, rfl⟩)

theorem flows_raiseHolds (fis : List Nat) (s : State) (k : Nat) : mget (raiseHolds fis s).doc.flows k = (mget s.doc.flows k).map (fun f => { f with holds := f.holds + fis.count k }) := by
  induction fis generalizing s with
  | nil => exact Option.map_id'.symm
  | cons a rest ih =>
    show mget (raiseHolds rest (updFlow a (fun f => { f with holds := f.holds + 1 }) s)).doc.flows k = _
    rw [ih, show mget (updFlow a (fun f => { f with holds := f.holds + 1 }) s).doc.flows k = _ from mget_malter .., List.count_cons]
    by_cases hk : k = a
    · subst hk
      rw [if_pos rfl, Option.map_map, if_pos (beq_self_eq_true k)]
      congr 1
      funext f
      simp only [Function.comp, Nat.add_assoc, Nat.add_comm 1]
    · rw [if_neg hk, if_neg (by simpa using fun h : a = k => hk h.symm)]
      rfl

/-- The error is noted, and event 20 latches. -/
def moduleNoted (code : Nat) (s : State) : State := latchEvent 20 { s with err := { s.err with lastCause := code, codes := s.err.codes ++ [code] } }

theorem frame_moduleNoted (code : Nat) (s : State) : Frame [.err, .fab] s (moduleNoted code s) := (frame_of_err rfl).mono.trans (frame_latchEvent ..).mono

theorem moduleNoted_err (code : Nat) (s : State) : (moduleNoted code s).err = { s.err with lastCause := code, codes := s.err.codes ++ [code] } := (frame_latchEvent ..).err

theorem moduleNoted_event (code : Nat) (s : State) : bit (moduleNoted code s).fab.mevCause 20 = true := latchEvent_cause ..

/-- The MODULE handler begins: every flow is held. -/
def moduleHeld (code : Nat) (s : State) : State :=
  raiseHolds (mkeys (moduleNoted code s).doc.flows) { moduleNoted code s with err := { (moduleNoted code s).err with active := 3 } }

theorem moduleHeld_after (code : Nat) (s : State) : Frame [.doc] { moduleNoted code s with err := { (moduleNoted code s).err with active := 3 } } (moduleHeld code s) := frame_raiseHolds ..

theorem moduleHeld_err (code : Nat) (s : State) : (moduleHeld code s).err = { s.err with active := 3, lastCause := code, codes := s.err.codes ++ [code] } := by
  rw [(moduleHeld_after code s).err, moduleNoted_err]

theorem frame_moduleHeld (code : Nat) (s : State) : Frame [.err, .fab, .doc] s (moduleHeld code s) :=
  (frame_moduleNoted code s).mono.trans ((frame_of_err rfl).mono.trans (moduleHeld_after code s).mono)

theorem moduleHeld_event (code : Nat) (s : State) : bit (moduleHeld code s).fab.mevCause 20 = true := by
  rw [(moduleHeld_after code s).fab]
  exact moduleNoted_event code s

theorem moduleHeld_descs (code : Nat) (s : State) : (moduleHeld code s).doc.descs = s.doc.descs := by
  have hkept : ∀ (fis : List Nat) (u : State), (raiseHolds fis u).doc.descs = u.doc.descs := by
    intro fis
    induction fis with
    | nil => exact fun u => rfl
    | cons a rest ih => exact fun u => ih (updFlow a (fun f => { f with holds := f.holds + 1 }) u)
  rw [moduleHeld, hkept]
  exact congrArg Docent.descs (frame_moduleNoted code s).doc

theorem moduleHeld_flows (code : Nat) {s : State} {fi : Nat} {fl : Flow} (hfl : mget s.doc.flows fi = some fl) : ∃ f, mget (moduleHeld code s).doc.flows fi = some f ∧ fl.holds < f.holds := by
  have hdoc : (moduleNoted code s).doc = s.doc := (frame_moduleNoted code s).doc
  rw [moduleHeld, flows_raiseHolds, hdoc, hfl]
  exact ⟨_, rfl, Nat.lt_add_of_pos_right (count_mkeys_pos hfl)⟩

section
variable {code : Nat} {s : State} (hmode : s.pow.mode = .service)
include hmode

theorem moduleError_of_folded (hactive : 3 ≤ s.err.active) : moduleError code s = moduleNoted code s := by
  refine (if_neg (by rw [hmode]; decide)).trans (if_pos ?_)
  show (moduleNoted code s).err.active ≥ 3
  rw [moduleNoted_err]
  exact hactive

/-- What the handler does once every flow is held. -/
theorem moduleError_of_first (hactive : s.err.active < 3) : moduleError code s =
    if !paired (moduleHeld code s) then { moduleHeld code s with err := { (moduleHeld code s).err with halting := some ((moduleHeld code s).now + 100000) } }
    else if (moduleHeld code s).pair.role == .withdrawn && (moduleHeld code s).pair.withdrawing.isNone then
      lowerHolds (mkeys (moduleHeld code s).doc.flows) (logModule 3 [code] (affectedAll { moduleHeld code s with pair := { (moduleHeld code s).pair with outUntilStart := true } }) []
        { moduleHeld code s with pair := { (moduleHeld code s).pair with outUntilStart := true }, err := { (moduleHeld code s).err with active := 0, codes := [] } })
    else beginWithdraw { moduleHeld code s with pair := { (moduleHeld code s).pair with outUntilStart := true } } := by
  refine (if_neg (by rw [hmode]; decide)).trans ((if_neg ?_).trans rfl)
  show ¬(moduleNoted code s).err.active ≥ 3
  rw [moduleNoted_err]
  exact Nat.not_le_of_lt hactive

end

theorem paired_moduleHeld (code : Nat) (s : State) : paired (moduleHeld code s) = paired s := by
  unfold paired
  rw [(frame_moduleHeld code s).pair]

/-- The module stays out of its pair until its next START. -/
def outOfPair (code : Nat) (s : State) : State := { moduleHeld code s with pair := { (moduleHeld code s).pair with outUntilStart := true } }

theorem outOfPair_pair (code : Nat) (s : State) : (outOfPair code s).pair = { s.pair with outUntilStart := true } := congrArg (fun p : Pair => { p with outUntilStart := true }) (frame_moduleHeld code s).pair

section
variable {code : Nat} {s : State} (hmode : s.pow.mode = .service) (hactive : s.err.active < 3)
include hmode hactive

theorem moduleError_of_unpaired (halone : paired s = false) : moduleError code s = { moduleHeld code s with err := { (moduleHeld code s).err with halting := some ((moduleHeld code s).now + 100000) } } :=
  (moduleError_of_first hmode hactive).trans (if_pos (by rw [paired_moduleHeld, halone]; rfl))

variable (hpaired : paired s = true) (hstays : s.pair.withdrawing = none)
include hpaired hstays

theorem moduleError_of_member (hrole : s.pair.role ≠ .withdrawn) : moduleError code s = beginWithdraw (outOfPair code s) :=
  (moduleError_of_first hmode hactive).trans ((if_neg (by rw [paired_moduleHeld, hpaired]; decide)).trans (if_neg (by rw [(frame_moduleHeld code s).pair]; simp [hrole])))

theorem beginWithdraw_outOfPair (hrole : s.pair.role ≠ .withdrawn) : beginWithdraw (outOfPair code s) =
    { outOfPair code s with pair := { (outOfPair code s).pair with withdrawing := some (outOfPair code s).now }, doc := { (outOfPair code s).doc with blockOriginating := true } } := by
  have hmember : paired (outOfPair code s) = true := by
    unfold paired at hpaired ⊢
    rw [outOfPair_pair]
    exact hpaired
  refine if_neg ?_
  rw [hmember, outOfPair_pair]
  simp [hrole, hstays]

theorem moduleError_of_withdrawn (hrole : s.pair.role = .withdrawn) : moduleError code s = lowerHolds (mkeys (moduleHeld code s).doc.flows)
    (logModule 3 [code] (affectedAll (outOfPair code s)) [] { outOfPair code s with err := { (outOfPair code s).err with active := 0, codes := [] } }) :=
  (moduleError_of_first hmode hactive).trans ((if_neg (by rw [paired_moduleHeld, hpaired]; decide)).trans (if_pos (by rw [(frame_moduleHeld code s).pair, hrole, hstays]; rfl)))

end

/-! The end of a contained halt. -/

theorem frame_ceremonyClosed (s : State) : Frame [.fab, .vit, .pow, .cur] s (closeCeremony s) := by
  refine .ite (fun _ => .refl ..) (fun _ => ?_)
  have hload : ∀ u : State, Frame [.vit] u (destroyLoad u) := fun u => .ite (fun _ => frame_of_vit rfl) (fun _ => frame_of_vit rfl)
  exact ((frame_withMode ..).mono.trans (hload _).mono).trans (frame_latchEvent ..).mono

theorem frame_endAllOps (s : State) : Frame [.vit] s (endAllOps s) := frame_of_vit rfl

theorem frame_stopStaging (s : State) : Frame [.cur] s (stopStaging s) := frame_of_cur rfl

/-- The state in which a contained halt becomes HALT. -/
def haltBegun (s : State) : State :=
  let a := endAllOps (stopStaging (closeCeremony s))
  { a with err := { a.err with halting := none, active := 0, queued := [], codes := [] }, pow := { a.pow with starting := false } }

/-- HALT, with everything answered and the record logged. -/
def haltDone (s : State) : State :=
  logModule 3 s.err.codes (affectedAll s) (standingSteps true s) (publishAll (replaceAll true Status.halted (setMode .halt (haltBegun s))))

theorem haltDone_after (s : State) : Frame [.fab, .doc, .vit, .pair, .cnt, .cur] (setMode .halt (haltBegun s)) (haltDone s) :=
  ((frame_replaceAll ..).mono.trans (frame_publishAll ..).mono).trans (frame_logModule ..).mono

theorem haltDone_effect (s : State) : (haltDone s).now = s.now ∧ (haltDone s).pow.mode = .halt ∧ (haltDone s).err.halting = none ∧ (haltDone s).err.active = 0 ∧ (haltDone s).err.queued = [] := by
  have hafter := haltDone_after s
  have hbegun : Frame [.fab, .vit, .pow, .cur, .err] s (haltBegun s) :=
    (((frame_ceremonyClosed s).mono.trans (frame_stopStaging _).mono).trans (frame_endAllOps _).mono).trans ⟨fun p hp => by cases p <;> simp [agree, haltBegun] at hp ⊢⟩
  rw [hafter.now, hafter.pow, hafter.err, (frame_setMode .halt _).now, (frame_setMode .halt _).err, hbegun.now, setMode_pow]
  exact ⟨rfl, rfl, rfl, rfl, rfl⟩

theorem containedHalt_eq (s : State) : containedHalt s = handleQueued s.err.queued (haltDone s) := rfl

/-! FATAL. -/

section
variable {code : Nat} {s : State}

/-- The state once the pair has been left and the keys are erased where the cause asks for it. -/
def fatalErased (code : Nat) (s : State) : State := if isSecurity code then eraseLine true (if paired s then dropUnpublished (withdrawAtOnce s) else s) else if paired s then dropUnpublished (withdrawAtOnce s) else s

theorem frame_withdrawAtOnce (s : State) : Frame [.fab, .vit, .pair, .pow, .cur] s (withdrawAtOnce s) := by
  refine .ite (fun _ => .refl ..) (fun _ => ?_)
  exact ((frame_sendPartner ..).mono.trans (frame_of_pair rfl).mono).trans (frame_setRole ..)

theorem frame_fatalLeft (s : State) : Frame [.fab, .doc, .vit, .pair, .pow, .cur] s (if paired s then dropUnpublished (withdrawAtOnce s) else s) :=
  .ite (fun _ => (frame_withdrawAtOnce s).mono.trans (frame_dropUnpublished _).mono) (fun _ => .refl ..)

theorem fatalErased_err (code : Nat) (s : State) : (fatalErased code s).err = s.err := by
  have hleft := frame_fatalLeft s
  unfold fatalErased
  split
  · exact (frame_eraseLine true _).err.trans hleft.err
  · exact hleft.err

theorem fatalErased_bb (code : Nat) (s : State) : (fatalErased code s).bb = if isSecurity code then clearBbram true s.bb else s.bb := by
  have hleft := frame_fatalLeft s
  unfold fatalErased
  split
  · exact congrArg (clearBbram true) hleft.bb
  · exact hleft.bb

theorem keysGone_fatalErased (hsecurity : isSecurity code = true) : KeysGone (fatalErased code s) := by
  rw [fatalErased, if_pos hsecurity]
  exact keysGone_eraseLine ..

theorem fatalStopped_after (code : Nat) (s : State) : Frame [.fab, .vit, .pow, .cur, .err] (fatalErased code s) (fatalStopped code s) :=
  (((frame_ceremonyClosed (fatalErased code s)).mono.trans (frame_stopStaging _).mono).trans (frame_endAllOps _).mono).trans ⟨fun p hp => by cases p <;> simp [agree, fatalStopped, fatalErased] at hp ⊢⟩

theorem fatalStopped_erased (code : Nat) (s : State) : (fatalStopped code s).err.erased = (s.err.erased || isSecurity code) := by
  have herr : (endAllOps (stopStaging (closeCeremony (fatalErased code s)))).err = s.err := (frame_ceremonyClosed (fatalErased code s)).err.trans (fatalErased_err code s)
  exact congrArg (fun e : Err => e.erased || isSecurity code) herr

theorem keysGone_fatalStopped (hsecurity : isSecurity code = true) : KeysGone (fatalStopped code s) :=
  keysGone_endAllOps (keysGone_of_frame (frame_stopStaging _) (keysGone_closeCeremony (keysGone_fatalErased (s := s) hsecurity)))

variable (hvault : s.pow.mode ≠ .vault) (htampered : s.pow.mode ≠ .tampered)
include hvault htampered

/-- Erased keys stay erased while a FATAL error answers what is left, and its event latches. -/
theorem fatalError_standing : Standing (setMode .halt (fatalStopped code s)) (fatalError code s) ∧ bit (fatalError code s).fab.mevCause 21 = true := by
  rw [fatalError, if_neg (by simp [hvault, htampered])]
  have hanswered : ∀ u : State, Standing u (if paired u then (unreleased u).foldl (fun s p => freeDesc p.1 (freeCopies p.1 p.2 s)) u else publishAll (replaceAll false Status.halted u)) := fun u =>
    .ite (fun _ => .foldl (fun _ _ => Standing.trans (.of_frame (frame_freeCopies ..)) (standing_freeDesc ..)) _ _) (fun _ => (standing_replaceAll ..).trans (standing_publishAll _))
  refine ⟨((hanswered _).trans (standing_latchEvent 21 _)).trans (.of_frame (frame_logModule ..)), ?_⟩
  rw [(frame_logModule ..).fab]
  exact latchEvent_cause ..

theorem fatalError_keys (hsecurity : isSecurity code = true) : KeysGone (fatalError code s) :=
  (fatalError_standing hvault htampered).1.keys (keysGone_of_frame (frame_setMode ..) (keysGone_fatalStopped hsecurity))

theorem fatalError_bb : (fatalError code s).bb = if isSecurity code then clearBbram true s.bb else s.bb := by
  rw [(frame_fatalError code s hvault htampered).bb, (frame_setMode .halt _).bb, (fatalStopped_after code s).bb, fatalErased_bb]

theorem fatalError_erased : (fatalError code s).err.erased = (s.err.erased || isSecurity code) := by
  rw [(frame_fatalError code s hvault htampered).err, (frame_setMode .halt _).err, fatalStopped_erased]

end

/-! A line of the Vitrine that fails. -/

section
variable {line gallery slot : Nat} {s : State} (hmode : s.pow.mode = .service) (hlines : s.err.lines = [])
include hmode hlines

/-- The failed line is noted. -/
def lineNoted (line : Nat) (s : State) : State := { s with err := { s.err with lines := (s.now, line) :: s.err.lines.filter (fun p => decide (s.now < p.1 + 1000000000)) } }

theorem lineNoted_of_first : lineNoted line s = { s with err := { s.err with lines := [(s.now, line)] } } := by
  unfold lineNoted
  rw [hlines]
  rfl

theorem vitrineLineFail_of_first : exec (.vitrineLineFail line gallery slot) s = if paired s then .next (moduleError 0x20 (lineNoted line s))
    else .next (latchEvent 20 (logRecord 0x0090 0 0 (leBytes 4 gallery ++ leBytes 4 slot) (updGal gallery (fun g => { g with damaged := slot :: g.damaged.filter (· != slot) }) (lineNoted line s)))) := by
  have hone : (linesFailed (lineNoted line s)).length ≤ 16 := by
    rw [lineNoted_of_first hmode hlines]
    simp [linesFailed, List.eraseDups_cons]
  refine (if_neg (by rw [hmode]; decide)).trans ((if_neg (Nat.not_lt_of_le hone)).trans rfl)

end

/-- Settles O50, scope by scope. -/
theorem errorsByScope : Obligations.ErrorsByScope := by
  unfold Obligations.ErrorsByScope
  refine ⟨fun code unit ticket s hcode => congrArg Host.Outcome.next (if_neg (by rw [hcode]; exact Bool.false_ne_true)), fun code unit ticket s hcode hmode => ?_, fun unit ticket s hmode hpaired => ?_,
    fun code unit ticket s hcode hjournal hmode hunit hwing hactive hunits => ?_, fun code unit ticket s hcode hjournal hmode hunit hwing hactive hunits => ?_,
    fun code w s hcode hretired => ⟨fun hquar => ?_, fun hquar hactive => ?_, fun hquar hactive hspare => ?_, fun hquar hactive hfew => ?_⟩, fun code w s hcode hretired => ?_,
    fun code w s h6 h10 h16 hcode => exec_wingError_other h6 h10 h16 hcode, fun w s hquar => ⟨?_, ?_⟩, fun w pass s hidle => restoration_of_idle hidle,
    fun cell t d c s hheld hd hwatched hcopy => cellWatchdog_of_copy hheld hd hwatched hcopy, fun cell s hidle => cellWatchdog_of_idle hidle, fun cell t d s hheld hd hwithheld => cellWatchdog_of_withheld hheld hd hwithheld,
    fun code s hcode hmode => ?_, fun code s hcode => congrArg Host.Outcome.next (if_neg (by rw [hcode]; exact Bool.false_ne_true)), fun at_ s hat => ?_, fun s hnone => ?_, fun code s hcode hvault htampered => ?_,
    fun code s hcode => congrArg Host.Outcome.next (if_neg (by rw [hcode]; exact Bool.false_ne_true)), fun line gallery slot x s hmode hpaired hlines hx => ?_, fun line gallery slot s hmode hpaired hlines => ?_, fun w s => ?_, fun s => rfl⟩
  · rw [exec_commandError hcode, commandError_of_stopped hmode]
  · rw [exec_commandError (by decide), commandError_of_journal hmode hpaired]
  · have halone := commandError_of_alone (ticket := ticket) hmode hjournal hunit hwing hunits
    rw [if_neg (by rw [active_recordCommandError]; omega), handleCommand_eq, flowsOf_recordCommandError] at halone
    have hlog := frame_logHandler code 1 unit (commandAt (recordCommandError code ticket unit s) ticket) (recordCommandError code ticket unit s)
    refine ⟨_, (exec_commandError hcode).trans (congrArg Host.Outcome.next halone), ?_, ?_, ?_⟩
    · have hall : Frame [.err, .cur, .cnt] s (logHandler code 1 unit (commandAt (recordCommandError code ticket unit s) ticket) (recordCommandError code ticket unit s)) :=
        (frame_recordCommandError ..).mono.trans hlog.mono
      simpa using hall.record
    · rw [wingErr, hlog.err]
      have hcount := wingErr_recordCommandError code ticket unit s
      rw [show unitWing unit = unit / 8 from if_pos hunit] at hcount
      exact hcount
    · rw [hlog.err, byUnit_recordCommandError _ hunits]
  · have halone := commandError_of_alone (ticket := ticket) hmode hjournal hunit hwing hunits
    rw [if_pos (by rw [active_recordCommandError]; omega), flowsOf_recordCommandError] at halone
    refine ⟨_, (exec_commandError hcode).trans (congrArg Host.Outcome.next halone), ?_, ?_⟩
    · have hall : Frame [.err, .cnt] s { recordCommandError code ticket unit s with err := { (recordCommandError code ticket unit s).err with
          queued := (recordCommandError code ticket unit s).err.queued ++ [{ code := code, scope := 1, unit := unit, ticket := ticket }] } } :=
        (frame_recordCommandError ..).trans (frame_of_err rfl).mono
      simpa using hall.record
    · rw [← queued_recordCommandError (code := code) (unit := unit) (s := s) ticket.val]
  · rw [exec_wingError hcode, wingError_of_quarantined w.isLt hretired hquar]
  · rw [exec_wingError hcode, wingError_of_behind w.isLt hretired hquar hactive]
  · rw [exec_wingError hcode, wingError_of_spare w.isLt hretired hquar hactive hspare]
  · exact ⟨_, (exec_wingError hcode).trans (congrArg Host.Outcome.next (wingError_of_last w.isLt hretired hquar hactive hfew)), rfl, wingErr_updWingErr_same ..⟩
  · rw [exec_wingError hcode, wingError_of_retired hretired]
  · obtain ⟨hwing, herr⟩ := restored_effect w s
    refine ⟨_, restoration_passed hquar, ?_, ?_, ?_, ?_, ?_, herr⟩ <;> rw [hwing] <;> rfl
  · obtain ⟨hwing, herr⟩ := retireWing_effect w s
    refine ⟨_, restoration_failed hquar, ?_, ?_, ?_, herr⟩ <;> rw [hwing] <;> rfl
  · have hexec : exec (.moduleError code) s = .next (moduleError code s) := congrArg Host.Outcome.next (if_pos hcode)
    refine ⟨fun hactive => ?_, fun hactive halone => ?_, fun hactive hpaired hrole hstays => ?_, fun hactive hpaired hrole hstays => ?_⟩
    · have hframe : Frame [.fab] { s with err := { s.err with lastCause := code, codes := s.err.codes ++ [code] } } (moduleNoted code s) := frame_latchEvent ..
      exact ⟨_, hexec.trans (congrArg Host.Outcome.next (moduleError_of_folded hmode hactive)), by simpa using (hframe.mono (qs := [.fab, .cur])).record, moduleNoted_event code s⟩
    · refine ⟨_, hexec.trans (congrArg Host.Outcome.next (moduleError_of_unpaired hmode hactive halone)), ?_, moduleHeld_descs code s, fun fi fl => moduleHeld_flows code, moduleHeld_event code s⟩
      have hframe := frame_moduleHeld code s
      have hrecord : moduleHeld code s = { s with err := (moduleHeld code s).err, doc := (moduleHeld code s).doc, fab := (moduleHeld code s).fab, cur := (moduleHeld code s).cur } := by
        simpa using (hframe.mono (qs := [.err, .fab, .doc, .cur])).record
      rw [moduleHeld_err, hframe.now]
      exact congrArg (fun u : State => { u with err := { s.err with active := 3, lastCause := code, codes := s.err.codes ++ [code], halting := some (s.now + 100000) } }) hrecord
    · have hact := (moduleError_of_member (code := code) hmode hactive hpaired hstays hrole).trans (beginWithdraw_outOfPair hmode hactive hpaired hstays hrole)
      refine ⟨_, hexec.trans (congrArg Host.Outcome.next hact), ?_, ?_, ?_, rfl, moduleHeld_descs code s, fun fi fl => moduleHeld_flows code, moduleHeld_event code s⟩
      · exact congrArg Err.active (moduleHeld_err code s)
      · exact congrArg some (frame_moduleHeld code s).now
      · exact congrArg Pair.outUntilStart (outOfPair_pair code s)
    · have hlog := frame_logModule 3 [code] (affectedAll (outOfPair code s)) [] { outOfPair code s with err := { (outOfPair code s).err with active := 0, codes := [] } }
      have htail := hlog.mono (qs := [.cur, .doc]) |>.trans (frame_lowerHolds (mkeys (moduleHeld code s).doc.flows) _).mono
      refine ⟨_, hexec.trans (congrArg Host.Outcome.next (moduleError_of_withdrawn hmode hactive hpaired hstays hrole)), ?_, ?_, ?_, ?_, ?_, ?_⟩
      · rw [htail.err]
      · rw [htail.err]
      · rw [htail.err]
        exact congrArg Err.lastCause (moduleHeld_err code s)
      · rw [htail.pair]
        exact congrArg Pair.outUntilStart (outOfPair_pair code s)
      · rw [htail.pair]
        exact (congrArg Pair.role (outOfPair_pair code s)).trans hrole
      · rw [htail.fab]
        exact moduleHeld_event code s
  · obtain ⟨hnow, hhalt, hhalting, hactive, hqueued⟩ := haltDone_effect (advanceTo at_ s)
    refine ⟨_, ?_, hnow, hhalt, hhalting, hactive, hqueued⟩
    show execContainedHaltTimeout s = _
    rw [execContainedHaltTimeout, hat]
    exact congrArg Host.Outcome.next (containedHalt_eq (advanceTo at_ s))
  · show execContainedHaltTimeout s = _
    rw [execContainedHaltTimeout, hnone]
  · obtain ⟨hhalt, hstarting, -, hcause⟩ := fatalError_pow code s hvault htampered
    refine ⟨_, congrArg Host.Outcome.next (if_pos hcode), hhalt, hstarting, fatalError_erased hvault htampered, hcause, (fatalError_standing hvault htampered).2, fun hsecurity => ?_, fun hsecurity => ?_⟩
    · exact ⟨(fatalError_bb hvault htampered).trans (if_pos hsecurity), fatalError_keys hvault htampered hsecurity⟩
    · exact (fatalError_bb hvault htampered).trans (if_neg (by rw [hsecurity]; exact Bool.false_ne_true))
  · have hexec := vitrineLineFail_of_first (line := line) (gallery := gallery) (slot := slot) hmode hlines
    rw [if_neg (by rw [hpaired]; exact Bool.false_ne_true)] at hexec
    obtain ⟨hsame, hothers⟩ := updGal_effect (s := lineNoted line s) (g := gallery) (fun g => { g with damaged := slot :: g.damaged.filter (· != slot) }) hx
    have htail := (frame_logRecord 0x0090 0 0 (leBytes 4 gallery ++ leBytes 4 slot) (updGal gallery (fun g => { g with damaged := slot :: g.damaged.filter (· != slot) }) (lineNoted line s))).mono
      |>.trans ((frame_latchEvent 20 _).mono (qs := [.cur, .fab]))
    have hall : Frame [.err, .vit, .fab, .cur] s _ := ((frame_of_err (s := s) (t := lineNoted line s) rfl).mono.trans (frame_updGal ..).mono).trans htail.mono
    exact ⟨_, hexec, by simpa using hall.record, (htail.gal _).trans hsame, fun k hk => (htail.gal _).trans (hothers k hk), latchEvent_cause ..⟩
  · rw [vitrineLineFail_of_first hmode hlines, if_pos hpaired, lineNoted_of_first hmode hlines]
  · exact ⟨_, rfl, countEvent_cnt ..⟩

end Sys2Proof.Machine

/-!
PROOFS, part 51: tamper causes, the response to one and its record (14 R336 to R345).
-/

namespace Sys2Proof.Machine

set_option Elab.async false

/-! A condition observed. -/

section
variable {c : Nat} {s : State} (hpowered : aoPowered s = true)
include hpowered

theorem observe_of_absent : observe c false s = setLive c false s := (if_neg (by rw [hpowered]; decide)).trans (if_neg (by decide))

theorem observe_of_live (hlive : bit s.ao.live c = true) : observe c true s = s := (if_neg (by rw [hpowered]; decide)).trans ((if_pos rfl).trans (if_pos hlive))

variable (hnew : bit s.ao.live c = false)
include hnew

theorem observe_of_new : observe c true s = decide_ c (setLive c true s) :=
  (if_neg (by rw [hpowered]; decide)).trans ((if_pos rfl).trans (if_neg (by rw [hnew]; exact Bool.false_ne_true)))

theorem observe_of_unarmed (hunarmed : bit (armed s) c = false) : observe c true s = setLive c true s :=
  (observe_of_new hpowered hnew).trans (if_pos (by rw [show armed (setLive c true s) = armed s from rfl, hunarmed]; rfl))

variable (harmed : bit (armed s) c = true)
include harmed

theorem observe_of_first (hfirst : s.ao.responded = false) : observe c true s = tamperResponse c (noteInBurn (setLive c true s)) :=
  (observe_of_new hpowered hnew).trans ((if_neg (by rw [show armed (setLive c true s) = armed s from rfl, harmed]; decide)).trans
    (if_pos (by rw [show (noteInBurn (setLive c true s)).ao.responded = false from hfirst]; rfl)))

/-- One more cause of the collection count. -/
def causeAdded (c t first : Nat) (s : State) : State :=
  { s with ao := { s.ao with collected := setBit s.ao.collected c true, latched := setBit s.ao.latched c true, collecting := some (t, firstCause s t first c) } }

theorem observe_of_further {t first : Nat} (hresponded : s.ao.responded = true) (hcollecting : s.ao.collecting = some (t, first)) :
    observe c true s = causeAdded c t first (noteInBurn (setLive c true s)) := by
  refine (observe_of_new hpowered hnew).trans ((if_neg (by rw [show armed (setLive c true s) = armed s from rfl, harmed]; decide)).trans
    ((if_neg (by rw [show (noteInBurn (setLive c true s)).ao.responded = true from hresponded]; decide)).trans ?_))
  rw [show (noteInBurn (setLive c true s)).ao.collecting = some (t, first) from hcollecting]
  rfl

end

/-! The response. -/

/-- The latch is set, and everything that the cause erases is erased. -/
def tamperErased (c : Nat) (s : State) : State :=
  let a := loseGddr (eraseLine false (if s.pow.main then withdrawAtOnce s else s))
  { a with
    ao := { a.ao with responded := true, latched := 2 ^ c, collecting := some (a.now, c), collected := 2 ^ c, tamperOut := true, record := recordAtDecision s }
    pow := { a.pow with starting := false } }

/-- What was under way has ended. -/
def tamperStopped (c : Nat) (s : State) : State :=
  let a := stopStaging (closeCeremony (tamperErased c s))
  { a with err := { a.err with active := 0, queued := [], codes := [], halting := none }, pow := { a.pow with quiesce := none, pending := false } }

section
variable {c : Nat} {s : State}

theorem frame_loseGddr (s : State) : Frame [.vit] s (loseGddr s) := .ite (fun _ => .refl ..) (fun _ => frame_of_vit rfl)

/-- What the erasure at a decision starts from and ends with. -/
theorem frame_tamperLeft (s : State) : Frame [.fab, .vit, .rng, .pair, .bb, .pow, .cur] s (loseGddr (eraseLine false (if s.pow.main then withdrawAtOnce s else s))) :=
  (Frame.ite (fun _ => (frame_withdrawAtOnce s).mono) (fun _ => .refl ..)).trans ((frame_eraseLine ..).mono.trans (frame_loseGddr _).mono)

theorem tamperLeft_bb (s : State) : (loseGddr (eraseLine false (if s.pow.main then withdrawAtOnce s else s))).bb = clearBbram false s.bb := by
  rw [(frame_loseGddr _).bb]
  show clearBbram false (if s.pow.main then withdrawAtOnce s else s).bb = _
  rw [(Frame.ite (fun _ => frame_withdrawAtOnce s) (fun _ => .refl ..)).bb]

theorem keysGone_loseGddr (h : KeysGone s) : KeysGone (loseGddr s) := by
  unfold loseGddr
  split
  · exact h
  · exact h

theorem keysGone_tamperErased : KeysGone (tamperErased c s) := keysGone_loseGddr (keysGone_eraseLine ..)

theorem tamperErased_ao : (tamperErased c s).ao = { s.ao with responded := true, latched := 2 ^ c, collecting := some (s.now, c), collected := 2 ^ c, tamperOut := true, record := recordAtDecision s } := by
  have hleft := frame_tamperLeft s
  unfold tamperErased
  dsimp only
  rw [hleft.now, hleft.ao]

theorem tamperStopped_after (c : Nat) (s : State) : Frame [.fab, .vit, .pow, .cur, .err] (tamperErased c s) (tamperStopped c s) :=
  ((frame_ceremonyClosed (tamperErased c s)).mono.trans (frame_stopStaging _).mono).trans ⟨fun p hp => by cases p <;> simp [agree, tamperStopped] at hp ⊢⟩

theorem keysGone_tamperStopped : KeysGone (tamperStopped c s) :=
  keysGone_of_frame (s := closeCeremony (tamperErased c s)) (ps := [.cur, .pow, .err]) ((frame_stopStaging _).mono.trans ⟨fun p hp => by cases p <;> simp [agree, tamperStopped] at hp ⊢⟩)
    (keysGone_closeCeremony keysGone_tamperErased)

/-- The always-present parts of the power state that a change of mode leaves. -/
theorem withMode_keeps {f : Power → Power} (hf : ∀ p, (f p).main = p.main ∧ (f p).starting = p.starting) (s : State) : (withMode f s).pow.main = s.pow.main ∧ (withMode f s).pow.starting = s.pow.starting := by
  rw [withMode_pow]
  exact hf s.pow

/-- The isolation that a role asks for. -/
def isolatedAs (role : Role) (p : Power) : Power := { p with isolated := isolatedRole role && p.mode == .service }

theorem setRole_last (role : Role) (term cause : Nat) (s : State) : ∃ source data, setRole role term cause s = logRecord 0x0070 source 0 data (withMode (isolatedAs role) (writeAnchor (roleNoted role term cause s))) := by
  unfold setRole
  exact ⟨_, _, rfl⟩

theorem setRole_main (role : Role) (term cause : Nat) (s : State) : (setRole role term cause s).pow.main = s.pow.main := by
  obtain ⟨source, data, hlast⟩ := setRole_last role term cause s
  rw [hlast, (frame_logRecord ..).pow, (withMode_keeps (f := isolatedAs role) (fun p => ⟨rfl, rfl⟩) _).1, (frame_writeAnchor _).pow]
  rfl

theorem frame_destroyLoad (s : State) : Frame [.vit] s (destroyLoad s) := .ite (fun _ => frame_of_vit rfl) (fun _ => frame_of_vit rfl)

/-- A ceremony's mode ends. -/
def ceremonyOver (p : Power) : Power := { p with ceremony := false }

theorem closeCeremony_of_open (hopen : s.pow.ceremony = true) : closeCeremony s = latchEvent 39 (destroyLoad (withMode ceremonyOver s)) := if_neg (by rw [hopen]; decide)

theorem closeCeremony_starting (s : State) : (closeCeremony s).pow.starting = s.pow.starting := by
  by_cases hopen : s.pow.ceremony = true
  · rw [closeCeremony_of_open hopen, (frame_latchEvent ..).pow, (frame_destroyLoad _).pow, (withMode_keeps (f := ceremonyOver) (fun p => ⟨rfl, rfl⟩) s).2]
  · rw [frame_closeCeremony s (Bool.eq_false_iff.mpr hopen)]

/-- The pair that a member leaves at once. -/
def pairLeft (s : State) : State := { s with pair := { s.pair with withdrawing := none, dualAct := false, resync := none, outUntilStart := true } }

theorem pairLeft_pow (s : State) : (pairLeft s).pow = s.pow := rfl

theorem withdrawAtOnce_of_paired (hpaired : paired s = true) :
    withdrawAtOnce s = setRole .withdrawn (pairLeft (sendPartner 0 .withdraw s)).pair.term causeWithdraw (pairLeft (sendPartner 0 .withdraw s)) := if_neg (by rw [hpaired]; decide)

theorem withdrawAtOnce_main (s : State) : (withdrawAtOnce s).pow.main = s.pow.main := by
  by_cases hpaired : paired s = true
  · rw [withdrawAtOnce_of_paired hpaired, setRole_main, pairLeft_pow, (frame_sendPartner ..).pow]
  · exact congrArg (fun u : State => u.pow.main) (show withdrawAtOnce s = s from if_pos (by rw [Bool.eq_false_iff.mpr hpaired]; rfl))

theorem tamperErased_main (hmain : s.pow.main = true) : (tamperErased c s).pow.main = true := by
  have hgddr := (frame_loseGddr (eraseLine false (if s.pow.main then withdrawAtOnce s else s))).pow
  have hleft : (if s.pow.main then withdrawAtOnce s else s).pow.main = true := by rw [if_pos hmain, withdrawAtOnce_main, hmain]
  exact (congrArg Power.main hgddr).trans hleft

/-- TAMPERED, with everything not released answered. -/
theorem tamperResponse_of_main (hmain : s.pow.main = true) : tamperResponse c s = publishAll (replaceAll false Status.tampered (latchEvent 22 (setMode .tampered (tamperStopped c s)))) :=
  if_neg (show ¬(!(tamperErased c s).pow.main) = true by rw [tamperErased_main hmain]; decide)

theorem tamperResponse_effect (hmain : s.pow.main = true) : (tamperResponse c s).ao = (tamperErased c s).ao ∧ (tamperResponse c s).bb = clearBbram false s.bb ∧ KeysGone (tamperResponse c s) ∧
    (tamperResponse c s).pow.mode = .tampered ∧ (tamperResponse c s).pow.starting = false ∧ (tamperResponse c s).pow.ready = false ∧ bit (tamperResponse c s).fab.mevCause 22 = true := by
  rw [tamperResponse_of_main hmain]
  have hanswered : Frame [.fab, .doc, .vit, .pair, .cnt] (setMode .tampered (tamperStopped c s)) (publishAll (replaceAll false Status.tampered (latchEvent 22 (setMode .tampered (tamperStopped c s))))) :=
    (frame_latchEvent 22 _).mono.trans ((frame_replaceAll ..).mono.trans (frame_publishAll _).mono)
  have hstanding := (standing_replaceAll false Status.tampered (latchEvent 22 (setMode .tampered (tamperStopped c s)))).trans (standing_publishAll _)
  have hstopped := tamperStopped_after c s
  have hstarting : (tamperStopped c s).pow.starting = false := closeCeremony_starting (tamperErased c s)
  refine ⟨?_, ?_, ?_, ?_, ?_, ?_, hstanding.events 22 (latchEvent_cause ..)⟩
  · rw [hanswered.ao, (frame_setMode ..).ao, hstopped.ao]
  · rw [hanswered.bb, (frame_setMode ..).bb, hstopped.bb]
    exact tamperLeft_bb s
  · exact hstanding.keys ((standing_latchEvent ..).keys (keysGone_of_frame (frame_setMode ..) keysGone_tamperStopped))
  · rw [hanswered.pow, setMode_pow]
  · rw [hanswered.pow, setMode_pow]
    exact hstarting
  · rw [hanswered.pow, setMode_pow]
    rfl

end

/-! Loops and meshes. -/

/-- A loop as one comparison with what was driven leaves it. -/
def loopSeen (level echo : Bool) (l : Loop) : Loop :=
  { l with history := (2 * l.history + b2n (echo != level)) % 256, mismatches := if (echo != level) = true then sat 255 (l.mismatches + 1) else l.mismatches, echo := echo, expected := level }

/-- The loops of a list compared. -/
def loopsSeen (echo : BitVec 6) (generator : BitVec 31) (l : List Nat) (m : Map Loop) : Map Loop := l.foldl (fun m i => mupd m i {} (loopSeen (Config.loopLevel generator i) (echo.getLsbD i))) m

theorem compareLoops_eq (echo : BitVec 6) (l : List Nat) (s : State) : l.foldl (fun s i => compareLoop i (echo.getLsbD i) s) s =
    { s with ao := { s.ao with loops := loopsSeen echo s.ao.generator l s.ao.loops } } := by
  induction l generalizing s with
  | nil => rfl
  | cons i rest ih => exact ih (compareLoop i (echo.getLsbD i) s)

theorem loopsSeen_other (echo : BitVec 6) (generator : BitVec 31) {l : List Nat} {k : Nat} (hk : k ∉ l) (m : Map Loop) : mgetD (loopsSeen echo generator l m) k {} = mgetD m k {} := by
  induction l generalizing m with
  | nil => rfl
  | cons i rest ih =>
    obtain ⟨hne, hrest⟩ := List.ne_and_not_mem_of_not_mem_cons hk
    exact (ih hrest _).trans ((mgetD_mupd ..).trans (if_neg hne))

theorem loopsSeen_mem (echo : BitVec 6) (generator : BitVec 31) {l : List Nat} {k : Nat} (hone : l.Nodup) (hk : k ∈ l) (m : Map Loop) :
    mgetD (loopsSeen echo generator l m) k {} = loopSeen (Config.loopLevel generator k) (echo.getLsbD k) (mgetD m k {}) := by
  induction l generalizing m with
  | nil => exact absurd hk List.not_mem_nil
  | cons i rest ih =>
    obtain ⟨hnew, hrest⟩ := List.nodup_cons.mp hone
    by_cases hi : k = i
    · subst hi
      exact (loopsSeen_other echo generator hnew _).trans ((mgetD_mupd ..).trans (if_pos rfl))
    · exact (ih hrest ((List.mem_cons.mp hk).resolve_left hi) _).trans (congrArg _ ((mgetD_mupd ..).trans (if_neg hi)))

theorem tempSample_of_powered {value : Int} {s : State} (hpowered : aoPowered s = true) : exec (.tempSample value) s = .next (observe 7 ((if value > 250 then min 4 (s.ao.tempRun.2 + 1) else 0) == 4)
    (observe 6 ((if value < -100 then min 4 (s.ao.tempRun.1 + 1) else 0) == 4) { s with ao := { s.ao with
      temp := value, tempRun := (if value < -100 then min 4 (s.ao.tempRun.1 + 1) else 0, if value > 250 then min 4 (s.ao.tempRun.2 + 1) else 0) } })) :=
  if_neg (by rw [hpowered]; decide)

/-! The record. -/

theorem logTamper_keeps (s : State) : ∃ toLog cur, logTamper s = { s with ao := { s.ao with recordToLog := toLog }, cur := cur } := by
  unfold logTamper
  split
  · exact ⟨_, _, logData_cur ..⟩
  · exact ⟨_, _, rfl⟩

theorem slice_length (l : Bytes) (a n : Nat) : (slice l a n).length = n := by
  simp only [slice, zeros, List.length_append, List.length_replicate, List.length_take]
  omega

theorem sealRecord60_length (b : Bytes) : (sealRecord60 b).length = 64 := by
  rw [sealRecord60, List.length_append, slice_length, length_leBytes]

theorem sealRecord60_sealed (b : Bytes) : (sealRecord60 b).drop 60 = leBytes 4 (crc32 ((sealRecord60 b).take 60)) := by
  have hlen : (slice b 0 60).length = 60 := slice_length ..
  rw [sealRecord60, List.drop_left' hlen, List.take_left' hlen]

/-- The state with the record of a collection complete. -/
def recordComplete (t first : Nat) (s : State) : State :=
  { advanceTo (t + countsNs 1) s with ao := { (advanceTo (t + countsNs 1) s).ao with
      record := finishedRecord (advanceTo (t + countsNs 1) s) first, recordValid := true, recordSeq := s.ao.recordSeq + 1, collecting := none, recordToLog := true } }

theorem collectionEnd_eq {t first : Nat} {s : State} (hcollecting : s.ao.collecting = some (t, first)) : exec .tamperCollectionEnd s = .next (logTamper (recordComplete t first s)) := by
  show execTamperCollectionEnd s = _
  rw [execTamperCollectionEnd, hcollecting]
  rfl

theorem finishedRecord_sealed (s : State) (first : Nat) : (finishedRecord s first).length = 64 ∧ (finishedRecord s first).drop 60 = leBytes 4 (crc32 ((finishedRecord s first).take 60)) :=
  ⟨sealRecord60_length _, sealRecord60_sealed _⟩

theorem recordComplete_effect (t first : Nat) (s : State) : (logTamper (recordComplete t first s)).now = max s.now (t + countsNs 1) ∧ (logTamper (recordComplete t first s)).ao.recordValid = true ∧
    (logTamper (recordComplete t first s)).ao.recordSeq = s.ao.recordSeq + 1 ∧ (logTamper (recordComplete t first s)).ao.collecting = none ∧
    (logTamper (recordComplete t first s)).ao.record = finishedRecord (advanceTo (t + countsNs 1) s) first ∧ (logTamper (recordComplete t first s)).ao.latched = s.ao.latched ∧
    (logTamper (recordComplete t first s)).bb = s.bb := by
  obtain ⟨toLog, cur, hlog⟩ := logTamper_keeps (recordComplete t first s)
  rw [hlog]
  exact ⟨rfl, rfl, rfl, rfl, rfl, rfl, rfl⟩

theorem observe_responds {c : Nat} {s : State} (hpowered : aoPowered s = true) (hnew : bit s.ao.live c = false) (harmed : bit (armed s) c = true) (hfirst : s.ao.responded = false) (hmain : s.pow.main = true) :
    (observe c true s).ao.responded = true ∧ (observe c true s).ao.latched = 2 ^ c ∧ (observe c true s).ao.tamperOut = true ∧ bit (observe c true s).ao.live c = true ∧
      (observe c true s).ao.collecting = some (s.now, c) ∧ (observe c true s).bb = clearBbram false s.bb ∧ (observe c true s).vit.cache = [] ∧ (observe c true s).vit.workingKey = [] ∧
      (observe c true s).pow.mode = .tampered ∧ (observe c true s).pow.starting = false ∧ (observe c true s).pow.ready = false ∧ bit (observe c true s).fab.mevCause 22 = true := by
  obtain ⟨hao, hbb, hkeys, hmode, hstarting, hready, hevent⟩ := tamperResponse_effect (c := c) (s := noteInBurn (setLive c true s)) hmain
  rw [observe_of_first hpowered hnew harmed hfirst, hao, tamperErased_ao]
  exact ⟨rfl, rfl, rfl, bit_setBit .., rfl, hbb, hkeys.1, hkeys.2, hmode, hstarting, hready, hevent⟩

theorem tempSample_in_range {value : Int} {s : State} (hpowered : aoPowered s = true) (hlow : -100 ≤ value) (hhigh : value ≤ 250) :
    exec (.tempSample value) s = .next (observe 7 false (observe 6 false { s with ao := { s.ao with temp := value, tempRun := (0, 0) } })) := by
  have hcold : (if value < -100 then min 4 (s.ao.tempRun.1 + 1) else 0) = 0 := if_neg (by omega)
  have hhot : (if value > 250 then min 4 (s.ao.tempRun.2 + 1) else 0) = 0 := if_neg (by omega)
  rw [tempSample_of_powered hpowered, hcold, hhot, show ((0 : Nat) == 4) = false from rfl]

theorem tempSample_hot {value : Int} {s : State} (hpowered : aoPowered s = true) (hhigh : 250 < value) :
    exec (.tempSample value) s = .next (observe 7 (min 4 (s.ao.tempRun.2 + 1) == 4) (observe 6 false { s with ao := { s.ao with temp := value, tempRun := (0, min 4 (s.ao.tempRun.2 + 1)) } })) := by
  have hcold : (if value < -100 then min 4 (s.ao.tempRun.1 + 1) else 0) = 0 := if_neg (by omega)
  rw [tempSample_of_powered hpowered, hcold, if_pos hhigh, show ((0 : Nat) == 4) = false from rfl]

theorem tempSample_cold {value : Int} {s : State} (hpowered : aoPowered s = true) (hlow : value < -100) :
    exec (.tempSample value) s = .next (observe 7 false (observe 6 (min 4 (s.ao.tempRun.1 + 1) == 4) { s with ao := { s.ao with temp := value, tempRun := (min 4 (s.ao.tempRun.1 + 1), 0) } })) := by
  have hhot : (if value > 250 then min 4 (s.ao.tempRun.2 + 1) else 0) = 0 := if_neg (by omega)
  rw [tempSample_of_powered hpowered, hhot, if_pos hlow, show ((0 : Nat) == 4) = false from rfl]

/-- The state with every loop and mesh compared. -/
def loopsCompared (echo : BitVec 6) (s : State) : State :=
  { s with ao := { s.ao with loops := loopsSeen echo s.ao.generator (List.range 6) s.ao.loops, driveCount := min 4 (s.ao.driveCount + 1) } }

theorem loopCompare_of_powered {echo : BitVec 6} {s : State} (hpowered : aoPowered s = true) : exec (.loopCompare echo) s =
    .next (([4, 5, 0, 1, 2, 3] : List Nat).foldl (fun v i => observe (loopCause i) (bit (mgetD v.ao.loops i {}).history 0) v) (loopsCompared echo s)) := by
  show execLoopCompare echo s = _
  rw [execLoopCompare, if_neg (by rw [hpowered]; decide), compareLoops_eq]
  rfl

theorem loopsCompared_loop (echo : BitVec 6) (i : Fin 6) (s : State) : mgetD (loopsCompared echo s).ao.loops i.val {} =
    loopSeen (Config.loopLevel s.ao.generator i.val) (echo.getLsbD i.val) (mgetD s.ao.loops i.val {}) :=
  loopsSeen_mem echo s.ao.generator List.nodup_range (List.mem_range.mpr i.isLt) _

/-- A loop with one more mismatch. -/
def mismatched (l : Loop) : Loop := { l with mismatches := sat 255 (l.mismatches + 1) }

theorem loopEdge_of_powered {i : Fin 6} {s : State} (hpowered : aoPowered s = true) : exec (.loopEdgeMismatch i) s = .next (observe (loopCause i) true (updLoop i mismatched s)) :=
  if_neg (by rw [hpowered]; decide)

theorem updLoop_loop (i : Nat) (f : Loop → Loop) (s : State) : mgetD (updLoop i f s).ao.loops i {} = f (mgetD s.ao.loops i {}) := (mgetD_mupd ..).trans (if_pos rfl)

theorem supplyComparator_eq (high present : Bool) (s : State) : exec (.supplyComparator high present) s = .next (observe (if high then 9 else 8) present s) := by
  show execSupplyComparator high present s = _
  rw [execSupplyComparator]

theorem xtalFault_eq (present : Bool) (s : State) : exec (.xtalFault present) s = .next (if !present then observe 10 false s else if xtalMasked s then s else observe 10 true (logXtal s)) := by
  show execXtalFault present s = _
  rw [execXtalFault]

theorem xtalFault_gone (s : State) : exec (.xtalFault false) s = .next (observe 10 false s) := by
  rw [xtalFault_eq, if_pos (by decide)]

theorem xtalFault_masked {s : State} (hmasked : s.now < s.ao.since + 3000000000) : exec (.xtalFault true) s = .next s := by
  rw [xtalFault_eq, if_neg (by decide), if_pos (by rw [xtalMasked, decide_eq_true hmasked])]

theorem xtalFault_watched {s : State} (hwatched : s.ao.since + 3000000000 ≤ s.now) : exec (.xtalFault true) s = .next (observe 10 true (logXtal s)) := by
  rw [xtalFault_eq, if_neg (by decide), if_neg (by rw [xtalMasked, decide_eq_true_eq]; omega)]

/-- Settles O52. -/
theorem tamperCauses : Obligations.TamperCauses := by
  unfold Obligations.TamperCauses
  refine ⟨fun c s hpowered hnew harmed hfirst hmain => ?_, fun c s => observe_of_unarmed, fun c t k s hpowered hnew harmed hresponded hcollecting => ?_, fun c s => observe_of_live, fun c s => observe_of_absent,
    supplyComparator_eq, xtalFault_gone, fun s => ⟨xtalFault_masked, fun hwatched => ⟨xtalFault_watched hwatched, fun harmed => ?_⟩⟩, fun present s => ⟨fun hwatched => ?_, fun hwatched => ?_⟩, fun s => ⟨fun hmain => ?_, fun hwatched => ?_⟩,
    fun value s hpowered hlow hhigh => ?_, fun value s hpowered hhigh => ?_, fun value s hpowered hlow => ?_, fun s hpowered hcount => ?_, fun s hcount => ?_, fun echo s hpowered => ?_, fun i s hpowered => ?_,
    fun t first s hcollecting => ?_, fun s hnone => ?_, fun echo i value s hdead => ?_⟩
  · exact observe_responds hpowered hnew harmed hfirst hmain
  · rw [observe_of_further hpowered hnew harmed hresponded hcollecting]
    exact ⟨rfl, bit_setBit .., rfl⟩
  · exact if_pos (by rw [harmed]; rfl)
  · refine congrArg Host.Outcome.next (if_neg ?_)
    obtain h | h := hwatched <;> simp [h]
  · refine congrArg Host.Outcome.next (if_neg ?_)
    obtain h | h := hwatched <;> simp [h]
  · exact congrArg Host.Outcome.next (if_pos (by rw [hmain]; rfl))
  · exact congrArg Host.Outcome.next (if_pos (by rw [hwatched]; rfl))
  · exact tempSample_in_range hpowered hlow hhigh
  · exact tempSample_hot hpowered hhigh
  · exact tempSample_cold hpowered hlow
  · exact if_neg (by rw [hpowered]; simp; omega)
  · exact if_pos (by simp [hcount])
  · exact ⟨_, loopCompare_of_powered hpowered, rfl, rfl, fun i => loopsCompared_loop echo i s⟩
  · exact ⟨_, loopEdge_of_powered hpowered, rfl, updLoop_loop i.val mismatched s⟩
  · obtain ⟨hnow, hvalid, hseq, hdone, hrecord, hlatched, hbb⟩ := recordComplete_effect t first s
    obtain ⟨hlength, hsealed⟩ := finishedRecord_sealed (advanceTo (t + countsNs 1) s) first
    exact ⟨_, collectionEnd_eq hcollecting, hnow, hvalid, hseq, hdone, by rw [hrecord, hlength], by rw [hrecord, hsealed], hlatched, hbb⟩
  · show execTamperCollectionEnd s = _
    rw [execTamperCollectionEnd, hnone]
  · have hdead' : (!aoPowered s) = true := by rw [hdead]; rfl
    exact ⟨if_pos (by rw [hdead']; rfl), if_pos hdead', if_pos hdead', if_pos hdead'⟩

end Sys2Proof.Machine

/-!
SUPPORT. The Curator's transports (17 R408, R415): a message served on a bus other than the mailbox, and its reply.
-/

namespace Sys2Proof.Machine

set_option Elab.async false

section
variable {bus : Nat} {s : State}

theorem sendReply_smbus (r : MgmtReply) (s : State) : sendReply 0 r s = { s with cur := { s.cur with replies := s.cur.replies ++ [{ bus := 0, reply := r }] } } := rfl

theorem serve_of_away {act : State → MgmtReply × State} (haway : busReaches s bus = false) : serve bus act s = s := if_pos (by rw [haway]; rfl)

theorem serveFull_of_readout {act : State → MgmtReply × State} (hreadout : readoutOnly s = true) : serveFull bus act s = s := if_pos hreadout

theorem serveFull_of_full {act : State → MgmtReply × State} (hfull : readoutOnly s = false) : serveFull bus act s = serve bus act s := if_neg (by rw [hfull]; exact Bool.false_ne_true)

theorem serveFull_of_away {act : State → MgmtReply × State} (haway : busReaches s bus = false) : serveFull bus act s = s := by
  unfold serveFull
  split
  · rfl
  · exact serve_of_away haway

variable (hbus : bus ≠ 2) (hreach : busReaches s bus = true)
include hbus hreach

/-- A message on a bus other than the mailbox is acted on and answered there. -/
theorem serve_of_reached {act : State → MgmtReply × State} : serve bus act s = sendReply bus (act s).1 (act s).2 := by
  unfold serve
  rw [if_neg (by rw [hreach]; decide), if_neg hbus]

theorem serveFull_of_reached {act : State → MgmtReply × State} (hfull : readoutOnly s = false) : serveFull bus act s = sendReply bus (act s).1 (act s).2 :=
  (serveFull_of_full hfull).trans (serve_of_reached hbus hreach)

theorem serveLater_of_reached {act : State → State} : serveLater bus act s = act s := by
  unfold serveLater
  rw [if_neg (by rw [hreach]; decide), if_neg hbus]

end

theorem LogOnly.replies {s t : State} (h : LogOnly s t) : t.cur.replies = s.cur.replies := by
  unfold LogOnly at h
  rw [h]

end Sys2Proof.Machine

/-!
PROOFS, part 53: discrete inputs, key switches, life-cycle transitions, debug and the self-test (14 R339, R347 to R356, 07 R200, R201).
-/

namespace Sys2Proof.Machine

set_option Elab.async false

/-! Discrete inputs. -/

section
variable {levels : BitVec 4} {s : State}

theorem inputSample_of_dead (hdead : aoPowered s = false) : exec (.inputSample levels) s = .next s := if_pos (by rw [hdead]; rfl)

/-- One sample of one input, and what follows a change of its level. -/
def inputTaken (levels : BitVec 4) (s : State) (i : Nat) : State :=
  let s' : State := { s with ao := { s.ao with inputs := mset s.ao.inputs i (sampleInput (levels.getLsbD i) (inputOf s i)) } }
  if (sampleInput (levels.getLsbD i) (inputOf s i)).level = (inputOf s i).level then s' else inputChanged i (sampleInput (levels.getLsbD i) (inputOf s i)).level s'

theorem inputSample_of_powered (hpowered : aoPowered s = true) : exec (.inputSample levels) s = .next ((List.range 4).foldl (inputTaken levels) s) := if_neg (by rw [hpowered]; decide)

/-- The state with one input sampled. -/
def inputStored (levels : BitVec 4) (s : State) (i : Nat) : State := { s with ao := { s.ao with inputs := mset s.ao.inputs i (sampleInput (levels.getLsbD i) (inputOf s i)) } }

theorem inputOf_inputStored (levels : BitVec 4) (s : State) (i k : Nat) : inputOf (inputStored levels s i) k = if k = i then sampleInput (levels.getLsbD i) (inputOf s i) else inputOf s k := by
  unfold inputOf inputStored
  by_cases hk : k = i
  · subst hk
    rw [if_pos rfl]
    exact mgetD_mset_same ..
  · rw [if_neg hk]
    exact mgetD_mset_ne _ _ _ hk

/-- A sample that does not qualify a new level leaves the level. -/
theorem sampleInput_level {v : Bool} {x : Input} (hshort : v ≠ x.level → x.run + 1 < 4) : (sampleInput v x).level = x.level := by
  unfold sampleInput
  split
  · rfl
  · next hne => rw [if_neg (by have := hshort hne; omega)]

theorem inputTaken_of_short {i : Nat} (hquiet : i = 2 ∨ (levels.getLsbD i ≠ (inputOf s i).level → (inputOf s i).run + 1 < 4)) : inputTaken levels s i = inputStored levels s i := by
  unfold inputTaken
  obtain rfl | hshort := hquiet
  · dsimp only
    split
    · rfl
    · rfl
  · exact if_pos (sampleInput_level hshort)

/-- The inputs of a list sampled, none of which qualifies a level that has a consequence. -/
theorem inputsTaken_eq {l : List Nat} (hone : l.Nodup) (hquiet : ∀ i ∈ l, i = 2 ∨ (levels.getLsbD i ≠ (inputOf s i).level → (inputOf s i).run + 1 < 4)) :
    l.foldl (inputTaken levels) s = { s with ao := { s.ao with inputs := (l.foldl (inputTaken levels) s).ao.inputs } } ∧
    ∀ k, inputOf (l.foldl (inputTaken levels) s) k = if k ∈ l then sampleInput (levels.getLsbD k) (inputOf s k) else inputOf s k := by
  induction l generalizing s with
  | nil => exact ⟨rfl, fun k => (if_neg List.not_mem_nil).symm⟩
  | cons i rest ih =>
    obtain ⟨hnew, hrest⟩ := List.nodup_cons.mp hone
    have hothers : ∀ j ∈ rest, inputOf (inputStored levels s i) j = inputOf s j := fun j hj => (inputOf_inputStored ..).trans (if_neg (fun h : j = i => hnew (h ▸ hj)))
    obtain ⟨hrecord, hinputs⟩ := ih (s := inputStored levels s i) hrest (fun j hj => by rw [hothers j hj]; exact hquiet j (List.mem_cons_of_mem _ hj))
    rw [List.foldl_cons, inputTaken_of_short (hquiet i (List.mem_cons_self ..))]
    refine ⟨hrecord, fun k => (hinputs k).trans ?_⟩
    by_cases hk : k ∈ rest
    · rw [if_pos hk, if_pos (List.mem_cons_of_mem _ hk), hothers k hk]
    · rw [if_neg hk, inputOf_inputStored]
      by_cases hi : k = i
      · subst hi
        rw [if_pos rfl, if_pos (List.mem_cons_self ..)]
      · rw [if_neg hi, if_neg (by simp [hi, hk])]

end

/-! Key switches. -/

section
variable {s : State}

/-- The loading of a key component ends. -/
theorem destroyLoad_effect (s : State) : (componentInService s none = false → (destroyLoad s).vit.custody.components = []) ∧ (componentInService s none = true → (destroyLoad s).vit.custody.dying = true) ∧
    (destroyLoad s).vit.galleries = s.vit.galleries := by
  unfold destroyLoad
  refine ⟨fun hnone => ?_, fun hserving => ?_, ?_⟩
  · rw [if_neg (by rw [hnone]; exact Bool.false_ne_true)]
    rfl
  · rw [if_pos hserving]
  · split
    · rfl
    · rfl

/-- The lock-out at the end of a switch's 30 minutes. -/
def lockedOut (t : Nat) (s : State) : State := { advanceTo (t + 1800000000000) s with ao := { s.ao with lockout := true } }

theorem lockedOut_record (t : Nat) (s : State) : latchEvent 39 (destroyLoad (lockedOut t s)) = { s with
    ao := { s.ao with lockout := true }, vit := (latchEvent 39 (destroyLoad (lockedOut t s))).vit, fab := (latchEvent 39 (destroyLoad (lockedOut t s))).fab, now := max s.now (t + 1800000000000) } := by
  have hframe : Frame [.vit, .fab] (lockedOut t s) (latchEvent 39 (destroyLoad (lockedOut t s))) := (frame_destroyLoad _).mono.trans (frame_latchEvent ..).mono
  simpa [lockedOut] using hframe.record

theorem keySwitchTimeout_of_none {b : Bool} (hnone : (mgetD s.ao.switches (b2n b) {}).since = none) : exec (.keySwitchTimeout b) s = .next s := by
  show execKeySwitchTimeout b s = _
  rw [execKeySwitchTimeout, hnone]

variable {b : Bool} {t : Nat} (hsince : (mgetD s.ao.switches (b2n b) {}).since = some t)
include hsince

theorem keySwitchTimeout_of_open (hopen : s.ao.lockout = false) : exec (.keySwitchTimeout b) s = .next (latchEvent 39 (destroyLoad (lockedOut t s))) := by
  show execKeySwitchTimeout b s = _
  rw [execKeySwitchTimeout, hsince]
  exact if_neg (by rw [show (advanceTo (t + 1800000000000) s).ao.lockout = false from hopen]; exact Bool.false_ne_true)

theorem keySwitchTimeout_of_locked (hlocked : s.ao.lockout = true) : exec (.keySwitchTimeout b) s = .next (advanceTo (t + 1800000000000) s) := by
  show execKeySwitchTimeout b s = _
  rw [execKeySwitchTimeout, hsince]
  exact if_pos hlocked

end

section
variable {s : State}

/-- The lock-out over. -/
def lockoutOver (t : Nat) (s : State) : State := { advanceTo (t + 1000000000) s with ao := { s.ao with lockout := false } }

theorem lockoutEnd_of_off {t : Nat} (hlocked : s.ao.lockout = true) (hoff : s.ao.bothOff = some t) : exec .lockoutEnd s = .next (latchEvent 39 (lockoutOver t s)) := by
  show execLockoutEnd s = _
  rw [execLockoutEnd, hlocked, hoff]
  rfl

theorem lockoutEnd_of_none (hnone : s.ao.lockout = false ∨ s.ao.bothOff = none) : exec .lockoutEnd s = .next s := by
  show execLockoutEnd s = _
  rw [execLockoutEnd]
  obtain h | h := hnone
  · rw [h]
  · rw [h]
    cases s.ao.lockout <;> rfl

end

/-! Transitions. -/

/-- The record of a transition as its burn has made it. -/
def burnt (b : Burn) (s : State) : State :=
  { clearLatch b (advanceTo (b.at_ + burnNs b) s) with
    fuses := { (clearLatch b (advanceTo (b.at_ + burnNs b) s)).fuses with
      records := (clearLatch b (advanceTo (b.at_ + burnNs b) s)).fuses.records ++ [{ target := b.target, token := b.token, complete := true }] }
    reg := { (clearLatch b (advanceTo (b.at_ + burnNs b) s)).reg with burn := none, transitioned := true } }

/-- The answer to a transition's request. -/
def burnAnswered (b : Burn) (s : State) : State :=
  match b.ticket with
  | some t => if ((desc s t).map (fun d => d.st == .inService)).getD false then answerFn t (okResp []) [] s else s
  | none => sendReply b.bus (replyOk []) s

section
variable {b : Burn} {s : State}

theorem burnCompleted_eq (b : Burn) (s : State) : burnCompleted b s = logTransition b.target 0 (burnt b s) := rfl

theorem finishBurn_answered (hburn : s.reg.burn = some b) : finishBurn s = burnAnswered b (burnCompleted b s) := (finishBurn_of_burn hburn).trans rfl

theorem finishBurn_of_none (hnone : s.reg.burn = none) : finishBurn s = s := by
  unfold finishBurn
  rw [hnone]

theorem clearLatch_domain (b : Burn) (s : State) : (clearLatch b s).ao = if tokenClass s.reg.state b.target b.token s.fuses.codeE = some 4 && !b.decided then
    { s.ao with responded := false, latched := 0, recordValid := false, tamperOut := false } else s.ao := by
  unfold clearLatch
  split
  · rfl
  · rfl

theorem clearLatch_ao (b : Burn) (s : State) : (tokenClass s.reg.state b.target b.token s.fuses.codeE = some 4 → b.decided = false →
      (clearLatch b s).ao = { s.ao with responded := false, latched := 0, recordValid := false, tamperOut := false }) ∧
    ((tokenClass s.reg.state b.target b.token s.fuses.codeE ≠ some 4 ∨ b.decided = true) → (clearLatch b s).ao = s.ao) := by
  unfold clearLatch
  refine ⟨fun hclass hopen => ?_, fun hkept => ?_⟩
  · rw [if_pos (by rw [hclass, hopen]; rfl)]
  · rw [if_neg (by obtain h | h := hkept <;> simp [h])]

theorem frame_burnAnswered (b : Burn) (s : State) : Frame [.doc, .cur] s (burnAnswered b s) := by
  unfold burnAnswered
  split
  · exact .ite (fun _ => (frame_answerFn ..).mono) (fun _ => .refl ..)
  · exact (frame_sendReply ..).mono

theorem burnAnswered_after (b : Burn) (s : State) : Frame [.doc, .cur] (burnt b s) (burnAnswered b (burnCompleted b s)) := by
  rw [burnCompleted_eq]
  exact (frame_logRecord ..).mono.trans (frame_burnAnswered ..)

/-- What the burn itself changes. -/
theorem burnt_effect (b : Burn) (s : State) : (burnt b s).now = max s.now (b.at_ + burnNs b) ∧ (burnt b s).reg.burn = none ∧ (burnt b s).reg.transitioned = true ∧
    (burnt b s).fuses = { s.fuses with records := s.fuses.records ++ [{ target := b.target, token := b.token, complete := true }] } ∧ (burnt b s).ao = (clearLatch b s).ao := by
  have hlatch := frame_clearLatch b (advanceTo (b.at_ + burnNs b) s)
  refine ⟨hlatch.now, rfl, rfl, congrArg (fun f : Fuses => ({ f with records := f.records ++ [{ target := b.target, token := b.token, complete := true }] } : Fuses)) hlatch.fuses, ?_⟩
  show (clearLatch b (advanceTo (b.at_ + burnNs b) s)).ao = _
  rw [clearLatch_domain, clearLatch_domain]
  rfl

theorem burnAnswered_desc {t : Nat} {d : Desc} (hticket : b.ticket = some t) (hd : desc s t = some d) :
    (d.st = .inService → (desc (burnAnswered b s) t).map (·.resp) = some (some (okResp []))) ∧ (d.st ≠ .inService → desc (burnAnswered b s) t = some d) := by
  unfold burnAnswered
  rw [hticket]
  dsimp only
  rw [hd]
  refine ⟨fun hst => ?_, fun hst => ?_⟩
  · rw [if_pos (by simp [hst])]
    unfold answerFn
    rw [desc_updDesc_same, hd]
    rfl
  · rw [if_neg (by simp [hst])]
    exact hd

end

section
variable {bus : Nat} {target index : Byte} {token : Bytes} {s : State}

theorem transitionMessage_of_closed (hclosed : mainUp s = false ∨ readoutOnly s = true) : exec (.lcsTransitionMessage bus target index token) s = .next s :=
  if_pos (by obtain h | h := hclosed <;> simp [h])

variable (hreach : busReaches s bus = true) (hmain : mainUp s = true) (hfull : readoutOnly s = false)
include hmain hfull

theorem transitionMessage_of_refused {r : Nat} (hrefused : transitionRefusal s target.toNat index.toNat token false = some r) : exec (.lcsTransitionMessage bus target index token) s =
    .next (serve bus (fun s => ({ code := Status.accessDenied, data := refusalPayload r }, logTransition target.toNat r s)) s) := by
  show execLcsTransitionMessage bus target index token s = _
  rw [execLcsTransitionMessage, if_neg (by rw [hmain, hfull]; decide), hrefused]

theorem transitionMessage_of_allowed (hallowed : transitionRefusal s target.toNat index.toNat token false = none) : exec (.lcsTransitionMessage bus target index token) s =
    .next (serveLater bus (fun s => beginTransition target.toNat index.toNat none bus (logTransition target.toNat 0 s)) s) := by
  show execLcsTransitionMessage bus target index token s = _
  rw [execLcsTransitionMessage, if_neg (by rw [hmain, hfull]; decide), hallowed]

end

/-- A message whose answer comes later, taken from its bus. -/
def taken (bus : Nat) (s : State) : State := if bus = 2 then { s with cur := { s.cur with submit := false } } else s

theorem serveLater_of_any {bus : Nat} {s : State} {act : State → State} (hreach : busReaches s bus = true) : serveLater bus act s = act (taken bus s) := if_neg (by rw [hreach]; decide)

theorem taken_keeps (bus : Nat) (s : State) : Frame [.cur] s (taken bus s) ∧ (taken bus s).cur.replies = s.cur.replies := by
  unfold taken
  split
  · exact ⟨frame_of_cur rfl, rfl⟩
  · exact ⟨.refl .., rfl⟩

theorem beginTransition_effect (target index : Nat) (ticket : Option Nat) (bus : Nat) (s : State) : (beginTransition target index ticket bus s).fuses = s.fuses ∧
    (beginTransition target index ticket bus s).cur = s.cur ∧ (beginTransition target index ticket bus s).reg.burn = some { target := target, token := index, ticket := ticket, bus := bus, at_ := s.now } := by
  have herased : Frame [.fab, .vit, .rng, .pair, .bb, .pow] s (if (tokenClass s.reg.state target index s.fuses.codeE).getD 0 = 4 ∨ (tokenClass s.reg.state target index s.fuses.codeE).getD 0 = 5
      then eraseLine false s else s) := .ite (fun _ => frame_eraseLine ..) (fun _ => .refl ..)
  unfold beginTransition
  dsimp only
  exact ⟨herased.fuses, herased.cur, by rw [herased.now]⟩

theorem desc_burnCompleted (b : Burn) (s : State) (k : Nat) : desc (burnCompleted b s) k = desc s k := (frame_burnCompleted b s).desc k

/-! Debug and the self-test. -/

/-- A challenge drawn. -/
def challenged (s : State) : State := { (drawBytes 4128 32 s).2 with reg := { (drawBytes 4128 32 s).2.reg with challenge := some (drawBytes 4128 32 s).1 } }

theorem challenged_keeps (s : State) : Frame [.rng, .reg] s (challenged s) ∧ (challenged s).reg = { s.reg with challenge := some (drawBytes 4128 32 s).1 } := by
  have hdraw := frame_drawBytes 4128 32 s
  exact ⟨hdraw.mono.trans (frame_of_reg rfl).mono, congrArg (fun g : Registrar => { g with challenge := some (drawBytes 4128 32 s).1 }) hdraw.reg⟩

/-- A signature over challenge and serial under the fused authority, in a state that debug is open to. -/
def grants (key sig ch : Bytes) (s : State) : Bool := debugState s && decide (sha384 key = beBytes 48 Config.debugAuthorityDigest.toNat) && p384Verify key (ch ++ serialBytes) sig

section
variable {s : State} (hreach : busReaches s 0 = true) (hfull : readoutOnly s = false)
include hreach hfull

theorem debugChallenge_of_open (hopen : debugState s = true) (hserves : instServes s 4128 = true) (hmain : mainUp s = true) :
    exec (.debugChallenge 0) s = .next (sendReply 0 (replyOk (drawBytes 4128 32 s).1) (challenged s)) := by
  refine (congrArg Host.Outcome.next (serveFull_of_reached (by decide) hreach hfull)).trans ?_
  rw [if_neg (by rw [hopen, hserves, hmain]; decide)]
  rfl

theorem debugChallenge_of_closed (hclosed : debugState s = false ∨ instServes s 4128 = false ∨ mainUp s = false) : exec (.debugChallenge 0) s = .next (sendReply 0 (replyCode Status.accessDenied) s) := by
  refine (congrArg Host.Outcome.next (serveFull_of_reached (by decide) hreach hfull)).trans ?_
  rw [if_pos (by obtain h | h | h := hclosed <;> simp [h])]

theorem debugResponse_of_none {key sig : Bytes} (hnone : s.reg.challenge = none) : exec (.debugResponse 0 key sig) s = .next (sendReply 0 (replyCode Status.accessDenied) s) := by
  refine (congrArg Host.Outcome.next (serveFull_of_reached (by decide) hreach hfull)).trans ?_
  rw [hnone]

theorem debugResponse_of_challenge {key sig ch : Bytes} (hch : s.reg.challenge = some ch) : ∃ t, exec (.debugResponse 0 key sig) s = .next t ∧ t.reg.challenge = none ∧
    t.ao.debugGrant = (s.ao.debugGrant || grants key sig ch s) := by
  refine ⟨_, congrArg Host.Outcome.next (serveFull_of_reached (by decide) hreach hfull), ?_⟩
  rw [hch]
  dsimp only
  by_cases hok : grants key sig ch s = true
  · have hok' := hok
    unfold grants at hok'
    rw [if_pos hok', hok, Bool.or_true]
    exact ⟨rfl, rfl⟩
  · have hok' := hok
    unfold grants at hok'
    rw [if_neg hok', Bool.eq_false_iff.mpr hok, Bool.or_false]
    exact ⟨rfl, rfl⟩

theorem conservatorRun_of_ready (hmode : s.pow.mode = .diagnostic) (hidle : s.reg.fullRunning = false) :
    exec (.conservatorRun 0) s = .next (sendReply 0 (replyOk []) { s with reg := { s.reg with fullRunning := true } }) := by
  refine (congrArg Host.Outcome.next (serveFull_of_reached (by decide) hreach hfull)).trans ?_
  rw [if_pos (by rw [hmode, hidle]; rfl)]

theorem conservatorRun_of_other (hother : s.pow.mode ≠ .diagnostic ∨ s.reg.fullRunning = true) : exec (.conservatorRun 0) s = .next (sendReply 0 (replyCode Status.accessDenied) s) := by
  refine (congrArg Host.Outcome.next (serveFull_of_reached (by decide) hreach hfull)).trans ?_
  rw [if_neg (by obtain h | h := hother <;> simp [h])]

theorem rawSamples_of_ready {src off : Nat} {b : Bytes} (hmode : s.pow.mode = .diagnostic) (hrun : s.reg.fullRun ≠ 0) (hsrc : src < 8) (hoff : off < 16777216) :
    exec (.rawSamples 0 src off b) s = .next (sendReply 0 (replyOk b) s) := by
  refine (congrArg Host.Outcome.next (serveFull_of_reached (by decide) hreach hfull)).trans ?_
  rw [if_pos (by simp [hmode, hrun, hsrc, hoff])]

theorem rawSamples_of_other {src off : Nat} {b : Bytes} (hother : s.pow.mode ≠ .diagnostic ∨ s.reg.fullRun = 0 ∨ 8 ≤ src ∨ 16777216 ≤ off) :
    exec (.rawSamples 0 src off b) s = .next (sendReply 0 (replyCode Status.accessDenied) s) := by
  refine (congrArg Host.Outcome.next (serveFull_of_reached (by decide) hreach hfull)).trans ?_
  rw [if_neg (by obtain h | h | h | h := hother <;> simp [h])]

end

/-- Settles O53. -/
theorem inputsAndLifeCycle : Obligations.InputsAndLifeCycle := by
  unfold Obligations.InputsAndLifeCycle
  refine ⟨fun levels s => inputSample_of_dead, fun levels s hpowered hquiet => ?_, fun b t s hsince => ⟨fun hopen => ?_, keySwitchTimeout_of_locked hsince⟩, fun b s => keySwitchTimeout_of_none,
    fun t s hlocked hoff => ?_, fun s => lockoutEnd_of_none, fun b s hburn => ?_, fun s hnone => ?_, fun bus target index token s hreach hmain hfull => ⟨fun hallowed => ?_, fun r hrefused hbus => ?_⟩,
    fun bus target index token s => transitionMessage_of_closed, fun s hreach hfull => ⟨fun hopen hserves hmain => ?_, debugChallenge_of_closed hreach hfull, fun key sig => debugResponse_of_none hreach hfull,
      fun key sig ch => debugResponse_of_challenge hreach hfull, conservatorRun_of_ready hreach hfull, conservatorRun_of_other hreach hfull, fun src off b => rawSamples_of_ready hreach hfull,
      fun src off b => rawSamples_of_other hreach hfull⟩, fun bus src off key sig b s hreadout => ?_, fun pass ms s hrunning => ?_, fun pass ms s hidle => ?_⟩
  · have hquiet' : ∀ i ∈ List.range 4, i = 2 ∨ (levels.getLsbD i ≠ (inputOf s i).level → (inputOf s i).run + 1 < 4) := by
      intro i hi
      by_cases h2 : i = 2
      · exact .inl h2
      · exact .inr (hquiet ⟨i, List.mem_range.mp hi⟩ (fun h => h2 (congrArg Fin.val h)))
    obtain ⟨hrecord, hinputs⟩ := inputsTaken_eq List.nodup_range hquiet'
    exact ⟨_, inputSample_of_powered hpowered, hrecord, fun i => (hinputs i).trans (if_pos (List.mem_range.mpr i.isLt))⟩
  · obtain ⟨hgone, hdying, hgalleries⟩ := destroyLoad_effect (lockedOut t s)
    have hevent := frame_latchEvent 39 (destroyLoad (lockedOut t s))
    refine ⟨_, keySwitchTimeout_of_open hsince hopen, lockedOut_record t s, fun hnone => ?_, fun hserving => ?_, ?_, latchEvent_cause ..⟩
    · rw [hevent.vit]
      exact hgone hnone
    · rw [hevent.vit]
      exact hdying hserving
    · rw [hevent.vit]
      exact hgalleries
  · refine ⟨_, lockoutEnd_of_off hlocked hoff, ?_, latchEvent_cause ..⟩
    simpa [lockoutOver] using (frame_latchEvent 39 (lockoutOver t s)).record
  · have hafter := burnAnswered_after b s
    obtain ⟨hnow, hdone, htransitioned, hfuses, hao⟩ := burnt_effect b s
    obtain ⟨hcleared, hkept⟩ := clearLatch_ao b s
    refine ⟨burnAnswered b (burnCompleted b s), congrArg Host.Outcome.next (finishBurn_answered hburn), ?_, ?_, ?_, ?_, fun hclass hopen => ?_, fun hstays => ?_, fun t d hticket hd => ?_⟩
    · rw [hafter.now, hnow]
    · rw [hafter.reg, hdone]
    · rw [hafter.reg, htransitioned]
    · rw [hafter.fuses, hfuses]
    · rw [hafter.ao, hao, hcleared hclass hopen]
    · rw [hafter.ao, hao, hkept hstays]
    · exact burnAnswered_desc hticket ((desc_burnCompleted b s t).trans hd)
  · exact congrArg Host.Outcome.next (finishBurn_of_none hnone)
  · have hexec := (transitionMessage_of_allowed (bus := bus) hmain hfull hallowed).trans (congrArg Host.Outcome.next (serveLater_of_any hreach))
    obtain ⟨hframe, hreplies⟩ := taken_keeps bus s
    have hlog : Frame [.cur] s (logTransition target.toNat 0 (taken bus s)) := hframe.trans (frame_logRecord ..)
    obtain ⟨hfuses, hcur, hburn⟩ := beginTransition_effect target.toNat index.toNat none bus (logTransition target.toNat 0 (taken bus s))
    refine ⟨_, hexec, ?_, ?_, ?_⟩
    · rw [hfuses, hlog.fuses]
    · rw [hcur]
      exact (logOnly_logRecord ..).replies.trans hreplies
    · rw [hburn, hlog.now]
  · subst hbus
    have hexec := (transitionMessage_of_refused (bus := 0) hmain hfull hrefused).trans (congrArg Host.Outcome.next (serve_of_reached (by decide) hreach))
    have hframe : Frame [.cur] s (sendReply 0 { code := Status.accessDenied, data := refusalPayload r } (logTransition target.toNat r s)) := (frame_logRecord ..).trans (frame_sendReply ..)
    refine ⟨_, hexec, by simpa using hframe.record, ?_⟩
    rw [sendReply_smbus]
    exact congrArg (· ++ [_]) (logOnly_logRecord ..).replies
  · obtain ⟨hframe, hreg⟩ := challenged_keeps s
    have hall : Frame [.rng, .reg, .cur, .freeCount] s (sendReply 0 (replyOk (drawBytes 4128 32 s).1) (challenged s)) := hframe.mono.trans (frame_sendReply ..).mono
    have hrecord := hall.record
    rw [(frame_sendReply 0 (replyOk (drawBytes 4128 32 s).1) (challenged s)).reg, hreg] at hrecord
    refine ⟨_, _, debugChallenge_of_open hreach hfull hopen hserves hmain, rfl, ?_, by simpa using hrecord⟩
    rw [sendReply_smbus]
    exact congrArg (fun c : Curator => c.replies ++ _) hframe.cur
  · exact ⟨congrArg Host.Outcome.next (serveFull_of_readout hreadout), congrArg Host.Outcome.next (serveFull_of_readout hreadout), congrArg Host.Outcome.next (serveFull_of_readout hreadout),
      congrArg Host.Outcome.next (serveFull_of_readout hreadout)⟩
  · exact if_neg (by rw [hrunning]; decide)
  · exact if_pos (by rw [hidle]; rfl)

end Sys2Proof.Machine

/-!
PROOFS, part 54: the attestation protocol (17 R408, R411, Table 17-6).
-/

namespace Sys2Proof.Machine

set_option Elab.async false

theorem frame_freeBytes (n : Nat) (s : State) : Frame [.freeCount] s (freeBytes n s).2 := ⟨fun p hp => by cases p <;> simp [agree, freeBytes] at hp ⊢⟩

theorem frame_responseNonce (s : State) : Frame [.rng, .freeCount] s (responseNonce s).2 := by
  unfold responseNonce drawFree
  split
  · exact (frame_drawBytes ..).mono
  · exact (frame_freeBytes ..).mono

/-- An answer over SMBus, with what it takes up into the transcript. -/
def spdmTold (request answer : Bytes) (s : State) : State :=
  { s with cur := { s.cur with transcript := s.cur.transcript ++ request ++ answer, replies := s.cur.replies ++ [{ bus := 0, reply := replyOk answer }] } }

theorem sendReply_spdmAnswer (request answer : Bytes) (s : State) : sendReply 0 (spdmAnswer request answer s).1 (spdmAnswer request answer s).2 = spdmTold request answer s := rfl

section
variable {s : State} (hreach : busReaches s 0 = true)
include hreach

theorem getVersion_eq : exec (.getVersion 0) s = .next (spdmTold [0x10, 0x84, 0, 0] [0x10, 0x04, 0, 0, 0, 1, 0, 0x13] (spdmStage 1 { s with cur := { s.cur with transcript := [] } })) :=
  congrArg Host.Outcome.next (serve_of_reached (by decide) hreach)

theorem getCapabilities_of_other (hother : s.cur.spdm ≠ 1) : exec (.getCapabilities 0) s = .next (sendReply 0 (replyCode spdmUnexpected) s) := by
  refine congrArg Host.Outcome.next ((serve_of_reached (by decide) hreach).trans ?_)
  rw [if_pos hother]

/-- The capabilities, with a free CTExponent. -/
def capabilities (s : State) : Bytes := [0x13, 0x61, 0, 0, 0] ++ (freeBytes 1 s).1 ++ [0, 0] ++ leBytes 4 0x16 ++ leBytes 4 4096 ++ leBytes 4 4096

theorem getCapabilities_of_version (hversion : s.cur.spdm = 1) : exec (.getCapabilities 0) s = .next (spdmTold [0x13, 0xE1, 0, 0] (capabilities s) (spdmStage 2 (freeBytes 1 s).2)) := by
  refine congrArg Host.Outcome.next ((serve_of_reached (by decide) hreach).trans ?_)
  rw [if_neg (by simp [hversion])]
  rfl

theorem negotiateAlgorithms_of_other {a b : Bool} (hother : s.cur.spdm ≠ 2) : exec (.negotiateAlgorithms 0 a b) s = .next (sendReply 0 (replyCode spdmUnexpected) s) := by
  refine congrArg Host.Outcome.next ((serve_of_reached (by decide) hreach).trans ?_)
  rw [if_pos hother]

theorem negotiateAlgorithms_of_missing {a b : Bool} (hstage : s.cur.spdm = 2) (hmissing : (a && b) = false) : exec (.negotiateAlgorithms 0 a b) s = .next (sendReply 0 (replyCode spdmInvalid) s) := by
  refine congrArg Host.Outcome.next ((serve_of_reached (by decide) hreach).trans ?_)
  rw [if_neg (by simp [hstage]), if_pos (by rw [hmissing]; rfl)]

theorem negotiateAlgorithms_of_both (hstage : s.cur.spdm = 2) : exec (.negotiateAlgorithms 0 true true) s = .next (spdmTold [0x13, 0xE3, 0, 0]
    ([0x13, 0x63, 0, 0] ++ leBytes 2 36 ++ [1, 0] ++ leBytes 4 4 ++ leBytes 4 0x80 ++ leBytes 4 2 ++ zeros 16) (spdmStage 3 s)) := by
  refine congrArg Host.Outcome.next ((serve_of_reached (by decide) hreach).trans ?_)
  rw [if_neg (by simp [hstage]), if_neg (by decide)]
  rfl

theorem spdmServe_of_early {act : State → MgmtReply × State} (hearly : s.cur.spdm ≠ 3) : spdmServe 0 act s = sendReply 0 (replyCode spdmUnexpected) s := by
  unfold spdmServe
  rw [serve_of_reached (by decide) hreach, if_neg hearly]

theorem spdmServe_of_open {act : State → MgmtReply × State} (hopen : s.cur.spdm = 3) : spdmServe 0 act s = sendReply 0 (act s).1 (act s).2 := by
  unfold spdmServe
  rw [serve_of_reached (by decide) hreach, if_pos hopen]

variable (hopen : s.cur.spdm = 3)
include hopen

theorem getDigests_of_open : exec (.getDigests 0) s = .next (spdmTold [0x13, 0x81, 0, 0] ([0x13, 0x01, 1, 1] ++ sha384 (certificateChain s)) s) := congrArg Host.Outcome.next (spdmServe_of_open hreach hopen)

theorem getCertificate_of_other {slot off len : Nat} (hother : slot ≠ 0 ∨ (certificateChain s).length ≤ off) : exec (.getCertificate 0 slot off len) s = .next (sendReply 0 (replyCode spdmInvalid) s) := by
  refine congrArg Host.Outcome.next ((spdmServe_of_open hreach hopen).trans ?_)
  dsimp only
  rw [if_pos hother]

theorem getCertificate_of_chain {off len : Nat} (hoff : off < (certificateChain s).length) : exec (.getCertificate 0 0 off len) s = .next (spdmTold ([0x13, 0x82, 0, 0] ++ leBytes 2 off ++ leBytes 2 len)
    ([0x13, 0x02, 0, 0] ++ leBytes 2 (((certificateChain s).drop off).take len).length ++
      leBytes 2 ((certificateChain s).length - off - (((certificateChain s).drop off).take len).length) ++ ((certificateChain s).drop off).take len) s) := by
  refine congrArg Host.Outcome.next ((spdmServe_of_open hreach hopen).trans ?_)
  dsimp only
  rw [if_neg (by simp only [ne_eq, not_true_eq_false, false_or, ge_iff_le, not_le]; exact hoff)]
  rfl

theorem challenge_of_busy {nonce : BitVec 256} (hbusy : canSign s = false) : exec (.challenge 0 0 nonce) s = .next (sendReply 0 (replyCode spdmBusy) s) := by
  refine congrArg Host.Outcome.next ((spdmServe_of_open hreach hopen).trans ?_)
  rw [if_neg (by decide), if_pos (by rw [hbusy]; rfl)]

/-- The signed answer ends the transcript. -/
def spdmSigned (answer : Bytes) (s : State) : State := sendReply 0 (replyOk answer) { s with cur := { s.cur with transcript := [] } }

theorem challenge_of_signs {nonce : BitVec 256} (hsigns : canSign s = true) : ∃ answer, exec (.challenge 0 0 nonce) s = .next (spdmSigned answer (responseNonce s).2) := by
  have hexec : exec (.challenge 0 0 nonce) s = _ := congrArg Host.Outcome.next (spdmServe_of_open hreach hopen)
  rw [if_neg (by decide), if_neg (by rw [hsigns]; decide)] at hexec
  generalize responseNonce s = r at hexec ⊢
  obtain ⟨n, v⟩ := r
  exact ⟨_, hexec⟩

theorem getMeasurements_of_readout {i : Nat} {sign : Bool} {nonce : BitVec 256} (hreadout : readoutOnly s = true) :
    exec (.getMeasurements 0 i sign nonce) s = .next (sendReply 0 (replyCode spdmUnsupported) s) := by
  refine congrArg Host.Outcome.next ((spdmServe_of_open hreach hopen).trans ?_)
  rw [if_pos hreadout]

variable (hfull : readoutOnly s = false)
include hfull

theorem getMeasurements_of_none {i : Nat} {sign : Bool} {nonce : BitVec 256} (hnone : measurementBlocks s i = none) :
    exec (.getMeasurements 0 i sign nonce) s = .next (sendReply 0 (replyCode spdmInvalid) s) := by
  refine congrArg Host.Outcome.next ((spdmServe_of_open hreach hopen).trans ?_)
  rw [if_neg (by rw [hfull]; exact Bool.false_ne_true), hnone]

variable {i k : Nat} {b : Bytes} {nonce : BitVec 256} (hblocks : measurementBlocks s i = some (k, b))
include hblocks

theorem getMeasurements_of_busy (hbusy : canSign s = false) : exec (.getMeasurements 0 i true nonce) s = .next (sendReply 0 (replyCode spdmBusy) s) := by
  refine congrArg Host.Outcome.next ((spdmServe_of_open hreach hopen).trans ?_)
  rw [if_neg (by rw [hfull]; exact Bool.false_ne_true), hblocks]
  dsimp only
  rw [if_pos (by rw [hbusy]; rfl)]

theorem getMeasurements_of_signs (hsigns : canSign s = true) : ∃ answer, exec (.getMeasurements 0 i true nonce) s = .next (spdmSigned answer (responseNonce s).2) := by
  have hexec : exec (.getMeasurements 0 i true nonce) s = _ := congrArg Host.Outcome.next (spdmServe_of_open hreach hopen)
  rw [if_neg (by rw [hfull]; exact Bool.false_ne_true), hblocks] at hexec
  dsimp only at hexec
  rw [if_neg (by rw [hsigns]; decide)] at hexec
  generalize responseNonce s = r at hexec ⊢
  obtain ⟨n, v⟩ := r
  exact ⟨_, hexec⟩

theorem getMeasurements_unsigned : ∃ request answer, exec (.getMeasurements 0 i false nonce) s = .next (spdmTold request answer (responseNonce s).2) := by
  have hexec : exec (.getMeasurements 0 i false nonce) s = _ := congrArg Host.Outcome.next (spdmServe_of_open hreach hopen)
  rw [if_neg (by rw [hfull]; exact Bool.false_ne_true), hblocks] at hexec
  dsimp only at hexec
  rw [if_neg (by rw [Bool.false_and]; exact Bool.false_ne_true)] at hexec
  generalize responseNonce s = r at hexec ⊢
  obtain ⟨n, v⟩ := r
  exact ⟨_, _, hexec⟩

end

/-! What the answers leave. -/

theorem spdmTold_keeps {request answer : Bytes} {s u : State} (hframe : Frame [.rng, .freeCount] s u) : spdmTold request answer u =
    { s with cur := (spdmTold request answer u).cur, rng := (spdmTold request answer u).rng, freeCount := (spdmTold request answer u).freeCount } ∧ s.cur.transcript <+: (spdmTold request answer u).cur.transcript := by
  have hall : Frame [.cur, .rng, .freeCount] s (spdmTold request answer u) := hframe.mono.trans (frame_of_cur rfl).mono
  refine ⟨by simpa using hall.record, ?_⟩
  show _ <+: u.cur.transcript ++ request ++ answer
  rw [hframe.cur, List.append_assoc]
  exact List.prefix_append ..

theorem spdmSigned_keeps {answer : Bytes} {s u : State} (hframe : Frame [.rng, .freeCount] s u) : spdmSigned answer u =
    { s with cur := (spdmSigned answer u).cur, rng := (spdmSigned answer u).rng, freeCount := (spdmSigned answer u).freeCount } ∧ (spdmSigned answer u).cur.transcript = [] ∧
    (spdmSigned answer u).cur.replies.length = s.cur.replies.length + 1 := by
  have hall : Frame [.cur, .rng, .freeCount] s (spdmSigned answer u) := hframe.mono.trans (frame_of_cur rfl).mono
  refine ⟨by simpa using hall.record, rfl, ?_⟩
  show (u.cur.replies ++ [_]).length = _
  rw [List.length_append, hframe.cur]
  rfl

/-- Settles O59, request by request. -/
theorem attestation : Obligations.Attestation := by
  unfold Obligations.Attestation
  refine fun s hreach => ⟨⟨_, getVersion_eq hreach, rfl, rfl, rfl, rfl⟩, fun hversion => ⟨_, capabilities s, getCapabilities_of_version hreach hversion, rfl, rfl, rfl, rfl⟩, getCapabilities_of_other hreach,
    fun hstage => ⟨_, _, negotiateAlgorithms_of_both hreach hstage, rfl, rfl, rfl⟩, fun a b hstage => negotiateAlgorithms_of_missing hreach hstage, fun a b => negotiateAlgorithms_of_other hreach,
    fun slot off len i sign nonce hearly => ⟨congrArg Host.Outcome.next (spdmServe_of_early hreach hearly), congrArg Host.Outcome.next (spdmServe_of_early hreach hearly),
      congrArg Host.Outcome.next (spdmServe_of_early hreach hearly), congrArg Host.Outcome.next (spdmServe_of_early hreach hearly)⟩,
    fun hopen => ⟨⟨_, getDigests_of_open hreach hopen, rfl, rfl⟩, fun off len hoff => ⟨_, getCertificate_of_chain hreach hopen hoff, rfl, rfl⟩, fun slot off len => getCertificate_of_other hreach hopen,
      fun nonce hsigns => ?_, fun nonce => challenge_of_busy hreach hopen, fun i k b nonce hfull hblocks => ⟨fun hsigns => ?_, ?_, getMeasurements_of_busy hreach hopen hfull hblocks⟩,
      fun i sign nonce hfull => getMeasurements_of_none hreach hopen hfull, fun i sign nonce => getMeasurements_of_readout hreach hopen⟩⟩
  · obtain ⟨answer, hexec⟩ := challenge_of_signs (nonce := nonce) hreach hopen hsigns
    obtain ⟨hrecord, hended, hreplied⟩ := spdmSigned_keeps (answer := answer) (frame_responseNonce s)
    exact ⟨_, hexec, hrecord, hended, hreplied⟩
  · obtain ⟨answer, hexec⟩ := getMeasurements_of_signs (nonce := nonce) hreach hopen hfull hblocks hsigns
    obtain ⟨hrecord, hended, -⟩ := spdmSigned_keeps (answer := answer) (frame_responseNonce s)
    exact ⟨_, hexec, hrecord, hended⟩
  · obtain ⟨request, answer, hexec⟩ := getMeasurements_unsigned (nonce := nonce) hreach hopen hfull hblocks
    obtain ⟨hrecord, hprefix⟩ := spdmTold_keeps (request := request) (answer := answer) (frame_responseNonce s)
    exact ⟨_, hexec, hrecord, hprefix⟩

end Sys2Proof.Machine

/-!
PROOFS, part 55: management messages that read or set (17 R402, R407, R408, R410).
-/

namespace Sys2Proof.Machine

set_option Elab.async false

/-- What the inventory says besides the serial number. -/
def inventoryRest (s : State) : Bytes :=
  if readoutOnly s then fuseMap s else leBytes 1 (b2n s.fuses.codeE) ++ leBytes 1 s.reg.state ++ leBytes 8 s.cur.fwVersion ++ leBytes 8 s.img.version ++ leBytes 2 s.fuses.arc

section
variable {bus : Nat} {s : State} (hbus : bus ≠ 2) (hreach : busReaches s bus = true)
include hbus hreach

theorem inventory_of_reached : exec (.inventory bus) s = .next (sendReply bus (replyOk (serialBytes ++ inventoryRest s)) s) := congrArg Host.Outcome.next (serve_of_reached hbus hreach)

variable (hfull : readoutOnly s = false)
include hfull

theorem setEndpointId_of_reached (eid : Byte) : exec (.setEndpointId bus eid) s = .next (if eid = 0 ∨ eid = 0xFF then sendReply bus (replyCode 2) s
    else sendReply bus (replyOk [0, eid, 0]) { s with cur := { s.cur with eid := eid.toNat } }) := by
  refine congrArg Host.Outcome.next ((serveFull_of_reached hbus hreach hfull).trans ?_)
  dsimp only
  split <;> rfl

theorem mctpVersionSupport_of_known {type : Byte} {p : Nat} (hknown : mctpProtocol type.toNat = some p) : exec (.getMctpVersionSupport bus type) s = .next (sendReply bus (replyOk (1 :: versionBytes p)) s) := by
  refine congrArg Host.Outcome.next ((serveFull_of_reached hbus hreach hfull).trans ?_)
  rw [hknown]

theorem mctpVersionSupport_of_unknown {type : Byte} (hunknown : mctpProtocol type.toNat = none) : exec (.getMctpVersionSupport bus type) s = .next (sendReply bus (replyCode 0x80) s) := by
  refine congrArg Host.Outcome.next ((serveFull_of_reached hbus hreach hfull).trans ?_)
  rw [hunknown]

theorem vendorMessageSupport_of_reached (sel : Byte) : exec (.getVendorDefinedMessageSupport bus sel) s = .next (sendReply bus
    (if sel = 0 then replyOk ([0xFF, 0] ++ beBytes 2 Config.vendorId.toNat ++ [0, 0]) else replyCode 2) s) := by
  refine congrArg Host.Outcome.next ((serveFull_of_reached hbus hreach hfull).trans ?_)
  split <;> rfl

/-- A PLDM type is answered with its commands, another with code 0x83. -/
theorem pldmCommands_of_reached (type : Byte) : ∃ r, exec (.getPldmCommands bus type) s = .next (sendReply bus r s) ∧ (r.code = 0 ↔ (pldmCommands type.toNat).isSome = true) := by
  have hexec : exec (.getPldmCommands bus type) s = _ := congrArg Host.Outcome.next (serveFull_of_reached hbus hreach hfull)
  cases hcommands : pldmCommands type.toNat with
  | some cs =>
    rw [hcommands] at hexec
    exact ⟨_, hexec, by simp [replyOk]⟩
  | none =>
    rw [hcommands] at hexec
    exact ⟨_, hexec, by simp [replyCode]⟩

theorem pldmVersion_of_reached (type : Byte) : ∃ r, exec (.getPldmVersion bus type) s = .next (sendReply bus r s) ∧ (r.code = 0 ↔ (pldmCommands type.toNat).isSome = true) := by
  have hexec : exec (.getPldmVersion bus type) s = _ := congrArg Host.Outcome.next (serveFull_of_reached hbus hreach hfull)
  by_cases hknown : (pldmCommands type.toNat).isSome = true
  · rw [if_pos hknown] at hexec
    exact ⟨_, hexec, by simp [hknown, replyOk]⟩
  · rw [if_neg hknown] at hexec
    exact ⟨_, hexec, by simp [hknown, replyCode]⟩

/-- A known sensor's reading takes a free byte for the previous state. -/
theorem sensorReading_of_reached (n : Nat) : ∃ r u, exec (.getSensorReading bus n) s = .next (sendReply bus r u) ∧ u = { s with freeCount := u.freeCount } ∧ (r.code = 0 ↔ sensorKnown n = true) := by
  have hexec : exec (.getSensorReading bus n) s = _ := congrArg Host.Outcome.next (serveFull_of_reached hbus hreach hfull)
  by_cases hknown : sensorKnown n = true
  · rw [if_neg (by rw [hknown]; decide)] at hexec
    exact ⟨_, _, hexec, rfl, by simp [hknown, replyOk]⟩
  · rw [if_pos (by simp [hknown])] at hexec
    exact ⟨_, _, hexec, rfl, by simp [hknown, replyCode]⟩

theorem stateSensorReadings_of_reached (n : Nat) : ∃ r u, exec (.getStateSensorReadings bus n) s = .next (sendReply bus r u) ∧ u = { s with freeCount := u.freeCount } ∧
    (r.code = 0 ↔ n = Config.modeSensor.toNat ∨ n = Config.tamperSensor.toNat) := by
  have hexec : exec (.getStateSensorReadings bus n) s = _ := congrArg Host.Outcome.next (serveFull_of_reached hbus hreach hfull)
  by_cases hmode : n = Config.modeSensor.toNat
  · rw [if_pos hmode] at hexec
    exact ⟨_, _, hexec, rfl, by simp [hmode, replyOk]⟩
  rw [if_neg hmode] at hexec
  by_cases htamper : n = Config.tamperSensor.toNat
  · rw [if_pos htamper] at hexec
    exact ⟨_, _, hexec, rfl, by simp [htamper, replyOk]⟩
  · rw [if_neg htamper] at hexec
    exact ⟨_, _, hexec, rfl, by simp [hmode, htamper, replyCode]⟩

theorem pdr_of_reached (n : Nat) : ∃ r, exec (.getPdr bus n) s = .next (sendReply bus r s) ∧ (r.code = 0 ↔ Config.pdrHeld n = true) := by
  have hexec : exec (.getPdr bus n) s = _ := congrArg Host.Outcome.next (serveFull_of_reached hbus hreach hfull)
  by_cases hheld : Config.pdrHeld n = true
  · rw [if_pos hheld] at hexec
    exact ⟨_, hexec, by simp [hheld, replyOk]⟩
  · rw [if_neg hheld] at hexec
    exact ⟨_, hexec, by simp [hheld, replyCode]⟩

theorem pdrRepositoryInfo_of_reached : ∃ r, exec (.getPdrRepositoryInfo bus) s = .next (sendReply bus r s) ∧ r.code = 0 ∧ r.data.length = 40 := by
  have hexec : exec (.getPdrRepositoryInfo bus) s = _ := congrArg Host.Outcome.next (serveFull_of_reached hbus hreach hfull)
  exact ⟨_, hexec, rfl, by simp [replyOk]⟩

theorem setEventReceiver_of_reached (e a : Byte) : exec (.setEventReceiver bus e a) s = .next (if e.toNat > 3 then sendReply bus (replyCode 2) s
    else sendReply bus (replyOk []) { s with cur := { s.cur with eventReceiver := (e.toNat, a.toNat), eventBus := bus } }) := by
  refine congrArg Host.Outcome.next ((serveFull_of_reached hbus hreach hfull).trans ?_)
  dsimp only
  split <;> rfl

/-- The records that a log read from `first` on finds. -/
def recordsFrom (s : State) (first count : Nat) : List Bytes := (List.range count).filterMap (fun i => heldRecord s (first + i))

theorem logRead_of_right {first count : Nat} (hright : hasRight (fixedRow s curatorRow) 6 rightRD = true) : exec (.logRead bus first count) s = .next (sendReply bus
    (if count < 1 ∨ count > 60 then replyCode Status.paramRejected else replyOk (leBytes 1 (recordsFrom s first count).length ++ (recordsFrom s first count).flatten)) s) := by
  refine congrArg Host.Outcome.next ((serveFull_of_reached hbus hreach hfull).trans ?_)
  dsimp only
  rw [if_pos hright]
  split <;> rfl

/-- Without RD on target 6 no record is found. -/
theorem logRead_of_noRight {first count : Nat} (hright : hasRight (fixedRow s curatorRow) 6 rightRD = false) (hlow : 1 ≤ count) (hhigh : count ≤ 60) :
    exec (.logRead bus first count) s = .next (sendReply bus (replyOk [0]) s) := by
  refine congrArg Host.Outcome.next ((serveFull_of_reached hbus hreach hfull).trans ?_)
  dsimp only
  rw [if_neg (by omega : ¬(count < 1 ∨ count > 60)), if_neg (by rw [hright]; decide)]
  rfl

end

/-- Settles O57: a message that reaches the Curator is answered on its bus by its row's own rule; in SCRAPPED and TERMINATED only the inventory is, and a bus that does not reach it changes nothing. -/
theorem managementMessages : Obligations.ManagementMessages := by
  unfold Obligations.ManagementMessages
  refine ⟨fun bus s hreach hoob => ?_, fun bus n e s haway => ?_⟩
  · have hbus : bus ≠ 2 := by omega
    refine ⟨inventory_of_reached hbus hreach, fun hfull => ?_, fun hreadout e a n m => ?_⟩
    · have hserved {act : State → MgmtReply × State} := serveFull_of_reached (act := act) hbus hreach hfull
      refine ⟨congrArg _ hserved, congrArg _ hserved, congrArg _ hserved, congrArg _ hserved, congrArg _ hserved, setEndpointId_of_reached hbus hreach hfull, fun type => ?_,
        vendorMessageSupport_of_reached hbus hreach hfull, fun type => ⟨pldmCommands_of_reached hbus hreach hfull type, pldmVersion_of_reached hbus hreach hfull type⟩,
        sensorReading_of_reached hbus hreach hfull, stateSensorReadings_of_reached hbus hreach hfull, pdr_of_reached hbus hreach hfull, pdrRepositoryInfo_of_reached hbus hreach hfull,
        setEventReceiver_of_reached hbus hreach hfull, fun _ _ hright => logRead_of_right hbus hreach hfull hright, fun _ _ hright hlow hhigh => logRead_of_noRight hbus hreach hfull hright hlow hhigh⟩
      cases hprotocol : mctpProtocol type.toNat with
      | some p => exact mctpVersionSupport_of_known hbus hreach hfull hprotocol
      | none => exact mctpVersionSupport_of_unknown hbus hreach hfull hprotocol
    · have hsilent {act : State → MgmtReply × State} := serveFull_of_readout (bus := bus) (act := act) hreadout
      exact ⟨congrArg _ hsilent, congrArg _ hsilent, congrArg _ hsilent, congrArg _ hsilent, congrArg _ hsilent, congrArg _ hsilent, congrArg _ hsilent, congrArg _ hsilent, congrArg _ hsilent,
        congrArg _ hsilent⟩
  · have hsilent {act : State → MgmtReply × State} := serveFull_of_away (act := act) haway
    exact ⟨congrArg _ (serve_of_away haway), congrArg _ hsilent, congrArg _ hsilent, congrArg _ hsilent, congrArg _ hsilent, congrArg _ (serve_of_away haway), congrArg _ hsilent, congrArg _ hsilent,
      congrArg _ hsilent⟩

end Sys2Proof.Machine

/-!
PROOFS, part 56: the Curator's core, its sensors, its log and its mailbox (17 R402, R403, R405, R406, R408, R416, R417).
-/

namespace Sys2Proof.Machine

set_option Elab.async false

/-! An update given up. -/

theorem frame_eraseUlondHeader (s : State) : Frame [.img] s (eraseUlondHeader s) := ⟨fun p hp => by cases p <;> simp [agree, eraseUlondHeader, updUlond] at hp ⊢⟩

theorem frame_eraseFirmware (n : Nat) (s : State) : Frame [.img] s (eraseFirmware n s) := ⟨fun p hp => by cases p <;> simp [agree, eraseFirmware, setFwData, setFirmware] at hp ⊢⟩

theorem frame_eraseStaged (u : Update) (s : State) : Frame [.img] s (eraseStaged u s) := by
  unfold eraseStaged
  dsimp only
  refine .andThen (?_ : Frame [.img] s _) (.ite (fun _ => frame_eraseFirmware ..) (fun _ => .refl _ _))
  exact .ite (fun _ => frame_eraseUlondHeader s) (fun _ => .refl _ s)

theorem refreshed_cur (R : State → State) (hR : ∀ u : State, R u = { u with fab := (R u).fab }) (s : State) : (R (settleReady s)).cur = s.cur := by
  rw [hR, settleReady_only]

/-- The Curator's states differ in the log at most. -/
def CurLog (c d : Curator) : Prop :=
  d = { c with logSeq := d.logSeq, logSram := d.logSram, logRing := d.logRing, logMirror := d.logMirror, sinceCheckpoint := d.sinceCheckpoint, buffered := d.buffered }

theorem LogOnly.cur {s t : State} (h : LogOnly s t) : CurLog s.cur t.cur := congrArg State.cur h

theorem withMode_refreshed (f : Power → Power) (s : State) : ∃ R : State → State, (∀ u : State, R u = { u with fab := (R u).fab }) ∧ withMode f s = R (settleReady
    (if modeCode s.pow = modeCode (f s.pow) then { s with pow := f s.pow }
     else logRecord 0x0011 0 0 [BitVec.ofNat 8 (modeCode s.pow), BitVec.ofNat 8 (modeCode (f s.pow))] { s with pow := f s.pow })) :=
  ⟨refreshWindows, refreshWindows_fab, withMode_eq f s⟩

theorem changedMode_log (f : Power → Power) (s : State) : LogOnly { s with pow := f s.pow } (if modeCode s.pow = modeCode (f s.pow) then { s with pow := f s.pow }
     else logRecord 0x0011 0 0 [BitVec.ofNat 8 (modeCode s.pow), BitVec.ofNat 8 (modeCode (f s.pow))] { s with pow := f s.pow }) := by
  split
  · exact .refl _
  · exact logOnly_logRecord ..

/-- A change of mode changes the log of the Curator at most. -/
theorem curLog_withMode (f : Power → Power) (s : State) : CurLog s.cur (withMode f s).cur := by
  obtain ⟨R, hR, hmode⟩ := withMode_refreshed f s
  rw [hmode, refreshed_cur R hR]
  exact (changedMode_log f s).cur

theorem curLog_setMode (m : Mode) (s : State) : CurLog s.cur (setMode m s).cur := curLog_withMode ..

/-- What the flow staged is erased, and it is closed. -/
def updateErased (s : State) : State :=
  { (match s.cur.update with
    | some u => eraseStaged u s
    | none => s) with cur := { s.cur with update := none } }

theorem frame_updateErased (s : State) : Frame [.img, .cur] s (updateErased s) := by
  unfold updateErased
  split
  · exact .andThen (frame_eraseStaged _ s).mono (frame_of_cur rfl)
  · exact (frame_of_cur rfl).mono

theorem abandonUpdate_eq (s : State) : abandonUpdate s = if s.pow.mode == .update then
      setMode .quiesce { updateErased s with pow := { s.pow with quiesce := some { ticket := none, drainAt := s.now, expired := true, complete := true, forUpdate := false } } }
    else { updateErased s with pow := { s.pow with quiesce := s.pow.quiesce.map (fun q => { q with forUpdate := false }) } } := by
  have hstaged : { (match s.cur.update with | some u => eraseStaged u s | none => s) with
      cur := { (match s.cur.update with | some u => eraseStaged u s | none => s).cur with update := none } } = updateErased s := by
    unfold updateErased
    split
    · rw [(frame_eraseStaged _ s).cur]
    · rfl
  unfold abandonUpdate
  dsimp only
  have hframe := frame_updateErased s
  rw [← hframe.pow, ← hframe.now, ← hstaged] <;> rfl

/-- The flow given up leaves UPDATE for a QUIESCE that is complete, and changes nothing but what was staged. -/
theorem abandonUpdate_effect (s : State) : Frame [.fab, .pow, .img, .cur] s (abandonUpdate s) ∧ CurLog { s.cur with update := none } (abandonUpdate s).cur ∧
    (s.pow.mode = .update → (abandonUpdate s).pow.mode = .quiesce ∧ (abandonUpdate s).pow.quiesce.map (·.complete) = some true) := by
  have hframe := (frame_updateErased s).mono (qs := [.fab, .pow, .img, .cur])
  have hpow (p : Power) : Frame [.fab, .pow, .img, .cur] s { updateErased s with pow := p } := hframe.trans (.mono (frame_of_pow rfl))
  rw [abandonUpdate_eq]
  by_cases hupdate : s.pow.mode = .update
  · rw [if_pos (by simp [hupdate])]
    refine ⟨(hpow _).trans (frame_setMode ..).mono, curLog_setMode .quiesce { updateErased s with pow := _ }, fun _ => ?_⟩
    rw [setMode_pow]
    exact ⟨rfl, rfl⟩
  · rw [if_neg (by simp [hupdate])]
    exact ⟨hpow _, rfl, fun h => absurd h hupdate⟩

/-! The core. -/

section
variable {s : State} {back : Bool}

/-- The core that begins its restart. -/
def coreFaulted (s : State) : State :=
  { abandonUpdate s with cur := { (abandonUpdate s).cur with
    restarting := some ((abandonUpdate s).now + 50000000), restarts := sat 0xFFFF ((abandonUpdate s).cur.restarts + 1), spdm := 0, transcript := [] } }

theorem curatorRestart_of_fault (hvaux : s.ao.vaux = true) (hup : s.cur.restarting = none) : exec (.curatorRestart false) s = .next (coreFaulted s) := by
  show execCuratorRestart false s = _
  unfold execCuratorRestart
  rw [if_neg (by rw [hvaux]; decide), hup]
  rfl

theorem coreFaulted_effect (s : State) : Frame [.fab, .pow, .img, .cur] s (coreFaulted s) ∧ (coreFaulted s).cur.update = none ∧ (coreFaulted s).cur.restarts = sat 0xFFFF (s.cur.restarts + 1) := by
  obtain ⟨hframe, hcur, -⟩ := abandonUpdate_effect s
  unfold CurLog at hcur
  refine ⟨hframe.trans (.mono (frame_of_cur rfl)), ?_, ?_⟩
  · exact congrArg Curator.update hcur
  · have hrestarts : (abandonUpdate s).cur.restarts = s.cur.restarts := (congrArg Curator.restarts hcur).trans rfl
    exact congrArg (fun n => sat 0xFFFF (n + 1)) hrestarts

theorem curatorRestart_of_back {at_ : Nat} (hvaux : s.ao.vaux = true) (hdown : s.cur.restarting = some at_) (hnone : s.cur.buffered = []) :
    exec (.curatorRestart true) s = .next (logRecord 0x0020 0 0 [] { s with cur := { s.cur with restarting := none, buffered := [] } }) := by
  show execCuratorRestart true s = _
  unfold execCuratorRestart
  rw [if_neg (by rw [hvaux]; decide), hdown]
  dsimp only
  rw [curatorBack, hnone]
  rfl

theorem curatorRestart_of_other (hother : s.ao.vaux = false ∨ s.cur.restarting.isSome = !back) : exec (.curatorRestart back) s = .next s := by
  show execCuratorRestart back s = _
  unfold execCuratorRestart
  by_cases hvaux : s.ao.vaux = false
  · exact if_pos (by rw [hvaux]; rfl)
  rw [if_neg (by simpa using hvaux)]
  have hphase := hother.resolve_left hvaux
  cases hrestarting : s.cur.restarting <;> cases back <;> simp [hrestarting] at hphase ⊢

end

/-! Readings. -/

section
variable {i : Nat} {r : SensorReading} {s : State}

/-- A reading as it is published. -/
def published (i : Nat) (r : SensorReading) (s : State) : State :=
  { noteSupply i r.value s with cur := { (noteSupply i r.value s).cur with sensors := mset (noteSupply i r.value s).cur.sensors i { value := r.value, valid := true, warn := r.warn, crit := r.crit, at_ := s.now } } }

theorem noteSupply_eq (i : Nat) (v : Int) (s : State) : noteSupply i v s = { s with ao := { s.ao with supplies := (noteSupply i v s).ao.supplies } } := by
  unfold noteSupply
  dsimp only
  split
  · rfl
  split
  · rfl
  split <;> rfl

/-- A valid reading is published; where a threshold is crossed it is logged and told to the receiver. -/
theorem takeReading_of_valid (hknown : sensorKnown i = true) (hvalid : r.valid = true) (hmain : mainUp s = true) :
    takeReading i r s = if r.warn = (mgetD s.cur.sensors i {}).warn ∧ r.crit = (mgetD s.cur.sensors i {}).crit then published i r s
      else if (logRecord 0x00B0 0 0 (leBytes 2 i ++ leBytes 2 (signed 16 r.value)) (published i r s)).cur.eventReceiver.1 = 0 then
        logRecord 0x00B0 0 0 (leBytes 2 i ++ leBytes 2 (signed 16 r.value)) (published i r s)
      else sendMctp (logRecord 0x00B0 0 0 (leBytes 2 i ++ leBytes 2 (signed 16 r.value)) (published i r s)).cur.eventBus (.event i r.value)
        (logRecord 0x00B0 0 0 (leBytes 2 i ++ leBytes 2 (signed 16 r.value)) (published i r s)) := by
  unfold takeReading
  rw [if_neg (by rw [hknown]; decide)]
  dsimp only
  rw [if_neg (by rw [hvalid, hmain]; simp)]
  rfl

theorem sensors_sendMctp (bus : Nat) (m : MctpMsg) (s : State) : (sendMctp bus m s).cur.sensors = s.cur.sensors := by
  unfold sendMctp emitMctp
  split
  · rfl
  · cases m <;> rfl

theorem published_effect : published i r s = { s with ao := { s.ao with supplies := (published i r s).ao.supplies }, cur := (published i r s).cur } := by
  have hsupply := noteSupply_eq i r.value s
  unfold published
  generalize noteSupply i r.value s = t at hsupply
  rw [hsupply]

theorem sensorSample_of_valid (hruns : curatorRuns s = true) (hknown : sensorKnown i = true) (hvalid : r.valid = true) (hmain : mainUp s = true) :
    ∃ t, exec (.sensorSample [(i, r)]) s = .next t ∧ t = { s with ao := { s.ao with supplies := t.ao.supplies }, cur := t.cur } ∧
      mget t.cur.sensors i = some { value := r.value, valid := true, warn := r.warn, crit := r.crit, at_ := s.now } ∧
      (r.warn = (mgetD s.cur.sensors i {}).warn → r.crit = (mgetD s.cur.sensors i {}).crit → t.cur.logSeq = s.cur.logSeq) := by
  have hafter : ∀ t, Frame [.cur] (published i r s) t → t = { s with ao := { s.ao with supplies := t.ao.supplies }, cur := t.cur } := fun t hframe => by
    have hrecord : t = { published i r s with cur := t.cur } := by simpa using hframe.record
    rw [hframe.ao]
    conv_lhs => rw [hrecord, published_effect]
  refine ⟨takeReading i r s, congrArg Host.Outcome.next (if_pos hruns), ?_⟩
  rw [takeReading_of_valid hknown hvalid hmain]
  have hput : mget (published i r s).cur.sensors i = some { value := r.value, valid := true, warn := r.warn, crit := r.crit, at_ := s.now } := mget_mset_same ..
  have hlog := logOnly_logRecord 0x00B0 0 0 (leBytes 2 i ++ leBytes 2 (signed 16 r.value)) (published i r s)
  have hlogged : (logRecord 0x00B0 0 0 (leBytes 2 i ++ leBytes 2 (signed 16 r.value)) (published i r s)).cur.sensors = (published i r s).cur.sensors := (congrArg Curator.sensors hlog.cur).trans rfl
  by_cases hsame : r.warn = (mgetD s.cur.sensors i {}).warn ∧ r.crit = (mgetD s.cur.sensors i {}).crit
  · rw [if_pos hsame]
    exact ⟨hafter _ (.refl _ _), hput, fun _ _ => (congrArg (·.cur.logSeq) (noteSupply_eq i r.value s)).trans rfl⟩
  have hcrossed {t : State} : r.warn = (mgetD s.cur.sensors i {}).warn → r.crit = (mgetD s.cur.sensors i {}).crit → t.cur.logSeq = s.cur.logSeq := fun hw hc => absurd ⟨hw, hc⟩ hsame
  rw [if_neg hsame]
  split
  · exact ⟨hafter _ hlog.frame, by rw [hlogged, hput], hcrossed⟩
  · exact ⟨hafter _ (hlog.frame.trans (frame_sendMctp ..)), by rw [sensors_sendMctp, hlogged, hput], hcrossed⟩

theorem sensorSample_of_invalid (hruns : curatorRuns s = true) (hknown : sensorKnown i = true) (hinvalid : r.valid = false ∨ (mainUp s = false ∧ sensorInVault i = false)) :
    exec (.sensorSample [(i, r)]) s = .next { s with cur := { s.cur with sensors := mset s.cur.sensors i { mgetD s.cur.sensors i {} with valid := false, warn := false, crit := false } } } := by
  refine congrArg Host.Outcome.next ((if_pos hruns).trans ?_)
  show takeReading i r s = _
  unfold takeReading
  rw [if_neg (by rw [hknown]; decide)]
  refine if_pos ?_
  rcases hinvalid with hbad | ⟨hdown, hout⟩
  · simp [hbad]
  · simp [hdown, hout]

end

/-! The log's checkpoint and the mailbox. -/

section
variable {s : State}

theorem logCheckpoint_of_early (hearly : s.cur.restarting.isSome = true ∨ s.cur.sinceCheckpoint < 4096) : exec .logCheckpoint s = .next s :=
  congrArg Host.Outcome.next (if_pos (by simpa using hearly))

theorem checkpoint_of_due (hup : s.cur.restarting = none) (hdue : 4096 ≤ s.cur.sinceCheckpoint) : checkpoint s = if s.pow.main then writeCheckpoint s else { s with cur := { s.cur with deferred := true } } :=
  if_neg (by simp [hup]; omega)

theorem writeCheckpoint_effect (s : State) : writeCheckpoint s = { s with cur := (writeCheckpoint s).cur, fab := (writeCheckpoint s).fab } ∧ (writeCheckpoint s).cur.sinceCheckpoint = 0 ∧
    (writeCheckpoint s).cur.deferred = false ∧ bit (writeCheckpoint s).fab.mevCause 37 = true := by
  have hframe := (frame_writeCheckpoint s).record
  refine ⟨by simpa using hframe, ?_, ?_, latchEvent_cause ..⟩
  all_goals
    unfold writeCheckpoint
    dsimp only
    rw [(frame_latchEvent ..).cur]

variable {n : Fin 8192}

theorem mailboxSubmit_of_right (hright : hasRight (windowRow s 0) 8 rightWR = true) : exec (.mailboxSubmit n) s = .next (if s.cur.submit then setFault 0 1 s
    else if n.val > 4096 ∨ n.val = 0 then { s with cur := { s.cur with inLen := n.val, mctpErrors := s.cur.mctpErrors + 1 } }
    else { s with cur := { s.cur with inLen := n.val, submit := true } }) := congrArg Host.Outcome.next (configWrite_of_right _ hright)

theorem setFault_slotBusy (s : State) : setFault 0 1 s = { s with fab := (setFault 0 1 s).fab } ∧ (win (setFault 0 1 s) 0).fault = (win s 0).fault ||| 2#64 := by
  refine ⟨rfl, ?_⟩
  unfold setFault
  rw [win_updWin, if_pos rfl]
  rfl

end

/-- Settles O56: each row of the Curator's core by the operation it is, an update given up and a reading published first said on their own. -/
theorem curatorCore : Obligations.CuratorCore := by
  unfold Obligations.CuratorCore
  refine ⟨fun s hvaux hup => ?_, fun at_ s hvaux hdown hnone => curatorRestart_of_back hvaux hdown hnone, fun back s hother => curatorRestart_of_other hother,
    fun l s hdown => congrArg Host.Outcome.next (if_neg (by rw [hdown]; decide)), fun i r s hruns hknown hvalid hmain => sensorSample_of_valid hruns hknown hvalid hmain,
    fun i r s hruns hknown hinvalid => sensorSample_of_invalid hruns hknown hinvalid, fun s hearly => logCheckpoint_of_early hearly,
    fun s hup hdue hmain => congrArg Host.Outcome.next ((checkpoint_of_due hup hdue).trans (if_neg (by rw [hmain]; decide))),
    fun s hup hdue hmain => ⟨_, congrArg Host.Outcome.next ((checkpoint_of_due hup hdue).trans (if_pos hmain)), writeCheckpoint_effect s⟩,
    fun n s hright => ⟨fun hfree hlow hhigh => ?_, fun hfree hlen => ?_, fun hbusy => ⟨_, (mailboxSubmit_of_right hright).trans (congrArg _ (if_pos hbusy)), setFault_slotBusy s⟩,
      congrArg Host.Outcome.next (configWrite_of_right _ hright)⟩,
    fun n s hright => ⟨congrArg Host.Outcome.next (configWrite_of_none _ hright), congrArg Host.Outcome.next (configWrite_of_none _ hright)⟩,
    fun s => ⟨fun hmaster => congrArg Host.Outcome.next (if_pos hmaster), fun hmaster => congrArg Host.Outcome.next (if_neg (by rw [hmaster]; decide))⟩⟩
  · obtain ⟨hframe, hupdate, hrestarts⟩ := coreFaulted_effect s
    refine ⟨_, curatorRestart_of_fault hvaux hup, ?_, hframe.now, hupdate, rfl, rfl, hrestarts, hframe.doc, hframe.vit, hframe.bb⟩
    rw [hframe.now, ← (abandonUpdate_effect s).1.now]
    rfl
  · rw [mailboxSubmit_of_right hright, if_neg (by rw [hfree]; decide), if_neg (by omega)]
  · rw [mailboxSubmit_of_right hright, if_neg (by rw [hfree]; decide), if_pos (by omega)]

end Sys2Proof.Machine

/-!
PROOFS, part 57: counters, samples, traces and meter records (18 R420, R424, R425, R429, 02 R51, R53, R54).
-/

namespace Sys2Proof.Machine

set_option Elab.async false

theorem mget_mmap {α β : Type} (f : α → β) (m : Map α) (k : Nat) : mget (mmap f m) k = (mget m k).map f := by
  induction m with
  | nil => rfl
  | cons p l ih =>
    obtain ⟨a, v⟩ := p
    show mget ((a, f v) :: mmap f l) k = _
    unfold mget
    split
    · rfl
    · exact ih

/-! Snapshots. -/

/-- Counts and wings may differ; of the power state, nothing else. -/
structure ClockKept (s t : State) : Prop where
  frame : Frame [.pow, .cnt, .freeCount] s t
  power : t.pow = { s.pow with wings := t.pow.wings }

theorem ClockKept.refl (s : State) : ClockKept s s := ⟨.refl _ s, rfl⟩

theorem ClockKept.trans {s t u : State} (a : ClockKept s t) (b : ClockKept t u) : ClockKept s u := by
  refine ⟨a.frame.trans b.frame, ?_⟩
  have hpower := b.power
  rw [a.power] at hpower
  exact hpower

theorem ClockKept.foldl {β : Type} {g : State → β → State} (h : ∀ s x, ClockKept s (g s x)) (l : List β) (s : State) : ClockKept s (l.foldl g s) := by
  induction l generalizing s with
  | nil => exact .refl s
  | cons a l ih => exact (h s a).trans (ih _)

theorem ClockKept.of_counts {s t : State} (h : Frame [.cnt, .freeCount] s t) : ClockKept s t := ⟨h.mono, by rw [h.pow]⟩

theorem clockKept_updWing (w : Nat) (f : Wing → Wing) (s : State) : ClockKept s (updWing w f s) := ⟨(frame_updWing ..).mono, rfl⟩

theorem clockKept_countEvent (w e k : Nat) (g : Option Nat) (s : State) : ClockKept s (countEvent w e k g s) := .of_counts (frame_countEvent ..).mono

theorem clockKept_settleEngine (h : Bool) (w : Nat) (s : State) : ClockKept s (settleEngine h w s) := by
  rw [settleEngine_eq]
  exact (ClockKept.of_counts (frame_cyclesCounted h w s).mono).trans (clockKept_updWing ..)

theorem clockKept_settlePku (w : Nat) (s : State) : ClockKept s (settlePku w s) := by
  unfold settlePku
  dsimp only
  refine .trans ?_ (clockKept_updWing ..)
  split
  · exact clockKept_countEvent ..
  · exact .refl s

theorem clockKept_settleCounters (s : State) : ClockKept s (settleCounters s) :=
  .trans (.foldl (fun _ _ => ((clockKept_settleEngine ..).trans (clockKept_settleEngine ..)).trans (clockKept_settlePku ..)) _ _) (.of_counts (frame_settleCells _))

section
variable (s : State)

/-- What counts by the cycle is brought up to now. -/
theorem frame_settleCounters : Frame [.pow, .cnt, .freeCount] s (settleCounters s) := (clockKept_settleCounters s).frame

/-- The wings' counters after SNAP, then CLEAR. -/
def snapped (snap clear : Bool) (c : WingCounter) : WingCounter := { c with shadow := if snap then c.live else c.shadow, live := if clear then 0 else c.live }

/-- SNAP copies before CLEAR empties, and neither takes time. -/
theorem writeCntCtl_effect (snap freeze clear : Bool) : (writeCntCtl snap freeze clear s).cnt.freeze = freeze ∧ (writeCntCtl snap freeze clear s).doc = (settleCounters s).doc ∧
    (writeCntCtl snap freeze clear s).now = s.now ∧ ∀ k, mget (writeCntCtl snap freeze clear s).cnt.wing k = (mget (settleCounters s).cnt.wing k).map (snapped snap clear) := by
  have hnow := (frame_settleCounters s).now
  unfold writeCntCtl
  generalize settleCounters s = t at hnow ⊢
  cases snap <;> cases clear <;> refine ⟨rfl, rfl, hnow, fun k => ?_⟩
  · exact (congrFun Option.map_id (mget t.cnt.wing k)).symm
  · exact mget_mmap (snapped false true) t.cnt.wing k
  · exact mget_mmap (snapped true false) t.cnt.wing k
  · exact (mget_mmap (snapped false true) (mmap (snapped true false) t.cnt.wing) k).trans ((congrArg _ (mget_mmap (snapped true false) t.cnt.wing k)).trans (Option.map_map ..))

end

theorem writeCntCtl_wing {snap freeze clear : Bool} {s : State} {k : Nat} {c : WingCounter} (hc : mget (settleCounters s).cnt.wing k = some c) :
    mget (writeCntCtl snap freeze clear s).cnt.wing k = some (snapped snap clear c) := by
  obtain ⟨-, -, -, hwing⟩ := writeCntCtl_effect s snap freeze clear
  rw [hwing k, hc, Option.map_some]

/-! Sampling and tracing. -/

/-- Setting bit 0 leaves the fields above it. -/
theorem field_or_one (v : W64) {hi lo : Nat} (hlo : 0 < lo) : field (v ||| 1) hi lo = field v hi lo := by
  have hshift : (v.toNat ||| 1) / 2 ^ lo = v.toNat / 2 ^ lo := by
    rw [← Nat.shiftRight_eq_div_pow, Nat.shiftRight_or_distrib, Nat.shiftRight_eq_div_pow 1, Nat.div_eq_of_lt (Nat.one_lt_two_pow hlo.ne'), Nat.or_zero, Nat.shiftRight_eq_div_pow]
  show (v ||| 1).toNat / 2 ^ lo % _ = _
  rw [BitVec.toNat_or]
  exact congrArg (· % 2 ^ (hi + 1 - lo)) hshift

theorem flag_or_one (v : W64) : flag (v ||| 1) 0 = true := by
  have hodd : (v.toNat ||| 1) % 2 = 1 := by
    have hsplit := Nat.or_mod_two_pow (a := v.toNat) (b := 1) (n := 1)
    rcases Nat.mod_two_eq_zero_or_one v.toNat with h | h <;> simpa [h] using hsplit
  show ((v ||| 1).toNat / 2 ^ 0 % 2 == 1) = true
  rw [BitVec.toNat_or, Nat.pow_zero, Nat.div_one]
  exact beq_iff_eq.mpr hodd

section
variable {s : State} (hright : hasRight (windowRow s 0) 8 rightWR = true)
include hright

theorem samplingEnable_of_right (v : W64) : ∃ t, exec (.samplingEnable v) s = .next t ∧ t = { s with cnt := t.cnt } ∧ t.cnt.sampEnable = true ∧ t.cnt.samples = [] ∧ t.cnt.sampCount = 0 ∧
    t.cnt.sampFull = false ∧ t.cnt.sampLost = 0 ∧ t.cnt.sampPeriod = field v 31 8 ∧ t.cnt.sampWings = field v 47 32 ∧ t.cnt.wing = s.cnt.wing := by
  refine ⟨writeSampCtl (v ||| 1) s, congrArg Host.Outcome.next (configWrite_of_right _ hright), ?_⟩
  unfold writeSampCtl
  dsimp only
  rw [if_pos (flag_or_one v)]
  exact ⟨rfl, flag_or_one v, rfl, rfl, rfl, rfl, field_or_one v (by decide), field_or_one v (by decide), rfl⟩

theorem traceEnable_of_right (v : W64) : ∃ t, exec (.traceEnable v) s = .next t ∧ t = { s with cnt := t.cnt } ∧ t.cnt.traceEnable = true ∧ t.cnt.traces = [] ∧ t.cnt.traceCount = 0 ∧
    t.cnt.traceFull = false ∧ t.cnt.traceLost = 0 ∧ t.cnt.traceRate = field v 5 2 ∧ t.cnt.wing = s.cnt.wing := by
  refine ⟨writeTraceCtl (v ||| 1) s, congrArg Host.Outcome.next (configWrite_of_right _ hright), ?_⟩
  unfold writeTraceCtl
  dsimp only
  rw [if_pos (flag_or_one v)]
  exact ⟨rfl, flag_or_one v, rfl, rfl, rfl, rfl, field_or_one v (by decide), rfl⟩

end

section
variable {cell : Fin 128} {off slot other : Nat} {s : State}

/-- The cell's wing is sampled. -/
def Sampled (cell : Fin 128) (s : State) : Prop := s.cnt.sampEnable = true ∧ s.cnt.sampPeriod ≠ 0 ∧ bit s.cnt.sampWings (cell.val / 8) = true ∧ cellClocked s (cell.val / 8) = true

theorem instructionSample_of_sampled (h : Sampled cell s) :
    exec (.instructionSample cell off slot other) s = .next (nextJitter cell (putSample (sampleRecord s cell off slot other) s)) := by
  obtain ⟨hon, hperiod, hwing, hclocked⟩ := h
  exact if_neg (by simp [hon, hperiod, hwing, hclocked])

theorem instructionSample_of_other (h : ¬ Sampled cell s) : exec (.instructionSample cell off slot other) s = .next s := by
  refine if_pos ?_
  by_contra hno
  exact h (by simpa [Sampled, and_assoc] using hno)

/-- The jitter of the next period leaves the ring as it is. -/
theorem nextJitter_effect (c : Nat) (s : State) : nextJitter c s = { s with cnt := (nextJitter c s).cnt } ∧ (nextJitter c s).cnt.samples = s.cnt.samples ∧ (nextJitter c s).cnt.sampNext = s.cnt.sampNext ∧
    (nextJitter c s).cnt.sampCount = s.cnt.sampCount ∧ (nextJitter c s).cnt.sampFull = s.cnt.sampFull ∧ (nextJitter c s).cnt.sampLost = s.cnt.sampLost := by
  unfold nextJitter
  split <;> exact ⟨rfl, rfl, rfl, rfl, rfl, rfl⟩

/-- With room in the ring, or over its oldest record, the sample goes into the next place. -/
theorem instructionSample_of_room (h : Sampled cell s) (hroom : s.cnt.sampCount < 512 ∨ s.cnt.sampRing = true) : ∃ t, exec (.instructionSample cell off slot other) s = .next t ∧
    t = { s with cnt := t.cnt } ∧ mget t.cnt.samples s.cnt.sampNext = some (sampleRecord s cell off slot other) ∧ t.cnt.sampNext = (s.cnt.sampNext + 1) % 512 ∧
    t.cnt.sampCount = min 512 (s.cnt.sampCount + 1) := by
  refine ⟨_, instructionSample_of_sampled h, ?_⟩
  obtain ⟨hall, hsamples, hnext, hcount, -, -⟩ := nextJitter_effect cell (putSample (sampleRecord s cell off slot other) s)
  rw [hsamples, hnext, hcount, hall, putSample, if_pos hroom]
  exact ⟨rfl, mget_mset_same .., rfl, rfl⟩

theorem instructionSample_of_full (h : Sampled cell s) (hfull : 512 ≤ s.cnt.sampCount) (hring : s.cnt.sampRing = false) : ∃ t, exec (.instructionSample cell off slot other) s = .next t ∧
    t.cnt.samples = s.cnt.samples ∧ t.cnt.sampFull = true ∧ t.cnt.sampLost = sat 0xFFFFFFFF (s.cnt.sampLost + 1) := by
  refine ⟨_, instructionSample_of_sampled h, ?_⟩
  obtain ⟨-, hsamples, -, -, hmark, hlost⟩ := nextJitter_effect cell (putSample (sampleRecord s cell off slot other) s)
  rw [hsamples, hmark, hlost, putSample, if_neg (by rw [hring]; simpa using hfull)]
  exact ⟨rfl, rfl, rfl⟩

end

/-! Metering. -/

theorem frame_markGallery (g minute ticks : Nat) (marks : List (StreamId × Nat)) (s : State) : Frame [.fab, .vit] s (markGallery g minute ticks marks s) := by
  unfold markGallery
  split
  · exact .refl ..
  dsimp only
  split
  · exact (frame_updGal ..).mono.trans (frame_latchEvent ..).mono
  · exact (frame_updGal ..).mono.trans (frame_closeMinute ..)

theorem frame_markOne (m g : Nat) (s : State) : Frame [.fab, .vit, .pair] s (markOne m g s) := by
  unfold markOne
  split
  · exact .refl ..
  · exact (frame_mirrorChanges ..).mono.trans (frame_markGallery ..).mono

section
variable {s : State}

/-- Every gallery's minute is marked at the boundary. -/
def minuteMarked (s : State) : State := (advanceTo (markTime s) s).vit.galleries.map (·.1) |>.foldl (fun t g => markOne s.vit.minute g t) (advanceTo (markTime s) s)

theorem meterMark_of_marking (hmarks : marksMinutes s = true) : exec .meterMark s = .next { minuteMarked s with vit := { (minuteMarked s).vit with minute := s.vit.minute + 1 } } :=
  if_neg (by rw [hmarks]; decide)

theorem frame_minuteMarked (s : State) : Frame [.fab, .vit, .pair] (advanceTo (markTime s) s) (minuteMarked s) := .foldl (fun _ _ => frame_markOne ..) _ _

theorem meterArchiveCopy_of_noRight (hright : hasRight (fixedRow s curatorRow) 7 rightRD = false) : exec .meterArchiveCopy s = .next s := if_pos (by rw [hright]; rfl)

theorem meterArchiveCopy_of_right (hright : hasRight (fixedRow s curatorRow) 7 rightRD = true) : exec .meterArchiveCopy s = .next (settleWaiting (s.vit.meterToArchive.foldl (fun s r => archiveOne r s) s)) :=
  if_neg (by rw [hright]; decide)

theorem settleWaiting_of_none (hnone : s.vit.meterWaiting = []) : settleWaiting s = s := by rw [settleWaiting, hnone]; rfl

theorem meterArchiveCopy_of_nothing (hcopied : s.vit.meterToArchive = []) (hnone : s.vit.meterWaiting = []) : exec .meterArchiveCopy s = .next s := by
  by_cases hright : hasRight (fixedRow s curatorRow) 7 rightRD = true
  · rw [meterArchiveCopy_of_right hright, hcopied]
    exact congrArg _ (settleWaiting_of_none hnone)
  · exact meterArchiveCopy_of_noRight (by simpa using hright)

theorem meterArchiveCopy_of_room {r : MeterRecord} (hright : hasRight (fixedRow s curatorRow) 7 rightRD = true) (hone : s.vit.meterToArchive = [r]) (hnone : s.vit.meterWaiting = [])
    (hroom : s.img.archive.length < s.img.archiveSize) :
    ∃ t, exec .meterArchiveCopy s = .next t ∧ t = { s with img := { s.img with archive := s.img.archive ++ [r] }, vit := t.vit } ∧ t.vit.meterToArchive = [] := by
  refine ⟨{ s with img := { s.img with archive := s.img.archive ++ [r] }, vit := { s.vit with meterToArchive := s.vit.meterToArchive.filter (· != r) } }, ?_, rfl, ?_⟩
  · have hfold : s.vit.meterToArchive.foldl (fun s r => archiveOne r s) s = archiveOne r s := by rw [hone]; rfl
    rw [meterArchiveCopy_of_right hright, hfold, archiveOne, if_pos hroom]
    exact congrArg Host.Outcome.next (settleWaiting_of_none hnone)
  · show s.vit.meterToArchive.filter (· != r) = []
    simp [hone]

end

/-- Settles O60: each row by the write or the count it is; a wing's counter after SNAP and CLEAR is said once. -/
theorem countersAndMeter : Obligations.CountersAndMeter := by
  unfold Obligations.CountersAndMeter
  refine ⟨fun freeze clear s hright => ⟨?_, ?_⟩, fun freeze clear v s hright => ?_, fun v s hright => ⟨samplingEnable_of_right hright v, traceEnable_of_right hright v⟩,
    fun cell off slot other s => ⟨instructionSample_of_room, instructionSample_of_full, instructionSample_of_other⟩,
    fun s => ⟨fun hquiet => if_pos (by rw [hquiet]; rfl), fun hmarks => ?_⟩, fun r s hright hone hnone hroom => meterArchiveCopy_of_room hright hone hnone hroom, fun s hidle => ?_, fun off s => rfl⟩
  · obtain ⟨hfreeze, hdoc, hnow, -⟩ := writeCntCtl_effect s true freeze clear
    exact ⟨_, congrArg Host.Outcome.next (configWrite_of_right _ hright), hfreeze, hdoc, hnow, fun k c hc => writeCntCtl_wing hc⟩
  · obtain ⟨hfreeze, -, hnow, -⟩ := writeCntCtl_effect s false freeze true
    exact ⟨_, congrArg Host.Outcome.next (configWrite_of_right _ hright), hfreeze, hnow, fun k c hc => writeCntCtl_wing hc⟩
  · have hkept {f : State → State} := congrArg Host.Outcome.next (α := State) (β := Host.Outcome State Fault Refusal) (configWrite_of_none f hright)
    exact ⟨hkept, hkept, hkept, hkept⟩
  · have hframe := frame_minuteMarked s
    exact ⟨_, meterMark_of_marking hmarks, hframe.now, rfl, congrArg Docent.descs hframe.doc⟩
  · rcases hidle with hright | ⟨hcopied, hnone⟩
    · exact meterArchiveCopy_of_noRight hright
    · exact meterArchiveCopy_of_nothing hcopied hnone

end Sys2Proof.Machine

/-!
PROOFS, part 58: firmware update and the anti-rollback count (17 R412, R413, 15 R371, 16 R396).
-/

namespace Sys2Proof.Machine

set_option Elab.async false

/-! What an update step's record and a change of mode keep. -/

theorem CurLog.update {c d : Curator} (h : CurLog c d) : d.update = c.update := (congrArg Curator.update h).trans rfl

theorem CurLog.replies {c d : Curator} (h : CurLog c d) : d.replies = c.replies := (congrArg Curator.replies h).trans rfl

theorem curLog_setMode_of {m : Mode} {s : State} {c : Curator} (hcur : s.cur = c) : CurLog c (setMode m s).cur := hcur ▸ curLog_setMode m s

theorem logOnly_logUpdate (step c outcome : Nat) (s : State) : LogOnly s (logUpdate step c outcome s) := logOnly_logRecord ..

/-- A record of an update step is written in the log alone. -/
theorem logUpdate_keeps (step c outcome : Nat) (s : State) : Frame [.cur] s (logUpdate step c outcome s) ∧ (logUpdate step c outcome s).cur.update = s.cur.update ∧
    (logUpdate step c outcome s).cur.replies = s.cur.replies :=
  ⟨(logOnly_logUpdate ..).frame, (logOnly_logUpdate ..).cur.update, (logOnly_logUpdate ..).cur.replies⟩

theorem abandonUpdate_keeps (s : State) : Frame [.fab, .pow, .img, .cur] s (abandonUpdate s) ∧ (abandonUpdate s).cur.update = none ∧ (abandonUpdate s).cur.replies = s.cur.replies := by
  obtain ⟨hframe, hcur, -⟩ := abandonUpdate_effect s
  exact ⟨hframe, hcur.update, hcur.replies⟩

theorem updateOpen_of_some {s : State} {u : Update} (hopen : updateOpen s = some u) : s.cur.update = some u := by
  unfold updateOpen at hopen
  split at hopen
  next v hv =>
    split at hopen
    · rw [hv, hopen]
    · cases hopen
  · cases hopen

theorem pullingComponent_update {s : State} {c : Nat} (hpulling : pullingComponent s = some c) : ∃ u, s.cur.update = some u := by
  unfold pullingComponent at hpulling
  split at hpulling
  · exact ⟨_, ‹_›⟩
  · cases hpulling

section
variable {s : State} (hreach : busReaches s 0 = true) (hfull : readoutOnly s = false)
include hreach hfull

theorem serveFull_smbus {act : State → MgmtReply × State} : serveFull 0 act s = sendReply 0 (act s).1 (act s).2 := serveFull_of_reached (by decide) hreach hfull

/-! A flow is asked for. -/

theorem requestUpdate_of_open (hupdate : s.cur.update.isSome = true) : exec (.requestUpdate 0) s = .next (sendReply 0 (replyCode 0x81) s) := by
  refine congrArg Host.Outcome.next ((serveFull_smbus hreach hfull).trans ?_)
  rw [if_pos hupdate]

theorem requestUpdate_of_diagnostic (hupdate : s.cur.update = none) (hmode : s.pow.mode = .diagnostic) : exec (.requestUpdate 0) s = .next (sendReply 0 (replyCode 0x8A) s) := by
  refine congrArg Host.Outcome.next ((serveFull_smbus hreach hfull).trans ?_)
  rw [if_neg (by rw [hupdate]; decide), if_pos (by rw [hmode]; rfl)]

end

/-- The flow asked for, in the service mode. -/
def updateAsked (s : State) : State :=
  { s with cur := { s.cur with update := some { phase := .asked, lastRequest := s.now, passed := [], touched := [], verified := [] } } }

theorem openUpdate_of_service {s : State} (hmode : s.pow.mode = .service) : openUpdate s = enterQuiesce none 100000000 true (updateAsked s) := by
  unfold openUpdate
  dsimp only
  rw [hmode]
  rfl

/-- QUIESCE begins without a ceremony to close: the Curator's log apart, only the pair, the Docent and the mode change. -/
theorem enterQuiesce_effect {ticket : Option Nat} {drainNs : Nat} {forUpdate : Bool} {s : State} (hceremony : s.pow.ceremony = false) :
    (enterQuiesce ticket drainNs forUpdate s).pow.mode = .quiesce ∧
    (enterQuiesce ticket drainNs forUpdate s).pow.quiesce = some { ticket := ticket, drainAt := s.now + drainNs, expired := false, complete := false, forUpdate := forUpdate } ∧
    CurLog s.cur (enterQuiesce ticket drainNs forUpdate s).cur := by
  have hframe := frame_beginWithdraw s
  rw [enterQuiesce, frame_closeCeremony s hceremony]
  dsimp only
  generalize beginWithdraw s = b at hframe ⊢
  refine ⟨by rw [setMode_pow], by rw [setMode_pow, hframe.now], ?_⟩
  rw [← hframe.cur]
  exact curLog_setMode_of rfl

theorem updateAsked_quiesce {s : State} (hceremony : s.pow.ceremony = false) : ∃ t, t = enterQuiesce none 100000000 true (updateAsked (logUpdate 0x10 0 0 s)) ∧ t.pow.mode = .quiesce ∧
    t.pow.quiesce = some { ticket := none, drainAt := s.now + 100000000, expired := false, complete := false, forUpdate := true } ∧
    t.cur.update = some { phase := .asked, lastRequest := s.now, passed := [], touched := [], verified := [] } ∧ t.cur.replies = s.cur.replies := by
  obtain ⟨hlogged, -, hreplies⟩ := logUpdate_keeps 0x10 0 0 s
  generalize logUpdate 0x10 0 0 s = l at hlogged hreplies ⊢
  obtain ⟨hquiesce, hdrain, hcur⟩ := enterQuiesce_effect (ticket := none) (drainNs := 100000000) (forUpdate := true) (s := updateAsked l) (show l.pow.ceremony = false by rw [hlogged.pow, hceremony])
  rw [show (updateAsked l).now = s.now from hlogged.now] at hdrain
  refine ⟨_, rfl, hquiesce, hdrain, hcur.update.trans ?_, hcur.replies.trans hreplies⟩
  rw [← hlogged.now]
  rfl

section
variable {s : State} (hreach : busReaches s 0 = true) (hfull : readoutOnly s = false)
include hreach hfull

theorem requestUpdate_of_idle (hupdate : s.cur.update = none) (hmode : s.pow.mode = .service) (hsettled : s.pow.pending = false) :
    exec (.requestUpdate 0) s = .next (sendReply 0 (replyOk (zeros 3)) (enterQuiesce none 100000000 true (updateAsked (logUpdate 0x10 0 0 s)))) := by
  have hservice : (logUpdate 0x10 0 0 s).pow.mode = .service := by rw [(logUpdate_keeps 0x10 0 0 s).1.pow, hmode]
  rw [← openUpdate_of_service hservice]
  refine congrArg Host.Outcome.next ((serveFull_smbus hreach hfull).trans ?_)
  rw [if_neg (by rw [hupdate]; decide), if_neg (by rw [hmode, hsettled]; decide)]

theorem requestUpdate_of_service (hupdate : s.cur.update = none) (hmode : s.pow.mode = .service) (hsettled : s.pow.pending = false) (hceremony : s.pow.ceremony = false) :
    ∃ t, exec (.requestUpdate 0) s = .next t ∧ t.pow.mode = .quiesce ∧ t.pow.quiesce = some { ticket := none, drainAt := s.now + 100000000, expired := false, complete := false, forUpdate := true } ∧
      t.cur.update = some { phase := .asked, lastRequest := s.now, passed := [], touched := [], verified := [] } ∧
      t.cur.replies = s.cur.replies ++ [{ bus := 0, reply := replyOk (zeros 3) }] := by
  obtain ⟨t, ht, hquiesce, hdrain, hflow, hsent⟩ := updateAsked_quiesce hceremony
  have hexec := requestUpdate_of_idle hreach hfull hupdate hmode hsettled
  rw [← ht, sendReply_smbus] at hexec
  exact ⟨_, hexec, hquiesce, hdrain, hflow, congrArg (· ++ [_]) hsent⟩

/-! The steps of a flow. -/

theorem updateSteps_of_none (hupdate : s.cur.update = none) (c off : Nat) (data : Bytes) (image : Option FwImage) :
    exec (.passComponentTable 0 c) s = .next (sendReply 0 (replyCode 0x80) s) ∧ exec (.updateComponent 0 c) s = .next (sendReply 0 (replyCode 0x80) s) ∧
    exec (.requestFirmwareData 0 off data) s = .next (sendReply 0 (replyCode 0x88) s) ∧ exec (.transferComplete 0 image) s = .next (sendReply 0 (replyCode 0x88) s) ∧
    exec (.activateFirmware 0) s = .next (sendReply 0 (replyCode 0x80) s) ∧ exec (.cancelUpdate 0) s = .next (sendReply 0 (replyCode 0x80) s) := by
  have hidle : pullingComponent s = none := by rw [pullingComponent, hupdate]
  have hnone : s.cur.update.isNone = true := by rw [hupdate]; rfl
  refine ⟨congrArg Host.Outcome.next ?_, congrArg Host.Outcome.next ?_, congrArg Host.Outcome.next ?_, congrArg Host.Outcome.next ?_, congrArg Host.Outcome.next ?_, congrArg Host.Outcome.next ?_⟩ <;>
    refine (serveFull_smbus hreach hfull).trans ?_
  · rw [if_pos hnone]
  · rw [if_pos hnone]
  · rw [hidle]
  · rw [hidle]
  · rw [hupdate]
  · rw [if_pos hnone]

theorem passComponentTable_of_open {c : Nat} {u : Update} (hopen : updateOpen s = some u) (hc : c = 1 ∨ c = 2) : ∃ t, exec (.passComponentTable 0 c) s = .next t ∧
    t.cur.update = some { u with passed := c :: u.passed.filter (· != c), lastRequest := s.now } ∧ t.cur.replies = s.cur.replies ++ [{ bus := 0, reply := replyOk [0, 0] }] ∧ t.img = s.img := by
  have hupdate := updateOpen_of_some hopen
  have hexec : exec (.passComponentTable 0 c) s = .next (sendReply 0 (replyOk [0, 0]) (logUpdate 0x13 c 0 (updateRequest (fun u => { u with passed := c :: u.passed.filter (· != c) }) s))) := by
    refine congrArg Host.Outcome.next ((serveFull_smbus hreach hfull).trans ?_)
    rw [if_neg (by rw [hupdate]; simp), if_neg (by rw [hopen]; simp), if_pos hc]
  obtain ⟨hlogged, hkept, hreplies⟩ := logUpdate_keeps 0x13 c 0 (updateRequest (fun u => { u with passed := c :: u.passed.filter (· != c) }) s)
  refine ⟨_, hexec, hkept.trans ?_, ?_, hlogged.img⟩
  · unfold updateRequest
    rw [hupdate]
    rfl
  · rw [sendReply_smbus]
    exact congrArg (· ++ [_]) hreplies

theorem updateComponent_of_passed {c : Nat} {u : Update} (hopen : updateOpen s = some u) (hpassed : u.passed.contains c = true) :
    exec (.updateComponent 0 c) s = .next (sendReply 0 (replyOk (zeros 8)) (logUpdate 0x14 c 0 (beginStaging c s))) := by
  refine congrArg Host.Outcome.next ((serveFull_smbus hreach hfull).trans ?_)
  rw [if_neg (by rw [updateOpen_of_some hopen]; simp), hopen]
  dsimp only
  rw [if_pos hpassed]

theorem requestFirmwareData_of_ulond {off : Nat} {data : Bytes} (hpulling : pullingComponent s = some 2) (hfits : off + data.length ≤ 2 ^ 20) :
    exec (.requestFirmwareData 0 off data) s = .next (sendReply 0 (replyOk (leBytes 4 (off + data.length))) (updUlond (inactiveUlond s) (fun m => memWriteBytes 0xFF m off data) s)) := by
  refine congrArg Host.Outcome.next ((serveFull_smbus hreach hfull).trans ?_)
  rw [hpulling]
  simp only [if_true, decide_eq_true hfits, Bool.not_true, Bool.false_eq_true, if_false]

theorem requestFirmwareData_of_firmware {off : Nat} {data : Bytes} (hpulling : pullingComponent s = some 1) (hfits : off + data.length ≤ 2 ^ 23) :
    exec (.requestFirmwareData 0 off data) s = .next (sendReply 0 (replyOk (leBytes 4 (off + data.length))) (setFwData (1 - s.cur.slot) (memWriteBytes 0xFF (fwData (1 - s.cur.slot) s) off data) s)) := by
  refine congrArg Host.Outcome.next ((serveFull_smbus hreach hfull).trans ?_)
  rw [hpulling]
  simp only [OfNat.one_ne_ofNat, if_true, decide_eq_true hfits, Bool.not_true, Bool.false_eq_true, if_false]

theorem requestFirmwareData_of_past {c off : Nat} {data : Bytes} (hpulling : pullingComponent s = some c) (hpast : (if c = 2 then 2 ^ 20 else 2 ^ 23) < off + data.length) :
    exec (.requestFirmwareData 0 off data) s = .next (sendReply 0 (replyCode 0x82) s) := by
  refine congrArg Host.Outcome.next ((serveFull_smbus hreach hfull).trans ?_)
  rw [hpulling]
  have hnofit : decide (off + data.length ≤ if c = 2 then 2 ^ 20 else 2 ^ 23) = false := decide_eq_false (by omega)
  simp only [hnofit, Bool.not_false, Bool.false_eq_true, if_false, if_true]

end

/-! A component staged, read back and activated. -/

section
variable {s : State} {u : Update}

/-- The slot not loaded, erased. -/
def slotErased (c : Nat) (s : State) : State :=
  if c = 1 then eraseFirmware (1 - s.cur.slot) s
  else { (updUlond (inactiveUlond s) (fun _ => []) s) with img := { (updUlond (inactiveUlond s) (fun _ => []) s).img with staged := false } }

theorem frame_slotErased (c : Nat) (s : State) : Frame [.img] s (slotErased c s) :=
  .ite (fun _ => frame_eraseFirmware ..) (fun _ => ⟨fun p hp => by cases p <;> simp [agree, updUlond] at hp ⊢⟩)

theorem beginStaging_flow {c : Nat} (hupdate : s.cur.update = some u) : (beginStaging c s).cur.update =
    some { u with phase := .pulling c, touched := c :: u.touched.filter (· != c), verified := u.verified.filter (· != c), lastRequest := s.now } := by
  have hframe := frame_slotErased c s
  show (updateRequest _ (slotErased c s)).cur.update = _
  unfold updateRequest
  rw [hframe.cur, hframe.now, hupdate]
  rfl

theorem beginStaging_img (c : Nat) (s : State) : (beginStaging c s).img = (slotErased c s).img := rfl

/-- An erased firmware slot holds no image and no data. -/
theorem slotErased_firmware (s : State) : (slotErased 1 s).img.slot0 = s.img.slot0 ∧ (slotErased 1 s).img.slot1 = s.img.slot1 ∧
    (if 1 - s.cur.slot = 0 then (slotErased 1 s).img.fwA else (slotErased 1 s).img.fwB) = none ∧ fwData (1 - s.cur.slot) (slotErased 1 s) = [] := by
  rw [slotErased, if_pos rfl, eraseFirmware, setFwData, setFirmware, fwData]
  split <;> exact ⟨rfl, rfl, rfl, rfl⟩

/-- Of the unit's logical descriptions, the one not loaded is erased. -/
theorem slotErased_ulond {c : Nat} (hc : c ≠ 1) (s : State) : (if inactiveUlond s = 0 then (slotErased c s).img.slot0 else (slotErased c s).img.slot1) = [] ∧
    (if inactiveUlond s = 0 then (slotErased c s).img.slot1 = s.img.slot1 else (slotErased c s).img.slot0 = s.img.slot0) := by
  rw [slotErased, if_neg hc, updUlond]
  split <;> exact ⟨rfl, rfl⟩

/-- A firmware component read back: the slot holds the image where it may be activated, and is erased where not. -/
def firmwareVerified (image : Option FwImage) (s : State) : State := if firmwareStageable s image then setFirmware (1 - s.cur.slot) image s else eraseFirmware (1 - s.cur.slot) s

/-- The outcome of reading a firmware component back. -/
def firmwareOutcome (image : Option FwImage) (s : State) : Nat := if firmwareStageable s image then 0 else 1

theorem verifyStaged_firmware (image : Option FwImage) (s : State) : verifyStaged 1 image s = (firmwareOutcome image s, firmwareVerified image s) := by
  unfold verifyStaged firmwareOutcome firmwareVerified
  rw [if_pos rfl]
  split <;> rfl

theorem frame_firmwareVerified (image : Option FwImage) (s : State) : Frame [.img] s (firmwareVerified image s) :=
  .ite (fun _ => ⟨fun p hp => by cases p <;> simp [agree, setFirmware] at hp ⊢⟩) (fun _ => frame_eraseFirmware ..)

theorem firmwareVerified_slot (image : Option FwImage) (s : State) : (if 1 - s.cur.slot = 0 then (firmwareVerified image s).img.fwA else (firmwareVerified image s).img.fwB) =
    (if firmwareStageable s image then image else none) := by
  unfold firmwareVerified eraseFirmware setFwData setFirmware
  split <;> split <;> rfl

/-- The transfer's component is read back, and the flow is open again. -/
def transferEnded (image : Option FwImage) (s : State) : State :=
  { firmwareVerified image s with cur := { (firmwareVerified image s).cur with update := (firmwareVerified image s).cur.update.map (fun u => { u with
    phase := .open_, verified := if firmwareOutcome image s = 0 then 1 :: u.verified else u.verified }) } }

theorem frame_transferEnded (image : Option FwImage) (s : State) : Frame [.img, .cur] s (transferEnded image s) := .andThen (frame_firmwareVerified image s).mono (frame_of_cur rfl)

/-- A step's record and its event. -/
def stepNoted (step c outcome : Nat) (s : State) : State := latchEvent 38 (logUpdate step c outcome s)

theorem stepNoted_effect (step c outcome : Nat) (s : State) : Frame [.cur, .fab] s (stepNoted step c outcome s) ∧ (stepNoted step c outcome s).cur.update = s.cur.update ∧
    bit (stepNoted step c outcome s).fab.mevCause 38 = true := by
  obtain ⟨hlogged, hkept, -⟩ := logUpdate_keeps step c outcome s
  refine ⟨hlogged.mono.trans (frame_latchEvent ..).mono, ?_, latchEvent_cause ..⟩
  unfold stepNoted
  rw [(frame_latchEvent ..).cur, hkept]

section
variable (hreach : busReaches s 0 = true) (hfull : readoutOnly s = false)
include hreach hfull

theorem updateComponent_effect {c : Nat} (hopen : updateOpen s = some u) (hpassed : u.passed.contains c = true) : ∃ t, exec (.updateComponent 0 c) s = .next t ∧
    t.cur.update = some { u with phase := .pulling c, touched := c :: u.touched.filter (· != c), verified := u.verified.filter (· != c), lastRequest := s.now } ∧
    (c = 1 → t.img.slot0 = s.img.slot0 ∧ t.img.slot1 = s.img.slot1 ∧ (if 1 - s.cur.slot = 0 then t.img.fwA else t.img.fwB) = none ∧ fwData (1 - s.cur.slot) t = []) ∧
    (c ≠ 1 → (if inactiveUlond s = 0 then t.img.slot0 else t.img.slot1) = [] ∧ (if inactiveUlond s = 0 then t.img.slot1 = s.img.slot1 else t.img.slot0 = s.img.slot0)) := by
  obtain ⟨hlogged, hkept, -⟩ := logUpdate_keeps 0x14 c 0 (beginStaging c s)
  have himg : (sendReply 0 (replyOk (zeros 8)) (logUpdate 0x14 c 0 (beginStaging c s))).img = (slotErased c s).img := by rw [sendReply_smbus]; exact hlogged.img
  refine ⟨_, updateComponent_of_passed hreach hfull hopen hpassed, hkept.trans (beginStaging_flow (updateOpen_of_some hopen)), fun hc => ?_, fun hc => ?_⟩
  · rw [fwData, himg, hc]
    exact slotErased_firmware s
  · rw [himg]
    exact slotErased_ulond hc s

theorem transferComplete_of_firmware {image : Option FwImage} (hpulling : pullingComponent s = some 1) : ∃ t, exec (.transferComplete 0 image) s = .next t ∧ t = { s with img := t.img, cur := t.cur, fab := t.fab } ∧
    (if 1 - s.cur.slot = 0 then t.img.fwA else t.img.fwB) = (if firmwareStageable s image then image else none) ∧ t.cur.update.map (·.phase) = some .open_ ∧ bit t.fab.mevCause 38 = true := by
  obtain ⟨u, hu⟩ := pullingComponent_update hpulling
  have hexec : exec (.transferComplete 0 image) s = .next (sendReply 0 (replyOk (leBytes 1 (firmwareOutcome image s) ++ leBytes 1 (firmwareOutcome image s)))
      (stepNoted 0x17 1 (firmwareOutcome image s) (transferEnded image s))) := by
    refine congrArg Host.Outcome.next ((serveFull_smbus hreach hfull).trans ?_)
    rw [hpulling]
    dsimp only
    rw [verifyStaged_firmware]
    rfl
  obtain ⟨hnoted, hkept, hevent⟩ := stepNoted_effect 0x17 1 (firmwareOutcome image s) (transferEnded image s)
  have hframe := (frame_transferEnded image s).mono (qs := [.img, .cur, .fab]) |>.andThen hnoted
  have himg : (stepNoted 0x17 1 (firmwareOutcome image s) (transferEnded image s)).img = (firmwareVerified image s).img := hnoted.img
  have hflow : (transferEnded image s).cur.update.map (·.phase) = some .open_ := by
    show Option.map _ (Option.map _ (firmwareVerified image s).cur.update) = _
    rw [(frame_firmwareVerified image s).cur, hu]
    rfl
  have hrecord := (hframe.andThen (frame_sendReply 0 (replyOk (leBytes 1 (firmwareOutcome image s) ++ leBytes 1 (firmwareOutcome image s))) _)).record
  rw [sendReply_smbus] at hexec hrecord
  generalize stepNoted 0x17 1 (firmwareOutcome image s) (transferEnded image s) = t at hexec hkept hevent hrecord himg
  refine ⟨_, hexec, by simpa using hrecord, ?_, ?_, hevent⟩
  · rw [← firmwareVerified_slot, ← himg]
  · rw [← hflow, ← hkept]

theorem activateFirmware_of_verified (hopen : updateOpen s = some u) (hsome : u.verified ≠ []) (hall : u.passed.all (fun c => u.verified.contains c) = true) :
    exec (.activateFirmware 0) s = .next (sendReply 0 (replyOk (zeros 2)) (beginStart (latchEvent 38 (logUpdate 0x1A 0 0 s)))) := by
  refine congrArg Host.Outcome.next ((serveFull_smbus hreach hfull).trans ?_)
  rw [updateOpen_of_some hopen]
  dsimp only
  rw [if_neg (by rw [hopen]; simp), if_neg (by rw [hall]; simp [hsome])]

theorem activateFirmware_of_unverified (hopen : updateOpen s = some u) (hnot : u.verified = [] ∨ u.passed.all (fun c => u.verified.contains c) = false) :
    exec (.activateFirmware 0) s = .next (sendReply 0 (replyCode 0x85) { s with cur := { s.cur with update := some { u with lastRequest := s.now } } }) := by
  have hupdate := updateOpen_of_some hopen
  have hasked : updateRequest id s = { s with cur := { s.cur with update := some { u with lastRequest := s.now } } } := by
    unfold updateRequest
    rw [hupdate]
    rfl
  have hrefused : (decide (u.verified = []) || !u.passed.all (fun c => u.verified.contains c)) = true := by
    rcases hnot with h | h
    · rw [decide_eq_true h, Bool.true_or]
    · rw [h, Bool.not_false, Bool.or_true]
  rw [← hasked]
  refine congrArg Host.Outcome.next ((serveFull_smbus hreach hfull).trans ?_)
  rw [hupdate]
  dsimp only
  rw [if_neg (by rw [hopen]; simp), if_pos hrefused]

theorem cancelUpdate_of_open (hupdate : s.cur.update.isSome = true) (hmode : s.pow.mode = .update) : ∃ t, exec (.cancelUpdate 0) s = .next t ∧ t.cur.update = none ∧ t.pow.mode = .quiesce ∧
    t.pow.quiesce.map (·.complete) = some true ∧ t.cur.replies = s.cur.replies ++ [{ bus := 0, reply := replyOk (zeros 9) }] := by
  have hexec : exec (.cancelUpdate 0) s = .next (sendReply 0 (replyOk (zeros 9)) (abandonUpdate (logUpdate 0x1D 0 0 s))) := by
    refine congrArg Host.Outcome.next ((serveFull_smbus hreach hfull).trans ?_)
    rw [if_neg (by rw [Option.isNone_iff_eq_none]; exact Option.isSome_iff_ne_none.mp hupdate)]
  obtain ⟨hlogged, -, hreplies⟩ := logUpdate_keeps 0x1D 0 0 s
  obtain ⟨-, hnone, hsent⟩ := abandonUpdate_keeps (logUpdate 0x1D 0 0 s)
  obtain ⟨-, -, hleft⟩ := abandonUpdate_effect (logUpdate 0x1D 0 0 s)
  obtain ⟨hquiesce, hcomplete⟩ := hleft (by rw [hlogged.pow, hmode])
  rw [sendReply_smbus] at hexec
  generalize abandonUpdate (logUpdate 0x1D 0 0 s) = t at hexec hnone hsent hquiesce hcomplete
  exact ⟨_, hexec, hnone, hquiesce, hcomplete, congrArg (· ++ [_]) (hsent.trans hreplies)⟩

end

theorem updateAgentTimeout_of_none (hupdate : s.cur.update = none) : exec .updateAgentTimeout s = .next s := by
  show execUpdateAgentTimeout s = _
  unfold execUpdateAgentTimeout
  rw [hupdate]

theorem updateAgentTimeout_of_flow (hupdate : s.cur.update = some u) : ∃ t, exec .updateAgentTimeout s = .next t ∧ t.now = max s.now (u.lastRequest + 60000000000) ∧ t.cur.update = none ∧ t.doc = s.doc := by
  have hexec : exec .updateAgentTimeout s = .next (abandonUpdate (logUpdate 0x1D 0 1 (advanceTo (u.lastRequest + 60000000000) s))) := by
    show execUpdateAgentTimeout s = _
    unfold execUpdateAgentTimeout
    rw [hupdate]
  obtain ⟨hlogged, -, -⟩ := logUpdate_keeps 0x1D 0 1 (advanceTo (u.lastRequest + 60000000000) s)
  obtain ⟨hframe, hnone, -⟩ := abandonUpdate_keeps (logUpdate 0x1D 0 1 (advanceTo (u.lastRequest + 60000000000) s))
  exact ⟨_, hexec, hframe.now.trans hlogged.now, hnone, hframe.doc.trans hlogged.doc⟩

theorem antiRollbackBurn_of_due (hdue : 0 < s.cur.arcToBurn) : exec .antiRollbackBurn s = .next { s with
    now := s.now + 2500000, fuses := { s.fuses with arc := min 256 (s.fuses.arc + 1) }, cur := { s.cur with arcToBurn := s.cur.arcToBurn - 1 } } := by
  refine (if_neg hdue.ne').trans ?_
  rw [advanceTo, Nat.max_eq_right (Nat.le_add_right ..)]

end

/-- Settles O58: each message of the flow over the SMBus by its own rule; what it stages is said of the slot not loaded, and abandoning the flow once for both rows. -/
theorem firmwareUpdate : Obligations.FirmwareUpdate := by
  unfold Obligations.FirmwareUpdate
  refine ⟨fun s hreach hfull => ⟨requestUpdate_of_open hreach hfull, requestUpdate_of_service hreach hfull, requestUpdate_of_diagnostic hreach hfull,
      fun c off data image hupdate => updateSteps_of_none hreach hfull hupdate c off data image, fun c u hopen hc => passComponentTable_of_open hreach hfull hopen hc,
      fun c u hopen hpassed => updateComponent_effect hreach hfull hopen hpassed, fun off data hpulling hfits => requestFirmwareData_of_ulond hreach hfull hpulling hfits,
      fun off data hpulling hfits => requestFirmwareData_of_firmware hreach hfull hpulling hfits, fun c off data hpulling hpast => requestFirmwareData_of_past hreach hfull hpulling hpast,
      fun image hpulling => transferComplete_of_firmware hreach hfull hpulling,
      fun u hopen hsome hall => ⟨_, activateFirmware_of_verified hreach hfull hopen hsome hall, ?_, (stepNoted_effect 0x1A 0 0 s).2.2⟩,
      fun u hopen hnot => ⟨_, activateFirmware_of_unverified hreach hfull hopen hnot, rfl⟩, cancelUpdate_of_open hreach hfull⟩,
    fun s hupdate => updateAgentTimeout_of_none hupdate, fun u s hupdate => updateAgentTimeout_of_flow hupdate, fun s hdue => antiRollbackBurn_of_due hdue, fun s hdue => if_pos hdue⟩
  have hframe : Frame [.cur, .fab] s (latchEvent 38 (logUpdate 0x1A 0 0 s)) := (stepNoted_effect 0x1A 0 0 s).1
  simpa using hframe.record

end Sys2Proof.Machine

/-!
PROOFS, part 59: changes of service mode, QUIESCE and thermal steps (15 R369, R370, R377, R441).
-/

namespace Sys2Proof.Machine

set_option Elab.async false

/-! A change of clock. -/

/-- A change of clock is the change asked for, between counts. -/
theorem changeClock_effect (f : State → State) (s : State) : ∃ c, ClockKept s c ∧ ClockKept (f c) (changeClock f s) := by
  refine ⟨settleCounters s, clockKept_settleCounters s, ?_⟩
  show ClockKept (f (settleCounters s)) (List.foldl _ (f (settleCounters s)) _)
  refine .foldl (fun t w => ?_) _ _
  dsimp only
  split
  · exact .refl t
  · exact clockKept_updWing ..

/-- A change of clock that is one of the power state. -/
theorem changeClock_power (g : Power → Power) (s : State) : ∃ x y, Frame [.pow, .cnt, .freeCount] s (changeClock (fun s => { s with pow := g s.pow }) s) ∧
    (changeClock (fun s => { s with pow := g s.pow }) s).pow = { g { s.pow with wings := x } with wings := y } := by
  obtain ⟨c, hbefore, hafter⟩ := changeClock_effect (fun s => { s with pow := g s.pow }) s
  refine ⟨c.pow.wings, (changeClock (fun s => { s with pow := g s.pow }) s).pow.wings, (hbefore.frame.andThen (frame_of_pow (s := c) (t := { c with pow := g c.pow }) rfl)).trans hafter.frame, hafter.power.trans ?_⟩
  rw [← hbefore.power]

/-! Changes of service mode. -/

section
variable {s : State}

theorem wingClockSwitch_of_waiting {w : Fin 16} (hwaiting : s.pow.switchTo = none ∨ (s.pow.avs.isSome = true ∧ s.pow.returning = none)) : exec (.wingClockSwitch w) s = .next s := by
  refine if_pos ?_
  rcases hwaiting with h | ⟨h, g⟩
  · rw [h]
    rfl
  · rw [h, g]
    exact Bool.or_true _

/-- A wing without a command in its cells has switched. -/
def wingSwitched (w : Fin 16) (s : State) : State := changeClock (fun s => { s with pow := { s.pow with switching := s.pow.switching.filter (· != w.val) } }) s

theorem wingClockSwitch_of_free {w : Fin 16} {m : Nat} (hto : s.pow.switchTo = some m) (hsettled : s.pow.avs = none) (hin : s.pow.switching.contains w.val = true) (hfree : wingTickets s w = []) :
    exec (.wingClockSwitch w) s = .next (offerWork (if (wingSwitched w s).pow.switching = [] then finishSwitch (wingSwitched w s) else wingSwitched w s)) := by
  have hswitches : (s.pow.switching.contains w.val && !(wingTickets s w).any (fun t => some t != s.pow.switchTicket)) = true := by
    rw [hin, hfree]
    rfl
  show execWingClockSwitch w s = _
  unfold execWingClockSwitch wingSwitched
  rw [if_neg (by rw [hto, hsettled]; simp)]
  simp only [hswitches, if_true]

theorem wingSwitched_effect (w : Fin 16) (s : State) : Frame [.pow, .cnt, .freeCount] s (wingSwitched w s) ∧ (wingSwitched w s).pow.switching = s.pow.switching.filter (· != w.val) ∧
    (wingSwitched w s).pow.service = s.pow.service ∧ (wingSwitched w s).pow.switchTo = s.pow.switchTo ∧ (wingSwitched w s).pow.switchTicket = s.pow.switchTicket := by
  obtain ⟨x, y, hframe, hpow⟩ := changeClock_power (fun p => { p with switching := p.switching.filter (· != w.val) }) s
  unfold wingSwitched
  rw [hpow]
  exact ⟨hframe, rfl, rfl, rfl, rfl⟩

/-- Waking the sleepers changes wings, stopped PLLs and the woken alone. -/
theorem wakeAll_power (s : State) : (wakeAll s).pow.service = s.pow.service ∧ (wakeAll s).pow.switchTo = s.pow.switchTo ∧ (wakeAll s).pow.pending = s.pow.pending := by
  unfold wakeAll
  generalize sleepers s = l
  induction l generalizing s with
  | nil => exact ⟨rfl, rfl, rfl⟩
  | cons w l ih => exact ih (wakeWing w s)

/-- The service mode asked for is in force. -/
def serviceReached (m : Nat) (s : State) : State :=
  withMode (fun p => { p with service := m, clockMode := m, switchTo := none, switchTicket := none, switching := [], pending := false }) (settleCells s)

/-- The setpoint follows, where a lower one will do. -/
def setpointLowered (s : State) : State := if neededMv s < s.pow.vcoreMv then askSetpoint (neededMv s) s else s

theorem askSetpoint_power (mv : Nat) (s : State) : ∃ a, askSetpoint mv s = { s with pow := { s.pow with avs := a } } := by
  unfold askSetpoint
  split <;> exact ⟨_, rfl⟩

theorem setpointLowered_power (s : State) : ∃ a, setpointLowered s = { s with pow := { s.pow with avs := a } } := by
  unfold setpointLowered
  split
  · exact askSetpoint_power ..
  · exact ⟨s.pow.avs, rfl⟩

/-- The wings of a service mode other than ECONOMY are woken. -/
def serviceWoken (m : Nat) (s : State) : State := if m = 2 then s else wakeAll s

theorem serviceWoken_power {m : Nat} {r : State} (hreached : r.pow.service = m ∧ r.pow.switchTo = none ∧ r.pow.pending = false) : (serviceWoken m (setpointLowered r)).pow.service = m ∧
    (serviceWoken m (setpointLowered r)).pow.switchTo = none ∧ (serviceWoken m (setpointLowered r)).pow.pending = false := by
  obtain ⟨a, ha⟩ := setpointLowered_power r
  rw [ha]
  unfold serviceWoken
  split
  · exact hreached
  · obtain ⟨hservice, hswitch, hpending⟩ := wakeAll_power { r with pow := { r.pow with avs := a } }
    rw [hservice, hswitch, hpending]
    exact hreached

theorem finishSwitch_of_house {m : Nat} (hto : s.pow.switchTo = some m) (hnone : s.pow.switchTicket = none) :
    finishSwitch s = latchEvent 26 (serviceWoken m (setpointLowered (serviceReached m s))) := by
  unfold finishSwitch serviceWoken setpointLowered serviceReached
  rw [hto]
  dsimp only
  rw [hnone]

theorem finishSwitch_effect {m : Nat} (hto : s.pow.switchTo = some m) (hnone : s.pow.switchTicket = none) : (finishSwitch s).pow.service = m ∧ (finishSwitch s).pow.switchTo = none ∧
    (finishSwitch s).pow.pending = false ∧ bit (finishSwitch s).fab.mevCause 26 = true := by
  have hreached : (serviceReached m s).pow.service = m ∧ (serviceReached m s).pow.switchTo = none ∧ (serviceReached m s).pow.pending = false := by
    unfold serviceReached
    rw [withMode_pow]
    exact ⟨rfl, rfl, rfl⟩
  have hwoken := serviceWoken_power (m := m) hreached
  rw [finishSwitch_of_house hto hnone]
  generalize serviceWoken m (setpointLowered (serviceReached m s)) = t at hwoken ⊢
  rw [(frame_latchEvent 26 t).pow]
  exact ⟨hwoken.1, hwoken.2.1, hwoken.2.2, latchEvent_cause ..⟩

/-! QUIESCE. -/

/-- The flow that asked for the drain is open. -/
def updateEntered (s : State) : State := { s with pow := { s.pow with quiesce := none }, cur := { s.cur with update := s.cur.update.map (fun u => { u with phase := .open_ }) } }

theorem quiesceRows_of_none (hnone : s.pow.quiesce = none) : exec .quiesceDrainTimeout s = .next s ∧ exec .quiesceComplete s = .next s := by
  refine ⟨?_, ?_⟩
  · show execQuiesceDrainTimeout s = _
    rw [execQuiesceDrainTimeout, hnone]
  · show execQuiesceComplete s = _
    rw [execQuiesceComplete, hnone]

variable {q : Quiesce} (hq : s.pow.quiesce = some q)
include hq

theorem quiesceDrainTimeout_of_draining (hrunning : q.expired = false) (hopen : q.complete = false) :
    exec .quiesceDrainTimeout s = .next (offerWork (answerHeld (refusedWith Status.notReady) (((s.doc.descs.filter (fun p => p.2.st == .queued && p.2.takeAt.isNone)).map (·.1)).foldl
      (fun s t => docentAnswer t Status.notReady s) { s with pow := { s.pow with quiesce := some { q with expired := true } }, now := max s.now q.drainAt }))) := by
  show execQuiesceDrainTimeout s = _
  rw [execQuiesceDrainTimeout, hq]
  exact if_neg (by rw [hrunning, hopen]; decide)

theorem quiesceDrainTimeout_of_over (hover : q.expired = true ∨ q.complete = true) : exec .quiesceDrainTimeout s = .next s := by
  show execQuiesceDrainTimeout s = _
  rw [execQuiesceDrainTimeout, hq]
  exact if_pos (by rw [Bool.or_eq_true]; exact hover)

theorem quiesceComplete_of_early (hearly : q.complete = true ∨ quiesceDrained s q = false) : exec .quiesceComplete s = .next s := by
  show execQuiesceComplete s = _
  rw [execQuiesceComplete, hq]
  exact if_pos (by simpa using hearly)

variable (hopen : q.complete = false) (hdrained : quiesceDrained s q = true)
include hopen hdrained

theorem quiesceComplete_of_modeSet {t : Nat} {d : Desc} (hhost : q.forUpdate = false) (hticket : q.ticket = some t) (hd : desc s t = some d) :
    ∃ u, exec .quiesceComplete s = .next u ∧ u = { s with pow := { s.pow with quiesce := some { q with complete := true } }, doc := u.doc, fab := u.fab } ∧
      (desc u t).map (·.resp) = some (some (okResp [])) ∧ bit u.fab.mevCause 26 = true := by
  have hexec : exec .quiesceComplete s = .next (modeDone t { s with pow := { s.pow with quiesce := some { q with complete := true } } }) := by
    show execQuiesceComplete s = _
    rw [execQuiesceComplete, hq]
    dsimp only
    rw [if_neg (by rw [hopen, hdrained]; decide), hticket, if_neg (by rw [hhost]; decide)]
  have hframe (x : State) : Frame [.doc, .fab] x (modeDone t x) := (frame_latchEvent 26 x).mono.trans (frame_answerFn ..).mono
  obtain ⟨-, hresp⟩ := modeDone_effect (s := { s with pow := { s.pow with quiesce := some { q with complete := true } } }) hd
  refine ⟨_, hexec, by simpa using (hframe _).record, ?_, ?_⟩
  · obtain ⟨d', hd', hresp'⟩ := Option.bind_eq_some_iff.mp hresp
    rw [hd', Option.map_some, hresp']
  · exact latchEvent_cause ..

theorem quiesceComplete_of_update (hupdate : q.forUpdate = true) (hticket : q.ticket = none) : ∃ u, exec .quiesceComplete s = .next u ∧ u.pow.mode = .update ∧ u.pow.quiesce = none ∧
    u.cur.update = s.cur.update.map (fun x => { x with phase := .open_ }) ∧ u.doc = s.doc := by
  have hevent := frame_latchEvent 26 { s with pow := { s.pow with quiesce := some { q with complete := true } } }
  have hexec : exec .quiesceComplete s = .next (setMode .update (updateEntered (latchEvent 26 { s with pow := { s.pow with quiesce := some { q with complete := true } } }))) := by
    show execQuiesceComplete s = _
    rw [execQuiesceComplete, hq]
    dsimp only
    rw [if_neg (by rw [hopen, hdrained]; decide), hticket, if_pos hupdate]
    rfl
  generalize latchEvent 26 { s with pow := { s.pow with quiesce := some { q with complete := true } } } = x at hevent hexec
  have hcur := curLog_setMode .update (updateEntered x)
  refine ⟨_, hexec, by rw [setMode_pow], by rw [setMode_pow]; rfl, hcur.update.trans ?_, (frame_setMode ..).doc.trans hevent.doc⟩
  show Option.map _ x.cur.update = _
  rw [hevent.cur]

end

/-! Thermal steps. -/

section
variable {s : State}

/-- The estimate taken over. -/
def estimated (hottest : Int) (power : Nat) (s : State) : State :=
  { s with pow := { s.pow with
    hottest := hottest, tcEst := tcMilli hottest power / 1000, overRange := decide (tcMilli hottest power > 210000)
    coolSince := stillBelow s 164000 (tcMilli hottest power) s.pow.coolSince, mildSince := stillBelow s 194000 (tcMilli hottest power) s.pow.mildSince } }

/-- The estimate taken over without a step: a return waits on while its time runs. -/
def estimateNoted (hottest : Int) (power : Nat) (s : State) : State :=
  { estimated hottest power s with pow := { (estimated hottest power s).pow with
    returning := if (returnSince (estimated hottest power s).pow).isNone then none else (estimated hottest power s).pow.returning } }

theorem estimateNoted_effect (hottest : Int) (power : Nat) (s : State) : estimateNoted hottest power s = { s with pow := (estimateNoted hottest power s).pow } ∧
    (estimateNoted hottest power s).pow.step = s.pow.step ∧ (estimateNoted hottest power s).pow.tcEst = tcMilli hottest power / 1000 ∧
    (estimateNoted hottest power s).pow.coolSince = (if tcMilli hottest power < 164000 then some (s.pow.coolSince.getD s.now) else none) ∧
    (estimateNoted hottest power s).pow.mildSince = (if tcMilli hottest power < 194000 then some (s.pow.mildSince.getD s.now) else none) := by
  unfold estimateNoted estimated stillBelow
  exact ⟨rfl, rfl, rfl, rfl, rfl⟩

/-- The clocks of a step down. -/
def steppedDown (n : Nat) (s : State) : State := changeClock (fun s => { s with pow := { s.pow with step := n, steps := sat 0xFFFF (s.pow.steps + 1), returning := none } }) s

theorem stepDown_eq (n : Nat) (s : State) : stepDown n s = latchEvent 25 (askSetpoint (neededMv (steppedDown n s)) (steppedDown n s)) := rfl

/-- A step down keeps the estimate and counts itself. -/
theorem stepDown_effect (n : Nat) (s : State) : (stepDown n s).pow.step = n ∧ (stepDown n s).pow.steps = sat 0xFFFF (s.pow.steps + 1) ∧ (stepDown n s).pow.hottest = s.pow.hottest ∧
    (stepDown n s).pow.tcEst = s.pow.tcEst ∧ (stepDown n s).pow.overRange = s.pow.overRange ∧ bit (stepDown n s).fab.mevCause 25 = true ∧ (stepDown n s).doc = s.doc := by
  obtain ⟨x, y, hframe, hpow⟩ := changeClock_power (fun p => { p with step := n, steps := sat 0xFFFF (p.steps + 1), returning := none }) s
  change Frame _ _ (steppedDown n s) at hframe
  change (steppedDown n s).pow = _ at hpow
  rw [stepDown_eq]
  generalize steppedDown n s = c at hframe hpow ⊢
  obtain ⟨a, ha⟩ := askSetpoint_power (neededMv c) c
  rw [(frame_latchEvent ..).pow, (frame_latchEvent ..).doc, ha, hpow]
  exact ⟨rfl, rfl, rfl, rfl, rfl, latchEvent_cause .., hframe.doc⟩

theorem thermalEstimate_of_unpowered {hottest : Int} {power : Nat} (hmain : s.pow.main = false) : exec (.thermalEstimate hottest power) s = .next s := if_pos (by rw [hmain]; rfl)

theorem thermalEstimate_of_above {hottest : Int} {power : Nat} (hmain : s.pow.main = true) (habove : s.pow.step < stepFor (tcMilli hottest power)) :
    exec (.thermalEstimate hottest power) s = .next (stepDown (stepFor (tcMilli hottest power)) (estimated hottest power s)) := by
  refine (if_neg (by rw [hmain]; decide)).trans ?_
  exact if_pos habove

theorem thermalEstimate_of_below {hottest : Int} {power : Nat} (hmain : s.pow.main = true) (hbelow : stepFor (tcMilli hottest power) ≤ s.pow.step) :
    exec (.thermalEstimate hottest power) s = .next (estimateNoted hottest power s) := by
  refine (if_neg (by rw [hmain]; decide)).trans ?_
  exact if_neg (not_lt.mpr hbelow)

/-- The clocks of a step that ends. -/
def stepEnded (n : Nat) (s : State) : State := changeClock (fun s => { s with pow := { s.pow with step := n, returning := none } }) s

theorem endStep_eq (n : Nat) (s : State) : endStep n s = latchEvent 25 (stepEnded n s) := rfl

theorem endStep_effect (n : Nat) (s : State) : (endStep n s).pow.step = n ∧ (endStep n s).pow.returning = none ∧ (endStep n s).pow.vcoreMv = s.pow.vcoreMv ∧ (endStep n s).pow.avs = s.pow.avs ∧
    (endStep n s).now = s.now ∧ bit (endStep n s).fab.mevCause 25 = true := by
  obtain ⟨x, y, hframe, hpow⟩ := changeClock_power (fun p => { p with step := n, returning := none }) s
  change Frame _ _ (stepEnded n s) at hframe
  change (stepEnded n s).pow = _ at hpow
  rw [endStep_eq]
  generalize stepEnded n s = c at hframe hpow ⊢
  rw [(frame_latchEvent ..).pow, (frame_latchEvent ..).now, hpow]
  exact ⟨rfl, rfl, rfl, rfl, hframe.now, latchEvent_cause ..⟩

theorem thermalReturn_of_none (hnone : returnSince s.pow = none) : exec .thermalReturn s = .next s := by
  show execThermalReturn s = _
  rw [execThermalReturn, hnone]

section
variable {at_ : Nat} (hsince : returnSince s.pow = some at_)
include hsince

/-- The setpoint of the step above suffices. -/
theorem thermalReturn_of_settled (henough : neededMv { s with now := max s.now (at_ + 1000000000), pow := { s.pow with step := s.pow.step - 1 } } ≤ s.pow.vcoreMv) :
    exec .thermalReturn s = .next (endStep (s.pow.step - 1) (advanceTo (at_ + 1000000000) s)) := by
  show execThermalReturn s = _
  rw [execThermalReturn, hsince]
  exact if_neg (not_lt.mpr henough)

theorem thermalReturn_of_low (hlow : s.pow.vcoreMv < neededMv { s with now := max s.now (at_ + 1000000000), pow := { s.pow with step := s.pow.step - 1 } }) :
    exec .thermalReturn s = .next { s with now := max s.now (at_ + 1000000000), pow := { s.pow with returning := some (s.pow.step - 1), avs := some { millivolts := neededMv { s with now := max s.now (at_ + 1000000000), pow := { s.pow with step := s.pow.step - 1 } }, tries := 1 } } } := by
  show execThermalReturn s = _
  rw [execThermalReturn, hsince]
  refine (if_pos hlow).trans (congrArg Host.Outcome.next ?_)
  exact if_neg hlow.ne'

end

theorem avsbusAck_of_returning {r : AvsRequest} {n : Nat} (havs : s.pow.avs = some r) (hreturning : s.pow.returning = some n) :
    exec .avsbusAck s = .next (endStep n { s with pow := { s.pow with vcoreMv := r.millivolts, avs := none } }) := by
  show execAvsbusAck s = _
  rw [execAvsbusAck, havs]
  dsimp only
  rw [hreturning]

theorem avsbusRows_of_none (hnone : s.pow.avs = none) : exec .avsbusAck s = .next s ∧ exec .avsbusTimeout s = .next s := by
  refine ⟨?_, ?_⟩
  · show execAvsbusAck s = _
    rw [execAvsbusAck, hnone]
  · show execAvsbusTimeout s = _
    rw [execAvsbusTimeout, hnone]

end

/-- Settles O54: each row by the change of power state it makes; what a change of clock counts and rescales leaves the rest of the power state as it is. -/
theorem modesAndSteps : Obligations.ModesAndSteps := by
  unfold Obligations.ModesAndSteps
  refine ⟨fun w s hwaiting => wingClockSwitch_of_waiting hwaiting, fun w v m s hto hsettled htwo hne hfree => ?_, fun w m s hto hsettled hone hfree hhouse => ?_,
    fun s hnone => quiesceRows_of_none hnone, fun q s hq hrunning hopen => quiesceDrainTimeout_of_draining hq hrunning hopen, fun q s hq hover => quiesceDrainTimeout_of_over hq hover,
    fun q s hq hearly => quiesceComplete_of_early hq hearly, fun q t d s hq hopen hdrained hhost hticket hd => quiesceComplete_of_modeSet hq hopen hdrained hhost hticket hd,
    fun q s hq hopen hdrained hupdate hticket => quiesceComplete_of_update hq hopen hdrained hupdate hticket, fun hottest power s hmain habove => ?_,
    fun hottest power s hmain hbelow => ⟨_, thermalEstimate_of_below hmain hbelow, estimateNoted_effect hottest power s⟩, fun hottest power s hmain => thermalEstimate_of_unpowered hmain,
    fun s hnone => thermalReturn_of_none hnone, fun at_ s hsince henough => ?_, fun at_ s hsince hlow => ⟨_, thermalReturn_of_low hsince hlow, rfl, rfl, rfl⟩,
    fun r n s havs hreturning => ?_, fun s hnone => avsbusRows_of_none hnone⟩
  · obtain ⟨hframe, hswitching, hservice, hswitchTo, -⟩ := wingSwitched_effect w s
    have hleft : (wingSwitched w s).pow.switching = [v.val] := by
      rw [hswitching, htwo]
      have hother : v.val ≠ w.val := fun h => hne (Fin.ext h)
      simp [hother]
    refine ⟨_, (wingClockSwitch_of_free hto hsettled (by rw [htwo]; simp) hfree).trans (congrArg _ (congrArg offerWork (if_neg (by rw [hleft]; simp)))), hleft, hservice, hswitchTo.trans hto, hframe.doc, hframe.fab⟩
  · obtain ⟨-, hswitching, -, hswitchTo, hticket⟩ := wingSwitched_effect w s
    have hlast : (wingSwitched w s).pow.switching = [] := by
      rw [hswitching, hone]
      simp
    exact ⟨_, (wingClockSwitch_of_free hto hsettled (by rw [hone]; simp) hfree).trans (congrArg _ (congrArg offerWork (if_pos hlast))), finishSwitch_effect (hswitchTo.trans hto) (hticket.trans hhouse)⟩
  · obtain ⟨hstep, hsteps, hhottest, htc, hrange, hevent, hdoc⟩ := stepDown_effect (stepFor (tcMilli hottest power)) (estimated hottest power s)
    exact ⟨_, thermalEstimate_of_above hmain habove, hstep, hsteps, hhottest, htc, hrange, hevent, hdoc⟩
  · obtain ⟨hstep, hreturning, -, -, hnow, hevent⟩ := endStep_effect (s.pow.step - 1) (advanceTo (at_ + 1000000000) s)
    exact ⟨_, thermalReturn_of_settled hsince henough, hnow, hstep, hreturning, hevent⟩
  · obtain ⟨hstep, hnone, hvcore, hsettled, -, hevent⟩ := endStep_effect n { s with pow := { s.pow with vcoreMv := r.millivolts, avs := none } }
    exact ⟨_, avsbusAck_of_returning havs hreturning, hstep, hnone, hvcore, hsettled, hevent⟩

end Sys2Proof.Machine

/-!
PROOFS, part 60: placement and waking of wings (15 R374, R375, R376, 10 R255).
-/

namespace Sys2Proof.Machine

set_option Elab.async false

/-! A wake. -/

/-- A wing whose wake has begun. -/
def wakingWing (x : Wing) : Wing := if x.power = .run then x else { x with waking := some (x.waking.getD x.power) }

theorem wing_wakeWing (w k : Nat) (s : State) : wing (wakeWing w s) k = if k = w then wakingWing (wing s w) else wing s k := by
  show wing (updWing w wakingWing s) k = _
  rw [wing_updWing]

theorem wakingWing_power (x : Wing) : (wakingWing x).power = x.power := by
  unfold wakingWing
  split <;> rfl

theorem wakingWing_of_waking {x : Wing} (h : x.waking.isSome = true) : (wakingWing x).waking.isSome = true := by
  unfold wakingWing
  split
  · exact h
  · rfl

theorem wakingWing_of_asleep {x : Wing} (h : x.power ≠ .run) : (wakingWing x).waking = some (x.waking.getD x.power) := by rw [wakingWing, if_neg h]

/-- Wakes change the power state alone: not the tolerance, and of no wing its power; a wing that wakes stays waking. -/
structure WokenOnly (s t : State) : Prop where
  frame : Frame [.pow] s t
  tolerance : t.pow.tolerance = s.pow.tolerance
  power : ∀ k, (wing t k).power = (wing s k).power
  waking : ∀ k, (wing s k).waking.isSome = true → (wing t k).waking.isSome = true

theorem WokenOnly.trans {s t u : State} (a : WokenOnly s t) (b : WokenOnly t u) : WokenOnly s u :=
  ⟨a.frame.trans b.frame, b.tolerance.trans a.tolerance, fun k => (b.power k).trans (a.power k), fun k h => b.waking k (a.waking k h)⟩

theorem wokenOnly_wakeWing (w : Nat) (s : State) : WokenOnly s (wakeWing w s) := by
  refine ⟨frame_of_pow rfl, rfl, fun k => ?_, fun k h => ?_⟩ <;> rw [wing_wakeWing]
  · split
    next hk => rw [wakingWing_power, hk]
    · rfl
  · split
    next hk => exact wakingWing_of_waking (hk ▸ h)
    · exact h

theorem wokenOnly_foldl (l : List Nat) (s : State) : WokenOnly s (l.foldl (fun s w => wakeWing w s) s) := by
  induction l generalizing s with
  | nil => exact ⟨.refl _ s, rfl, fun _ => rfl, fun _ h => h⟩
  | cons a l ih => exact (wokenOnly_wakeWing a s).trans (ih _)

/-- Every sleeping wing of the list wakes. -/
theorem waking_foldl {k : Nat} {l : List Nat} {s : State} (hk : k ∈ l) (hasleep : (wing s k).power ≠ .run) : (wing (l.foldl (fun s w => wakeWing w s) s) k).waking.isSome = true := by
  induction l generalizing s with
  | nil => cases hk
  | cons a l ih =>
    rcases List.mem_cons.mp hk with rfl | hrest
    · refine (wokenOnly_foldl l (wakeWing k s)).waking k ?_
      rw [wing_wakeWing, if_pos rfl, wakingWing_of_asleep hasleep]
      rfl
    · exact ih hrest (by rwa [(wokenOnly_wakeWing a s).power])

theorem mem_sleepers {w : Nat} {s : State} : w ∈ sleepers s ↔ w < 16 ∧ available s w = true ∧ (wing s w).power ≠ .run ∧ (wing s w).waking = none := by
  unfold sleepers
  simp [and_assoc]

theorem wingsAvailable_of_wings {s t : State} (h : t.pow.wings = s.pow.wings) : wingsAvailable t = wingsAvailable s := by
  unfold wingsAvailable wing
  rw [h]

/-! Placement. -/

section
variable {s : State}

theorem wingPlacement_of_other (hmode : s.pow.mode ≠ .service) : exec .wingPlacement s = .next s := if_pos (by simpa using hmode)

/-- The tolerance in force taken over. -/
def toleranceTaken (s : State) : State := { s with pow := { s.pow with tolerance := sat 0xFFFF (effectiveTolerance s) } }

/-- All wings in RUN or waking. -/
def allWoken (s : State) : State :=
  { wakeAll s with pow := { (wakeAll s).pow with wRun := wingsAvailable (wakeAll s), woken := [], awaited := [] } }

theorem wingPlacement_of_awake (hmode : s.pow.mode = .service) (hservice : s.pow.service ≠ 2) : exec .wingPlacement s = .next (allWoken (toleranceTaken s)) := by
  refine (if_neg (by simp [hmode])).trans ?_
  exact if_neg hservice

theorem wingPlacement_of_economy (hmode : s.pow.mode = .service) (hservice : s.pow.service = 2) : exec .wingPlacement s = .next (placeWings (effectiveTolerance s) (toleranceTaken s)) := by
  refine (if_neg (by simp [hmode])).trans ?_
  exact if_pos hservice

theorem allWoken_effect (s : State) : allWoken s = { s with pow := (allWoken s).pow } ∧ (allWoken s).pow.tolerance = s.pow.tolerance ∧ (allWoken s).pow.wRun = wingsAvailable (allWoken s) ∧
    ∀ w < 16, available s w = true → (wing (allWoken s) w).power = .run ∨ (wing (allWoken s) w).waking.isSome = true := by
  have hwoken := wokenOnly_foldl (sleepers s) s
  have hwake := fun k hk => waking_foldl (k := k) (l := sleepers s) (s := s) hk
  change WokenOnly s (wakeAll s) at hwoken
  change ∀ k, k ∈ sleepers s → (wing s k).power ≠ .run → (wing (wakeAll s) k).waking.isSome = true at hwake
  unfold allWoken
  generalize wakeAll s = t at hwoken hwake ⊢
  have hall (w : Nat) (hw : w < 16) (havailable : available s w = true) : (wing t w).power = .run ∨ (wing t w).waking.isSome = true := by
    by_cases hrun : (wing s w).power = .run
    · exact .inl ((hwoken.power w).trans hrun)
    · cases hwaking : (wing s w).waking with
      | some p => exact .inr (hwoken.waking w (by rw [hwaking]; rfl))
      | none => exact .inr (hwake w (mem_sleepers.mpr ⟨hw, havailable, hrun, hwaking⟩) hrun)
  have hframe : Frame [.pow] s { t with pow := { t.pow with wRun := wingsAvailable t, woken := [], awaited := [] } } := hwoken.frame.trans (frame_of_pow rfl)
  exact ⟨by simpa using hframe.record, hwoken.tolerance, (wingsAvailable_of_wings rfl).symm, hall⟩

/-- A wing placed: the wings, their counts and what goes with a wake. -/
structure Placed (s t : State) : Prop where
  frame : Frame [.pow, .rng, .cnt, .freeCount] s t
  tolerance : t.pow.tolerance = s.pow.tolerance

theorem Placed.trans {s t u : State} (a : Placed s t) (b : Placed t u) : Placed s u := ⟨a.frame.trans b.frame, b.tolerance.trans a.tolerance⟩

theorem placed_placeWing (p : WingPower) (w : Nat) (s : State) : Placed s (placeWing p w s) := by
  have hrefl : Placed s s := ⟨.refl _ s, rfl⟩
  have hsettled := frame_settleWingCells w s
  unfold placeWing
  dsimp only
  split
  · exact hrefl
  split
  · exact ⟨(wokenOnly_wakeWing w s).frame.mono, rfl⟩
  split
  · exact hrefl
  · refine ⟨.andThen hsettled.mono (frame_updWing ..), ?_⟩
    show (settleWingCells w s).pow.tolerance = _
    rw [hsettled.pow]

theorem placed_foldl (p : WingPower) (l : List Nat) (s : State) : Placed s (l.foldl (fun s w => placeWing p w s) s) := by
  induction l generalizing s with
  | nil => exact ⟨.refl _ s, rfl⟩
  | cons a l ih => exact (placed_placeWing p a s).trans (ih _)

/-- w_run, or the wings woken where these are more. -/
def runCount (s : State) : Nat := max (wRunOf (wingsAvailable s) (min 16 s.pow.minRun) (busyCells s)) (s.pow.woken.filter (fun p => available s p.1)).length

/-- The wakes still counted, and the wings still awaited. -/
def wakesCounted (s : State) : State :=
  { s with pow := { s.pow with
    woken := s.pow.woken.filterMap (fun (p : Nat × Nat) => if p.2 ≤ 1 then none else some (p.1, p.2 - 1))
    awaited := if readyCount s = 0 then [] else s.pow.awaited } }

/-- The wings in their places. -/
def wingsPlaced (t : Nat) (s : State) : State :=
  ((runOrder s).drop (runCount s)).foldl (fun u w => placeWing (deepestOf t s.pow.noDark) w u) (((runOrder s).take (runCount s)).foldl (fun s w => placeWing .run w s) (wakesCounted s))

theorem placeWings_eq (t : Nat) (s : State) : ∃ groups, placeWings t s = { setDuty (wingsPlaced t s) with pow := { (setDuty (wingsPlaced t s)).pow with wRun := runCount s, pllStopped := groups } } := by
  unfold placeWings wingsPlaced wakesCounted runCount
  exact ⟨_, rfl⟩

theorem placeWings_effect (t : Nat) (s : State) : Placed s (placeWings t s) ∧ (placeWings t s).pow.wRun = runCount s := by
  obtain ⟨groups, hplaced⟩ := placeWings_eq t s
  have hcounted : Placed s (wakesCounted s) := ⟨(frame_of_pow rfl).mono, rfl⟩
  have hwings : Placed s (wingsPlaced t s) := (hcounted.trans (placed_foldl ..)).trans (placed_foldl ..)
  rw [hplaced]
  generalize wingsPlaced t s = u at hwings ⊢
  have hduty : Placed u (setDuty u) := ⟨(frame_of_rng rfl).mono, rfl⟩
  exact ⟨(hwings.trans hduty).trans ⟨(frame_of_pow rfl).mono, rfl⟩, rfl⟩

theorem busyCells_toleranceTaken (s : State) : busyCells (toleranceTaken s) = busyCells s := by
  unfold busyCells
  exact congrArg (fun f => ((List.range 128).map f).sum) (funext fun _ => rfl)

theorem runCount_toleranceTaken (s : State) : runCount (toleranceTaken s) = runCount s := by
  unfold runCount
  rw [busyCells_toleranceTaken, wingsAvailable_of_wings (s := s) (t := toleranceTaken s) rfl]
  rfl

/-! Wakes asked for, and their end. -/

theorem wingWakeRequest_of_none (hnone : readyCount s = 0 ∨ s.doc.waiting.any (fun c => wingTakes s (c.cell / 8)) = true) : exec .wingWakeRequest s = .next s := by
  refine if_pos ?_
  rcases hnone with h | h
  · rw [h]
    rfl
  · rw [h, Bool.or_true]

/-- The sleeping wings that a wake request wakes. -/
def wakeList (s : State) : List Nat := (sleepers s).take (1 + (readyCount s - 1) / 64 - ((List.range 16).filter (fun w => (wing s w).waking.isSome)).length)

theorem wingWakeRequest_of_ready (hready : 0 < readyCount s) (hnobody : s.doc.waiting.any (fun c => wingTakes s (c.cell / 8)) = false) :
    exec .wingWakeRequest s = .next ((wakeList s).foldl (fun s w => wakeWing w s) { s with pow := { s.pow with awaited := (s.pow.awaited ++ wakeList s).eraseDups } }) :=
  if_neg (by rw [hnobody, Bool.or_false, decide_eq_true_eq]; exact hready.ne')

theorem wakeList_of_first {w : Nat} {rest : List Nat} (hmany : readyCount s ≤ 64) (hready : 0 < readyCount s) (hquiet : ∀ k : Fin 16, (wing s k).waking = none) (hsleepers : sleepers s = w :: rest) :
    wakeList s = [w] := by
  have hnone : (List.range 16).filter (fun w => (wing s w).waking.isSome) = [] := by
    refine List.filter_eq_nil_iff.mpr fun k hk => ?_
    rw [hquiet ⟨k, List.mem_range.mp hk⟩]
    simp
  have hone : 1 + (readyCount s - 1) / 64 - ([] : List Nat).length = 1 := by
    simp only [List.length_nil]
    omega
  rw [wakeList, hsleepers, hnone, hone]
  rfl

/-- One wake begins. -/
theorem wingWakeRequest_of_one {w : Nat} {rest : List Nat} (hready : 0 < readyCount s) (hmany : readyCount s ≤ 64) (hnobody : s.doc.waiting.any (fun c => wingTakes s (c.cell / 8)) = false)
    (hquiet : ∀ k : Fin 16, (wing s k).waking = none) (hsleepers : sleepers s = w :: rest) : ∃ t, exec .wingWakeRequest s = .next t ∧ t = { s with pow := t.pow } ∧
      (wing t w).waking = some (wing s w).power ∧ (∀ k, k ≠ w → wing t k = wing s k) ∧ mget t.pow.woken w = some 1 ∧ w ∈ t.pow.awaited := by
  have hexec := wingWakeRequest_of_ready hready hnobody
  rw [wakeList_of_first hmany hready hquiet hsleepers] at hexec
  obtain ⟨-, -, hasleep, hwaking⟩ := mem_sleepers.mp (hsleepers ▸ List.mem_cons_self : w ∈ sleepers s)
  have hwings (k : Nat) : wing (wakeWing w { s with pow := { s.pow with awaited := (s.pow.awaited ++ [w]).eraseDups } }) k = if k = w then wakingWing (wing s w) else wing s k := wing_wakeWing ..
  refine ⟨wakeWing w { s with pow := { s.pow with awaited := (s.pow.awaited ++ [w]).eraseDups } }, hexec, rfl, ?_, fun k hk => (hwings k).trans (if_neg hk), mget_mset_same .., ?_⟩
  · rw [hwings, if_pos rfl, wakingWing_of_asleep hasleep, hwaking]
    rfl
  · exact List.mem_eraseDups.mpr (by simp)

theorem wingWakeDone_of_awake {w : Fin 16} (hawake : (wing s w).waking = none) : exec (.wingWakeDone w) s = .next s := if_pos (by rw [hawake]; rfl)

end

/-- The units of a wing may change, and with them the Docent's stamps and the counts; the wing's power and the other wings do not. -/
structure UnitsOnly (w : Nat) (s t : State) : Prop where
  frame : Frame [.doc, .pow, .cnt] s t
  power : (wing t w).power = (wing s w).power
  waking : (wing t w).waking = (wing s w).waking
  others : ∀ k, k ≠ w → wing t k = wing s k

namespace UnitsOnly

variable {w : Nat} {s t u : State}

theorem refl (w : Nat) (s : State) : UnitsOnly w s s := ⟨.refl _ s, rfl, rfl, fun _ _ => rfl⟩

theorem trans (a : UnitsOnly w s t) (b : UnitsOnly w t u) : UnitsOnly w s u :=
  ⟨a.frame.trans b.frame, b.power.trans a.power, b.waking.trans a.waking, fun k hk => (b.others k hk).trans (a.others k hk)⟩

/-- What leaves the wings alone. -/
theorem of_frame {ps : List Part} (f : Frame ps s t) (hsub : ps ⊆ [.doc, .cnt] := by simp) : UnitsOnly w s t := by
  have hpow : .pow ∉ ps := fun h => by simpa using hsub h
  exact ⟨f.mono (List.Subset.trans hsub (by simp)), congrArg Wing.power (f.wing w hpow), congrArg Wing.waking (f.wing w hpow), fun k _ => f.wing k hpow⟩

end UnitsOnly

section
variable (w : Nat) (s : State)

theorem unitsOnly_updEngine (h : Bool) (f : Engine → Engine) : UnitsOnly w s (updEngine h w f s) := by
  refine ⟨(frame_updEngine ..).mono, ?_, ?_, fun k hk => wing_updEngine_ne hk ..⟩ <;>
  · unfold updEngine
    rw [wing_updWing, if_pos rfl]
    split <;> rfl

theorem unitsOnly_updPku (f : Pku → Pku) : UnitsOnly w s (updPku w f s) := by
  refine ⟨(frame_updPku ..).mono, ?_, ?_, fun k hk => ?_⟩ <;> rw [wing_updPku]
  · rw [if_pos rfl]
  · rw [if_pos rfl]
  · rw [if_neg hk]

theorem unitsOnly_settleEngine (h : Bool) : UnitsOnly w s (settleEngine h w s) := by
  rw [settleEngine_eq]
  exact (UnitsOnly.of_frame (frame_cyclesCounted h w s)).trans (unitsOnly_updEngine ..)

theorem unitsOnly_grantNext (h : Bool) : UnitsOnly w s (grantNext h w s) := by
  unfold grantNext
  dsimp only
  split
  · exact .refl w s
  split
  · exact .refl w s
  · exact (((unitsOnly_settleEngine w s h).trans (unitsOnly_updEngine ..)).trans (.of_frame (frame_countEvent ..))).trans (.of_frame (frame_stampGrant ..))

theorem unitsOnly_grantPku (wiped : Bool) : UnitsOnly w s (grantPku w wiped s) := by
  unfold grantPku
  split
  · exact .refl w s
  · exact ((unitsOnly_updPku ..).trans (.of_frame (frame_countEvent ..))).trans (.of_frame (frame_stampGrant ..))

theorem unitsOnly_serveClaims : UnitsOnly w s (serveClaims w s) := by
  unfold serveClaims
  dsimp only
  split
  · exact .refl w s
  split
  · exact .refl w s
  split
  · exact unitsOnly_updPku ..
  · exact unitsOnly_grantPku ..

/-- The wing in RUN. -/
def wingAwake : State := setDuty (updWing w (fun x => { x with power := .run, waking := none }) (settleWingCells w s))

theorem wingAwake_effect : Frame [.rng, .pow, .cnt, .freeCount] s (wingAwake w s) ∧ (wing (wingAwake w s) w).power = .run ∧ (wing (wingAwake w s) w).waking = none ∧
    ∀ k, k ≠ w → wing (wingAwake w s) k = wing s k := by
  have hsettled := frame_settleWingCells w s
  have hwings (k : Nat) : wing (wingAwake w s) k = if k = w then { wing s w with power := .run, waking := none } else wing s k := by
    rw [wingAwake, wing_setDuty, wing_updWing, hsettled.wing, hsettled.wing]
  refine ⟨.trans (.trans hsettled.mono (frame_updWing ..).mono) (frame_of_rng rfl).mono, ?_, ?_, fun k hk => (hwings k).trans (if_neg hk)⟩ <;> rw [hwings, if_pos rfl]

end

theorem wingWakeDone_of_waking {w : Fin 16} {s : State} (hwaking : (wing s w).waking.isSome = true) :
    exec (.wingWakeDone w) s = .next (offerWork (serveClaims w (grantNext true w (grantNext false w (wingAwake w s))))) :=
  if_neg (by rw [Option.isNone_iff_eq_none]; exact Option.isSome_iff_ne_none.mp hwaking)

/-- Settles O55: placement and wakes by what they do to one wing at a time, and the claims served at a wake's end by what they leave of the wings. -/
theorem wingStates : Obligations.WingStates := by
  unfold Obligations.WingStates
  refine ⟨fun s hmode => wingPlacement_of_other hmode, fun s hmode hservice => ?_, fun s hmode hservice => ?_, fun s hnone => wingWakeRequest_of_none hnone,
    fun w rest s hready hmany hnobody hquiet hsleepers => wingWakeRequest_of_one hready hmany hnobody hquiet hsleepers, fun w s hawake => wingWakeDone_of_awake hawake, fun w s hwaking => ?_⟩
  · obtain ⟨hframe, htolerance, hrun, hall⟩ := allWoken_effect (toleranceTaken s)
    exact ⟨_, wingPlacement_of_awake hmode hservice, hframe, htolerance, hrun, fun w hw => hall w w.isLt hw⟩
  · obtain ⟨hplaced, hrun⟩ := placeWings_effect (effectiveTolerance s) (toleranceTaken s)
    exact ⟨_, wingPlacement_of_economy hmode hservice, hplaced.tolerance, hplaced.frame.doc, hplaced.frame.fab, hrun.trans (runCount_toleranceTaken s)⟩
  · obtain ⟨hframe, hpower, hawake, hothers⟩ := wingAwake_effect w s
    have hserved : UnitsOnly w (wingAwake w s) (serveClaims w (grantNext true w (grantNext false w (wingAwake w s)))) :=
      ((unitsOnly_grantNext ..).trans (unitsOnly_grantNext ..)).trans (unitsOnly_serveClaims ..)
    exact ⟨_, wingWakeDone_of_waking hwaking, hserved.power.trans hpower, hserved.waking.trans hawake, hserved.frame.fab.trans hframe.fab, hserved.frame.vit.trans hframe.vit,
      fun k hk => (hserved.others k hk).trans (hothers k hk)⟩

end Sys2Proof.Machine
